-- ==== Sys2Proof/Word.lean ====
section
/-! DEFINITION. The words, bytes and sparse tables every other file is written in. -/

namespace Sys2Proof

/-- One byte of a packet, a record or a memory. -/
abbrev Byte := BitVec 8

/-- A 32-bit status word. -/
abbrev Word32 := BitVec 32

/-- A 64-bit tag, record word or time. -/
abbrev Word64 := BitVec 64

/-- Per-unit data held by unit number: keys strictly rising, a unit that is not listed holds its
default.  Plain data, so that two states can be compared. -/
abbrev Table (α : Type) := List (Nat × α)

/-- The value a table holds for a key, or the default of an unlisted key. -/
def Table.getD {α : Type} (dflt : α) : Table α → Nat → α
  | [], _ => dflt
  | (k, v) :: rest, n => if k = n then v else Table.getD dflt rest n

/-- Put a value under a key, keeping the keys strictly rising. -/
def Table.put {α : Type} (t : Table α) (n : Nat) (a : α) : Table α :=
  match t with
  | [] => [(n, a)]
  | (k, v) :: rest =>
    if n < k then (n, a) :: (k, v) :: rest
    else if n = k then (n, a) :: rest
    else (k, v) :: Table.put rest n a

/-- Remove a key. -/
def Table.del {α : Type} (t : Table α) (n : Nat) : Table α :=
  match t with
  | [] => []
  | (k, v) :: rest => if k = n then Table.del rest n else (k, v) :: Table.del rest n

/-- The canonical form: keys strictly rising. -/
def Table.sorted {α : Type} : Table α → Bool
  | [] => true
  | [_] => true
  | (k, _) :: (k', v') :: rest => decide (k < k') && Table.sorted ((k', v') :: rest)

end Sys2Proof
end

