-- ==== Sys2Proof/Syntax.lean ====
section
/-! DEFINITION. The commands of the block: one constructor of `Instr` per row of spec/opcode_table.json.

The table gives its rows no operand fields, so the operands below are what the surroundings of the part present
at that step, read from the numbered rules (notes/assumptions/1.md).  Every command but `localCounterWrap` carries
`dt`, the time since the command before it in taps of 31.25 ps. -/

namespace Sys2Proof

/-- One of the two safety channels (R305). -/
inductive Side where
  | a
  | b
  deriving DecidableEq, Repr

/-- What the parameter page and Read ID of a NAND part answer at mount (R389, R390). -/
structure NandPart where
  /-- ONFI version of the interface, 402 for 4.2; data width; VccQ, mV -/
  onfi : Nat
  width : Nat
  vccqMv : Nat
  /-- page main area, KiB -/
  pageKiB : Nat
  /-- page spare area, bytes -/
  spareBytes : Nat
  /-- pages per block -/
  pagesPerBlock : Nat
  /-- blocks of LUN 0 -/
  blocks : Nat
  /-- t_R maximum, microseconds -/
  tReadUs : Nat
  /-- t_BERS maximum, microseconds -/
  tBersUs : Nat
  /-- t_PROG maximum, microseconds -/
  tProgUs : Nat
  /-- fastest listed SDR mode, 0 to 5 -/
  sdrMode : Nat
  /-- fastest listed NV-DDR2 mode plus 1; 0 when the part has none -/
  nvDdr2 : Nat
  /-- a copy of the parameter page has a valid CRC -/
  paramOk : Bool
  /-- the block endurance field N_c -/
  endurance : Nat
  /-- blocks with the factory bad-block marker -/
  factoryBad : List Nat
  deriving DecidableEq, Repr

/-- How a page program ends: the status the part reports, and the bit errors of each codeword of the read-back (R394). -/
structure PageResult where
  ok : Bool
  errors : List Nat
  deriving DecidableEq, Repr

/-- A command under which pages are programmed, `dt` after the command before it: their results in turn; a page beyond the
list is programmed, and reads back without error. -/
structure PageRun where
  dt : Nat
  pages : List PageResult
  deriving DecidableEq, Repr

/-- The mount, `dt` after the command before it: block, page and bit errors of each codeword of the pages read that hold
errors, and how the pages programmed end, in turn (R403 to R405). -/
structure MountInput where
  dt : Nat
  errors : List (Nat × Nat × List Nat)
  pages : List PageResult
  deriving DecidableEq, Repr

/-- How a block erase ends: its status, and the program of its page 0 directly after it (Table 16.2). -/
structure EraseResult where
  ok : Bool
  page0 : PageResult
  deriving DecidableEq, Repr

/-- What the supply monitor sees: the levels of the six rails at the balls after a fall, uV, in the order of Table 18.1, and
how long the fall lasts, taps (R437). -/
structure RailFall where
  levels : List Nat
  lasts : Nat
  deriving DecidableEq, Repr

/-- Levels of the six rails, uV, `dt` after the command before it (R437). -/
structure RailRise where
  dt : Nat
  levels : List Nat
  deriving DecidableEq, Repr

/-- A scan of the boundary register: the levels that the board puts on the cells' balls, and the pattern shifted in, both in
the order of the cells (R453). -/
structure BoundaryScan where
  levels : List Bool
  shifted : List Bool
  deriving DecidableEq, Repr

/-- What answers on the SPI NOR interface at Start (R269). -/
structure NorPart where
  /-- density declared by SFDP, MiB; none when SFDP is absent -/
  sfdpMiB : Option Nat
  /-- highest read clock that SFDP declares, MHz -/
  maxMhz : Nat
  /-- dual and quad reads that SFDP declares -/
  dual : Bool
  quad : Bool
  /-- the start counter's record reads back as written (R245) -/
  counterOk : Bool
  deriving DecidableEq, Repr

/-- The bus record of a movement-engine halt (R415). -/
structure HaltInfo where
  /-- true: a burst was not acknowledged for 100 us; false: a bus error -/
  stall : Bool
  /-- true: write direction -/
  write : Bool
  /-- address of the first unacknowledged beat -/
  addr : Nat
  /-- the NAND reported failure -/
  nandFailed : Bool
  deriving DecidableEq, Repr

/-- Edges of REF_IN: those seen in the 20 us of the watch, and those counted over 10 us (R108). -/
structure RefEdges where
  watched : Nat
  counted : Nat
  deriving DecidableEq, Repr

/-- The band search: whether the divided VCO was slower than the reference in each of the five steps, and the control value
measured in the band found (R111). -/
structure BandSearch where
  slow : List Bool
  measured : Nat
  deriving DecidableEq, Repr

/-- The loop in the band taken: its control value, and the phase errors of the last reference cycles in ps, newest first
(R111, R112). -/
structure LoopState where
  control : Nat
  errors : List Int
  deriving DecidableEq, Repr

/-- What the loss-of-lock monitor sees, `dt` after the command before it: the phase errors of the last reference cycles in
ps, newest first, how far it finds the VCO off over 10 us, and the last step in reference frequency, both in ppm (R112,
R113). -/
structure LockMonitor where
  dt : Nat
  errors : List Int
  offPpm : Int
  stepPpm : Int
  deriving DecidableEq, Repr

/-- An engine's reads for an item: the engine, and the ECC errors corrected (R151). -/
structure ItemReads where
  engine : Nat
  corrected : Nat
  deriving DecidableEq, Repr

/-- The reads of a context's slice at its close: an uncorrectable ECC error, and the errors corrected (R151). -/
structure SliceReads where
  failed : Bool
  corrected : Nat
  deriving DecidableEq, Repr

/-- The reads of a contour unit: an uncorrectable ECC error in the re-zoom pool (true) or in the engine slice (false), and
the errors corrected on reads of the slice (R151, R187). -/
structure PointReads where
  failed : Option Bool
  corrected : Nat
  deriving DecidableEq, Repr

/-- What the upstream receiver sees: how long the detector of stage 1 or 2 has been clear, ns, and the ordered sets received
last, each as four ten-bit codes, oldest first (R214, Table 9.3). -/
structure StageInput where
  clearNs : Nat
  sets : List (List Nat)
  deriving DecidableEq, Repr

/-- The last ten-bit codes received, at most 256, `dt` after the command before it, and the codes between them and the last
word boundary outside a packet. -/
structure CodeRun where
  dt : Nat
  before : List Nat
  codes : List Nat
  deriving DecidableEq, Repr

/-- The detectors of the upstream lane, `dt` after the command before it: how long the loss-of-signal detector has been
asserted, ns, and the loss-of-lock detector. -/
structure SignalDetect where
  dt : Nat
  lostNs : Nat
  lockLost : Bool
  deriving DecidableEq, Repr

/-- The lane of a checker, and the bits it has received, newest first (R240). -/
structure LaneBits where
  lane : Nat
  bits : List Bool
  deriving DecidableEq, Repr

/-- The commands of the DX1536, one per row of the opcode table. -/
inductive Instr where
  /-- POWER_ON_RESET: `coreLowest`: the lowest level of VDD_CORE while the power-on reset held, uV. -/
  | powerOnReset (dt : Nat) (coreLowest : Nat)
  /-- NRESET_LOW: the length of the low level, in taps. -/
  | nresetLow (dt : Nat) (low : Nat)
  /-- RESET_RELEASE: SCFG as channels A and B sample it, and the edges of REF_IN. -/
  | resetRelease (dt : Nat) (strapA strapB : Byte) (ref : RefEdges)
  /-- CRYSTAL_STARTUP_DONE: crystal edges counted over 10 us. -/
  | crystalStartupDone (dt : Nat) (edges : Nat)
  /-- REFERENCE_DETECT_RETRY: the edges of REF_IN. -/
  | referenceDetectRetry (dt : Nat) (ref : RefEdges)
  /-- LOCK_DECLARED: the band search, and the loop in the band taken. -/
  | lockDeclared (dt : Nat) (band : BandSearch) (loop : LoopState)
  /-- IMAGE_VERIFY: the NOR part that answers, if one does. -/
  | imageVerify (dt : Nat) (nor : Option NorPart)
  /-- IMAGE_ACCEPT -/
  | imageAccept (dt : Nat)
  /-- RECORDER_MOUNT: what the mount's pages do, and the parts that answer Read ID on NCE0 and NCE1. -/
  | recorderMount (mount : MountInput) (ce0 ce1 : Option NandPart)
  /-- HALL_EDGE: the Hall code after the edge and the back-EMF observer's angle, 0.1 degree electrical. -/
  | hallEdge (dt : Nat) (code : BitVec 3) (observer : Nat)
  /-- HALL_INVALID: the invalid code, 0b000 or 0b111. -/
  | hallInvalid (dt : Nat) (code : BitVec 3)
  /-- STALL_TIMEOUT -/
  | stallTimeout (dt : Nat)
  /-- OVERCURRENT -/
  | overcurrent (dt : Nat)
  /-- TIMING_ONLY_BOUNDARY -/
  | timingOnlyBoundary (dt : Nat)
  /-- SHEET_BOUNDARY -/
  | sheetBoundary (dt : Nat)
  /-- TRAVERSE_FRAME -/
  | traverseFrame (dt : Nat)
  /-- DIAGNOSTIC_SLOT: the bank; on its board's ISNS the samples that are high and the rising edges; per channel of the bank
  the SPADs that fire; every instant in taps since the slot's start; the length in taps that a truncated diagnostic pulse
  had at the balls, where it was measured. -/
  | diagnosticSlot (dt : Nat) (bank : Nat) (high rises : List Nat) (firings : List (List (Nat × Nat))) (measured : Option Nat)
  /-- DIAGNOSTIC_WINDOW_CLOSE -/
  | diagnosticWindowClose (dt : Nat)
  /-- ENGINE_SELF_TEST: `ran`: the 256 events completed with no item arriving; `passed`: bins and peak list agree. -/
  | engineSelfTest (dt : Nat) (engine : Nat) (ran passed : Bool)
  /-- CONTOUR_SELF_TEST: `ran`: the test completed in the gap; `passed`: the record agrees. -/
  | contourSelfTest (dt : Nat) (unit : Nat) (ran passed : Bool)
  /-- CORE_SEGMENT: taps of the segment until the last channel had its 81,920 test hits; hits per channel and tap; per
  channel, for each counting interval that the segment completes, the SPADs that fire with taps since its start. -/
  | coreSegment (dt : Nat) (hitTaps : Nat) (hits : List (Nat × List Nat)) (firings : List (Nat × List (List (Nat × Nat))))
  /-- OPTICAL_SEGMENT: per channel its events, each with the number of its bank's pulse, the raw tap index and the coarse
  count since that of the fire instant; per bank the mean reference intensity, 1/1,024 events per shot, and the mean
  reference width, ps. -/
  | opticalSegment (dt : Nat) (events : List (Nat × List (Nat × Nat × Nat))) (light : List (Nat × Nat)) (widths : List (Nat × Int))
  /-- CALIBRATION_PROCESSING: whether the NOR answers the erase, program and read-back. -/
  | calibrationProcessing (dt : Nat) (norOk : Bool)
  /-- CALIBRATION_ABANDON -/
  | calibrationAbandon (dt : Nat)
  /-- DATUM_EDGE_PAIR: the instants of the two edges at DATUM_P/N, in 1/16 taps of local time. -/
  | datumEdgePair (dt : Nat) (edges : Nat × Nat)
  /-- BEARING_PERIOD_START -/
  | bearingPeriodStart (dt : Nat)
  /-- AMBIENT_EVALUATION: the channel whose evaluation instant has come. -/
  | ambientEvaluation (dt : Nat) (channel : Nat)
  /-- SHOT_SLOT -/
  | shotSlot (dt : Nat)
  /-- RANGE_WINDOW_END: the channel whose range window ends. -/
  | rangeWindowEnd (dt : Nat) (channel : Nat)
  /-- COINCIDENCE_EVENT: a SPAD of the channel fires now; `fired` lists the SPADs that have fired (this one
  included) with the age of each firing in taps; `tap` is the interpolator tap that captures the edge. -/
  | coincidenceEvent (dt : Nat) (channel : Nat) (fired : List (Nat × Nat)) (tap : Nat)
  /-- RECOVERY_END -/
  | recoveryEnd (dt : Nat) (channel : Nat)
  /-- NEAR_ZONE_LINE: the channel, and the SPAD firings within tau with their event times in taps. -/
  | nearZoneLine (dt : Nat) (channel : Nat) (fired : List (Nat × Nat))
  /-- HOLDING_REGISTER_FLUSH -/
  | holdingRegisterFlush (dt : Nat) (channel : Nat)
  /-- MARKER_APPLY -/
  | markerApply (dt : Nat) (engine : Nat)
  /-- EVENT_ITEM -/
  | eventItem (dt : Nat) (reads : ItemReads)
  /-- DROP_ITEM -/
  | dropItem (dt : Nat) (engine : Nat)
  /-- CONTEXT_CLOSE -/
  | contextClose (dt : Nat) (engine : Nat) (reads : SliceReads)
  /-- CLOSE_COMMAND -/
  | closeCommand (dt : Nat)
  /-- GRANT_TIMEOUT -/
  | grantTimeout (dt : Nat) (engine : Nat)
  /-- ENGINE_FAILURE: an uncorrectable ECC error on a read of the engine's slice. -/
  | engineFailure (dt : Nat) (engine : Nat)
  /-- SPARE_SUBSTITUTION -/
  | spareSubstitution (dt : Nat)
  /-- CONTOUR_START: the free unit, and its reads. -/
  | contourStart (dt : Nat) (unit : Nat) (reads : PointReads)
  /-- CONTOUR_RECORD -/
  | contourRecord (dt : Nat) (unit : Nat)
  /-- CONTOUR_WATCHDOG -/
  | contourWatchdog (dt : Nat) (unit : Nat)
  /-- POINT_PACKET_RELEASE -/
  | pointPacketRelease (dt : Nat) (group : Nat)
  /-- SHEET_TRAILER -/
  | sheetTrailer (dt : Nat)
  /-- SAFE_STOP_TRAILER -/
  | safeStopTrailer (dt : Nat)
  /-- DUMP_COPY -/
  | dumpCopy (dt : Nat)
  /-- PACKET_TRANSMIT -/
  | packetTransmit (dt : Nat)
  /-- ALIGNMENT_MARKER -/
  | alignmentMarker (dt : Nat)
  /-- DOWNSTREAM_SLEEP -/
  | downstreamSleep (dt : Nat)
  /-- UPSTREAM_STAGE -/
  | upstreamStage (dt : Nat) (seen : StageInput)
  /-- UPSTREAM_STAGE_TIMEOUT -/
  | upstreamStageTimeout (dt : Nat)
  /-- SYMBOL_LOCK_LOSS -/
  | symbolLockLoss (run : CodeRun)
  /-- LOSS_OF_SIGNAL -/
  | lossOfSignal (seen : SignalDetect)
  /-- UTS: the st symbol of one UTS ordered set. -/
  | uts (dt : Nat) (st : Byte)
  /-- TRAINING_TIMEOUT -/
  | trainingTimeout (dt : Nat)
  /-- WIDTH_RISE -/
  | widthRise (dt : Nat)
  /-- LINK_DOWN -/
  | linkDown (dt : Nat)
  /-- UPSTREAM_SLEEP: the number of SLP ordered sets before the electrical idle. -/
  | upstreamSleep (dt : Nat) (slpSets : Nat)
  /-- LANE_TEST_START -/
  | laneTestStart (dt : Nat)
  /-- LANE_TEST_END: per checker (lanes 0 to 3, then upstream) the bit errors not yet reported, injected ones apart. -/
  | laneTestEnd (dt : Nat) (errors : List (Nat × Nat))
  /-- TIME_SYNC: the ten-bit codes of the packet as they arrive on ERX, from K27.7 to the end of its last word, and the
  running disparity before them, as the receiver reads them (true: positive). -/
  | timeSync (dt : Nat) (codes : List Nat) (rd : Bool)
  /-- SYNC_STALE -/
  | syncStale (dt : Nat)
  /-- MODE_REQUEST -/
  | modeRequest (dt : Nat) (codes : List Nat) (rd : Bool)
  /-- STATUS_QUERY -/
  | statusQuery (dt : Nat) (codes : List Nat) (rd : Bool)
  /-- HOST_HELLO -/
  | hostHello (dt : Nat) (codes : List Nat) (rd : Bool)
  /-- HOST_FINISH -/
  | hostFinish (dt : Nat) (codes : List Nat) (rd : Bool)
  /-- HOST_FINISH_TIMEOUT -/
  | hostFinishTimeout (dt : Nat)
  /-- HOST_CLOSE -/
  | hostClose (dt : Nat) (codes : List Nat) (rd : Bool)
  /-- LIST_INCIDENTS -/
  | listIncidents (dt : Nat) (codes : List Nat) (rd : Bool)
  /-- READ_RECORD -/
  | readRecord (dt : Nat) (codes : List Nat) (rd : Bool)
  /-- RELEASE_INCIDENT -/
  | releaseIncident (dt : Nat) (codes : List Nat) (rd : Bool)
  /-- MARK -/
  | mark (dt : Nat) (codes : List Nat) (rd : Bool)
  /-- ABORT_READ -/
  | abortRead (dt : Nat) (codes : List Nat) (rd : Bool)
  /-- SAFETY_MESSAGE -/
  | safetyMessage (dt : Nat) (codes : List Nat) (rd : Bool)
  /-- CONNECTION_EXPIRY -/
  | connectionExpiry (dt : Nat) (side : Side)
  /-- SAFETY_EXCHANGE: whether the word each channel receives passes its CRC-32C, and the interval each receiver
  measures between words on its own clock, in us. -/
  | safetyExchange (dt : Nat) (crcOkA crcOkB : Bool) (intervalA intervalB : Nat)
  /-- EXCHANGE_TIMEOUT: the channel whose partner's word is missing. -/
  | exchangeTimeout (dt : Nat) (side : Side)
  /-- NOTICE_LINE: the channel that sees its partner's line. -/
  | noticeLine (dt : Nat) (side : Side)
  /-- SAFETY_HALL_EDGE -/
  | safetyHallEdge (dt : Nat) (side : Side) (code : BitVec 3)
  /-- SPEED_WINDOW_TIMEOUT -/
  | speedWindowTimeout (dt : Nat) (side : Side)
  /-- B_N_MARKER -/
  | bnMarker (dt : Nat) (side : Side)
  /-- FIRE_PAD_PULSE: the channel that sees it, the bank, and the pulse's length in taps. -/
  | firePadPulse (dt : Nat) (side : Side) (bank : Nat) (width : Nat)
  /-- GATE_TEST: per bank, what the detectors of A and B see in the three conditions in turn. -/
  | gateTest (dt : Nat) (seenA seenB : List (Bool × Bool × Bool))
  /-- TORQUE_REMOVAL -/
  | torqueRemoval (dt : Nat) (side : Side)
  /-- STANDSTILL -/
  | standstill (dt : Nat) (side : Side)
  /-- SIN_SAMPLE: the levels SIN_A0, SIN_B0, SIN_A1, SIN_B1 as this channel reads them. -/
  | sinSample (dt : Nat) (side : Side) (a0 b0 a1 b1 : Bool)
  /-- DISCREPANCY_TIMEOUT: the channel and the input, 0 or 1. -/
  | discrepancyTimeout (dt : Nat) (side : Side) (input : Nat)
  /-- SOUT_READBACK -/
  | soutReadback (dt : Nat) (side : Side) (level : Bool)
  /-- SOUT_TEST_PULSE -/
  | soutTestPulse (dt : Nat) (side : Side)
  /-- SOUT_TEST_SAMPLE -/
  | soutTestSample (dt : Nat) (side : Side) (level : Bool)
  /-- SAFETY_SENSOR_READ: the channel's own sensor, 0.25 degC; none: no conversion. -/
  | safetySensorRead (dt : Nat) (side : Side) (reading : Option Int)
  /-- SENSOR_READING: TS0 to TS15, 0.25 degC; none: no conversion. -/
  | sensorReading (dt : Nat) (readings : List (Option Int))
  /-- BIAS_OVERVOLTAGE -/
  | biasOvervoltage (dt : Nat)
  /-- BIAS_READBACK -/
  | biasReadback (dt : Nat)
  /-- AUX_CONVERSION_DONE: the input voltage and the voltage at AUX_REF in nV, and the overvoltage comparator. -/
  | auxConversionDone (dt : Nat) (vin : Int) (vref : Nat) (overvoltage : Bool)
  /-- URGENT_REQUEST: true: a safety channel's supply read; false: a bias readback. -/
  | urgentRequest (dt : Nat) (supply : Bool)
  /-- NEARDIST_VALUE_READY -/
  | neardistValueReady (dt : Nat)
  /-- NEARDIST_PERIOD -/
  | neardistPeriod (dt : Nat)
  /-- NEARDIST_NO_DATA_TIMEOUT -/
  | neardistNoDataTimeout (dt : Nat)
  /-- REFERENCE_LOSS -/
  | referenceLoss (dt : Nat)
  /-- REFERENCE_RETURN: edges counted over 10 us and the frequency difference in ppm. -/
  | referenceReturn (dt : Nat) (edges : Nat) (ppm : Int)
  /-- LOSS_OF_LOCK -/
  | lossOfLock (seen : LockMonitor)
  /-- OUTPUTS_RETURN -/
  | outputsReturn (dt : Nat)
  /-- LINK_PLL_HOLD_EXPIRY -/
  | linkPllHoldExpiry (dt : Nat)
  /-- LOCAL_COUNTER_WRAP: it falls at the instant at which the counter wraps. -/
  | localCounterWrap
  /-- SYNC_IN_EDGE: `rising`: the edge's direction. -/
  | syncInEdge (dt : Nat) (rising : Bool)
  /-- DIP_BEGIN: the rails after the fall. -/
  | dipBegin (dt : Nat) (fall : RailFall)
  /-- DIP_END -/
  | dipEnd (dt : Nat)
  /-- DIP_HOLD_RELEASE -/
  | dipHoldRelease (dt : Nat)
  /-- RESET_LEVEL_FALL: the rails after the fall. -/
  | resetLevelFall (dt : Nat) (fall : RailFall)
  /-- PROCESSOR_WATCHDOG -/
  | processorWatchdog (dt : Nat)
  /-- CRASH_TRIGGER: consecutive high samples, and the low samples before them. -/
  | crashTrigger (dt : Nat) (high low : Nat)
  /-- INCIDENT_TRIGGER -/
  | incidentTrigger (dt : Nat)
  /-- COMMIT_PHASE_1 -/
  | commitPhase1 (run : PageRun)
  /-- POST_TRIGGER_END -/
  | postTriggerEnd (dt : Nat)
  /-- COMMIT_PHASE_2 -/
  | commitPhase2 (run : PageRun)
  /-- BODY_BLOCK_FORM -/
  | bodyBlockForm (dt : Nat)
  /-- SEGMENT_CLOSE -/
  | segmentClose (run : PageRun)
  /-- NAND_PROGRAM_DONE: the status reported, and the bit errors of each codeword of the read-back. -/
  | nandProgramDone (dt : Nat) (ok : Bool) (bitErrors : List Nat)
  /-- NAND_ERASE_DONE -/
  | nandEraseDone (dt : Nat) (ended : EraseResult)
  /-- NAND_READ_DONE: the bit errors of each codeword. -/
  | nandReadDone (dt : Nat) (bitErrors : List Nat)
  /-- SCRUB: a page of the finished copy is read back: the bit errors of its codewords. -/
  | scrub (dt : Nat) (readBack : List Nat)
  /-- POWERED_HOUR -/
  | poweredHour (dt : Nat)
  /-- DESCRIPTOR_COMPLETE: the movement channel. -/
  | descriptorComplete (dt : Nat) (channel : Nat)
  /-- CHANNEL_HALT -/
  | channelHalt (dt : Nat) (channel : Nat) (info : HaltInfo)
  /-- EVENT_LOG_WRITE -/
  | eventLogWrite (dt : Nat)
  /-- STATUS_PAGE_ADVANCE -/
  | statusPageAdvance (dt : Nat)
  /-- BYPASS -/
  | bypass (dt : Nat)
  /-- IDCODE -/
  | idcode (dt : Nat)
  /-- SAMPLE_PRELOAD: the balls and the pattern shifted in. -/
  | samplePreload (dt : Nat) (scan : BoundaryScan)
  /-- EXTEST: the same. -/
  | extest (dt : Nat) (scan : BoundaryScan)
  /-- JTAG_STATUS_READ: word address and length in words. -/
  | jtagStatusRead (dt : Nat) (addr words : Nat)
  /-- SPEED_BELOW_WINDOW -/
  | speedBelowWindow (dt : Nat) (side : Side)
  /-- B_N_MARKER_MISSING -/
  | bnMarkerMissing (dt : Nat) (side : Side)
  /-- SAFETY_SELF_TEST_FAILURE -/
  | safetySelfTestFailure (dt : Nat) (side : Side)
  /-- SOUT_TEST_PULSE_END -/
  | soutTestPulseEnd (dt : Nat) (side : Side)
  /-- CHECKER_SYNC -/
  | checkerSync (dt : Nat) (seen : LaneBits)
  /-- CHECKER_SYNC_LOSS: the bit errors of the lane not yet reported, injected ones apart, and the numbers of the wrong bits
  seen last, ascending; with too few of those for a loss it only reports errors. -/
  | checkerSyncLoss (dt : Nat) (lane : Nat) (errors : Nat) (wrong : List Nat)
  /-- UPSTREAM_PACKET_DISCARD -/
  | upstreamPacketDiscard (dt : Nat) (codes : List Nat) (rd : Bool)
  /-- NAND_RESPONSE_TIMEOUT -/
  | nandResponseTimeout (dt : Nat)
  /-- NOR_PAGE_PROGRAM_DONE: whether the page reads back as programmed. -/
  | norPageProgramDone (dt : Nat) (ok : Bool)
  /-- NOR_SECTOR_ERASE_DONE -/
  | norSectorEraseDone (dt : Nat) (ok : Bool)
  /-- SUPPLY_RETURN_LEVEL: the rails as they stand. -/
  | supplyReturnLevel (rise : RailRise)
  deriving DecidableEq, Repr

end Sys2Proof
end

