-- ==== Sys2Proof/Decode.lean ====
section
/-! DEFINITION. The command that a word spells.  The opcode table gives none of its rows bits, so no word spells a
command (notes/assumptions/4.md). -/

namespace Sys2Proof

/-- The command of a word of `nbits` bits, by the table's bits. -/
def decodeTableWord (_nbits _w : Nat) : Option Instr := none

end Sys2Proof
end

