-- ==== Sys2Proof/Machine/Bytes.lean ====
section
/-! DEFINITION. Bytes and bit fields: little-endian fields (R6), bit fields [msb:lsb], the CRCs of Table 0.4 and
the 4-bit CRC of the Traverse word. -/

namespace Sys2Proof.Machine

open Sys2Proof

/-- Bit field [hi:lo] of a word. -/
def bits (hi lo w : Nat) : Nat := (w >>> lo) % 2 ^ (hi + 1 - lo)

/-- Bit i of a word. -/
def bit (i w : Nat) : Bool := w.testBit i

/-- A flag as a number. -/
def b2n (b : Bool) : Nat := if b then 1 else 0

/-- A value placed at bit `lo` of a field of `width` bits. -/
def field (width lo v : Nat) : Nat := (v % 2 ^ width) <<< lo

/-- Two's complement of an integer in `width` bits. -/
def toTwos (width : Nat) (v : Int) : Nat := (v % (2 ^ width : Int)).toNat

/-- The integer that `width` bits spell in two's complement. -/
def ofTwos (width v : Nat) : Int :=
  let w := v % 2 ^ width
  if w < 2 ^ (width - 1) then (w : Int) else (w : Int) - (2 ^ width : Int)

/-- Clamp an integer. -/
def clampI (lo hi v : Int) : Int := max lo (min hi v)

/-- Clamp a natural number. -/
def clampN (lo hi v : Nat) : Nat := max lo (min hi v)

/-- `n` bytes of `w`, least significant first (R6). -/
def leBytes : Nat → Nat → List Byte
  | 0, _ => []
  | n + 1, w => BitVec.ofNat 8 w :: leBytes n (w / 256)

/-- The number that bytes spell, least significant first (R6). -/
def leNat : List Byte → Nat
  | [] => 0
  | b :: r => b.toNat + 256 * leNat r

/-- `n` bytes of `w`, most significant first. -/
def beBytes (n w : Nat) : List Byte := (leBytes n w).reverse

/-- The number that bytes spell, most significant first. -/
def beNat (l : List Byte) : Nat := leNat l.reverse

/-- `len` bytes from offset `off`. -/
def slice (l : List Byte) (off len : Nat) : List Byte := (l.drop off).take len

/-- The little-endian number in `len` bytes from offset `off`. -/
def leAt (l : List Byte) (off len : Nat) : Nat := leNat (slice l off len)

/-- Zero bytes. -/
def zeros (n : Nat) : List Byte := List.replicate n 0

/-- One byte through a reflected 32-bit CRC register with the reflected polynomial `poly`. -/
def crcByte (poly : Word32) (c : Word32) (b : Byte) : Word32 :=
  (List.range 8).foldl (fun c _ => if c.getLsbD 0 then (c >>> 1) ^^^ poly else c >>> 1)
    (c ^^^ b.setWidth 32)

/-- CRC-32 of Table 0.4 (polynomial 0x04C1_1DB7, reflected, all ones, complemented). -/
def crc32 (l : List Byte) : Nat :=
  (~~~ (l.foldl (crcByte 0xEDB88320#32) 0xFFFFFFFF#32)).toNat

/-- CRC-32C of Table 0.4 (polynomial 0x1EDC_6F41, as for CRC-32). -/
def crc32c (l : List Byte) : Nat :=
  (~~~ (l.foldl (crcByte 0x82F63B78#32) 0xFFFFFFFF#32)).toNat

/-- A table entry held under a key. -/
def tableHas {α : Type} (t : Table α) (n : Nat) : Bool := t.any (fun e => decide (e.1 = n))

/-- Update the entry of a key. -/
def tableUpd {α : Type} (dflt : α) (t : Table α) (n : Nat) (f : α → α) : Table α :=
  Table.put t n (f (Table.getD dflt t n))

/-- Sum of the low `k` bits of `n` that are set. -/
def popcount (k n : Nat) : Nat := (List.range k).countP (fun i => n.testBit i)

end Sys2Proof.Machine
end

