-- ==== Sys2Proof/Machine/Crypto.lean ====
section
/-! DEFINITION. The primitives of R10 and Table 0.4: SHA-256 (FIPS 180-4), HMAC and HKDF with SHA-256, AES-256-GCM
(SP 800-38D), and ECDSA and ECDH on curve P-256 (FIPS 186). -/

namespace Sys2Proof.Machine

open Sys2Proof

/-! ## SHA-256 -/

/-- The eight 32-bit words of a 256-bit number, most significant first. -/
def eightWords (n : Nat) : List Word32 := (List.range 8).map (fun i => BitVec.ofNat 32 (n >>> (32 * (7 - i))))

/-- The 64 round constants, eight to a number. -/
def shaK : List Word32 :=
  List.flatMap eightWords
    [0x428a2f9871374491b5c0fbcfe9b5dba53956c25b59f111f1923f82a4ab1c5ed5,
     0xd807aa9812835b01243185be550c7dc372be5d7480deb1fe9bdc06a7c19bf174,
     0xe49b69c1efbe47860fc19dc6240ca1cc2de92c6f4a7484aa5cb0a9dc76f988da,
     0x983e5152a831c66db00327c8bf597fc7c6e00bf3d5a7914706ca635114292967,
     0x27b70a852e1b21384d2c6dfc53380d13650a7354766a0abb81c2c92e92722c85,
     0xa2bfe8a1a81a664bc24b8b70c76c51a3d192e819d6990624f40e3585106aa070,
     0x19a4c1161e376c082748774c34b0bcb5391c0cb34ed8aa4a5b9cca4f682e6ff3,
     0x748f82ee78a5636f84c878148cc7020890befffaa4506cebbef9a3f7c67178f2]

/-- The words a hash begins from. -/
def shaInit : List Word32 := eightWords 0x6a09e667bb67ae853c6ef372a54ff53a510e527f9b05688c1f83d9ab5be0cd19

/-- Three rotations of a word, summed without carry. -/
def rotSum (i j k : Nat) (x : Word32) : Word32 := x.rotateRight i ^^^ x.rotateRight j ^^^ x.rotateRight k

/-- Two rotations and a shift of a word, summed without carry. -/
def rotShift (i j k : Nat) (x : Word32) : Word32 := x.rotateRight i ^^^ x.rotateRight j ^^^ x >>> k

/-- Put `n` more words in front of a schedule, whose newest word stands first. -/
def shaSchedule (n : Nat) (w : List Word32) : List Word32 :=
  n.repeat (fun w =>
    let back (k : Nat) : Word32 := w.getD (k - 1) 0
    (back 16 + back 7 + rotShift 7 18 3 (back 15) + rotShift 17 19 10 (back 2)) :: w) w

/-- One round: the eight working words move down by one, the first and the fifth made anew from the round's word. -/
def shaRound (v : List Word32) (kw : Word32) : List Word32 :=
  let at_ (i : Nat) : Word32 := v.getD i 0
  let choice := (at_ 4 &&& at_ 5) ||| (~~~ at_ 4 &&& at_ 6)
  let majority := (at_ 0 &&& (at_ 1 ||| at_ 2)) ||| (at_ 1 &&& at_ 2)
  let t := kw + at_ 7 + rotSum 6 11 25 (at_ 4) + choice
  (t + rotSum 2 13 22 (at_ 0) + majority) :: v.take 3 ++ (at_ 3 + t) :: (v.drop 4).take 3

/-- Compress one block of sixteen words. -/
def shaBlock (h blk : List Word32) : List Word32 :=
  List.zipWith (· + ·) h
    ((List.zip shaK (shaSchedule 48 blk.reverse).reverse).foldl (fun v e => shaRound v (e.1 + e.2)) h)

/-- Big-endian 32-bit words of a byte list, `n` of them. -/
def words32 : Nat → List Byte → List Word32
  | 0, _ => []
  | n + 1, l => BitVec.ofNat 32 (beNat (l.take 4)) :: words32 n (l.drop 4)

/-- Compress `n` blocks of 64 bytes. -/
def shaBlocks : Nat → List Word32 → List Byte → List Word32
  | 0, h, _ => h
  | n + 1, h, l => shaBlocks n (shaBlock h (words32 16 (l.take 64))) (l.drop 64)

/-- SHA-256. -/
def sha256 (m : List Byte) : List Byte :=
  let pad := (119 - m.length % 64) % 64
  let padded := m ++ [0x80#8] ++ zeros pad ++ beBytes 8 (8 * m.length)
  (shaBlocks (padded.length / 64) shaInit padded).flatMap (fun w => beBytes 4 w.toNat)

/-- HMAC with SHA-256. -/
def hmac (key m : List Byte) : List Byte :=
  let k0 := if key.length > 64 then sha256 key else key
  let k := k0 ++ zeros (64 - k0.length)
  sha256 (k.map (· ^^^ 0x5c#8) ++ sha256 (k.map (· ^^^ 0x36#8) ++ m))

/-- HKDF-Extract with SHA-256. -/
def hkdfExtract (salt ikm : List Byte) : List Byte := hmac salt ikm

/-- The blocks T(i) of HKDF-Expand. -/
def hkdfBlocks (prk info : List Byte) : Nat → Nat → List Byte → List Byte
  | 0, _, _ => []
  | n + 1, i, t =>
    let t' := hmac prk (t ++ info ++ [BitVec.ofNat 8 i])
    t' ++ hkdfBlocks prk info n (i + 1) t'

/-- HKDF-Expand with SHA-256. -/
def hkdfExpand (prk info : List Byte) (len : Nat) : List Byte :=
  (hkdfBlocks prk info ((len + 31) / 32) 1 []).take len

/-! ## AES-256-GCM -/

/-- Multiply by x in the AES field. -/
def aesXtime (a : Byte) : Byte := (a <<< 1) ^^^ (if a.getLsbD 7 then 0x1b#8 else 0)

/-- Multiply in the AES field. -/
def aesMul (a b : Byte) : Byte :=
  ((List.range 8).foldl (fun (p : Byte × Byte) i => (if b.getLsbD i then p.1 ^^^ p.2 else p.1, aesXtime p.2))
    ((0 : Byte), a)).1

/-- Inverse in the AES field: the 254th power. -/
def aesInv (a : Byte) : Byte :=
  ((List.range 7).foldl (fun (p : Byte × Byte) _ => let sq := aesMul p.2 p.2; (aesMul p.1 sq, sq)) ((1 : Byte), a)).1

/-- The S-box of one byte. -/
def aesSboxOf (a : Byte) : Byte :=
  let i := aesInv a
  i ^^^ i.rotateLeft 1 ^^^ i.rotateLeft 2 ^^^ i.rotateLeft 3 ^^^ i.rotateLeft 4 ^^^ 0x63#8

/-- The S-box as a table. -/
def aesSboxTable : Array Byte := ((List.range 256).map (fun i => aesSboxOf (BitVec.ofNat 8 i))).toArray

/-- The S-box. -/
def aesSbox (a : Byte) : Byte := aesSboxTable.getD a.toNat 0

/-- Exclusive or of two byte lists. -/
def xorBytes (a b : List Byte) : List Byte := List.zipWith (· ^^^ ·) a b

/-- Key schedule of AES-256: words held newest first, `n` more, `i` the index of the next. -/
def aesExpand : Nat → Nat → List (List Byte) → List (List Byte)
  | 0, _, w => w
  | n + 1, i, w =>
    let prev := w.getD 0 []
    let t :=
      if i % 8 = 0 then
        match prev with
        | [a, b, c, d] =>
          [aesSbox b ^^^ (1#8 <<< (i / 8 - 1)), aesSbox c, aesSbox d, aesSbox a]
        | l => l
      else if i % 8 = 4 then prev.map aesSbox else prev
    aesExpand n (i + 1) (xorBytes (w.getD 7 []) t :: w)

/-- Four-byte words of a list. -/
def chunks (k : Nat) : Nat → List Byte → List (List Byte)
  | 0, _ => []
  | n + 1, l => l.take k :: chunks k n (l.drop k)

/-- The 15 round keys of a 32-byte key. -/
def aesRoundKeys (key : List Byte) : List (List Byte) :=
  chunks 16 15 ((aesExpand 52 8 (chunks 4 8 key).reverse).reverse.flatten)

/-- Shift rows of a column-major state. -/
def aesShiftRows (s : List Byte) : List Byte :=
  (List.range 16).map (fun i => s.getD ((i + 4 * (i % 4)) % 16) 0)

/-- Mix one column. -/
def aesMixColumn (c : List Byte) : List Byte :=
  match c with
  | [a, b, c, d] =>
    let t := a ^^^ b ^^^ c ^^^ d
    [a ^^^ t ^^^ aesXtime (a ^^^ b), b ^^^ t ^^^ aesXtime (b ^^^ c),
     c ^^^ t ^^^ aesXtime (c ^^^ d), d ^^^ t ^^^ aesXtime (d ^^^ a)]
  | l => l

/-- Encrypt one block under the round keys. -/
def aesBlock (rk : List (List Byte)) (b : List Byte) : List Byte :=
  let s0 := xorBytes b (rk.getD 0 [])
  let s13 := ((rk.drop 1).take 13).foldl
    (fun s k => xorBytes ((chunks 4 4 (aesShiftRows (s.map aesSbox))).flatMap aesMixColumn) k) s0
  xorBytes (aesShiftRows (s13.map aesSbox)) (rk.getD 14 [])

/-- Multiply in the GCM field; the first bit of a block is the most significant bit of the number. -/
def ghashMul (x y : BitVec 128) : BitVec 128 :=
  ((List.range 128).foldl (fun (p : BitVec 128 × BitVec 128) i =>
      (if x.getLsbD (127 - i) then p.1 ^^^ p.2 else p.1,
       if p.2.getLsbD 0 then (p.2 >>> 1) ^^^ (0xe1#128 <<< 120) else p.2 >>> 1))
    ((0 : BitVec 128), y)).1

/-- Hash `n` blocks of 16 bytes, the last zero-padded. -/
def ghashBlocks (h : BitVec 128) : Nat → BitVec 128 → List Byte → BitVec 128
  | 0, y, _ => y
  | n + 1, y, l =>
    let b := l.take 16
    let blk := b ++ zeros (16 - b.length)
    ghashBlocks h n (ghashMul (y ^^^ BitVec.ofNat 128 (beNat blk)) h) (l.drop 16)

/-- The counter-mode key stream: `n` blocks from counter `c`. -/
def gcmStream (rk : List (List Byte)) (iv : List Byte) : Nat → Nat → List Byte
  | 0, _ => []
  | n + 1, c => aesBlock rk (iv ++ beBytes 4 c) ++ gcmStream rk iv n (c + 1)

/-- The tag of AES-256-GCM over `aad` and ciphertext `ct`. -/
def gcmTag (key iv aad ct : List Byte) : List Byte :=
  let rk := aesRoundKeys key
  let h := BitVec.ofNat 128 (beNat (aesBlock rk (zeros 16)))
  let y1 := ghashBlocks h ((aad.length + 15) / 16) 0 aad
  let y2 := ghashBlocks h ((ct.length + 15) / 16) y1 ct
  let lens := beBytes 8 (8 * aad.length) ++ beBytes 8 (8 * ct.length)
  let y3 := ghashBlocks h 1 y2 lens
  xorBytes (beBytes 16 y3.toNat) (aesBlock rk (iv ++ beBytes 4 1))

/-- Encrypt (or decrypt: the operation is its own inverse) in counter mode. -/
def gcmCrypt (key iv data : List Byte) : List Byte :=
  xorBytes data (gcmStream (aesRoundKeys key) iv ((data.length + 15) / 16) 2)

/-- AES-256-GCM encryption: ciphertext and 16-byte tag. -/
def gcmSeal (key iv aad pt : List Byte) : List Byte × List Byte :=
  let ct := gcmCrypt key iv pt
  (ct, gcmTag key iv aad ct)

/-- AES-256-GCM decryption, none where the tag does not verify. -/
def gcmOpen (key iv aad ct tag : List Byte) : Option (List Byte) :=
  if gcmTag key iv aad ct = tag then some (gcmCrypt key iv ct) else none

/-! ## P-256 -/

/-- The field prime. -/
def p256P : Nat := 0xffffffff00000001000000000000000000000000ffffffffffffffffffffffff
/-- The group order. -/
def p256N : Nat := 0xffffffff00000000ffffffffffffffffbce6faada7179e84f3b9cac2fc632551
/-- The coefficient b. -/
def p256B : Nat := 0x5ac635d8aa3a93e7b3ebbd55769886bc651d06b0cc53b0f63bce3c3e27d2604b
/-- The base point. -/
def p256G : Nat × Nat :=
  (0x6b17d1f2e12c4247f8bce6e563a440f277037d812deb33a0f4a13945d898c296,
   0x4fe342e2fe1a7f9b8ee7eb4a7c0f9e162bce33576b315ececbb6406837bf51f5)

/-- Modular power by `k` bits of the exponent. -/
def powModBits (m : Nat) : Nat → Nat → Nat → Nat → Nat
  | 0, _, _, acc => acc
  | k + 1, b, e, acc => powModBits m k (b * b % m) (e / 2) (if e % 2 = 1 then acc * b % m else acc)

/-- Inverse modulo a 256-bit prime. -/
def invMod (m a : Nat) : Nat := powModBits m 256 (a % m) (m - 2) 1

/-- Addition on the curve; none is the point at infinity. -/
def ecAdd (p q : Option (Nat × Nat)) : Option (Nat × Nat) :=
  match p, q with
  | none, q => q
  | p, none => p
  | some (x1, y1), some (x2, y2) =>
    if x1 = x2 ∧ (y1 + y2) % p256P = 0 then none
    else
      let l :=
        if x1 = x2 then (3 * x1 * x1 + (p256P - 3)) * invMod p256P (2 * y1) % p256P
        else (y2 + p256P - y1) * invMod p256P (x2 + p256P - x1) % p256P
      let x3 := (l * l + 2 * p256P - x1 - x2) % p256P
      some (x3, (l * (x1 + p256P - x3) + p256P - y1) % p256P)

/-- Scalar multiplication by `k` bits of the scalar. -/
def ecMulBits : Nat → Nat → Option (Nat × Nat) → Option (Nat × Nat) → Option (Nat × Nat)
  | 0, _, _, acc => acc
  | k + 1, e, b, acc => ecMulBits k (e / 2) (ecAdd b b) (if e % 2 = 1 then ecAdd acc b else acc)

/-- Scalar multiplication. -/
def ecMul (k : Nat) (p : Nat × Nat) : Option (Nat × Nat) := ecMulBits 256 k (some p) none

/-- Is the point on the curve? -/
def ecOn (p : Nat × Nat) : Bool :=
  p.1 < p256P && p.2 < p256P &&
    (p.2 * p.2) % p256P == (p.1 * p.1 * p.1 + (p256P - 3) * p.1 + p256B) % p256P

/-- ECDSA verification of r, s over a 32-byte digest. -/
def ecdsaVerify (pub : Nat × Nat) (digest : List Byte) (r s : Nat) : Bool :=
  if !(ecOn pub) || r = 0 || r ≥ p256N || s = 0 || s ≥ p256N then false
  else
    let w := invMod p256N s
    let u1 := beNat digest * w % p256N
    let u2 := r * w % p256N
    match ecAdd (ecMul u1 p256G) (ecMul u2 pub) with
    | none => false
    | some (x, _) => x % p256N = r

/-- ECDSA signature with the per-signature number `k`; the pair r, s. -/
def ecdsaSign (d k : Nat) (digest : List Byte) : Nat × Nat :=
  match ecMul k p256G with
  | none => (0, 0)
  | some (x, _) =>
    let r := x % p256N
    (r, invMod p256N k * ((beNat digest + r * d) % p256N) % p256N)

/-- The public key of a private key. -/
def ecPublic (d : Nat) : Nat × Nat := (ecMul d p256G).getD (0, 0)

/-- The x coordinate of an ECDH product, none where the peer's point is not on the curve or the product is at
infinity. -/
def ecdh (d : Nat) (pub : Nat × Nat) : Option Nat :=
  if ecOn pub then (ecMul d pub).map (·.1) else none

end Sys2Proof.Machine
end

