-- ==== Sys2Proof/Config.lean ====
section
/-! DEFINITION. What one device fixes and the spec leaves open: free values, opaque constants of which nothing can be
proved (notes/assumptions/6.md).  A first argument called `n` is `State.free` at the draw. -/

namespace Sys2Proof.Config

open Sys2Proof

/-- Rate of the start oscillator over an interval, parts per million of 400 MHz; its user holds it within 5 % (R108). -/
opaque startOscRate : Nat → Nat

/-- Fused VCO temperature coefficient, codes of the loop control value per degC (R111). -/
opaque vcoCoeff : Int

/-- Fused delays of the TDC coarse count and of the fire timing, in steps of 156.25 ps (Table 5.2). -/
opaque tdcDelay : Nat
opaque fireDelay : Nat

/-- Error of the supply monitor, uV, at its `n`-th comparison, of rail r with its warning, return or reset level (3 r + 0, 1 or
2); its user holds it to 1 % of the rail's nominal voltage (R437). -/
opaque railError : Nat → Nat → Int

/-- Whether a rail at a level above 0 V and below its reset level counts as absent, uV (R441). -/
opaque railGone : Nat → Nat → Bool

/-- Whether a low level of nRESET between 2.0 and 2.2 us resets the device (R427). -/
opaque nresetBetween : Nat → Bool

/-- Sector 0 to 5 of the electrical cycle that an edge into a Hall code begins; its user takes it modulo 6 (R30). -/
opaque hallSector : Nat → Nat

/-- Which electrical cycle of a facet the device takes the facet edge to lie in; its user takes it modulo P / F
(R30). -/
opaque facetCycle : Nat

/-- High and low phase driven for a Hall code; its user takes them modulo 3 (chapter 2, Motor drive). -/
opaque commutation : Nat → Nat × Nat

/-- Duty the proportional-integral speed loop sets from Kp, Ki, the speed error and its integral, both in 1/1000 of
setpoint (chapter 2, Motor drive). -/
opaque speedLoop : Nat → Nat → Rat → Rat → Int

/-- Bytes of the deterministic random bit generator: draw `n`, byte `i` (R244, R256, R263). -/
opaque entropy : Nat → Nat → Byte

/-- The device key d (R246). -/
opaque deviceKey : Nat

/-- Byte `i` of the key K_p that the physical unclonable function regenerates from helper data (R243). -/
opaque pufKey : List Byte → Nat → Byte

/-- Helper data of the function, and the bytes of the IV under which d was wrapped, as they stand in the memory at delivery
(R243). -/
opaque pufHelper : List Byte
opaque wrapIv : Nat → Byte

/-- The die identity (Table 10.3). -/
opaque dieIdentity : Nat

/-- Private keys of the Grenward root and of the production CA, which no device holds: they fix what the public keys and
certificates in the device are (R247). -/
opaque rootSecret : Nat
opaque caSecret : Nat

/-- Serial, issue date, site and signature number of the certificate of a kind (Table 10.3): kind, then 0 to 3. -/
opaque certInfo : Nat → Nat → Nat

/-- Breakdown voltage at 25 degC as fused, uV; its user holds it within 19.0 to 21.5 V (chapter 4, SPAD bias). -/
opaque vBd25 : Nat

/-- Slope of the breakdown voltage as fused, uV per degC; its user holds it within 22 to 28 mV per degC. -/
opaque sBd : Nat

/-- Fused compensation coefficient a_p of tap p, and k_s; the user takes them as signed 8-bit numbers (R358). -/
opaque tapCoeff : Nat → Nat
opaque trimCoeff : Nat

/-- Production mask of a channel: SPADs masked at shipment, at most two; the user keeps the first two set bits
(R348, chapter 4, Dark counts). -/
opaque productionMask : Nat → Nat

/-- Error of a contour unit's fixed-point survival, in units of 10^-6, for a mean; its user holds it within 0.002
(R188). -/
opaque survivalError : Rat → Int

/-- Error of a contour unit's confidence in codes, for a threshold and a mean; its user holds it within 1 (R197). -/
opaque confidenceError : Nat → Rat → Int

/-- Byte `i` of a NAND page that more than 72 bit errors left uncorrectable, as read: draw `n` (R412). -/
opaque pageAsRead : Nat → Nat → Byte

/-- The seven bits of a sector's parity bytes that its code leaves over (R393). -/
opaque bchRest : Nat

/-- Byte `i` of the previous-hash field of the device's first record, which has no predecessor (R264). -/
opaque firstPrevious : Nat → Byte

/-- Range code of a channel sample whose point was delivered with no echo; its user holds it to 317,000 (Table 16.5). -/
opaque noEchoRange : Nat

/-- Bits, newest first, from which a lane test pattern begins; at least the first counts as set (R239). -/
opaque prbsSeed : Nat → Bool

/-- Forecast hours while no block has been erased in the last 100 h of recording (R410). -/
opaque forecastIdle : Nat

/-- Times, sync state and sheets that a closure at mount states where the surviving body holds no sheet block: draw
`n`, field `i` (R404, Table 10.6). -/
opaque lostInfo : Nat → Nat → Nat

/-- Mask ROM revision of the device (R280). -/
opaque romRevision : Nat

/-- Steps of one pass of a safety channel's self-test, ROM check and RAM test; its user takes at least one (R306,
R317). -/
opaque selfTestSteps : Nat

/-- Which of two equally near listed values a clamped field takes: true the greater (R276). -/
opaque clampUp : Bool

/-- Mask revision and Grenward's manufacturer identity of the IDCODE; the user takes 4 and 11 bits (R453). -/
opaque maskRevision : Nat
opaque manufacturer : Nat

/-- The status space's lambda code of an estimate of 33 1/3 or more, where its formula has no value; the user takes 16
bits (R170, R182). -/
opaque lambdaBeyond : Rat → Nat

/-- The code of a conversion of 0 V while AUX_REF is at 0 V (R370). -/
opaque noRatio : Int

/-- First bearing and number of bearings in the gap block of a dropped event block, which tells of no bearing (Table 16.4,
R397). -/
opaque eventGap : Nat → Nat

end Sys2Proof.Config
end

