-- ==== Sys2Proof/Machine/Counters.lean ====
section
/-! DEFINITION. The counters of the status space (Table 17.8), their addresses, widths and behaviour. -/

namespace Sys2Proof.Machine

open Sys2Proof

/-- The counters, device counters by name and per-unit counters by unit number. -/
inductive Counter where
  /-- Table 2.3 -/
  | hallInvalid
  /-- Table 2.3 -/
  | stall
  /-- Table 2.3 -/
  | posDisagree
  /-- Table 2.3 -/
  | overcurrent
  /-- Table 4.9 -/
  | biasSteps
  /-- Table 5.7 -/
  | lockLoss
  /-- Table 5.7 -/
  | refLoss
  /-- Table 5.7 -/
  | refMismatch
  /-- Table 5.7 -/
  | timeSteps
  /-- Table 5.7 -/
  | timeSyncDiscarded
  /-- Table 6.8 -/
  | substitutions
  /-- Table 6.8 -/
  | rezoomSkipped
  /-- Table 6.8 -/
  | dumpsSkipped
  /-- Table 7.5 -/
  | bgSaturations
  /-- Table 7.5 -/
  | interferencePoints
  /-- Table 7.5 -/
  | rainLikeEchoes
  /-- Table 7.5 -/
  | neighbourWaits
  /-- R207 -/
  | records
  /-- R207 -/
  | zeroEcho
  /-- R207 -/
  | coarseOnly
  /-- R207 -/
  | contourEcc
  /-- R423 -/
  | coreDips
  /-- R423 -/
  | otherDips
  /-- R19 -/
  | staleItems
  /-- R420 -/
  | contourFailures
  /-- R420 -/
  | storeUncorrectable
  /-- Table 10.9 -/
  | sessions
  /-- Table 10.9 -/
  | sessionRefusals
  /-- Table 10.9 -/
  | taggedDuring
  /-- Table 10.9 -/
  | closesDiscarded
  /-- Table 10.9 -/
  | signatures
  /-- Table 12.5 -/
  | modeChanges
  /-- Table 12.5 -/
  | requestsRefused
  /-- Table 12.5 -/
  | requestsDeferred
  /-- Table 12.5 -/
  | bearingsNotOpened
  /-- Table 12.5 -/
  | idleHolds
  /-- Table 12.5 -/
  | safeStops
  /-- Table 13.11 -/
  | exchanges
  /-- Table 13.11 -/
  | safetyAccepted
  /-- Table 13.11 -/
  | safetyDiscarded
  /-- Table 13.11 -/
  | connectionExpiries
  /-- Table 13.11 -/
  | energyVetoes
  /-- Table 13.11 -/
  | speedWithdrawals
  /-- Table 13.11 -/
  | implausibleGaps
  /-- Table 9.11 -/
  | upDiscarded
  /-- Table 9.11 -/
  | pointsDropped
  /-- Table 9.11 -/
  | discardedLinkDown
  /-- Table 9.11 -/
  | trainingTimeouts
  /-- Table 9.11 -/
  | bringUpFailures
  /-- Table 9.11 -/
  | retrains
  /-- Table 9.11 -/
  | linkDowns
  /-- Table 14.8 -/
  | runsAdopted
  /-- Table 14.8 -/
  | runsAbandoned
  /-- Table 14.8 -/
  | runsRejected
  /-- Table 14.8 -/
  | derivedSets
  /-- Table 14.8 -/
  | gapsYielded
  /-- Table 14.8 -/
  | warningEntries
  /-- Table 14.8 -/
  | throttleSteps
  /-- Table 14.8 -/
  | shutdowns
  /-- Table 14.8 -/
  | sensorFaults
  /-- Table 16.13 -/
  | segmentsWritten
  /-- Table 16.13 -/
  | triggers
  /-- Table 16.13 -/
  | joins
  /-- Table 16.13 -/
  | refusals
  /-- Table 16.13 -/
  | commits
  /-- Table 16.13 -/
  | releases
  /-- Table 16.13 -/
  | stagingDrops
  /-- Table 16.13 -/
  | correctedBits
  /-- Table 16.13 -/
  | uncorrectablePages
  /-- Table 16.13 -/
  | grownBad
  /-- Table 16.13 -/
  | headerLosses
  /-- Table 16.13 -/
  | closuresAtMount
  /-- Table 16.13 -/
  | scrubCopies
  /-- Table 15.8 -/
  | conversions
  /-- Table 15.8 -/
  | urgentRefused
  /-- Table 15.8 -/
  | readbacksDiscarded
  /-- Table 15.8 -/
  | refFaults
  /-- Table 15.8 -/
  | noDataSheets
  /-- R433 -/
  | eventsLogged
  /-- R433 -/
  | logOverwrites
  /-- Table 13.11, per input 0 and 1 -/
  | discrepancies (unit : Nat)
  /-- Table 9.11, lanes 0 to 3 and upstream -/
  | checkerErrors (unit : Nat)
  /-- Table 9.11, lanes 0 to 3 and upstream -/
  | checkerBits (unit : Nat)
  /-- Table 9.11, lanes 0 to 3 and upstream -/
  | checkerSyncLosses (unit : Nat)
  /-- Table 14.8, kind 0 field, 1 Start, 2 recovery, 3 Datum -/
  | runsStarted (unit : Nat)
  /-- Table 16.13, per movement channel -/
  | halts (unit : Nat)
  /-- Table 16.13, per movement channel -/
  | abandonments (unit : Nat)
  /-- Table 15.8, per auxiliary input -/
  | rangeChanges (unit : Nat)
  /-- Table 15.8, per auxiliary input -/
  | overvoltages (unit : Nat)
  /-- Table 15.8, per auxiliary input -/
  | overRanges (unit : Nat)
  /-- Table 15.8, per auxiliary input -/
  | pairFaults (unit : Nat)
  /-- Table 3.8 text, per bank -/
  | bankFaults (unit : Nat)
  /-- Table 13.11, per bank -/
  | nearVetoes (unit : Nat)
  /-- Table 4.9, per channel -/
  | overDepth (unit : Nat)
  /-- Table 4.9, per channel -/
  | overloadEntries (unit : Nat)
  /-- Table 4.9, per channel -/
  | tdcDrops (unit : Nat)
  /-- R24, per channel -/
  | contextDrops (unit : Nat)
  /-- Table 7.5, per channel -/
  | restarts (unit : Nat)
  /-- Table 7.5, per channel -/
  | heldOutputs (unit : Nat)
  /-- Table 7.5, per channel -/
  | invalidPreWindows (unit : Nat)
  /-- Table 6.8, per engine -/
  | eventsApplied (unit : Nat)
  /-- Table 6.8, per engine -/
  | eventsDropped (unit : Nat)
  /-- Table 6.8, per engine -/
  | dropsInLastSheet (unit : Nat)
  /-- Table 6.8, per engine -/
  | strayItems (unit : Nat)
  /-- Table 6.8, per engine -/
  | discardedContexts (unit : Nat)
  /-- Table 6.8, per engine -/
  | countMismatches (unit : Nat)
  /-- Table 6.8, per engine -/
  | correctableEcc (unit : Nat)
  /-- Table 6.8, per engine -/
  | uncorrectableEcc (unit : Nat)
  /-- Table 6.8, per engine -/
  | testsSkipped (unit : Nat)
  deriving DecidableEq, Repr

/-- Where a counter is kept: its byte address of Table 17.8 for a device counter, a key above 0x10000 for one that is
presented through a page (R435). -/
def counterKey : Counter → Nat
  | .hallInvalid => 0x100
  | .stall => 0x104
  | .posDisagree => 0x108
  | .overcurrent => 0x10C
  | .biasSteps => 0x110
  | .lockLoss => 0x12C
  | .refLoss => 0x130
  | .refMismatch => 0x134
  | .timeSteps => 0x138
  | .timeSyncDiscarded => 0x13C
  | .substitutions => 0x140
  | .rezoomSkipped => 0x144
  | .dumpsSkipped => 0x148
  | .bgSaturations => 0x150
  | .interferencePoints => 0x154
  | .rainLikeEchoes => 0x158
  | .neighbourWaits => 0x15C
  | .records => 0x160
  | .zeroEcho => 0x164
  | .coarseOnly => 0x168
  | .contourEcc => 0x16C
  | .coreDips => 0x170
  | .otherDips => 0x174
  | .staleItems => 0x178
  | .contourFailures => 0x17C
  | .storeUncorrectable => 0x180
  | .sessions => 0x198
  | .sessionRefusals => 0x19C
  | .taggedDuring => 0x1A0
  | .closesDiscarded => 0x1A4
  | .signatures => 0x1A8
  | .modeChanges => 0x1B0
  | .requestsRefused => 0x1B4
  | .requestsDeferred => 0x1B8
  | .bearingsNotOpened => 0x1BC
  | .idleHolds => 0x1C0
  | .safeStops => 0x1C4
  | .exchanges => 0x1D0
  | .safetyAccepted => 0x1D4
  | .safetyDiscarded => 0x1D8
  | .connectionExpiries => 0x1E0
  | .energyVetoes => 0x1E4
  | .speedWithdrawals => 0x1F0
  | .implausibleGaps => 0x1F4
  | .upDiscarded => 0x218
  | .pointsDropped => 0x21C
  | .discardedLinkDown => 0x220
  | .trainingTimeouts => 0x224
  | .bringUpFailures => 0x228
  | .retrains => 0x22C
  | .linkDowns => 0x230
  | .runsAdopted => 0x2A0
  | .runsAbandoned => 0x2A4
  | .runsRejected => 0x2A8
  | .derivedSets => 0x2AC
  | .gapsYielded => 0x2B0
  | .warningEntries => 0x2B4
  | .throttleSteps => 0x2B8
  | .shutdowns => 0x2BC
  | .sensorFaults => 0x2C0
  | .segmentsWritten => 0x2D0
  | .triggers => 0x2D4
  | .joins => 0x2D8
  | .refusals => 0x2DC
  | .commits => 0x2E0
  | .releases => 0x2E4
  | .stagingDrops => 0x2E8
  | .correctedBits => 0x2EC
  | .uncorrectablePages => 0x2F0
  | .grownBad => 0x2F4
  | .headerLosses => 0x2F8
  | .closuresAtMount => 0x2FC
  | .scrubCopies => 0x300
  | .conversions => 0x390
  | .urgentRefused => 0x4B4
  | .readbacksDiscarded => 0x4B8
  | .refFaults => 0x4BC
  | .noDataSheets => 0x4C0
  | .eventsLogged => 0xC00
  | .logOverwrites => 0xC04
  | .discrepancies u => 0x1E8 + 0x4 * u
  | .checkerErrors u => 0x234 + 0x4 * u
  | .checkerBits u => 0x248 + 0x8 * u
  | .checkerSyncLosses u => 0x270 + 0x4 * u
  | .runsStarted u => 0x290 + 0x4 * u
  | .halts u => 0x304 + 0x8 * u
  | .abandonments u => 0x308 + 0x8 * u
  | .rangeChanges u => 0x394 + 0x4 * u
  | .overvoltages u => 0x3DC + 0x4 * u
  | .overRanges u => 0x424 + 0x4 * u
  | .pairFaults u => 0x46C + 0x4 * u
  | .bankFaults u => 0x580 + 0x4 * u
  | .nearVetoes u => 0x600 + 0x4 * u
  | .overDepth u => 0x10000 + 0x10 * u
  | .overloadEntries u => 0x10001 + 0x10 * u
  | .tdcDrops u => 0x10002 + 0x10 * u
  | .contextDrops u => 0x10003 + 0x10 * u
  | .restarts u => 0x10004 + 0x10 * u
  | .heldOutputs u => 0x10005 + 0x10 * u
  | .invalidPreWindows u => 0x10006 + 0x10 * u
  | .eventsApplied u => 0x20000 + 0x10 * u
  | .eventsDropped u => 0x20001 + 0x10 * u
  | .dropsInLastSheet u => 0x20002 + 0x10 * u
  | .strayItems u => 0x20003 + 0x10 * u
  | .discardedContexts u => 0x20004 + 0x10 * u
  | .countMismatches u => 0x20005 + 0x10 * u
  | .correctableEcc u => 0x20006 + 0x10 * u
  | .uncorrectableEcc u => 0x20007 + 0x10 * u
  | .testsSkipped u => 0x20008 + 0x10 * u

/-- Width in bits. -/
def counterWidth : Counter → Nat
  | .hallInvalid => 16
  | .stall => 16
  | .posDisagree => 16
  | .overcurrent => 16
  | .biasSteps => 32
  | .lockLoss => 16
  | .refLoss => 16
  | .refMismatch => 16
  | .timeSteps => 32
  | .timeSyncDiscarded => 32
  | .substitutions => 8
  | .rezoomSkipped => 32
  | .dumpsSkipped => 32
  | .bgSaturations => 32
  | .interferencePoints => 32
  | .rainLikeEchoes => 32
  | .neighbourWaits => 32
  | .records => 32
  | .zeroEcho => 32
  | .coarseOnly => 32
  | .contourEcc => 16
  | .coreDips => 32
  | .otherDips => 32
  | .staleItems => 32
  | .contourFailures => 16
  | .storeUncorrectable => 16
  | .sessions => 32
  | .sessionRefusals => 32
  | .taggedDuring => 32
  | .closesDiscarded => 32
  | .signatures => 32
  | .modeChanges => 32
  | .requestsRefused => 32
  | .requestsDeferred => 32
  | .bearingsNotOpened => 32
  | .idleHolds => 16
  | .safeStops => 16
  | .exchanges => 32
  | .safetyAccepted => 32
  | .safetyDiscarded => 32
  | .connectionExpiries => 16
  | .energyVetoes => 16
  | .speedWithdrawals => 16
  | .implausibleGaps => 16
  | .upDiscarded => 32
  | .pointsDropped => 32
  | .discardedLinkDown => 32
  | .trainingTimeouts => 32
  | .bringUpFailures => 32
  | .retrains => 32
  | .linkDowns => 16
  | .runsAdopted => 32
  | .runsAbandoned => 32
  | .runsRejected => 32
  | .derivedSets => 32
  | .gapsYielded => 32
  | .warningEntries => 32
  | .throttleSteps => 32
  | .shutdowns => 16
  | .sensorFaults => 16
  | .segmentsWritten => 32
  | .triggers => 16
  | .joins => 16
  | .refusals => 16
  | .commits => 16
  | .releases => 16
  | .stagingDrops => 32
  | .correctedBits => 32
  | .uncorrectablePages => 16
  | .grownBad => 16
  | .headerLosses => 16
  | .closuresAtMount => 16
  | .scrubCopies => 32
  | .conversions => 32
  | .urgentRefused => 16
  | .readbacksDiscarded => 32
  | .refFaults => 16
  | .noDataSheets => 32
  | .eventsLogged => 32
  | .logOverwrites => 32
  | .discrepancies _ => 16
  | .checkerErrors _ => 32
  | .checkerBits _ => 64
  | .checkerSyncLosses _ => 16
  | .runsStarted _ => 32
  | .halts _ => 16
  | .abandonments _ => 16
  | .rangeChanges _ => 32
  | .overvoltages _ => 16
  | .overRanges _ => 16
  | .pairFaults _ => 16
  | .bankFaults _ => 32
  | .nearVetoes _ => 32
  | .overDepth _ => 32
  | .overloadEntries _ => 32
  | .tdcDrops _ => 32
  | .contextDrops _ => 32
  | .restarts _ => 32
  | .heldOutputs _ => 32
  | .invalidPreWindows _ => 32
  | .eventsApplied _ => 32
  | .eventsDropped _ => 32
  | .dropsInLastSheet _ => 32
  | .strayItems _ => 32
  | .discardedContexts _ => 32
  | .countMismatches _ => 16
  | .correctableEcc _ => 32
  | .uncorrectableEcc _ => 16
  | .testsSkipped _ => 32

/-- Saturating (true) or modular (R431). -/
def counterSaturates : Counter → Bool
  | .hallInvalid => true
  | .stall => true
  | .posDisagree => true
  | .overcurrent => true
  | .biasSteps => true
  | .lockLoss => true
  | .refLoss => true
  | .refMismatch => true
  | .timeSteps => true
  | .timeSyncDiscarded => true
  | .substitutions => true
  | .rezoomSkipped => true
  | .dumpsSkipped => true
  | .bgSaturations => true
  | .interferencePoints => false
  | .rainLikeEchoes => false
  | .neighbourWaits => true
  | .records => false
  | .zeroEcho => true
  | .coarseOnly => true
  | .contourEcc => true
  | .coreDips => true
  | .otherDips => true
  | .staleItems => true
  | .contourFailures => true
  | .storeUncorrectable => true
  | .sessions => true
  | .sessionRefusals => true
  | .taggedDuring => true
  | .closesDiscarded => true
  | .signatures => true
  | .modeChanges => true
  | .requestsRefused => true
  | .requestsDeferred => true
  | .bearingsNotOpened => true
  | .idleHolds => true
  | .safeStops => true
  | .exchanges => false
  | .safetyAccepted => false
  | .safetyDiscarded => true
  | .connectionExpiries => true
  | .energyVetoes => true
  | .speedWithdrawals => true
  | .implausibleGaps => true
  | .upDiscarded => true
  | .pointsDropped => true
  | .discardedLinkDown => true
  | .trainingTimeouts => true
  | .bringUpFailures => true
  | .retrains => true
  | .linkDowns => true
  | .runsAdopted => true
  | .runsAbandoned => true
  | .runsRejected => true
  | .derivedSets => true
  | .gapsYielded => true
  | .warningEntries => true
  | .throttleSteps => true
  | .shutdowns => true
  | .sensorFaults => true
  | .segmentsWritten => true
  | .triggers => true
  | .joins => true
  | .refusals => true
  | .commits => true
  | .releases => true
  | .stagingDrops => true
  | .correctedBits => true
  | .uncorrectablePages => true
  | .grownBad => true
  | .headerLosses => true
  | .closuresAtMount => true
  | .scrubCopies => true
  | .conversions => false
  | .urgentRefused => true
  | .readbacksDiscarded => true
  | .refFaults => true
  | .noDataSheets => true
  | .eventsLogged => false
  | .logOverwrites => true
  | .discrepancies _ => true
  | .checkerErrors _ => true
  | .checkerBits _ => true
  | .checkerSyncLosses _ => true
  | .runsStarted _ => true
  | .halts _ => true
  | .abandonments _ => true
  | .rangeChanges _ => true
  | .overvoltages _ => true
  | .overRanges _ => true
  | .pairFaults _ => true
  | .bankFaults _ => true
  | .nearVetoes _ => true
  | .overDepth _ => false
  | .overloadEntries _ => true
  | .tdcDrops _ => true
  | .contextDrops _ => true
  | .restarts _ => true
  | .heldOutputs _ => true
  | .invalidPreWindows _ => true
  | .eventsApplied _ => false
  | .eventsDropped _ => true
  | .dropsInLastSheet _ => true
  | .strayItems _ => true
  | .discardedContexts _ => true
  | .countMismatches _ => true
  | .correctableEcc _ => true
  | .uncorrectableEcc _ => true
  | .testsSkipped _ => true

/-- The value of a counter in the sparse table; an unlisted counter is 0. -/
def counterIn (t : Table Nat) (c : Counter) : Nat := Table.getD 0 t (counterKey c)

/-- A counter after `n` more events (R431). -/
def counterNext (c : Counter) (v n : Nat) : Nat :=
  if counterSaturates c then min (2 ^ counterWidth c - 1) (v + n) else (v + n) % 2 ^ counterWidth c

/-- Write a counter. -/
def counterPut (t : Table Nat) (c : Counter) (v : Nat) : Table Nat :=
  if v = 0 then Table.del t (counterKey c) else Table.put t (counterKey c) v

/-- Count `n` events. -/
def counterAdd (t : Table Nat) (c : Counter) (n : Nat) : Table Nat :=
  counterPut t c (counterNext c (counterIn t c) n)

end Sys2Proof.Machine
end

