-- ==== Sys2Proof/Machine/Identity.lean ====
section
/-! DEFINITION. What production leaves in the device: the root key in ROM, the two certificates and the wrapped device key
(R243, R247). -/

namespace Sys2Proof.Machine

open Sys2Proof

/-- The family code of the DX1536 (R2, R273). -/
def familyCode : Nat := 0x44581536

/-- The 64 bytes of a public key (R248). -/
def keyBytes (q : Nat × Nat) : List Byte := leBytes 32 q.1 ++ leBytes 32 q.2

/-- A free value as a scalar of P-256, 1 to n - 1 (Table 10.3). -/
def scalarOf (x : Nat) : Nat := x % (p256N - 1) + 1

/-- The Grenward root public key, held in ROM. -/
def rootKey : Nat × Nat := ecPublic (scalarOf Config.rootSecret)

/-- A certificate of the 192-byte layout of Table 10.3, signed by its issuer over SHA-256 of bytes 0 to 127. -/
def certificate (kind family die : Nat) (subject : Nat × Nat) (issuerSecret : Nat) : List Byte :=
  let info := Config.certInfo kind
  let head := leBytes 8 (field 16 48 1 + field 8 40 kind + field 32 0 family) ++ leBytes 8 (info 0) ++
    (sha256 (keyBytes (ecPublic issuerSecret))).take 16 ++ leBytes 8 die ++
    leBytes 8 (field 16 48 (info 1) + field 8 40 (info 2)) ++ keyBytes subject ++ zeros 16
  head ++ keyBytes (ecdsaSign issuerSecret (scalarOf (info 3)) (sha256 head))

/-- The production CA certificate: kind 2, under the root. -/
def caCertificate : List Byte := certificate 2 0 0 (ecPublic (scalarOf Config.caSecret)) (scalarOf Config.rootSecret)

/-- The device certificate: kind 3, of the public key of d, under the production CA. -/
def deviceCertificate : List Byte :=
  certificate 3 familyCode (Config.dieIdentity % 2 ^ 64) (ecPublic (scalarOf Config.deviceKey)) (scalarOf Config.caSecret)

/-- K_p (R243). -/
def kPuf (helper : List Byte) : List Byte := (List.range 32).map (Config.pufKey helper)

/-- The device key wrapped under K_p: ciphertext and tag. -/
def wrappedKey : List Byte × List Byte :=
  gcmSeal (kPuf Config.pufHelper) ((List.range 12).map Config.wrapIv) [] (leBytes 32 (scalarOf Config.deviceKey))

end Sys2Proof.Machine
end

