-- ==== Sys2Proof/Machine/LegendTypes.lean ====
section
/-! DEFINITION. The records of the Legend image as the units hold them after loading (11_legend_image.md).
Numbers stand in the unit named at each field; the default is the Default column of the record's table. -/

namespace Sys2Proof.Machine

open Sys2Proof

/-- Scan and motor record, type 0x01 (Table 11.5, Tables 2.1, 2.2, 2.4, 5.2). -/
structure ScanRec where
  /-- facets F -/
  facets : Nat := 6
  /-- sheet rate r_s, sheets/s -/
  rs : Nat := 20
  /-- motor pole pairs P -/
  poles : Nat := 6
  /-- facet-edge angle, 0.1 degree electrical -/
  edgeAngle : Nat := 0
  /-- facet gap g, 1/10,000 facet -/
  gap : Nat := 360
  /-- ramp length N_r, sheets -/
  rampLen : Nat := 8
  /-- motor PWM, kHz -/
  pwmKHz : Nat := 25
  /-- dead time, 25 ns units -/
  deadTime : Nat := 16
  /-- phase current limit, converter codes -/
  currentLimit : Nat := 3000
  /-- acceleration, rpm/s -/
  accel : Nat := 100
  /-- observer tolerance, degree electrical -/
  observerTol : Nat := 30
  /-- supply channel, AUX_IN number -/
  supplyCh : Nat := 15
  /-- speed loop Kp, unsigned 8.8 -/
  kp : Nat := 0x0180
  /-- speed loop Ki, unsigned 8.8 -/
  ki : Nat := 0x0020
  /-- camera lock enable -/
  sync : Bool := false
  /-- active edge: true falling -/
  edgeFalling : Bool := false
  /-- divider n -/
  divider : Nat := 1
  /-- camera offset, us -/
  offsetUs : Nat := 0
  /-- CLK_OUT enable -/
  clkOut : Bool := false
  /-- CLK_OUT divider N -/
  clkDiv : Nat := 256
  /-- CLK_OUT delay, 156.25 ps units -/
  clkDelay : Nat := 0
  deriving DecidableEq, Repr

/-- Bias record, type 0x02 (Table 4.3); voltages in mV. -/
structure BiasRec where
  vEx : Nat := 3000
  vLo : Nat := 22000
  vHi : Nat := 28000
  vMin : Nat := 22000
  vMax : Nat := 28000
  vOv : Nat := 28500
  deadBand : Nat := 10
  stepLimit : Nat := 40
  rbTol : Nat := 300
  /-- second sense AUX_IN, 255 none -/
  second : Nat := 255
  deriving DecidableEq, Repr

/-- Board record, type 0x03 (Table 3.4). -/
structure BoardRec where
  /-- bank of slots 0 to 7; 255 empty -/
  banks : List Nat := []
  /-- board type -/
  type : Nat := 0
  ntcA : Nat := 0
  ntcB : Nat := 0
  /-- stagger position of slots 0 to 7 -/
  pos : List Nat := []
  deriving DecidableEq, Repr

/-- Board type record, type 0x04 (Table 3.5). -/
structure BoardType where
  diagCode : Nat := 80
  /-- degC -/
  tOff : Nat := 100
  /-- degC -/
  knee : Nat := 70
  /-- channels -/
  nRef : Nat := 24
  /-- ns -/
  tRef : Nat := 48
  /-- current setting for codes 0 to 255 -/
  curve : List Nat := []
  deriving DecidableEq, Repr

/-- Mode table, type 0x05 (Table 11.6). -/
structure ModeTable where
  /-- bearings N_b -/
  nb : Nat := 1200
  /-- slots per period Q -/
  q : Nat := 6
  /-- interleave depth D -/
  d : Nat := 6
  /-- range window W, ns -/
  w : Nat := 2048
  /-- stagger, ns -/
  stagger : Nat := 500
  shotMin : Nat := 4
  /-- energy cell n_c, periods -/
  nc : Nat := 15
  /-- coincidence count k -/
  k : Nat := 2
  /-- coincidence window tau, 0.25 ns units -/
  tau : Nat := 4
  /-- overload level L_ov, SPADs -/
  lOv : Nat := 12
  /-- t_rec, ns -/
  tRec : Nat := 60
  /-- t_blank, 0.5 ns units -/
  tBlank : Nat := 8
  /-- scale shift s -/
  scale : Nat := 0
  /-- track start n_0, coarse bins -/
  n0 : Nat := 2
  /-- 0 Quiet, 1 Balanced, 2 Agile, 3 Settle -/
  preset : Nat := 1
  /-- m_0, 1/8 events -/
  m0 : Nat := 64
  /-- kappa, 1/16 -/
  kappa : Nat := 80
  tMin : Nat := 2
  /-- gamma, 0.1 % per V -/
  gamma : Nat := 290
  boost : Bool := true
  /-- V_q, mV -/
  vq : Nat := 20
  /-- n_g, coarse bins -/
  ng : Nat := 5
  /-- gain g_n -/
  gn : Nat := 2
  nRain : Nat := 83
  /-- w_x, 0.25 ns units -/
  wx : Nat := 8
  /-- N_s -/
  ns : Nat := 2
  /-- support distance, coarse bins -/
  db : Nat := 2
  cHard : Nat := 160
  lIf : Nat := 4
  /-- bank enable mask, 32 bits -/
  banks : Nat := 0xFFFFFFFF
  /-- group enable mask, 64 bits -/
  groups : Nat := 0xFFFFFFFFFFFFFFFF
  deriving DecidableEq, Repr

/-- Dump selector, type 0x07 (Table 6.7). -/
structure DumpSel where
  enable : Bool := false
  firstCh : Nat := 0
  lastCh : Nat := 0
  firstBe : Nat := 0
  lastBe : Nat := 0
  divider : Nat := 1
  phase : Nat := 0
  deriving DecidableEq, Repr

/-- Auxiliary plan entry, type 0x0B (Table 11.7). -/
structure AuxEntry where
  enable : Bool := false
  /-- settling, 10 us units -/
  settling : Nat := 10
  period : Nat := 2
  /-- 0 auto, 1 to 3 fixed -/
  range : Nat := 0
  excitation : Bool := true
  pair : Bool := false
  partner : Nat := 0
  /-- converter codes -/
  pairLimit : Nat := 4096
  deriving DecidableEq, Repr

/-- One zone of a distance output record (Table 15.5). -/
structure Zone where
  enable : Bool := false
  firstRow : Nat := 0
  lastRow : Nat := 0
  firstCol : Nat := 0
  lastCol : Nat := 0
  firstBe : Nat := 0
  lastBe : Nat := 0
  /-- cm; 0 means d_max -/
  limit : Nat := 0
  deriving DecidableEq, Repr

/-- Distance output record, type 0x0C (Table 15.5). -/
structure DistRec where
  freq : Bool := false
  /-- cm -/
  dMax : Nat := 2000
  cMin : Nat := 64
  /-- ms -/
  tp : Nat := 10
  fNear : Nat := 1000
  fFar : Nat := 100
  fClear : Nat := 50
  fNoData : Nat := 20
  zones : List Zone := []
  deriving DecidableEq, Repr

/-- Lane test plan, type 0x0E (Table 9.9). -/
structure LanePlan where
  lanes : Nat := 0x0F
  patDown : Nat := 3
  patUp : Nat := 1
  loopback : Bool := false
  /-- s -/
  duration : Nat := 10
  ks : Nat := 0
  burst : Nat := 0
  kb : Nat := 20
  deriving DecidableEq, Repr

/-- Limits of the safety block for one bank (Table 11.8). -/
structure EnergyRec where
  /-- 0.01 nJ/ns -/
  e1 : Nat := 1
  /-- nJ -/
  eSp : Nat := 1
  /-- 0.01 uJ -/
  eCell : Nat := 1
  /-- 0.1 uJ -/
  e1s : Nat := 1
  deriving DecidableEq, Repr

/-- Safety block, type 0x20 (Table 11.8). -/
structure SafetyBlock where
  profile : Nat := 0
  identity : Nat := 0
  /-- discrepancy times of inputs 0 and 1, ms -/
  disc0 : Nat := 50
  disc1 : Nat := 50
  /-- T_e, ms -/
  expectation : Nat := 20
  /-- t_r, 0.1 s -/
  ramp : Nat := 20
  energy : Table EnergyRec := []
  deriving DecidableEq, Repr

/-- A calibration override of one bank (R281). -/
structure Override where
  /-- T[i][j] at 8 i + j -/
  walk : List Int := []
  zero : Int := 0
  deriving DecidableEq, Repr

/-- The image as loaded (R274 to R281): what every unit takes its tables from. -/
structure Legend where
  /-- security version v_i -/
  version : Nat := 0
  /-- build identifier, 64 bits -/
  build : Nat := 0
  scan : ScanRec := {}
  bias : BiasRec := {}
  /-- boards in chain order -/
  boards : List BoardRec := []
  boardTypes : Table BoardType := []
  /-- declared modes, by mode code -/
  modes : Table ModeTable := []
  /-- fire tables, by mode code: entry 32 b + i of bank b, 64 bits, 0 where not listed -/
  fire : Table (Table Nat) := []
  dumps : Table (List DumpSel) := []
  /-- FIR coefficients of presets 0, 1, 2 -/
  fir : List (List Int) := []
  /-- content priority: groups from first to last -/
  priority : List Nat := []
  /-- groups kept at widths 3, 2, 1 -/
  keep : List Nat := [64, 64, 48]
  /-- throttle order -/
  throttle : List Nat := []
  /-- field-run trigger, degC -/
  calDeltaT : Nat := 4
  /-- ps -/
  rmsLimit : Nat := 20
  /-- ps -/
  maxLimit : Nat := 60
  /-- codes -/
  trimChange : Nat := 64
  aux : Table AuxEntry := []
  /-- an auxiliary plan record is present -/
  auxPlan : Bool := false
  dist : Table DistRec := []
  /-- ring, s -/
  ringS : Nat := 12
  /-- post time, 0.1 s -/
  post : Nat := 20
  secondCe : Bool := false
  plans : Table LanePlan := []
  /-- host public keys 0 to 3 and escrow key 4: x, y -/
  keys : Table (Nat × Nat) := []
  /-- patches applied: kind and slot -/
  patches : List (Nat × Nat) := []
  overrides : Table Override := []
  safety : SafetyBlock := {}
  deriving DecidableEq, Repr

end Sys2Proof.Machine
end

