-- ==== Sys2Proof/Machine/CoreTypes.lean ====
section
/-! DEFINITION. State of the clocked island: supplies, reset, Graticule, motor, sequencer, banks, bias.
Each field's docstring reads: what it is; width; rule; where its reset value comes from (spec, DC n: design choice
of notes/assumptions/n.md, own: the model's own field). -/

namespace Sys2Proof.Machine

open Sys2Proof

/-- The device state of R291 with the steps of Start kept apart. -/
inductive Phase where
  /-- held in reset (R427, R428, R440) -/
  | reset
  /-- Start, image not accepted (R108, R253, R455) -/
  | start
  /-- Start after image acceptance, or the return to Start of R302 -/
  | spinUp
  /-- a mode runs -/
  | mode
  /-- Safe stop -/
  | safeStop
  deriving DecidableEq, Repr

/-- Graticule states of Table 5.3, coded as Table 5.6 codes them. -/
inductive GratState where
  | searching
  | locked
  | coasting
  | relocking
  | noReference
  deriving DecidableEq, Repr

/-- Supplies and reset (chapters 17 and 18). -/
structure Supply where
  /-- levels of the six rails at the balls as last seen, uV; list; R437; DC 3 -/
  levels : List Nat := [0, 0, 0, 0, 0, 0]
  /-- rails below their warning level; 6 bits; R423; DC 3 -/
  below : List Nat := [0, 1, 2, 3, 4, 5]
  /-- a dip is in progress; 1 bit; R423; spec -/
  dip : Bool := false
  /-- every rail above its return level since, taps; time; R423; spec -/
  returning : Option Nat := none
  /-- instants of the dips begun within the last 1 s; list; R296; spec -/
  dipTimes : List Nat := []
  /-- rail of the last dip; 3 bits; R434; spec -/
  lastRail : Nat := 0
  /-- end of the last dip, taps; time; R296; DC 3 -/
  lastDipEnd : Nat := 0
  /-- reset cause retention cell; 3 bits; R429; spec -/
  resetCause : Nat := 0
  /-- internal power-on reset asserted; 1 bit; R440; spec -/
  por : Bool := true
  /-- nRESET low; 1 bit; R427; DC 3 -/
  nresetLow : Bool := false
  /-- SAMPLE/PRELOAD or EXTEST loaded; 1 bit; R453; DC 3 -/
  jtagHold : Bool := false
  deriving DecidableEq, Repr

/-- Graticule timebase and vehicle time (chapter 5). -/
structure Grat where
  /-- state of Table 5.3; 3 bits; R125; spec -/
  st : GratState := .searching
  /-- reference source: true crystal; 1 bit; R109; spec -/
  crystal : Bool := false
  /-- reference frequency code 0 10 MHz, 1 25 MHz, 2 100 MHz; 2 bits; R109; spec -/
  freq : Nat := 0
  /-- crystal start-up running; 1 bit; R108; DC 3 -/
  crystalWait : Bool := false
  /-- instant at which the reference was last sought, taps; time; R108; DC 3 -/
  detectAt : Nat := 0
  /-- VCO band; 5 bits; R111; spec -/
  band : Nat := 0
  /-- loop control value; 16 bits; R111; DC 3 -/
  control : Nat := 0
  /-- sticky lock-lost; 1 bit; R119; spec -/
  lockLost : Bool := false
  /-- control-margin; 1 bit; R111; spec -/
  controlMargin : Bool := false
  /-- the Graticule has locked since reset release; 1 bit; R116; spec -/
  everLocked : Bool := false
  /-- epoch [63:48] and local counter [47:0]; 64 bits; R116; spec -/
  localTime : Nat := 0
  /-- taps since the last step of the local counter; 5 bits; R116; own -/
  subTap : Nat := 0
  /-- phase of the start oscillator's cycle in progress, 10^-6 tap at its own rate; R119; own -/
  oscPhase : Nat := 0
  /-- TDC, fire-timing, motor and link outputs running; 1 bit; R114; spec -/
  outputs : Bool := false
  /-- 400 MHz and 200 MHz outputs on the start oscillator; 1 bit; R114; spec -/
  startOsc : Bool := true
  /-- reference back while coasting: phase pull running; 1 bit; R120; spec -/
  pulling : Bool := false
  /-- lock declared during a relock at, taps; time; R119; DC 3 -/
  lockedAt : Option Nat := none
  /-- link transmit PLL holds without its reference since, taps; time; R119; DC 3 -/
  pllHold : Option Nat := none
  /-- readings of TS10 and of T_j when Coasting began, 0.25 degC; 2 x 16 bits; R121; DC 3 -/
  coastTs : Int := 0
  coastTj : Int := 0
  /-- change of that reading since, 0.25 degC; 8 bits; R121; spec -/
  deltaT : Int := 0
  /-- CLK_OUT running; 1 bit; R115; spec -/
  clkOut : Bool := false
  /-- instants of the first rising edge of CLK_OUT since it last started, and of its end when it stopped, taps; time; R115;
  DC 3 -/
  clkStart : Nat := 0
  clkEnd : Nat := 0
  /-- CLK_OUT waits for the first sheet-state load after acceptance; 1 bit; R115; DC 3 -/
  clkOutArmed : Bool := false
  /-- V_b, ns; 64 bits; R122; spec -/
  vb : Int := 0
  /-- L_b, 64-bit local time; 64 bits; R122; spec -/
  lb : Nat := 0
  /-- rho, ppb; signed 32 bits; R122; DC 3 -/
  rho : Int := 0
  /-- sigma, ppb; signed; R122; spec -/
  sigma : Int := 0
  /-- offset to be slewed, counted from L_b, ns; signed; R122; spec -/
  slew : Int := 0
  /-- sync state 0 unsynced, 1 synced, 2 stale; 2 bits; R124; spec -/
  sync : Nat := 0
  /-- host time T1 + d and t2 of the previous accepted sample; 2 x 64 bits; R122; spec -/
  prevSample : Option (Nat × Nat) := none
  /-- T1 of the previous accepted message; 64 bits; R122; spec -/
  prevT1 : Option Nat := none
  /-- instant of the last accepted message, taps; time; R124; DC 3 -/
  lastSync : Nat := 0
  /-- pending vehicle-time step, ns; signed; R122; spec -/
  pendingStep : Option Int := none
  /-- step applied at the present sheet's boundary, ns; signed; R123; spec -/
  stepApplied : Option Int := none
  deriving DecidableEq, Repr

/-- Motor drive and bearing clock (chapter 2). -/
structure Motor where
  /-- torque applied by the sequencer; 1 bit; R33; spec -/
  torque : Bool := false
  /-- Hall code sampled; 3 bits; R33; DC 3 -/
  hall : BitVec 3 := 0
  /-- instant of the last Hall edge, taps; time; R31; DC 3 -/
  lastEdge : Option Nat := none
  /-- last Hall interval, taps; time; R31; DC 3 -/
  interval : Nat := 0
  /-- electrical cycle within the facet, modulo P / F; count; R31; DC 3 -/
  cycle : Nat := 0
  /-- consecutive Hall intervals within 1 % of setpoint; count; R34; spec -/
  settleRun : Nat := 0
  /-- speed declared settled; 1 bit; R34; spec -/
  settled : Bool := false
  /-- instant at which speed was declared settled, taps; time; R35; spec -/
  settledAt : Nat := 0
  /-- acceleration ramp running since, taps; time; R34; DC 3 -/
  rampStart : Option Nat := none
  /-- consecutive Hall edges on which the observer disagrees; count; R33; spec -/
  disagree : Nat := 0
  /-- speed loop integral, of setpoint; rational; R33; DC 3 -/
  integral : Rat := 0
  /-- PWM duty, parts of the PWM period; signed; R33; DC 3 -/
  duty : Int := 0
  /-- braking along v_exp since, taps, from this fraction of setpoint; time; R328; DC 3 -/
  brake : Option (Nat × Rat) := none
  /-- motor fault reported to both safety channels; 1 bit; R33; spec -/
  fault : Bool := false
  deriving DecidableEq, Repr

/-- A mode request in the latch (R40, R232). -/
structure Request where
  identity : Nat
  mode : Nat
  plan : Nat
  /-- instant at which it reached the latch, taps -/
  arrival : Nat
  /-- word [63:50] of the request, echoed in the acknowledgement -/
  echo : Nat
  deriving DecidableEq, Repr

/-- A sheet state (R19, Table 1.5 text). -/
structure SheetState where
  /-- mode; 3 bits; R19; spec -/
  mode : Nat := 0
  /-- cap on shots per point; 6 bits; R19; DC 3 -/
  cap : Nat := 32
  /-- bank enable mask; 32 bits; R19; DC 3 -/
  banks : Nat := 0
  /-- boost enable; 1 bit; R19; DC 3 -/
  boost : Bool := false
  /-- channel-group enable mask; 64 bits; R19; DC 3 -/
  groups : Nat := 0
  /-- ramp step k_b of each bank; 32 x 7 bits; R66; DC 3 -/
  rampK : Table Nat := []
  /-- ramp origin of each bank; 32 x 8 bits; R66; DC 3 -/
  rampOrigin : Table Nat := []
  /-- content-priority cut mask; 64 bits; R236; spec -/
  cut : Nat := 0
  deriving DecidableEq, Repr

/-- Camera lock (R36). -/
structure Camera where
  /-- 0 off, 1 acquiring, 2 locked, 3 lost; 2 bits; R36; spec -/
  st : Nat := 0
  /-- speed trim, 10^-9 of setpoint; signed; R36; DC 3 -/
  trim : Int := 0
  /-- phase error e, ns; signed 32 bits; R36; spec -/
  err : Int := 0
  /-- instant of the last reference edge, taps; time; R36; DC 3 -/
  edge : Option Nat := none
  /-- active edges since the reference edge, modulo n; 2 bits; R36; DC 3 -/
  count : Nat := 0
  /-- consecutive sheets with |e| <= 10 us; count; R36; DC 3 -/
  inRun : Nat := 0
  /-- consecutive sheets with |e| > 100 us; count; R36; DC 3 -/
  outRun : Nat := 0
  /-- expected edges missing in a row; count; R36; DC 3 -/
  missing : Nat := 0
  /-- active edges since the last boundary; count; R36; DC 3 -/
  sinceBn : Nat := 0
  deriving DecidableEq, Repr

/-- Why firing stopped inside a sheet (Table 12.3), by close cause of Table 6.5. -/
structure Stop where
  /-- close cause: 2 early, 3 supply dip -/
  cause : Nat
  /-- Safe stop -/
  safe : Bool
  deriving DecidableEq, Repr

/-- A shot that R42 assigns to a bank in a slot. -/
structure Shot where
  bank : Nat
  bearing : Nat
  /-- shot index -/
  q : Nat
  /-- S' -/
  planned : Nat
  /-- fire instant, taps -/
  fire : Nat
  /-- pulse width, taps -/
  width : Nat
  /-- start of the bank's pulse before it -/
  before : Option Nat
  deriving DecidableEq, Repr

/-- Scan sequencer (chapters 1, 2 and 12). -/
structure Seq where
  /-- sheet counter; 32 bits; R31; spec -/
  sheet : Nat := 0
  /-- a sheet is open; 1 bit; R31; spec -/
  sheetOpen : Bool := false
  /-- B_n of the present boundary, taps; time; R31; DC 3 -/
  bn : Nat := 0
  /-- local time of B_n; 64 bits; R204; DC 3 -/
  bnLocal : Nat := 0
  /-- vehicle time of B_n, ns; 64 bits; R226; DC 3 -/
  bnVehicle : Int := 0
  /-- bearing period in progress; none in the facet gap; R31; spec -/
  period : Option Nat := none
  /-- start of that period, taps; time; R31; DC 3 -/
  periodStart : Nat := 0
  /-- next slot of the period; 5 bits; R42; spec -/
  slot : Nat := 0
  /-- facet gaps without a sheet, in Start since speed settled or since then in Safe stop; count; R31, R35; spec -/
  timingBoundaries : Nat := 0
  /-- diagnosed windows taken with both permits in this Start; count; R79; spec -/
  startWindows : Nat := 0
  /-- sheet-state register of parity 0; record; R19; DC 3 -/
  reg0 : SheetState := {}
  /-- sheet-state register of parity 1; record; R19; DC 3 -/
  reg1 : SheetState := {}
  /-- request latch; record; R40; spec -/
  latch : Option Request := none
  /-- depot-key withdrawal latched at, taps; time; R295; spec -/
  keyWithdrawn : Option Nat := none
  /-- bias hold; 1 bit; R296; spec -/
  biasHold : Bool := false
  /-- bias hold due at the next boundary; 1 bit; R296; spec -/
  biasHoldDue : Bool := false
  /-- a bias fault has come in the present Start, which it keeps the device in; 1 bit; R97; spec -/
  startFault : Bool := false
  /-- dip hold; 1 bit; R296; spec -/
  dipHold : Bool := false
  /-- dip hold due at the next boundary; 1 bit; R296; spec -/
  dipHoldDue : Bool := false
  /-- the dip hold has been released and returns at the next boundary; 1 bit; R296; spec -/
  returnDue : Bool := false
  /-- return mode, 0 none; 3 bits; R296; spec -/
  returnMode : Nat := 0
  /-- mode of the sheet in progress; 3 bits; R303; spec -/
  mode : Nat := 0
  /-- result of the last acknowledgement; 3 bits; R303; spec -/
  lastResult : Nat := 0
  /-- the next first sheet opens in Idle (return from Safe stop); 1 bit; R302; spec -/
  returnIdle : Bool := false
  /-- Depot test plan in force; 3 bits; R232; spec -/
  plan : Nat := 0
  /-- fire sheet buffer 0: mode preloaded and its 64-bit entries; 8,192 bytes; R39; DC 3 -/
  buf0 : Nat × Table Nat := (0, [])
  /-- fire sheet buffer 1; 8,192 bytes; R39; DC 3 -/
  buf1 : Nat × Table Nat := (0, [])
  /-- active buffer: true buffer 1; 1 bit; R39; DC 3 -/
  active1 : Bool := false
  /-- firing stopped inside the sheet, close commands due; record; R299; spec -/
  stop : Option Stop := none
  /-- firing is stopped until the next boundary; 1 bit; R310; spec -/
  stopped : Bool := false
  /-- firing is stopped by a dip until the first bearing period that begins after it; 1 bit; R425; spec -/
  dipStop : Bool := false
  /-- at B_n the outputs ran and no bias fault stood, and neither has changed since; 1 bit; R299; spec -/
  resumeOk : Bool := false
  /-- shots armed in the slot begun last, by fire instant; list; R42, R101; spec -/
  shots : List Shot := []
  /-- lowest bearing that may fire since firing resumed in this sheet; count; R300; spec -/
  fireFrom : Nat := 0
  /-- shots per point given by R46, 0 while it does not act; 6 bits; R46; spec -/
  shotLimit : Nat := 0
  /-- even 4 shots per point exceed a limit; 1 bit; R46; spec -/
  exceeded : Bool := false
  /-- energy clamp mask; 32 bits; R52; spec -/
  clampMask : Nat := 0
  /-- failed banks of the sheet (unlit); 32 bits; R80; spec -/
  failedMask : Nat := 0
  /-- camera lock; record; R36; spec -/
  camera : Camera := {}
  /-- k and tau of the previous sheet; bits; R173; DC 3 -/
  prevGate : Option (Nat × Nat) := none
  deriving DecidableEq, Repr

/-- One emitter bank (chapter 3). -/
structure Bank where
  /-- bank state of Table 3.8: 0 enabled, 1 open, 2 dark, 3 short, 4 thermal-off, 5 unassigned; 4 bits; R81; spec -/
  st : Nat := 0
  /-- fault or re-enable confirmed in this gap, taking effect at the next boundary; 4 bits; R77; spec -/
  confirmed : Option Nat := none
  /-- open, dark or short found, apart from the board's temperature, coded as `st`; 4 bits; R77; spec -/
  base : Nat := 0
  /-- ramp code of the last sheet in which it fired; 8 bits; R65; spec -/
  rampCode : Nat := 255
  /-- it fired in the sheet before; 1 bit; R65; spec -/
  fired : Bool := false
  /-- table code of the sheet before; 8 bits; R63; DC 3 -/
  tableCode : Option Nat := none
  /-- sheet code in force; 8 bits; R81; spec -/
  code : Nat := 255
  /-- derating factor f; 5 bits; R70; spec -/
  derate : Nat := 16
  /-- outcome of the last slot, as the word shows it from the close of its window; 3 bits; R81; spec -/
  outcome : Nat := 6
  /-- outcome of the last slot that was taken; 3 bits; R76; spec -/
  last : Nat := 6
  /-- consecutive windows with the last outcome; 4 bits; R81; spec -/
  run : Nat := 0
  /-- sense fault; 1 bit; R76; spec -/
  sense : Bool := false
  /-- outcome of this window's slot, none: not taken; 3 bits; R75; spec -/
  windowOutcome : Option Nat := none
  /-- current setting sent on the chain; 10 bits; R64; spec -/
  setting : Nat := 0
  /-- enable sent on the chain; 1 bit; R59; spec -/
  enable : Bool := false
  /-- start of the last pulse, taps; time; R45; DC 3 -/
  lastPulse : Option Nat := none
  /-- bearings whose open marker has been sent and whose last shot is still to come: shots fired; table; R147; own -/
  opened : Table Nat := []
  /-- dither register; 23 bits; R48; DC 3 -/
  dither : BitVec 23 := 1
  deriving DecidableEq, Repr

/-- Traverse chain and diagnostic window (chapter 3). -/
structure Chain where
  /-- frame count modulo 4; 2 bits; R58; spec -/
  count : Nat := 0
  /-- words of the last frame, board 0 first; 96 bits each; R59; DC 3 -/
  frame : List Nat := []
  /-- the frame of this gap has been sent; 1 bit; R59; spec -/
  sent : Bool := false
  /-- start of the last frame on TRV_OUT, taps; time; R59; spec -/
  frameAt : Option Nat := none
  /-- instant at which this gap's window closed, taps; time; R342; spec -/
  closed : Option Nat := none
  /-- this gap's core segment, its optical segment have been taken; 1 bit each; R342; spec -/
  coreTaken : Bool := false
  opticalTaken : Bool := false
  /-- diagnostic window open; 1 bit; R73; spec -/
  window : Bool := false
  /-- board the next window starts with; 3 bits; R74; spec -/
  startBoard : Nat := 0
  /-- this gap's window began with a board carried over; 1 bit; R343; spec -/
  carried : Bool := false
  /-- slots taken or passed in this window, in order; list of banks; R74; spec -/
  visited : List Nat := []
  /-- the pulse of the present slot has been driven, or held back; 1 bit; R73; DC 3 -/
  slotLit : Bool := false
  /-- boards whose sense multiplexer is behind or unknown; list; R75; spec -/
  muxLost : List Nat := []
  /-- the next gap's window begins with a board carried over; 1 bit; R343; spec -/
  carryNext : Bool := false
  /-- thermal-off boards; list; R69; spec -/
  boardsOff : List Nat := []
  deriving DecidableEq, Repr

/-- SPAD bias (chapter 4). -/
structure Bias where
  /-- BIAS_PWM enabled; 1 bit; R92; spec -/
  on : Bool := false
  /-- duty code d; 12 bits; R92; DC 3 -/
  duty : Nat := 0
  /-- V_cmd, uV; integer; R94; spec -/
  vCmd : Nat := 0
  /-- V_t, uV; integer; R91; DC 3 -/
  vTarget : Nat := 0
  /-- target clamped; 1 bit; R91; spec -/
  clamped : Bool := false
  /-- V_cmd at the last report to the ambient filter engine, uV; none before the first enable; R95; DC 3 -/
  reported : Option Nat := none
  /-- bias fault cause, sticky; 3 bits; R107; spec -/
  fault : Nat := 0
  /-- consecutive readbacks out of tolerance; 2 bits; R96; spec -/
  rbRun : Nat := 0
  /-- consecutive second-path differences above the tolerance; 2 bits; R96; spec -/
  pairRun : Nat := 0
  /-- this boundary applied a bias step; 1 bit; R350; spec -/
  stepped : Bool := false
  /-- instant of the last readback request, or of the enable, taps; time; R96; DC 3 -/
  requestAt : Nat := 0
  /-- instant of the last step whose readback is still due, taps; time; R96; spec -/
  stepAt : Option Nat := none
  /-- a boundary changed V_cmd since the readback's conversion began; 1 bit; R375; spec -/
  spanned : Bool := false
  deriving DecidableEq, Repr

end Sys2Proof.Machine
end

