-- ==== Sys2Proof/Machine/SurveyTypes.lean ====
section
/-! DEFINITION. State of the receiver array, the ambient filter engine, the survey engines, the context store, the
contour units and the packetiser.  Each field's docstring reads: what it is; width; rule; where its reset value
comes from. -/

namespace Sys2Proof.Machine

open Sys2Proof

/-- A 64-bit item of a channel's buffer with its kind line (Tables 1.4 and 4.5). -/
structure Item where
  /-- 0 event, 1 drop, 2 end -/
  kind : Nat
  /-- the 64 data bits -/
  word : Word64
  /-- instant at which it entered the channel's buffer, taps; R151 -/
  at_ : Nat
  deriving DecidableEq, Repr

/-- One entry of the ten-entry holding register (R104). -/
structure HoldEntry where
  /-- the tag of the context's items, event time zero -/
  tag : Word64
  /-- drop tally; 16 bits, saturating -/
  tally : Nat
  /-- an end item is due, with its count -/
  endDue : Option Nat
  deriving DecidableEq, Repr

/-- The arm command in force in a channel's TDC (R100). -/
structure Arm where
  /-- fire instant, taps -/
  fire : Nat
  /-- C_f: coarse count of the fire instant, 64-bit local time -/
  coarse : Nat
  /-- f_f: position within the coarse period, taps -/
  fine : Nat
  /-- end of the range window, taps -/
  stop : Nat
  /-- tag word with event time zero -/
  tag : Word64
  /-- shot index -/
  shot : Nat
  /-- last-shot bit -/
  last : Bool
  /-- tags of the contexts for which a close command asks for an end item after this window (R147) -/
  closing : List Word64
  /-- events converted in this window; 4 bits -/
  converted : Nat
  /-- the bearing has no context: its events go to the channel's drop counter (R24) -/
  noCtx : Bool
  /-- the pre-window's count has been passed on (R105) -/
  preDone : Bool
  deriving DecidableEq, Repr

/-- One channel (chapter 4). -/
structure Chan where
  /-- multi-hit buffer, 8 entries; list; R104; spec -/
  buffer : List Item := []
  /-- holding register, ten entries; list; R104; spec -/
  hold : List HoldEntry := []
  /-- arm command in force; record; R100; spec -/
  arm : Option Arm := none
  /-- arm command that waits behind the range window in force; record; R47; spec -/
  next : Option Arm := none
  /-- events converted for each open context; 9 bits each; R103; spec -/
  converted : Table Nat := []
  /-- instant of the last coincidence event, taps; time; R85; spec -/
  lastEvent : Option Nat := none
  /-- instants of the latest coincidence events, newest first, at most 36, taps; list; R105; own -/
  recent : List Nat := []
  /-- recovery lasts until, taps; time; R88; spec -/
  recovery : Option Nat := none
  /-- end of the last recovery, taps; time; R90; own -/
  recovered : Option Nat := none
  /-- bearings in progress that have no context; list; R24; spec -/
  noCtx : List Nat := []
  /-- ambient accumulator: sum of valid pre-window counts; count; R163; spec -/
  ambSum : Nat := 0
  /-- ambient accumulator: number of valid pre-windows; count; R163; spec -/
  ambWin : Nat := 0
  /-- diagnostic counter; 8 bits; R105; DC 3 -/
  diag : Nat := 0
  deriving DecidableEq, Repr

/-- One path of a CIC decimator of order 2 or 1 and the FIR behind it (R166).  Between outputs the two integrators
are held relative to the block's start, and `prevD` is what the block before contributes to the next output. -/
structure FilterPath where
  /-- sum of the block's readings; count; R166; spec -/
  s : Rat := 0
  /-- sum of the running sums; count; R166; spec -/
  a : Rat := 0
  /-- contribution of the block before; count; R166; spec -/
  prevD : Rat := 0
  /-- FIR delay line, newest first, 16 taps; list; R166; spec -/
  line : List Rat := []
  deriving DecidableEq, Repr

/-- Ambient estimate of one channel (chapter 7). -/
structure Ambient where
  /-- estimate in force (published); events per pre-window; R165; spec -/
  estimate : Rat := 8
  /-- settled mark in force; 1 bit; R175; spec -/
  settled : Bool := false
  /-- output of the round that is not yet published: estimate and settled mark; record; R165; spec -/
  output : Option (Rat × Bool) := none
  /-- restart in Settle running; 1 bit; R168; spec -/
  restarting : Bool := true
  /-- period at which the restart took effect, none: at period 0 of the coming sheet; R168; spec -/
  restartAt : Option Nat := none
  /-- periods counted from the restart in earlier sheets; R168; spec -/
  restartAge : Nat := 0
  /-- cause of the last restart; 3 bits; R182; spec -/
  cause : Nat := 1
  /-- consecutive held outputs; 4 bits; R169; spec -/
  held : Nat := 0
  /-- not settled after four holds: a valid reading starts a restart; 1 bit; R169; spec -/
  waiting : Bool := false
  /-- readings in the present block; count; R166; spec -/
  n : Nat := 0
  /-- count path; record; R166; spec -/
  counts : FilterPath := {}
  /-- window path; record; R166; spec -/
  windows : FilterPath := {}
  /-- Settle block: count sum and windows; R168; spec -/
  settle : Rat × Rat := (0, 0)
  /-- the preset loaded; 2 bits; R166; spec -/
  preset : Nat := 1
  /-- number of the round in which it was evaluated last; count; R164; own -/
  seen : Nat := 0
  /-- ambient word as last published; 32 bits; R182; spec, with m_0 = 8 -/
  word : Nat := 0x20029000
  /-- rate beside the word; 16 bits; R182; spec, with m_0 = 8 -/
  lambda : Nat := 6898
  deriving DecidableEq, Repr

/-- Ambient filter engine as a whole (R164, R165, R174). -/
structure AmbientEngine where
  /-- round in progress: period at which it started, none for the end round; R164; spec -/
  round : Option (Option Nat) := none
  /-- start of the round in progress or awaiting publication, taps; time; R164; DC 3 -/
  roundStart : Nat := 0
  /-- outputs of the round await publication; 1 bit; R165; spec -/
  unpublished : Bool := false
  /-- rounds started; count; R164; own -/
  roundNo : Nat := 0
  /-- factor 1 + gamma dV of the step reported at the last boundary, applied before period 0; R174; own -/
  factor : Rat := 1
  /-- every channel restarts at period 0: cause 0 none, 1 Start, 2 bias step, 3 gate change; R173; own -/
  due : Nat := 0
  /-- channels whose threshold step or mask changed at the last boundary: restart at period 0; R173; own -/
  dueChans : List Nat := []
  /-- the mode's preset changed at the last boundary: stages are loaded at period 0; 1 bit; R173; own -/
  presetDue : Bool := false
  deriving DecidableEq, Repr

/-- One entry of a peak list (W3, W4 of Table 6.3). -/
structure Peak where
  valid : Bool := false
  bin : Nat := 0
  value : Nat := 0
  deriving DecidableEq, Repr

/-- One zoom window (W5, W6 of Table 6.3). -/
structure Win where
  valid : Bool := false
  /-- start z, 62.5 ps -/
  z : Nat := 0
  /-- first shot counted -/
  from_ : Nat := 0
  deriving DecidableEq, Repr

/-- The point flags of W1 [13:5], in that order (Table 6.3). -/
structure Flags where
  unlit : Bool := false
  afterOverload : Bool := false
  settling : Bool := false
  pileUp : Bool := false
  saturation : Bool := false
  interference : Bool := false
  partial_ : Bool := false
  brownout : Bool := false
  reassigned : Bool := false
  deriving DecidableEq, Repr

/-- Where a context stands (R131, R146). -/
inductive CtxPhase where
  | free
  /-- its marker is on the way to the engine -/
  | marked
  | opened
  /-- closed; its contour unit has not finished reading it -/
  | queued
  /-- read; a dump copy is still due -/
  | read
  deriving DecidableEq, Repr

/-- One context: header (Table 6.3), bins and what the engine keeps beside them. -/
structure Ctx where
  /-- phase of R131; 2 bits; R131; spec -/
  ph : CtxPhase := .free
  /-- channel; 11 bits; R136; spec -/
  channel : Nat := 0
  /-- bearing; 12 bits; R136; spec -/
  bearing : Nat := 0
  /-- sheet parity; 1 bit; R136; spec -/
  parity : Bool := false
  /-- mode; 3 bits; R136; spec -/
  mode : Nat := 0
  /-- planned shots; 6 bits; R136; spec -/
  planned : Nat := 0
  /-- shots taken; 6 bits; R136; spec -/
  taken : Nat := 0
  /-- close cause; 3 bits; R146; spec -/
  cause : Nat := 0
  /-- shot index at first placement; 5 bits; R140; spec -/
  placed : Nat := 0
  /-- dropped; 16 bits; R144; spec -/
  dropped : Nat := 0
  /-- foreign count; 16 bits; R180; spec -/
  foreign : Nat := 0
  /-- foreign count as the store holds it, written with W1; 16 bits; R134; spec -/
  kept : Nat := 0
  /-- event items applied; 9 bits; R138; spec -/
  applied : Nat := 0
  /-- count carried by the end item; 9 bits; R146; spec -/
  converted : Nat := 0
  /-- point flags; 9 bits; R9; spec -/
  flags : Flags := {}
  /-- selected for dump; 1 bit; R158; spec -/
  dump : Bool := false
  /-- background, unsigned 4.12; 16 bits; R171; spec -/
  background : Nat := 0
  /-- threshold; 12 bits; R171; spec -/
  threshold : Nat := 0
  /-- preset in force at open; 2 bits; R136; spec -/
  preset : Nat := 0
  /-- block map, bit i - 1 for block i; 27 bits; R133; spec -/
  blocks : Nat := 0
  /-- peak list, four entries; W3, W4; R139; spec -/
  peaks : List Peak := [{}, {}, {}, {}]
  /-- primary windows; W5, W6; R140; spec -/
  wins : List Win := [{}, {}, {}, {}]
  /-- re-zoom context attached; 14 bits; R142; spec -/
  extra : Option Nat := none
  /-- extra windows placed; 3 bits; R142; spec -/
  extras : Nat := 0
  /-- open time: local counter at the fire instant of shot 0; 48 bits; R135; spec -/
  openTime : Nat := 0
  /-- coarse bins; 1,024 x 12 bits; R138; spec -/
  coarse : Table Nat := []
  /-- fine bins, window j at 32 j; 128 x 12 bits; R141; spec -/
  fine : Table Nat := []
  /-- the count check is skipped; 1 bit; R153; spec -/
  skipCheck : Bool := false
  /-- shot of the previous event, its event time, and whether its bin was zero before the shot; R180; spec -/
  prev : Option (Nat × Nat × Bool) := none
  /-- bins first filled in that shot; list; R180; spec -/
  fresh : List Nat := []
  /-- close command received: cause and shots fired; record; R147; spec -/
  closeCmd : Option (Nat × Nat) := none
  /-- dump copies not yet made; count; R131; spec -/
  copies : Nat := 0
  deriving DecidableEq, Repr

/-- A sequencer marker waiting at an engine (R135, R137, R150). -/
structure Marker where
  /-- 0 open, 1 unlit, 2 no context, 3 no context of an unlit point -/
  kind : Nat
  ctx : Nat
  channel : Nat
  bearing : Nat
  parity : Bool
  mode : Nat
  planned : Nat
  openTime : Nat
  /-- estimate and settled mark in force at the start of the bearing period of shot 0 -/
  estimate : Rat
  settled : Bool
  restarting : Bool
  /-- it waited for a spare engine (R153) -/
  reassigned : Bool
  deriving DecidableEq, Repr

/-- An item waiting for a contour unit: a closed context, or a header-only item (R150). -/
structure Work where
  /-- the context, none for a header-only item -/
  ctx : Option Nat
  /-- the header, for unlit and header-only items and for the tag of every item -/
  head : Ctx
  /-- order of closing -/
  order : Nat
  deriving DecidableEq, Repr

/-- One survey engine (Table 6.9). -/
structure Engine where
  /-- 0 active, 1 spare idle, 2 spare serving, 3 failed; 4 bits; R160; spec -/
  st : Nat := 0
  /-- group served, none 0xFF; 8 bits; R160; spec -/
  group : Option Nat := none
  /-- failure cause bit of [19:16], 0 none: 1 test, 2 grant, 3 ecc, 4 count; R151; spec -/
  cause : Nat := 0
  /-- markers waiting; list; R135; spec -/
  markers : List Marker := []
  /-- closed items waiting, oldest first; up to 240; R150; spec -/
  closed : List Work := []
  /-- channel (0 to 23) granted last; 5 bits; R127; DC 3 -/
  rr : Nat := 23
  /-- count mismatches in this sheet; count; R151; spec -/
  mismatches : Nat := 0
  /-- drops in the sheet in progress; count; R145; spec -/
  drops : Nat := 0
  /-- instant of the last grant, taps; time; R151, R152; DC 3 -/
  served : Nat := 0
  /-- the test of this facet gap has completed; 1 bit; R152; spec -/
  tested : Bool := false
  deriving DecidableEq, Repr

/-- Survey engines as a whole (chapter 6). -/
structure Survey where
  /-- the 68 engines; table; R126; spec -/
  engines : Table Engine := []
  /-- the context store, 16,384 contexts; 28 MiB; R130; spec -/
  ctxs : Table Ctx := []
  /-- neighbour peak table, by per-channel context: bearing, parity, peak list; R176; spec -/
  posts : Table (Nat × Bool × List Peak) := []
  /-- instant of each entry's posting, taps; table; R177, R182; DC 3 -/
  postAt : Table Nat := []
  /-- failed engines whose group waits for a spare, in order; list; R153; spec -/
  failures : List Nat := []
  /-- groups lost with no spare; list; R155; spec -/
  lost : List Nat := []
  /-- groups lost whose loss has not yet reached the sheet state; list; R155; spec -/
  lostNow : List Nat := []
  /-- next order of closing; count; R150; own -/
  order : Nat := 0
  /-- pool high-water marks, re-zoom and dump; 9 + 10 bits; R160; spec -/
  highWater : Nat × Nat := (0, 0)
  /-- dump copies waiting: source context, pool context, sheet counter, part; list; R158; spec -/
  dumpQueue : List (Nat × Nat × Nat × Nat) := []
  /-- pool contexts holding a dump copy the link has not sent: pool context, bytes; R159; spec -/
  dumpHeld : Table (List Byte) := []
  /-- dump pool contexts in use; list; R130; spec -/
  dumpUsed : List Nat := []
  deriving DecidableEq, Repr

/-- One echo of a point (Table 8.3). -/
structure Echo where
  range : Nat
  rainLike : Bool
  intensity : Nat
  width : Nat
  confidence : Nat
  /-- bin of the peak entry it was found from -/
  bin : Nat
  /-- width before coding, ps -/
  widthPs : Rat
  deriving DecidableEq, Repr

/-- One point record (Tables 8.2 and 8.3). -/
structure Record where
  offset : Nat
  primary : Nat
  planned : Nat
  taken : Nat
  flags : Flags
  bearing : Nat
  channel : Nat
  echoes : List Echo
  deriving DecidableEq, Repr

/-- One contour unit (chapter 8). -/
structure Unit_ where
  /-- 0 in service, 1 failed; 1 bit; R420; spec -/
  failed : Bool := false
  /-- item held; record; R185; spec -/
  item : Option Work := none
  /-- a read of the item returned an uncorrectable error; 1 bit; R187; spec -/
  ecc : Bool := false
  /-- instant at which its reads ended, taps; time; R177; DC 3 -/
  since : Nat := 0
  /-- instant at which its last item left it, taps; time; R420; DC 3 -/
  freed : Nat := 0
  deriving DecidableEq, Repr

/-- A sheet as the packetiser follows it (R205, R225, R228). -/
structure SheetOut where
  /-- sheet counter -/
  sheet : Nat
  parity : Bool
  mode : Nat
  /-- state of the sheet -/
  state : SheetState
  /-- local time of its B_n -/
  bn : Nat
  /-- sheet header body (Table 9.7) -/
  head : List Byte
  /-- points due: group, bearing, channel; removed when recorded or discarded -/
  due : List (Nat × Nat × Nat)
  /-- records waiting, by group and bearing -/
  waiting : List (Nat × Nat × Record)
  /-- point packets sent, records sent, packets dropped, records cut -/
  packets : Nat
  records : Nat
  dropped : Nat
  cutRecords : Nat
  /-- header bytes sent under the session with this number, none: no header sent -/
  session : Option Nat
  /-- every header and body byte of the sheet stream so far, for the sheet tag -/
  aad : List Byte
  /-- sweep ended or firing stopped for good: no further point comes -/
  ended : Bool
  /-- its trailer is pending on the link -/
  trailed : Bool
  /-- the NEARDIST tally: nearest counted echo (mm) per zone, points delivered and lit per zone -/
  nearest : Table Nat
  delivered : Table Nat
  /-- records that have left the packetiser, for the recorder -/
  released : List Record
  /-- its value has been made ready for NEARDIST -/
  valueDone : Bool
  deriving DecidableEq, Repr

/-- Contour units, packetiser and sheet stream. -/
structure Contour where
  /-- the 16 units; table; R206; spec -/
  units : Table Unit_ := []
  /-- items taken again after a unit failed; list; R420; spec -/
  again : List Work := []
  /-- sheets whose trailer has not been sent, oldest first; list; R205; spec -/
  sheets : List SheetOut := []
  deriving DecidableEq, Repr

/-- A calibration set (R284, R341). -/
structure CalSet where
  /-- trim words by channel; 1,536 x 32 bits; R98; spec -/
  trims : Table Nat := []
  /-- tap maps by channel; 1,536 x 20 bytes; R98; spec -/
  taps : Table (List Nat) := []
  /-- walk tables by bank; 32 x 64 x 16 bits; R198; spec -/
  walk : Table (List Int) := []
  /-- range zeros by bank; 32 x 16 bits; R199; spec -/
  zero : Table Int := []
  /-- fire-timing trims by bank; 32 x 16 bits; R341; spec -/
  fire : Table Int := []
  /-- D_ref; 32 bits; R341; spec -/
  dRef : Int := 0
  /-- S_D; 32 bits; R341; DC 3 -/
  sD : Int := 0
  /-- residual skew per group, RMS and max, 0.1 ps; R355; DC 3 -/
  resid : Table (Nat × Nat) := []
  /-- overall residual skew RMS and max, 0.1 ps; R355; DC 3 -/
  rms : Nat := 0
  max : Nat := 0
  /-- run sequence; 64 bits; R285; DC 3 -/
  seq : Nat := 0
  /-- 0 field run, 1 Datum run; 8 bits; R284; DC 3 -/
  origin : Nat := 0
  /-- T_set, 0.25 degC; 16 bits; R341; DC 3 -/
  tSet : Int := 0
  deriving DecidableEq, Repr

end Sys2Proof.Machine
end

