-- ==== Sys2Proof/Machine/Symbols.lean ====
section
/-! DEFINITION. The symbols of the link: the 8b/10b code, the control symbols and ordered sets of Table 9.2, what is a
code violation (R211, R212), the lane layout of a packet (R220) and the test patterns of a lane test (R239). -/

namespace Sys2Proof.Machine

open Sys2Proof

/-- A symbol: a data byte Dx.y or a control symbol Kx.y, each by its byte y·32 + x (R211). -/
inductive Sym where
  | d (b : Byte)
  | k (b : Byte)
  deriving DecidableEq, Repr

/-! ## Control symbols and ordered sets (Table 9.2) -/

/-- K28.5, first of every ordered set. -/
def comma : Sym := .k 0xBC
/-- D21.5, symbol 3 of every ordered set. -/
def d215 : Sym := .d 0xB5
/-- D10.2, as D21.5 reads on an inverted pair. -/
def d102 : Sym := .d 0x4A
def packetStart : Sym := .k 0xFB
def packetEnd : Sym := .k 0xFD
def padSym : Sym := .k 0xF7

def idlSet : List Sym := [comma, d215, d215, d215]
def slpSet : List Sym := [comma, .k 0xDC, d215, d215]
/-- Alignment marker n. -/
def amSet (n : Nat) : List Sym := [comma, .k 0x7C, .d (BitVec.ofNat 8 n), d215]
/-- Lane identity: physical lane, logical lane, width. -/
def lidSet (phys logical width : Nat) : List Sym :=
  [comma, .k 0x1C, .d (BitVec.ofNat 8 (field 2 6 phys + field 2 4 logical + field 2 2 (width - 1))), d215]
/-- The host's training and lane report. -/
def utsSet (st : Byte) : List Sym := [comma, .k 0x5C, .d st, d215]

/-- The control symbols Table 9.2 lists. -/
def listedControls : List Byte := [0xBC, 0x1C, 0x7C, 0x5C, 0xDC, 0xFB, 0xFD, 0xF7]

/-! ## The 8b/10b code.  PRESUMED: its tables are the common ones; the spec names the code (notes/assumptions/43.md). -/

/-- Six-bit blocks of x = 0 to 31 in negative disparity, first bit most significant. -/
def sixTable : List Nat :=
  [0x27, 0x1D, 0x2D, 0x31, 0x35, 0x29, 0x19, 0x38, 0x39, 0x25, 0x15, 0x34, 0x0D, 0x2C, 0x1C, 0x17] ++
  [0x1B, 0x23, 0x13, 0x32, 0x0B, 0x2A, 0x1A, 0x3A, 0x33, 0x26, 0x16, 0x36, 0x0E, 0x2E, 0x1E, 0x2B]

/-- Four-bit blocks of y = 0 to 7 in negative disparity, of a data symbol. -/
def fourTable : List Nat := [0xB, 0x9, 0x5, 0xC, 0xD, 0xA, 0x6, 0xE]

/-- Four-bit blocks of y = 0 to 7 in negative disparity, of a control symbol; the complement in positive. -/
def fourControl : List Nat := [0xB, 0x6, 0xA, 0xC, 0xD, 0x5, 0x9, 0x7]

/-- The disparity after a block of n bits: it turns exactly when ones and zeros differ in number. -/
def blockDisparity (n block : Nat) (rd : Bool) : Bool := if 2 * popcount n block = n then rd else !rd

/-- Six-bit block of x; positive disparity takes the complement of an unbalanced block, and of D7. -/
def sixData (rd : Bool) (x : Nat) : Nat :=
  let c := sixTable.getD x 0
  if rd && (decide (popcount 6 c ≠ 3) || decide (x = 7)) then 63 - c else c

/-- Six-bit block of a control symbol: K28 has its own. -/
def sixControl (rd : Bool) (x : Nat) : Nat := if x = 28 then (if rd then 0x30 else 0x0F) else sixData rd x

/-- Does Dx.7 take its alternate block, so that five equal bits do not meet? -/
def altSeven (rd : Bool) (x : Nat) : Bool :=
  if rd then decide (x = 11 ∨ x = 13 ∨ x = 14) else decide (x = 17 ∨ x = 18 ∨ x = 20)

/-- Four-bit block of y of a data symbol, in the disparity the six-bit block left. -/
def fourData (rd : Bool) (x y : Nat) : Nat :=
  let c := if y = 7 && altSeven rd x then 0x7 else fourTable.getD y 0
  if rd && (decide (popcount 4 c ≠ 2) || decide (y = 3)) then 15 - c else c

def fourOfControl (rd : Bool) (y : Nat) : Nat := if rd then 15 - fourControl.getD y 0 else fourControl.getD y 0

/-- The ten bits of a symbol in disparity `rd` (true: positive), first bit most significant, and the disparity after. -/
def encodeSym (rd : Bool) (v : Sym) : Nat × Bool :=
  match v with
  | .d b =>
    let x := b.toNat % 32
    let six := sixData rd x
    let mid := blockDisparity 6 six rd
    let four := fourData mid x (b.toNat / 32)
    (16 * six + four, blockDisparity 4 four mid)
  | .k b =>
    let x := b.toNat % 32
    let six := sixControl rd x
    let mid := blockDisparity 6 six rd
    let four := fourOfControl mid (b.toNat / 32)
    (16 * six + four, blockDisparity 4 four mid)

/-- The control symbols the code has. -/
def codeControls : List Byte :=
  [0x1C, 0x3C, 0x5C, 0x7C, 0x9C, 0xBC, 0xDC, 0xFC] ++ [0xF7, 0xFB, 0xFD, 0xFE]

/-- The symbols whose x has the six-bit block `six` in disparity `rd`. -/
def symCandidates (rd : Bool) (six : Nat) : List Sym :=
  ((List.range 32).filter (fun x => decide (sixData rd x = six))).flatMap
      (fun x => (List.range 8).map (fun y => Sym.d (BitVec.ofNat 8 (32 * y + x)))) ++
    (codeControls.filter (fun b => decide (sixControl rd (b.toNat % 32) = six))).map Sym.k

/-- The symbol that ten bits spell in disparity `rd`, none where they are no code in it. -/
def decodeSym (rd : Bool) (code : Nat) : Option Sym :=
  (symCandidates rd (code / 16)).find? (fun v => decide ((encodeSym rd v).1 = code))

/-- The disparity after ten received bits that are no code: that of their ones. -/
def codeDisparity (rd : Bool) (code : Nat) : Bool :=
  if 5 < popcount 10 code then true else if popcount 10 code < 5 then false else rd

/-- The ten bits of symbols, one after another. -/
def encodeSyms : Bool → List Sym → List Nat
  | _, [] => []
  | rd, v :: r => (encodeSym rd v).1 :: encodeSyms (encodeSym rd v).2 r

/-! ## Reception (R211, R212) -/

/-- Where in the stream of words a received symbol stands. -/
inductive RxPlace where
  /-- at a word boundary or in a word that began with neither K28.5 nor K27.7 -/
  | between
  /-- in an ordered set -/
  | inSet
  /-- in a packet -/
  | body
  /-- after K29.7, to the end of its word -/
  | fill
  deriving DecidableEq, Repr

/-- Does a control symbol belong at position `pos` of its word here (Table 9.2)?  Upstream there are IDL, UTS and SLP. -/
def belongs (place : RxPlace) (pos : Nat) (b : Byte) : Bool :=
  match place with
  | .between => decide (pos = 0) && decide (b = 0xBC ∨ b = 0xFB)
  | .inSet => decide (pos = 1) && decide (b = 0x5C ∨ b = 0xDC)
  | .body => decide (b = 0xFD)
  | .fill => decide (b = 0xF7)

/-- The place after a symbol at `pos`. -/
def placeAfter (place : RxPlace) (pos : Nat) (v : Option Sym) : RxPlace :=
  let p : RxPlace := match place, v with
    | .between, some (.k b) => if pos = 0 ∧ b = 0xBC then .inSet else if pos = 0 ∧ b = 0xFB then .body else .between
    | .body, some (.k b) => if b = 0xFD then .fill else .body
    | q, _ => q
  if pos = 3 ∧ (p = .inSet ∨ p = .fill) then .between else p

/-- What a run of received codes holds: the data of its packet, its code violations, its K28.5 off the word alignment,
and the packets it ended. -/
structure RxRun where
  data : List Byte := []
  violations : Nat := 0
  offWord : Nat := 0
  ended : Nat := 0
  deriving DecidableEq, Repr

/-- Note one symbol in front of a run. -/
def rxNote (place : RxPlace) (pos : Nat) (v : Option Sym) (r : RxRun) : RxRun :=
  match v with
  | none => { r with violations := r.violations + 1 }
  | some (.d b) => if place = .body then { r with data := b :: r.data } else r
  | some (.k b) =>
    { r with violations := r.violations + b2n (!belongs place pos b)
             offWord := r.offWord + b2n (decide (b = 0xBC) && decide (pos ≠ 0))
             ended := r.ended + b2n (decide (place = .body) && decide (b = 0xFD)) }

/-- Read codes from the place, position and running disparity given. -/
def rxRead : RxPlace → Nat → Bool → List Nat → RxRun
  | _, _, _, [] => {}
  | place, pos, rd, c :: rest =>
    let v := decodeSym rd c
    let rd' := match v with | none => codeDisparity rd c | some w => (encodeSym rd w).2
    rxNote place pos v (rxRead (placeAfter place pos v) ((pos + 1) % 4) rd' rest)

/-- Where codes leave the reader: the place, the position in the word and the running disparity after them. -/
def rxSkip : RxPlace → Nat → Bool → List Nat → RxPlace × Nat × Bool
  | place, pos, rd, [] => (place, pos, rd)
  | place, pos, rd, c :: rest =>
    let v := decodeSym rd c
    let rd' := match v with | none => codeDisparity rd c | some w => (encodeSym rd w).2
    rxSkip (placeAfter place pos v) ((pos + 1) % 4) rd' rest

/-- The running disparity in which a run begins: the one its first code belongs to. -/
def firstDisparity (codes : List Nat) : Bool := (decodeSym false (codes.headD 0)).isNone

/-- Codes read from a word boundary, in the running disparity before them. -/
def rxWords (rd : Bool) (codes : List Nat) : RxRun := rxRead .between 0 rd codes

/-- Codes read after `before`, which began at a word boundary outside a packet. -/
def rxAfter (before codes : List Nat) : RxRun :=
  let at_ := rxSkip .between 0 (firstDisparity (before ++ codes)) before
  rxRead at_.1 at_.2.1 at_.2.2 codes

/-- One packet: it opens with K27.7 and holds one K29.7. -/
def wholePacket (rd : Bool) (codes : List Nat) : Bool :=
  decide (decodeSym rd (codes.headD 0) = some packetStart) && decide ((rxWords rd codes).ended = 1)

/-- A code as it reads on an inverted pair. -/
def invertCode (c : Nat) : Nat := 1023 - c % 1024

/-! ## Transmission (R211, R213, R218, R220) -/

/-- Fill a lane with K23.7 to the end of its word. -/
def fillWord (l : List Sym) : List Sym := l ++ List.replicate ((4 - l.length % 4) % 4) padSym

/-- Byte j of a packet goes to logical lane j mod N. -/
def laneBytes (n lane : Nat) (l : List Byte) : List Sym :=
  (List.range ((l.length + n - 1) / n)).map (fun i =>
    match l[i * n + lane]? with
    | some b => Sym.d b
    | none => padSym)

/-- A packet as logical lane `lane` of `n` carries it (R220). -/
def packetSyms (n lane : Nat) (l : List Byte) : List Sym :=
  fillWord (packetStart :: laneBytes n lane l ++ [packetEnd])

/-- The physical lanes of a mask, ascending: lane i with its logical number is a pair. -/
def lanesOf (mask : Nat) : List (Nat × Nat) :=
  ((List.range 4).filter (fun i => bit i mask)).map (fun i => (i, popcount i mask))

/-- The same words on every lane of a mask, each told its logical number. -/
def onLanes (mask : Nat) (f : Nat → List Sym) : List (Nat × List Sym) := (lanesOf mask).map (fun e => (e.1, f e.2))

/-- The training pattern of R213 on one lane: one AM word, then 15 LID words. -/
def trainingWords (am phys logical width : Nat) : List Sym :=
  amSet am ++ (List.replicate 15 (lidSet phys logical width)).flatten

/-- The wake of R218: 64 IDL words, then one AM word. -/
def wakeWords (am : Nat) : List Sym := (List.replicate 64 idlSet).flatten ++ amSet am

/-- Link bytes of a packet of `len` bytes on `n` lanes, framing included (R220, R235). -/
def linkBytes (n len : Nat) : Nat := if n = 0 then 0 else n * (((len + n - 1) / n + 2 + 3) / 4 * 4)

/-! ## Test patterns (R239, Table 9.9) -/

/-- Exponents of the polynomial of a pattern code: 0 to 3 for PRBS7, PRBS15, PRBS23 and PRBS31. -/
def prbsTaps (code : Nat) : Nat × Nat :=
  if code = 0 then (7, 6) else if code = 1 then (15, 14) else if code = 2 then (23, 18) else (31, 28)

/-- Is the output inverted?  PRESUMED: ITU-T O.150 inverts 2^15-1, 2^23-1 and 2^31-1 (notes/assumptions/43.md). -/
def prbsInverted (code : Nat) : Bool := decide (code ≠ 0)

/-- The next bit that the last bits of a sequence, newest first, predict. -/
def prbsPredict (code : Nat) (last : List Bool) : Bool :=
  Bool.xor (last.getD ((prbsTaps code).1 - 1) false) (last.getD ((prbsTaps code).2 - 1) false)

/-- Is bit n of a tested lane inverted by the plan: one bit every 2^k_s, one burst of B every 2^k_b? -/
def injected (ks burst kb n : Nat) : Bool :=
  (decide (ks ≠ 0) && decide (n % 2 ^ ks = 2 ^ ks - 1)) || (decide (burst ≠ 0) && decide (n % 2 ^ kb < burst))

/-- Bits that the plan inverts before bit n.  A single bit never falls in a burst: 2^k_s is 256 or more, B at most 64. -/
def injectedBefore (ks burst kb n : Nat) : Nat :=
  (if ks = 0 then 0 else n / 2 ^ ks) + (if burst = 0 then 0 else n / 2 ^ kb * burst + min burst (n % 2 ^ kb))

/-- Has a checker gained sync: each of the last 64 received bits, newest first, is the one the bits before it predict
(R240)? -/
def checkerGains (code : Nat) (bits_ : List Bool) : Bool :=
  let raw := if prbsInverted code then bits_.map (!·) else bits_
  decide (64 + (prbsTaps code).1 ≤ bits_.length) &&
    (List.range 64).all (fun i => raw.getD i false == prbsPredict code (raw.drop (i + 1)))

/-- Do the numbers of the last 64 wrong bits, oldest first, lie within 1,024 bits (R240)? -/
def checkerLoses (errs : List Nat) : Bool :=
  decide (64 ≤ errs.length) && decide (errs.getLastD 0 < errs.getD (errs.length - 64) 0 + 1024)

end Sys2Proof.Machine
end

