-- ==== Sys2Proof/Machine/LinkTypes.lean ====
section
/-! DEFINITION. State of the link, the security core, the NOR flash and the two safety channels.
Each field's docstring reads: what it is; width; rule; where its reset value comes from. -/

namespace Sys2Proof.Machine

open Sys2Proof

/-- Downstream states of Table 9.10. -/
inductive Down where
  | off
  | clock
  | training
  | data
  | asleep
  | test
  deriving DecidableEq, Repr

/-- What a pending downstream packet still needs when it leaves (R220 to R223). -/
structure Pkt where
  /-- packet type (Table 9.6) -/
  type : Nat
  /-- body without its tag -/
  body : List Byte
  /-- a tag is due under R223 -/
  tagged : Bool
  /-- pool context to free when its K29.7 has been sent -/
  pool : Option Nat
  /-- the sheet whose stream it belongs to, for the sheet tag -/
  stream : Option Nat
  deriving DecidableEq, Repr

/-- An upstream packet that has passed R222 and R223. -/
structure UpPkt where
  /-- packet type -/
  type : Nat
  /-- body without its tag -/
  body : List Byte
  deriving DecidableEq, Repr

/-- A downstream packet as it left (R220, R221). -/
structure Sent where
  /-- header, body, tag and CRC-32 -/
  bytes : List Byte
  /-- lanes it was framed on -/
  lanes : Nat
  deriving DecidableEq, Repr

/-- A checker of R240. -/
structure Checker where
  /-- in sync; 1 bit; R240; spec -/
  sync : Bool := false
  /-- instant at which sync was gained, taps; time; R240; DC 3 -/
  since : Nat := 0
  deriving DecidableEq, Repr

/-- The Etust link (chapter 9). -/
structure Link where
  /-- downstream state; 3 bits; R241; spec -/
  down : Down := .off
  /-- lanes the device intends to use, by physical lane; 4 bits; R213; spec -/
  intended : Nat := 0xF
  /-- the training in progress began with ETXC stopped; 1 bit; R213; own -/
  cold : Bool := true
  /-- lanes that carry the training pattern beside the lanes intended or active; 4 bits; R213; spec -/
  others : Nat := 0
  /-- downstream lanes under test; 4 bits; R239; spec -/
  tested : Nat := 0
  /-- active lanes; 4 bits; R216; spec -/
  active : Nat := 0
  /-- host's good-lane mask; 4 bits; R216; spec -/
  good : Nat := 0
  /-- last st received and the number of identical UTS in a row; R216; DC 3 -/
  st : Nat × Nat := (0, 0)
  /-- st acted on, 256 before the first since training began; 9 bits; R216; own -/
  acted : Nat := 256
  /-- stage of the device's receiver; 4 bits; R214; spec -/
  stage : Nat := 1
  /-- eight consecutive valid UTS or IDL have come in stage 8; 1 bit; R213; spec -/
  confirmed : Bool := false
  /-- upstream polarity corrected; 1 bit; R213; spec -/
  inverted : Bool := false
  /-- upstream asleep; 1 bit; R219; spec -/
  upAsleep : Bool := false
  /-- extra lanes seen good since: mask and instant; R237; DC 3 -/
  rising : Option (Nat × Nat) := none
  /-- lanes good for 1 s, to be retrained at the next boundary; 4 bits; R237; spec -/
  riseDue : Nat := 0
  /-- content-cut width in force at the next boundary; 3 bits; R236; spec -/
  width : Nat := 0
  /-- alignment markers sent, those of a training in progress apart; 8 bits; R211; DC 3 -/
  am : Nat := 0
  /-- instant of the last alignment marker outside training, taps; time; R213; DC 3 -/
  amAt : Nat := 0
  /-- instant of the first training word, taps; time; R213; DC 3 -/
  trainAt : Nat := 0
  /-- the pair of the receiver has been inverted since stage 3; 1 bit; R213; spec -/
  corrected : Bool := false
  /-- instant at which the receiver entered its stage, taps; time; R214; DC 3 -/
  stageAt : Nat := 0
  /-- instant at which the receiver left stage 8, taps; time; R238; DC 3 -/
  leftAt : Nat := 0
  /-- instant at which the width became 0, taps; time; R238; DC 3 -/
  zeroAt : Nat := 0
  /-- instant at which the last packet ends on its lanes, taps; time; R220; DC 3 -/
  busyUntil : Nat := 0
  /-- releases of sheet-stream packets within the last 10 us: instant, link bytes; list; R235; spec -/
  released : List (Nat × Nat) := []
  /-- what the last packet or ordered set put on each physical lane; symbols; R211, R220; DC 3 -/
  line : List (Nat × List Sym) := []
  /-- instant at which the lane test started, taps; time; R239; DC 3 -/
  testAt : Nat := 0
  /-- packet sequence downstream; 16 bits; R221; spec -/
  seqDown : Nat := 0
  /-- packet sequence last received upstream; 16 bits; R222; spec -/
  seqUp : Nat := 0
  /-- safety messages pending; list; R224; spec -/
  q1 : List Pkt := []
  /-- time echoes and mode acknowledgements pending; list; R224; spec -/
  q2 : List Pkt := []
  /-- status, session and readout packets pending; list; R224; spec -/
  q3 : List Pkt := []
  /-- sheet stream: transmit buffer; up to 1 MiB; R235; spec -/
  q4 : List Pkt := []
  /-- dump packets pending; list; R224; spec -/
  q5 : List Pkt := []
  /-- last packet sent; record; R220; DC 3 -/
  sent : Option Sent := none
  /-- token bucket: tokens and the instant of the last refill; R230; DC 3 -/
  tokens : Nat := 64
  refill : Nat := 0
  /-- lane test running: plan; 3 bits; R239; spec -/
  plan : Nat := 0
  /-- a lane test is due to start; 1 bit; R239; spec -/
  testDue : Bool := false
  /-- checkers of lanes 0 to 3 and upstream; table; R240; spec -/
  checkers : Table Checker := []
  /-- the downstream lanes sleep on the next idle (Idle mode); 1 bit; R218; spec -/
  idle : Bool := false
  /-- the link has not been ready since reset or since the last link down; 1 bit; R238; spec -/
  downDeclared : Bool := true
  /-- outputs of the Graticule stopped the link: restart at step 1 when they return; 1 bit; R119; spec -/
  restart : Bool := false
  deriving DecidableEq, Repr

/-- One-time-programmable memory and fused constants (R91, R243, R249, R358). -/
structure Otp where
  /-- claim hash field; 256 fuses; R249; DC 7 -/
  hash : Nat := 0
  /-- claimed fuse; 1 fuse; R249; DC 7 -/
  claimed : Bool := false
  /-- debug-lock fuse; 1 fuse; R250; DC 7 -/
  debugLock : Bool := false
  /-- version fuses; 64 fuses; R249; DC 7 -/
  version : Nat := 0
  /-- the device key d wrapped under K_p; 32 bytes; R243; DC 7 -/
  wrapped : List Byte := wrappedKey.1
  /-- the tag of that wrap; 16 bytes; R243; DC 7 -/
  wrapTag : List Byte := wrappedKey.2
  /-- its IV; 12 bytes; R243; DC 7 -/
  wrapIv : List Byte := (List.range 12).map Config.wrapIv
  /-- helper data from which K_p is reconstructed; bytes; R243; DC 7 -/
  helper : List Byte := Config.pufHelper
  /-- production CA certificate; 192 bytes; R247; DC 7 -/
  caCert : List Byte := caCertificate
  /-- device certificate; 192 bytes; R247; DC 7 -/
  devCert : List Byte := deviceCertificate
  deriving DecidableEq, Repr

/-- A pending establishment (R256). -/
structure Hello where
  /-- host key index -/
  key : Nat
  hostNonce : List Byte
  hostPub : Nat × Nat
  devNonce : List Byte
  /-- ephemeral private key -/
  eph : Nat
  /-- TH -/
  th : List Byte
  /-- signature of the device hello -/
  sig : List Byte
  session : Nat
  /-- instant at which the device hello was sent, taps; none while it waits -/
  at_ : Option Nat
  deriving DecidableEq, Repr

/-- Session keys in force (R223, R256). -/
structure Session where
  number : Nat
  kDown : List Byte
  kUp : List Byte
  /-- packet counters; 48 bits -/
  ctrDown : Nat
  /-- last accepted upstream counter, none before the first -/
  ctrUp : Option Nat
  deriving DecidableEq, Repr

/-- Security core (chapter 10). -/
structure Security where
  /-- image result code; 4 bits; R253; spec -/
  result : Nat := 1
  /-- claim state as read at Start; 2 bits; R249; DC 7 -/
  claim : Nat := 0
  /-- device key d as unwrapped at this Start, none before or where its tag fails; 256 bits; R246; spec -/
  d : Option Nat := none
  /-- start counter; 64 bits; R245; DC 3 -/
  startCounter : Nat := 0
  /-- session established; record; R256; spec -/
  session : Option Session := none
  /-- old sessions kept for the trailers of sheets in transmission; list; R260; spec -/
  old : List Session := []
  /-- establishment running; record; R256; spec -/
  hello : Option Hello := none
  /-- session whose device finish is still to be sent; record; R256; spec -/
  next : Option Session := none
  /-- session number last used; 32 bits; R256; spec -/
  number : Nat := 0
  /-- instants of the refusals for reasons 3 to 5, oldest first; list; R258; spec -/
  refusals : List Nat := []
  /-- hellos are refused with reason 6 until this instant; R258; spec -/
  blockedUntil : Option Nat := none
  /-- escrow pair: ephemeral e and K_esc; record; R263; spec -/
  escrow : Option (Nat × List Byte) := none
  deriving DecidableEq, Repr

/-- What a NOR operation belongs to (R285, R401, R405, R406, R410). -/
inductive NorJob where
  | calSlot (slot : Nat)
  /-- a journal entry: 1 prepare, 2 commit, 3 release; the incident -/
  | journal (kind incident : Nat)
  | table (slot : Nat)
  | hours
  deriving DecidableEq, Repr

/-- A NOR operation: its erase is still to end; next address; bytes still to program. -/
structure NorOp where
  job : NorJob
  erasing : Bool
  addr : Nat
  left : List Byte
  deriving DecidableEq, Repr

/-- The SPI NOR flash and what is under way on it (chapter 11). -/
structure Nor where
  /-- bytes, by address; an address not listed reads 0xFF (erased); up to 2^32 bytes; R270, R273; spec -/
  mem : List (Nat × Byte) := []
  /-- the part answers; 1 bit; R269; DC 7 -/
  present : Bool := true
  /-- data lines of a read: 1, 2 or 4; R269; spec -/
  lines : Nat := 1
  /-- clock of a read, MHz; R269; spec -/
  mhz : Nat := 25
  /-- operations, the first in progress; list; R402; spec -/
  jobs : List NorOp := []
  /-- start counter and calibration writes that have failed; the spec gives the count no width and no address; R452; DC 3 -/
  failures : Nat := 0
  deriving DecidableEq, Repr

/-- Dual-contact input states (Table 13.4). -/
inductive Contact where
  | inactive
  | pendingUp
  | active
  | pendingDown
  | discrepancy
  deriving DecidableEq, Repr

/-- One dual-contact input as one channel runs it (R318, R319). -/
structure Input where
  /-- machine started; 1 bit; R318; spec -/
  started : Bool := false
  /-- state of Table 13.4; 3 bits; R319; spec -/
  st : Contact := .inactive
  /-- contact states after the 3-sample filter: contacts A and B of the input; 2 bits; R318; spec -/
  a : Bool := false
  b : Bool := false
  /-- last three samples of each contact, newest first; 3 bits each; R318; DC 3 -/
  rawA : List Bool := []
  rawB : List Bool := []
  /-- which contact opened the pending state: true contact A; 1 bit; R319; DC 3 -/
  firstA : Bool := false
  /-- instant at which the pending state was entered, taps; time; R319; DC 3 -/
  since : Nat := 0
  deriving DecidableEq, Repr

/-- Energy accumulators of one bank in one channel (R314). -/
structure Energy where
  /-- pulses started within the last 5 us: start (taps), energy; list; R314; spec -/
  short : List (Nat × Nat) := []
  /-- energy by angular bin: bin number, energy; list; R314; spec -/
  bins : List (Nat × Nat) := []
  /-- largest cell sum of the sheet in progress; R314; spec -/
  cellMax : Nat := 0
  /-- largest cell sums of the r_s - 1 sheets before it; list; R314; spec -/
  past : List Nat := []
  deriving DecidableEq, Repr

/-- One safety channel (chapter 13). -/
structure SafeCh where
  /-- SCFG sampled at reset release; 8 bits; R283; DC 3 -/
  straps : Nat := 0
  /-- in Safe stop; 1 bit; R327; spec -/
  stopped : Bool := false
  /-- permit asserted (conditions 1 to 4 of R309); 1 bit; R309; spec -/
  permit : Bool := false
  /-- veto of each bank; 32 bits; R314, R315; spec -/
  veto : List Nat := []
  /-- near-zone veto of each bank, cleared by the next pulse requested; list; R315; spec -/
  nearVeto : List Nat := []
  /-- notice line raised; 1 bit; R307; spec -/
  notice : Bool := false
  /-- first cause, 0 none; 4 bits; R331; spec -/
  cause : Nat := 0
  /-- cause mask; list of codes; R331; spec -/
  causes : List Nat := []
  /-- MOT_EN driven high; 1 bit; R329; spec -/
  motEn : Bool := false
  /-- instant of torque removal, taps; time; R330; DC 3 -/
  torqueOff : Option Nat := none
  /-- standstill declared; 1 bit; R330; spec -/
  standstill : Bool := true
  /-- entry to Safe stop, taps, and the speed then, of setpoint; R328; DC 3 -/
  entry : Option (Nat × Rat) := none
  /-- last Hall edge, taps; time; R311; DC 3 -/
  lastEdge : Option Nat := none
  /-- last Hall interval, taps; time; R311; DC 3 -/
  interval : Nat := 0
  /-- Hall code after the last edge; 3 bits; R311; DC 3 -/
  hall : BitVec 3 := 0
  /-- electrical cycle within the facet, modulo P / F; count; R312; DC 3 -/
  cycle : Nat := 0
  /-- within the speed window; 1 bit; R311; spec -/
  inWindow : Bool := false
  /-- consecutive Hall intervals within 4 %; count; R311; spec -/
  regain : Nat := 0
  /-- the window has been entered since the present spin-up began; 1 bit; R311; spec -/
  entered : Bool := false
  /-- outside the window since, taps; time; R311; DC 3 -/
  outSince : Option Nat := none
  /-- the gap that began at the previous boundary was judged plausible; 1 bit; R312; spec -/
  gapOk : Bool := false
  /-- an implausibility has been found in the gap that began at the present boundary; 1 bit; R312; spec -/
  gapBad : Bool := true
  /-- predicted B_n of the present gap, taps; time; R312; DC 3 -/
  gapBn : Option Nat := none
  /-- consecutive implausible gaps; count; R312; spec -/
  badGaps : Nat := 0
  /-- sheet codes formed for the sheet in progress; 32 x 8 bits; R313; spec -/
  codes : Table Nat := []
  /-- ramp codes formed for the sheet in progress, banks that fire only; 32 x 8 bits; R313; spec -/
  ramps : Table Nat := []
  /-- the channel's own ramp origins; 32 x 8 bits; R313; spec -/
  origins : Table Nat := []
  /-- angular bins completed before the present boundary; count; R314; own -/
  binBase : Nat := 0
  /-- energy accumulators by bank; R314; spec -/
  energy : Table Energy := []
  /-- sweep pulses seen on each pad since the previous exchange; R306; spec -/
  pulses : Table Nat := []
  /-- near-zone vetoes of each bank since the previous exchange; R306; spec -/
  nears : Table Nat := []
  /-- input 0, service cover; R319; spec -/
  in0 : Input := {}
  /-- input 1, depot key; R319; spec -/
  in1 : Input := {}
  /-- connection open; 1 bit; R323; spec -/
  connOpen : Bool := false
  /-- an open message has been accepted since Start; 1 bit; R323; spec -/
  everOpen : Bool := false
  /-- demand 0 off, 1 permit, 2 safe stop; 2 bits; R323; spec -/
  demand : Nat := 0
  /-- cause 9 has not cleared: no later accepted message has demanded off or permit; 1 bit; R323; spec -/
  hostStop : Bool := false
  /-- last accepted sequence; 16 bits; R322; spec -/
  lastSeq : Nat := 0
  /-- messages accepted since Start; count; R306; spec -/
  accepted : Nat := 0
  /-- instant of the last accepted message, taps; time; R323; DC 3 -/
  lastMsg : Nat := 0
  /-- SOUT commanded level; 1 bit; R334; spec -/
  sout : Bool := false
  /-- off-pulse running since, taps; time; R335; spec -/
  testPulse : Option Nat := none
  /-- instant at which an off-pulse last fell due, taps; time; R335; DC 3 -/
  lastTest : Option Nat := none
  /-- instant of the pad sample that the last off-pulse still asks for, taps; time; R335; spec -/
  testSample : Option Nat := none
  /-- consecutive readings of the pad that differ; count; R334; spec -/
  soutRun : Nat := 0
  /-- SOUT readback fault; 1 bit; R335; spec -/
  soutFault : Bool := false
  /-- readings of 135 degC or more in a row, own sensor and T_j; counts; R363; spec -/
  hotOwn : Nat := 0
  hotTj : Nat := 0
  /-- own sensor reading, 0.25 degC; none: faulty; R363; DC 3 -/
  ownTemp : Option Int := none
  /-- own sensor faulty, as the exchange reports it; 1 bit; R360, R363; spec -/
  ownFault : Bool := false
  /-- the partner's own sensor is faulty, as its last exchange word reports; 1 bit; R363; spec -/
  partnerFault : Bool := false
  /-- instant of the last reading of the own sensor, taps; R363; DC 3 -/
  sensorAt : Option Nat := none
  /-- self-test step, ROM check position and RAM test block in turn; count; R306; DC 3 -/
  selfTest : Nat := 0
  /-- the ROM check and the RAM test have been completed once; 1 bit; R317; spec -/
  tested : Bool := false
  /-- consecutive words with an interval outside 1 ms +- 3 %; count; R306; spec -/
  badIntervals : Nat := 0
  /-- instant of the last word received, taps; time; R306; DC 3 -/
  lastWord : Nat := 0
  /-- motor fault reported by the sequencer; 1 bit; R33; spec -/
  motorFault : Bool := false
  deriving DecidableEq, Repr

/-- The two channels and what they share (R305, R325). -/
structure Safety where
  /-- channel A; record; R305; spec -/
  a : SafeCh := {}
  /-- channel B; record; R305; spec -/
  b : SafeCh := {}
  /-- consecutive exchanges in which verdicts differ, input states differ, permit states differ; R306; spec -/
  diffVerdict : Nat := 0
  diffInput : Nat := 0
  diffPermit : Nat := 0
  /-- device message sequence; 16 bits; R321; spec -/
  seq : Nat := 0
  /-- a device message is due at the next exchange; 1 bit; R325; spec -/
  msgDue : Bool := false
  /-- instant of the last release, taps; time; R325; DC 3 -/
  lastRelease : Nat := 0
  /-- status word at the last exchange; 32 bits; R325; DC 3 -/
  lastStatus : Nat := 0
  /-- last host sequence accepted, echoed; 16 bits; R321; spec -/
  echo : Nat := 0
  /-- energy veto since Start; 1 bit; R340; spec -/
  vetoSeen : Bool := false
  /-- the gate test of this Start has been run; 1 bit; R317; spec -/
  gateTested : Bool := false
  deriving DecidableEq, Repr

end Sys2Proof.Machine
end

