-- ==== Sys2Proof/Machine/HouseTypes.lean ====
section
/-! DEFINITION. State of the housekeeping processor's work: calibration, thermal management, the auxiliary converter,
NEARDIST, the recorder, the movement engine, the event log, the status pages and JTAG.
Each field's docstring reads: what it is; width; rule; where its reset value comes from. -/

namespace Sys2Proof.Machine

open Sys2Proof

/-- A calibration run in progress (R345 to R357). -/
structure Run where
  /-- 1 field, 2 Start, 3 recovery, 4 Datum -/
  kind : Nat
  /-- 1 edge pairs, 2 tap, 3 flood, 4 walk, 5 reference, 6 dark, 7 processing and writing -/
  step : Nat := 2
  /-- judged under Table 14.3 -/
  judged : Bool
  /-- length of the gaps before the present one, taps -/
  gapTime : Nat := 0
  /-- tap hits so far, by channel: 20 counts -/
  hits : Table (List Nat) := []
  /-- dark step: taps of the present interval, intervals done, counts by channel -/
  darkTaps : Nat := 0
  darkDone : Nat := 0
  dark : Table (List Nat) := []
  /-- the tap step ended before the present gap began -/
  refOk : Bool := false
  /-- calibration pulses counted, by bank -/
  pulses : Table Nat := []
  /-- first event times in 1/16 taps, by channel -/
  readings : Table (List Int) := []
  /-- by bank: optical segments, sums of mean intensity (1/1,024 events per shot) and of mean width (ps) -/
  refs : Table (Nat × Nat × Int) := []
  /-- sum and number of the values of T_a taken during the run -/
  taSum : Rat
  taN : Nat := 1
  /-- Datum: separations of the edge pairs, 1/16 taps -/
  pairs : List Int := []
  /-- Datum: flood readings by channel, and shots by bank -/
  flood : Table (List Int) := []
  floodShots : Table Nat := []
  /-- Datum walk, present sheet, by bank: shots times channels, readings, their sum -/
  walkNow : Table (Nat × Nat × Int) := []
  /-- Datum walk, by bank, one entry a sheet: intensity (1/1,024 events per shot) and mean reading -/
  walkNodes : Table (List (Rat × Rat)) := []
  /-- sheets since the present Datum step began -/
  stepSheets : Nat := 0
  /-- sheets since the run began -/
  sheets : Nat := 0
  deriving DecidableEq, Repr

/-- Calibration and thermal management (chapter 14). -/
structure Calib where
  /-- a valid set is in force (else uncalibrated); 1 bit; R286; spec -/
  calibrated : Bool := false
  /-- slot in force; 1 bit; R285; spec -/
  slot : Nat := 0
  /-- the stored set in force; record; R341; spec -/
  base : CalSet := {}
  /-- set applied to items of parity 0; record; R186; spec -/
  set0 : CalSet := {}
  /-- set applied to items of parity 1; record; R186; spec -/
  set1 : CalSet := {}
  /-- trim words and tap maps in force in the channels; record; R98; spec -/
  live : CalSet := {}
  /-- set to be applied at the next boundary, with its temperature when it is derived; record; R98, R358; spec -/
  next : Option (CalSet × Option Rat) := none
  /-- a derived set is in force; 1 bit; R364; spec -/
  derived : Bool := false
  /-- temperature of the derived set in force, 0.25 degC; R358; DC 3 -/
  derivedTemp : Rat := 0
  /-- run in progress; record; R346; spec -/
  run : Option Run := none
  /-- candidate of a completed run being written; record; R352; spec -/
  candidate : Option CalSet := none
  /-- result of the last run; 4 bits; R364; spec -/
  result : Nat := 0
  /-- a run has been judged and rejected since the last adopted one; 1 bit; R354; spec -/
  rejected : Bool := false
  /-- baseline of the field-run trigger, 0.25 degC; R345; DC 3 -/
  baseline : Rat := 0
  /-- the Start run has not yet been completed; 1 bit; R354; spec -/
  startDue : Bool := true
  /-- a recovery run is due; 1 bit; R354; spec -/
  recoveryDue : Bool := false
  /-- a calibration override is present; 1 bit; R281; spec -/
  overrides : Bool := false
  /-- separations of the DATUM pairs of the present run are awaited; count of sheets without one; R357; spec -/
  sheetsNoPair : Nat := 0
  deriving DecidableEq, Repr

/-- Die sensors, thermal level and throttle (chapter 14). -/
structure Thermal where
  /-- TS0 to TS15, 0.25 degC; 16 x 16 bits; R364; spec -/
  ts : Table Int := []
  /-- faulty sensors; list; R360; spec -/
  faulty : List Nat := []
  /-- T_j, 0.25 degC; 14 bits; R359; DC 3 -/
  tj : Option Int := none
  /-- T_a, 0.25 degC; R91; DC 3 -/
  ta : Option Rat := none
  /-- level 0 normal, 1 warning, 2 throttle, 3 shutdown; 2 bits; R361; spec -/
  level : Nat := 0
  /-- consecutive readings of 135 degC or more; R361; spec -/
  hot : Nat := 0
  /-- throttle level L; 4 bits; R362; spec -/
  throttle : Nat := 0
  /-- sheets since the last throttle change; count; R362; DC 3 -/
  sinceStep : Nat := 1000
  /-- shutdown reported to the safety channels; 1 bit; R361; spec -/
  shutdown : Bool := false
  /-- reading every 1 ms since this instant, taps; R359; spec -/
  fast : Option Nat := none
  /-- instant of the last reading, taps; R359; DC 3 -/
  lastRead : Option Nat := none
  deriving DecidableEq, Repr

/-- One auxiliary input (chapter 15). -/
structure AuxIn where
  /-- range of the next conversion; 2 bits; R376; spec -/
  range : Nat := 3
  /-- code of the latest sample; 20 bits; R379; spec -/
  code : Int := 0
  /-- range tag, range-changed, overvoltage, urgent of the latest sample; R379; spec -/
  tag : Nat := 3
  changed : Bool := false
  overvoltage : Bool := false
  urgent : Bool := false
  /-- a sample has been taken; 1 bit; R378; spec -/
  sampled : Bool := false
  /-- local counter at its end; 48 bits; R379; DC 3 -/
  time : Nat := 0
  /-- pair fault; 1 bit; R380; spec -/
  pairFault : Bool := false
  /-- consecutive comparisons above / within the limit; R380; spec -/
  pairBad : Nat := 0
  pairGood : Nat := 0
  /-- latest valid code scaled to range 3 (x / G_r); R380; DC 3 -/
  valid : Option Rat := none
  deriving DecidableEq, Repr

/-- A conversion of the auxiliary converter (R371, R374). -/
structure Conv where
  input : Nat
  range : Nat
  urgent : Bool
  /-- it is a repeat under R377 -/
  again : Bool
  /-- bias readback whose partner input follows -/
  bias : Bool
  /-- AUX_EXC is driven to the end of its integration (R367) -/
  exc : Bool
  /-- its start, taps; its settling delay t_s and its rejection period T_r, taps -/
  begun : Nat
  settle : Nat
  integrate : Nat
  deriving DecidableEq, Repr

/-- Auxiliary converter and NEARDIST (chapter 15). -/
structure Aux where
  /-- inputs 0 to 17; table; R379; spec -/
  ins : Table AuxIn := []
  /-- conversion running; record; R371; spec -/
  cur : Option Conv := none
  /-- urgent queue, up to four requests: true supply read, false bias readback; R374; spec -/
  urgent : List Bool := []
  /-- urgent conversions of the request being served; list; R374; spec -/
  serving : List Conv := []
  /-- input at which the cycle resumes; 5 bits; R373; DC 3 -/
  cycle : Nat := 0
  /-- the next conversion's settling is lengthened by 200 us; 1 bit; R378; spec -/
  lengthen : Bool := false
  /-- reference fault; 1 bit; R372; spec -/
  refFault : Bool := false
  /-- x_ref of the latest reference check; 20 bits; R372; DC 3 -/
  xRef : Int := 256000
  /-- a repeat is due (input); R377; spec -/
  repeat_ : Option Nat := none
  /-- voltages of the two bias paths read by the urgent request being served, uV; R380; DC 3 -/
  biasPaths : Option Nat := none
  deriving DecidableEq, Repr

/-- A NEARDIST state (Table 15.6). -/
inductive Near where
  | noData
  | clear
  /-- distance in mm, zone -/
  | object (d zone : Nat)
  deriving DecidableEq, Repr

/-- NEARDIST (R381 to R386). -/
structure NearDist where
  /-- state on the output; 2 bits; R387; spec -/
  out : Near := .noData
  /-- next state; R385; spec -/
  next : Near := .noData
  /-- encoding in force: true frequency; 1 bit; R387; spec -/
  freq : Bool := false
  /-- high time and period in progress, us; R385; DC 3 -/
  high : Nat := 0
  period : Nat := 0
  /-- rising edge that began it, taps; time; R385; DC 3 -/
  edgeAt : Option Nat := none
  /-- instant of the last value made ready, taps; R386; DC 3 -/
  lastValue : Nat := 0
  deriving DecidableEq, Repr

/-- A body block of the recorder (Table 16.4) with what the segment's header takes from it. -/
structure Body where
  kind : Nat
  /-- the block, its head included -/
  bytes : List Byte
  /-- sheet counter and vehicle time of its data -/
  sheet : Nat
  time : Int
  /-- its sheet carried time-step, time-slewing; sync state -/
  step : Bool
  slew : Bool
  sync : Nat
  deriving DecidableEq, Repr

/-- A NAND block: what its pages hold, and its use since the mount (R391, R403). -/
structure Block where
  /-- page 0 as programmed, empty where erased; 64 bytes; R391; DC 7 -/
  zero : List Byte := []
  /-- the mount, or the erase since, found page 0 to hold a valid block header; 1 bit; R391; DC 7 -/
  headed : Bool := false
  /-- erase count as the device holds it; 32 bits; R391; DC 7 -/
  erases : Nat := 0
  /-- storage header of page 1, empty where erased; 256 bytes; R392; DC 7 -/
  header : List Byte := []
  /-- plaintext body of the data pages; R391; DC 7 -/
  body : List Byte := []
  /-- data and signature pages as programmed: sealed main area, and the 32 bytes of metadata that begin the spare area; R263, R393; DC 7 -/
  pages : List (List Byte × List Byte) := []
  /-- signed header and signature of the signature page, empty without one; 192 bytes; R391; DC 7 -/
  sign : List Byte := []
  /-- closing record on the signature page, empty without one; 640 bytes; R391; DC 7 -/
  closing : List Byte := []
  /-- use: 0 free, 1 ring segment, 2 incident segment, 3 bad, 4 to be erased, 5 scrub copy under way; R403; spec -/
  st : Nat := 0
  /-- reads since Start or the last program; R406; spec -/
  reads : Nat := 0
  /-- incident it belongs to, 0 none; R400; spec -/
  incident : Nat := 0
  deriving DecidableEq, Repr

/-- An incident entry (Table 16.8). -/
structure Incident where
  number : Nat
  first : Nat
  last : Nat
  time : Int
  local_ : Nat
  cause : Nat
  /-- 0 phase 1 under way, 1 prepared, 2 committed, 3 committed at mount -/
  st : Nat
  joined : Nat
  segments : Nat
  deriving DecidableEq, Repr

/-- First and last data of a segment (Table 10.6). -/
structure SegInfo where
  firstSheet : Nat
  lastSheet : Nat
  firstTime : Int
  lastTime : Int
  step : Bool
  slew : Bool
  sync : Nat
  deriving DecidableEq, Repr

/-- The open segment (R398). -/
structure OpenSeg where
  block : Nat
  seq : Nat
  /-- 1 ring, 2 post-trigger -/
  kind : Nat
  /-- segment key SK; R263 -/
  sk : List Byte := []
  /-- its storage header, until it has been programmed; R392 -/
  header : List Byte := []
  /-- blocks taken from staging and not wholly programmed; bytes of the first one already programmed -/
  taken : List Body
  skip : Nat := 0
  /-- body bytes programmed -/
  done : Nat := 0
  /-- nothing more is taken: it is to be signed once programmed -/
  ending : Bool := false
  /-- the first signature page failed its read-back -/
  again : Bool := false
  info : SegInfo
  deriving DecidableEq, Repr

/-- What the NAND has under way (R408). -/
inductive NandJob where
  /-- the storage header of the segment being opened -/
  | header
  | program
  | sign
  /-- a page of the scrub copy under way -/
  | copy
  | erase (block : Nat)
  /-- a readout read: block, page -/
  | read (block page : Nat)
  deriving DecidableEq, Repr

/-- What a scrub copy's next page operation does (R406). -/
inductive ScrubStep where
  | read
  | program
  | check
  deriving DecidableEq, Repr

/-- The scrub copy under way (R406). -/
structure Scrub where
  source : Nat
  copy : Nat
  /-- page the next operation acts on; 1 is the storage header -/
  page : Nat := 1
  step : ScrubStep := .read
  deriving DecidableEq, Repr

/-- The running read of R412. -/
structure Readout where
  /-- W0 [63:52] of the query -/
  echo : Nat
  seq : Nat
  offset : Nat
  /-- data read and not yet in a packet, and the result they carry -/
  data : List Byte := []
  result : Nat := 0
  /-- nothing follows these data -/
  last : Bool := false
  deriving DecidableEq, Repr

/-- Incident recorder and NAND management (chapter 16). -/
structure Recorder where
  /-- 0 absent, 1 unsuitable, 2 mounting, 3 mounted; 3 bits; R416; spec -/
  st : Nat := 2
  /-- part in use; record; R390; DC 3 -/
  part : Option NandPart := none
  /-- second chip enable in use; 1 bit; R416; spec -/
  second : Bool := false
  /-- blocks, chip enable 1 above chip enable 0; table; R403; DC 7 -/
  blocks : Table Block := []
  /-- factory entries of the recorder table; list; R394; DC 3 -/
  factory : List Nat := []
  /-- grown bad blocks; list; R394; DC 3 -/
  grown : List Nat := []
  /-- next segment sequence; 64 bits; R264; DC 3 -/
  nextSeq : Nat := 1
  /-- header hash of the record one lower in sequence; 256 bits; R264; DC 3 -/
  prevHash : Option (List Byte) := none
  /-- closed ring segments, oldest first: blocks; list; R398; spec -/
  ring : List Nat := []
  /-- open segment; record; R398; spec -/
  seg : Option OpenSeg := none
  /-- staging buffer, up to 512 KiB with `closing` and the open segment's; list; R397; spec -/
  staging : List Body := []
  /-- staged blocks of segments that a trigger, a window's end or a pause closes: kind, blocks; list; R398, R401; spec -/
  closing : List (Nat × List Body) := []
  /-- incidents held, oldest first; up to 32; R400; DC 3 -/
  incidents : List Incident := []
  /-- next incident number; 64 bits; R400; DC 3 -/
  nextIncident : Nat := 1
  /-- post-trigger window: incident, its end (taps), a trigger has joined; R400; spec -/
  open_ : Option (Nat × Nat × Bool) := none
  /-- phase 1 / phase 2 of the newest incident is under way; 2 x 1 bit; R401; spec -/
  phase1 : Bool := false
  phase2 : Bool := false
  /-- triggers waiting: cause, instant (taps), local time, vehicle time; R399; spec -/
  triggers : List (Nat × Nat × Nat × Int) := []
  /-- last trigger refused; 1 bit; R416; spec -/
  full : Bool := false
  /-- NAND operation in progress; record; R408; spec -/
  job : Option NandJob := none
  /-- instant at which the operation or the scrub copy in progress started, taps; R452; DC 3 -/
  jobAt : Nat := 0
  /-- segments waiting for scrub: blocks; list; R406; spec -/
  scrubs : List Nat := []
  /-- scrub copy under way; record; R406; spec -/
  scrubbing : Option Scrub := none
  /-- running read; record; R412; spec -/
  readout : Option Readout := none
  /-- powered hours; 32 bits; R406; DC 3 -/
  hours : Nat := 0
  /-- instant at which the powered hour in progress began, taps; R406; DC 3 -/
  hourAt : Nat := 0
  /-- erases in each of the last 100 h of recording, newest first; R410; DC 3 -/
  eraseHist : List Nat := []
  /-- erases since the last powered hour; R410; DC 3 -/
  erasesNow : Nat := 0
  /-- forecast hours; 32 bits; R410; DC 3 -/
  forecast : Nat := 0
  /-- life figures of the last powered hour: mean and maximum erase counts, life used in 0.1 %; R410; DC 3 -/
  meanErase : Nat := 0
  maxErase : Nat := 0
  life : Nat := 0
  /-- table slot in force and its sequence; R401; DC 3 -/
  tableSlot : Nat := 1
  tableSeq : Nat := 0
  /-- journal sequence and page (0 to 511) of the next entry; R401; DC 3 -/
  journalSeq : Nat := 1
  journalPos : Nat := 0
  /-- event entries not yet formed into a block: W0, W1; R395; spec -/
  events : List (Nat × Nat) := []
  /-- sheets that have left the packetiser and whose body blocks are still to be formed; list; R397; spec -/
  ended : List SheetOut := []
  /-- bearings formed into blocks, or lost: sheet, bearing; list; R397; spec -/
  sampled : List (Nat × Nat) := []
  /-- gap blocks due; list; R397; spec -/
  gaps : List Body := []
  deriving DecidableEq, Repr

/-- One movement channel (Table 16.11). -/
structure Mover where
  /-- 0 idle, 1 running, 2 halted, 3 retrying; 4 bits; R416; spec -/
  st : Nat := 0
  /-- latched direction, true write; 1 bit; R415; spec -/
  write : Bool := false
  /-- latched cause, true stall; 1 bit; R415; spec -/
  stall : Bool := false
  /-- descriptor in force; 10 bits; R416; spec -/
  desc : Nat := 0
  /-- completions; 16 bits; R416; spec -/
  completions : Nat := 0
  /-- latched address; 48 bits; R415; spec -/
  addr : Nat := 0
  deriving DecidableEq, Repr

/-- A descriptor of the internal SRAM (Table 16.10). -/
structure Desc where
  src : Nat := 0
  dst : Nat := 0
  burst : Nat := 4
  srcAddr : Nat := 0
  next : Nat := 0xFFFF
  dstAddr : Nat := 0
  len : Nat := 0
  event : Bool := true
  st : Nat := 0
  done : Nat := 0
  deriving DecidableEq, Repr

/-- The movement engine (chapter 16). -/
structure Dma where
  /-- the 16 channels; table; R413; spec -/
  movers : Table Mover := []
  /-- the 1,024 descriptors; table; R413; DC 3 -/
  descs : Table Desc := []
  /-- status responses whose snapshot transfer is still to end: W0, and W1 with the data words; R234; spec -/
  snapshots : List (Nat × List Byte) := []
  deriving DecidableEq, Repr

/-- Event log, pages and the retained counters (chapter 17). -/
structure Log where
  /-- ring of 1,024 entries, newest first: W0, W1; R433; spec -/
  ring : List (Nat × Nat) := []
  /-- queue of 64, oldest first; R433; spec -/
  queue : List (Nat × Nat) := []
  /-- instant of the last entry written, taps; R433; DC 3 -/
  lastWrite : Option Nat := none
  /-- overwrite or loss seen since Start; 1 bit; R434; spec -/
  overwritten : Bool := false
  /-- a stale item since Start; 1 bit; R434; spec -/
  stale : Bool := false
  /-- an uncorrectable context store error since Start; 1 bit; R434; spec -/
  store : Bool := false
  /-- channel page and its tick; 8 + 16 bits; R435; spec -/
  chPage : Nat := 0
  chTick : Nat := 0
  /-- engine page and its tick; 8 + 16 bits; R435; spec -/
  enPage : Nat := 0
  enTick : Nat := 0
  /-- local time at which the pages next advance, 625 ps: every 10 ms; R435; spec -/
  pageAt : Nat := 16000000
  /-- counters of the status space that differ from 0, by key of `Counter.key`; R431; spec -/
  counters : Table Nat := []
  deriving DecidableEq, Repr

/-- JTAG port (R453). -/
structure Jtag where
  /-- instruction: 0 none, 1 BYPASS, 2 IDCODE, 3 SAMPLE/PRELOAD, 4 EXTEST; R453; DC 3 -/
  instr : Nat := 0
  /-- bypass register; 1 bit; R453; DC 3 -/
  bypass : Bool := false
  /-- data last read out: identity code or status words; R434, R453; DC 3 -/
  tdo : List Nat := []
  /-- levels that the boundary cells captured, in their order; list; R453; DC 3 -/
  captured : List Bool := []
  /-- pattern in the boundary cells, in their order; list; R453; DC 3 -/
  cells : List Bool := []
  deriving DecidableEq, Repr

end Sys2Proof.Machine
end

