-- ==== Sys2Proof/Machine/State.lean ====
section
/-! DEFINITION. The state of the block, the two ways a step can stop, and the state right after reset.
Field docstrings read as in the type files: what it is; width; rule; source of the reset value. -/

namespace Sys2Proof.Machine

open Sys2Proof

/-- Reasons a step stops with a fault. -/
inductive Fault where
  /-- The command names a unit, rail, input or length that the DX1536 does not have (`Instr.wellFormed` fails).
  Raised by every meaning whose command carries such a number.  Safe: nothing is claimed of the state after it. -/
  | noSuchUnit
  deriving DecidableEq, Repr

/-- Reasons a command has no meaning. -/
inductive Refusal where
  /-- The named command has no meaning in this model yet.  Raised by the arms of `exec` alone.  Safe. -/
  | notModelled (mnemonic : String)
  deriving DecidableEq, Repr

/-- The image as the housekeeping processor and the safety channels judge it (chapter 11). -/
structure ImageSt where
  /-- load result; 4 bits; R274; spec -/
  load : Nat := 1
  /-- type of the record that failed; 8 bits; R274; spec -/
  type : Nat := 0
  /-- its instance; 8 bits; R274; spec -/
  inst : Nat := 0
  /-- clamped fields; 16 bits; R276; spec -/
  clamped : Nat := 0
  /-- failed calibration slots; 8 bits; R285; spec -/
  failedSlots : Nat := 0
  /-- unapplied patches; 8 bits; R280; spec -/
  unapplied : Nat := 0
  /-- the image has been verified and its records loaded in this Start; 1 bit; R455; spec -/
  loaded : Bool := false
  /-- the image has been accepted; 1 bit; R455; spec -/
  accepted : Bool := false
  /-- the security core has answered: IMAGE_VERIFY has run in this Start; 1 bit; R253; spec -/
  judged : Bool := false
  deriving DecidableEq, Repr

/-- One pulse requested at a FIRE pad pair (R45, R53). -/
structure FirePulse where
  bank : Nat
  /-- instant of its edge at the pads, taps -/
  at_ : Nat
  /-- pulse width, taps -/
  width : Nat
  /-- power code that the rule asking for the pulse names; none for a test pulse without light (R63, R73, R317, R344) -/
  code : Option Nat
  deriving DecidableEq, Repr

/-- The state of the DX1536 as a block. -/
structure State where
  /-- commands that are waiting, first in first out; queue; R12; own -/
  pending : List Instr := []
  /-- time since power-up in taps of 31.25 ps; count; R99; own -/
  now : Nat := 0
  /-- number of free values drawn so far; count; R1; own -/
  free : Nat := 0
  /-- device state; 3 bits; R291; spec -/
  phase : Phase := .reset
  /-- supplies and reset; record; R423; spec -/
  supply : Supply := {}
  /-- Graticule and vehicle time; record; R108; spec -/
  grat : Grat := {}
  /-- motor and bearing clock; record; R31; spec -/
  motor : Motor := {}
  /-- scan sequencer; record; R21; spec -/
  seq : Seq := {}
  /-- emitter banks 0 to 31; table; R81; spec -/
  banks : Table Bank := []
  /-- Traverse chain and diagnostic window; record; R58; spec -/
  chain : Chain := {}
  /-- pulses driven at the FIRE pads in the slot, diagnostic slot, optical segment or gate test last begun; list; R45, R73, R317,
  R344; spec -/
  pulses : List FirePulse := []
  /-- SPAD bias; record; R92; spec -/
  bias : Bias := {}
  /-- channels 0 to 1,535; table; R83; spec -/
  chans : Table Chan := []
  /-- ambient estimates by channel; table; R162; spec -/
  amb : Table Ambient := []
  /-- ambient filter engine; record; R164; spec -/
  ambEng : AmbientEngine := {}
  /-- survey engines and context store; record; R126; spec -/
  survey : Survey := {}
  /-- contour units and packetiser; record; R184; spec -/
  contour : Contour := {}
  /-- Etust link; record; R209; spec -/
  link : Link := {}
  /-- fuses; record; R249; DC 7 -/
  otp : Otp := {}
  /-- security core; record; R243; spec -/
  sec : Security := {}
  /-- SPI NOR flash; record; R269; DC 7 -/
  nor : Nor := {}
  /-- Legend image as loaded; record; R274; spec -/
  legend : Legend := {}
  /-- image status; record; R274; spec -/
  image : ImageSt := {}
  /-- safety channels; record; R305; spec -/
  safety : Safety := {}
  /-- calibration; record; R341; spec -/
  calib : Calib := {}
  /-- die sensors and throttle; record; R359; spec -/
  thermal : Thermal := {}
  /-- auxiliary converter; record; R366; spec -/
  aux : Aux := {}
  /-- NEARDIST; record; R381; spec -/
  near : NearDist := {}
  /-- incident recorder; record; R389; spec -/
  recd : Recorder := {}
  /-- movement engine; record; R413; spec -/
  dma : Dma := {}
  /-- event log, pages, counters; record; R433; spec -/
  log : Log := {}
  /-- JTAG port; record; R453; spec -/
  jtag : Jtag := {}
  deriving DecidableEq, Repr

/-- The machine right after power-on reset: every field at its default. -/
def State.reset : State := {}

end Sys2Proof.Machine
end

