-- ==== Sys2Proof/Machine/Ops.lean ====
section
/-! DEFINITION. Operations every family uses: time, units and their updates, counters, free values, vehicle time. -/

namespace Sys2Proof.Machine

open Sys2Proof

/-- What a meaning answers. -/
abbrev Out := Host.Outcome State Fault Refusal

/-- Complete with `t` when the command names units the part has, else fault. -/
def need (ok : Bool) (t : State) : Out := if ok then .next t else .fault .noSuchUnit

/-- Apply an effect when a condition holds; the state is otherwise left as it is (notes/assumptions/5.md). -/
def when_ (c : Bool) (f : State → State) (s : State) : State := if c then f s else s

/-! ## Units of time, in taps of 31.25 ps (R99) -/

def ns (n : Nat) : Nat := 32 * n
def us (n : Nat) : Nat := 32000 * n
def ms (n : Nat) : Nat := 32000000 * n
def sec (n : Nat) : Nat := 32000000000 * n

/-! ## Time -/

/-- The local counter over `d` taps of its own clock (R116): one step per 20 taps. -/
def gratTick (d : Nat) (g : Grat) : Grat :=
  { g with localTime := (g.localTime + (g.subTap + d) / 20) % 2 ^ 64, subTap := (g.subTap + d) % 20 }

/-- The start oscillator's rate over the next interval, within 5 % (R108). -/
def startRate (n : Nat) : Nat := clampN 950000 1050000 (Config.startOscRate n)

/-- The local counter over `d` taps on the start oscillator, which runs at `rate` millionths of 400 MHz: 4 for each of its
cycles of 80 taps; the cycle in progress goes on (R119). -/
def oscTick (d rate : Nat) (g : Grat) : Grat :=
  { g with localTime := (g.localTime + 4 * ((g.oscPhase + d * rate) / 80000000)) % 2 ^ 64
           oscPhase := (g.oscPhase + d * rate) % 80000000 }

/-- Time passes: `dt` taps.  The local counter runs from the first lock on (R116), on the start oscillator while the
outputs are stopped (R119). -/
def advance (dt : Nat) (s : State) : State :=
  if !s.grat.everLocked then { s with now := s.now + dt }
  else if s.grat.startOsc then
    { s with now := s.now + dt, free := s.free + 1, grat := oscTick dt (startRate s.free) s.grat }
  else { s with now := s.now + dt, grat := gratTick dt s.grat }

/-- 64-bit local time, in counts of 0.625 ns, of the instant `t` in taps, reckoned from the present (R116). -/
def localAt (s : State) (t : Nat) : Nat :=
  (((s.grat.localTime * 20 + s.grat.subTap : Nat) : Int) + (t : Int) - (s.now : Int)).toNat / 20 % 2 ^ 64

/-- Position of the instant `t` within its coarse period, in taps (R99). -/
def fineAt (s : State) (t : Nat) : Nat :=
  (((s.grat.localTime * 20 + s.grat.subTap : Nat) : Int) + (t : Int) - (s.now : Int)).toNat % 20

/-! ## Vehicle time (R122 to R124) -/

/-- What the slew has added at `dl` counts after the base, in units of 1/(8 x 10^9) ns: at most the offset it was set
for (R122: sigma is kept until the remaining offset is consumed). -/
def slewUsed (g : Grat) (dl : Int) : Int :=
  if 0 ≤ g.sigma then min (dl * 5 * g.sigma) (max 0 g.slew * 8000000000)
  else max (dl * 5 * g.sigma) (min 0 g.slew * 8000000000)

/-- V(L) of the mapping (chapter 5, Vehicle time). -/
def vehicleAt (g : Grat) (l : Nat) : Int :=
  let dl : Int := (l : Int) - (g.lb : Int)
  g.vb + (dl * 5 * (1000000000 + g.rho) + slewUsed g dl) / 8000000000

/-- Offset still to be slewed at local time `l`, ns (R122, R123). -/
def slewLeft (g : Grat) (l : Nat) : Int :=
  if g.sigma = 0 then 0 else g.slew - slewUsed g ((l : Int) - (g.lb : Int)) / 8000000000

/-- Vehicle time now. -/
def vehicleNow (s : State) : Int := vehicleAt s.grat s.grat.localTime

/-- Re-base the mapping at local time `l` without changing V there (R122). -/
def rebase (g : Grat) (l : Nat) : Grat :=
  { g with vb := vehicleAt g l, lb := l, slew := slewLeft g l }

/-! ## Units -/

def bankOf (s : State) (b : Nat) : Bank := Table.getD {} s.banks b
def setBank (b : Nat) (v : Bank) (s : State) : State := { s with banks := Table.put s.banks b v }
def modBank (b : Nat) (f : Bank → Bank) (s : State) : State := setBank b (f (bankOf s b)) s

def chanOf (s : State) (c : Nat) : Chan := Table.getD {} s.chans c
def setChan (c : Nat) (v : Chan) (s : State) : State := { s with chans := Table.put s.chans c v }
def modChan (c : Nat) (f : Chan → Chan) (s : State) : State := setChan c (f (chanOf s c)) s

def ambOf (s : State) (c : Nat) : Ambient := Table.getD {} s.amb c
def setAmb (c : Nat) (v : Ambient) (s : State) : State := { s with amb := Table.put s.amb c v }

/-- Engine e at reset: engines 0 to 63 are active on their own group, 64 to 67 are spares (Table 6.9). -/
def engineAtReset (e : Nat) : Engine :=
  if e < 64 then { st := 0, group := some e } else { st := 1, group := none }

def engineOf (s : State) (e : Nat) : Engine := Table.getD (engineAtReset e) s.survey.engines e
def setEngine (e : Nat) (v : Engine) (s : State) : State :=
  { s with survey := { s.survey with engines := Table.put s.survey.engines e v } }
def modEngine (e : Nat) (f : Engine → Engine) (s : State) : State := setEngine e (f (engineOf s e)) s

def ctxOf (s : State) (x : Nat) : Ctx := Table.getD {} s.survey.ctxs x
def setCtx (x : Nat) (v : Ctx) (s : State) : State :=
  { s with survey := { s.survey with ctxs := Table.put s.survey.ctxs x v } }
def modCtx (x : Nat) (f : Ctx → Ctx) (s : State) : State := setCtx x (f (ctxOf s x)) s
/-- Return a context: it is free and its contents are gone (R131). -/
def freeCtx (x : Nat) (s : State) : State :=
  { s with survey := { s.survey with ctxs := Table.del s.survey.ctxs x } }

def unitOf (s : State) (u : Nat) : Unit_ := Table.getD {} s.contour.units u
def setUnit (u : Nat) (v : Unit_) (s : State) : State :=
  { s with contour := { s.contour with units := Table.put s.contour.units u v } }

def auxOf (s : State) (n : Nat) : AuxIn := Table.getD {} s.aux.ins n
def setAux (n : Nat) (v : AuxIn) (s : State) : State :=
  { s with aux := { s.aux with ins := Table.put s.aux.ins n v } }

def moverOf (s : State) (k : Nat) : Mover := Table.getD {} s.dma.movers k
def setMover (k : Nat) (v : Mover) (s : State) : State :=
  { s with dma := { s.dma with movers := Table.put s.dma.movers k v } }

def blockOf (s : State) (b : Nat) : Block := Table.getD {} s.recd.blocks b
def setBlock (b : Nat) (v : Block) (s : State) : State :=
  { s with recd := { s.recd with blocks := Table.put s.recd.blocks b v } }
def modBlock (b : Nat) (f : Block → Block) (s : State) : State := setBlock b (f (blockOf s b)) s

/-- The safety channel on one side. -/
def sideOf (s : State) : Side → SafeCh
  | .a => s.safety.a
  | .b => s.safety.b

/-- The other side. -/
def otherSide : Side → Side
  | .a => .b
  | .b => .a

def setSide (d : Side) (v : SafeCh) (s : State) : State :=
  match d with
  | .a => { s with safety := { s.safety with a := v } }
  | .b => { s with safety := { s.safety with b := v } }
def modSide (d : Side) (f : SafeCh → SafeCh) (s : State) : State := setSide d (f (sideOf s d)) s

/-! ## Counters (R431) -/

def counterOf (s : State) (c : Counter) : Nat := counterIn s.log.counters c

/-- Count `n` events. -/
def count (c : Counter) (n : Nat) (s : State) : State :=
  { s with log := { s.log with counters := counterAdd s.log.counters c n } }

/-- Replace a counter's value (R145: drops in last sheet). -/
def countSet (c : Counter) (v : Nat) (s : State) : State :=
  { s with log := { s.log with counters := counterPut s.log.counters c v } }

/-! ## Random bytes -/

/-- Draw `k` random bytes and then call `f` with them. -/
def draw (k : Nat) (s : State) : List Byte × State :=
  ((List.range k).map (Config.entropy s.free), { s with free := s.free + 1 })

/-! ## The image in force -/

/-- The mode table of a mode code; the defaults of Table 11.6 where the image declares none. -/
def modeTable (s : State) (m : Nat) : ModeTable := Table.getD {} s.legend.modes m

/-- Is the mode declared (R277)? -/
def modeDeclared (s : State) (m : Nat) : Bool := tableHas s.legend.modes m

/-- The sheet-state register of a parity (R19). -/
def regOf (s : State) (parity : Bool) : SheetState := if parity then s.seq.reg1 else s.seq.reg0

/-- Parity of the sheet in progress: the low bit of the sheet counter (R31, Table 1.4). -/
def parityNow (s : State) : Bool := s.seq.sheet % 2 = 1

/-- The sheet state in force. -/
def sheetState (s : State) : SheetState := regOf s (parityNow s)

/-- The mode table in force. -/
def tableNow (s : State) : ModeTable := modeTable s (sheetState s).mode

end Sys2Proof.Machine
end

