-- ==== Sys2Proof/Machine/Words.lean ====
section
/-! DEFINITION. The status words of the status space (Tables 3.8, 5.6, 6.9, 7.4, 9.10, 10.8, 11.12, 12.4, 13.10, 14.7,
15.4, 15.7, 16.11, 16.12, 17.9), each computed from the state. -/

namespace Sys2Proof.Machine

open Sys2Proof

/-! ## Speed (R29, R30, R311) -/

/-- The Hall interval at setpoint, taps: F / (6 P r_s) seconds (R29, R30). -/
def hallSetpoint (s : State) : Nat :=
  sec 1 * s.legend.scan.facets / (6 * s.legend.scan.poles * s.legend.scan.rs)

/-- The fraction of setpoint that a Hall interval implies. -/
def rateOf (s : State) (interval : Nat) : Rat := if interval = 0 then 0 else (hallSetpoint s : Rat) / interval

/-- The sequencer's speed, of setpoint: the rate of the last Hall interval, or that of the time since the last edge where
that is longer. -/
def motorSpeed (s : State) : Rat :=
  match s.motor.lastEdge with
  | none => 0
  | some e => if s.motor.interval = 0 then 0 else rateOf s (max s.motor.interval (s.now - e))

/-- The speed estimate of a safety channel, of setpoint: the lower of the rate of the last Hall interval and the rate
that the time since the last edge implies (R311). -/
def chanSpeed (s : State) (c : SafeCh) : Rat :=
  match c.lastEdge with
  | none => 0
  | some e => if c.interval = 0 then 0 else rateOf s (max c.interval (s.now - e))

/-- The same in 0.1 % of setpoint, as Table 13.6 sends it. -/
def speedOf (s : State) (c : SafeCh) : Nat := (chanSpeed s c * 1000).floor.toNat

/-! ## Profile and inputs (R308, R295, R319) -/

def hostLayerUsed (c : SafeCh) : Bool := bit 7 c.straps
def coverUsed (c : SafeCh) : Bool := bit 6 c.straps
def depotUsed (c : SafeCh) : Bool := bit 5 c.straps

/-- The depot key is asserted: input 1 is in Active in both channels, with no discrepancy latched (R295). -/
def depotKey (s : State) : Bool :=
  depotUsed s.safety.a && depotUsed s.safety.b &&
    s.safety.a.in1.st == .active && s.safety.b.in1.st == .active

/-- Contact state as Table 13.10 codes it. -/
def contactCode : Contact → Nat
  | .inactive => 0
  | .pendingUp => 2
  | .active => 1
  | .pendingDown => 2
  | .discrepancy => 0

/-! ## Safety word (Table 13.10) -/

/-- R309 condition 3. -/
def gapHolds (c : SafeCh) : Bool := c.gapOk && !c.gapBad

/-- Motor state of Table 13.10. -/
def motorCode (s : State) : Nat :=
  if s.safety.a.standstill && s.safety.b.standstill then 3
  else if !s.safety.a.motEn || !s.safety.b.motEn then 2
  else if s.safety.a.stopped || s.safety.b.stopped then 1
  else 0

/-- The first Safe stop cause (R331): a cause found by both counts once, and the lower code is taken. -/
def firstCause (s : State) : Nat :=
  if s.safety.a.cause = 0 then s.safety.b.cause
  else if s.safety.b.cause = 0 then s.safety.a.cause
  else min s.safety.a.cause s.safety.b.cause

/-- In Safe stop. -/
def inSafeStop (s : State) : Bool := s.safety.a.stopped || s.safety.b.stopped

def safetyWord (s : State) : Nat :=
  let a := s.safety.a
  let b := s.safety.b
  field 4 28 (firstCause s) + field 1 27 (b2n (inSafeStop s)) + field 1 26 (b2n a.permit) + field 1 25 (b2n b.permit) +
    field 2 23 (motorCode s) +
    field 2 21 (if !hostLayerUsed a && s.image.judged then 0 else if a.connOpen then 2 else 1) +
    field 2 19 a.demand + field 2 17 (contactCode a.in0.st) + field 2 15 (contactCode a.in1.st) +
    field 1 14 (b2n (a.in1.st == .discrepancy || b.in1.st == .discrepancy)) +
    field 1 13 (b2n (a.in0.st == .discrepancy || b.in0.st == .discrepancy)) +
    field 1 12 (b2n (a.inWindow && b.inWindow)) + field 1 11 (b2n (gapHolds a && gapHolds b)) +
    field 1 10 (b2n a.soutFault) + field 1 9 (b2n b.soutFault) + field 1 8 (b2n s.safety.vetoSeen)

/-- Does a cause meet its clear condition of Table 13.7, in the eyes of channel `c`? -/
def causeCleared (s : State) (c : SafeCh) (code : Nat) : Bool :=
  if code = 5 ∨ code = 6 ∨ code = 7 then c.standstill
  else if code = 8 then c.in0.st == .active
  else if code = 9 then !c.hostStop
  else if code = 10 then
    (match c.ownTemp with | none => true | some t => decide (t < 520)) &&
      (match s.thermal.tj with | none => !s.thermal.shutdown | some t => decide (t < 520))
  else false

/-- Every trigger of a channel has cleared (R332). -/
def causesCleared (s : State) (c : SafeCh) : Bool := c.causes.all (causeCleared s c)

/-- The conditions of R302: exit-ready of Table 12.4. -/
def exitReady (s : State) : Bool :=
  inSafeStop s && s.safety.a.standstill && s.safety.b.standstill && !s.safety.a.motEn && !s.safety.b.motEn &&
    causesCleared s s.safety.a && causesCleared s s.safety.b

/-! ## Mode word (Table 12.4) -/

/-- The device state of Table 12.4. -/
def deviceState (s : State) : Nat :=
  match s.phase with
  | .mode => 1
  | .safeStop => 2
  | _ => 0

/-- Mode and identity latched for the next boundary: a withdrawal of the depot key is a request for Idle without an
identity of its own, and comes before the latched request (R295, R297). -/
def pendingMode (q : Seq) : Nat × Nat :=
  if q.keyWithdrawn.isSome then (5, 0) else match q.latch with | none => (0, 0) | some r => (r.mode, r.identity)

def modeWord (s : State) : Nat :=
  let q := s.seq
  field 2 30 (deviceState s) + field 3 27 q.mode +
    field 3 24 (pendingMode q).1 + field 8 16 (pendingMode q).2 +
    field 3 13 q.returnMode + field 1 12 (b2n q.biasHold) + field 1 11 (b2n q.dipHold) +
    field 1 10 (b2n (depotKey s)) + field 1 9 (b2n (exitReady s)) + field 3 6 q.lastResult

/-! ## Graticule word (Table 5.6) -/

def gratCode : GratState → Nat
  | .searching => 0
  | .locked => 1
  | .coasting => 2
  | .relocking => 3
  | .noReference => 4

/-- The slewing flag: the remaining offset is 1 us or more (R123). -/
def slewing (s : State) : Bool := decide (1000 ≤ (slewLeft s.grat s.grat.localTime).natAbs)

def gratWord (s : State) : Nat :=
  let g := s.grat
  field 8 24 (toTwos 8 g.deltaT) + field 5 19 g.band + field 2 17 g.sync + field 1 16 (b2n (slewing s)) +
    field 1 15 (b2n g.lockLost) + field 1 14 (b2n g.controlMargin) + field 2 12 g.freq + field 1 11 (b2n g.crystal) +
    gratCode g.st

/-! ## Link word (Table 9.10) -/

def downCode : Down → Nat
  | .off => 0
  | .clock => 1
  | .training => 2
  | .data => 3
  | .asleep => 4
  | .test => 5

/-- Session state of Table 9.10. -/
def sessionCode (s : State) : Nat :=
  if s.sec.session.isSome then 2 else if s.sec.hello.isSome || s.sec.next.isSome then 1 else 0

/-- The downstream width: the number of active lanes (R216). -/
def linkWidth (s : State) : Nat := popcount 4 s.link.active

/-- The downstream state: before the first training word of a start ETXC and IDL run for 100 us each (R213 steps 1 and 2)
and before that ETXC is off; before that of a retrain a packet in progress ends (R236). -/
def downNow (s : State) : Down :=
  if s.link.down == .training && decide (s.now < s.link.trainAt) then
    (if !s.link.cold then .data else if s.now + us 100 < s.link.trainAt then .off else .clock)
  else s.link.down

/-- The downstream state shown: a test where lanes are under test (Table 9.10). -/
def downShown (s : State) : Down := if s.link.tested ≠ 0 then .test else downNow s

def linkWord (s : State) : Nat :=
  let l := s.link
  field 3 29 (downCode (downShown s)) + field 3 26 (linkWidth s) + field 4 22 l.good + field 4 18 l.stage +
    field 1 17 (b2n l.inverted) + field 1 16 (b2n l.upAsleep) + field 2 14 (sessionCode s) + field 3 11 l.plan

/-! ## Security and configuration words (Tables 10.8, 11.12) -/

/-- v_f: the index of the lowest clear version fuse, 0 to 64 (R249). -/
def versionFuses (s : State) : Nat := ((List.range 64).find? (fun i => !bit i s.otp.version)).getD 64

def securityWord (s : State) : Nat :=
  field 2 30 s.sec.claim + field 7 23 (versionFuses s) + field 4 19 s.sec.result +
    field 1 18 (b2n s.otp.debugLock) + field 1 17 (b2n s.sec.escrow.isSome)

def configWord (s : State) : Nat :=
  let i := s.image
  field 4 28 i.load + field 8 20 i.type + field 8 12 i.inst + field 8 4 s.safety.a.straps +
    field 1 3 (b2n (!s.calib.calibrated)) + field 1 2 s.calib.slot + field 1 1 (b2n s.calib.overrides)

def configCounts (s : State) : Nat :=
  field 16 16 (min s.image.clamped 65535) + field 8 8 (min s.image.failedSlots 255) +
    field 8 0 (min s.image.unapplied 255)

/-! ## Calibration and thermal word (Table 14.7) -/

def thermalWord (s : State) : Nat :=
  let k := s.calib
  field 3 29 (match k.run with | none => 0 | some r => r.kind) +
    field 3 26 (match k.run with | none => 0 | some r => r.step) + field 4 22 k.result +
    field 2 20 s.thermal.level + field 4 16 s.thermal.throttle + field 1 15 (b2n k.derived) +
    field 1 14 (b2n (!s.thermal.faulty.isEmpty)) + field 14 0 (toTwos 14 (s.thermal.tj.getD 0))

/-! ## Recorder, NEARDIST, supply, bias, scan, summary words -/

/-- Content rate R_c of a mode at decimation exponent `j` (R396). -/
def contentRate (s : State) (m j : Nat) : Nat :=
  let nb := (modeTable s m).nb
  let dr := 32 * 2 ^ j
  s.legend.scan.rs * (72 + 128 * ((nb + 15) / 16) + (nb + dr - 1) / dr * 9232)

/-- The least exponent from `j` on, of at most `k` more, whose rate does not exceed 8,000,000 bytes/s (R396). -/
def decimationFrom (s : State) (m : Nat) : Nat → Nat → Nat
  | 0, j => j
  | k + 1, j => if contentRate s m j ≤ 8000000 then j else decimationFrom s m k (j + 1)

/-- The decimation exponent j of a mode (R396). -/
def decimationJ (s : State) (m : Nat) : Nat := decimationFrom s m 7 0

/-- Committed incidents held. -/
def committedIncidents (s : State) : Nat := (s.recd.incidents.filter (fun i => decide (2 ≤ i.st))).length

/-- A mode in which the ring is written is in force (Table 12.1). -/
def recordingMode (s : State) : Bool := s.phase == .mode && decide (1 ≤ s.seq.mode ∧ s.seq.mode ≤ 3)

/-- Recorder state of Table 16.12. -/
def recorderState (s : State) : Nat :=
  if s.recd.st < 3 then s.recd.st
  else if s.recd.phase1 || s.recd.phase2 then 5
  else if recordingMode s then 4
  else 3

def recorderWord (s : State) : Nat :=
  let r := s.recd
  field 3 29 (recorderState s) + field 6 23 (committedIncidents s) + field 1 22 (b2n (r.incidents.any (fun i => i.st = 1))) +
    field 1 21 (b2n r.full) + field 3 18 (decimationJ s s.seq.mode) + field 10 8 (min r.life 1023) +
    field 1 7 (b2n r.second)

def nearWord (s : State) : Nat :=
  (match s.near.out with
   | .noData => 0
   | .clear => field 2 30 1
   | .object d z => field 2 30 2 + field 3 27 z + field 17 7 d) +
    field 1 6 (b2n s.near.freq) + field 1 5 (b2n s.aux.refFault)

/-- Supply state of Table 17.9: in order of Table 17.9, a dip in progress first. -/
def supplyState (s : State) : Nat :=
  if s.supply.dip then (if s.supply.returning.isSome then 2 else 1) else if s.seq.dipHold then 3 else 0

/-- Dips begun within the last 1 s. -/
def recentDips (s : State) : Nat := (s.supply.dipTimes.filter (fun t => decide (s.now < t + sec 1))).length

def supplyWord (s : State) : Nat :=
  field 3 29 (supplyState s) + field 5 24 (min (recentDips s) 31) +
    ((List.range 6).foldl (fun a r => a + field 1 (10 + r) (b2n (s.supply.below.contains r))) 0) +
    field 3 7 s.supply.lastRail

/-- The excess bias of Table 17.9 in 5 mV units is formed in the bias family; this word takes it as given; V_cmd is
truncated to mV, and stays while BIAS_PWM is low (notes/assumptions/48.md). -/
def biasWordWith (s : State) (excess : Nat) : Nat :=
  field 16 16 (s.bias.vCmd / 1000) + field 1 15 (b2n s.bias.clamped) + field 12 3 (min excess 4095) +
    field 3 0 s.bias.fault

def scanWord (s : State) : Nat :=
  field 6 26 s.seq.shotLimit + field 2 24 s.seq.camera.st + field 1 23 (b2n s.seq.exceeded)

/-- Banks out of service. -/
def banksFailed (s : State) : Nat := (List.range 32).countP (fun b => decide ((bankOf s b).st ≠ 0))

/-- Healthy idle spares. -/
def sparesIdle (s : State) : Nat := [64, 65, 66, 67].countP (fun e => decide ((engineOf s e).st = 1))

def summaryWord (s : State) : Nat :=
  field 7 25 s.survey.lost.length + field 6 19 (banksFailed s) + field 3 16 (sparesIdle s) +
    field 5 11 ((List.range 16).countP (fun u => (unitOf s u).failed)) + field 3 8 s.supply.resetCause +
    field 1 7 (b2n s.log.stale) + field 1 6 (b2n s.log.overwritten) + field 1 5 (b2n s.log.store)

/-! ## Bank, engine, channel, sample and movement words -/

def bankWord (v : Bank) : Nat :=
  field 8 24 v.code + field 5 19 v.derate + field 3 16 v.outcome + field 4 12 (min v.run 15) +
    field 1 4 (b2n v.sense) + field 4 0 v.st

def engineWord (v : Engine) : Nat :=
  field 8 24 (if v.st = 3 then 255 else v.group.getD 255) + field 4 20 v.st +
    field 1 19 (b2n (v.cause = 1)) + field 1 18 (b2n (v.cause = 2)) + field 1 17 (b2n (v.cause = 3)) +
    field 1 16 (b2n (v.cause = 4))

/-- A rational scaled and rounded down to a natural number. -/
def scaleFloor (k : Nat) (q : Rat) : Nat := (q * k).floor.toNat

/-- The ambient word (Table 7.4), `preset` that of the mode in force; the estimate rounds down (notes/assumptions/29.md). -/
def ambientFields (preset : Nat) (v : Ambient) : Nat :=
  field 13 19 (min (scaleFloor 128 v.estimate) 4352) + field 2 17 preset + field 1 16 (b2n v.settled) +
    field 1 15 (b2n v.restarting) + field 3 12 v.cause + field 4 8 (min v.held 15)

/-- The ambient word of a channel as last published (R182). -/
def ambientWord (s : State) (c : Nat) : Nat := (ambOf s c).word

/-- Lambda of a channel, in 1/65,536 events per ns, rounded down and held at 65,535 (R170, R182, notes/assumptions/29.md). -/
def lambdaCode (m : Rat) : Nat :=
  if 3 * m < 100 then min 65535 (scaleFloor 65536 (m / (100 - 3 * m))) else Config.lambdaBeyond m % 65536

def sampleWord (s : State) (n : Nat) : Nat :=
  let v := auxOf s n
  field 20 12 (toTwos 20 v.code) + field 2 10 v.tag + field 1 9 (b2n v.changed) + field 1 8 (b2n v.overvoltage) +
    field 5 3 n + field 1 2 (b2n v.urgent) + field 1 1 (b2n v.pairFault)

def moverWord (v : Mover) : Nat :=
  field 4 28 v.st + field 1 27 (b2n v.write) + field 1 26 (b2n v.stall) + field 10 16 v.desc +
    field 16 0 v.completions

/-- Trim word of a channel in force (Table 4.4); code 256, no correction, where the set lists none. -/
def trimWord (s : State) (c : Nat) : Nat := Table.getD 256 s.calib.live.trims c

end Sys2Proof.Machine
end

