-- ==== Sys2Proof/Machine/Events.lean ====
section
/-! DEFINITION. The event log (R433, Tables 17.6 and 17.7) and the state changes it watches. -/

namespace Sys2Proof.Machine

open Sys2Proof

/-- Form an event entry and put it into the queue of 64; with the queue full it is lost and counted (R433). -/
def logEvent (cls ev inst arg : Nat) (s : State) : State :=
  if 64 ≤ s.log.queue.length then
    count .logOverwrites 1 { s with log := { s.log with overwritten := true } }
  else
    { s with log := { s.log with
        queue := s.log.queue ++ [(s.grat.localTime, field 8 56 cls + field 8 48 ev + field 16 32 inst + field 32 0 arg)] } }

/-- Run `f`; a change of the safety status word is logged (R340) and asks for a device message (R325). -/
def watchSafety (f : State → State) (s : State) : State :=
  let t := f s
  if safetyWord t = safetyWord s then t
  else logEvent 2 1 0 (safetyWord t) { t with safety := { t.safety with msgDue := true } }

/-- Change a bank's state: a change to or from open, dark, short or thermal-off is logged and counted (R81). -/
def setBankState (b st : Nat) (s : State) : State :=
  let v := bankOf s b
  if v.st = st then s
  else
    let t := setBank b { v with st := st } s
    if (1 ≤ v.st ∧ v.st ≤ 4) ∨ (1 ≤ st ∧ st ≤ 4) then
      count (.bankFaults b) 1 (logEvent 3 1 b (16 * v.st + st) t)
    else t

/-- Change an engine's record; a change of its state is logged (Table 17.7). -/
def changeEngine (e : Nat) (v : Engine) (s : State) : State :=
  let t := setEngine e v s
  if (engineOf s e).st = v.st then t else logEvent 4 1 e (engineWord v) t

end Sys2Proof.Machine
end

