-- ==== Sys2Proof/Machine/Packets.lean ====
section
/-! DEFINITION. Link packets: the common header, the CRC, the tags (R220 to R223), the checks on arrival (R222, R223,
R230), and the queues of pending downstream packets (R224, R235). -/

namespace Sys2Proof.Machine

open Sys2Proof

/-! ## Building -/

/-- The common header of Table 9.5. -/
def header (type length seq : Nat) (tagged : Bool) : List Byte :=
  leBytes 8 (field 1 56 (b2n tagged) + field 16 32 seq + field 16 16 length + field 8 8 1 + field 8 0 type)

/-- The 96-bit IV of R223, sent little-endian. -/
def packetIv (session : Nat) (up trailer : Bool) (counter : Nat) : List Byte :=
  leBytes 12 (field 32 64 session + field 1 63 (b2n up) + field 1 62 (b2n trailer) + field 48 0 counter)

/-- The tag of R223: AES-256-GCM with empty plaintext over `aad`. -/
def packetTag (key : List Byte) (session : Nat) (up trailer : Bool) (counter : Nat) (aad : List Byte) : List Byte :=
  gcmTag key (packetIv session up trailer counter) aad []

/-- A packet of 64-bit words. -/
def wordsLe (l : List Nat) : List Byte := l.flatMap (leBytes 8)

/-! ## Pending downstream packets (R224) -/

/-- A packet of type `type` with this body. -/
def pkt (type : Nat) (body : List Byte) : Pkt :=
  { type := type, body := body, tagged := decide (type = 0x04 ∨ type = 0x0B ∨ type = 0x18), pool := none, stream := none }

/-- A link that is down takes no packet: what falls due then is not sent after bring-up (R238). -/
def linkTakes (s : State) : Bool := !s.link.downDeclared

/-- A packet that must be tagged is not sent without a session (R223). -/
def mayQueue (p : Pkt) (s : State) : Bool := linkTakes s && (!p.tagged || s.sec.session.isSome)

def due1 (p : Pkt) (s : State) : State :=
  if linkTakes s then { s with link := { s.link with q1 := s.link.q1 ++ [p] } } else s
def due2 (p : Pkt) (s : State) : State :=
  if mayQueue p s then { s with link := { s.link with q2 := s.link.q2 ++ [p] } } else s
def due3 (p : Pkt) (s : State) : State :=
  if mayQueue p s then { s with link := { s.link with q3 := s.link.q3 ++ [p] } } else s
def due4 (p : Pkt) (s : State) : State :=
  if linkTakes s then { s with link := { s.link with q4 := s.link.q4 ++ [p] } } else s
def due5 (p : Pkt) (s : State) : State :=
  if linkTakes s then { s with link := { s.link with q5 := s.link.q5 ++ [p] } } else s

/-- Bytes a packet takes in the transmit buffer: header, body, the tag of a trailer, CRC. -/
def pktBytes (p : Pkt) : Nat := 12 + p.body.length + (if p.type = 0x03 then 16 else 0)

/-- Bytes the transmit buffer holds. -/
def buffered (s : State) : Nat := (s.link.q4.map pktBytes).sum

/-- Room reserved for a sheet header and a trailer (R235): 76 + 52 bytes. -/
def reservedBytes : Nat := 128

/-- Does a point packet of `n` bytes fit (R235)? -/
def bufferFits (s : State) (n : Nat) : Bool := decide (buffered s + n + reservedBytes ≤ 1048576)

/-! ## Mode acknowledgement (R232) -/

/-- Acknowledge a request: the echo of its [63:50], the result, and the sheet from which it applies. -/
def ackMode (echo result sheet : Nat) (s : State) : State :=
  due2 (pkt 0x0B (leBytes 8 (field 14 50 echo + field 3 47 result + field 32 0 sheet)))
    { s with seq := { s.seq with lastResult := result } }

/-- Refuse a request: acknowledge and count it. -/
def refuseMode (echo result : Nat) (s : State) : State := count .requestsRefused 1 (ackMode echo result 0 s)

/-! ## Arrival -/

/-- Bytes of a body of each upstream type, its tag not counted; none where the type is not accepted (Table 9.6,
Table 10.5; 0x93 is discarded). -/
def upLength (type : Nat) : Option Nat :=
  if type = 0x81 then some 16
  else if type = 0x82 then some 8
  else if type = 0x83 then some 32
  else if type = 0x84 then some 8
  else if type = 0x90 then some 104
  else if type = 0x91 then some 64
  else if type = 0x92 then some 8
  else if type = 0x98 then some 24
  else none

/-- May a packet of this type carry a tag? Session and safety packets are untagged (Table 9.6). -/
def mayTag (type : Nat) : Bool := decide (type = 0x81 ∨ type = 0x82 ∨ type = 0x84 ∨ type = 0x98)

/-- Header fields of received bytes. -/
def rxType (l : List Byte) : Nat := leAt l 0 1
def rxVersion (l : List Byte) : Nat := leAt l 1 1
def rxLength (l : List Byte) : Nat := leAt l 2 2
def rxSeq (l : List Byte) : Nat := leAt l 4 2
def rxTagged (l : List Byte) : Bool := bit 0 (leAt l 7 1)

/-- The checks of R222 that need no key: CRC, violation, version, type, length. -/
def rxWellFormed (l : List Byte) (viol : Bool) : Bool :=
  !viol && decide (12 ≤ l.length) && decide (leAt l (l.length - 4) 4 = crc32 (l.take (l.length - 4))) &&
    decide (rxVersion l = 1) && decide (l.length = rxLength l + 12) &&
    (match upLength (rxType l) with
     | none => false
     | some n => decide (rxLength l = n + (if rxTagged l then 16 else 0)) && (!rxTagged l || mayTag (rxType l)))

/-- The packet counter of R223: the least value above the last accepted one whose low 16 bits are the sequence. -/
def rxCounter (last : Option Nat) (seq : Nat) : Nat :=
  let from_ := match last with | none => 0 | some c => c + 1
  from_ + (seq + 65536 - from_ % 65536) % 65536

/-- How far above the last accepted counter the value is. -/
def rxDistance (last : Option Nat) (c : Nat) : Nat := match last with | none => c + 1 | some l => c - l

/-- Does the tag verify under the session? -/
def rxTagOk (k : Session) (l : List Byte) : Bool :=
  let c := rxCounter k.ctrUp (rxSeq l)
  decide (rxDistance k.ctrUp c ≤ 32768) &&
    decide (slice l (l.length - 20) 16 = packetTag k.kUp k.number true false c (l.take (l.length - 20)))

/-- The token bucket of R230 at the present instant: tokens and the instant they are reckoned from. -/
def refilled (s : State) : Nat × Nat :=
  let gained := (s.now - s.link.refill) / 3200000
  if 64 ≤ s.link.tokens + gained then (64, s.now) else (s.link.tokens + gained, s.link.refill + gained * 3200000)

/-- Discard an upstream packet and count it; a time-sync message is counted in Table 5.7 as well (R230). -/
def discardUp (type : Nat) (s : State) : State :=
  let t := count .upDiscarded 1 s
  if type = 0x81 then count .timeSyncDiscarded 1 t else t

/-- Take a token (R230). -/
def takeToken (s : State) : State :=
  { s with link := { s.link with tokens := (refilled s).1 - 1, refill := (refilled s).2 } }

/-- An establishment runs: from the host hello until the device finish is sent (R256). -/
def establishing (s : State) : Bool := s.sec.hello.isSome || s.sec.next.isSome

/-- The tag rules of R223 and R256 on a packet that passed R222's other checks: accepted or not, and the state. -/
def checkTag (l : List Byte) (s : State) : Bool × State :=
  let ty := rxType l
  if !(mayTag ty) then (true, s)
  else if rxTagged l && establishing s then
    (false, when_ (s.sec.session.isNone && decide (ty = 0x82 ∨ ty = 0x98)) (discardUp ty) (count .taggedDuring 1 s))
  else
    match s.sec.session with
    | none => if rxTagged l || ty = 0x82 || ty = 0x98 then (false, discardUp ty s) else (true, s)
    | some k =>
      if rxTagged l && rxTagOk k l then
        (true, { s with sec := { s.sec with session := some { k with ctrUp := some (rxCounter k.ctrUp (rxSeq l)) } } })
      else (false, discardUp ty s)

/-- The lane test plan that runs (R239). -/
def planNow (s : State) : LanePlan := Table.getD {} s.legend.plans s.link.plan

/-- The upstream lane is under test, so no upstream packet is received (R239). -/
def upTested (s : State) : Bool := decide (s.link.plan ≠ 0) && bit 4 (planNow s).lanes

/-- The codes of a packet as the receiver reads them: it inverts a pair whose polarity it has corrected (Table 9.3). -/
def rxCodes (s : State) (codes : List Nat) : List Nat := if s.link.inverted then codes.map invertCode else codes

/-- The bytes of a packet. -/
def rxBytes (s : State) (codes : List Nat) (rd : Bool) : List Byte := (rxWords rd (rxCodes s codes)).data

/-- Does it contain a code violation (R212), or is it no whole packet? -/
def rxViol (s : State) (codes : List Nat) (rd : Bool) : Bool :=
  !wholePacket rd (rxCodes s codes) || decide ((rxWords rd (rxCodes s codes)).violations ≠ 0)

/-- A packet arrives whole: what R222, R223 and R230 leave of it, and the state after the checks. -/
def receive (l : List Byte) (viol : Bool) (s : State) : Option UpPkt × State :=
  if s.link.stage ≠ 8 || upTested s then (none, s)
  else if (refilled s).1 = 0 then (none, discardUp (rxType l) s)
  else if !(rxWellFormed l viol) then (none, count .upDiscarded 1 (takeToken s))
  else
    let t := { takeToken s with link := { (takeToken s).link with seqUp := rxSeq l } }
    match checkTag l t with
    | (false, u) => (none, u)
    | (true, u) =>
      let n := (upLength (rxType l)).getD 0
      (some { type := rxType l, body := slice l 8 n }, u)

/-- Act on an arriving packet of one type: `f` on its body when it is accepted, its discard otherwise.  Bytes of
another type are not this command, and leave the state as it is (notes/assumptions/5.md). -/
def onPacket (type : Nat) (codes : List Nat) (rd : Bool) (f : List Byte → State → State) (s : State) : State :=
  if rxType (rxBytes s codes rd) ≠ type then s
  else
    match receive (rxBytes s codes rd) (rxViol s codes rd) s with
    | (none, t) => t
    | (some p, t) => f p.body t

end Sys2Proof.Machine
end

