-- ==== Sys2Proof/Machine/Link.lean ====
section
/-! DEFINITION. The Etust link (chapter 9): bring-up, sleep, training, width, link down, packet transmission and lane
tests. -/

namespace Sys2Proof.Machine

open Sys2Proof

/-! ## Shared operations -/

def modLink (f : Link → Link) (s : State) : State := { s with link := f s.link }

/-- The time of `n` symbols on a downstream lane, taps: 0.8 ns each. -/
def symTaps (n : Nat) : Nat := (n * 128 + 4) / 5

/-- The training pattern on the lanes of a mask (R213 step 3). -/
def trainingLine (am lanes : Nat) : List (Nat × List Sym) :=
  (lanesOf lanes).map (fun e => (e.1, trainingWords am e.1 e.2 (popcount 4 lanes)))

/-- Alignment markers that the training in progress has sent: one in every 16 words of 3.2 ns (R213 step 3). -/
def trainingMarkers (now : Nat) (l : Link) : Nat :=
  if l.down == .training && decide (l.trainAt ≤ now) then (now - l.trainAt) * 10 / 16384 + 1 else 0

/-- The marker count with those of a training in progress (R211). -/
def markersNow (now : Nat) (l : Link) : Nat := (l.am + trainingMarkers now l) % 256

/-- The lanes that are neither in `lanes` nor under test carry the training pattern (R213 step 4). -/
def lanesBeside (lanes : Nat) (l : Link) : Nat := 15 ^^^ (lanes ||| l.tested)

/-- Training from the instant `at_` on the lanes intended, of which `active` are in use (R213 step 3). -/
def linkTrain (intended active at_ now : Nat) (l : Link) : Link :=
  { l with down := .training, cold := false, intended := intended, others := lanesBeside intended l, active := active
           acted := 256, st := (0, 0), trainAt := at_, am := markersNow now l
           zeroAt := if active = 0 && l.active ≠ 0 then now else l.zeroAt }

/-- A training of lanes that carry traffic begins at the word after the packet in progress (R220, R236). -/
def afterPacket (now : Nat) (l : Link) : Nat := max now l.busyUntil

/-- Training from nothing on every lane not under test: the width is 0 until the host reports (R213). -/
def linkTrainAll (at_ now : Nat) (l : Link) : Link :=
  { linkTrain (15 ^^^ l.tested) 0 at_ now l with rising := none, riseDue := 0 }

/-- R213 steps 1 to 3: the transmit PLL starts, ETXC runs within 100 us, IDL follows for 100 us, then training on all
four lanes; `wait` is how long ETXC is first held stopped (step 5). -/
def linkTransmitStart (wait : Nat) (s : State) : State :=
  modLink (fun l => { linkTrainAll (s.now + wait + us 200) s.now { l with tested := 0 } with restart := false, cold := true, line := [] }) s

/-- ETXC and the downstream lanes stop (R119). -/
def linkStop (s : State) : State :=
  modLink (fun l => { l with down := .off, active := 0, zeroAt := (if l.active ≠ 0 then s.now else l.zeroAt),
                             restart := true, plan := 0, tested := 0, testDue := false, am := markersNow s.now l, line := [] }) s

/-- What each physical lane carries at the present instant: in a training IDL for 100 us where ETXC has just started, then
the pattern; else what was last put on it (R213, R220). -/
def lineNow (s : State) : List (Nat × List Sym) :=
  let l := s.link
  match downNow s with
  | .off => []
  | .clock => onLanes 15 (fun _ => idlSet)
  | .training =>
    trainingLine (markersNow s.now l - 1) l.intended ++ trainingLine (markersNow s.now l - 1) l.others
  | _ => l.line

/-- Retrain the downstream lanes at new lanes (R216, R236). -/
def linkRetrain (lanes : Nat) (s : State) : State :=
  count .retrains 1 (modLink (fun l => linkTrain lanes lanes (afterPacket s.now l) s.now l) s)

/-- Both directions are ready (R214). -/
def linkReady (s : State) : Bool :=
  decide (s.link.stage = 8) && (s.link.down == .data || s.link.down == .asleep || s.link.down == .test)

/-- Note that the link has been ready, so that a link down can follow (R238). -/
def noteReady (s : State) : State :=
  if linkReady s then modLink (fun l => { l with downDeclared := false }) s else s

/-! ## Receiver stages (R213 to R215, R219) -/

/-- A code read in whichever disparity it belongs to. -/
def readAny (c : Nat) : Option Sym := (decodeSym false c).or (decodeSym true c)

/-- An ordered set read code by code from the disparity its first code shows. -/
def readSet : Bool → List Nat → List (Option Sym)
  | _, [] => []
  | rd, c :: r =>
    let v := decodeSym rd c
    v :: readSet (match v with | none => codeDisparity rd c | some w => (encodeSym rd w).2) r

/-- A valid IDL or UTS. -/
def isIdlOrUts (set : List Nat) : Bool :=
  match readSet (firstDisparity set) set with
  | [some a, some b, some c, some d] =>
    decide (a = comma ∧ d = d215) &&
      (decide (b = d215 ∧ c = d215) || (decide (b = .k 0x5C) && (match c with | .d _ => true | .k _ => false)))
  | _ => false

/-- Symbol 3 of every one of the last four sets is `v`. -/
def lastFour (v : Sym) (sets : List (List Nat)) : Bool :=
  decide (4 ≤ sets.length) && (sets.drop (sets.length - 4)).all (fun set => decide (readAny (set.getD 3 0) = some v))

/-- The receiver enters a stage. -/
def enterStage (n now : Nat) (l : Link) : Link := { l with stage := n, stageAt := now, confirmed := false }

/-- A stage's condition is met (Table 9.3).  Stages 5 to 7 pass at once: leaving stage 4 corrects the polarity and
returns to stage 4 once, within the same 20 us, or enters stage 8. -/
def receiverStage (clearNs : Nat) (sets : List (List Nat)) (now : Nat) (l : Link) : Link :=
  let sets := if l.inverted then sets.map (·.map invertCode) else sets
  if l.stage = 1 then (if 10000 ≤ clearNs then enterStage 2 now l else l)
  else if l.stage = 2 then (if 20000 ≤ clearNs then enterStage 3 now l else l)
  else if l.stage = 3 then
    (if decide (3 ≤ sets.length) && (sets.drop (sets.length - 3)).all (fun set => decide (readAny (set.getD 0 0) = some comma)) then
      { enterStage 4 now l with corrected := false } else l)
  else if l.stage < 8 then
    (if lastFour d102 sets && !l.corrected then { l with stage := 4, inverted := !l.inverted, corrected := true }
     else if lastFour d215 sets then { enterStage 8 now l with upAsleep := false }
     else l)
  else if decide (8 ≤ sets.length) && (sets.drop (sets.length - 8)).all isIdlOrUts then { l with confirmed := true }
  else l

/-- UPSTREAM_STAGE. -/
def execUpstreamStage (dt : Nat) (seen : StageInput) (s : State) : Out :=
  let t := advance dt s
  .next (when_ (!upTested t) (fun t => noteReady (modLink (receiverStage seen.clearNs seen.sets t.now) t)) t)

/-- The receiver returns to stage `n`, and notes when it leaves stage 8 (R238). -/
def receiverBack (n now : Nat) (l : Link) : Link :=
  { enterStage n now l with leftAt := if l.stage = 8 then now else l.leftAt }

/-- The time allowed in a stage, taps; 0 where there is none (Table 9.3). -/
def stageTimeout (stage : Nat) : Nat :=
  if stage = 2 then ms 1 else if stage = 3 then us 200 else if stage = 4 then us 20 else if stage = 8 then us 50 else 0

/-- Has the receiver's stage timed out?  Stage 8 while its eight sets have not come. -/
def stageTimedOut (s : State) : Bool :=
  decide (2 ≤ s.link.stage) && !s.link.confirmed && decide (s.link.stageAt + stageTimeout s.link.stage ≤ s.now) && !upTested s

/-- UPSTREAM_STAGE_TIMEOUT (R214). -/
def execUpstreamStageTimeout (dt : Nat) (s : State) : Out :=
  let t := advance dt s
  .next (when_ (stageTimedOut t) (fun t => count .bringUpFailures 1
    (modLink (fun l => { receiverBack 1 t.now l with upAsleep := false,
                                                     leftAt := if l.upAsleep then t.now else (receiverBack 1 t.now l).leftAt }) t)) t)

/-- The condition of R215 on the last 256 symbols: 8 code violations, or two K28.5 off the word alignment. -/
def lockLost (s : State) (run : CodeRun) : Bool :=
  let r := rxAfter (rxCodes s run.before) (rxCodes s run.codes)
  decide (run.codes.length ≤ 256) && decide (8 ≤ r.violations ∨ 2 ≤ r.offWord)

/-- SYMBOL_LOCK_LOSS (R215): in stages 4 to 8 the receiver returns to stage 3. -/
def execSymbolLockLoss (run : CodeRun) (s : State) : Out :=
  let t := advance run.dt s
  .next (when_ (decide (4 ≤ t.link.stage) && lockLost t run && !upTested t) (fun t => modLink (receiverBack 3 t.now) t) t)

/-- LOSS_OF_SIGNAL (R215): in stages 2 to 8 the receiver returns to stage 1. -/
def execLossOfSignal (seen : SignalDetect) (s : State) : Out :=
  let t := advance seen.dt s
  .next (when_ (decide (2 ≤ t.link.stage) && (seen.lockLost || decide (1000 ≤ seen.lostNs)) && !upTested t)
    (fun t => modLink (receiverBack 1 t.now) t) t)

/-- UPSTREAM_SLEEP (R219): after at least two SLP sets the receiver enters stage 1 without counting a failure; an
electrical idle after fewer is a loss of signal. -/
def execUpstreamSleep (dt slpSets : Nat) (s : State) : Out :=
  let t := advance dt s
  .next (when_ (decide (2 ≤ t.link.stage) && !upTested t)
    (fun t => modLink (fun l => { receiverBack 1 t.now l with upAsleep := decide (2 ≤ slpSets) }) t) t)

/-! ## Lane report and training (R213, R216, R236, R237) -/

/-- Count identical UTS. -/
def utsRun (st : Nat) (l : Link) : Nat := if l.st.1 = st then l.st.2 + 1 else 1

/-- Lanes the mask shows good beyond those in use, and since when (R237). -/
def risingNext (now extra : Nat) (l : Link) : Option (Nat × Nat) :=
  if extra = 0 then none
  else match l.rising with
    | some (m, at_) => if m = extra then some (m, at_) else some (extra, now)
    | none => some (extra, now)

/-- What the active lanes carry, and the training pattern on the lanes beside them (R213 step 4). -/
def onLine (f : Nat → List Sym) (l : Link) : Link := { l with line := onLanes l.active f ++ trainingLine l.am l.others }

/-- The link comes up on some lanes: IDL there, and the training pattern on the others (R213 step 4). -/
def linkUp (lanes : Nat) (s : State) : State :=
  noteReady (modLink (fun l => onLine (fun _ => idlSet) { l with
    down := .data, active := lanes, others := lanesBeside lanes l, width := popcount 4 lanes, am := markersNow s.now l,
    amAt := s.now, busyUntil := s.now }) s)

/-- Act on a changed st (R216): the width is that of the good lanes. -/
def utsAct (st : Nat) (s : State) : State :=
  let mask := bits 7 4 st
  let t := modLink (fun l => { l with acted := st, good := mask, riseDue := l.riseDue &&& mask }) s
  let noteRising := fun (kept : Nat) (l : Link) =>
    { l with rising := risingNext s.now ((mask ^^^ kept) &&& (15 ^^^ l.tested)) l }
  match s.link.down with
  | .training =>
    let lanes := mask &&& s.link.intended
    let t := modLink (noteRising lanes) t
    if bit 3 st && lanes ≠ 0 then
      let u := linkUp lanes t
      if popcount 4 lanes ≠ s.link.width && s.link.width ≠ 0 then logEvent 7 2 0 (linkWord u) u else u
    else modLink (fun l => { l with active := lanes, zeroAt := if lanes = 0 && l.active ≠ 0 then s.now else l.zeroAt }) t
  | .data | .asleep =>
    let kept := s.link.active &&& mask
    let t := modLink (noteRising kept) t
    if kept = 0 then modLink (fun l => linkTrainAll (afterPacket s.now l) s.now l) t
    else if kept ≠ s.link.active then
      let u := modLink (fun l => { l with width := popcount 4 kept }) (linkRetrain kept t)
      logEvent 7 2 0 (linkWord u) u
    else if bit 2 st then linkRetrain s.link.active t
    else t
  | _ => t

/-- UTS (R216): the device acts on a changed st after four consecutive identical UTS, in training not before the first
training word. -/
def execUts (dt : Nat) (st : Byte) (s : State) : Out :=
  let t := advance dt s
  .next (when_ (decide (t.link.stage = 8) && !upTested t) (fun t =>
    let run := utsRun st.toNat t.link
    let u := modLink (fun l => { l with st := (st.toNat, min run 4) }) t
    if 4 ≤ run ∧ u.link.acted ≠ st.toNat ∧ (downNow t = .training ∨ t.link.down ≠ .training) then utsAct st.toNat u
    else u) t)

/-- TRAINING_TIMEOUT (R213 step 5): after 20 ms of training ETXC stops for 100 us and bring-up starts again with all four
lanes intended. -/
def execTrainingTimeout (dt : Nat) (s : State) : Out :=
  let t := advance dt s
  .next (when_ (t.link.down == .training && decide (t.link.trainAt + ms 20 ≤ t.now))
    (fun t => let u := count .trainingTimeouts 1 (linkTransmitStart (us 100) t); logEvent 7 3 0 (linkWord u) u) t)

/-- WIDTH_RISE (R237): lanes good for 1 s are to be retrained into use at the next B_n. -/
def execWidthRise (dt : Nat) (s : State) : Out :=
  let t := advance dt s
  .next (match t.link.rising with
    | some (m, at_) =>
      if at_ + sec 1 ≤ t.now then modLink (fun l => { l with riseDue := m, rising := none }) t else t
    | none => t)

/-- The larger width is retrained into use at B_n (R237), with the lanes that are still good. -/
def riseAtBoundary (s : State) : State :=
  if s.link.down == .data || s.link.down == .asleep then
    let more := s.link.riseDue &&& s.link.good
    let t := modLink (fun l => { l with riseDue := 0 }) s
    if more = 0 then t else linkRetrain (s.link.active ||| more) t
  else s

/-! ## Link down (R238) -/

/-- The upstream receiver has been out of stage 8, other than asleep (R219), for 1 ms; an upstream lane test keeps it in
stage 8 (R239). -/
def upstreamOut (s : State) : Bool :=
  decide (s.link.stage ≠ 8) && !s.link.upAsleep && !upTested s && decide (s.link.leftAt + ms 1 ≤ s.now)

/-- The width has been 0 for 1 ms, other than where every lane that carried traffic is under test (R239). -/
def widthOut (s : State) : Bool :=
  decide (linkWidth s = 0) && !(s.link.down == .test) && decide (s.link.zeroAt + ms 1 ≤ s.now)

/-- The condition of R238. -/
def linkIsDown (s : State) : Bool := !s.link.downDeclared && (upstreamOut s || widthOut s)

/-- End the session: its keys, an establishment and the old session's key go (R259). -/
def endSession (s : State) : State :=
  { s with sec := { s.sec with session := none, old := [], hello := none, next := none } }

/-- Free a dump pool context (R159). -/
def freePool (x : Nat) (s : State) : State :=
  { s with survey := { s.survey with
      dumpHeld := Table.del s.survey.dumpHeld x, dumpUsed := s.survey.dumpUsed.filter (· ≠ x) } }

/-- Discard every pending downstream packet, counted, and return the pool contexts of dump packets (R238). -/
def discardPending (s : State) : State :=
  let l := s.link
  let n := l.q1.length + l.q2.length + l.q3.length + l.q4.length + l.q5.length + s.dma.snapshots.length
  let t := l.q5.foldl (fun u p => match p.pool with | none => u | some x => freePool x u) s
  count .discardedLinkDown n
    (modLink (fun l => { l with q1 := [], q2 := [], q3 := [], q4 := [], q5 := [] })
      { t with dma := { t.dma with snapshots := [] } })

/-- Link down is declared (R238). -/
def linkDown (s : State) : State :=
  let t := discardPending (endSession s)
  let t := modLink (fun l =>
    { (if l.down == .off then { l with active := 0 } else linkTrainAll (afterPacket s.now l) s.now { l with tested := 0 }) with
      stage := 1, stageAt := s.now, confirmed := false, upAsleep := false, downDeclared := true, plan := 0, tested := 0, testDue := false }) t
  let t := { t with recd := { t.recd with readout := none }
                    contour := { t.contour with
                      sheets := (t.contour.sheets.filter (fun o => !o.trailed)).map (fun o => { o with session := none }) } }
  count .linkDowns 1 (logEvent 7 1 0 (linkWord t) t)

/-- LINK_DOWN. -/
def execLinkDown (dt : Nat) (s : State) : Out :=
  let t := advance dt s
  .next (when_ (linkIsDown t) linkDown t)

/-! ## Sleep (R218) -/

/-- No packet is due. -/
def nothingDue (s : State) : Bool :=
  s.link.q1.isEmpty && s.link.q2.isEmpty && s.link.q3.isEmpty && s.link.q4.isEmpty && s.link.q5.isEmpty

/-- The last packet sent was a sheet trailer. -/
def trailerSent (l : Link) : Bool := match l.sent with | none => false | some p => decide (leAt p.bytes 0 1 = 0x03)

/-- The lanes may sleep: in Idle, with every sheet trailed and nothing due, directly after a trailer or 100 us after the
last packet (R218). -/
def maySleep (s : State) : Bool :=
  s.link.idle && s.link.down == .data && nothingDue s && s.contour.sheets.all (fun o => o.session.isNone) &&
    decide (s.link.busyUntil ≤ s.now) && (trailerSent s.link || decide (s.link.busyUntil + us 100 ≤ s.now))

/-- DOWNSTREAM_SLEEP: one SLP word on each active lane, then electrical idle. -/
def execDownstreamSleep (dt : Nat) (s : State) : Out :=
  let t := advance dt s
  .next (when_ (maySleep t) (modLink (fun l => onLine (fun _ => slpSet) { l with down := .asleep })) t)

/-- Sleeping lanes wake: 64 IDL words, then one AM word (R218). -/
def wake (now : Nat) (l : Link) : Link :=
  if l.down == .asleep then
    { onLine (fun _ => wakeWords l.am) l with
      down := .data, am := (l.am + 1) % 256, amAt := now + symTaps 256, busyUntil := now + symTaps 260 }
  else l

/-- At the boundary that leaves Idle the lanes wake (R218). -/
def wakeLanes (s : State) : State := modLink (fun l => { wake s.now l with idle := false }) s

/-! ## Transmission (R220 to R224, R229) -/

/-- Link bytes released from the transmit buffer within the last 10 us. -/
def releasedBytes (s : State) : Nat :=
  ((s.link.released.filter (fun e => decide (s.now < e.1 + us 10))).map (·.2)).sum

/-- May the sheet stream's next packet go: a session exists (R214), and 12.288 Gb/s over 10 us, 15,360 bytes, is kept
(R235)? -/
def streamMayGo (s : State) (p : Pkt) : Bool :=
  s.sec.session.isSome && decide (releasedBytes s + linkBytes (popcount 4 s.link.active) (pktBytes p) ≤ 15360)

/-- Take a dump packet, which is sent only in a session (R223). -/
def takeDump (s : State) : Option (Pkt × Link) :=
  match s.link.q5 with
  | p :: r => if s.sec.session.isSome then some (p, { s.link with q5 := r }) else none
  | [] => none

/-- Take the first pending packet in the priority order of R224; dump packets use what the sheet stream leaves. -/
def takeDue (s : State) : Option (Pkt × Link) :=
  match s.link.q1 with
  | p :: r => some (p, { s.link with q1 := r })
  | [] =>
  match s.link.q2 with
  | p :: r => some (p, { s.link with q2 := r })
  | [] =>
  match s.link.q3 with
  | p :: r => some (p, { s.link with q3 := r })
  | [] =>
  match s.link.q4 with
  | p :: r => if streamMayGo s p then some (p, { s.link with q4 := r }) else takeDump s
  | [] => takeDump s

/-- The session a packet is tagged under: the present one, or for the trailer of a sheet whose header went out under
the old session, the old one (R260). -/
def tagSession (s : State) (number : Option Nat) : Option Session :=
  match number with
  | some n =>
    match s.sec.old.find? (fun o => o.number = n) with
    | some o => some o
    | none => s.sec.session
  | none => s.sec.session

/-- Is a tag due now (R223)?  Status responses and time echoes are tagged exactly while a session exists. -/
def tagDue (s : State) (p : Pkt) : Bool :=
  (p.tagged || decide (p.type = 0x08 ∨ p.type = 0x09)) && s.sec.session.isSome

/-- The instant at which a packet's K27.7 leaves: lanes asleep wake first (R218). -/
def sendAt (s : State) : Nat := if s.link.down == .asleep then s.now + symTaps 260 else s.now

/-- The body as it leaves: the serialiser inserts t3 into a time echo (R231). -/
def bodyAtSend (s : State) (p : Pkt) : List Byte :=
  if p.type = 0x09 then p.body.take 16 ++ leBytes 8 (localAt s (sendAt s)) ++ p.body.drop 24 else p.body

/-- Append the CRC-32 (R222). -/
def withCrc (l : List Byte) : List Byte := l ++ leBytes 4 (crc32 l)

/-- The sheet the packetiser holds under a counter. -/
def sheetOutOf (s : State) (n : Nat) : Option SheetOut := s.contour.sheets.find? (fun o => o.sheet = n)

/-- Replace a sheet the packetiser holds. -/
def modSheetOut (n : Nat) (f : SheetOut → SheetOut) (s : State) : State :=
  { s with contour := { s.contour with sheets := s.contour.sheets.map (fun o => if o.sheet = n then f o else o) } }

/-- The sheet's header has gone out under session `k`, and its trailer has not. -/
def trailerUnder (k : Session) (o : SheetOut) : Bool := decide (o.session = some k.number) && !o.aad.isEmpty

/-- The new session is in force when its device finish is sent; the old one is kept for the trailers of its sheets
(R256, R260). -/
def activateSession (s : State) : State :=
  match s.sec.next with
  | none => s
  | some k =>
    let olds := (s.sec.old ++ s.sec.session.toList).filter (fun o => s.contour.sheets.any (trailerUnder o))
    let t := { s with sec := { s.sec with session := some k, old := olds, next := none } }
    count .sessions 1 (logEvent 7 4 0 (linkWord t) t)

/-- Header, body and tag of a packet, and the state with the session's counter and the sheet's run of tagged bytes
advanced (R221, R223, R225). -/
def formPacket (p : Pkt) (s : State) : List Byte × State :=
  let body := bodyAtSend s p
  match p.stream with
  | some n =>
    match sheetOutOf s n with
    | none => (header p.type body.length s.link.seqDown false ++ body, s)
    | some o =>
      if p.type = 0x03 then
        let hb := header 0x03 (body.length + 16) s.link.seqDown true ++ body
        match tagSession s o.session with
        | none => (hb ++ zeros 16, s)
        | some k =>
          let kept := s.sec.old.filter (fun q =>
            decide (q.number ≠ k.number) || s.contour.sheets.any (fun r => decide (r.sheet ≠ n) && trailerUnder k r))
          let t := { s with sec := { s.sec with old := kept } }
          (hb ++ packetTag k.kDown k.number false true n (o.aad ++ hb),
            { t with contour := { t.contour with sheets := t.contour.sheets.filter (fun o => o.sheet ≠ n) } })
      else
        let hb := header p.type body.length s.link.seqDown false ++ body
        (hb, modSheetOut n (fun o => { o with aad := o.aad ++ hb, session := if p.type = 0x01 then s.sec.session.map (·.number) else o.session }) s)
  | none =>
    if tagDue s p then
      match s.sec.session with
      | none => (header p.type body.length s.link.seqDown false ++ body, s)
      | some k =>
        let hb := header p.type (body.length + 16) s.link.seqDown true ++ body
        (hb ++ packetTag k.kDown k.number false false k.ctrDown hb,
          { s with sec := { s.sec with session := some { k with ctrDown := (k.ctrDown + 1) % 2 ^ 48 } } })
    else (header p.type body.length s.link.seqDown false ++ body, s)

/-- The bytes of a packet framed on the active lanes (R220), after a wake where they sleep. -/
def frameOn (bytes : List Byte) (now : Nat) (l : Link) : Link :=
  let n := popcount 4 l.active
  let w := wake now l
  let pre := if l.down == .asleep then wakeWords l.am else []
  let syms := ((bytes.length + n - 1) / n + 2 + 3) / 4 * 4
  { onLine (fun k => pre ++ packetSyms n k bytes) w with
    seqDown := (l.seqDown + 1) % 65536, sent := some { bytes := bytes, lanes := n }
    busyUntil := now + symTaps (pre.length + syms) }

/-- Note a release from the transmit buffer (R235). -/
def noteRelease (p : Pkt) (bytes : List Byte) (now : Nat) (l : Link) : Link :=
  if p.stream.isSome then
    { l with released := (now, linkBytes (popcount 4 l.active) bytes.length) ::
        l.released.filter (fun e => decide (now < e.1 + us 10)) }
  else l

/-- The device hello has left: the host's 100 ms begin (R256 step 3). -/
def helloSent (p : Pkt) (at_ : Nat) (s : State) : State :=
  match s.sec.hello with
  | none => s
  | some h =>
    if h.session = leAt p.body 4 4 then { s with sec := { s.sec with hello := some { h with at_ := some at_ } } } else s

/-- Send one packet: frame it, count it, and free what waited for its K29.7; a device finish puts its session in
force. -/
def sendPacket (p : Pkt) (s : State) : State :=
  let (hb, t) := formPacket p s
  let t := modLink (fun l => noteRelease p (withCrc hb) s.now (frameOn (withCrc hb) s.now l)) t
  let t := if p.type = 0x11 then activateSession t else if p.type = 0x10 then helloSent p (sendAt s) t else t
  match p.pool with
  | none => t
  | some x => freePool x t

/-- The lanes take a packet: no packet is in progress on them. -/
def laneFree (s : State) : Bool :=
  (s.link.down == .data || s.link.down == .asleep) && decide (s.link.active ≠ 0) && decide (s.link.busyUntil ≤ s.now)

/-- ALIGNMENT_MARKER: every 4,096 words an AM word on every active lane, after a packet in progress; n counts modulo 256
(R211, R213, R220). -/
def execAlignmentMarker (dt : Nat) (s : State) : Out :=
  let t := advance dt s
  .next (when_ (laneFree t && !(t.link.down == .asleep) && decide (t.link.amAt + symTaps 16384 ≤ t.now))
    (fun t => modLink (fun l => { onLine (fun _ => amSet l.am) l with
      am := (l.am + 1) % 256, amAt := t.now, busyUntil := t.now + symTaps 4 }) t) t)

/-! ## Lane tests (R239, R240) -/

/-- LANE_TEST_START: in Depot, once pending downstream packets have been sent, the planned lanes carry the pattern; the
others go on with traffic (R239). -/
def execLaneTestStart (dt : Nat) (s : State) : Out :=
  .next (when_ (s.link.testDue && nothingDue s && decide (s.seq.mode = 6) && s.phase == .mode && linkReady s &&
      decide (s.link.busyUntil ≤ s.now + dt)) (fun t =>
    let p := Table.getD {} t.legend.plans t.seq.plan
    let t := [0, 1, 2, 3, 4].foldl (fun u i =>
      countSet (.checkerErrors i) 0 (countSet (.checkerBits i) 0 (countSet (.checkerSyncLosses i) 0 u))) t
    let carry := t.link.active &&& (15 ^^^ bits 3 0 p.lanes)
    modLink (fun l => { l with
      testDue := false, plan := t.seq.plan, down := if carry = 0 then .test else l.down, active := carry,
      tested := bits 3 0 p.lanes, riseDue := l.riseDue &&& (15 ^^^ bits 3 0 p.lanes),
      rising := l.rising.map (fun e => (e.1 &&& (15 ^^^ bits 3 0 p.lanes), e.2)), others := l.others &&& (15 ^^^ bits 3 0 p.lanes), checkers := [], testAt := t.now }) t) (advance dt s))

/-- The bits before a pattern's first: Config's, never all clear. -/
def prbsStart (code : Nat) : List Bool :=
  (List.range (prbsTaps code).1).map (fun i => decide (i = 0) || Config.prbsSeed i)

/-- `n` further bits of a pattern after the bits `last`, newest first. -/
def prbsRun (code : Nat) : Nat → List Bool → List Bool
  | 0, _ => []
  | n + 1, last => prbsPredict code last :: prbsRun code n (prbsPredict code last :: last.take ((prbsTaps code).1 - 1))

/-- Bit `n` of a tested downstream lane, sent in place of the 8b/10b encoder's output (R239): the pattern, inverted as its
standard says, and the injected errors. -/
def testBit (p : LanePlan) (n : Nat) : Bool :=
  Bool.xor ((prbsRun p.patDown (n + 1) (prbsStart p.patDown)).getLastD false)
    (Bool.xor (prbsInverted p.patDown) (injected p.ks p.burst p.kb n))

/-- Bits a lane carries in a time: 12.5 Gb/s downstream, 1.25 Gb/s upstream (Table 9.1). -/
def laneBits (lane taps : Nat) : Nat := if lane = 4 then taps * 5 / 128 else taps * 25 / 64

/-- What a checker has compared since it gained sync, and how many of those bits the plan inverted under loopback. -/
def checkerRun (s : State) (lane : Nat) : Nat × Nat :=
  let c := Table.getD {} s.link.checkers lane
  if c.sync then
    let a := laneBits lane (c.since - s.link.testAt)
    let b := laneBits lane (s.now - s.link.testAt)
    let p := planNow s
    (b - a, if lane = 4 then 0 else injectedBefore p.ks p.burst p.kb b - injectedBefore p.ks p.burst p.kb a)
  else (0, 0)

/-- Bring a checker's counters up to the present, with `errors` further errors of its lane. -/
def settleChecker (lane errors : Nat) (s : State) : State :=
  if (Table.getD {} s.link.checkers lane).sync then
    let r := checkerRun s lane
    modLink (fun l => { l with checkers := Table.put l.checkers lane { sync := true, since := s.now } })
      (count (.checkerErrors lane) (r.2 + errors) (count (.checkerBits lane) r.1 s))
  else s

/-- Every checker's counters brought up to the present, as a status read shows them during the test (R240). -/
def settleCheckers (s : State) : State := [0, 1, 2, 3, 4].foldl (fun u i => settleChecker i 0 u) s

/-- The test ends: the tested lanes retrain, and the session is kept; where other lanes carry traffic they go on, and the
tested ones carry the training pattern until they join (R213, R237, R239). -/
def laneTestEnd (s : State) : State :=
  let up := upTested s
  let t := modLink (fun l => { l with tested := 0 }) s
  let t := if s.link.tested = 0 then t
    else if s.link.down == .test then linkRetrain s.link.tested t
    else count .retrains 1 (modLink (fun l => { l with
      others := l.others ||| s.link.tested, rising := risingNext s.now (l.good &&& (15 ^^^ l.active)) l }) t)
  modLink (fun l =>
    let l := { l with plan := 0, checkers := l.checkers.map (fun c => (c.1, { c.2 with sync := false })) }
    if up then { receiverBack 1 s.now l with corrected := false } else l) t

/-- Depot is left, or Safe stop entered: a lane test that runs ends, and one that is due does not start (Table 12.1). -/
def endLaneTest (s : State) : State :=
  modLink (fun l => { l with testDue := false }) (if s.link.plan ≠ 0 then laneTestEnd (settleCheckers s) else s)

/-- LANE_TEST_END: at the end of the planned duration. -/
def execLaneTestEnd (dt : Nat) (errors : List (Nat × Nat)) (s : State) : Out :=
  need (errors.all (fun c => decide (c.1 < 5))) (
    let t := advance dt s
    when_ (decide (t.link.plan ≠ 0) && decide (t.link.testAt + sec (planNow t).duration ≤ t.now))
      (fun t => laneTestEnd (settleCheckers (errors.foldl (fun u c => settleChecker c.1 c.2 u) t))) t)

/-- Is the checker in use: the upstream one when that lane is tested, a downstream one under loopback (Table 9.9)? -/
def checkerUsed (s : State) (i : Nat) : Bool :=
  decide (s.link.plan ≠ 0) && bit i (planNow s).lanes && (decide (i = 4) || (planNow s).loopback)

/-- CHECKER_SYNC: 64 consecutive bits predicted without error. -/
def execCheckerSync (dt : Nat) (seen : LaneBits) (s : State) : Out :=
  need (decide (seen.lane < 5)) (
    let t := advance dt s
    let code := if seen.lane = 4 then (planNow t).patUp else (planNow t).patDown
    when_ (checkerUsed t seen.lane && checkerGains code seen.bits && !(Table.getD {} t.link.checkers seen.lane).sync)
      (fun t => modLink (fun l => { l with checkers := Table.put l.checkers seen.lane { sync := true, since := t.now } }) t) t)

/-- CHECKER_SYNC_LOSS: the errors not yet reported are counted, and 64 or more within 1,024 bits lose sync (R240). -/
def execCheckerSyncLoss (dt lane errors : Nat) (wrong : List Nat) (s : State) : Out :=
  need (decide (lane < 5)) (
    let t := advance dt s
    when_ (checkerUsed t lane && (Table.getD {} t.link.checkers lane).sync) (fun t =>
      let u := settleChecker lane errors t
      when_ (checkerLoses wrong) (fun u =>
        modLink (fun l => { l with checkers := Table.put l.checkers lane { sync := false, since := t.now } })
          (count (.checkerSyncLosses lane) 1 u)) u) t)

/-- UPSTREAM_PACKET_DISCARD: an upstream packet that fails a check of R222, R223 or R230 is discarded and counted.
One that passes them all is not this command. -/
def execUpstreamPacketDiscard (dt : Nat) (codes : List Nat) (rd : Bool) (s : State) : Out :=
  let t := advance dt s
  .next (match receive (rxBytes t codes rd) (rxViol t codes rd) t with
    | (none, u) => u
    | (some _, _) => t)

end Sys2Proof.Machine
end

