-- ==== Sys2Proof/Machine/Arith.lean ====
section
/-! DEFINITION. Real arithmetic of the spec evaluated on integers and rationals (notes/assumptions/8.md): powers of ten,
roots, logarithms, rounding. -/

namespace Sys2Proof.Machine

open Sys2Proof

/-- Put `x` into an ordered list, after the entries that do not come after it. -/
def insertBy {α : Type} (before : α → α → Bool) (x : α) : List α → List α
  | [] => [x]
  | y :: r => if before x y then x :: y :: r else y :: insertBy before x r

/-- A list in order; entries that come equal keep theirs. -/
def sortBy {α : Type} (before : α → α → Bool) (l : List α) : List α := l.foldl (fun a x => insertBy before x a) []

/-- The greatest value `r + j`, j below 2^k, whose n-th power does not exceed `x`, found bit by bit. -/
def rootBits (n x : Nat) : Nat → Nat → Nat
  | 0, r => r
  | k + 1, r =>
    let r' := r + 2 ^ k
    rootBits n x k (if r' ^ n ≤ x then r' else r)

/-- The integer n-th root, rounded down, of a number below 2^(n * k). -/
def rootFloor (n k x : Nat) : Nat := rootBits n x k 0

/-- 10^(-c/80) in units of 10^-30, rounded down (R50). -/
def tenth80 (c : Nat) : Nat := rootFloor 80 101 (10 ^ (2400 - c))

/-- The integer square root, rounded down, of a number below 2^256. -/
def sqrtFloor (x : Nat) : Nat := rootFloor 2 128 x

/-- Round a quotient half away from zero; the denominator is positive. -/
def divRound (n : Int) (d : Nat) : Int :=
  if 0 ≤ n then (2 * n + d) / (2 * d) else -((2 * (-n) + d) / (2 * d))

/-- Round a natural quotient half up. -/
def divRoundN (n d : Nat) : Nat := (2 * n + d) / (2 * d)

/-- Round a rational half away from zero. -/
def roundRat (q : Rat) : Int := divRound q.num q.den

/-- Ceiling of a natural quotient. -/
def ceilDiv (n d : Nat) : Nat := (n + d - 1) / d

/-- `k` binary digits of the logarithm to base 2 of a mantissa `x` in units of 2^-64, 1 <= x < 2, put below `acc`. -/
def logBits : Nat → Nat → Nat → Nat
  | 0, _, acc => acc
  | k + 1, x, acc =>
    let y := x * x / 2 ^ 64
    if 2 ^ 65 ≤ y then logBits k (y / 2) (2 * acc + 1) else logBits k y (2 * acc)

/-- The logarithm to base 2 of `n / d` (both positive) in units of 2^-48, rounded down. -/
def log2Fix (n d : Nat) : Int :=
  let e : Int := (Nat.log2 n : Int) - (Nat.log2 d : Int)
  let x := if 0 ≤ e then n * 2 ^ 64 / (d * 2 ^ e.toNat) else n * 2 ^ (64 + (-e).toNat) / d
  let (e', x') := if x < 2 ^ 64 then (e - 1, 2 * x) else (e, x)
  e' * 2 ^ 48 + (logBits 48 x' 0 : Int)

/-- The natural logarithm of a positive rational. -/
def lnRat (q : Rat) : Rat :=
  (log2Fix q.num.toNat q.den : Rat) / 2 ^ 48 * (693147180559945309417232 / 10 ^ 24)

end Sys2Proof.Machine
end

