-- ==== Sys2Proof/Machine/Schedule.lean ====
section
/-! DEFINITION. The shot schedule (chapter 2): fire sheet entries, interleaving, slots, facet phase and the energy of a
shot. -/

namespace Sys2Proof.Machine

open Sys2Proof

/-! ## Mode geometry (R31, R42) -/

/-- Effective interleave depth D' = min(D, Q). -/
def depth (m : ModeTable) : Nat := min m.d m.q

/-- Bearing periods of a sweep: K = N_b + D' - 1 (R31). -/
def periods (m : ModeTable) : Nat := m.nb + depth m - 1

/-- A bearing period at setpoint speed, taps, rounded down (R31). -/
def periodTaps (s : State) (m : ModeTable) : Nat :=
  sec 1 * (10000 - s.legend.scan.gap) / (10000 * s.legend.scan.rs * periods m)

/-- A sheet period at setpoint speed, taps. -/
def sheetTaps (s : State) : Nat := sec 1 / s.legend.scan.rs

/-! ## Fire sheet entries (R37, R38, Table 2.5) -/

/-- Shot count of an entry, unlisted encodings read as R38 says. -/
def entryShots (e : Nat) : Nat :=
  let n := bits 29 24 e
  if n = 0 then 0 else if n < 4 then 4 else if 32 < n then 32 else n

/-- Width code of an entry (R38). -/
def entryWidth (e : Nat) : Nat := min (bits 42 38 e) 28

/-- Power code of an entry. -/
def entryPower (e : Nat) : Nat := bits 37 30 e

/-- First and last bearing of an entry (R38). -/
def entryFirst (e : Nat) : Nat := min (bits 11 0 e) 2399
def entryLast (e : Nat) : Nat := min (bits 23 12 e) 2399

/-- Does the entry cover the bearing? -/
def entryCovers (e β : Nat) : Bool := decide (entryFirst e ≤ β ∧ β ≤ entryLast e)

/-- The 32 entries of a bank in a fire table; an unlisted entry is zero. -/
def entriesOf (t : Table Nat) (b : Nat) : List Nat := (List.range 32).map (fun i => Table.getD 0 t (32 * b + i))

/-- The entry that rules a bearing: the first in table order that covers it (R37). -/
def entryAt (t : Table Nat) (b β : Nat) : Option Nat := (entriesOf t b).find? (fun e => entryCovers e β)

/-- Effective shot count S' = min(S, Q, c) of a bank at a bearing (R37, R42); 0 where nothing covers it. -/
def shotsAt (t : Table Nat) (m : ModeTable) (cap b β : Nat) : Nat :=
  if m.nb ≤ β then 0
  else
    match entryAt t b β with
    | none => 0
    | some e => min (min (entryShots e) m.q) cap

/-- The bearing that a slot of a period serves (R42), where there is one. -/
def bearingOf (m : ModeTable) (p q : Nat) : Option Nat :=
  let back := q % depth m
  if back ≤ p ∧ p - back < m.nb then some (p - back) else none

/-- Pulse width of a code in 0.25 ns units (Table 2.5). -/
def widthQuarters (code : Nat) : Nat := 4 + code

/-- Pulse width in taps of 31.25 ps. -/
def widthTaps (code : Nat) : Nat := 8 * widthQuarters code

/-- The fire table of a mode. -/
def fireTable (s : State) (m : Nat) : Table Nat := Table.getD [] s.legend.fire m

/-- Does entry `i` of a bank give some bearing S' > 0 (R37, R63)?  It does where it is not ruled out by an earlier
entry; the first such bearing is its own first bearing or follows the last bearing of an earlier entry. -/
def entryFires (t : Table Nat) (m : ModeTable) (cap b i : Nat) : Bool :=
  let es := entriesOf t b
  let e := es.getD i 0
  if min (min (entryShots e) m.q) cap = 0 then false
  else
    let earlier := es.take i
    let starts := entryFirst e :: earlier.map (fun x => entryLast x + 1)
    starts.any (fun β => decide (β < m.nb) && entryCovers e β && earlier.all (fun x => !entryCovers x β))

/-- The entries of a bank that give S' > 0. -/
def firingEntries (t : Table Nat) (m : ModeTable) (cap b : Nat) : List Nat :=
  ((List.range 32).filter (entryFires t m cap b)).map (fun i => (entriesOf t b).getD i 0)

/-- The greatest width, in 0.25 ns units, among a bank's entries that give some bearing S' > 0 (R52, R314). -/
def greatestWidth (t : Table Nat) (m : ModeTable) (cap b : Nat) : Nat :=
  (firingEntries t m cap b).foldl (fun a e => max a (widthQuarters (entryWidth e))) 0

/-! ## Energy (R50), in units of 2.5 x 10^-33 nJ: E1 in 0.01 nJ/ns, width in 0.25 ns, attenuation in 10^-30 -/

/-- Limits of a bank in the safety block. -/
def energyRec (s : State) (b : Nat) : EnergyRec := Table.getD {} s.legend.safety.energy b

/-- Energy of one shot. -/
def shotEnergy (s : State) (b w code : Nat) : Nat := (energyRec s b).e1 * w * tenth80 code

/-- 10^30 units of attenuation. -/
def unit30 : Nat := 10 ^ 30

/-- E_sp, E_cell and E_1s in the units of `shotEnergy`. -/
def limSp (s : State) (b : Nat) : Nat := (energyRec s b).eSp * 400 * unit30
def limCell (s : State) (b : Nat) : Nat := (energyRec s b).eCell * 4000 * unit30
def lim1s (s : State) (b : Nat) : Nat := (energyRec s b).e1s * 40000 * unit30

/-! ## Facet phase (R30, R31) -/

/-- The next electrical cycle index after an edge into `code`. -/
def nextCycle (s : State) (cycle : Nat) (code : BitVec 3) : Nat :=
  let n := s.legend.scan.poles / s.legend.scan.facets
  if Config.hallSector code.toNat % 6 = 0 then (cycle + 1) % max n 1 else cycle

/-- Position within the facet of the edge into `code`, in units of 0.1 degree electrical, from the facet edge. -/
def edgePhase (s : State) (cycle : Nat) (code : BitVec 3) : Nat :=
  let n := max (s.legend.scan.poles / s.legend.scan.facets) 1
  (3600 * ((cycle + Config.facetCycle) % n) + 600 * (Config.hallSector code.toNat % 6) + 3600 * n
    - s.legend.scan.edgeAngle) % (3600 * n)

/-- The time one facet takes at the last Hall interval, taps. -/
def facetTime (s : State) (interval : Nat) : Nat :=
  interval * 6 * max (s.legend.scan.poles / s.legend.scan.facets) 1

/-- Taps from the last edge to the first B_n after it: facet phase 1 - g/2 (R31). -/
def toBoundary (s : State) (cycle : Nat) (code : BitVec 3) (interval : Nat) : Nat :=
  let n := 3600 * max (s.legend.scan.poles / s.legend.scan.facets) 1
  let target := n * (20000 - s.legend.scan.gap)
  let here := edgePhase s cycle code * 20000
  ((target + n * 20000 - here) % (n * 20000)) * facetTime s interval / (n * 20000)

/-! ## The sequencer's bearing clock (R31) -/

/-- Taps since facet phase last reached 1 - g/2, `el` taps after an edge into `code` at electrical cycle `cycle`, at the
rate of the last Hall interval. -/
def sinceGap (s : State) (cycle : Nat) (code : BitVec 3) (interval el : Nat) : Nat :=
  let t := max (facetTime s interval) 1
  (el + t - toBoundary s cycle code interval % t) % t

/-- One facet at the present rate of the bearing clock, taps; 0 while it has no rate. -/
def clockFacet (s : State) : Nat := facetTime s s.motor.interval

/-- Taps since the bearing clock's last B_n, none before it has a phase and a rate. -/
def clockSince (s : State) : Option Nat :=
  match s.motor.lastEdge with
  | none => none
  | some e =>
    if s.motor.interval = 0 then none
    else some (sinceGap s s.motor.cycle s.motor.hall s.motor.interval (s.now - e))

/-- The instant of the bearing clock's last B_n (R31); the present one before the clock runs. -/
def clockBn (s : State) : Nat := s.now - (clockSince s).getD 0

/-- The bearing clock stands in a facet gap in which B_n has not been taken: B_n has come (R31). -/
def boundaryReached (s : State) : Bool :=
  match clockSince s with
  | none => false
  | some u => decide (10000 * u < clockFacet s * s.legend.scan.gap) && decide (clockFacet s ≤ 2 * (s.now - s.seq.bn))

/-- The bearing clock's instant of the B_n that opened the present sheet: of its boundaries the one nearest to the
instant at which that B_n was taken. -/
def sheetBn (s : State) : Nat :=
  let t := max (clockFacet s) 1
  let d := clockBn s
  if 2 * d + t < 2 * s.seq.bn then d + t else d - (2 * (d - s.seq.bn) + t) / (2 * t) * t

/-- The length of a facet gap, taps (R31). -/
def gapTaps (s : State) : Nat := clockFacet s * s.legend.scan.gap / 10000

/-- The instant at which slot `q` of bearing period `p` of a mode begins, rounded to the nearest tap (R31, R42, R46). -/
def slotAt (s : State) (m : ModeTable) (p q : Nat) : Nat :=
  let k := max (periods m) 1 * max m.q 1
  let g := s.legend.scan.gap
  sheetBn s + (2 * clockFacet s * (g * k + (p * m.q + q) * (10000 - g)) + 10000 * k) / (2 * 10000 * k)

/-- The bearing clock has reached that slot. -/
def slotReached (s : State) (m : ModeTable) (p q : Nat) : Bool := (clockSince s).isSome && decide (slotAt s m p q ≤ s.now)

end Sys2Proof.Machine
end

