-- ==== Sys2Proof/Machine/Window.lean ====
section
/-! DEFINITION. The emitter slots, the gates at the pads and the diagnostic window of a facet gap as they stand in time (R15,
R31, R54, R62, R69, R73 to R75, R309). -/

namespace Sys2Proof.Machine

open Sys2Proof

def modChain (f : Chain → Chain) (s : State) : State := { s with chain := f s.chain }

/-! ## Boards and slots (R61, R62) -/

/-- Board `k` of the image. -/
def boardAt (s : State) (k : Nat) : BoardRec := s.legend.boards.getD k {}

/-- The type of board `k`. -/
def boardTypeAt (s : State) (k : Nat) : BoardType := Table.getD {} s.legend.boardTypes (boardAt s k).type

/-- Every slot of every board, in board order, then slot order. -/
def slots (s : State) : List (Nat × Nat) :=
  (List.range s.legend.boards.length).flatMap (fun k => (List.range 8).map (fun j => (k, j)))

/-- The slot that serves a bank: its first in board order, then slot order (R62). -/
def slotOf (s : State) (b : Nat) : Option (Nat × Nat) :=
  (slots s).find? (fun kj => (boardAt s kj.1).banks.getD kj.2 255 = b)

/-- The bank that a slot serves, none for an empty slot or a later slot of a bank (R62). -/
def bankAt (s : State) (k j : Nat) : Option Nat :=
  let b := (boardAt s k).banks.getD j 255
  if b < 32 ∧ slotOf s b = some (k, j) then some b else none

/-- Stagger position of a bank on its supply. -/
def staggerPos (s : State) (b : Nat) : Nat :=
  match slotOf s b with
  | none => 0
  | some (k, j) => (boardAt s k).pos.getD j 0

/-- The diagnostic code of a bank's board type. -/
def diagCode (s : State) (b : Nat) : Nat :=
  match slotOf s b with
  | none => 0
  | some (k, _) => (boardTypeAt s k).diagCode

/-! ## Bank states (R69, R71, R77, R80, R81) -/

/-- Boost banks are banks 28 to 31 (R70). -/
def isBoost (b : Nat) : Bool := decide (28 ≤ b)

/-- Thermal-off: the board is off, or the derating factor of a boost bank is 0. -/
def thermalOff (s : State) (b : Nat) : Bool :=
  match slotOf s b with
  | none => false
  | some (k, _) => s.chain.boardsOff.contains k || (isBoost b && decide ((bankOf s b).derate = 0))

/-- The state of Table 3.8 that a bank's parts spell; a short goes before thermal-off (notes/assumptions/47.md). -/
def bankState (s : State) (b : Nat) : Nat :=
  if (slotOf s b).isNone then 5
  else if (bankOf s b).base = 3 then 3
  else if thermalOff s b then 4
  else (bankOf s b).base

/-- Enable 1 on the chain: assigned, not short and not thermal-off (R71, R78, R79). -/
def chainEnable (s : State) (b : Nat) : Bool := decide (bankState s b < 3)

/-! ## The pads (R15, R309, R341) -/

/-- Instant of the edge at the pads: the fire-timing trim moves it by tau_b taps (R341). -/
def padEdge (s : State) (b fire : Nat) : Nat := ((fire : Int) + Table.getD 0 s.calib.live.fire b).toNat

/-- The channel's permit for a bank: its permit and not its veto (R309). -/
def bankPermit (c : SafeCh) (b : Nat) : Bool := c.permit && !c.veto.contains b && !c.nearVeto.contains b

/-- The pads pass a pulse of a bank (R15, R309). -/
def padsPass (s : State) (b : Nat) : Bool := bankPermit s.safety.a b && bankPermit s.safety.b b

/-! ## The facet gap, its frame and its window (R31, R58, R59, R73, R74) -/

/-- A facet gap is open: a sheet's gap, a timing-only gap of Start, or a gap in Safe stop, that of the sheet which the stop
ended or a later one (R31, R35, notes/assumptions/42.md). -/
def inGap (s : State) : Bool :=
  s.seq.period.isNone &&
    (((s.phase == .mode || s.phase == .safeStop) && s.seq.sheetOpen) ||
      ((s.phase == .spinUp || s.phase == .safeStop) && decide (0 < s.seq.timingBoundaries)))

/-- The window is run: not in Idle and not in Safe stop (R79, Table 12.1). -/
def windowRuns (s : State) : Bool := !(s.phase == .mode && decide (s.seq.mode = 5)) && !(s.phase == .safeStop)

/-- How long a frame of `n` words lasts: cells of 1 us without gaps. -/
def frameTaps (n : Nat) : Nat := us (96 * n)

/-- The instant at which this gap's frame starts: 50 us after B_n. -/
def frameStart (s : State) : Nat := s.seq.bn + us 50

/-- The slots of the window in order: board by board from the starting board, then on from board 0 (R73, R74). -/
def windowOrder (s : State) : List Nat :=
  let n := s.legend.boards.length
  let boards := (List.range n).filter (fun k => decide (s.chain.startBoard ≤ k)) ++
    (List.range n).filter (fun k => decide (k < s.chain.startBoard))
  boards.flatMap (fun k => (List.range 8).filterMap (fun j =>
    match bankAt s k j with
    | none => none
    | some b => if (bankOf s b).enable then some b else none))

/-- Slots that the window has still to come to. -/
def slotsLeft (s : State) : List Nat := (windowOrder s).drop s.chain.visited.length

/-- The board a bank is served from. -/
def boardOf (s : State) (b : Nat) : Nat := match slotOf s b with | none => 0 | some (k, _) => k

/-- The instant at which this gap's window opens: 100 us after the last bit of the frame. -/
def windowOpens (s : State) : Nat := frameStart s + frameTaps s.chain.frame.length + us 100

/-- Start and end of the window's next slot, and the fire instant of its pulse. -/
def slotStart (s : State) : Nat := windowOpens s + us 10 * s.chain.visited.length

def slotEnd (s : State) : Nat := slotStart s + us 10

def diagFire (s : State) : Nat := slotStart s + us 2

/-- A dip has been on since the window's present slot began (R75). -/
def dipInSlot (s : State) : Bool :=
  s.supply.dip || (decide (s.supply.lastDipEnd ≠ 0) && decide (slotStart s < s.supply.lastDipEnd))

/-- The end of the present facet gap by the bearing clock (R31). -/
def gapEnd (s : State) : Nat := sheetBn s + gapTaps s

/-- The next slot ends no later than 50 us before the gap's end (R74). -/
def slotFits (s : State) : Bool := decide (slotEnd s + us 50 ≤ gapEnd s)

/-- The diagnostic pulse of a bank: 40 ns from the fire instant, with the current setting of this gap's frame (R73). -/
def diagPulse (s : State) (b : Nat) : FirePulse :=
  { bank := b, at_ := padEdge s b (diagFire s), width := ns 40,
    code := some (if (bankOf s b).fired && decide (bankState s b = 0) then (bankOf s b).code else diagCode s b) }

/-- The fire instant of the window's present slot has come, and its pulse has not been driven. -/
def diagDue (s : State) : Bool :=
  inGap s && s.chain.window && !s.chain.slotLit && slotFits s && decide (diagFire s ≤ s.now)

/-- The present slot's pulse is driven, where both permits and the bank's vetoes let it pass, the outputs run and no dip
inhibits it (R15, R73, R75); what the pads carry from now on follows, so this comes before anything that ends a pulse. -/
def lightDiag (s : State) : State :=
  if diagDue s then
    match (slotsLeft s).head? with
    | none => s
    | some b =>
      let t := modChain (fun c => { c with slotLit := true }) s
      if s.grat.outputs && padsPass s b && !dipInSlot s then { t with pulses := [diagPulse s b] } else t
  else s

end Sys2Proof.Machine
end

