-- ==== Sys2Proof/Machine/SafetyOps.lean ====
section
/-! DEFINITION. What other families share with the safety channels and the sequencer's stopping of fire: R299, R309,
R310, R327, R331, and the recorder's triggers (R399). -/

namespace Sys2Proof.Machine

open Sys2Proof

/-! ## Stopping fire inside a sheet (R299, Table 12.3) -/

/-- Note that close commands are due; the first cause is the one that reaches the contexts (Table 17.3). -/
def stopDue (cause : Nat) (safe : Bool) (q : Seq) : Option Stop :=
  match q.stop with
  | some t => some { t with safe := t.safe || safe }
  | none => some { cause := cause, safe := safe }

/-- The pads from now on, where emission is no longer permitted: no pulse starts, and one in progress ends (R55), a diagnostic
one too (R75). -/
def cutPulses (s : State) : State :=
  let t := lightDiag s
  { t with pulses := t.pulses.filterMap (fun p =>
      if t.now ≤ p.at_ then none else some { p with width := min p.width (t.now - p.at_) }) }

/-- A channel at `now` without the arm commands of shots still to come: a bearing without a context whose last shot is
among them is in progress again. -/
def disarm (now : Nat) (c : Chan) : Chan :=
  let again (a : Arm) (l : List Nat) : List Nat := if a.noCtx && a.last then l ++ [bits 22 11 a.tag.toNat] else l
  let d := match c.next with
    | some n => if now < n.fire then { c with next := none, noCtx := again n c.noCtx } else c
    | none => c
  match d.arm with
  | some a => if now < a.fire then { d with arm := d.next, next := none, noCtx := again a d.noCtx } else d
  | none => d

/-- A shot is taken back: its bank stands as before it. -/
def unfire (x : Shot) (s : State) : State :=
  modBank x.bank (fun v => { v with lastPulse := x.before, opened := Table.put v.opened x.bearing x.q }) s

/-- Shots whose fire instant has not come arm nothing and do not count as taken (R101, R300). -/
def dropShots (s : State) : State :=
  let l := s.seq.shots.filter (fun x => decide (s.now < x.fire))
  let t := l.foldr unfire s
  { t with chans := t.chans.map (fun e => (e.1, disarm s.now e.2))
           seq := { t.seq with shots := t.seq.shots.filter (fun x => decide (x.fire ≤ s.now)) } }

/-- Firing stops until the next boundary at which it may resume. -/
def stopFiring (cause : Nat) (safe : Bool) (s : State) : State :=
  { s with seq := { s.seq with stop := stopDue cause safe s.seq, stopped := true } }

/-- Firing stops for a dip (R424): within 200 ns no shot follows, so those of the slot still to come are inhibited. -/
def stopForDip (s : State) : State :=
  let t := dropShots (cutPulses s)
  { t with seq := { t.seq with stop := stopDue 3 false t.seq, dipStop := true } }

/-! ## Recorder triggers (R399) -/

/-- A trigger is raised, from image acceptance on; it waits until the recorder acts on it. -/
def raiseTrigger (cause : Nat) (s : State) : State :=
  if s.image.accepted then
    { s with recd := { s.recd with
        triggers := s.recd.triggers ++ [(cause, s.now, s.grat.localTime, vehicleNow s)] } }
  else s

/-! ## Urgent conversions (R374) -/

/-- Queue an urgent request; one for an input already queued merges with it, a fifth is refused and counted. -/
def urgentAdd (supply : Bool) (s : State) : State :=
  if s.aux.urgent.contains supply then s
  else if 4 ≤ s.aux.urgent.length then count .urgentRefused 1 s
  else { s with aux := { s.aux with urgent := s.aux.urgent ++ [supply] } }

/-! ## Calibration runs (R351) -/

/-- Abandon the run in progress with a result (Table 14.7). -/
def abandonRun (result : Nat) (s : State) : State :=
  match s.calib.run with
  | none => s
  | some _ =>
    let keep := s.nor.jobs.filter (fun o => match o.job with | .calSlot _ => false | _ => true)
    let t := { s with calib := { s.calib with run := none, result := result, candidate := none }
                      nor := { s.nor with jobs := keep } }
    count .runsAbandoned 1 (logEvent 8 3 0 (thermalWord t) t)

/-! ## Permits (R309, R310, R334) -/

/-- The device is in Start after image acceptance with speed settled; the return to Start of R302 counts. -/
def startSettled (s : State) : Bool := s.phase == .spinUp && s.motor.settled

/-- Conditions 1 to 4 of R309 for one channel, once its ROM check and RAM test are complete (R317). -/
def permitHolds (s : State) (c : SafeCh) : Bool :=
  !c.stopped && c.tested && ((s.phase == .mode && decide (s.seq.mode ≠ 5)) || startSettled s) && c.inWindow && gapHolds c &&
    (!hostLayerUsed c || (c.connOpen && decide (c.demand = 1)))

/-- The level a channel commands on its SOUT: its permit, low during a test pulse (R334, R335). -/
def soutLevel (c : SafeCh) : Bool := c.permit && c.testPulse.isNone

/-- Withdraw a channel's permit: SOUT goes low with it, the pads pass nothing more (R55), work in flight is treated
under R299, and a calibration run ends (R351). -/
def withdrawPermit (d : Side) (s : State) : State :=
  if (sideOf s d).permit then
    abandonRun 2 (stopFiring 2 false (modSide d (fun c => { c with permit := false, sout := false }) (cutPulses s)))
  else s

/-- Withdraw the permit if a condition no longer holds. -/
def checkPermit (d : Side) (s : State) : State :=
  if permitHolds s (sideOf s d) then s else withdrawPermit d s

/-! ## Safe stop (R299, R301, R302, R327, R331) -/

/-- The channel's own part of R327; a further cause only joins the mask (R331). -/
def stopChannel (s : State) (code : Nat) (c : SafeCh) : SafeCh :=
  if c.stopped then { c with causes := if c.causes.contains code then c.causes else c.causes ++ [code] }
  else { c with stopped := true, permit := false, sout := false, notice := true, cause := code, causes := [code],
                entry := some (s.now, chanSpeed s c) }

/-- The scan sequencer's part: firing stops, a held request is refused (R302), the motor brakes along v_exp (R328),
the entry is logged and counted, the
recorder is triggered (R399) and the supply is read (R374). -/
def sequencerSafeStop (s : State) : State :=
  if s.phase == .safeStop then s
  else
    let t := stopFiring 2 true (dropShots (cutPulses s))
    let t := match t.seq.latch with
      | none => t
      | some r => refuseMode r.echo 2 { t with seq := { t.seq with latch := none } }
    let t := wakeLanes (endLaneTest (abandonRun 2 t))
    let t := { t with phase := .safeStop, seq := { t.seq with keyWithdrawn := none },
                      motor := { t.motor with brake := some (t.now, motorSpeed t) } }
    urgentAdd true (raiseTrigger 3 (count .safeStops 1 (logEvent 1 4 0 (modeWord t) t)))

/-- A channel enters Safe stop with a cause, or adds a cause to its mask (R326, R327, R331). -/
def enterSafeStop (d : Side) (code : Nat) (s : State) : State :=
  if s.phase == .reset then s
  else sequencerSafeStop (modSide d (stopChannel s code) (lightDiag s))

/-- Both channels find the same trigger. -/
def enterSafeStopBoth (code : Nat) (s : State) : State := enterSafeStop .b code (enterSafeStop .a code s)

end Sys2Proof.Machine
end

