-- ==== Sys2Proof/Machine/SafetyChannels.lean ====
section
/-! DEFINITION. The two safety channels (chapter 13). -/

namespace Sys2Proof.Machine

open Sys2Proof

/-! ## Host messages (R321 to R323) -/

/-- The checks of R322 that need no sequence: CRC-32C, identity, expectation, kind and demand. -/
def hostMessageOk (s : State) (m : List Byte) : Bool :=
  decide (leAt m 28 4 = crc32c (m.take 28)) && decide (leAt m 4 4 = s.legend.safety.identity) &&
    decide (leAt m 1 1 = s.legend.safety.expectation) &&
    decide (bits 7 4 (leAt m 0 1) = 1 ∨ bits 7 4 (leAt m 0 1) = 2) && decide (bits 7 6 (leAt m 15 1) < 3)

/-- Message fields. -/
def hostKind (m : List Byte) : Nat := bits 7 4 (leAt m 0 1)
def hostSeq (m : List Byte) : Nat := leAt m 2 2
def hostDemand (m : List Byte) : Nat := bits 7 6 (leAt m 15 1)

/-- Does the channel accept the message (R322, R323)? -/
def channelAccepts (s : State) (c : SafeCh) (m : List Byte) : Bool :=
  hostLayerUsed c && hostMessageOk s m &&
    (if hostKind m = 1 ∧ !c.connOpen then true
     else c.everOpen && (let d := (hostSeq m + 65536 - c.lastSeq) % 65536; decide (1 ≤ d ∧ d ≤ 8)))

/-- The accepted demand acts (R323); with the connection closed only "safe stop" does. -/
def actDemand (d : Side) (demand : Nat) (open_ : Bool) (s : State) : State :=
  if demand = 2 then
    enterSafeStop d 9 (modSide d (fun c => { c with demand := 2, hostStop := true }) s)
  else if open_ then checkPermit d (modSide d (fun c => { c with demand := demand, hostStop := false }) s)
  else s

/-- One channel receives a host safety message. -/
def channelMessage (d : Side) (m : List Byte) (s : State) : State :=
  let c := sideOf s d
  if channelAccepts s c m then
    let opens := hostKind m = 1 || c.connOpen
    let t := modSide d (fun c => { c with
      lastSeq := hostSeq m, accepted := c.accepted + 1,
      connOpen := opens, everOpen := c.everOpen || opens,
      lastMsg := if opens then s.now else c.lastMsg }) s
    actDemand d (hostDemand m) opens t
  else s

/-- Both channels receive the message; it is counted as channel A judges it, and an accepted one asks for a device
message (R325). -/
def safetyMessageBody (m : List Byte) (s : State) : State :=
  let t := channelMessage .b m (channelMessage .a m s)
  if channelAccepts s s.safety.a m then
    count .safetyAccepted 1 { t with safety := { t.safety with msgDue := true, echo := hostSeq m } }
  else count .safetyDiscarded 1 t

/-- SAFETY_MESSAGE. -/
def execSafetyMessage (dt : Nat) (codes : List Nat) (rd : Bool) (s : State) : Out :=
  .next (watchSafety (onPacket 0x83 codes rd safetyMessageBody) (advance dt s))

/-- CONNECTION_EXPIRY (R323): T_e with no accepted message closes the connection with demand off.  The device counts
and logs the expiry once, as channel A finds it. -/
def execConnectionExpiry (dt : Nat) (d : Side) (s : State) : Out :=
  let t := advance dt s
  .next (watchSafety (when_ ((sideOf t d).connOpen &&
      decide ((sideOf t d).lastMsg + ms t.legend.safety.expectation ≤ t.now)) (fun t =>
    let u := checkPermit d (modSide d (fun c => { c with connOpen := false, demand := 0 }) t)
    if d = .a then count .connectionExpiries 1 (logEvent 2 3 0 (safetyWord u) u) else u)) t)

/-! ## The exchange (R306, R307, R325) -/

/-- Two numbers differ by more than `k`. -/
def apart (a b k : Nat) : Bool := decide (b + k < a ∨ a + k < b)

/-- The energy of one pulse of a bank at the channel's own code (R314). -/
def pulseEnergy (s : State) (c : SafeCh) (b : Nat) : Nat :=
  let m := s.seq.mode
  shotEnergy s b (greatestWidth (fireTable s m) (modeTable s m) (sheetState s).cap b) (Table.getD 255 c.codes b)

/-- Quantities of Table 13.2 that must agree at once. -/
def exchangeDiffers (s : State) : Bool :=
  let a := s.safety.a
  let b := s.safety.b
  decide (1 < 40 * (chanSpeed s a - chanSpeed s b) ∨ 1 < 40 * (chanSpeed s b - chanSpeed s a)) ||
    (let d := (a.accepted + 256 - b.accepted % 256) % 256; decide (1 < d ∧ d < 255)) ||
    ((List.range 32).any fun i =>
      apart (Table.getD 0 a.pulses i) (Table.getD 0 b.pulses i) 1 || apart (Table.getD 0 a.nears i) (Table.getD 0 b.nears i) 1 ||
      apart (Table.getD {} a.energy i).cellMax (Table.getD {} b.energy i).cellMax (pulseEnergy s a i)) ||
    decide (a.codes ≠ b.codes) || decide (a.selfTest ≠ b.selfTest)

/-- Verdicts, connection and demand differ (Table 13.2). -/
def verdictDiffers (s : State) : Bool :=
  let a := s.safety.a
  let b := s.safety.b
  a.inWindow != b.inWindow || gapHolds a != gapHolds b || a.connOpen != b.connOpen || decide (a.demand ≠ b.demand)

/-- What an input reads as: active or not. -/
def reads (i : Input) : Bool := i.st == .active

/-- Input states differ. -/
def inputDiffers (s : State) : Bool :=
  decide (s.safety.a.in0.st ≠ s.safety.b.in0.st ∨ s.safety.a.in1.st ≠ s.safety.b.in1.st)

/-- Permit, Safe stop and cause mask differ. -/
def permitDiffers (s : State) : Bool :=
  let a := s.safety.a
  let b := s.safety.b
  a.permit != b.permit || a.stopped != b.stopped || !(a.causes.all b.causes.contains && b.causes.all a.causes.contains)

/-- Count consecutive differences. -/
def runOf (differs : Bool) (n : Nat) : Nat := if differs then n + 1 else 0

/-- One channel judges the word it received: CRC-32C and interval (R306). -/
def judgeWord (d : Side) (crcOk : Bool) (interval : Nat) (s : State) : State :=
  let bad := decide (interval < 970 ∨ 1030 < interval)
  let t := modSide d (fun c => { c with lastWord := s.now, badIntervals := runOf bad c.badIntervals }) s
  if !crcOk || decide (4 ≤ (sideOf t d).badIntervals) then enterSafeStop d 2 t else t

/-- The comparison of Table 13.2 by both channels, and the counts since the previous exchange start again; each channel also
learns from the word whether its partner's own sensor is faulty (R363). -/
def compareWords (s : State) : State :=
  let f := { s.safety with
    diffVerdict := runOf (verdictDiffers s) s.safety.diffVerdict,
    diffInput := runOf (inputDiffers s) s.safety.diffInput,
    diffPermit := runOf (permitDiffers s) s.safety.diffPermit }
  let bad := exchangeDiffers s || decide (2 < f.diffVerdict ∨ 3 < f.diffInput ∨ 1 < f.diffPermit)
  let t := { s with safety := { f with
    a := { f.a with pulses := [], nears := [], partnerFault := f.b.ownFault }
    b := { f.b with pulses := [], nears := [], partnerFault := f.a.ownFault } } }
  if bad then enterSafeStopBoth 1 t else t

/-- Do the two copies of the device message agree (R325)? -/
def copiesAgree (s : State) : Bool :=
  decide (s.safety.a.lastSeq = s.safety.b.lastSeq) && !(verdictDiffers s) && !(permitDiffers s) && !(inputDiffers s)

/-- The device safety message of Table 13.6 without its check. -/
def deviceMessageHead (s : State) : List Byte :=
  leBytes 8 (field 32 32 s.legend.safety.identity + field 16 16 s.safety.seq + field 8 8 s.legend.safety.expectation +
      field 4 4 3) ++
    leBytes 8 (field 16 48 s.safety.echo + field 32 16 (safetyWord s) + field 16 0 (min (speedOf s s.safety.a) 2000)) ++
    leBytes 8 s.grat.localTime ++ leBytes 4 0

/-- The device safety message (R321). -/
def deviceMessage (s : State) : List Byte := deviceMessageHead s ++ leBytes 4 (crc32c (deviceMessageHead s))

/-- Half the time expectation, at least 1 ms, in taps (R325). -/
def releaseTaps (s : State) : Nat := ms (max 1 (s.legend.safety.expectation / 2))

/-- Release a device message when one is due and both copies agree (R325). -/
def releaseMessage (s : State) : State :=
  if s.image.loaded && (s.safety.msgDue || decide (s.safety.lastRelease + releaseTaps s ≤ s.now)) && copiesAgree s then
    due1 (pkt 0x0A (deviceMessage s))
      { s with safety := { s.safety with
          seq := (s.safety.seq + 1) % 65536, msgDue := false, lastRelease := s.now, lastStatus := safetyWord s } }
  else s

/-- The channel's self-test goes on by one step between two exchanges; the first pass completes the ROM check and the
RAM test (R306, R317, notes/assumptions/41.md). -/
def nextSelfTest (c : SafeCh) : SafeCh :=
  let n := max Config.selfTestSteps 1
  { c with selfTest := (c.selfTest + 1) % n, tested := c.tested || decide (n ≤ c.selfTest + 1) }

/-- SAFETY_EXCHANGE (R306): words are judged and compared, then a device message may be released. -/
def execSafetyExchange (dt : Nat) (crcOkA crcOkB : Bool) (intervalA intervalB : Nat) (s : State) : Out :=
  .next (when_ (s.phase != .reset) (fun t =>
    releaseMessage (watchSafety (fun u =>
      compareWords (judgeWord .b crcOkB intervalB (judgeWord .a crcOkA intervalA
        (modSide .b nextSelfTest (modSide .a nextSelfTest (count .exchanges 1 u)))))) t))
    (advance dt s))

/-- EXCHANGE_TIMEOUT: the partner's word is absent 1.25 ms after the previous one (R306), the first one after the release of the
reset (notes/assumptions/21.md). -/
def execExchangeTimeout (dt : Nat) (d : Side) (s : State) : Out :=
  let t := advance dt s
  .next (watchSafety (when_ (t.phase != .reset && decide ((sideOf t d).lastWord + us 1250 ≤ t.now))
    (enterSafeStop d 2)) t)

/-- NOTICE_LINE: a channel that sees its partner's line enters Safe stop with the partner's cause (R307). -/
def execNoticeLine (dt : Nat) (d : Side) (s : State) : Out :=
  .next (watchSafety (fun t =>
    let p := sideOf t (otherSide d)
    if p.notice && !(sideOf t d).stopped then enterSafeStop d p.cause t else t) (advance dt s))

/-! ## Speed (R311) and deceleration (R328, R329) -/

/-- v_exp at `t` taps after entry, of setpoint (R328). -/
def vExp (s : State) (v0 : Rat) (t : Nat) : Rat := max 0 (v0 - (t : Rat) / ((ms 100 * max s.legend.safety.ramp 1 : Nat) : Rat))

/-- Is a condition of R329 for removing torque met? -/
def torqueMustGo (s : State) (c : SafeCh) : Bool :=
  match c.entry with
  | none => false
  | some (at_, v0) =>
    let t := s.now - at_
    let v := chanSpeed s c
    c.stopped && c.motEn &&
      (decide (50 * v < 1) || decide (v0 < 5 * (max v (vExp s v0 t) - min v (vExp s v0 t))) ||
        decide (ms 120 * s.legend.safety.ramp ≤ t))

/-- The channel drives its MOT_EN low (R329). -/
def removeTorque (d : Side) (s : State) : State :=
  modSide d (fun c => { c with motEn := false, torqueOff := some s.now }) s

/-- The channel judges the envelope and removes torque if it must. -/
def judgeTorque (d : Side) (s : State) : State := if torqueMustGo s (sideOf s d) then removeTorque d s else s

/-- The speed window is left: the permit goes, counted once per device as channel A finds it (R311). -/
def leaveWindow (d : Side) (s : State) : State :=
  let c := sideOf s d
  if c.inWindow then
    let t := modSide d (fun c => { c with inWindow := false, regain := 0, outSince := if c.entered then some s.now else none }) s
    let t := if d = .a then count .speedWithdrawals 1 t else t
    checkPermit d t
  else s

/-- The rate that a Hall interval implies lies within `lo` to `hi` hundredths of the setpoint: R34 and R311 are judged on
the rate and not on the interval itself (notes/assumptions/40.md). -/
def rateWithin (s : State) (interval lo hi : Nat) : Bool :=
  decide (lo * interval ≤ 100 * hallSetpoint s ∧ 100 * hallSetpoint s ≤ hi * interval)

/-- A valid Hall edge as one channel measures it. -/
def safetyEdge (d : Side) (code : BitVec 3) (s : State) : State :=
  let c := sideOf s d
  let interval := match c.lastEdge with | none => 0 | some e => s.now - e
  let t := modSide d (fun c => { c with
    lastEdge := some s.now, interval := interval, cycle := nextCycle s c.cycle code, hall := code,
    regain := if interval ≠ 0 ∧ rateWithin s interval 96 104 then min (c.regain + 1) 16 else 0 }) s
  let u :=
    if interval ≠ 0 ∧ !(rateWithin s interval 95 105) then leaveWindow d t
    else if 16 ≤ (sideOf t d).regain then
      modSide d (fun c => { c with inWindow := true, entered := true, outSince := none }) t
    else t
  judgeTorque d u

/-- SAFETY_HALL_EDGE (R311, R328). -/
def execSafetyHallEdge (dt : Nat) (d : Side) (code : BitVec 3) (s : State) : Out :=
  .next (watchSafety (when_ (s.phase != .reset && code != 0 && code != 7) (safetyEdge d code)) (advance dt s))

/-- SPEED_BELOW_WINDOW: the estimate from the time since the last edge has fallen below the window (R311). -/
def execSpeedBelowWindow (dt : Nat) (d : Side) (s : State) : Out :=
  let t := advance dt s
  .next (watchSafety (when_ (match (sideOf t d).lastEdge with
      | none => false
      | some e => decide (100 * hallSetpoint t < 95 * (t.now - e))) (leaveWindow d)) t)

/-- SPEED_WINDOW_TIMEOUT: outside the window for 5 s (R311). -/
def execSpeedWindowTimeout (dt : Nat) (d : Side) (s : State) : Out :=
  let t := advance dt s
  .next (watchSafety (when_ (match (sideOf t d).outSince with
      | none => false
      | some o => (sideOf t d).entered && decide (o + sec 5 ≤ t.now)) (enterSafeStop d 6)) t)

/-- TORQUE_REMOVAL (R329). -/
def execTorqueRemoval (dt : Nat) (d : Side) (s : State) : Out := .next (watchSafety (judgeTorque d) (advance dt s))

/-- Standstill by both channels: the motor rests and BIAS_PWM goes low (R92, R330). -/
def bothAtRest (s : State) : State :=
  if s.safety.a.standstill && s.safety.b.standstill then
    { s with bias := { s.bias with on := false, duty := 0 },
             motor := { s.motor with torque := false, settled := false, brake := none, rampStart := none } }
  else s

/-- STANDSTILL: 1 s after the later of torque removal and the last Hall edge (R330). -/
def execStandstill (dt : Nat) (d : Side) (s : State) : Out :=
  let t := advance dt s
  .next (watchSafety (fun t =>
    let c := sideOf t d
    match c.torqueOff with
    | none => t
    | some o =>
      if !c.standstill && decide (max o (c.lastEdge.getD 0) + sec 1 ≤ t.now) then
        bothAtRest (modSide d (fun c => { c with standstill := true }) t)
      else t) t)

/-! ## Facet gaps (R309, R310, R312) -/

/-- The tolerance of R312, 1/200 of a sheet period. -/
def gapTolerance (s : State) : Nat := sheetTaps s / 200

/-- The predicted B_n nearest to the present instant. -/
def predictedBn (s : State) (c : SafeCh) : Option Nat :=
  match c.lastEdge with
  | none => none
  | some e =>
    if c.interval = 0 then none
    else
      let t := facetTime s c.interval
      let first := e + toBoundary s c.cycle c.hall c.interval
      if first ≤ s.now then some (first + (s.now - first + t / 2) / t * t)
      else if s.now + t / 2 < first then some (first - t) else some first

/-- Find the present gap implausible (R312): counted once, and the permit goes at once. -/
def gapImplausible (d : Side) (s : State) : State :=
  let c := sideOf s d
  if c.gapBad then s
  else
    let t := modSide d (fun c => { c with gapBad := true, badGaps := c.badGaps + 1 }) s
    let t := if d = .a then count .implausibleGaps 1 t else t
    let t := checkPermit d t
    if 3 ≤ (sideOf t d).badGaps then enterSafeStop d 7 t else t

/-- The bins of a sheet: K periods and the whole bins of its gap (R50). -/
def gapBins (s : State) (m : ModeTable) : Nat :=
  s.legend.scan.gap * periods m / max (10000 - s.legend.scan.gap) 1

/-- The largest sum over any n_c consecutive bins that ends at bin `n`. -/
def cellSum (e : Energy) (n nc : Nat) : Nat :=
  ((e.bins.filter (fun p => decide (n < p.1 + nc ∧ p.1 ≤ n))).map (·.2)).sum

/-- At B_n the cells of the sheet of mode table `m` that ends are put away, and bins go on; the cell that ends in the first bin of
the new sheet's gap already holds the tail of the sweep before it (R314). -/
def energyAtBoundary (s : State) (m : ModeTable) (c : SafeCh) : SafeCh :=
  let base := c.binBase + gapBins s m + periods m
  { c with binBase := base,
           energy := c.energy.map (fun p =>
             (p.1, { p.2 with past := (p.2.cellMax :: p.2.past).take (s.legend.scan.rs - 1)
                              cellMax := cellSum p.2 base m.nc })) }

/-- Restore the permit if every condition holds at this boundary (R310).  A permit asserted during a test pulse
raises SOUT only at its end (R336). -/
def restorePermit (d : Side) (s : State) : State :=
  if permitHolds s (sideOf s d) then
    modSide d (fun c => { c with permit := true, sout := c.testPulse.isNone }) s
  else withdrawPermit d s

/-- The gap of the predicted B_n `p` is the channel's present one: it has begun with its marker, or without it. -/
def gapBegun (s : State) (c : SafeCh) (p : Nat) : Bool :=
  match c.gapBn with
  | none => false
  | some b => decide (2 * (max b p - min b p) < facetTime s c.interval)

/-- A gap begins at the channel's B_n `p`; the one before it was plausible or not (R312). -/
def beginGap (p : Nat) (c : SafeCh) : SafeCh :=
  { c with gapOk := !c.gapBad, badGaps := if c.gapBad then c.badGaps else 0, gapBad := false, gapBn := some p }

/-- B_N_MARKER (R312): the gap that ends here was plausible or not, the marker is judged against the channel's own
prediction, and the permit is restored if every condition holds.  A marker after its gap has begun without it begins no
other gap. -/
def bnMarkerAt (d : Side) (s : State) : State :=
  let c := sideOf s d
  match predictedBn s c with
  | none => restorePermit d (gapImplausible d (modSide d (beginGap s.now) s))
  | some p =>
    let t := if gapBegun s c p then s else modSide d (beginGap p) s
    restorePermit d (if p ≤ s.now + gapTolerance s ∧ s.now ≤ p + gapTolerance s then t else gapImplausible d t)

/-- B_N_MARKER. -/
def execBnMarker (dt : Nat) (d : Side) (s : State) : Out :=
  .next (watchSafety (when_ (s.phase == .mode || s.phase == .spinUp) (bnMarkerAt d)) (advance dt s))

/-- B_N_MARKER_MISSING: no marker has come by the predicted B_n plus 1/200 of a sheet period; the gap that begins there is
implausible (R312).  In Start there are such boundaries from the first after speed has settled (R35). -/
def execBnMarkerMissing (dt : Nat) (d : Side) (s : State) : Out :=
  let t := advance dt s
  .next (watchSafety (when_ (t.phase == .mode || startSettled t) (fun t =>
    match predictedBn t (sideOf t d) with
    | none => t
    | some p =>
      if p + gapTolerance t ≤ t.now ∧ !(gapBegun t (sideOf t d) p) ∧ (t.phase = .spinUp → t.motor.settledAt ≤ p) then
        gapImplausible d (modSide d (beginGap p) t)
      else t)) t)

/-! ## Pulses at the pads (R312, R314 to R317) -/

/-- The angular bin in which the instant `at_` lies (R50, R314): bins of one bearing period, laid backward from the gap's
end; the part-bin at the gap's start joins the last period of the sweep before it. -/
def binAt (s : State) (c : SafeCh) (at_ : Nat) : Nat :=
  let m := modeTable s s.seq.mode
  let g : Int := s.legend.scan.gap
  let t : Int := max (facetTime s c.interval) 1
  let dt : Int := (at_ : Int) - (c.gapBn.getD at_ : Int)
  let w : Int := max (t * (10000 - g)) 1
  (((c.binBase : Int) + (gapBins s m : Int)) + ((10000 * dt - g * t) * (periods m : Int)) / w).toNat

/-- Instants of the pulses of a bank that are on their way to the pads before the instant `at_`, not yet seen there. -/
def pulsesAhead (s : State) (e : Energy) (b at_ : Nat) : List Nat :=
  (s.pulses.filter (fun p => decide (p.bank = b ∧ s.now ≤ p.at_ ∧ p.at_ ≤ at_ ∧ p.width < ns 20) &&
    !e.short.any (fun q => decide (q.1 = p.at_)))).map (·.at_)

/-- Would a pulse of energy `w` at the instant `at_` take an accumulator above its limit (R314)? -/
def overLimit (s : State) (c : SafeCh) (b w at_ : Nat) : Bool :=
  let e := Table.getD {} c.energy b
  let nc := (modeTable s s.seq.mode).nc
  let n := binAt s c at_
  let ahead := pulsesAhead s e b at_
  let short := ((e.short.filter (fun p => decide (at_ < p.1 + us 5))).map (·.2)).sum +
    ahead.countP (fun x => decide (at_ < x + us 5)) * w + w
  let cell := cellSum e n nc + ahead.countP (fun x => decide (n < binAt s c x + nc)) * w + w
  let second := max e.cellMax cell + e.past.sum
  decide (limSp s b < short ∨ limCell s b < cell ∨ lim1s s b < second)

/-- The check before a bank's pulse at the instant `at_` by one channel (R314): a pulse over a limit is vetoed, with cause 3. -/
def energyCheck (d : Side) (b at_ : Nat) (s : State) : State :=
  let c := sideOf s d
  if overLimit s c b (pulseEnergy s c b) at_ then
    let t := modSide d (fun c => { c with veto := if c.veto.contains b then c.veto else c.veto ++ [b] }) s
    let t := if d = .a || !(s.safety.a.veto.contains b) then count .energyVetoes 1 t else t
    enterSafeStop d 3 { t with safety := { t.safety with vetoSeen := true } }
  else s

/-- Put a sweep pulse into a channel's accumulators (R314). -/
def addPulse (s : State) (b : Nat) (c : SafeCh) : SafeCh :=
  let w := pulseEnergy s c b
  let n := binAt s c s.now
  let e := Table.getD {} c.energy b
  let added := if e.bins.any (fun p => decide (p.1 = n))
    then e.bins.map (fun p => if p.1 = n then (n, p.2 + w) else p) else e.bins ++ [(n, w)]
  let bins := added.filter (fun p => decide (n < p.1 + (modeTable s s.seq.mode).nc))
  let e' := { e with short := e.short.filter (fun p => decide (s.now < p.1 + us 5)) ++ [(s.now, w)], bins := bins }
  let sum := cellSum e' n (modeTable s s.seq.mode).nc
  { c with pulses := Table.put c.pulses b (Table.getD 0 c.pulses b + 1),
           energy := Table.put c.energy b { e' with cellMax := max e'.cellMax sum } }

/-- Is a pulse of this width at this instant at odds with the channel's gap (R312)? -/
def pulseImplausible (s : State) (c : SafeCh) (width : Nat) : Bool :=
  match c.gapBn with
  | none => true
  | some b =>
    let tol := gapTolerance s
    let end_ := b + facetTime s c.interval * s.legend.scan.gap / 10000
    if width < ns 20 then decide (b + tol ≤ s.now ∧ s.now + tol ≤ end_)
    else !(decide (b ≤ s.now + tol ∧ s.now ≤ end_ + tol))

/-- A pulse seen at a pad (R312, R314, R316). -/
def padPulse (d : Side) (b width : Nat) (s : State) : State :=
  let c := sideOf s d
  let t := if bankPermit c b then s else enterSafeStop d 13 s
  let t := if pulseImplausible s c width then gapImplausible d t else t
  if width < ns 20 then modSide d (addPulse s b) t else t

/-- FIRE_PAD_PULSE. -/
def execFirePadPulse (dt : Nat) (d : Side) (bank width : Nat) (s : State) : Out :=
  need (decide (bank < 32)) (watchSafety (when_ (s.phase != .reset) (padPulse d bank width)) (advance dt s))

/-- A detector saw the test pulse in the third condition alone (R317). -/
def gateOk (r : Bool × Bool × Bool) : Bool := !r.1 && !r.2.1 && r.2.2

/-- No frame has been sent in this Start. -/
def beforeFrames (s : State) : Bool :=
  decide (s.seq.timingBoundaries = 0) || (decide (s.seq.timingBoundaries = 1) && !s.chain.sent)

/-- GATE_TEST (R317): during spin-up in Start, once, before the first frame: a test pulse of 2 ns on every bank passes the
pads in the third condition, and each channel's detectors are judged. -/
def execGateTest (dt : Nat) (seenA seenB : List (Bool × Bool × Bool)) (s : State) : Out :=
  need (decide (seenA.length = 32) && decide (seenB.length = 32))
    (watchSafety (when_ (s.phase == .spinUp && !s.safety.gateTested && beforeFrames s) (fun t =>
      let u := { t with
        safety := { t.safety with gateTested := true }
        pulses := (List.range 32).map (fun b => { bank := b, at_ := t.now, width := ns 2, code := none }) }
      let u := if seenA.all gateOk then u else enterSafeStop .a 13 u
      if seenB.all gateOk then u else enterSafeStop .b 13 u)) (advance dt s))

/-! ## Dual-contact inputs (R318 to R320) -/

/-- Push a sample into the 3-sample filter: samples newest first, and the contact's state. -/
def filterContact (raw : List Bool) (state level : Bool) : List Bool × Bool :=
  let r := (level :: raw).take 3
  (r, if r = [true, true, true] then true else if r = [false, false, false] then false else state)

/-- One step of the machine of Table 13.4 on the filtered contacts; false where the input is not used. -/
def contactStep (now : Nat) (i : Input) : Input :=
  match i.st, i.a, i.b with
  | .inactive, true, true => { i with st := .active }
  | .inactive, true, false => { i with st := .pendingUp, firstA := true, since := now }
  | .inactive, false, true => { i with st := .pendingUp, firstA := false, since := now }
  | .inactive, false, false => i
  | .pendingUp, true, true => { i with st := .active }
  | .pendingUp, false, false => { i with st := .inactive }
  | .pendingUp, a, b =>
    if i.firstA = a then i else { i with st := .pendingUp, firstA := a && !b, since := now }
  | .active, false, false => { i with st := .inactive }
  | .active, false, true => { i with st := .pendingDown, firstA := true, since := now }
  | .active, true, false => { i with st := .pendingDown, firstA := false, since := now }
  | .active, true, true => i
  | .pendingDown, false, false => { i with st := .inactive }
  | .pendingDown, true, true => { i with st := .discrepancy }
  | .pendingDown, a, _ =>
    if i.firstA = !a then i else { i with st := .discrepancy }
  | .discrepancy, false, false => { i with st := .inactive }
  | .discrepancy, _, _ => i

/-- A sample of an input's two contacts. -/
def inputSample (now : Nat) (used levelA levelB : Bool) (i : Input) : Input :=
  let fa := filterContact i.rawA i.a levelA
  let fb := filterContact i.rawB i.b levelB
  let j := { i with rawA := fa.1, a := fa.2, rawB := fb.1, b := fb.2 }
  if used && i.started then contactStep now j else j

/-- Start an input machine when the safety block has been checked (R318): the contact states are the last three
samples where they agree, inactive otherwise.  An input that the profile does not use runs no machine (R319). -/
def inputStart (now : Nat) (used : Bool) (i : Input) : Input :=
  let a := decide (i.rawA = [true, true, true])
  let b := decide (i.rawB = [true, true, true])
  { i with started := true, a := a, b := b, firstA := a, since := now,
           st := if !used then .inactive else if a && b then .active else if a || b then .pendingUp else .inactive }

/-- A discrepancy is latched in either channel for the input. -/
def discrepancy (s : State) (input : Nat) : Bool :=
  if input = 0 then s.safety.a.in0.st == .discrepancy || s.safety.b.in0.st == .discrepancy
  else s.safety.a.in1.st == .discrepancy || s.safety.b.in1.st == .discrepancy

/-- What follows a change of the inputs: entries into Discrepancy are counted and logged (R320), the cover brings
Safe stop with cause 8, and withdrawal of the depot key in Depot is a request for Idle (R295). -/
def afterInputs (d : Side) (before t : State) : State :=
  let u := [0, 1].foldl (fun v i =>
    if discrepancy t i && !(discrepancy before i) then
      count (.discrepancies i) 1 (logEvent 2 2 i (safetyWord t) v)
    else v) t
  let c := sideOf u d
  let u := if coverUsed c && c.in0.started && !reads c.in0 then
      (if c.stopped && c.causes.contains 8 then u else enterSafeStop d 8 u)
    else u
  if depotKey before && !(depotKey u) && decide (u.seq.mode = 6) && u.phase == .mode then
    { u with seq := { u.seq with keyWithdrawn := some u.now } }
  else u

/-- A channel has checked the safety block: its input machines start, and cause 8 is judged from here on (R318). -/
def startInputs (d : Side) (s : State) : State :=
  afterInputs d s (modSide d (fun c => { c with
    in0 := inputStart s.now (coverUsed c) c.in0, in1 := inputStart s.now (depotUsed c) c.in1 }) s)

/-- SIN_SAMPLE: one channel samples the four contacts (R318, R319). -/
def execSinSample (dt : Nat) (d : Side) (a0 b0 a1 b1 : Bool) (s : State) : Out :=
  .next (watchSafety (when_ (s.phase != .reset) (fun t =>
    afterInputs d t (modSide d (fun c => { c with
      in0 := inputSample t.now (coverUsed c) a0 b0 c.in0,
      in1 := inputSample t.now (depotUsed c) a1 b1 c.in1 }) t))) (advance dt s))

/-- t_d of an input, taps. -/
def discrepancyTaps (s : State) (input : Nat) : Nat :=
  ms (if input = 0 then s.legend.safety.disc0 else s.legend.safety.disc1)

/-- Pending for t_d or longer: Discrepancy (Table 13.4). -/
def contactTimeout (now td : Nat) (i : Input) : Input :=
  if (i.st == .pendingUp || i.st == .pendingDown) && decide (i.since + td ≤ now) then { i with st := .discrepancy } else i

/-- DISCREPANCY_TIMEOUT. -/
def execDiscrepancyTimeout (dt : Nat) (d : Side) (input : Nat) (s : State) : Out :=
  need (decide (input < 2)) (watchSafety (fun t =>
    afterInputs d t (modSide d (fun c =>
      if input = 0 then
        (if coverUsed c then { c with in0 := contactTimeout t.now (discrepancyTaps t 0) c.in0 } else c)
      else if depotUsed c then { c with in1 := contactTimeout t.now (discrepancyTaps t 1) c.in1 } else c) t))
      (advance dt s))

/-! ## SOUT (R334 to R336) -/

/-- A readback fault: cause 11 (R334, R335). -/
def soutFails (d : Side) (s : State) : State :=
  enterSafeStop d 11 (modSide d (fun c => { c with soutFault := true }) s)

/-- SOUT_READBACK: two consecutive readings that differ from the commanded level are a fault (R334). -/
def execSoutReadback (dt : Nat) (d : Side) (level : Bool) (s : State) : Out :=
  .next (watchSafety (when_ (s.phase != .reset) (fun t =>
    let u := modSide d (fun c => { c with soutRun := runOf (level != c.sout) c.soutRun }) t
    if 2 ≤ (sideOf u d).soutRun then soutFails d u else u)) (advance dt s))

/-- An off-pulse falls due (R335): for channel A every 1 s, for channel B 500 ms after channel A's, whose instant the
exchange reports. -/
def testDue (d : Side) (s : State) : Bool :=
  match d with
  | .a => (match s.safety.a.lastTest with | none => true | some x => decide (x + sec 1 ≤ s.now))
  | .b =>
    match s.safety.a.lastTest with
    | none => false
    | some x => decide (x + ms 500 ≤ s.now ∧ s.now < x + sec 1) &&
        (match s.safety.b.lastTest with | none => true | some y => decide (y < x))

/-- SOUT_TEST_PULSE: an off-pulse while the output is high; one due while it is low is skipped (R335). -/
def execSoutTestPulse (dt : Nat) (d : Side) (s : State) : Out :=
  .next (when_ (s.phase != .reset && testDue d (advance dt s)) (fun t => modSide d (fun c =>
    let v := { c with lastTest := some t.now }
    if c.sout then { v with testPulse := some t.now, testSample := some (t.now + us 250), sout := false } else v) t)
    (advance dt s))

/-- SOUT_TEST_SAMPLE: 250 us into the pulse it reads low, 50 us after its end the commanded level; a failed sample is a
fault at once (R335, R336). -/
def execSoutTestSample (dt : Nat) (d : Side) (level : Bool) (s : State) : Out :=
  let t := advance dt s
  .next (watchSafety (when_ (match (sideOf t d).testSample with | none => false | some x => decide (x ≤ t.now)) (fun t =>
    let u := modSide d (fun c => { c with testSample := none }) t
    if level != (sideOf u d).sout then soutFails d u else u)) t)

/-- SOUT_TEST_PULSE_END: after 300 us the output returns to the commanded level, to be sampled 50 us later (R335,
R336). -/
def execSoutTestPulseEnd (dt : Nat) (d : Side) (s : State) : Out :=
  let t := advance dt s
  .next (when_ (match (sideOf t d).testPulse with | none => false | some x => decide (x + us 300 ≤ t.now)) (fun t =>
    modSide d (fun c => { c with testPulse := none, testSample := some (t.now + us 50), sout := c.permit }) t) t)

/-! ## Own sensor and self-test (R326, R363) -/

/-- Consecutive readings of 135 degC or more. -/
def hotRun (reading : Option Int) (n : Nat) : Nat :=
  match reading with
  | none => 0
  | some t => if 540 ≤ t then n + 1 else 0

/-- A reading of the own sensor within -55 to 150 degC, from a sensor that has not been faulty since Start (R360). -/
def ownReading (c : SafeCh) (reading : Option Int) : Option Int :=
  if c.ownFault then none else reading.filter (fun t => decide (-220 ≤ t ∧ t ≤ 600))

/-- SAFETY_SENSOR_READ: every 1 ms the own sensor and T_j are judged; where the own sensor is faulty, T_j alone (R360, R363). -/
def execSafetySensorRead (dt : Nat) (d : Side) (raw : Option Int) (s : State) : Out :=
  let t := advance dt s
  .next (watchSafety (when_ (t.phase != .reset &&
      (match (sideOf t d).sensorAt with | none => true | some x => decide (x + ms 1 ≤ t.now))) (fun t =>
    let reading := ownReading (sideOf t d) raw
    let u := modSide d (fun c => { c with
      sensorAt := some t.now, ownTemp := reading, ownFault := reading.isNone, hotOwn := hotRun reading c.hotOwn
      hotTj := hotRun t.thermal.tj c.hotTj }) t
    if 2 ≤ (sideOf u d).hotOwn ∨ 2 ≤ (sideOf u d).hotTj then enterSafeStop d 10 u else u)) t)

/-- SAFETY_SELF_TEST_FAILURE: cause 12. -/
def execSafetySelfTestFailure (dt : Nat) (d : Side) (s : State) : Out :=
  .next (watchSafety (enterSafeStop d 12) (advance dt s))

end Sys2Proof.Machine
end

