-- ==== Sys2Proof/Machine/Motor.lean ====
section
/-! DEFINITION. The motor drive, the bearing clock's edges and the camera lock (chapter 2). -/

namespace Sys2Proof.Machine

open Sys2Proof

def modMotor (f : Motor → Motor) (s : State) : State := { s with motor := f s.motor }

/-- Torque reaches the motor: the sequencer applies it and both safety channels enable the driver. -/
def torqueOn (s : State) : Bool := s.motor.torque && s.safety.a.motEn && s.safety.b.motEn

/-- The phases driven high and low for the present Hall code; none while torque is off (chapter 2, Motor drive). -/
def motorPhases (s : State) : Option (Nat × Nat) :=
  if torqueOn s then
    let p := Config.commutation s.motor.hall.toNat
    some (p.1 % 3, p.2 % 3)
  else none

/-- The setpoint, rpm (R29). -/
def setpointRpm (s : State) : Nat := 60 * s.legend.scan.rs / s.legend.scan.facets

/-- Commanded speed, of setpoint: in Safe stop the ramp down of R328, else the ramp up, then the setpoint with the camera
trim (R33, R34, R36).  The ramp up is commanded from 0, whatever speed the polygon still has (notes/assumptions/30.md). -/
def commanded (s : State) : Rat :=
  match s.motor.brake with
  | some (at_, v0) => max 0 (v0 - ((s.now - at_ : Nat) : Rat) / ((ms 100 * max s.legend.safety.ramp 1 : Nat) : Rat))
  | none =>
    if s.motor.settled then 1 + (s.seq.camera.trim : Rat) / 1000000000
    else
      match s.motor.rampStart with
      | none => 0
      | some t =>
        min 1 (((s.legend.scan.accel * (s.now - t) * s.legend.scan.facets : Nat) : Rat) /
          ((sec 60 * max s.legend.scan.rs 1 : Nat) : Rat))

/-- A motor fault is reported to both safety channels: Safe stop with cause 5 (R33, R326). -/
def motorFault (c : Counter) (s : State) : State :=
  let t := count c 1 { s with motor := { s.motor with fault := true } }
  enterSafeStopBoth 5 { t with safety := { t.safety with
    a := { t.safety.a with motorFault := true }, b := { t.safety.b with motorFault := true } } }

/-- Difference of two electrical angles, 0.1 degree, at most 1,800. -/
def angleDiff (a b : Nat) : Nat :=
  let d := (a % 3600 + 3600 - b % 3600) % 3600
  min d (3600 - d)

/-- The bearing clock and the speed loop at an edge (R31, R34).  The duty holds its value while the outputs are stopped
(R119).  That an interval lies within 1 % is judged on the rate it implies (notes/assumptions/40.md). -/
def motorEdge (code : BitVec 3) (s : State) : Motor :=
  let m := s.motor
  let interval := match m.lastEdge with | none => 0 | some e => s.now - e
  let near := interval ≠ 0 ∧ rateWithin s interval 99 101
  let run := if near then min (m.settleRun + 1) 16 else 0
  let err := commanded s - rateOf s interval
  let integral := if s.grat.outputs then m.integral + err else m.integral
  let settles := !m.settled && s.phase == .spinUp && decide (16 ≤ run)
  { m with hall := code, lastEdge := some s.now, interval := interval, cycle := nextCycle s m.cycle code,
           settleRun := run, settled := m.settled || settles, settledAt := if settles then s.now else m.settledAt,
           integral := integral,
           duty := if s.grat.outputs then Config.speedLoop s.legend.scan.kp s.legend.scan.ki err integral else m.duty }

/-- The observer's angle against the Hall angle while the speed exceeds 50 % of setpoint (chapter 2, R33).  An edge at
which the comparison is suspended ends the run of edges that disagree (notes/assumptions/40.md). -/
def observe (code : BitVec 3) (observer : Nat) (s : State) : State :=
  if s.motor.interval ≠ 0 ∧ s.motor.interval < 2 * hallSetpoint s then
    if 10 * s.legend.scan.observerTol < angleDiff observer (600 * (Config.hallSector code.toNat % 6)) then
      if 3 ≤ s.motor.disagree + 1 then motorFault .posDisagree (modMotor (fun m => { m with disagree := 0 }) s)
      else modMotor (fun m => { m with disagree := m.disagree + 1 }) s
    else modMotor (fun m => { m with disagree := 0 }) s
  else modMotor (fun m => { m with disagree := 0 }) s

/-- HALL_EDGE (R31, R33, R34). -/
def execHallEdge (dt : Nat) (code : BitVec 3) (observer : Nat) (s : State) : Out :=
  .next (watchSafety (when_ (s.phase != .reset && code != 0 && code != 7) (fun t =>
    observe code observer { t with motor := motorEdge code t })) (advance dt s))

/-- HALL_INVALID: an invalid code on three samples while torque is applied; each channel drives MOT_EN low (R33, R329). -/
def execHallInvalid (dt : Nat) (code : BitVec 3) (s : State) : Out :=
  .next (watchSafety (when_ (torqueOn s && (code == 0 || code == 7)) (fun t =>
    removeTorque .b (removeTorque .a (motorFault .hallInvalid t)))) (advance dt s))

/-- The instant at which the acceleration ramp commands 10 % of setpoint (R33). -/
def stallArmedAt (s : State) : Option Nat :=
  s.motor.rampStart.map (fun t => t + sec 6 * s.legend.scan.rs / (s.legend.scan.facets * max s.legend.scan.accel 1))

/-- No Hall edge for 4 intervals at the commanded speed while the check is armed (R33). -/
def stalled (s : State) : Bool :=
  match stallArmedAt s with
  | none => false
  | some a =>
    torqueOn s && !inSafeStop s && decide (a ≤ s.now) &&
      decide ((4 * hallSetpoint s : Nat) ≤ ((s.now - max a (s.motor.lastEdge.getD 0) : Nat) : Rat) * commanded s)

/-- STALL_TIMEOUT. -/
def execStallTimeout (dt : Nat) (s : State) : Out :=
  let t := advance dt s
  .next (watchSafety (when_ (stalled t) (motorFault .stall)) t)

/-- OVERCURRENT (R33). -/
def execOvercurrent (dt : Nat) (s : State) : Out :=
  .next (watchSafety (when_ (torqueOn s) (motorFault .overcurrent)) (advance dt s))

/-! ## Camera lock (R36) -/

/-- An active edge: the first after enable is the reference edge, then every n-th. -/
def cameraEdge (n now : Nat) (c : Camera) : Camera :=
  let c1 := if c.count = 0 then { c with edge := some now } else c
  { c1 with count := (c.count + 1) % max n 1, sinceBn := c.sinceBn + 1 }

/-- SYNC_IN_EDGE: an active edge is stamped while camera synchronisation is enabled. -/
def execSyncInEdge (dt : Nat) (rising : Bool) (s : State) : Out :=
  .next (when_ (s.image.accepted && s.legend.scan.sync && (rising != s.legend.scan.edgeFalling)) (fun t =>
    { t with seq := { t.seq with camera := cameraEdge t.legend.scan.divider t.now t.seq.camera } }) (advance dt s))

/-- The phase error of a boundary, ns, wrapped into half a sheet period either way. -/
def phaseError (s : State) (edge : Nat) : Int :=
  let sheet : Int := 1000000000 / s.legend.scan.rs
  let raw : Int := ((s.seq.bn : Int) - (edge : Int)) / 32 - 1000 * (s.legend.scan.offsetUs : Int)
  (raw + sheet / 2) % sheet - sheet / 2

/-- The trim of the next sheet, 10^-9 of setpoint: -e r_s, within 2 %, changing by at most 0.5 % (R36). -/
def nextTrim (s : State) (e trim : Int) : Int :=
  clampI (trim - 5000000) (trim + 5000000) (clampI (-20000000) 20000000 (-(e * s.legend.scan.rs)))

/-- Toward zero by 0.1 %. -/
def decayTrim (t : Int) : Int := if 0 ≤ t then max 0 (t - 1000000) else min 0 (t + 1000000)

/-- Expected edges missing so far: each sheet lacks what its edges fall short of n by, and a sheet that lacks none starts
the count again (notes/assumptions/40.md). -/
def missingEdges (n : Nat) (c : Camera) : Nat := if c.sinceBn < n then c.missing + (n - c.sinceBn) else 0

/-- The camera loop at a sheet boundary (R36): 0 off, 1 acquiring, 2 locked, 3 lost.  At the boundary of a loss the trim
stays for the sheet that begins; from the next on it decays.  The trim stays as it is at the boundary that enables the
loop and at one that saw no edge, which leaves the runs of R36 as they are too; a lost loop acquires again once the trim is 0 and a sheet has brought an edge
(notes/assumptions/40.md). -/
def cameraBoundary (s : State) (c : Camera) : Camera :=
  if !s.legend.scan.sync then {}
  else
    let missing := missingEdges (max s.legend.scan.divider 1) c
    let c0 := { c with sinceBn := 0, missing := missing }
    if c.st = 0 then { c0 with st := 1, missing := 0 }
    else if c.st = 3 then
      let trim := decayTrim c.trim
      if trim = 0 ∧ c.sinceBn ≠ 0 then { c0 with st := 1, trim := 0, inRun := 0, outRun := 0 }
      else { c0 with trim := trim }
    else if c.st = 2 ∧ 3 ≤ missing then { c0 with st := 3, inRun := 0, outRun := 0 }
    else
      match c.edge with
      | none => c0
      | some ed =>
        if c.sinceBn = 0 then c0
        else
          let e := phaseError s ed
          let inRun := if e.natAbs ≤ 10000 then c.inRun + 1 else 0
          let outRun := if 100000 < e.natAbs then c.outRun + 1 else 0
          if c.st = 2 ∧ 2 ≤ outRun then
            { c0 with st := 3, err := e, inRun := 0, outRun := 0 }
          else
            { c0 with err := e, trim := nextTrim s e c.trim, inRun := inRun, outRun := outRun,
                      st := if 8 ≤ inRun then 2 else c.st }

end Sys2Proof.Machine
end

