-- ==== Sys2Proof/Machine/Boards.lean ====
section
/-! DEFINITION. Emitter boards, temperatures, power codes and the energy clamp (chapters 2 and 3). -/

namespace Sys2Proof.Machine

open Sys2Proof

/-! ## Bank states (R69, R71, R77, R80, R81) -/

/-- Show every bank's state, logging and counting the changes (R81). -/
def showBankStates (s : State) : State :=
  (List.range 32).foldl (fun t b => setBankState b (bankState t b) t) s

/-- A failed bank: short, open, dark, thermal-off or unassigned (R80). -/
def bankFailed (s : State) (b : Nat) : Bool := decide (bankState s b ≠ 0)

/-! ## Board temperature (R68, R368) -/

/-- G_r of Table 15.2. -/
def gainOf (tag : Nat) : Nat := if tag = 1 then 64 else if tag = 2 then 8 else 1

/-- An over-range code (R370). -/
def overRange (code : Int) : Bool := decide (code = 524287 ∨ code = -524288)

/-- The ratio of an NTC input's voltage to the voltage at AUX_REF (R368, R370). -/
def ntcRatio (v : AuxIn) : Rat := (v.code : Rat) * 1024 / (524288 * 1000 * gainOf v.tag)

/-- A reading that stands for T_off (R68). -/
def ntcBad (v : AuxIn) : Bool :=
  overRange v.code || v.overvoltage || decide (ntcRatio v < 5 / 1000 ∨ 975 / 1000 < ntcRatio v)

/-- The temperature of an NTC, degC (R368). -/
def ntcTemp (v : AuxIn) : Rat :=
  let p := ntcRatio v
  1 / (20 / 5963 + lnRat (p / (1 - p)) / 3435) - 27315 / 100

/-- The pair comparison of two inputs reports a fault (R380). -/
def pairFaulted (s : State) (a b : Nat) : Bool :=
  ((auxOf s a).pairFault && decide ((Table.getD {} s.legend.aux a).partner = b)) ||
    ((auxOf s b).pairFault && decide ((Table.getD {} s.legend.aux b).partner = a))

/-- A board's temperature T, degC (R68): the higher of its two latest readings, or T_off. -/
def boardTemp (s : State) (k : Nat) : Rat :=
  let r := boardAt s k
  let a := auxOf s r.ntcA
  let b := auxOf s r.ntcB
  if ntcBad a || ntcBad b || pairFaulted s r.ntcA r.ntcB then ((boardTypeAt s k).tOff : Rat)
  else max (ntcTemp a) (ntcTemp b)

/-- Boards that are off after this boundary (R69). -/
def boardsOffNext (s : State) : List Nat :=
  (List.range s.legend.boards.length).filter (fun k =>
    let t := boardTemp s k
    let off : Rat := (boardTypeAt s k).tOff
    if s.chain.boardsOff.contains k then decide (off - 5 < t) else decide (off ≤ t))

/-- The derating factor of R70 before its rise is limited. -/
def derateOf (s : State) (k : Nat) : Nat :=
  (min 16 (max 0 ((16 * (((boardTypeAt s k).knee : Rat) + 25 - boardTemp s k) / 25).floor))).toNat

/-- The derating factor of a boost bank at this boundary: it may rise by 1 at most (R70). -/
def derateNext (s : State) (b : Nat) : Nat :=
  match slotOf s b with
  | none => 16
  | some (k, _) => min (derateOf s k) ((bankOf s b).derate + 1)

/-- BOARD_THERMAL_OFF and BOOST_DERATE at a boundary. -/
def boardHeat (s : State) : State :=
  let off := boardsOffNext s
  let t := [28, 29, 30, 31].foldl (fun u b => modBank b (fun v => { v with derate := derateNext s b }) u) s
  { t with chain := { t.chain with boardsOff := off } }

/-- Faults and re-enables confirmed in the last window take effect; a short stays until the next Start (R77, R78). -/
def applyConfirmed (s : State) : State :=
  (List.range 32).foldl (fun t b =>
    match (bankOf t b).confirmed with
    | none => t
    | some st => modBank b (fun v => { v with confirmed := none, base := if v.base = 3 then 3 else st }) t) s

/-! ## Shots of a sheet (R37, R42, R46, R51) -/

/-- The table code of a bank (R63). -/
def tableCodeOf (t : Table Nat) (m : ModeTable) (cap b : Nat) : Option Nat :=
  match firingEntries t m cap b with
  | [] => none
  | e :: r => some (r.foldl (fun a x => max a (entryPower x)) (entryPower e))

/-- S' at every bearing of a bank. -/
def shotRow (t : Table Nat) (m : ModeTable) (cap b : Nat) : Array Nat :=
  ((List.range m.nb).map (shotsAt t m cap b)).toArray

/-- Shots a bank fires in period `p` (R42). -/
def periodShots (row : Array Nat) (m : ModeTable) (p : Nat) : Nat :=
  (List.range m.q).countP (fun q => match bearingOf m p q with | none => false | some β => decide (q < row.getD β 0))

/-- Shots of a bank in a sheet. -/
def sheetShots (t : Table Nat) (m : ModeTable) (cap b : Nat) : Nat := ((List.range m.nb).map (shotsAt t m cap b)).sum

/-- The largest sum of `n` consecutive members of a list, its ends included as shorter runs. -/
def windowMax (n : Nat) (l : List Nat) : Nat :=
  let sums := (l.foldl (fun (a : List Nat) x => (a.headD 0 + x) :: a) [0]).reverse.toArray
  (List.range l.length).foldl (fun a i => max a (sums.getD (min (i + n) l.length) 0 - sums.getD i 0)) 0

/-- The largest number of shots a bank fires in any n_c consecutive periods (R51). -/
def cellShots (t : Table Nat) (m : ModeTable) (cap b : Nat) : Nat :=
  let row := shotRow t m cap b
  windowMax m.nc ((List.range (periods m)).map (periodShots row m))

/-- Shots of a bank in the first `n` periods. -/
def firstShots (t : Table Nat) (m : ModeTable) (cap b n : Nat) : Nat :=
  let row := shotRow t m cap b
  ((List.range n).map (periodShots row m)).sum

/-! ## Calibration pulses (R342, R344) -/

/-- Length of an optical segment at setpoint: from T_s / 400 to 50 us before the gap end, taps. -/
def opticalTaps (s : State) : Nat := sheetTaps s / 400 - us 50

/-- Pulses bank `b` fires in an optical segment of this length (R344). -/
def calPulses (s : State) (m : ModeTable) (b len : Nat) : Nat :=
  let start := staggerPos s b * (ns m.stagger + ns 500)
  if len < start + ns 2 then 0 else (len - start - ns 2) / (ns 5500) + 1

/-- Banks that fire calibration pulses: not thermal-off, failed or unassigned (R344). -/
def calBanks (s : State) : List Nat := (List.range 32).filter (fun b => !bankFailed s b)

/-- A run that fires calibration pulses in the coming gap: its reference step is due and not complete (R346, R357). -/
def pulsesDue (s : State) : Bool :=
  match s.calib.run with
  | none => false
  | some r => r.refOk && decide (r.step = 5 ∨ r.step = 6) && (calBanks s).any (fun b => decide (Table.getD 0 r.pulses b < 144))

/-- The largest count of a cell that holds bins of the optical segment (R344): its pulses together with the shots of
the sweep's first periods in the same cell. -/
def calCell (s : State) (t : Table Nat) (m : ModeTable) (cap b : Nat) : Nat :=
  let back := us 50 / max (periodTaps s m) 1 + 1
  if m.nc < back then 0
  else calPulses s m b (opticalTaps s) + firstShots t m cap b (m.nc - back)

/-! ## The energy clamp (R50 to R52) -/

/-- m of R51: 1 where consecutive pulses are more than 5 us apart. -/
def spCount (s : State) (m : ModeTable) : Nat :=
  if 10000 * s.legend.scan.rs * periods m * 5775 * m.q < (10000 - s.legend.scan.gap) * 10 ^ 9 then 1 else 2

/-- The three conditions of R51 for a bank at a code: `w` its greatest width, `n` the largest count of a cell. -/
def withinEnergy (s : State) (m : ModeTable) (b w n code : Nat) : Bool :=
  let e := shotEnergy s b w code
  let cell := ceilDiv (20 * n) 19
  decide (cell * e ≤ limCell s b ∧ s.legend.scan.rs * cell * e ≤ lim1s s b ∧ spCount s m * e ≤ limSp s b)

/-- The least code from `code` on, of at most `k` more, that is within the limits; where none up to 255 is, 255 (R52,
notes/assumptions/47.md). -/
def clampFrom (s : State) (m : ModeTable) (b w n : Nat) : Nat → Nat → Nat
  | 0, code => code
  | k + 1, code => if withinEnergy s m b w n code then code else clampFrom s m b w n k (code + 1)

/-- The sheet code after the energy clamp of R52. -/
def clampCode (s : State) (t : Table Nat) (m : ModeTable) (cap b code : Nat) : Nat :=
  let n := max (cellShots t m cap b) (if pulsesDue s then calCell s t m cap b else 0)
  clampFrom s m b (greatestWidth t m cap b) n (255 - code) code

/-! ## The ramp (R65, R66) -/

/-- The ramp code in the k-th sheet of a ramp, 0 outside one; rounding takes halves upward (R65). -/
def rampCode (origin table k nr : Nat) : Nat :=
  if k = 0 then table
  else
    let d : Int := (origin : Int) - (table : Int)
    ((table : Int) + (2 * d * ((nr : Int) - (k : Int)) + (nr : Int)) / (2 * (nr : Int))).toNat

/-- Ramp step and origin of a bank that has table code `c` in the coming sheet (R65, R66); `k` and `o` are those of
the sheet before. -/
def rampNext (nr : Nat) (v : Bank) (c k o : Nat) : Nat × Nat :=
  if !v.fired then (1, 255)
  else if v.tableCode ≠ some c then (1, v.rampCode)
  else if k = 0 then (0, o)
  else if nr ≤ k then (0, o)
  else (k + 1, o)

/-! ## The Traverse word (Table 3.3) -/

/-- The 4-bit check over bits [91:0] (chapter 3). -/
def traverseCheck (w : Nat) : Nat :=
  ((List.range 92).foldl (fun (c : BitVec 4) i =>
    let fb := c.getLsbD 3 ^^ w.testBit i
    let d := c <<< 1
    if fb then d ^^^ 3#4 else d) 15#4).toNat

/-- The current setting of a bank: the curve entry of its sheet code, or of the diagnostic code where it does not
fire, derated for a boost bank (R64, R70). -/
def settingOf (s : State) (b : Nat) : Nat :=
  match slotOf s b with
  | none => 0
  | some (k, _) =>
    let v := bankOf s b
    let code := if v.fired && decide (bankState s b = 0) then v.code else (boardTypeAt s k).diagCode
    let c := (boardTypeAt s k).curve.getD code 0
    if isBoost b then c * v.derate / 16 else c

/-- The 11 bits of a slot. -/
def slotField (s : State) (k j : Nat) : Nat :=
  match bankAt s k j with
  | none => 0
  | some b => if chainEnable s b then 1024 + settingOf s b % 1024 else 0

/-- A board's word. -/
def boardWord (s : State) (k : Nat) : Nat :=
  let f := (List.range 8).map (slotField s k)
  let body := ((List.range 8).map (fun j => f.getD j 0 * 2 ^ (11 * j))).sum
  let charge := f.any (fun x => decide (1024 ≤ x))
  let derated := (List.range 8).any (fun j =>
    match bankAt s k j with | none => false | some b => isBoost b && decide ((bankOf s b).derate < 16))
  let w := body + field 1 88 (b2n charge) + field 1 89 (b2n derated) + field 2 90 s.chain.count
  w + field 4 92 (traverseCheck w)

end Sys2Proof.Machine
end

