-- ==== Sys2Proof/Machine/Bias.lean ====
section
/-! DEFINITION. The SPAD bias (R91 to R97, R374 to R375). -/

namespace Sys2Proof.Machine

open Sys2Proof

def modBias (f : Bias → Bias) (s : State) : State := { s with bias := f s.bias }

/-- V_bd(T), uV, at T in 0.25 degC. -/
def breakdown (t : Rat) : Int :=
  (clampN 19000000 21500000 Config.vBd25 : Nat) + roundRat (((clampN 22000 28000 Config.sBd : Nat) : Rat) * (t - 100) / 4)

/-- V_bd(T_a) + V_ex, uV, and the target V_t clamped (R91). -/
def biasWanted (s : State) (ta : Rat) : Int := breakdown ta + 1000 * (s.legend.bias.vEx : Int)
def biasTarget (s : State) (ta : Rat) : Nat :=
  (min (1000 * (s.legend.bias.vMax : Int)) (max (1000 * (s.legend.bias.vMin : Int)) (biasWanted s ta))).toNat

/-- The duty code of a voltage in uV (R92). -/
def dutyOf (s : State) (v : Nat) : Nat :=
  let b := s.legend.bias
  clampI 1 4095 (divRound (4095 * ((v : Int) - 1000 * (b.vLo : Int))) (1000 * (b.vHi - b.vLo))) |>.toNat

/-- The voltage a duty code commands, uV (R93, chapter 4 example). -/
def dutyVolts (s : State) (d : Nat) : Nat :=
  let b := s.legend.bias
  1000 * b.vLo + divRoundN (1000 * (b.vHi - b.vLo) * d) 4095

/-- Bring V_t up to date from T_a (R91). -/
def biasRetarget (s : State) : State :=
  match s.thermal.ta with
  | none => s
  | some ta =>
    modBias (fun v => { v with vTarget := biasTarget s ta, clamped := decide (biasWanted s ta ≠ (biasTarget s ta : Int)) }) s

/-- Enable BIAS_PWM from off: V_cmd is set to V_t directly (R94); a bias fault keeps it off (R97). -/
def biasEnable (s : State) : State :=
  let t := biasRetarget s
  if t.bias.on || decide (t.bias.fault ≠ 0) then t
  else
    let d := dutyOf t t.bias.vTarget
    modBias (fun v => { v with
      on := true, duty := d, vCmd := dutyVolts t d, requestAt := t.now,
      reported := (match v.reported with | none => some (dutyVolts t d) | some r => some r) }) t

/-- BIAS_STEP: V_cmd moves toward V_t when the difference reaches the dead band (R94). -/
def biasStep (s : State) : State :=
  if !s.bias.on then s
  else
    let diff : Int := (s.bias.vTarget : Int) - (s.bias.vCmd : Int)
    if diff.natAbs < 1000 * s.legend.bias.deadBand then s
    else
      let move : Int := clampI (-(1000 * (s.legend.bias.stepLimit : Int))) (1000 * (s.legend.bias.stepLimit : Int)) diff
      let d := dutyOf s ((s.bias.vCmd : Int) + move).toNat
      if d = s.bias.duty then s
      else count .biasSteps 1 (modBias (fun v => { v with duty := d, vCmd := dutyVolts s d, stepAt := some s.now }) s)

/-- The step of a sheet boundary, and what is reported to the ambient filter engine: the net change of V_cmd since the
last report, uV (R95). -/
def biasReport (s : State) : Int × State :=
  let t := biasStep (modBias (fun v => { v with stepped := false }) s)
  match t.bias.reported with
  | none => (0, t)
  | some r =>
    let net : Int := (t.bias.vCmd : Int) - (r : Int)
    (net, modBias (fun v => { v with
      reported := some v.vCmd, stepped := decide (net ≠ 0),
      spanned := v.spanned || decide (t.bias.vCmd ≠ s.bias.vCmd) }) t)

/-- Outside the sheets that fire, V_cmd also moves at a sensor reading (R94). -/
def biasAtReading (s : State) : State :=
  if s.phase == .spinUp || s.phase == .safeStop || (s.phase == .mode && decide (s.seq.mode = 5)) then biasStep s else s

/-- The excess bias applied, in 5 mV units (R91, Table 17.9); rounded to the
nearest 5 mV (notes/assumptions/48.md). -/
def biasExcess (s : State) : Nat :=
  match s.thermal.ta with
  | none => 0
  | some ta => (divRound (((s.bias.vCmd : Int)) - breakdown ta) 5000).toNat

/-- The bias word (Table 17.9). -/
def biasWord (s : State) : Nat := biasWordWith s (biasExcess s)

/-- The device is in Start (R291). -/
def inStart (s : State) : Bool := s.phase == .start || s.phase == .spinUp

/-- BIAS_FAULT (R97): BIAS_PWM stays low until the next Start, firing stops, a run is abandoned, and the device enters a
bias hold at the next sheet boundary (R296), after Safe stop at the first one; in Start the fault keeps it there.  A
further cause is only recorded. -/
def biasFault (bit_ : Nat) (s : State) : State :=
  let had := s.bias.fault
  let t := modBias (fun v => { v with
    fault := if bit bit_ v.fault then v.fault else v.fault + 2 ^ bit_, on := false, duty := 0 }) s
  if bit bit_ had then t
  else
    let t := logEvent 9 1 0 (biasWord t) t
    if had ≠ 0 then t
    else
      let t := abandonRun 2 (stopFiring 2 false t)
      { t with seq := { t.seq with
          biasHoldDue := t.seq.biasHoldDue || !inStart t, startFault := t.seq.startFault || inStart t, resumeOk := false } }

/-- BIAS_OVERVOLTAGE: two consecutive samples of BIAS_SNS above V_ov / 16, whether or not BIAS_PWM runs (R96). -/
def execBiasOvervoltage (dt : Nat) (s : State) : Out :=
  .next (when_ (s.phase != .reset) (biasFault 0) (advance dt s))

/-- A readback is due while BIAS_PWM runs: 100 ms after the last one, or 500 us after a step (R96). -/
def readbackDue (s : State) : Bool :=
  s.bias.on && (decide (s.bias.requestAt + ms 100 ≤ s.now) ||
    (match s.bias.stepAt with | none => false | some x => decide (x + us 500 ≤ s.now)))

/-- BIAS_READBACK: the bias sense is requested (R96, R374). -/
def execBiasReadback (dt : Nat) (s : State) : Out :=
  let t := advance dt s
  .next (when_ (readbackDue t) (fun t =>
    urgentAdd false (modBias (fun v =>
      { v with requestAt := t.now, stepAt := v.stepAt.filter (fun x => decide (t.now < x + us 500)) }) t)) t)

/-- URGENT_REQUEST: a safety channel's supply read or a bias readback joins the queue (R374). -/
def execUrgentRequest (dt : Nat) (supply : Bool) (s : State) : Out :=
  .next (when_ (s.phase != .reset) (urgentAdd supply) (advance dt s))

end Sys2Proof.Machine
end

