-- ==== Sys2Proof/Machine/Gate.lean ====
section
/-! DEFINITION. What the diagnostic window, the receiver and the calibration runs share: a channel's settings, its
coincidence gate over a list of firings, the tap map of a run, the mode of the coming sheet (R73, R85 to R87, R98, R105,
R292, R346, R347). -/

namespace Sys2Proof.Machine

open Sys2Proof

/-! ## Settings of a channel (R86, R98, Tables 4.2 and 4.4) -/

/-- SPAD `i` is masked. -/
def masked (w i : Nat) : Bool := bit (16 + i) w

/-- Unmasked SPADs of a channel. -/
def unmaskedCount (w : Nat) : Nat := 16 - popcount 16 (bits 31 16 w)

/-- Threshold step t_c; 0b10 is taken as 0b00 (R98). -/
def stepOf (w : Nat) : Int := if bits 15 14 w = 1 then 1 else if bits 15 14 w = 3 then -1 else 0

/-- k_eff = min(6, max(1, k + t_c)) (R86). -/
def kEff (k : Nat) (t : Int) : Nat := (min 6 (max 1 ((k : Int) + t))).toNat

/-- Coincidence window in taps. -/
def tauTaps (m : ModeTable) : Nat := 8 * m.tau

/-! ## The gate over a list of firings (R73, R85, R86) -/

/-- Unmasked SPADs that have fired within tau before `t`, since re-arming. -/
def inWindowCount (w tau armed t : Nat) (seen : List (Nat × Nat)) : Nat :=
  (List.range 16).countP (fun i => !masked w i && seen.any (fun f => decide (f.1 = i ∧ armed ≤ f.2 ∧ t ≤ f.2 + tau)))

/-- Coincidence events from `start` on that a gate of `k` SPADs within `tau` declares over firings in order of time: armed
from `armed`, blind for 3.0 ns after each event; `seen` are the firings before. -/
def gateEvents (w k tau start : Nat) : List (Nat × Nat) → Nat → List (Nat × Nat) → Nat
  | [], _, _ => 0
  | f :: r, armed, seen =>
    if !masked w f.1 && decide (armed ≤ f.2) && decide (k ≤ unmaskedCount w) &&
        decide (k ≤ inWindowCount w tau armed f.2 (f :: seen)) then
      gateEvents w k tau start r (f.2 + ns 3) (f :: seen) + b2n (decide (start ≤ f.2))
    else gateEvents w k tau start r armed (f :: seen)

/-! ## The coming sheet -/

/-- The first mode after Start (R292). -/
def firstMode (s : State) : Nat :=
  if modeDeclared s 1 then 1 else if modeDeclared s 2 then 2 else if modeDeclared s 3 then 3 else 5

/-- The mode of the coming sheet: of the sheet whose gap runs, or in Start the one that the first sheet would open in as
things stand (R292, R302, notes/assumptions/42.md). -/
def comingMode (s : State) : Nat :=
  if s.phase == .mode then s.seq.mode
  else if s.seq.returnIdle || s.seq.biasHold || s.seq.dipHold || s.seq.biasHoldDue || s.seq.dipHoldDue then 5
  else
    match s.seq.latch with
    | some r => if r.mode = 6 ∧ !depotKey s then firstMode s else r.mode
    | none => firstMode s

/-! ## The tap step's maps (R346, R347) -/

/-- m[0] to m[19] from the hits of a channel. -/
def tapMap (l : List Nat) : List Nat :=
  (List.range 20).map (fun p => divRoundN (256 * (2 * (l.take p).sum + l.getD p 0)) (2 * max l.sum 1))

def hitsOf (r : Run) (c : Nat) : List Nat := Table.getD [] r.hits c

/-- A time in 1/16 taps from the raw tap index and the coarse count since the fire instant's, with a tap map of 20 entries
(R99, R346): the unrounded event time. -/
def rawReading (map : List Nat) (p : Nat) (coarse : Int) (fineF : Nat) : Int :=
  320 * coarse + (5 * map.getD p 0 / 4 : Nat) - 16 * (fineF : Int) - 1024

end Sys2Proof.Machine
end

