-- ==== Sys2Proof/Machine/AmbientFilter.lean ====
section
/-! DEFINITION. The ambient filter engine (R163 to R169, R173 to R175). -/

namespace Sys2Proof.Machine

open Sys2Proof

def modAmb (c : Nat) (f : Ambient → Ambient) (s : State) : State := setAmb c (f (ambOf s c)) s

/-! ## The filter (R166, R167, Table 7.2) -/

/-- Decimation R of a preset in periods. -/
def decimation (preset : Nat) : Nat :=
  if preset = 0 then 64 else if preset = 1 then 16 else if preset = 2 then 4 else 16

/-- Readings, one a round, in a full block. -/
def blockReadings (preset : Nat) : Nat := decimation preset / 4

/-- A reading enters a path's block. -/
def pathFeed (x : Rat) (p : FilterPath) : FilterPath := { p with s := p.s + x, a := p.a + (p.s + x) }

/-- A block ends: the order-2 decimator weighs its readings by the triangle over this block and the one before, and the
value enters the FIR's delay line.  `m` is the number of readings of a full block: over the two outputs it enters, every
reading has that weight, in a part-block too, which so weighs as the windows it holds (R166). -/
def pathEnd (m : Nat) (p : FilterPath) : FilterPath :=
  { s := 0, a := 0, prevD := m * p.s - p.a, line := ((p.a + p.prevD) :: p.line).take 16 }

/-- The FIR's value. -/
def firValue (coef : List Int) (p : FilterPath) : Rat :=
  (List.zipWith (fun (c : Int) (x : Rat) => (c : Rat) * x) coef p.line).sum

/-- A path loaded so that its output is that of full blocks holding `x` a reading (R168). -/
def pathLoaded (preset : Nat) (x : Rat) : FilterPath :=
  let m := blockReadings preset
  { s := 0, a := 0, prevD := x * (m * (m - 1) / 2 : Nat), line := List.replicate 16 (x * (m * m : Nat)) }

/-- Limit an estimate to the range of a pre-window count (R167). -/
def limitEstimate (q : Rat) : Rat := max 0 (min 34 q)

/-- Load every stage of a preset from an estimate, with the weight of a full block of 4 Q pre-windows a reading
(R168). -/
def loadPreset (preset q : Nat) (est : Rat) (v : Ambient) : Ambient :=
  let w : Rat := (4 * q : Nat)
  { v with preset := preset, n := 0, counts := pathLoaded preset (est * w), windows := pathLoaded preset w }

/-! ## Outputs and holds (R166 to R169) -/

/-- A held output (R169): after four in a row the channel is marked not settled and a restart in progress ends. -/
def heldOutput (v : Ambient) : Ambient :=
  let h := min (v.held + 1) 15
  let est := match v.output with | some o => o.1 | none => v.estimate
  if 4 ≤ h then
    { v with held := h, output := some (est, false), waiting := true, restarting := false,
             settle := (0, 0) }
  else { v with held := h, output := some (est, (match v.output with | some o => o.2 | none => v.settled)) }

/-- An output of the filter at the end of its block; the second component tells a held one. -/
def filterOutput (coefs : List (List Int)) (v : Ambient) : Ambient × Bool :=
  let any := decide (0 < v.windows.s)
  let settled := match v.output with | some o => o.2 | none => v.settled
  if v.preset = 3 then
    let u := { v with n := 0, counts := { v.counts with s := 0, a := 0 }, windows := { v.windows with s := 0, a := 0 } }
    if any then ({ u with held := 0, output := some (limitEstimate (v.counts.s / v.windows.s), settled) }, false)
    else (heldOutput u, true)
  else
    let u := { v with n := 0, counts := pathEnd (blockReadings v.preset) v.counts,
                      windows := pathEnd (blockReadings v.preset) v.windows }
    let c := coefs.getD v.preset []
    let y := firValue c u.windows
    if any && decide (0 < y) then
      ({ u with held := 0, output := some (limitEstimate (firValue c u.counts / y), settled) }, false)
    else (heldOutput u, true)

/-- A reading of the preset in force: fed, and put out when the round calls for it. -/
def presetRound (coefs : List (List Int)) (output : Bool) (sum win : Nat) (v : Ambient) : Ambient × Bool :=
  let u := { v with n := v.n + 1, counts := pathFeed sum v.counts, windows := pathFeed win v.windows }
  if output then filterOutput coefs u else (u, false)

/-- Periods since the restart took effect (R168). -/
def restartPeriods (p : Nat) (v : Ambient) : Nat :=
  match v.restartAt with
  | none => 0
  | some r => v.restartAge + p - r

/-- A reading of a channel that restarts in Settle (R168); `p` is the round's period, none for the end round. -/
def settleRound (preset q : Nat) (p : Option Nat) (sum win : Nat) (v : Ambient) : Ambient × Bool :=
  let u := { v with settle := (v.settle.1 + sum, v.settle.2 + win) }
  match p with
  | none => (u, false)
  | some p =>
    if 16 ≤ restartPeriods p u ∨ (preset = 3 ∧ p % 16 = 0) then
      if 0 < u.settle.2 then
        let est := limitEstimate (u.settle.1 / u.settle.2)
        ({ loadPreset preset q est u with
          restarting := false, waiting := false, held := 0, settle := (0, 0), output := some (est, true) }, false)
      else
        (heldOutput { u with settle := (0, 0), restartAt := some p, restartAge := 0, n := 0,
                             counts := {}, windows := {} }, true)
    else (u, false)

/-- Start a restart (R173). -/
def startRestart (cause : Nat) (at_ : Option Nat) (v : Ambient) : Ambient :=
  { v with restarting := true, waiting := false, settled := false, cause := cause, restartAt := at_, restartAge := 0,
           settle := (0, 0), n := 0, counts := {}, windows := {}, output := none }

/-- The evaluation of one channel in the round in progress (R164, R168, R169); with the preset Settle the end round puts out
its part-block (R166, notes/assumptions/19.md). -/
def evaluate (s : State) (p : Option Nat) (sum win : Nat) (v : Ambient) : Ambient × Bool :=
  if v.waiting && !v.restarting && decide (0 < win) then (startRestart 4 (some (p.getD 0)) v, false)
  else if v.restarting then
    settleRound (modeTable s s.seq.mode).preset (modeTable s s.seq.mode).q p sum win v
  else
    let out := match p with | none => true | some p => decide (p % decimation v.preset = 0)
    presetRound s.legend.fir out sum win v

/-! ## The pre-window's count (R90, R100, R105, R163) -/

/-- The pre-window overlapped recovery (R90): one that has not ended, or one that ended within it. -/
def preInvalid (c : Chan) (fire : Nat) : Bool :=
  (match c.recovery with | none => false | some r => decide (fire < r + ns 100)) ||
    (match c.recovered with | none => false | some r => decide (fire < r + ns 100))

/-- Events of the pre-window of a shot. -/
def preCount (c : Chan) (fire : Nat) : Nat := c.recent.countP (fun t => decide (fire ≤ t + ns 100 ∧ t < fire))

/-- A pre-window that has ended passes its count on: a valid one to the ambient accumulator, an invalid one to the
invalid-window counter alone. -/
def passPre (ch : Nat) (s : State) : State :=
  let c := chanOf s ch
  match c.arm with
  | none => s
  | some a =>
    if a.preDone || decide (s.now < a.fire) then s
    else
      let c' := { c with arm := some { a with preDone := true } }
      if preInvalid c a.fire then count (.invalidPreWindows ch) 1 (setChan ch c' s)
      else setChan ch { c' with ambSum := c.ambSum + preCount c a.fire, ambWin := c.ambWin + 1 } s

/-- AMBIENT_EVALUATION: once a round, at round start + 0.5 us x (k mod 64), the channel's accumulator is read and
cleared in one operation (R163, R164). -/
def evaluateChannel (c : Nat) (s : State) : State :=
  match s.ambEng.round with
  | none => s
  | some p =>
    let v := ambOf s c
    if v.seen < s.ambEng.roundNo ∧ s.ambEng.roundStart + ns (500 * (c % 64)) ≤ s.now then
      let ch := chanOf s c
      let was := v.restarting
      let (u, held) := evaluate s p ch.ambSum ch.ambWin v
      let t := setAmb c { u with seen := s.ambEng.roundNo } (setChan c { ch with ambSum := 0, ambWin := 0 } s)
      let t := if held then count (.heldOutputs c) 1 t else t
      if !was && u.restarting then count (.restarts c) 1 t else t
    else s

/-- AMBIENT_EVALUATION. -/
def execAmbientEvaluation (dt channel : Nat) (s : State) : Out :=
  need (decide (channel < 1536)) (evaluateChannel channel (passPre channel (advance dt s)))

/-! ## Rounds and publication (R164, R165) -/

/-- A round starts: at period `p`, or the end round. -/
def startRound (p : Option Nat) (s : State) : State :=
  { s with ambEng := { s.ambEng with
    round := some p, roundStart := s.now, unpublished := true, roundNo := s.ambEng.roundNo + 1 } }

/-- A channel's output comes into force. -/
def takeOutput (v : Ambient) : Ambient :=
  match v.output with
  | none => v
  | some o => { v with estimate := o.1, settled := o.2, output := none }

/-- A channel is published: its output, and with it the ambient word and the rate (R165, R182). -/
def publishOne (preset : Nat) (v : Ambient) : Ambient :=
  let u := takeOutput v
  { u with word := ambientFields preset u, lambda := lambdaCode u.estimate }

/-- AMBIENT_PUBLISH: all outputs of a round together, at the first period that starts at least 32 us after it
(R165). -/
def publish (s : State) : State :=
  if s.ambEng.unpublished && decide (s.ambEng.roundStart + us 32 ≤ s.now) then
    { s with amb := s.amb.map (fun e => (e.1, publishOne (tableNow s).preset e.2)),
             ambEng := { s.ambEng with unpublished := false, round := none } }
  else s

/-! ## Sheet boundaries (R173, R174) -/

/-- The cause that restarts a channel at period 0, 0 where none does, in the order of R173. -/
def restartCause (e : AmbientEngine) (c : Nat) : Nat :=
  if e.due = 1 then 1 else if e.due = 3 ∨ e.dueChans.contains c then 3 else e.due

/-- The provisional estimate (R173, R174). -/
def provisional (m : ModeTable) (e : AmbientEngine) (cause : Nat) (v : Ambient) : Rat :=
  if cause = 1 then (m.m0 : Rat) / 8 else limitEstimate (v.estimate * e.factor)

/-- BIAS_SCALE: every stored count sum, a Settle block in progress included, times the factor (R174). -/
def scaleSums (f : Rat) (v : Ambient) : Ambient :=
  let k := v.counts
  { v with counts := { s := k.s * f, a := k.a * f, prevD := k.prevD * f, line := k.line.map (· * f) },
           settle := (v.settle.1 * f, v.settle.2) }

/-- What period 0 does to one channel, after publication (R173, R174): a restart, or the scaling, and then the new mode's
preset where it changed, whose stages start from the estimate (notes/assumptions/19.md). -/
def periodZeroOne (m : ModeTable) (e : AmbientEngine) (c : Nat) (v : Ambient) : Ambient :=
  let cause := restartCause e c
  if cause ≠ 0 then
    { startRestart cause (some 0) v with estimate := provisional m e cause v, preset := m.preset, held := v.held }
  else
    let u := scaleSums e.factor v
    if e.presetDue && !u.restarting then loadPreset m.preset m.q u.estimate u else u

/-- Channels whose record changes at period 0: every channel when all restart, else those that have a record. -/
def periodZeroChans (s : State) : List Nat :=
  if s.ambEng.due ≠ 0 then List.range 1536 else s.amb.map (·.1)

/-- AMBIENT_RESTART and BIAS_SCALE of a boundary take effect before the first pre-window of the sheet. -/
def ambientPeriodZero (s : State) : State :=
  let e := s.ambEng
  let m := modeTable s s.seq.mode
  let chans := periodZeroChans s
  let extra := e.dueChans.filter (fun c => !chans.contains c)
  let t := { s with
    amb := (chans.map (fun c => (c, periodZeroOne m e c (ambOf s c)))),
    ambEng := { e with due := 0, dueChans := [], factor := 1, presetDue := false } }
  let t := extra.foldl (fun u c => setAmb c (periodZeroOne m e c (ambOf s c)) u) t
  (chans ++ extra).foldl (fun u c => if restartCause e c ≠ 0 then count (.restarts c) 1 u else u) t

/-- A restart that is open at a boundary goes on in the next sheet: the periods of this one are counted (R168). -/
def ageRestart (k : Nat) (v : Ambient) : Ambient :=
  match v.restarting, v.restartAt with
  | true, some r => { v with restartAge := v.restartAge + k - r, restartAt := some 0 }
  | _, _ => v

/-- The first sheet after Start, and after the return to Start, has no end round before it: what an earlier sheet left in
the accumulators and in outputs not yet published goes (R173). -/
def noEndRound (s : State) : State :=
  { s with
    amb := s.amb.map (fun e => (e.1, { e.2 with output := none }))
    chans := s.chans.map (fun e => (e.1, { e.2 with ambSum := 0, ambWin := 0 }))
    ambEng := { s.ambEng with round := none, unpublished := false } }

/-- What a sheet boundary notes for period 0: the end round of the sheet that closes, the reported bias step `dv` in
uV, the first sheet after Start, a changed gate, changed trims, a changed preset (R164, R173, R174). -/
def ambientBoundary (first : Bool) (oldMode newMode : Nat) (dv : Int) (s : State) : State :=
  let mo := modeTable s oldMode
  let mn := modeTable s newMode
  let f : Rat := 1 + (mn.gamma : Rat) / 1000 * ((dv : Rat) / 1000000)
  let gate := match s.seq.prevGate with | none => false | some g => decide (g ≠ (mn.k, mn.tau))
  let due := if first then 1 else if gate then 3 else if 1000 * mn.vq < dv.natAbs then 2 else 0
  let t := { s with
    amb := if first then s.amb else s.amb.map (fun e => (e.1, ageRestart (periods mo) e.2)),
    ambEng := { s.ambEng with
      factor := f, due := due, presetDue := !first && decide (mo.preset ≠ mn.preset) },
    seq := { s.seq with prevGate := some (mn.k, mn.tau) } }
  if first then noEndRound t else startRound none t

end Sys2Proof.Machine
end

