-- ==== Sys2Proof/Machine/Bch.lean ====
section
/-! DEFINITION. The error-correcting code of a NAND page and its spare area (R393): the narrow-sense binary BCH code over
GF(2^14) that corrects 72 bits of a 1 KiB sector. -/

namespace Sys2Proof.Machine

open Sys2Proof

/-- Times x in GF(2^14), modulo x^14 + x^5 + x^3 + x + 1. -/
def gfTwice (a : Nat) : Nat := if bit 13 a then Nat.xor (2 * a) 0x402B else 2 * a

/-- A product in GF(2^14). -/
def gfMul (a b : Nat) : Nat :=
  ((List.range 14).foldl (fun (r : Nat × Nat) i => (if bit i b then Nat.xor r.1 r.2 else r.1, gfTwice r.2)) (0, a)).1

/-- The power alpha^n of the primitive element x. -/
def gfPower (n : Nat) : Nat :=
  ((List.range 14).foldl (fun (r : Nat × Nat) i => (if bit i n then gfMul r.1 r.2 else r.1, gfMul r.2 r.2)) (1, 2)).1

/-- A polynomial over GF(2^14), constant term first, times (x + a). -/
def timesRoot (p : List Nat) (a : Nat) : List Nat :=
  List.zipWith Nat.xor (0 :: p) (p.map (gfMul a) ++ [0])

/-- The exponents of the conjugates of alpha^n. -/
def conjugates (n : Nat) : List Nat := ((List.range 14).map (fun j => n * 2 ^ j % 16383)).eraseDups

/-- The minimal polynomial of alpha^n, bit k its coefficient of x^k. -/
def minimalPoly (n : Nat) : Nat :=
  ((conjugates n).foldl (fun p e => timesRoot p (gfPower e)) [1]).foldr (fun c r => 2 * r + c % 2) 0

/-- A product of two binary polynomials, the second of degree 14 at most. -/
def polyMul (a b : Nat) : Nat := (List.range 15).foldl (fun r i => if bit i b then Nat.xor r (a * 2 ^ i) else r) 0

/-- The generator: the product of the minimal polynomials of alpha, alpha^3, ..., alpha^143.  Its degree is 1,001, as
alpha^129 has seven conjugates. -/
def bchGenerator : Nat := (List.range 72).foldl (fun g i => polyMul g (minimalPoly (2 * i + 1))) 1

/-- The encoder takes one bit: the remainder of degree below 1,001. -/
def bchBit (g r : Nat) (v : Bool) : Nat :=
  let up := 2 * r % 2 ^ 1001
  if Bool.xor (bit 1000 r) v then Nat.xor up (g % 2 ^ 1001) else up

/-- The remainder of the bytes of a codeword, from byte 0, bit 0 first. -/
def bchRemainder (l : List Byte) : Nat :=
  let g := bchGenerator
  l.foldl (fun r b => (List.range 8).foldl (fun r i => bchBit g r (b.getLsbD i)) r) 0

/-- The 126 parity bytes: the remainder, its highest coefficient in byte 0, bit 0.  The seven bits of byte 125 that the
code leaves over are free (notes/assumptions/49.md). -/
def bchParity (l : List Byte) : List Byte :=
  let r := bchRemainder l
  (List.range 126).map (fun i => BitVec.ofNat 8 ((List.range 8).foldl (fun v j =>
    if 8 * i + j ≤ 1000 then v + (if bit (1000 - (8 * i + j)) r then 2 ^ j else 0)
    else v + (if bit j Config.bchRest then 2 ^ j else 0)) 0))

/-- The spare area of a page: the metadata, then the parity of each sector; the metadata belong to the last codeword. -/
def spareArea (page : List Byte × List Byte) : List Byte :=
  let n := page.1.length / 1024
  page.2 ++ ((List.range n).map (fun i =>
    bchParity (slice page.1 (1024 * i) 1024 ++ (if i + 1 = n then page.2 else [])))).flatten

end Sys2Proof.Machine
end

