-- ==== Sys2Proof/Machine/Mover.lean ====
section
/-! DEFINITION. The movement engine's descriptors and channels (R413 to R415, Tables 16.9 to 16.11). -/

namespace Sys2Proof.Machine

open Sys2Proof

def descOf (s : State) (i : Nat) : Desc := Table.getD {} s.dma.descs i
def setDesc (i : Nat) (d : Desc) (s : State) : State :=
  { s with dma := { s.dma with descs := Table.put s.dma.descs i d } }
def modMover (k : Nat) (f : Mover → Mover) (s : State) : State := setMover k (f (moverOf s k)) s

/-- Bytes of a space: context store, internal SRAM, link transmit buffer, staging, NAND page buffer, status snapshot. -/
def spaceBytes (space : Nat) : Nat := [29360128, 32768, 1048576, 524288, 16384, 4096].getD space 0

/-- Does a descriptor name listed spaces and stay within them (R413)? -/
def descValid (d : Desc) : Bool :=
  decide (d.src < 6 ∧ d.dst < 6 ∧ 1 ≤ d.burst ∧ d.burst ≤ 4 ∧ 1 ≤ d.len ∧ d.len < 2 ^ 24) &&
    decide (d.srcAddr + d.len ≤ spaceBytes d.src ∧ d.dstAddr + d.len ≤ spaceBytes d.dst)

/-- A channel halts on its descriptor: address, direction and cause are latched, W3 shows the bytes before that address, and
the halt is counted and logged (R415, R416). -/
def haltMover (k : Nat) (write stall : Bool) (addr : Nat) (s : State) : State :=
  let v := moverOf s k
  let d := descOf s v.desc
  let base := if write then d.dstAddr else d.srcAddr
  let t := setDesc v.desc { d with st := 3, done := min d.len (addr % 2 ^ 48 - base) } s
  let t := setMover k { v with st := 3, write := write, stall := stall, addr := addr % 2 ^ 48 } t
  count (.halts k) 1 (logEvent 12 1 k (addr % 2 ^ 32) t)

/-- Is the source of a descriptor an unlisted space or a range beyond it? -/
def badSource (d : Desc) : Bool := !decide (d.src < 6 ∧ d.srcAddr + d.len ≤ spaceBytes d.src)

/-- Start a channel on descriptor `i`; one that is not valid halts it as a bus error does, at the address of the side that is
at fault (R413, notes/assumptions/34.md). -/
def startMover (k i : Nat) (d : Desc) (s : State) : State :=
  let t := setDesc i { d with st := 1, done := 0 } (modMover k (fun v => { v with st := 1, desc := i }) s)
  if descValid d then t
  else haltMover k (!badSource d) false (if badSource d then d.srcAddr else d.dstAddr) t

/-- A channel's own descriptor for a transfer of `len` bytes: the processor keeps the one of the channel's number. -/
def moveStart (k src dst len : Nat) (s : State) : State := startMover k k { src := src, dst := dst, len := len } s

/-- The same where the channel is idle; a busy one goes on with its descriptor. -/
def moveIfIdle (k : Nat) (d : Desc) (s : State) : State := if (moverOf s k).st = 0 then startMover k k d s else s

/-- A running descriptor completes: W3 is written, the completion event raised, and the chain goes on (R414); a rejected one
never does (R413). -/
def moveDone (k : Nat) (s : State) : State :=
  let v := moverOf s k
  if (v.st = 1 ∨ v.st = 3) ∧ descValid (descOf s v.desc) then
    let d := descOf s v.desc
    let t := setDesc v.desc { d with st := 2, done := d.len } s
    let t := setMover k { v with st := 0, completions := (v.completions + b2n d.event) % 65536 } t
    if d.next < 1024 then startMover k d.next (descOf t d.next) t else t
  else s

/-- A descriptor is abandoned: counted and logged with its latched address (R415, R416). -/
def moveAbandon (k addr : Nat) (s : State) : State :=
  let v := moverOf s k
  let t := setDesc v.desc { descOf s v.desc with st := 4 } s
  count (.abandonments k) 1 (logEvent 12 2 k (addr % 2 ^ 32) (setMover k { v with st := 0 } t))

end Sys2Proof.Machine
end

