-- ==== Sys2Proof/Machine/NorOps.lean ====
section
/-! DEFINITION. The SPI NOR flash as memory, and the sealed records the device writes to it (R244, R262, R270, R273,
R284).  The layout of a small sealed page is the model's (notes/assumptions/14.md). -/

namespace Sys2Proof.Machine

open Sys2Proof

/-! ## Memory: an unlisted address reads 0xFF -/

/-- The canonical form: addresses strictly rising, no entry 0xFF. -/
def norWf : List (Nat × Byte) → Bool
  | [] => true
  | [(_, v)] => decide (v ≠ 0xFF#8)
  | (a, v) :: (b, w) :: r => decide (a < b) && decide (v ≠ 0xFF#8) && norWf ((b, w) :: r)

/-- The canonical form of the one addressed memory the device has. -/
abbrev Memory.wf (m : List (Nat × Byte)) : Bool := norWf m

/-- The byte at an address. -/
def norByte (m : List (Nat × Byte)) (a : Nat) : Byte := Table.getD 0xFF#8 m a

/-- The entries of an address and the bytes from it on. -/
def norCells : Nat → List Byte → List (Nat × Byte)
  | _, [] => []
  | a, b :: r => if b = 0xFF#8 then norCells (a + 1) r else (a, b) :: norCells (a + 1) r

/-- Entries below an address. -/
def norBelow (a : Nat) (m : List (Nat × Byte)) : List (Nat × Byte) := m.filter (fun e => decide (e.1 < a))

/-- Entries at or above an address. -/
def norFrom (a : Nat) (m : List (Nat × Byte)) : List (Nat × Byte) := m.filter (fun e => decide (a ≤ e.1))

/-- Put bytes at an address. -/
def norPut (a : Nat) (l : List Byte) (m : List (Nat × Byte)) : List (Nat × Byte) :=
  norBelow a m ++ norCells a l ++ norFrom (a + l.length) m

/-- Erase `n` bytes from an address: they read 0xFF. -/
def norErase (a n : Nat) (m : List (Nat × Byte)) : List (Nat × Byte) := norBelow a m ++ norFrom (a + n) m

/-- `n` bytes from an address, of entries that begin at or above it. -/
def norBytes : Nat → Nat → List (Nat × Byte) → List Byte
  | 0, _, _ => []
  | n + 1, a, [] => 0xFF#8 :: norBytes n (a + 1) []
  | n + 1, a, (b, v) :: r => if b = a then v :: norBytes n (a + 1) r else 0xFF#8 :: norBytes n (a + 1) ((b, v) :: r)

/-- Read `n` bytes. -/
def norRead (s : State) (a n : Nat) : List Byte := norBytes n a (norFrom a s.nor.mem)

def modNor (f : Nor → Nor) (s : State) : State := { s with nor := f s.nor }

/-- Write bytes. -/
def norWrite (a : Nat) (l : List Byte) (s : State) : State := modNor (fun v => { v with mem := norPut a l v.mem }) s

/-! ## Keys derived from d (R244, Table 10.2) -/

/-- ASCII bytes of a string. -/
def ascii (x : String) : List Byte := x.toList.map (fun c => BitVec.ofNat 8 c.toNat)

/-- The device key as the security core has unwrapped it; the core makes no key before. -/
def coreKey (s : State) : Nat := s.sec.d.getD 0

/-- HKDF from d. -/
def fromKey (s : State) (info : List Byte) (len : Nat) : List Byte :=
  hkdfExpand (hkdfExtract (zeros 32) (leBytes 32 (coreKey s))) info len

def kNor (s : State) : List Byte := fromKey s (ascii "dexver nor") 32
def kNand (s : State) : List Byte := fromKey s (ascii "dexver nand") 32

/-! ## Sealed pages (R262): IV, clear header, sealed body, tag -/

/-- Seal a page. -/
def sealPage (hdr body : List Byte) (s : State) : List Byte × State :=
  let (iv, t) := draw 12 s
  let (ct, tag) := gcmSeal (kNor s) iv hdr body
  (iv ++ hdr ++ ct ++ tag, t)

/-- Open a page under a key, with a header of `h` and a body of `n` bytes; none when its tag fails. -/
def openPage (key : List Byte) (h n : Nat) (l : List Byte) : Option (List Byte × List Byte) :=
  let hdr := slice l 12 h
  match gcmOpen key (l.take 12) hdr (slice l (12 + h) n) (slice l (12 + h + n) 16) with
  | none => none
  | some b => some (hdr, b)

/-! ## Operations in progress -/

/-- Add an operation; the first is in progress. -/
def norStart (o : NorOp) (s : State) : State := modNor (fun v => { v with jobs := v.jobs ++ [o] }) s

/-- A start counter or calibration write has failed: it is counted, and the device runs on (R452). -/
def norWriteFailed (s : State) : State := modNor (fun v => { v with failures := v.failures + 1 }) s

/-! ## Calibration records (Tables 11.9 and 11.10) -/

/-- Address of a calibration slot (Table 11.1). -/
def calAddr (slot : Nat) : Nat := 0x400000 + 0x10000 * slot

/-- The header of a calibration record. -/
def calHeader (k : CalSet) (sheet : Nat) (time : Int) (iv : List Byte) : List Byte :=
  wordsLe [field 16 48 1 + field 8 40 1 + field 8 32 k.origin + 41352, k.seq % 2 ^ 64, Config.dieIdentity % 2 ^ 64,
    field 32 32 sheet + field 16 16 (toTwos 16 k.tSet), toTwos 64 time,
    field 16 48 (min k.rms 65535) + field 16 32 (min k.max 65535)] ++ iv.take 8 ++ zeros 4 ++ iv.drop 8

/-- The uncalibrated tap map (R286). -/
def plainTaps : List Nat := (List.range 20).map (fun p => divRoundN (128 * p + 64) 10)

/-- Tap map of a channel in a set. -/
def tapsOf (k : CalSet) (c : Nat) : List Nat := match Table.getD [] k.taps c with | [] => plainTaps | l => l

/-- The body of a calibration record. -/
def calBody (k : CalSet) : List Byte :=
  (List.range 1536).flatMap (fun c => leBytes 4 (Table.getD 256 k.trims c)) ++
  (List.range 1536).flatMap (fun c => (List.range 20).map (fun p => BitVec.ofNat 8 ((tapsOf k c).getD p 0))) ++
  (List.range 32).flatMap (fun b => (List.range 64).flatMap (fun i => leBytes 2 (toTwos 16 ((Table.getD [] k.walk b).getD i 0)))) ++
  (List.range 32).flatMap (fun b => leBytes 2 (toTwos 16 (Table.getD 0 k.zero b))) ++
  (List.range 32).flatMap (fun b => leBytes 2 (toTwos 16 (Table.getD 0 k.fire b))) ++
  leBytes 4 (toTwos 32 k.dRef) ++ leBytes 4 (toTwos 32 k.sD) ++
  (List.range 64).flatMap (fun g => let r := Table.getD (0, 0) k.resid g
    leBytes 4 (field 16 16 (min r.1 65535) + field 16 0 (min r.2 65535)))

/-- The record of a set (R284). -/
def calRecord (k : CalSet) (s : State) : List Byte × State :=
  let (iv, t) := draw 12 s
  let h := calHeader k s.seq.sheet (vehicleNow s) iv
  let (ct, tag) := gcmSeal (kNor s) iv h (calBody k)
  let r := h ++ ct ++ tag
  (r ++ leBytes 4 (crc32 r), t)

/-- A table of what a region of `n` entries of `w` bytes holds. -/
def readTable {α : Type} (n w : Nat) (f : List Byte → α) (l : List Byte) : Table α :=
  (List.range n).map (fun i => (i, f (slice l (w * i) w)))

/-- The set that an opened record holds. -/
def calParse (h b : List Byte) : CalSet :=
  { trims := readTable 1536 4 leNat b
    taps := readTable 1536 20 (fun l => l.map (·.toNat)) (b.drop 6144)
    walk := readTable 32 128 (fun l => (List.range 64).map (fun i => ofTwos 16 (leAt l (2 * i) 2))) (b.drop 36864)
    zero := readTable 32 2 (fun l => ofTwos 16 (leNat l)) (b.drop 40960)
    fire := readTable 32 2 (fun l => ofTwos 16 (leNat l)) (b.drop 41024)
    dRef := ofTwos 32 (leAt b 41088 4)
    sD := ofTwos 32 (leAt b 41092 4)
    resid := readTable 64 4 (fun l => (leAt l 2 2, leAt l 0 2)) (b.drop 41096)
    rms := leAt h 46 2
    max := leAt h 44 2
    seq := leAt h 8 8
    origin := leAt h 4 1
    tSet := ofTwos 16 (leAt h 26 2) }

/-- A slot that was never written, or is erased (R285). -/
def calEmpty (s : State) (slot : Nat) : Bool := (norRead s (calAddr slot) 64).all (· == 0xFF#8)

/-- The valid set of a slot (R285). -/
def calSlot (s : State) (slot : Nat) : Option CalSet :=
  let l := norRead s (calAddr slot) 41436
  let h := l.take 64
  if leAt l 41432 4 ≠ crc32 (l.take 41432) ∨ leAt h 16 8 ≠ Config.dieIdentity % 2 ^ 64 then none
  else
    match gcmOpen (kNor s) (slice h 48 8 ++ slice h 60 4) h (slice l 64 41352) (slice l 41416 16) with
    | none => none
    | some b => some (calParse h b)

end Sys2Proof.Machine
end

