-- ==== Sys2Proof/Machine/RecorderOps.lean ====
section
/-! DEFINITION. What the recorder's commands share: body blocks, segments and their signing, the choice of the next NAND
operation, the journal and the recorder table (chapter 16). -/

namespace Sys2Proof.Machine

open Sys2Proof

def modRec (f : Recorder → Recorder) (s : State) : State := { s with recd := f s.recd }

/-! ## Geometry (Table 16.2, R398) -/

/-- Page main area P, bytes. -/
def pageBytes (s : State) : Nat := match s.recd.part with | none => 2048 | some p => 1024 * p.pageKiB

/-- Data pages of a block, D. -/
def dataPages (s : State) : Nat := match s.recd.part with | none => 60 | some p => p.pagesPerBlock - 4

/-- Blocks over the chip enables in use. -/
def totalBlocks (s : State) : Nat :=
  match s.recd.part with | none => 0 | some p => if s.recd.second then 2 * p.blocks else p.blocks

/-- Segments for `t` tenths of a second at 8,000,000 bytes/s, and one. -/
def segmentsFor (s : State) (t : Nat) : Nat := ceilDiv (t * 800000) (max 1 (dataPages s * pageBytes s)) + 1

/-- n_ring. -/
def ringLimit (s : State) : Nat := segmentsFor s (10 * s.legend.ringS)

/-- A block is bad. -/
def isBad (s : State) (b : Nat) : Bool := s.recd.factory.contains b || s.recd.grown.contains b

/-- Good blocks. -/
def goodBlocks (s : State) : List Nat := (List.range (totalBlocks s)).filter (fun b => !isBad s b)

/-- The free good block with the lowest erase count (R407). -/
def pickFree (s : State) : Option Nat :=
  ((goodBlocks s).filter (fun b => decide ((blockOf s b).st = 0) && (blockOf s b).headed)).foldl
    (fun a b => match a with
      | none => some b
      | some c => if (blockOf s b).erases < (blockOf s c).erases then some b else some c) none

/-- Table entry of a bad block: chip enable, grown, block. -/
def badEntry (s : State) (grown : Bool) (b : Nat) : Nat :=
  let n := match s.recd.part with | none => 1 | some p => max 1 p.blocks
  field 1 31 (b / n) + field 1 30 (b2n grown) + field 30 0 (b % n)

/-! ## Body blocks (Table 16.4) -/

/-- A block of a kind and its content. -/
def bodyBytes (kind : Nat) (content : List Byte) : List Byte :=
  leBytes 8 (field 8 56 kind + field 32 0 (content.length + 8)) ++ content

/-- A block stamped with the present sheet and time. -/
def bodyNow (kind : Nat) (content : List Byte) (s : State) : Body :=
  { kind := kind, bytes := bodyBytes kind content, sheet := s.seq.sheet, time := vehicleNow s, step := false, slew := false,
    sync := s.grat.sync }

/-- The fill block of `n` bytes, head included. -/
def fillBody (n : Nat) (s : State) : Body := bodyNow 0 (zeros (n - 8)) s

/-- Bytes of blocks. -/
def bodiesBytes (l : List Body) : Nat := (l.map (fun b => b.bytes.length)).sum

/-- Bytes of the open segment not yet programmed. -/
def segBuffered (g : OpenSeg) : Nat := bodiesBytes g.taken - g.skip

/-- Bytes held in the staging buffer: a block leaves it when it has been programmed. -/
def stagedBytes (s : State) : Nat :=
  bodiesBytes s.recd.staging + (s.recd.closing.map (fun e => bodiesBytes e.2)).sum +
    (match s.recd.seg with | none => 0 | some g => segBuffered g)

/-! ## Opening a segment (R392, R398, R407) -/

/-- The incident of the newest entry, 0 none. -/
def currentIncident (s : State) : Nat := match s.recd.incidents.getLast? with | none => 0 | some i => i.number

/-- Is a storage header as read valid: magic, format and CRC-32 (Table 16.3)? -/
def storageOk (l : List Byte) : Bool :=
  decide (leAt l 4 4 = 0x53475844 ∧ leAt l 2 2 = 1 ∧ leAt l 252 4 = crc32 (l.take 252))

/-- The storage header of a new segment (Table 16.3) for the key SK. -/
def storageHeader (s : State) (kind seq erases : Nat) (sk iv1 iv2 : List Byte) : List Byte :=
  let tagged := leBytes 8 seq ++ leBytes 8 (Config.dieIdentity % 2 ^ 64)
  let w1 := gcmSeal (kNand s) iv1 tagged sk
  let esc := match s.sec.escrow with
    | none => zeros 124
    | some (e, k) =>
      let p := ecPublic e
      let w := gcmSeal k iv2 tagged sk
      leBytes 32 p.1 ++ leBytes 32 p.2 ++ iv2 ++ w.1 ++ w.2
  let geo := match s.recd.part with | none => 0 | some p => field 8 56 p.pageKiB + field 16 40 p.pagesPerBlock
  let l := leBytes 8 (field 32 32 0x53475844 + field 16 16 1 + field 8 8 kind) ++ tagged ++
    leBytes 8 (geo + field 32 8 erases) ++ iv1 ++ w1.1 ++ w1.2 ++ esc ++ leBytes 4 s.recd.hours ++ zeros 32
  l ++ leBytes 4 (crc32 l)

/-- Put a block into service with this storage header. -/
def programHeader (b st : Nat) (h : List Byte) (incident : Nat) (s : State) : State :=
  modBlock b (fun v => { v with header := h, body := [], sign := [], closing := [], pages := [], st := st, reads := 0,
                                incident := incident }) s

/-- The head block of a segment (Table 16.4). -/
def segmentHead (s : State) : Body :=
  bodyNow 1 (leBytes 8 (field 3 61 (decimationJ s s.seq.mode) + field 3 58 s.seq.mode)) s

/-- Open a segment of a kind on block `b`: its storage header is the first page to be programmed. -/
def openOn (kind b : Nat) (s : State) : State :=
  let (sk, t) := draw 32 s
  let (iv1, t) := draw 12 t
  let (iv2, t) := draw 12 t
  let h := storageHeader t kind t.recd.nextSeq (blockOf t b).erases sk iv1 iv2
  let head := segmentHead t
  modRec (fun r => { r with
    nextSeq := r.nextSeq + 1
    seg := some { block := b, seq := r.nextSeq, kind := kind, sk := sk, header := h, taken := [head]
                  info := { firstSheet := head.sheet, lastSheet := head.sheet, firstTime := head.time, lastTime := head.time,
                            step := false, slew := false, sync := head.sync } } }) (modBlock b (fun v => { v with st := kind }) t)

/-- A scrub copy that is given up: it is erased, and the original is kept. -/
def dropCopy (c : Nat) (s : State) : State :=
  modBlock c (fun v => { v with st := if isBad s c then 3 else 4, header := [] }) (modRec (fun r => { r with scrubbing := none }) s)

/-- A block is to hold its segment no longer: it is erased, or stays out of use where it is retired (R394); a copy of it under
way is given up. -/
def letGo (b : Nat) (s : State) : State :=
  let t := modBlock b (fun v => { v with st := if isBad s b then 3 else 4, incident := 0 })
    (modRec (fun r => { r with scrubs := r.scrubs.filter (· ≠ b) }) s)
  match t.recd.scrubbing with
  | none => t
  | some x => if x.source = b then dropCopy x.copy t else t

/-- The ring is full: its oldest segment's block is to be erased and reused (R398). -/
def dropOldest (s : State) : State :=
  match s.recd.ring with
  | [] => s
  | b :: r => if ringLimit s ≤ s.recd.ring.length then letGo b (modRec (fun x => { x with ring := r }) s) else s

/-- The content of a segment in force: a recording mode, or a post-trigger window. -/
def recordingNow (s : State) : Bool := recordingMode s || s.recd.open_.isSome

/-- Kind of the next segment, none where none is needed. -/
def nextKind (s : State) : Option Nat :=
  match s.recd.closing with
  | (k, l) :: _ => if k = 1 ∧ l.isEmpty then none else some k
  | [] => if !s.recd.staging.isEmpty || recordingNow s then some (if s.recd.open_.isSome then 2 else 1) else none

/-- Open a segment if one is needed and a block is free. -/
def openIfNeeded (s : State) : State :=
  if s.recd.seg.isSome then s
  else
    match nextKind s with
    | none =>
      match s.recd.closing with
      | [] => s
      | _ :: r => modRec (fun x => { x with closing := r }) s
    | some k =>
      let t := if k = 1 then dropOldest s else s
      match pickFree t with
      | none => t
      | some b => openOn k b t

/-! ## Taking blocks into the open segment -/

/-- Take blocks until a page is full: those moved, the rest, and whether the next one does not fit the segment. -/
def takeBodies (page cap : Nat) : List Body → Nat → Nat → List Body × List Body × Bool
  | [], _, _ => ([], [], false)
  | b :: r, have_, used =>
    if page ≤ have_ then ([], b :: r, false)
    else if cap < used + b.bytes.length then ([], b :: r, true)
    else
      let (m, rest, full) := takeBodies page cap r (have_ + b.bytes.length) (used + b.bytes.length)
      (b :: m, rest, full)

/-- What a block adds to the segment's first and last data. -/
def noteBody (i : SegInfo) (b : Body) : SegInfo :=
  { i with lastSheet := b.sheet, lastTime := b.time, step := i.step || b.step, slew := i.slew || b.slew, sync := b.sync }

/-- The first block after the head sets the first data. -/
def noteBodies (first : Bool) (i : SegInfo) : List Body → SegInfo
  | [] => i
  | b :: r =>
    let j := noteBody i b
    noteBodies false (if first then { j with firstSheet := b.sheet, firstTime := b.time } else j) r

/-- Put what is left of the source back. -/
def putSource (rest : List Body) (r : Recorder) : Recorder :=
  match r.closing with
  | (k, _) :: t => { r with closing := (k, rest) :: t }
  | [] => { r with staging := rest }

/-- Load the open segment from staging: up to a page; when nothing more comes the last page is filled (R395). -/
def loadSeg (s : State) : State :=
  match s.recd.seg with
  | none => s
  | some g =>
    if g.ending then s
    else
      let page := pageBytes s
      let cap := dataPages s * page
      let have_ := segBuffered g
      let src := match s.recd.closing with | (_, l) :: _ => l | [] => s.recd.staging
      let (m, rest, full) := takeBodies page cap src have_ (g.done + have_)
      let n := have_ + bodiesBytes m
      let ends := full || decide (cap ≤ g.done + n) || (!s.recd.closing.isEmpty && rest.isEmpty)
      let pad := if ends && decide (n % page ≠ 0) then [fillBody (page - n % page) s] else []
      modRec (fun r => putSource rest { r with seg := some { g with
        taken := g.taken ++ m ++ pad, ending := ends, info := noteBodies (decide (g.done = 0 ∧ g.taken.length = 1)) g.info m } }) s

/-! ## Signing (R264, R265) -/

/-- The header of Table 10.6. -/
def recordHeader (kind cause seq incident : Nat) (i : SegInfo) (len : Nat) (bodyHash prev : List Byte) (version : Nat) :
    List Byte :=
  wordsLe [field 16 48 1 + field 8 40 kind + field 8 32 cause + field 8 24 version + field 2 22 i.sync +
      field 1 21 (b2n i.step) + field 1 20 (b2n i.slew), seq % 2 ^ 64, incident % 2 ^ 64, Config.dieIdentity % 2 ^ 64,
    field 32 32 i.firstSheet + field 32 0 i.lastSheet, toTwos 64 i.firstTime, toTwos 64 i.lastTime, field 32 32 len] ++
    bodyHash ++ prev

/-- A per-signature number from the entropy source, 1 to n - 1. -/
def drawScalar (s : State) : Nat × State :=
  let (l, t) := draw 40 s
  (leNat l % (p256N - 1) + 1, t)

/-- Sign a digest with d: r then s (R248, R264). -/
def signDigest (digest : List Byte) (s : State) : List Byte × State :=
  let (k, t) := drawScalar s
  let (r, v) := ecdsaSign (coreKey s) k digest
  (leBytes 32 r ++ leBytes 32 v, count .signatures 1 t)

/-- The previous-hash field. -/
def prevField (s : State) : List Byte :=
  match s.recd.prevHash with | some h => h | none => (List.range 32).map Config.firstPrevious

/-- Sign a record: header and signature; the chain goes on from it. -/
def signRecord (kind cause seq incident : Nat) (i : SegInfo) (body : List Byte) (s : State) : List Byte × State :=
  let h := recordHeader kind cause seq incident i body.length (sha256 body) (prevField s) s.legend.version
  let d := sha256 h
  let (sig, t) := signDigest d s
  (h ++ sig, modRec (fun r => { r with prevHash := some d }) t)

/-- The incident entry of a number. -/
def incidentOf (s : State) (n : Nat) : Option Incident := s.recd.incidents.find? (fun i => decide (i.number = n))

/-- Cause of an incident. -/
def causeOf (s : State) (n : Nat) : Nat := match incidentOf s n with | none => 0 | some i => i.cause

/-- The body of a closing record (R265). -/
def closingBody (s : State) (i : Incident) (last : Nat) : List Byte :=
  wordsLe [toTwos 64 i.time, i.local_ % 2 ^ 64, i.first % 2 ^ 64, last % 2 ^ 64] ++ leBytes 32 s.otp.hash ++
    s.otp.caCert ++ s.otp.devCert

/-- Change an incident's entry. -/
def modIncident (n : Nat) (f : Incident → Incident) (s : State) : State :=
  modRec (fun r => { r with incidents := r.incidents.map (fun i => if i.number = n then f i else i) }) s

/-- Blocks that hold segments of an incident. -/
def incidentBlocks (s : State) (n : Nat) : List Nat :=
  (s.recd.blocks.filter (fun e => decide (e.2.incident = n) && !e.2.header.isEmpty)).map (·.1)

/-- Place the closing record of an incident on block `b`, after segment `seq`. -/
def placeClosing (n b seq : Nat) (i : SegInfo) (s : State) : State :=
  match incidentOf s n with
  | none => s
  | some e =>
    let body := closingBody s e seq
    let (h, t) := signRecord 3 e.cause (seq + 1) n i body s
    let t := modBlock b (fun v => { v with closing := h.take 128 ++ body ++ h.drop 128 }) t
    let t := modRec (fun r => { r with nextSeq := max r.nextSeq (seq + 2) }) t
    modIncident n (fun e => { e with last := seq + 1 }) t

/-- Page `i` of a segment as it stands on the NAND: sealed under SK with the page index as IV, and its metadata, the tag,
the index and the segment sequence (R263, R393); `spareArea` adds the parity. -/
def sealedPage (sk : List Byte) (seq i : Nat) (page : List Byte) : List Byte × List Byte :=
  let c := gcmSeal sk (leBytes 12 i) [] page
  (c.1, c.2 ++ leBytes 4 i ++ leBytes 8 seq ++ zeros 4)

/-- The signature page of a block: header, signature, and the closing record (Table 16.2). -/
def signaturePage (s : State) (v : Block) : List Byte :=
  (v.sign ++ v.closing ++ zeros (pageBytes s)).take (pageBytes s)

/-- Sequence, kind and generation that the storage header of a block gives (Table 16.3). -/
def segSeq (v : Block) : Nat := leAt v.header 8 8
def segKind (v : Block) : Nat := leAt v.header 1 1
def segGen (v : Block) : Nat := leAt v.header 0 1

/-- The segment key that a storage header holds under K_nand (R392). -/
def segKey (s : State) (h : List Byte) : Option (List Byte) :=
  gcmOpen (kNand s) (slice h 32 12) (slice h 8 16) (slice h 44 32) (slice h 76 16)

/-- The signature page of a block is programmed at its first free page. -/
def addSignPage (b seq : Nat) (sk : Option (List Byte)) (s : State) : State :=
  modBlock b (fun v => { v with pages := v.pages ++ [match sk with
    | none => ([], [])
    | some k => sealedPage k seq (2 + v.pages.length) (signaturePage s v)] }) s

/-- A page failed: it holds nothing, and is not programmed again. -/
def spoilPage (b : Nat) (s : State) : State := modBlock b (fun v => { v with pages := v.pages ++ [([], [])] }) s

/-- The block header of page 0 (Table 16.2). -/
def blockHeader (erases : Nat) : List Byte :=
  let l := leBytes 8 (field 32 32 0x4B4C5844 + field 16 16 1) ++ leBytes 4 erases ++ zeros 48
  l ++ leBytes 4 (crc32 l)

/-- Is a block header as read valid? -/
def blockHeaderOk (l : List Byte) : Bool :=
  decide (leAt l 4 4 = 0x4B4C5844 ∧ leAt l 2 2 = 1 ∧ leAt l 60 4 = crc32 (l.take 60))

/-- Main area and metadata of page `i` of a block; none where it is erased (Table 16.2). -/
def pageImage (s : State) (v : Block) (i : Nat) : Option (List Byte × List Byte) :=
  let clear (l : List Byte) (seq : Nat) : List Byte × List Byte :=
    ((l ++ zeros (pageBytes s)).take (pageBytes s), zeros 16 ++ leBytes 4 i ++ leBytes 8 seq ++ zeros 4)
  if i = 0 then (if v.zero.isEmpty then none else some (clear v.zero 0))
  else if i = 1 then (if v.header.isEmpty then none else some (clear v.header (segSeq v)))
  else v.pages[i - 2]?

/-- Page `i` of a block with its spare area, as the NAND holds it (R391, R393). -/
def nandPage (s : State) (v : Block) (i : Nat) : Option (List Byte) := (pageImage s v i).map (fun p => p.1 ++ spareArea p)

/-- The open segment's signature page is written: the segment is closed; the last of an incident carries its closing
record (R398, R401). -/
def closeSeg (s : State) : State :=
  match s.recd.seg with
  | none => s
  | some g =>
    let cur := currentIncident s
    let mine := decide (g.kind = 2) || s.recd.phase1
    let inc := if mine then cur else 0
    let body := (blockOf s g.block).body
    let (h, t) := signRecord g.kind (if g.kind = 2 then causeOf s cur else 0) g.seq (if g.kind = 2 then cur else 0) g.info
      body s
    let t := modBlock g.block (fun v => { v with sign := h, incident := inc, st := if mine then 2 else 1 }) t
    let over_ := match t.recd.closing with | (_, l) :: _ => l.isEmpty | [] => false
    let last := t.recd.phase2 && decide (g.kind = 2) && over_
    let t := if last then placeClosing cur g.block g.seq g.info t else t
    let t := addSignPage g.block g.seq (some g.sk) t
    let t := modRec (fun r => { r with
      seg := none
      ring := if mine then r.ring else r.ring ++ [g.block]
      closing := if over_ then r.closing.drop 1 else r.closing }) t
    count .segmentsWritten 1 t

/-! ## Journal and table (R401, Tables 16.7 and 16.8) -/

/-- W5 of an incident entry. -/
def incidentW5 (i : Incident) (st : Nat) : Nat :=
  field 8 56 i.cause + field 2 54 st + field 6 48 (min i.joined 63) + field 16 32 (min i.segments 65535)

/-- An incident entry. -/
def incidentBytes (i : Incident) : List Byte :=
  wordsLe [i.number, i.first, i.last, toTwos 64 i.time, i.local_, incidentW5 i i.st, 0, 0]

/-- Log a recorder event about an incident. -/
def logIncident (ev : Nat) (i : Incident) (s : State) : State := logEvent 11 ev (i.number % 65536) (incidentW5 i i.st / 2 ^ 32) s

/-- Queue a journal entry; the other sector is erased once this one is half full. -/
def journalEntry (kind : Nat) (i : Incident) (s : State) : State :=
  let (l, t) := sealPage (leBytes 8 (field 8 56 kind + field 56 0 s.recd.journalSeq)) (incidentBytes i) s
  let pos := t.recd.journalPos
  let t := norStart { job := .journal kind i.number, erasing := false, addr := 0x460000 + 256 * pos, left := l } t
  let t := if pos % 256 = 128 then
      norStart { job := .journal 0 0, erasing := true, addr := 0x460000 + 0x10000 * (1 - pos / 256), left := [] } t
    else t
  modRec (fun r => { r with journalSeq := r.journalSeq + 1, journalPos := (pos + 1) % 512 }) t

/-- The body of the recorder table. -/
def tableBody (s : State) : List Byte :=
  let l := (s.recd.incidents.take 32).flatMap incidentBytes
  let bad := ((s.recd.factory.map (badEntry s false) ++ s.recd.grown.map (badEntry s true)).take 1024).flatMap (leBytes 4)
  l ++ zeros (2048 - l.length) ++ bad ++ List.replicate (4096 - bad.length) 0xFF#8

/-- The record of the recorder table with the next sequence: header, sealed body, tag and CRC-32 (Tables 16.7, 16.8). -/
def tableRecord (s : State) : List Byte × State :=
  let (iv, t) := draw 12 s
  let h := leBytes 8 (t.recd.tableSeq + 1) ++ zeros 40 ++ iv ++ zeros 4
  let (ct, tag) := gcmSeal (kNor t) iv h (tableBody t)
  let r := h ++ ct ++ tag
  (r ++ leBytes 4 (crc32 r), t)

/-- Queue a write of the recorder table to the slot not in force, and the erase of the other. -/
def tableWrite (s : State) : State :=
  let (r, t) := tableRecord s
  let slot := 1 - t.recd.tableSlot
  let t := norStart { job := .table slot, erasing := false, addr := 0x440000 + 0x10000 * slot, left := r } t
  let t := norStart { job := .table (1 - slot), erasing := true, addr := 0x440000 + 0x10000 * (1 - slot), left := [] } t
  modRec (fun r => { r with tableSlot := slot, tableSeq := r.tableSeq + 1 }) t

/-- Count the segments of an incident into its entry. -/
def countSegments (n : Nat) (s : State) : State :=
  modIncident n (fun i => { i with segments := (incidentBlocks s n).length }) s

/-- A journal entry of a kind for an incident waits to be programmed. -/
def journalPending (kind n : Nat) (s : State) : Bool := s.nor.jobs.any (fun o => o.job == .journal kind n)

/-- Once the segments of a phase are closed its NOR work is queued (R401). -/
def phaseWork (s : State) : State :=
  let n := currentIncident s
  if !s.recd.closing.isEmpty || (s.recd.seg.any (fun g => g.ending)) then s
  else if s.recd.phase1 && !journalPending 1 n s then
    let t := countSegments n s
    match incidentOf t n with
    | none => t
    | some i => journalEntry 1 { i with st := 1 } t
  else if s.recd.phase2 && !s.recd.phase1 && !journalPending 2 n s then
    let t := countSegments n s
    let t := modIncident n (fun i => { i with st := 2 }) t
    let t := tableWrite t
    match incidentOf t n with
    | none => t
    | some i => journalEntry 2 i (modIncident n (fun i => { i with st := 1 }) t)
  else s

/-- A journal entry has been programmed and read back: phase 1 or phase 2 ends. -/
def journalDone (kind n : Nat) (s : State) : State :=
  if kind = 1 then modIncident n (fun i => { i with st := 1 }) (modRec (fun r => { r with phase1 := false }) s)
  else if kind = 2 then
    let t := modIncident n (fun i => { i with st := max 2 i.st }) (modRec (fun r => { r with phase2 := false }) s)
    match incidentOf t n with
    | none => t
    | some i => count .commits 1 (logIncident 4 i t)
  else s

/-- Release an incident: its blocks are to be erased, and a release entry and the table are written (R400, R411). -/
def releaseIncident (i : Incident) (s : State) : State :=
  let bs := incidentBlocks s i.number
  let t := bs.foldl (fun u b => letGo b u) s
  let t := modRec (fun r => { r with
    incidents := r.incidents.filter (fun j => decide (j.number ≠ i.number)) }) t
  count .releases 1 (logIncident 5 i (tableWrite (journalEntry 3 i t)))

/-! ## The next NAND operation (R408) -/

/-- A block to be erased. -/
def eraseDue (s : State) : Option Nat :=
  ((s.recd.blocks.find? (fun e => decide (e.2.st = 4)))).map (·.1)

/-- May a background erase start? -/
def eraseMay (s : State) : Bool := decide (stagedBytes s < 262144)

/-- The block that holds a record, and whether it is the closing record. -/
def findRecord (s : State) (seq : Nat) : Option (Nat × Bool) :=
  let held := s.recd.blocks.filter (fun e => decide (e.2.st = 1 ∨ e.2.st = 2))
  match held.find? (fun e => !e.2.sign.isEmpty && decide (leAt e.2.sign 8 8 = seq)) with
  | some e => some (e.1, false)
  | none =>
    match held.find? (fun e => !e.2.closing.isEmpty && decide (leAt e.2.closing 8 8 = seq)) with
    | some e => some (e.1, true)
    | none => none

/-- Page that holds the record byte at `offset`: a data page, or the signature page, the last one programmed. -/
def pageOfOffset (s : State) (v : Block) (closing : Bool) (offset : Nat) : Nat :=
  if closing ∨ offset < 128 ∨ 128 + v.body.length ≤ offset then 1 + v.pages.length else 2 + (offset - 128) / pageBytes s

/-- In Depot, with the depot key. -/
def inDepot (s : State) : Bool := s.phase == .mode && decide (s.seq.mode = 6) && s.seq.keyWithdrawn.isNone

/-- The read that the running readout needs, once what was read is on its way; none once Depot is left or the key
withdrawn (R412). -/
def readDue (s : State) : Option NandJob :=
  match s.recd.readout with
  | none => none
  | some r =>
    if !inDepot s || !r.data.isEmpty || r.last then none else
    match findRecord s r.seq with
    | none => none
    | some (b, c) => some (.read b (pageOfOffset s (blockOf s b) c r.offset))

/-- May a block be scrubbed now: it holds a segment, and not the open one? -/
def mayScrub (s : State) (b : Nat) : Bool :=
  decide ((blockOf s b).st = 1 ∨ (blockOf s b).st = 2) && !(blockOf s b).header.isEmpty &&
    !(s.recd.seg.any (fun g => decide (g.block = b)))

/-- The scrub copy that goes on, or begins on the free block with the lowest erase count (R406). -/
def scrubNext (s : State) : Option Scrub :=
  match s.recd.scrubbing with
  | some x => some x
  | none =>
    match s.recd.scrubs.find? (mayScrub s), pickFree s with
    | some b, some c => some { source := b, copy := c }
    | _, _ => none

/-- Readout, scrub and erase, in that order; a scrub goes one page operation at a time. -/
def background (s : State) : State :=
  match readDue s with
  | some j => moveStart 10 4 1 (pageBytes s) (modRec (fun r => { r with job := some j }) s)
  | none =>
    match scrubNext s with
    | some x =>
      moveStart 9 4 4 (pageBytes s)
        (modBlock x.copy (fun v => { v with st := 5 }) (modRec (fun r => { r with job := some .copy, scrubbing := some x }) s))
    | none =>
      match eraseDue s with
      | some b => if eraseMay s then modRec (fun r => { r with job := some (.erase b) }) s else s
      | none => s

/-- The page program that the open segment needs: its storage header, a data page, its signature page. -/
def segJob (s : State) : Option NandJob :=
  match s.recd.seg with
  | none => none
  | some g =>
    if !g.header.isEmpty then some .header
    else if pageBytes s ≤ segBuffered g then some .program
    else if g.ending then some .sign
    else none

/-- The movement channel's part in a page program (Table 16.9). -/
def segMove (j : NandJob) (s : State) : State :=
  match j with
  | .header => moveStart 8 1 4 256 s
  | .program => moveStart 8 3 4 (pageBytes s) s
  | .sign => moveStart 11 1 4 (pageBytes s) s
  | _ => s

/-- The next operation of a free NAND, in the order of R408. -/
def nandNext (s : State) : State :=
  let t := phaseWork (loadSeg (openIfNeeded s))
  match segJob t with
  | none => background t
  | some j => segMove j (modRec (fun r => { r with job := some j }) t)

/-- The instant at which an operation started is kept for its 100 ms (R452). -/
def stampJob (s t : State) : State := modRec (fun r => if r.job.isSome then { r with jobAt := s.now } else r) t

/-- Start the next operation when the NAND is free: none below the supply warning level (R408). -/
def nandStart (s : State) : State :=
  if s.recd.job.isSome || s.supply.dip || decide (s.recd.st < 3) then s else stampJob s (nandNext s)

/-! ## Reads and page programs (R391, R394, R406) -/

/-- A read-back or read is uncorrectable. -/
def uncorrectable (l : List Nat) : Bool := l.any (fun n => decide (72 < n))

/-- Count what a read corrected, or that it could not (Table 16.13). -/
def countRead (l : List Nat) (s : State) : State :=
  let t := count .correctedBits ((l.filter (fun n => decide (n ≤ 72))).sum) s
  if uncorrectable l then count .uncorrectablePages 1 t else t

/-- A segment is to be scrubbed. -/
def wantScrub (b : Nat) (s : State) : State :=
  if s.recd.scrubs.contains b then s else modRec (fun r => { r with scrubs := r.scrubs ++ [b] }) s

/-- A page of block `b` has been read: what it corrected is counted, and scrub is judged (R406). -/
def noteRead (b : Nat) (l : List Nat) (s : State) : State :=
  let n := (blockOf s b).reads + 1
  let t := countRead l (modBlock b (fun v => { v with reads := n }) s)
  if l.any (fun k => decide (48 < k)) || decide (50000 ≤ n) then wantScrub b t else t

/-- A page program has succeeded: its status, and its read-back (R394). -/
def programmed (p : PageResult) : Bool := p.ok && !uncorrectable p.errors

/-- The read-back of a page that the part reports as programmed. -/
def readBack (b : Nat) (p : PageResult) (s : State) : State := if p.ok then noteRead b p.errors s else s

/-- Remove `n` bytes from the front of the blocks taken: what is left, and the bytes of its first block already gone. -/
def dropBodies : List Body → Nat → List Body × Nat
  | [], _ => ([], 0)
  | b :: r, n => if b.bytes.length ≤ n then dropBodies r (n - b.bytes.length) else (b :: r, n)

/-- The next page of the open segment has been programmed and verified. -/
def pageOk (s : State) : State :=
  match s.recd.seg with
  | none => s
  | some g =>
    let n := min (pageBytes s) (segBuffered g)
    let page := ((g.taken.flatMap (·.bytes)).drop g.skip).take n
    let (rest, skip) := dropBodies g.taken (g.skip + n)
    modBlock g.block (fun v => { v with
        body := v.body ++ page, reads := 0, pages := v.pages ++ [sealedPage g.sk g.seq (2 + v.pages.length) page] })
      (modRec (fun r => { r with seg := some { g with taken := rest, skip := skip, done := g.done + n } }) s)

/-- A block is retired (R394): never used again once its segment is gone; logged, counted, and written to the table. -/
def retireBlock (b : Nat) (s : State) : State :=
  if isBad s b then s
  else
    let t := modRec (fun r => { r with grown := r.grown ++ [b] }) s
    tableWrite (count .grownBad 1 (logEvent 11 7 0 (badEntry t true b) t))

/-- Put the blocks of a failed page back at the head of the source. -/
def untake (l : List Body) (r : Recorder) : Recorder :=
  match r.closing with
  | (k, q) :: t => { r with closing := (k, l ++ q) :: t }
  | [] => { r with staging := l ++ r.staging }

/-- A data page failed: the segment is to be signed at its last verified page, and a new one takes the rest (R415). -/
def programFailed (s : State) : State :=
  match s.recd.seg with
  | none => s
  | some g =>
    spoilPage g.block (modRec (fun r => untake (g.taken.filter (fun b => decide (2 ≤ b.kind)))
      { r with seg := some { g with taken := [], skip := 0, ending := true } }) s)

/-- A storage header failed: the block holds no segment, and another block is taken under the same sequence. -/
def headerFailed (s : State) : State :=
  match s.recd.seg with
  | none => s
  | some g =>
    letGo g.block (modRec (fun r => untake (g.taken.filter (fun b => decide (2 ≤ b.kind)))
      { r with seg := none, nextSeq := g.seq }) s)

/-- The storage header's program ends (R392, R394). -/
def headerDone (p : PageResult) (s : State) : State :=
  match s.recd.seg with
  | none => s
  | some g =>
    let t := modRec (fun r => { r with job := none }) s
    if programmed p then
      readBack g.block p (programHeader g.block g.kind g.header (if g.kind = 2 then currentIncident t else 0)
        (modRec (fun r => { r with seg := some { g with header := [] } }) t))
    else headerFailed (retireBlock g.block (readBack g.block p t))

/-- A page program ends: verified, or its block is retired (R394). -/
def programDone (p : PageResult) (s : State) : State :=
  match s.recd.seg with
  | none => s
  | some g =>
    let t := modRec (fun r => { r with job := none }) s
    if programmed p then readBack g.block p (pageOk t) else programFailed (retireBlock g.block (readBack g.block p t))

/-- A signature page ends; after a failed read-back the page that follows takes it (Table 16.2). -/
def signDone (p : PageResult) (s : State) : State :=
  match s.recd.seg with
  | none => s
  | some g =>
    let t := modRec (fun r => { r with job := none }) s
    if programmed p then readBack g.block p (closeSeg t)
    else
      let t := retireBlock g.block (readBack g.block p t)
      if g.again then modBlock g.block (fun v => { v with sign := [], closing := [] }) (closeSeg t)
      else spoilPage g.block (modRec (fun r => { r with seg := some { g with again := true } }) t)

/-- A program of the open segment ends. -/
def endSegJob (j : NandJob) (p : PageResult) (s : State) : State :=
  match j with
  | .header => headerDone p s
  | .program => programDone p s
  | .sign => signDone p s
  | _ => s

/-- A page that is programmed and reads back without error. -/
def goodPage : PageResult := { ok := true, errors := [] }

/-- The programs of the segments end one after another, with the results given, until `stop`, `k` of them at most. -/
def runSeg (stop : State → Bool) : Nat → List PageResult → State → State
  | 0, _, s => s
  | k + 1, l, s =>
    if stop s then s
    else
      let t := loadSeg (openIfNeeded s)
      match segJob t with
      | none => t
      | some j => runSeg stop k l.tail (endSegJob j (l.headD goodPage) t)

/-- Programs that closing what waits can take. -/
def closingFuel (l : List PageResult) (s : State) : Nat :=
  (dataPages s + 4) * (s.recd.closing.length + (s.recd.closing.map (fun e => e.2.length)).sum + l.length + 2)

/-- The programs of the open segment until it is closed (SEGMENT_CLOSE). -/
def finishSeg (l : List PageResult) (s : State) : State :=
  let t := loadSeg (openIfNeeded s)
  match t.recd.seg with
  | none => t
  | some g => runSeg (fun u => u.recd.seg.all (fun h => decide (h.seq ≠ g.seq))) (closingFuel l t) l t

/-- The programs of the segments that are waiting to be closed. -/
def finishClosing (l : List PageResult) (s : State) : State :=
  runSeg (fun u => u.recd.closing.isEmpty) (closingFuel l s) l s

/-! ## Staging (R397, R433) -/

/-- Does a block fit the staging buffer? -/
def stageFits (b : Body) (s : State) : Bool := decide (stagedBytes s + b.bytes.length ≤ 524288)

/-- Put a block into staging, or drop it whole: it is counted, and `gap` takes its place (R397). -/
def stage (b gap : Body) (s : State) : State :=
  if stageFits b s then modRec (fun r => { r with staging := r.staging ++ [b] }) s
  else count .stagingDrops 1 (modRec (fun r => { r with gaps := r.gaps ++ [gap] }) s)

/-- The gap block in place of an event block: of no bearing, so those fields are free (R397). -/
def eventGap (s : State) : Body :=
  bodyNow 5 (leBytes 8 (field 32 32 s.seq.sheet + field 12 20 (Config.eventGap 0) + field 12 8 (Config.eventGap 1))) s

/-- Form the block of the event entries held, where there are any. -/
def formEvents (s : State) : State :=
  if s.recd.events.isEmpty then s
  else
    stage (bodyNow 4 (wordsLe (s.recd.events.flatMap (fun e => [e.1, e.2]))) s) (eventGap s)
      (modRec (fun r => { r with events := [] }) s)

/-- Put the gap blocks that are due into staging, as far as they fit. -/
def formGaps (s : State) : State :=
  s.recd.gaps.foldl (fun u g =>
    if stageFits g u then modRec (fun x => { x with gaps := x.gaps.drop 1, staging := x.staging ++ [g] }) u else u) s

/-! ## Leaving a recording mode (R396) -/

/-- The ring pauses: the open ring segment is to be closed with what is staged for it, the events and gaps due included
(R433). -/
def pauseRing (s : State) : State :=
  if s.recd.st < 3 || s.recd.open_.isSome then s
  else
    modRec (fun r => { r with
      closing := if r.seg.isSome || !r.staging.isEmpty then r.closing ++ [(1, r.staging)] else r.closing
      staging := [], ended := [], gaps := [] }) (formGaps (formEvents (formGaps s)))

end Sys2Proof.Machine
end

