-- ==== Sys2Proof/Machine/Gap.lean ====
section
/-! DEFINITION. The Traverse frame and the diagnostic window of a facet gap (R58, R59, R73 to R79, R81). -/

namespace Sys2Proof.Machine

open Sys2Proof

/-- Both emission permits are asserted. -/
def bothPermits (s : State) : Bool := s.safety.a.permit && s.safety.b.permit

/-! ## The line TRV_OUT (R58, R59, Table 3.2) -/

/-- High and low time of a bit's cell, taps. -/
def bitCell (v : Bool) : Nat × Nat := if v then (ns 625, ns 375) else (ns 250, ns 750)

/-- The bits of a frame in the order in which they are sent: board 0's word first, each word bit 0 first. -/
def frameBits (words : List Nat) : List Bool := words.flatMap (fun w => (List.range 96).map (fun i => w.testBit i))

/-- The level of TRV_OUT at an instant: each bit begins with its rising edge, and the line is low between frames. -/
def trvOut (s : State) (at_ : Nat) : Bool :=
  match s.chain.frameAt with
  | none => false
  | some x =>
    if at_ < x then false
    else
      match (frameBits s.chain.frame)[(at_ - x) / us 1]? with
      | none => false
      | some v => decide ((at_ - x) % us 1 < (bitCell v).1)

/-- After a frame the line has been low for 60 us. -/
def lineFree (s : State) : Bool :=
  match s.chain.frameAt with
  | none => true
  | some x => decide (x + frameTaps s.chain.frame.length + us 60 ≤ s.now)

/-- TRAVERSE_FRAME: one frame a gap, board 0 first; the frame count advances; the boards' multiplexers realign (R58,
R59, R72). -/
def sendFrame (s : State) : State :=
  let words := (List.range s.legend.boards.length).map (boardWord s)
  let t := (List.range 32).foldl (fun u b => modBank b (fun v =>
    { v with enable := chainEnable s b, setting := if chainEnable s b then settingOf s b % 1024 else 0,
             windowOutcome := none }) u) s
  modChain (fun c => { c with
    frame := words, frameAt := some (frameStart s), count := (c.count + 1) % 4, sent := true, window := windowRuns s, visited := [], slotLit := false, muxLost := [] }) t

/-- TRAVERSE_FRAME. -/
def execTraverseFrame (dt : Nat) (s : State) : Out :=
  let t := advance dt s
  .next (when_ (inGap t && !t.chain.sent && decide (frameStart t ≤ t.now) && lineFree t) sendFrame t)

/-! ## The diagnostic window -/

/-- A diagnostic pulse that was cut at `len` leaves the board's multiplexer behind or unknown when it was shorter than 22 ns
(R75). -/
def muxAfter (len : Nat) : Bool := decide (len < ns 22)

/-- The coincidence events of a channel from the diagnostic fire instant to t_ref, its gate set as for the coming sheet; the
counter saturates at 255 (R73, R87, R105).  `firings` are SPADs with taps since the slot's start, the 2 us before the fire
instant among them; an event before the slot leaves the gate blind into it. -/
def diagEvents (s : State) (k c : Nat) (firings : List (Nat × Nat)) : Nat :=
  let w := trimWord s c
  let m := modeTable s (comingMode s)
  let l := sortBy (fun f g => decide (f.2 < g.2)) (firings.filter (fun f => decide (f.2 ≤ us 2 + ns (boardTypeAt s k).tRef)))
  let armed := match (chanOf s c).lastEvent with
    | none => 0
    | some e => if e < slotStart s then e + ns 3 - slotStart s else 0
  min 255 (gateEvents w (kEff m.k (stepOf w)) (tauTaps m) (us 2) l armed [])

/-- The short check: ISNS is sampled high within 2 us of the slot's start (R73). -/
def shortSeen (high : List Nat) : Bool := high.any (fun x => decide (x ≤ us 2))

/-- The current-edge check: ISNS rises 2 ns to 40 ns after the fire instant (R73). -/
def edgeSeen (rises : List Nat) : Bool := rises.any (fun x => decide (us 2 + ns 2 ≤ x ∧ x ≤ us 2 + ns 40))

/-- The length at which the pulse of the present slot was cut, if it was (R55, R75): the pads' own, or the one measured at the
balls. -/
def slotCut (b : Nat) (measured : Option Nat) (s : State) : Option Nat :=
  match s.pulses.find? (fun p => decide (p.bank = b ∧ p.at_ = padEdge s b (diagFire s) ∧ p.width < ns 40)) with
  | none => none
  | some p => some (measured.getD p.width)

/-- The outcome of Table 3.7; a sense fault voids the short check (R76). -/
def slotOutcome (sense short edge light : Bool) : Nat :=
  if short && !sense then 4
  else if edge && light then 0
  else if edge then 2
  else if light then 3
  else 1

/-- The slot of a bank is over: its outcome, or not taken where a permit or a veto held it, a dip came or its pulse was cut
(R75, R309).  ISNS instants count from the slot's start; `measured` is the length at the balls of a pulse that was cut. -/
def takeSlot (b : Nat) (high rises : List Nat) (firings : List (List (Nat × Nat))) (measured : Option Nat) (s0 : State) : State :=
  let s := lightDiag s0
  let k := boardOf s b
  let cut := slotCut b measured s
  let refl := (List.range 48).map (fun i => diagEvents s k (48 * b + i) (firings.getD i []))
  let taken := s.grat.outputs && padsPass s b && !dipInSlot s && cut.isNone && !s.chain.muxLost.contains k
  let light := decide ((boardTypeAt s k).nRef ≤ refl.countP (fun n => decide (0 < n)))
  let o := if taken then slotOutcome (bankOf s b).sense (shortSeen high) (edgeSeen rises) light else 5
  let t := if taken then (List.range 48).foldl (fun u i =>
    modChan (48 * b + i) (fun c => { c with diag := refl.getD i 0 }) u) s else s
  let t := modBank b (fun v => { v with windowOutcome := some o }) t
  modChain (fun c => { c with
    visited := c.visited ++ [b]
    slotLit := false
    muxLost := if (match cut with | none => false | some n => muxAfter n) && !c.muxLost.contains k then c.muxLost ++ [k]
      else c.muxLost }) t

/-- DIAGNOSTIC_SLOT: the next slot of the window is over; one that would end too late is not taken (R73, R74). -/
def execDiagnosticSlot (dt bank : Nat) (high rises : List Nat) (firings : List (List (Nat × Nat))) (measured : Option Nat)
    (s : State) : Out :=
  let t := advance dt s
  need (decide (bank < 32) && decide (firings.length = 48) && firings.all (fun l => l.all (fun f => decide (f.1 < 16))))
    (when_ (inGap t && t.chain.window && ((slotsLeft t).head? == some bank) && decide (slotEnd t ≤ t.now) && slotFits t)
      (takeSlot bank high rises firings measured) t)

/-- The judgement of one bank at the close of a window (R76, R78). -/
def judgeBank (v : Bank) : Bank :=
  match v.windowOutcome with
  | none => v
  | some o =>
    if o = 5 then { v with windowOutcome := none, outcome := 5 }
    else
      let run := if o = v.last then v.run + 1 else 1
      { v with
        windowOutcome := none
        outcome := o
        last := o
        run := min run 15
        sense := if o = 3 ∧ 2 ≤ run then true else if o = 0 ∧ 4 ≤ run then false else v.sense
        confirmed :=
          if o = 4 then some 3
          else if (o = 1 ∨ o = 2) ∧ 2 ≤ run ∧ v.base ≠ o then some o
          else if o = 0 ∧ 4 ≤ run ∧ (v.base = 1 ∨ v.base = 2) then some 0
          else v.confirmed }

/-- DIAGNOSTIC_WINDOW_CLOSE: outcomes are judged; slots that were not reached are not taken, and the next window starts
with the first board that was not completed (R74, R75); in Start a window with both permits counts (R79). -/
def closeWindow (s : State) : State :=
  let rest := slotsLeft s
  let t := rest.foldl (fun u b => modBank b (fun v => { v with outcome := 5 }) u) s
  let t := (List.range 32).foldl (fun u b => modBank b judgeBank u) t
  let t := modChain (fun c => { c with
    window := false, closed := some (slotStart s), startBoard := (match rest with | [] => 0 | b :: _ => boardOf s b), carryNext := !rest.isEmpty }) t
  if t.phase == .spinUp && bothPermits t then { t with seq := { t.seq with startWindows := t.seq.startWindows + 1 } }
  else t

/-- The window ends: after its last slot, or where the next would end too late (R74). -/
def windowEnds (s : State) : Bool :=
  s.chain.window && decide (slotStart s ≤ s.now) && ((slotsLeft s).isEmpty || !slotFits s)

/-- DIAGNOSTIC_WINDOW_CLOSE. -/
def execDiagnosticWindowClose (dt : Nat) (s : State) : Out :=
  let t := advance dt s
  .next (when_ (windowEnds t) closeWindow t)

end Sys2Proof.Machine
end

