-- ==== Sys2Proof/Machine/Receiver.lean ====
section
/-! DEFINITION. The receiver channels: coincidence gate, overload and recovery, time-to-digital conversion, the buffer
and its holding register, the near-zone line (R85 to R90, R98 to R105, R315; the DATUM copies of R357). -/

namespace Sys2Proof.Machine

open Sys2Proof

/-! ## Event times (R98, R99) -/

/-- m[p] of a channel: its tap map, or the uncalibrated one, 12.8 p + 6.4 rounded (R286, R347). -/
def tapCentre (s : State) (c p : Nat) : Nat :=
  match Table.getD [] s.calib.live.taps c with
  | [] => divRoundN (128 * p + 64) 10
  | l => l.getD p 0

/-- f_e = min(19, floor((20 m[p] + 128) / 256)) (R99). -/
def fineCode (s : State) (c p : Nat) : Nat := min 19 ((20 * tapCentre s c p + 128) / 256)

/-- Coarse count latched for an event now: the trim line delays the edge by a quarter tap a code (R99, Table 4.4). -/
def coarseOfEvent (s : State) (c : Nat) : Nat := localAt s (s.now + bits 8 0 (trimWord s c) / 4)

/-- e = 20 (C_e - C_f) + f_e - f_f - 64 (R99). -/
def eventTime (coarseE fineE coarseF fineF : Nat) : Int :=
  20 * ((coarseE : Int) - (coarseF : Int)) + (fineE : Int) - (fineF : Int) - 64

/-- The event time of an event of channel `c` captured at tap `p` now, against an arm command. -/
def eventOf (s : State) (c p : Nat) (a : Arm) : Int := eventTime (coarseOfEvent s c) (fineCode s c p) a.coarse a.fine

/-- The same in 1/16 taps, from the raw tap index with the candidate tap map of a run (R346, R357). -/
def fineReading (s : State) (r : Run) (c p : Nat) (a : Arm) : Int :=
  rawReading (tapMap (hitsOf r c)) p ((coarseOfEvent s c : Int) - (a.coarse : Int)) a.fine

/-- The channel counts in its windows: distinct unmasked SPADs among `fired` whose age satisfies `ok`. -/
def firedCount (w : Nat) (fired : List (Nat × Nat)) (ok : Nat → Bool) : Nat :=
  (List.range 16).countP (fun i => !masked w i && fired.any (fun f => decide (f.1 = i) && ok f.2))

/-! ## Buffer and holding register (R103, R104) -/

/-- Items of a holding register entry, its drop item first; `ov` marks after-overload (R89), `now` is the instant. -/
def entryItems (ov : Bool) (now : Nat) (h : HoldEntry) : List Item :=
  let flag : Word64 := if ov then 1#64 <<< 62 else 0
  (if h.tally = 0 then [] else [{ kind := 1, word := h.tag ||| BitVec.ofNat 64 (h.tally <<< 46) ||| flag, at_ := now }]) ++
    (match h.endDue with
     | none => []
     | some n => [{ kind := 2, word := h.tag ||| BitVec.ofNat 64 (n <<< 46) ||| flag, at_ := now }])

/-- What is left of an entry when its first item has gone: its end item, where one is due. -/
def entryRest (h : HoldEntry) : Option HoldEntry :=
  if h.tally ≠ 0 ∧ h.endDue.isSome then some { h with tally := 0 } else none

/-- Place held items into the buffer while it has room, `n` at most; after-overload is judged as they are placed
(notes/assumptions/48.md). -/
def flushHold (ov : Bool) (now : Nat) : Nat → Chan → Chan
  | 0, c => c
  | n + 1, c =>
    if 8 ≤ c.buffer.length then c
    else
      match c.hold with
      | [] => c
      | h :: r =>
        match entryItems ov now h with
        | [] => flushHold ov now n { c with hold := r }
        | i :: _ => flushHold ov now n { c with
            buffer := c.buffer ++ [i]
            hold := (match entryRest h with | none => r | some h' => h' :: r) }

/-- Ten entries of two items each at most. -/
def flush (ov : Bool) (now : Nat) (c : Chan) : Chan := flushHold ov now 20 c

/-- Context number in a tag. -/
def tagCtx (w : Word64) : Nat := bits 45 32 w.toNat

/-- Update the holding register's entry of a tag's context, making it where there is none; the tag stays
that of the item that first wrote the entry (notes/assumptions/48.md). -/
def holdUpd (tag : Word64) (f : HoldEntry → HoldEntry) : List HoldEntry → List HoldEntry
  | [] => [f { tag := tag, tally := 0, endDue := none }]
  | h :: r => if tagCtx h.tag = tagCtx tag then f h :: r else h :: holdUpd tag f r

/-- Is the channel in recovery now (R88)? -/
def inRecovery (s : State) (c : Chan) : Bool := match c.recovery with | none => false | some r => decide (s.now < r)

/-- Is there room for an item converted now: nothing is held back and the buffer is not full? -/
def hasRoom (c : Chan) : Bool := c.hold.isEmpty && decide (c.buffer.length < 8)

/-- A converted event enters the buffer, or is dropped into the tally of its context (R104). -/
def pushEvent (ov : Bool) (now e : Nat) (tag : Word64) (c0 : Chan) : Chan × Bool :=
  let c := flush ov now c0
  if hasRoom c then
    ({ c with buffer := c.buffer ++
        [{ kind := 0, word := tag ||| BitVec.ofNat 64 (e <<< 46) ||| (if ov then 1#64 <<< 62 else 0), at_ := now }] }, false)
  else ({ c with hold := holdUpd tag (fun h => { h with tally := min 65535 (h.tally + 1) }) c.hold }, true)

/-- The end item of a context enters the buffer, or is marked in its entry (R104). -/
def pushEnd (ov : Bool) (now n : Nat) (tag : Word64) (c0 : Chan) : Chan :=
  let c := flush ov now c0
  if hasRoom c then
    { c with buffer := c.buffer ++
        [{ kind := 2, word := tag ||| BitVec.ofNat 64 (min n 256 <<< 46) ||| (if ov then 1#64 <<< 62 else 0),
           at_ := now }] }
  else { c with hold := holdUpd tag (fun h => { h with endDue := some (min n 256) }) c.hold }

/-! ## Events -/

/-- The DATUM run's copy of an event (R357 steps 3 and 4): readings within S_D +- 8 ns. -/
def datumCopy (ch tap : Nat) (a : Arm) (s : State) : State :=
  match s.calib.run with
  | none => s
  | some r =>
    let reading := fineReading s r ch tap a
    let n := r.pairs.length
    if r.kind = 4 ∧ (n * reading - r.pairs.sum).natAbs ≤ 16 * 256 * n then
      if r.step = 3 then
        { s with calib := { s.calib with run := some { r with
            flood := tableUpd [] r.flood ch (fun l => l ++ [reading]) } } }
      else if r.step = 4 then
        { s with calib := { s.calib with run := some { r with
            walkNow := tableUpd (0, 0, 0) r.walkNow (ch / 48) (fun w => (w.1, w.2.1 + 1, w.2.2 + reading)) } } }
      else s
    else s

/-- An event in the range window in force is converted, lost beyond the depth, or left out (R100, R102, R24);
none while the TDC outputs are stopped (R119). -/
def convert (ch tap : Nat) (s : State) : State :=
  let c := chanOf s ch
  match c.arm with
  | none => s
  | some a =>
    let e := eventOf s ch tap a
    if !s.grat.outputs ∨ s.now < a.fire ∨ a.stop ≤ s.now ∨ e < 0 ∨ ((ns (modeTable s s.seq.mode).w : Nat) : Int) ≤ e then s
    else if 8 ≤ a.converted then count (.overDepth ch) 1 s
    else
      let s1 := datumCopy ch tap a s
      let c1 := { c with arm := some { a with converted := a.converted + 1 } }
      if a.noCtx then count (.contextDrops ch) 1 (setChan ch c1 s1)
      else
        let x := tagCtx a.tag
        let c2 := { c1 with converted := Table.put c1.converted x (Table.getD 0 c1.converted x + 1) }
        let (c3, dropped) := pushEvent (inRecovery s c) s.now e.toNat a.tag c2
        let t := setChan ch c3 s1
        if dropped then count (.tdcDrops ch) 1 t else t

/-- Does the gate declare an event at this firing (R85, R86)? -/
def gateDeclares (s : State) (ch : Nat) (fired : List (Nat × Nat)) : Bool :=
  let w := trimWord s ch
  let c := chanOf s ch
  let k := kEff (tableNow s).k (stepOf w)
  let armed := match c.lastEvent with | none => 0 | some e => e + ns 3
  fired.any (fun f => decide (f.2 = 0) && !masked w f.1) && decide (armed ≤ s.now) && decide (k ≤ unmaskedCount w) &&
    decide (k ≤ firedCount w fired (fun age => decide (age ≤ tauTaps (tableNow s) ∧ armed + age ≤ s.now)))

/-- Note a declared event: the gate is blind from now, and the pre-window counts it (R85, R105). -/
def noteEvent (ch : Nat) (s : State) : State :=
  modChan ch (fun c => { c with lastEvent := some s.now, recent := (s.now :: c.recent).take 36 }) s

/-- The blank of R88: the fire instant to the fire instant plus t_blank. -/
def blanked (s : State) (c : Chan) : Bool :=
  match c.arm with
  | none => false
  | some a => decide (a.fire ≤ s.now ∧ s.now ≤ a.fire + 16 * (tableNow s).tBlank)

/-- Does this firing complete an overload (R88)? -/
def overloads (s : State) (ch : Nat) (fired : List (Nat × Nat)) : Bool :=
  let w := trimWord s ch
  fired.any (fun f => decide (f.2 = 0) && !masked w f.1) && !blanked s (chanOf s ch) &&
    decide ((tableNow s).lOv ≤ firedCount w fired (fun age => decide (age ≤ tauTaps (tableNow s))))

/-- OVERLOAD_ENTRY: recovery begins or is restarted; an entry counts (R88, Table 4.9). -/
def overloadEntry (ch : Nat) (s : State) : State :=
  let c := chanOf s ch
  let t := setChan ch { c with recovery := some (s.now + ns (tableNow s).tRec) } s
  if inRecovery s c then t else count (.overloadEntries ch) 1 t

/-- One firing: the gate, then the overload, whose recovery begins just after the firing (R85, R88). -/
def firing (ch : Nat) (fired : List (Nat × Nat)) (tap : Nat) (s : State) : State :=
  let t := if gateDeclares s ch fired then noteEvent ch (convert ch tap s) else s
  if overloads s ch fired then overloadEntry ch t else t

/-- COINCIDENCE_EVENT. -/
def execCoincidenceEvent (dt channel : Nat) (fired : List (Nat × Nat)) (tap : Nat) (s : State) : Out :=
  need (decide (channel < 1536) && fired.all (fun f => decide (f.1 < 16)) && decide (tap < 20))
    (firing channel fired tap (passPre channel (advance dt s)))

/-! ## Range windows (R100, R101, R103, R147) -/

/-- The end item of a context, with the count of its windows (R103). -/
def sendEnd (s : State) (tag : Word64) (c : Chan) : Chan :=
  let x := tagCtx tag
  let d := pushEnd (inRecovery s c) s.now (Table.getD 0 c.converted x) tag c
  { d with converted := Table.del d.converted x }

/-- The range window is over: an end item after the last shot, those that close commands ask for (R147), and the
waiting arm command takes over. -/
def endWindow (s : State) (a : Arm) (c : Chan) : Chan :=
  let d := if a.last && !a.noCtx then sendEnd s a.tag c else c
  let d := a.closing.foldl (fun d tag => sendEnd s tag d) d
  { d with arm := d.next, next := none }

/-- End the window in force if its time has come. -/
def windowEnd (ch : Nat) (s : State) : State :=
  let c := chanOf s ch
  match c.arm with
  | none => s
  | some a => if a.stop ≤ s.now then setChan ch (endWindow s a c) s else s

/-- RANGE_WINDOW_END. -/
def execRangeWindowEnd (dt channel : Nat) (s : State) : Out :=
  need (decide (channel < 1536)) (windowEnd channel (passPre channel (advance dt s)))

/-- RECOVERY_END (R88). -/
def execRecoveryEnd (dt channel : Nat) (s : State) : Out :=
  need (decide (channel < 1536))
    (let t := passPre channel (advance dt s)
     match (chanOf t channel).recovery with
     | none => t
     | some r => if r ≤ t.now then modChan channel (fun c => { c with recovery := none, recovered := some r }) t else t)

/-- HOLDING_REGISTER_FLUSH (R104). -/
def execHoldingRegisterFlush (dt channel : Nat) (s : State) : Out :=
  need (decide (channel < 1536))
    (let t := passPre channel (advance dt s)
     modChan channel (fun c => flush (inRecovery t c) t.now c) t)

/-! ## Near zone (R315) -/

/-- The calibration set of a parity (R186). -/
def setOf (s : State) (parity : Bool) : CalSet := if parity then s.calib.set1 else s.calib.set0

/-- Walk table and range zero of a bank: an image override replaces them in every set (R281); zeros where the set lists
none (R286). -/
def walkOf (s : State) (parity : Bool) (b : Nat) : List Int × Int :=
  match s.legend.overrides.find? (fun o => decide (o.1 = b)) with
  | some o => (o.2.walk, o.2.zero)
  | none => (Table.getD [] (setOf s parity).walk b, Table.getD 0 (setOf s parity).zero b)

/-- round(Z_b / 16) of the bank that lights a channel, halves away from zero. -/
def nearOrigin (s : State) (ch : Nat) : Int :=
  divRound (walkOf s (parityNow s) (ch / 48)).2 16

/-- The line is raised: L_ov unmasked SPADs within tau, the last of them now, in the gate 21 to 107 above Z_b / 16; `last` is the
event time of that firing. -/
def nearRaised (s : State) (ch : Nat) (fired : List (Nat × Nat)) : Bool :=
  let w := trimWord s ch
  let times := (fired.filter (fun f => !masked w f.1)).map (·.2)
  let last := times.foldl max 0
  let d : Int := (last : Int) - nearOrigin s ch
  !times.isEmpty &&
    decide ((tableNow s).lOv ≤ firedCount w fired (fun t => decide (last ≤ t + tauTaps (tableNow s)))) &&
    decide (21 ≤ d ∧ d ≤ 107)

/-- Set the bank's veto in one channel until the next pulse requested. -/
def setNearVeto (b : Nat) (c : SafeCh) : SafeCh :=
  { c with nearVeto := if c.nearVeto.contains b then c.nearVeto else c.nearVeto ++ [b],
           nears := Table.put c.nears b (Table.getD 0 c.nears b + 1) }

/-- NEAR_ZONE_LINE: both safety channels set the bank's veto. -/
def nearZone (b : Nat) (s : State) : State :=
  if s.safety.a.nearVeto.contains b && s.safety.b.nearVeto.contains b then s
  else count (.nearVetoes b) 1 (modSide .b (setNearVeto b) (modSide .a (setNearVeto b) s))

/-- NEAR_ZONE_LINE. -/
def execNearZoneLine (dt channel : Nat) (fired : List (Nat × Nat)) (s : State) : Out :=
  need (decide (channel < 1536) && fired.all (fun f => decide (f.1 < 16)))
    (when_ ((chanOf s channel).arm.isSome && nearRaised s channel fired) (nearZone (channel / 48)) (advance dt s))

end Sys2Proof.Machine
end

