-- ==== Sys2Proof/Machine/Fire.lean ====
section
/-! DEFINITION. Bearing periods, shot slots and close commands (R24, R42, R45, R47, R48, R80, R100, R135, R137, R147,
R299, R300, R425). -/

namespace Sys2Proof.Machine

open Sys2Proof

def modSeq (f : Seq → Seq) (s : State) : State := { s with seq := f s.seq }

/-- The fire table in the active buffer (R39). -/
def activeTable (s : State) : Table Nat := if s.seq.active1 then s.seq.buf1.2 else s.seq.buf0.2

/-! ## Bearing periods -/

/-- Firing may go on: nothing has stopped it, and the device is in a mode (R299, R424). -/
def mayFire (s : State) : Bool := s.phase == .mode && !s.seq.stopped && !s.seq.dipStop && !s.supply.dip

/-- What lets stopped firing resume at period 0 (Table 12.3): at its boundary both permits were asserted, the outputs ran
and no bias fault stood, and none of it has changed since. -/
def mayResume (s : State) : Bool := bothPermits s && s.seq.resumeOk

/-- The next period, none when the sweep is over. -/
def nextPeriod (k : Nat) (p : Option Nat) : Option Nat :=
  match p with
  | none => some 0
  | some p => if p + 1 < k then some (p + 1) else none

/-- Resume firing: at period 0 after a stop, at any period after a dip (R310, R425, Table 12.3). -/
def resumeFiring (p : Nat) (s : State) : State :=
  let q := s.seq
  let s1 := modSeq (fun q => { q with stopped := if p = 0 then !(mayResume s) else q.stopped }) s
  if q.dipStop && !s.supply.dip then modSeq (fun q => { q with dipStop := false, fireFrom := p }) s1 else s1

/-- An engine's gap ends with no test completed: it counts as skipped (R152). -/
def skipTest (s : State) (e : Nat) : State :=
  let v := engineOf s e
  if v.st = 3 ∨ v.tested then s else count (.testsSkipped e) 1 s

/-- A facet gap ends, if one was open. -/
def closeGap (s : State) : State :=
  let t := if inGap s then (List.range 68).foldl skipTest s else s
  { t with survey := { t.survey with engines := t.survey.engines.map (fun e => (e.1, { e.2 with tested := false })) } }

/-- A bearing period begins (R31, R42): outputs are published (R165), firing may resume, restarts of the boundary take
effect at period 0 (R173), and every fourth period from period 4 starts a round (R164).  In Safe stop only the sweep of
the sheet that was open goes on. -/
def startPeriod (p : Nat) (s : State) : State :=
  let t := modSeq (fun q => { q with period := some p, periodStart := slotAt s (tableNow s) p 0, slot := 0 })
    (if p = 0 then closeGap s else s)
  if s.phase == .mode then
    let t := resumeFiring p (publish t)
    let t := if p = 0 then ambientPeriodZero t else t
    if 4 ≤ p ∧ p % 4 = 0 then startRound (some p) t else t
  else t

/-- The sweep of a sheet goes on: in a mode, and in Safe stop for the sheet that was open at its entry (R300). -/
def sweeping (s : State) : Bool := (s.phase == .mode || s.phase == .safeStop) && s.seq.sheetOpen

/-- The period that begins now: the next one, once every slot of the one before has begun (R43) and the bearing clock has
reached it (R31). -/
def periodDue (s : State) : Option Nat :=
  match nextPeriod (periods (tableNow s)) s.seq.period with
  | none => none
  | some p =>
    if sweeping s && (s.seq.period.isNone || decide ((tableNow s).q ≤ s.seq.slot)) && slotReached s (tableNow s) p 0
    then some p else none

/-- BEARING_PERIOD_START. -/
def execBearingPeriodStart (dt : Nat) (s : State) : Out :=
  let t := advance dt s
  .next (match periodDue t with
    | none => t
    | some p => startPeriod p t)

/-! ## Channels of a bank -/

/-- A group takes part: enabled in the sheet state and not lost (R100, R155). -/
def groupOn (s : State) (g : Nat) : Bool := bit g (sheetState s).groups && !s.survey.lost.contains g

/-- The channels of a bank whose group takes part (R4). -/
def bankChans (s : State) (b : Nat) : List Nat :=
  ((List.range 48).map (fun i => 48 * b + i)).filter (fun c => groupOn s (c / 24))

/-- The engine that a group's items go to: the one that serves it, or the failed one whose spare it awaits. -/
def engineOfGroup (s : State) (g : Nat) : Nat :=
  ((List.range 68).find? (fun e => decide ((engineOf s e).group = some g))).getD g

/-- Context of a channel at a bearing (R129). -/
def ctxNumber (c β : Nat) : Nat := 10 * c + β % 10

/-- A tag of Table 1.4 with event time zero. -/
def tagWord (ctx shot mode : Nat) (parity : Bool) (bearing channel : Nat) : Word64 :=
  BitVec.ofNat 64 (field 14 32 ctx + field 5 27 shot + field 3 24 mode + field 1 23 (b2n parity) + field 12 11 bearing +
    field 11 0 channel)

/-! ## Markers (R24, R135, R137, R150) -/

/-- A marker for a channel's point at a bearing. -/
def markerFor (s : State) (kind c β planned openTime : Nat) : Marker :=
  let v := ambOf s c
  { kind := kind, ctx := ctxNumber c β, channel := c, bearing := β, parity := parityNow s, mode := s.seq.mode,
    planned := planned, openTime := openTime % 2 ^ 48, estimate := v.estimate, settled := v.settled,
    restarting := v.restarting, reassigned := false }

/-- The packetiser learns of a point of the open sheet (R205). -/
def pointDue (c β : Nat) (s : State) : State :=
  modSheetOut s.seq.sheet (fun o => { o with due := o.due ++ [(c / 24, β, c)] }) s

/-- Send a marker of `kind` to the engine of the channel's group; where the context has not been returned, a no-context
marker takes its place (R24), which keeps the unlit flag of an unlit one (R9, R80). -/
def sendMarker (kind c β planned openTime : Nat) (s : State) : State :=
  let x := ctxNumber c β
  let free := (ctxOf s x).ph == .free
  let m := markerFor s (if free then kind else 2 + kind) c β planned openTime
  let e := engineOfGroup s (c / 24)
  let t := pointDue c β (modEngine e (fun v => { v with markers := v.markers ++ [m] }) s)
  if free then modCtx x (fun v => { v with ph := .marked, channel := c, bearing := β, parity := m.parity }) t
  else if kind = 0 then modChan c (fun v => { v with noCtx := v.noCtx ++ [β] }) t
  else t

/-- Instant of a bank's shot without dither: slot start plus stagger position (R46). -/
def staggered (s : State) (start b : Nat) : Nat := start + staggerPos s b * (ns (tableNow s).stagger + ns 500)

/-- Unlit markers of one failed bank for the bearing that begins (R80, R137). -/
def unlitBank (β start : Nat) (s : State) (b : Nat) : State :=
  let n := shotsAt (activeTable s) (tableNow s) (sheetState s).cap b β
  if bit b s.seq.failedMask && decide (0 < n) then
    (bankChans s b).foldl (fun t c => sendMarker 1 c β n (localAt s (staggered s start b)) t) s
  else s

/-! ## Shots -/

/-- One shift of a dither register (R48). -/
def ditherStep (v : BitVec 23) : BitVec 23 := (v <<< 1) ||| (if v.getLsbD 22 ^^ v.getLsbD 17 then 1#23 else 0#23)

/-- The register after the 23 steps of a shot. -/
def ditherAfter (v : BitVec 23) : BitVec 23 := (List.range 23).foldl (fun w _ => ditherStep w) v

/-- Dither in taps: floor(v x 16,001 / 2^23) (R48). -/
def ditherTaps (v : BitVec 23) : Nat := v.toNat * 16001 / 2 ^ 23

/-- The shot that a slot assigns to a bank (R42). -/
def assigned (s : State) (p q b : Nat) : Option Shot :=
  match bearingOf (tableNow s) p q with
  | none => none
  | some β =>
    let n := shotsAt (activeTable s) (tableNow s) (sheetState s).cap b β
    if bit b (sheetState s).banks && decide (q < n) then
      let e := (entryAt (activeTable s) b β).getD 0
      let v := bankOf s b
      let at_ := staggered s (slotAt s (tableNow s) p q) b + ditherTaps (ditherAfter v.dither)
      let fire := match v.lastPulse with | none => at_ | some l => max at_ (l + us 4)
      some { bank := b, bearing := β, q := q, planned := n, fire := fire, width := widthTaps (entryWidth e),
             before := v.lastPulse }
    else none

/-- The shots of a slot, bank by bank. -/
def slotShots (s : State) (p q : Nat) : List Shot := (List.range 32).filterMap (assigned s p q)

/-- Shots in the order in which they are fired. -/
def inOrder (l : List Shot) : List Shot := sortBy (fun x y => decide (x.fire < y.fire)) l

/-- Arm a channel for a shot (R100): a window in force ends at the start of the new pre-window (R47). -/
def armChan (x : Shot) (c : Nat) (s : State) : State :=
  let t := passPre c s
  let v := chanOf t c
  let no := v.noCtx.contains x.bearing
  let last := decide (x.q + 1 = x.planned)
  let a : Arm :=
    { fire := x.fire, coarse := localAt t x.fire, fine := fineAt t x.fire, stop := x.fire + ns (tableNow t).w,
      tag := tagWord (ctxNumber c x.bearing) x.q t.seq.mode (parityNow t) x.bearing c,
      shot := x.q, last := last, closing := [], converted := 0, noCtx := no, preDone := false }
  let v := match v.arm, v.next with
    | some o, some _ => endWindow t o v
    | _, _ => v
  let v := { v with noCtx := if last then v.noCtx.filter (· ≠ x.bearing) else v.noCtx }
  setChan c (match v.arm with
    | none => { v with arm := some a }
    | some o => { v with arm := some { o with stop := min o.stop (x.fire - ns 100) }, next := some a }) t

/-- A requested pulse clears the near-zone veto when it has ended (R315). -/
def clearNear (b : Nat) (c : SafeCh) : SafeCh := { c with nearVeto := c.nearVeto.filter (· ≠ b) }

/-- Count the loop readings that the flood and walk steps of a Datum run may expect (R357). -/
def walkShots (b n : Nat) (s : State) : State :=
  match s.calib.run with
  | some r =>
    if r.kind = 4 ∧ r.step = 4 then
      { s with calib := { s.calib with run := some { r with
          walkNow := tableUpd (0, 0, 0) r.walkNow b (fun w => (w.1 + n, w.2.1, w.2.2)) } } }
    else if r.kind = 4 ∧ r.step = 3 then
      { s with calib := { s.calib with run := some { r with floodShots := tableUpd 0 r.floodShots b (· + n) } } }
    else s
  | none => s

/-- The generator starts the pulse: it reaches the pads unless a veto or a permit holds it; the channels are armed
either way, and a vetoed shot counts as taken (R45, R100, R315). -/
def requestPulse (x : Shot) (s : State) : State :=
  let b := x.bank
  let t := if padsPass s b
    then { s with pulses := s.pulses ++ [{ bank := b, at_ := padEdge s b x.fire, width := x.width, code := some (bankOf s b).code }] } else s
  let t := modSeq (fun q => { q with shots := q.shots ++ [x] }) (modSide .b (clearNear b) (modSide .a (clearNear b) t))
  let t := modBank b (fun v => { v with
    lastPulse := some x.fire
    opened := if x.q + 1 = x.planned then Table.del v.opened x.bearing else Table.put v.opened x.bearing (x.q + 1) }) t
  (bankChans t b).foldl (fun u c => armChan x c u) (walkShots b (bankChans t b).length t)

/-- The open markers of a shot 0, or the markers of points without a context (R24, R135). -/
def openPoints (x : Shot) (s : State) : State :=
  (bankChans s x.bank).foldl (fun t c => sendMarker 0 c x.bearing x.planned (localAt s x.fire) t) s

/-- One assigned shot: shot 0 opens its points; a bearing that was closed early stays empty; where firing is stopped,
the points of a shot 0 are counted as not opened (R300, R314). -/
def fireShot (x : Shot) (s : State) : State :=
  let opened := tableHas (bankOf s x.bank).opened x.bearing && decide (s.seq.fireFrom ≤ x.bearing)
  if x.q = 0 then
    let t := if mayFire s then energyCheck .b x.bank x.fire (energyCheck .a x.bank x.fire s) else s
    if mayFire t then requestPulse x (openPoints x t)
    else count .bearingsNotOpened (bankChans t x.bank).length t
  else if mayFire s && opened then
    let t := energyCheck .b x.bank x.fire (energyCheck .a x.bank x.fire s)
    if mayFire t then requestPulse x t else t
  else s

/-- Advance the dither registers of the banks that have a shot in this slot (R48). -/
def advanceDither (l : List Shot) (s : State) : State :=
  l.foldl (fun t x => modBank x.bank (fun v => { v with dither := ditherAfter v.dither }) t) s

/-- The shots of slot `q` of period `p`. -/
def fireSlot (p q : Nat) (s : State) : State :=
  let l := inOrder (slotShots s p q)
  let s1 := if q = 0 ∧ p < (tableNow s).nb ∧ s.phase = .mode
    then (List.range 32).foldl (unlitBank p (slotAt s (tableNow s) p 0)) s else s
  l.foldl (fun t x => fireShot x t) (advanceDither l { s1 with
    pulses := s1.pulses.filter (fun x => decide (s1.now < x.at_ + x.width))
    seq := { s1.seq with shots := s1.seq.shots.filter (fun x => decide (s1.now < x.fire)) } })

/-- The slot that begins now: the next of the period, once the bearing clock has reached it (R31, R42). -/
def slotDue (s : State) : Option (Nat × Nat) :=
  match s.seq.period with
  | none => none
  | some p =>
    if sweeping s && decide (s.seq.slot < (tableNow s).q) && slotReached s (tableNow s) p s.seq.slot
    then some (p, s.seq.slot) else none

/-- SHOT_SLOT: the next slot of the period begins. -/
def execShotSlot (dt : Nat) (s : State) : Out :=
  .next (watchSafety (fun t =>
    match slotDue t with
    | none => t
    | some (p, q) => modSeq (fun v => { v with slot := v.slot + 1 }) (fireSlot p q t)) (advance dt s))

/-! ## Close commands (R147, R299) -/

/-- Note the close command of a context at its engine: the first one counts (Table 17.3). -/
def noteClose (cause taken x : Nat) (s : State) : State :=
  let v := ctxOf s x
  if (v.ph == .marked || v.ph == .opened) && v.closeCmd.isNone then
    setCtx x { v with closeCmd := some (cause, taken) } s
  else s

/-- An end item answers the close command after any range window still running (R147). -/
def closeChan (s : State) (tag : Word64) (c : Chan) : Chan :=
  match c.arm, c.next with
  | none, _ => sendEnd s tag c
  | some _, some n => { c with next := some { n with closing := n.closing ++ [tag] } }
  | some a, none => { c with arm := some { a with closing := a.closing ++ [tag] } }

/-- The close command of one open bearing of a bank's channel. -/
def closePoint (cause taken c β : Nat) (s : State) : State :=
  if (chanOf s c).noCtx.contains β then modChan c (fun v => { v with noCtx := v.noCtx.filter (· ≠ β) }) s
  else
    let t := noteClose cause taken (ctxNumber c β) s
    modChan c (closeChan t (tagWord (ctxNumber c β) (taken - 1) t.seq.mode (parityNow t) β c)) t

/-- A context whose last range window is still running is closed by that window's end item (R147, R299). -/
def closeRunning (cause c : Nat) (s : State) : State :=
  let note (a : Option Arm) (t : State) : State :=
    match a with
    | none => t
    | some a => if a.last && !a.noCtx then noteClose cause (a.shot + 1) (tagCtx a.tag) t else t
  note (chanOf s c).next (note (chanOf s c).arm s)

/-- Close every open context of a bank. -/
def closeBank (cause : Nat) (s : State) (b : Nat) : State :=
  let t := (bankOf s b).opened.foldl (fun u e =>
    (bankChans u b).foldl (fun w c => closePoint cause e.2 c e.1 w) u) s
  let t := (bankChans t b).foldl (fun u c => closeRunning cause c u) t
  modBank b (fun v => { v with opened := [] }) t

/-- The close commands that are due are sent. -/
def closePending (s : State) : State :=
  match s.seq.stop with
  | none => s
  | some st => modSeq (fun q => { q with stop := none }) ((List.range 32).foldl (closeBank st.cause) s)

/-- CLOSE_COMMAND: firing has stopped inside a sheet, and every open context receives its close command. -/
def execCloseCommand (dt : Nat) (s : State) : Out := .next (closePending (advance dt s))

end Sys2Proof.Machine
end

