-- ==== Sys2Proof/Machine/Tracker.lean ====
section
/-! DEFINITION. What an event does inside a context: coarse and fine bins, the peak tracker, window placement, the foreign
count (R132, R133, R138 to R143, R180), and the context as bytes (Tables 6.2 and 6.3). -/

namespace Sys2Proof.Machine

open Sys2Proof

/-! ## Blocks (R132, R133) -/

/-- Bits of the block map for a write to bytes `x` and `x + 1` of a context. -/
def blockBits (x : Nat) : Nat := (1 <<< (x / 64 - 1)) ||| (1 <<< ((x + 1) / 64 - 1))

/-- First byte that bin `i` of a run starting at byte `base` touches. -/
def binByte (base i : Nat) : Nat := base + 3 * (i / 2) + i % 2

/-- Block map after a write to coarse bin `n`. -/
def coarseBlocks (n blocks : Nat) : Nat := blocks ||| blockBits (binByte 256 n)

/-- Block map after a write to fine bin `f` of window `j`. -/
def fineBlocks (j f blocks : Nat) : Nat := blocks ||| blockBits (binByte (64 + 48 * j) f)

/-! ## The peak tracker (R139) -/

def peakAt (l : List Peak) (j : Nat) : Peak := l.getD j {}

/-- Entries in order that satisfy `p`. -/
def peaksWhere (p : Peak → Bool) (l : List Peak) : List Nat := (List.range 4).filter (fun j => p (peakAt l j))

/-- Do two bins lie one apart? -/
def adjacent (a b : Nat) : Bool := decide (a + 1 = b ∨ b + 1 = a)

/-- Of the listed entries the one with the least of a key; the first of equals. -/
def leastBy (key : Nat → Nat) : List Nat → Option Nat
  | [] => none
  | j :: r =>
    match leastBy key r with
    | none => some j
    | some k => if key k < key j then some k else some j

/-- An entry moves to bin `n`; a second entry one bin away is merged with it. -/
def moveEntry (n v j : Nat) (l : List Peak) : List Peak × Option Nat :=
  let l1 := l.set j { valid := true, bin := n, value := v }
  match peaksWhere (fun p => p.valid && adjacent p.bin n) l1 with
  | [] => (l1, some j)
  | k :: _ =>
    let pk := peakAt l1 k
    if v < pk.value ∨ (v = pk.value ∧ pk.bin < n) then (l1.set j { peakAt l1 j with valid := false }, none)
    else (l1.set k { pk with valid := false }, some j)

/-- The tracker after coarse bin `n` has reached `v`: the list, and the entry that became valid at, or was set to, the
bin. -/
def track (n v : Nat) (l : List Peak) : List Peak × Option Nat :=
  match peaksWhere (fun p => p.valid && decide (p.bin = n)) l with
  | j :: _ => (l.set j { peakAt l j with value := v }, none)
  | [] =>
    match leastBy (fun j => (peakAt l j).bin) (peaksWhere (fun p => p.valid && adjacent p.bin n) l) with
    | some j => if (peakAt l j).value < v then moveEntry n v j l else (l, none)
    | none =>
      match peaksWhere (fun p => !p.valid) l with
      | j :: _ => (l.set j { valid := true, bin := n, value := v }, some j)
      | [] =>
        match leastBy (fun j => (peakAt l j).value * 1024 + (1023 - (peakAt l j).bin)) [0, 1, 2, 3] with
        | none => (l, none)
        | some m => if (peakAt l m).value < v then (l.set m { valid := true, bin := n, value := v }, some m) else (l, none)

/-! ## Windows (R140 to R142) -/

/-- Coarse bin `n` of a context; outside 0 to 1,023 it reads 0. -/
def coarseAt (x : Ctx) (n : Int) : Nat := if n < 0 ∨ 1023 < n then 0 else Table.getD 0 x.coarse n.toNat

/-- Offset o of R140. -/
def peakOffset (x : Ctx) (b : Nat) : Int :=
  let h : Nat := coarseAt x b
  let d : Int := (coarseAt x ((b : Int) + 1) : Int) - (coarseAt x ((b : Int) - 1) : Int)
  if h = 0 then 0 else clampI (-32) 32 (divRound (64 * d) (2 * h))

/-- Start z of a window around bin `b` (R140). -/
def windowStart (x : Ctx) (b : Nat) : Nat := (clampI 0 32736 ((64 * (b : Int) + 32 + peakOffset x b - 32) / 2)).toNat

/-- Does a window meet event times 64 b to 64 b + 63? -/
def covers (w : Win) (b : Nat) : Bool := w.valid && decide (2 * w.z ≤ 64 * b + 63 ∧ 64 * b ≤ 2 * w.z + 63)

/-- Place window `j` of a context for bin `b` of the point's own context `x`. -/
def placeIn (x : Ctx) (b from_ j : Nat) (y : Ctx) : Ctx :=
  { y with wins := y.wins.set j { valid := true, z := windowStart x b, from_ := from_ } }

/-- Placement at the first item of shot 2 or more (R140): one window for each valid entry. -/
def placePrimary (q : Nat) (x : Ctx) : Ctx :=
  let y := (List.range 4).foldl (fun y j =>
    if (peakAt x.peaks j).valid then placeIn x (peakAt x.peaks j).bin q j y else y) x
  { y with placed := q }

/-- The windows of a context that an event falls in (R141). -/
def windowHits (x : Ctx) (q e : Nat) : List Nat :=
  (List.range 4).filter (fun j =>
    let w := x.wins.getD j {}
    w.valid && decide (w.from_ ≤ q ∧ 2 * w.z ≤ e ∧ e ≤ 2 * w.z + 63))

/-- The fine bin of window `j` that an event falls in gains `u` (R141, R143). -/
def fineAdd (u e : Nat) (x : Ctx) (j : Nat) : Ctx :=
  let f := (e - 2 * (x.wins.getD j {}).z) / 2
  let v := min 4095 (Table.getD 0 x.fine (32 * j + f) + u)
  { x with fine := Table.put x.fine (32 * j + f) v, blocks := fineBlocks j f x.blocks }

/-- The fine update of an event in one context: every window that holds it (R141). -/
def fineUpdate (u q e : Nat) (x : Ctx) : Ctx := (windowHits x q e).foldl (fineAdd u e) x

/-- Does any bin of a context stand at 4,095? -/
def fineFull (x : Ctx) : Bool := x.fine.any (fun p => decide (p.2 = 4095))

/-! ## One event (R138, R180) -/

/-- The coarse bin was zero before the present shot. -/
def zeroBefore (x : Ctx) (q n : Nat) : Bool :=
  decide (Table.getD 0 x.coarse n = 0) ||
    (match x.prev with | some (q0, _, _) => decide (q0 = q) && x.fresh.contains n | none => false)

/-- The foreign count of R180, and what is kept for the next event of the shot. -/
def foreignCheck (q e : Nat) (x : Ctx) : Ctx :=
  let n := e / 64
  let z := zeroBefore x q n
  let hit := match x.prev with
    | some (q0, e0, z0) => decide (2 ≤ q ∧ q0 = q ∧ e0 + 96 ≤ e ∧ e ≤ e0 + 128) && z0 && z
    | none => false
  let same := match x.prev with | some (q0, _, _) => decide (q0 = q) | none => false
  { x with foreign := if hit then min 65535 (x.foreign + 1) else x.foreign,
           prev := some (q, e, z),
           fresh := if same then (if z then n :: x.fresh else x.fresh) else if z then [n] else [] }

/-- The event on the point's own context up to the tracker: placement, coarse bin, fine bin, applied. -/
def eventBins (u q e : Nat) (x0 : Ctx) : Ctx :=
  let x := foreignCheck q e x0
  let x := if 2 ≤ q ∧ x.placed = 0 then placePrimary q x else x
  let n := e / 64
  let v := min 4095 (Table.getD 0 x.coarse n + u)
  let x := fineUpdate u q e { x with coarse := Table.put x.coarse n v, blocks := coarseBlocks n x.blocks }
  let sat := decide (v = 4095) || fineFull x
  { x with applied := min 511 (x.applied + 1), flags := { x.flags with saturation := x.flags.saturation || sat } }

/-- The tracker's part of an event (R139): the context, and the bin that may want a window (R142). -/
def eventTrack (u n0 e : Nat) (x : Ctx) : Ctx × Option Nat :=
  let n := e / 64
  let v := Table.getD 0 x.coarse n
  if n0 ≤ n ∧ 2 * u ≤ v then
    let r := track n v x.peaks
    ({ x with peaks := r.1 }, r.2)
  else (x, none)

/-- The primary window that takes entry `j` (R142 step 1). -/
def freePrimary (x : Ctx) (j : Nat) : Option Nat :=
  if !(x.wins.getD j {}).valid then some j
  else (List.range 4).find? (fun i => !(x.wins.getD i {}).valid)

/-! ## A context as bytes (R132, R133, Table 6.3) -/

/-- Three bytes for every two bins: bin 2 i in the low half of group i (R132). -/
def packBins (bin : Nat → Nat) (pairs : Nat) : List Byte :=
  (List.range pairs).flatMap (fun i => leBytes 3 (bin (2 * i) % 4096 + 4096 * (bin (2 * i + 1) % 4096)))

def peakWord (p q : Peak) : Nat :=
  field 1 63 (b2n q.valid) + field 10 44 q.bin + field 12 32 q.value + field 1 31 (b2n p.valid) + field 10 12 p.bin +
    field 12 0 p.value

def winHalf (w : Win) : Nat := field 1 15 (b2n w.valid) + field 15 0 w.z

/-- The nine flags as W1 [13:5] and head bits [34:26] hold them. -/
def flagBits (f : Flags) : Nat :=
  256 * b2n f.unlit + 128 * b2n f.afterOverload + 64 * b2n f.settling + 32 * b2n f.pileUp + 16 * b2n f.saturation +
    8 * b2n f.interference + 4 * b2n f.partial_ + 2 * b2n f.brownout + b2n f.reassigned

/-- The 64-byte header of context `n`. -/
def ctxHeader (n : Nat) (x : Ctx) : List Byte :=
  let w := fun j => x.wins.getD j {}
  wordsLe [
    field 14 50 n + field 11 39 x.channel + field 12 27 x.bearing + field 1 26 (b2n x.parity) + field 3 23 x.mode +
      field 6 17 x.planned + field 6 11 x.taken + field 3 8 x.cause + field 3 5 x.extras + field 5 0 x.placed,
    field 16 48 x.dropped + field 16 32 x.foreign + field 9 23 x.applied + field 9 14 x.converted +
      field 9 5 (flagBits x.flags) + field 1 4 (b2n x.dump),
    field 16 48 x.background + field 12 36 x.threshold + field 2 34 x.preset + field 27 0 x.blocks,
    peakWord (peakAt x.peaks 0) (peakAt x.peaks 1),
    peakWord (peakAt x.peaks 2) (peakAt x.peaks 3),
    field 16 48 (winHalf (w 3)) + field 16 32 (winHalf (w 2)) + field 16 16 (winHalf (w 1)) + winHalf (w 0),
    field 1 63 (b2n x.extra.isSome) + field 14 49 (x.extra.getD 0) + field 5 35 (w 3).from_ + field 5 30 (w 2).from_ +
      field 5 25 (w 1).from_ + field 5 20 (w 0).from_,
    field 48 16 x.openTime]

/-- Bytes 64 to 255: the zoom windows. -/
def ctxWindows (x : Ctx) : List Byte := packBins (fun i => Table.getD 0 x.fine i) 64

/-- All 1,792 bytes; blocks never written hold zeros (R133). -/
def ctxBytes (n : Nat) (x : Ctx) : List Byte :=
  ctxHeader n x ++ ctxWindows x ++ packBins (fun i => Table.getD 0 x.coarse i) 512

end Sys2Proof.Machine
end

