-- ==== Sys2Proof/Machine/Survey.lean ====
section
/-! DEFINITION. The survey engines (chapter 6): markers, items, closes, failures and spares, dumps; background and threshold
(R171), the neighbour peak table (R176). -/

namespace Sys2Proof.Machine

open Sys2Proof

def modSurvey (f : Survey → Survey) (s : State) : State := { s with survey := f s.survey }

/-- An engine grants: it is active or a serving spare (R151). -/
def engineWorks (v : Engine) : Bool := decide (v.st = 0 ∨ v.st = 2)

/-- Sheet counter of a point of the given parity: the sheet in progress or the one before it. -/
def sheetOfParity (s : State) (parity : Bool) : Nat :=
  if parity = parityNow s then s.seq.sheet else (s.seq.sheet + (2 ^ 32 - 1)) % 2 ^ 32

/-! ## Background and threshold (R171) -/

/-- b in bin units: S' u m / 50. -/
def backgroundOf (m : ModeTable) (planned : Nat) (est : Rat) : Rat := (planned * 2 ^ m.scale : Nat) * est / 50

/-- The header's background, unsigned 4.12, rounded. -/
def backgroundCode (b : Rat) : Nat := if 65535 / 4096 < b then 65535 else (roundRat (b * 4096)).toNat

/-- The least t with t^2 >= x, for a non-negative rational. -/
def ceilSqrt (x : Rat) : Nat :=
  let f := sqrtFloor (x.num.toNat / x.den)
  if x ≤ (f * f : Nat) then f else f + 1

/-- t = min(4095, max(T_min u, ceil(kappa sqrt(u b)))). -/
def thresholdOf (m : ModeTable) (b : Rat) : Nat :=
  let u := 2 ^ m.scale
  if 65535 / 4096 < b then 4095
  else min 4095 (max (m.tMin * u) (ceilSqrt ((m.kappa * m.kappa * u : Nat) * b / 256)))

/-! ## Posts to the neighbour peak table and to the contour units (R146, R150, R176) -/

/-- Post a point's list under its context number. -/
def post (c β : Nat) (parity : Bool) (l : List Peak) (s : State) : State :=
  modSurvey (fun v => { v with posts := Table.put v.posts (ctxNumber c β) (β, parity, l),
                               postAt := Table.put v.postAt (ctxNumber c β) s.now }) s

/-- Queue an item for the contour units. -/
def queueWork (e : Nat) (x : Option Nat) (head : Ctx) (s : State) : State :=
  let w : Work := { ctx := x, head := { head with coarse := [], fine := [] }, order := s.survey.order }
  modEngine e (fun v => { v with closed := v.closed ++ [w] }) (modSurvey (fun v => { v with order := v.order + 1 }) s)

/-- A point of the sheet will not come (R205). -/
def pointGone (c β : Nat) (parity : Bool) (s : State) : State :=
  modSheetOut (sheetOfParity s parity) (fun o => { o with due := o.due.filter (· ≠ (c / 24, β, c)) }) s

/-- A context's re-zoom context goes back to the pool. -/
def freeExtra (v : Ctx) (s : State) : State := match v.extra with | none => s | some x => freeCtx x s

/-- Discard a context: it is returned at once, an empty list is posted, and its point will not come (R131, R148,
R176). -/
def discardCtx (x : Nat) (s : State) : State :=
  let v := ctxOf s x
  pointGone v.channel v.bearing v.parity (post v.channel v.bearing v.parity [] (freeCtx x (freeExtra v s)))

/-! ## Markers (R136, R137, R150) -/

/-- The header of a point without shots. -/
def bareHeader (m : Marker) (cause : Nat) (f : Flags) : Ctx :=
  { channel := m.channel, bearing := m.bearing, parity := m.parity, mode := m.mode, planned := m.planned, cause := cause,
    openTime := m.openTime, flags := f }

/-- The context that an open marker opens. -/
def openedCtx (s : State) (m : Marker) (v : Ctx) : Ctx :=
  let t := modeTable s m.mode
  let b := backgroundOf t m.planned m.estimate
  { ph := .opened, channel := m.channel, bearing := m.bearing, parity := m.parity, mode := m.mode, planned := m.planned,
    openTime := m.openTime, flags := { settling := !m.settled, reassigned := m.reassigned },
    background := backgroundCode b, threshold := thresholdOf t b, preset := if m.restarting then 3 else t.preset,
    skipCheck := m.reassigned, closeCmd := v.closeCmd }

/-- Apply a marker. -/
def applyMarker (e : Nat) (m : Marker) (s : State) : State :=
  if m.kind = 0 then
    let t := modCtx m.ctx (openedCtx s m) s
    if 65535 / 4096 < backgroundOf (modeTable s m.mode) m.planned m.estimate then count .bgSaturations 1 t else t
  else if m.kind = 1 then
    let v := bareHeader m 4 { unlit := true }
    queueWork e (some m.ctx) v (post m.channel m.bearing m.parity [] (setCtx m.ctx { v with ph := .queued } s))
  else queueWork e none (bareHeader m 0 { pileUp := true, unlit := decide (m.kind = 3) }) (post m.channel m.bearing m.parity [] s)

/-- MARKER_APPLY: the engine takes its next marker. -/
def execMarkerApply (dt engine : Nat) (s : State) : Out :=
  need (decide (engine < 68))
    (let t := advance dt s
     let v := engineOf t engine
     match v.markers with
     | [] => t
     | m :: r => if engineWorks v then applyMarker engine m (setEngine engine { v with markers := r } t) else t)

/-! ## Grants (R127) -/

/-- The channel of the group whose item is granted next: round-robin from the one after the last. -/
def nextGrant (s : State) (e : Nat) : Option (Nat × Item) :=
  let v := engineOf s e
  match v.group with
  | none => none
  | some g =>
    ((List.range 24).map (fun i => 24 * g + (v.rr + 1 + i) % 24)).findSome? (fun c =>
      match (chanOf s c).buffer with
      | [] => none
      | i :: _ => some (c, i))

/-- Grant the next item if it is of `kind` and nothing goes before it, and apply `f` to it. -/
def grant (e kind : Nat) (f : Nat → Item → State → State) (s : State) : State :=
  let v := engineOf s e
  if engineWorks v && v.markers.isEmpty then
    match nextGrant s e with
    | none => s
    | some (c, i) =>
      if i.kind = kind then
        f c i (setEngine e { v with rr := c % 24, served := s.now } (modChan c (fun h => { h with buffer := h.buffer.drop 1 }) s))
      else s
  else s

/-- Fields of an item. -/
def itemTime (i : Item) : Nat := bits 61 46 i.word.toNat
def itemShot (i : Item) : Nat := bits 31 27 i.word.toNat
def itemBearing (i : Item) : Nat := bits 22 11 i.word.toNat
def itemParity (i : Item) : Bool := bit 23 i.word.toNat

/-- The item names an open context of its own bearing and parity (R149). -/
def itemValid (s : State) (i : Item) : Bool :=
  let v := ctxOf s (tagCtx i.word)
  v.ph == .opened && decide (v.bearing = itemBearing i) && v.parity == itemParity i

/-- After-overload travels from the item to the context (R89). -/
def takeOverload (i : Item) (x : Ctx) : Ctx :=
  if bit 62 i.word.toNat then { x with flags := { x.flags with afterOverload := true } } else x

/-! ## EVENT_ITEM (R138 to R143) -/

/-- The lowest free re-zoom context of the pool (R130). -/
def freeRezoom (s : State) : Option Nat :=
  ((List.range 256).map (15360 + ·)).find? (fun x => (ctxOf s x).ph == .free)

/-- Pool contexts of the re-zoom part in use. -/
def rezoomUsed (s : State) : Nat := (s.survey.ctxs.filter (fun p => decide (15360 ≤ p.1 ∧ p.1 < 15616))).length

/-- Place an extra window (R142 steps 2 and 3). -/
def placeExtra (x b from_ : Nat) (s : State) : State :=
  let v := ctxOf s x
  match v.extra with
  | some y => setCtx x { v with extras := v.extras + 1 } (modCtx y (placeIn v b from_ v.extras) s)
  | none =>
    match freeRezoom s with
    | none => count .rezoomSkipped 1 s
    | some y =>
      let w : Ctx := placeIn v b from_ 0 { ph := .opened, channel := v.channel, bearing := v.bearing }
      let t := setCtx x { v with extra := some y, extras := 1 } (setCtx y w s)
      modSurvey (fun u => { u with highWater := (max u.highWater.1 (rezoomUsed t), u.highWater.2) }) t

/-- An entry has taken a bin: give it a window where none covers it (R142). -/
def wantWindow (x q j : Nat) (s : State) : State :=
  let v := ctxOf s x
  let b := (peakAt v.peaks j).bin
  let extra := match v.extra with | none => [] | some y => (ctxOf s y).wins
  if v.placed = 0 ∨ v.planned < q + 2 ∨ (v.wins ++ extra).any (fun w => covers w b) then s
  else
    match freePrimary v j with
    | some i => setCtx x (placeIn v b (q + 1) i v) s
    | none => if v.extras < 4 then placeExtra x b (q + 1) s else s

/-- The event in the re-zoom context (R141, R143). -/
def extraUpdate (u x q e : Nat) (s : State) : State :=
  match (ctxOf s x).extra with
  | none => s
  | some y =>
    let t := modCtx y (fineUpdate u q e) s
    if fineFull (ctxOf t y) then modCtx x (fun v => { v with flags := { v.flags with saturation := true } }) t else t

/-- A flag set for the first time is written through with the rest of W1 (R134). -/
def writeThrough (old : Flags) (v : Ctx) : Ctx := if v.flags = old then v else { v with kept := v.foreign }

/-- Apply an event item to its context. -/
def applyEvent (x : Nat) (i : Item) (s : State) : State :=
  let v := takeOverload i (ctxOf s x)
  let m := modeTable s v.mode
  let q := itemShot i
  let e := itemTime i
  let (w, j) := eventTrack (2 ^ m.scale) m.n0 e (eventBins (2 ^ m.scale) q e v)
  let t := extraUpdate (2 ^ m.scale) x q e (setCtx x w s)
  modCtx x (writeThrough (ctxOf s x).flags) (match j with
    | none => t
    | some j => wantWindow x q j t)

/-- EVENT_ITEM: the bins are read and written, and ECC errors corrected on the way are counted (R151). -/
def execEventItem (dt : Nat) (reads : ItemReads) (s : State) : Out :=
  need (decide (reads.engine < 68)) (grant reads.engine 0 (fun _ i t =>
    if itemValid t i then
      count (.eventsApplied reads.engine) 1
        (count (.correctableEcc reads.engine) reads.corrected (applyEvent (tagCtx i.word) i t))
    else count (.strayItems reads.engine) 1 t) (advance dt s))

/-! ## DROP_ITEM (R144, R145) -/

/-- Apply a drop item. -/
def applyDrop (e x : Nat) (i : Item) (s : State) : State :=
  let n := itemTime i
  let t := modCtx x (fun v0 =>
    let v := takeOverload i v0
    writeThrough v0.flags { v with dropped := min 65535 (v.dropped + n), flags := { v.flags with pileUp := true } }) s
  count (.eventsDropped e) n (modEngine e (fun v => { v with drops := v.drops + n }) t)

/-- DROP_ITEM. -/
def execDropItem (dt engine : Nat) (s : State) : Out :=
  need (decide (engine < 68)) (grant engine 1 (fun _ i t =>
    if itemValid t i then applyDrop engine (tagCtx i.word) i t else count (.strayItems engine) 1 t) (advance dt s))

/-! ## Failures (R151 to R156) -/

/-- An engine fails: it stops and withholds every grant; an active one or a serving spare waits for a substitute. -/
def failEngine (e cause : Nat) (s : State) : State :=
  let v := engineOf s e
  if v.st = 3 then s
  else
    let t := changeEngine e { v with st := 3, cause := cause } s
    if engineWorks v then modSurvey (fun u => { u with failures := u.failures ++ [e] }) t else t

/-- The engine has granted nothing for more than 2 us, and an item of its group has waited as long (R151). -/
def grantWithheld (s : State) (e : Nat) : Bool :=
  let v := engineOf s e
  engineWorks v && decide (v.served + us 2 < s.now) &&
    (match v.group with
     | none => false
     | some g => (List.range 24).any (fun i => (chanOf s (24 * g + i)).buffer.any (fun x => decide (x.at_ + us 2 < s.now))))

/-- GRANT_TIMEOUT: a grant withheld for more than 2 us while an item waits. -/
def execGrantTimeout (dt engine : Nat) (s : State) : Out :=
  need (decide (engine < 68))
    (let t := advance dt s
     when_ (grantWithheld t engine) (failEngine engine 2) t)

/-- An uncorrectable error on a read of a context (R151, R187). -/
def storeError (x : Nat) (s : State) : State :=
  let t := count .storeUncorrectable 1 { s with log := { s.log with store := true } }
  logEvent 14 2 0 x t

/-- ENGINE_FAILURE: an uncorrectable ECC error on a read of the slice; the argument of the log entry is the slice's first
context. -/
def execEngineFailure (dt engine : Nat) (s : State) : Out :=
  need (decide (engine < 68)) (when_ (engineWorks (engineOf s engine)) (fun t =>
    failEngine engine 3 (count (.uncorrectableEcc engine) 1 (storeError (240 * ((engineOf t engine).group.getD 0)) t)))
    (advance dt s))

/-- An engine's test may run: in a facet gap once it has had no item for 1 us, and at Start (R152, R156). -/
def testMayRun (s : State) (e : Nat) : Bool :=
  let v := engineOf s e
  decide (v.st ≠ 3) && !v.tested && (nextGrant s e).isNone && decide (v.served + us 1 ≤ s.now) &&
    (inGap s || s.phase == .start || s.phase == .spinUp)

/-- The test completes: a gap's test is done, and a wrong result is a failure. -/
def engineTest (e : Nat) (passed : Bool) (s : State) : State :=
  let t := modEngine e (fun v => { v with tested := inGap s }) s
  if passed then t else failEngine e 1 t

/-- ENGINE_SELF_TEST: `ran` false is a test that an item has stopped: it leaves nothing behind (R152). -/
def execEngineSelfTest (dt engine : Nat) (ran passed : Bool) (s : State) : Out :=
  need (decide (engine < 68))
    (let t := advance dt s
     when_ (ran && testMayRun t engine) (engineTest engine passed) t)

/-! ## Spares (R153 to R155) -/

/-- Contexts of a group. -/
def groupCtxs (g : Nat) : List Nat := (List.range 240).map (240 * g + ·)

/-- An open context of a group that a spare takes over: its counts and its peak list start afresh, and its foreign count
is the one written through with the flags (R134, R153). -/
def reassign (x : Nat) (s : State) : State :=
  let v := ctxOf s x
  if v.ph == .opened then
    setCtx x { v with flags := { v.flags with reassigned := true }, applied := 0, dropped := 0, converted := 0,
                      foreign := v.kept, skipCheck := true, peaks := [{}, {}, {}, {}], prev := none, fresh := [] } s
  else s

/-- The lowest-numbered healthy idle spare. -/
def idleSpare (s : State) : Option Nat := [64, 65, 66, 67].find? (fun e => decide ((engineOf s e).st = 1))

/-- A spare takes over the group of a failed engine, with the markers that waited for it. -/
def substitute (f e g : Nat) (s : State) : State :=
  let old := engineOf s f
  let t := setEngine f { old with group := none, markers := [] } s
  let t := (groupCtxs g).foldl (fun u x => reassign x u) t
  let t := changeEngine e { engineOf t e with
    st := 2, group := some g, markers := old.markers.map (fun m => { m with reassigned := true }), mismatches := 0
    served := t.now } t
  count .substitutions 1 (moveIfIdle (14 + e % 2) { src := 1, dst := 0, len := 4096 } t)

/-- A marker that finds no engine: its point will not come, and is counted as discarded (R12). -/
def dropMarker (f : Nat) (m : Marker) (s : State) : State :=
  count (.discardedContexts f) 1
    (if m.kind < 2 then discardCtx m.ctx s else pointGone m.channel m.bearing m.parity s)

/-- A group is lost (R155): open contexts are discarded and counted, empty lists are posted (R176), items that wait go,
and a calibration run ends (R351, Table 12.3). -/
def loseGroup (f g : Nat) (s : State) : State :=
  let old := engineOf s f
  let t := setEngine f { old with group := none, markers := [] } s
  let t := old.markers.foldl (fun u m => dropMarker f m u) t
  let t := (groupCtxs g).foldl (fun u x =>
    if (ctxOf u x).ph == .opened then count (.discardedContexts f) 1 (discardCtx x u) else u) t
  let t := (List.range 24).foldl (fun u i => modChan (24 * g + i) (fun c =>
    { c with buffer := [], hold := [], arm := none, next := none, converted := [], noCtx := [] }) u) t
  abandonRun 2 (modSurvey (fun u => { u with lost := u.lost ++ [g], lostNow := u.lostNow ++ [g] }) t)

/-- SPARE_SUBSTITUTION: the first failure that waits is served (R154). -/
def execSpareSubstitution (dt : Nat) (s : State) : Out :=
  let t := advance dt s
  .next (match t.survey.failures with
    | [] => t
    | f :: r =>
      let u := modSurvey (fun v => { v with failures := r }) t
      match (engineOf u f).group with
      | none => u
      | some g =>
        match idleSpare u with
        | some e => substitute f e g u
        | none => loseGroup f g u)

/-! ## CONTEXT_CLOSE (R146 to R148, R157, R158) -/

/-- Is a point selected for a dump (R157)? -/
def dumpSelected (s : State) (v : Ctx) : Bool :=
  s.phase == .mode && (Table.getD [] s.legend.dumps v.mode).any (fun d =>
    d.enable && decide (d.firstCh ≤ v.channel ∧ v.channel ≤ d.lastCh ∧ d.firstBe ≤ v.bearing ∧ v.bearing ≤ d.lastBe ∧
      sheetOfParity s v.parity % max d.divider 1 = d.phase))

/-- Free contexts of the dump part of the pool, in order. -/
def freeDumps (s : State) : List Nat :=
  ((List.range 768).map (15616 + ·)).filter (fun x => !s.survey.dumpUsed.contains x)

/-- The dump copy at the head of the queue begins on its movement channel where that is idle (Table 16.9,
notes/assumptions/34.md). -/
def dumpMove (s : State) : State :=
  match s.survey.dumpQueue with
  | [] => s
  | (x, p, _, part) :: _ =>
    moveIfIdle (p % 4) { src := 0, srcAddr := 1792 * x + 64 * part, dst := 0, dstAddr := 1792 * p
                         len := if part = 0 then 1792 else 192 } s

/-- DUMP_SELECT: take pool contexts for the copies (R158). -/
def selectDump (x : Nat) (s : State) : State :=
  let v := ctxOf s x
  if !dumpSelected s v then s
  else
    let sheet := sheetOfParity s v.parity
    let want := match v.extra with | none => [(x, 0)] | some y => [(x, 0), (y, 1)]
    let got := (freeDumps s).take want.length
    if got.length < want.length then count .dumpsSkipped 1 s
    else
      let t := setCtx x { v with dump := true, copies := want.length } s
      dumpMove <| modSurvey (fun u =>
        let used := u.dumpUsed ++ got
        { u with dumpUsed := used,
                 dumpQueue := u.dumpQueue ++ (List.zipWith (fun (a : Nat × Nat) p => (a.1, p, sheet, a.2)) want got),
                 highWater := (u.highWater.1, max u.highWater.2 used.length) }) t

/-- What an end item writes: the counts, taken and cause (R146, R147). -/
def endFields (n : Nat) (v : Ctx) : Ctx :=
  match v.closeCmd with
  | none => { v with converted := n, taken := v.planned, cause := 1 }
  | some (cause, taken) => { v with converted := n, taken := taken, cause := cause }

/-- Kept, under R148. -/
def keptAtClose (v : Ctx) : Bool := decide (v.planned ≤ 2 * v.taken)

/-- Flags added at the close (R146, R148, Table 6.5). -/
def closeFlags (lIf : Nat) (v : Ctx) : Flags :=
  let early := decide (v.taken < v.planned)
  { v.flags with
    partial_ := v.flags.partial_ || early
    brownout := v.flags.brownout || (early && decide (v.cause = 3))
    interference := v.flags.interference || decide (lIf < v.foreign) }

/-- The count check of R146. -/
def countsAgree (v : Ctx) : Bool :=
  decide (v.cause ≠ 1) || v.skipCheck || decide (v.dropped = 65535) || decide (v.applied + v.dropped = v.converted)

/-- The end item of an open context. -/
def closeCtx (e x n : Nat) (i : Item) (ecc : Bool) (s : State) : State :=
  let v := endFields n (takeOverload i (ctxOf s x))
  let bad := !countsAgree v
  let misses := (engineOf s e).mismatches + (if bad then 1 else 0)
  let fails := (bad && decide (2 ≤ misses)) || ecc
  let s1 := if bad then count (.countMismatches e) 1 (modEngine e (fun u => { u with mismatches := misses }) s) else s
  let s2 := if ecc then count (.uncorrectableEcc e) 1 (storeError x s1) else s1
  let v := if fails then { v with flags := { v.flags with reassigned := true } } else v
  let v := { v with flags := closeFlags (modeTable s v.mode).lIf v }
  let t :=
    if keptAtClose v then
      let t := if v.flags.interference then count .interferencePoints 1 s2 else s2
      let t := post v.channel v.bearing v.parity v.peaks (setCtx x { v with ph := .queued } t)
      let t := selectDump x t
      queueWork e (some x) (ctxOf t x) t
    else count (.discardedContexts e) 1 (discardCtx x (setCtx x v s2))
  if fails then failEngine e (if bad && decide (2 ≤ misses) then 4 else 3) t else t

/-- CONTEXT_CLOSE: an end item. -/
def execContextClose (dt engine : Nat) (reads : SliceReads) (s : State) : Out :=
  need (decide (engine < 68)) (grant engine 2 (fun _ i t =>
    if itemValid t i then
      closeCtx engine (tagCtx i.word) (itemTime i) i reads.failed (count (.correctableEcc engine) reads.corrected t)
    else count (.strayItems engine) 1 t) (advance dt s))

/-! ## Dump copies (R131, R158, R159, R229) -/

/-- A dump copy of the context is complete: the context goes back once it has been read as well (R131). -/
def copyDone (x : Nat) (s : State) : State :=
  let v := ctxOf s x
  let w := { v with copies := v.copies - 1 }
  if w.copies = 0 ∧ v.ph == .read then freeCtx x (freeExtra v s) else setCtx x w s

/-- The point's own context of a copy: the context itself, or the one a re-zoom context is attached to. -/
def ownerOf (s : State) (x : Nat) : Nat :=
  if x < 15360 then x else ((s.survey.ctxs.find? (fun p => decide (p.2.extra = some x))).map (·.1)).getD x

/-- Bytes of a copy. -/
def copyBytes (s : State) (x part : Nat) : List Byte :=
  if part = 0 then ctxBytes x (ctxOf s x) else ctxWindows (ctxOf s x)

/-- The tag word of a dump packet (R229). -/
def dumpWord (v : Ctx) (sheet part : Nat) : Nat :=
  field 32 32 sheet + field 11 21 v.channel + field 12 9 v.bearing + field 1 8 part

/-- A contour unit or a recorder transfer waits for the read ports (R23): a free unit and a point for it, or channel 8 at
work (notes/assumptions/46.md). -/
def portTaken (s : State) : Bool :=
  (decide (s.contour.again ≠ [] ∨ s.survey.engines.any (fun e => !e.2.closed.isEmpty)) &&
    (List.range 16).any (fun u => let v := unitOf s u; !v.failed && v.item.isNone)) ||
  decide ((moverOf s 8).st = 1 ∨ (moverOf s 8).st = 3)

/-- DUMP_COPY: the movement engine makes the next copy, once no contour unit and no recorder transfer waits for
the ports, and its dump packet falls due; without a session no dump packet is sent (R223). -/
def execDumpCopy (dt : Nat) (s : State) : Out :=
  let t := advance dt s
  .next (match t.survey.dumpQueue with
    | [] => t
    | (x, p, sheet, part) :: r =>
      let b := copyBytes t x part
      let d : Pkt := { type := 0x04, body := leBytes 8 (dumpWord (ctxOf t x) sheet part) ++ b, tagged := true, pool := some p,
                       stream := none }
      if portTaken t then t
      else
        let sends := linkTakes t && t.sec.session.isSome
        let u := modSurvey (fun v => { v with
          dumpQueue := r, dumpHeld := if sends then Table.put v.dumpHeld p b else v.dumpHeld }) t
        let u := dumpMove (moveDone (p % 4) u)
        copyDone (ownerOf t x) (
          if sends then moveIfIdle (4 + p % 4) { src := 0, srcAddr := 1792 * p, dst := 2, len := b.length } (due5 d u)
          else freePool p u))

end Sys2Proof.Machine
end

