-- ==== Sys2Proof/Machine/Contour.lean ====
section
/-! DEFINITION. The contour units (chapter 8): candidates, time, width, intensity, confidence, walk and range, rain, primary
echo and the point record. -/

namespace Sys2Proof.Machine

open Sys2Proof

def modContour (f : Contour → Contour) (s : State) : State := { s with contour := f s.contour }

/-! ## Poisson sums (R188, R197), in units of 2^-96 -/

def fix96 : Nat := 2 ^ 96

/-- Terms r^i / i! with alternating sign, from term `i` on, `k` of them. -/
def expTerms (r : Nat) : Nat → Nat → Int → Int
  | 0, _, _ => 0
  | k + 1, i, t => t + expTerms r k (i + 1) (-(t * r) / (fix96 * (i + 1) : Nat))

/-- Square a number in units of 2^-96, `k` times. -/
def squares : Nat → Nat → Nat
  | 0, x => x
  | k + 1, x => squares k (x * x / fix96)

/-- e^-x for a non-negative rational, in units of 2^-96; below e^-60 it is 0. -/
def expNeg (x : Rat) : Nat :=
  if 60 ≤ x then 0 else squares 8 (expTerms (x.num.toNat * fix96 / (x.den * 256)) 24 0 fix96).toNat

/-- The sum of m^i / i! for i below `k`, from term `i` on, in units of 2^-96 of the first. -/
def poissonTerms (m : Rat) : Nat → Nat → Nat → Nat
  | 0, _, _ => 0
  | k + 1, i, t => t + poissonTerms m k (i + 1) (t * m.num.toNat / (m.den * (i + 1)))

/-- Pr of fewer than `k` events at mean `m`, in units of 2^-96. -/
def poissonBelow (m : Rat) (k : Nat) : Nat := poissonTerms m k 0 (expNeg m)

/-- Survival at a mean, within 0.002 of Pr of at most 7 events; 1 at mean 0 (R188). -/
def survival (m : Rat) : Rat :=
  if m ≤ 0 then 1
  else
    let err : Rat := (clampI (-2000) 2000 (Config.survivalError m) : Int)
    max 0 (min 1 ((poissonBelow m 8 : Rat) / fix96 + err / 1000000))

/-- Confidence of a peak of `h` counts over a mean of `m` events, within one code (R197). -/
def confidenceOf (u h : Nat) (m : Rat) : Nat :=
  let k := ceilDiv h u
  let p := fix96 - poissonBelow m k
  let c : Int :=
    if 100 < k ∨ p ≤ fix96 / 2 ^ 17 then 255
    else (min 255 (divRound (-(16 * log2Fix p fix96)) (2 ^ 48)))
  (clampI 0 255 (c + clampI (-1) 1 (Config.confidenceError k m))).toNat

/-! ## What a point is processed under (R186) -/

/-- A point's sources and tables. -/
structure Point where
  /-- the context or header -/
  x : Ctx
  /-- its extra windows and their fine bins -/
  extra : Ctx
  u : Nat
  m : ModeTable
  /-- header background -/
  b : Rat
  /-- fired pulse width, ps -/
  fired : Nat
  walk : List Int
  zero : Int
  deriving DecidableEq, Repr

/-- Fired pulse width of a bank at a bearing, ps (Table 2.5). -/
def firedPs (s : State) (mode b β : Nat) : Nat := 250 * widthQuarters (entryWidth ((entryAt (fireTable s mode) b β).getD 0))

/-- Assemble a point from its context. -/
def pointOf (s : State) (x : Ctx) : Point :=
  let m := modeTable s x.mode
  let b := x.channel / 48
  let w := walkOf s x.parity b
  { x := x, extra := (match x.extra with | none => {} | some y => ctxOf s y), u := 2 ^ m.scale, m := m,
    b := (x.background : Rat) / 4096, fired := firedPs s x.mode b x.bearing, walk := w.1, zero := w.2 }

/-! ## Candidates (R172, R188) -/

/-- mu: expected ambient events per coarse bin and shot. -/
def muOf (p : Point) : Rat := p.b / (p.x.planned * p.u : Nat)

/-- The threshold at a bin, with the near gate. -/
def thresholdAt (p : Point) (n : Nat) : Nat := p.x.threshold * (if n < p.m.ng then p.m.gn else 1)

/-- The test of R172 at bin `n`. -/
def passes (p : Point) (n : Nat) : Bool :=
  decide (((thresholdAt p n : Nat) : Rat) ≤ (coarseAt p.x n : Rat) - p.b * survival (muOf p * (n : Rat)))

/-- The candidates that become echoes, in ascending bin order. -/
def passing (p : Point) : List Peak :=
  (sortBy (fun k l => decide (k.bin < l.bin)) (p.x.peaks.filter (·.valid))).filter (fun k => passes p k.bin)

/-! ## Spans (R194) -/

def binGap (a b : Nat) : Nat := if a ≤ b then b - a else a - b

/-- Does bin `n` of the span of `k` belong to another echo `o`? -/
def taken_ (k o : Peak) (n : Nat) : Bool :=
  decide (o.bin ≠ k.bin) &&
    (decide (binGap n o.bin < binGap n k.bin) ||
      (decide (binGap n o.bin = binGap n k.bin) &&
        (decide (k.value < o.value) || (decide (o.value = k.value) && decide (o.bin < k.bin)))))

/-- The bins of an echo's span. -/
def spanOf (l : List Peak) (k : Peak) : List Nat :=
  ((List.range 7).filterMap (fun i => if k.bin + i < 3 ∨ 1023 < k.bin + i - 3 then none else some (k.bin + i - 3))).filter
    (fun n => !l.any (fun o => taken_ k o n))

/-- The sum of net counts over a span. -/
def spanSum (p : Point) (bg : Rat) (l : List Nat) : Rat := (l.map (fun n => max 0 ((coarseAt p.x n : Rat) - bg))).sum

/-! ## Time in the window (R191 to R193) -/

/-- A window and its fine bins. -/
def windowsOf (p : Point) : List (Win × List Nat) :=
  let of_ (x : Ctx) := (List.range 4).map (fun j =>
    (x.wins.getD j {}, (List.range 32).map (fun f => Table.getD 0 x.fine (32 * j + f))))
  of_ p.x ++ of_ p.extra

/-- Distance of a window's centre from the coarse centre of a bin. -/
def centreGap (p : Point) (n : Nat) (w : Win) : Nat := (2 * (w.z : Int) + 32 - (64 * (n : Int) + 32 + peakOffset p.x n)).natAbs

/-- Is window `a` preferred to `b`: nearer, then the lower from-shot, then the lower start? -/
def preferred (p : Point) (n : Nat) (a b : Win) : Bool :=
  let da := centreGap p n a
  let db := centreGap p n b
  decide (da < db) || (decide (da = db) && (decide (a.from_ < b.from_) || (decide (a.from_ = b.from_) && decide (a.z < b.z))))

/-- The window of an echo at bin `n` (R191). -/
def windowFor (p : Point) (n : Nat) : Option (Win × List Nat) :=
  ((windowsOf p).filter (fun w => covers w.1 n && decide (w.1.from_ < p.x.taken))).foldl
    (fun a w => match a with
      | none => some w
      | some v => if preferred p n w.1 v.1 then some w else some v) none

/-- Net fine counts g_f (R192). -/
def netFine (p : Point) (bg : Rat) (w : Win × List Nat) : List Rat :=
  w.2.map (fun f => max 0 ((f : Rat) - bg * (p.x.taken - w.1.from_ : Nat) / (32 * p.x.taken : Nat)))

/-- Position x of the median: from fine bin `f` on, `c` counts before it, half the sum being `h`. -/
def medianFrom (h : Rat) : Nat → Rat → List Rat → Rat
  | f, _, [] => f
  | f, c, g :: r => if h ≤ c + g then (f : Rat) + (h - c) / g else medianFrom h (f + 1) (c + g) r

/-- The echo time e_m, and the net counts where the window gives it (R192, R193). -/
def echoTime (p : Point) (n : Nat) (bg : Rat) : Rat × Option (List Rat) :=
  let coarse : Rat := ((64 * (n : Int) + 32 + peakOffset p.x n : Int) : Rat)
  match windowFor p n with
  | none => (coarse, none)
  | some w =>
    let g := netFine p bg w
    if (p.u : Rat) ≤ g.sum then ((2 * w.1.z : Nat) + 2 * medianFrom (g.sum / 2) 0 0 g, some g) else (coarse, none)

/-! ## Width, intensity, walk, range (R195 to R199) -/

/-- The width in ps. -/
def echoWidth (ns_ peak : Rat) (g : Option (List Rat)) : Rat :=
  let w := 2000 * ns_ / peak
  match g with
  | some l => if w < 2500 then (125 / 2) * l.sum / l.foldl max 0 else w
  | none => w

def echoIntensity (p : Point) (ns_ surv : Rat) : Nat :=
  (min 4095 (roundRat (1024 * ns_ / ((p.u * p.x.taken : Nat) * max surv (1 / 16))))).toNat

/-- Bilinear interpolation of the walk table, in table units rounded halves upward (R198). -/
def walkDelta (t : List Int) (intensity : Nat) (dw : Rat) : Int :=
  let li : Rat := max 0 (min 7 ((log2Fix (max 1 intensity) 1 : Rat) / 2 ^ 48 - 4))
  let lw : Rat := max 0 (min 7 (dw / 500 + 2))
  let i := min 6 li.floor.toNat
  let j := min 6 lw.floor.toNat
  let fi := li - i
  let fj := lw - j
  let at_ (a b : Nat) : Rat := (t.getD (8 * a + b) 0 : Int)
  let v := (1 - fi) * ((1 - fj) * at_ i j + fj * at_ i (j + 1)) + fi * ((1 - fj) * at_ (i + 1) j + fj * at_ (i + 1) (j + 1))
  (v + 1 / 2).floor

/-- r in millimetres (R199), within the range Table 8.3 gives as produced: an unchecked range zero can carry the formula past
it (R200, notes/assumptions/28.md). -/
def rangeOf (ec : Rat) (zero : Int) : Nat :=
  min 317000 (max 0 (roundRat ((ec - (zero : Rat) / 16) * 4684257 / 1000000))).toNat

/-- One echo from its peak; `a` is the mean added by the echoes at lower bins (R189). -/
def echoOf (p : Point) (l : List Peak) (k : Peak) (a : Rat) : Echo × Rat × Bool :=
  let surv := survival (muOf p * (k.bin : Rat) + a)
  let bg := p.b * surv * p.x.taken / p.x.planned
  let sum := spanSum p bg (spanOf l k)
  let (em, g) := echoTime p k.bin bg
  let w := echoWidth sum ((coarseAt p.x k.bin : Rat) - bg) g
  let i := echoIntensity p sum surv
  let ec := em - (walkDelta p.walk i (w - p.fired) : Rat) / 16
  ({ range := rangeOf ec p.zero, rainLike := false, intensity := i,
     width := (min 255 (roundRat (w / 125))).toNat, confidence := confidenceOf p.u (coarseAt p.x k.bin) (bg / p.u),
     bin := k.bin, widthPs := w }, sum / (p.u * p.x.taken : Nat), g.isNone)

/-- The echoes in ascending bin order, each with its coarse-only mark. -/
def echoesFrom (p : Point) (l : List Peak) : List Peak → Rat → List (Echo × Bool)
  | [], _ => []
  | k :: r, a =>
    let (e, ai, coarse) := echoOf p l k a
    (e, coarse) :: echoesFrom p l r (a + ai)

def echoesOf (p : Point) : List (Echo × Bool) := echoesFrom p (passing p) (passing p) 0

/-! ## Neighbours and rain (R177, R178) -/

/-- The neighbours of a channel: in its row for c - 1 and c + 1, all in its bank. -/
def neighbours (c : Nat) : List Nat :=
  ([c + 1, c + 16] ++ (if 1 ≤ c then [c - 1] else []) ++ (if 16 ≤ c then [c - 16] else [])).filter (fun d =>
    decide (d < 1536 ∧ d / 48 = c / 48) && (decide (d / 16 = c / 16) || decide (d % 16 = c % 16)))

/-- The list a neighbour has posted for the bearing and parity. -/
def postedList (s : State) (c β : Nat) (parity : Bool) : Option (List Peak) :=
  match s.survey.posts.find? (fun e => decide (e.1 = ctxNumber c β)) with
  | none => none
  | some e => if e.2.1 = β ∧ e.2.2.1 = parity then some e.2.2.2 else none

/-- The present neighbours: groups of the sheet's enable mask; a lost group that posts nothing more is not waited for. -/
def present (s : State) (x : Ctx) : List Nat :=
  (neighbours x.channel).filter (fun d =>
    bit (d / 24) (regOf s x.parity).groups &&
      (!s.survey.lost.contains (d / 24) || (postedList s d x.bearing x.parity).isSome))

/-- Every present neighbour has posted. -/
def allPosted (s : State) (x : Ctx) : Bool := (present s x).all (fun d => (postedList s d x.bearing x.parity).isSome)

/-- A neighbour supports an echo. -/
def supports (s : State) (x : Ctx) (db bin d : Nat) : Bool :=
  ((postedList s d x.bearing x.parity).getD []).any (fun k => k.valid && decide (binGap k.bin bin ≤ db))

/-- Is an echo rain-like? -/
def rainLike (s : State) (p : Point) (e : Echo) : Bool :=
  let near := present s p.x
  decide (e.bin < p.m.nRain) && decide (e.confidence < p.m.cHard) &&
    ((decide (p.m.wx ≠ 0) && decide (((p.fired + 250 * p.m.wx : Nat) : Rat) < e.widthPs)) ||
      (decide (p.m.ns ≠ 0) && decide (2 ≤ near.length) && decide (near.countP (supports s p.x p.m.db e.bin) < p.m.ns)))

/-! ## The record (R201 to R204) -/

/-- Is echo `a` a better primary than `b` (R201)? -/
def better (allRain : Bool) (a b : Echo) : Bool :=
  let ra := a.rainLike && !allRain
  let rb := b.rainLike && !allRain
  (!ra && rb) || (ra == rb && (decide (b.confidence < a.confidence) ||
    (decide (a.confidence = b.confidence) && decide (b.range < a.range))))

/-- Index of the primary echo. -/
def primaryOf (l : List Echo) : Nat :=
  let rain := l.all (·.rainLike)
  (List.range l.length).foldl (fun i j =>
    match l[i]?, l[j]? with
    | some a, some b => if better rain b a then j else i
    | _, _ => i) 0

/-- Offset of a record (R204). -/
def offsetOf (openTime bn : Nat) : Nat := min 4095 ((openTime + 2 ^ 48 - bn % 2 ^ 48) % 2 ^ 48 / 25600)

/-- The head of a point record (Table 8.2). -/
def recordHead (r : Record) : Nat :=
  field 12 52 r.offset + field 2 50 r.primary + field 6 44 r.planned + field 6 38 r.taken + field 9 26 (flagBits r.flags) +
    field 3 23 r.echoes.length + field 12 11 r.bearing + field 11 0 r.channel

/-- An echo (Table 8.3). -/
def echoWord (e : Echo) : Nat :=
  field 19 29 e.range + field 1 28 (b2n e.rainLike) + field 12 16 e.intensity + field 8 8 e.width + field 8 0 e.confidence

/-- A point record as bytes (R202). -/
def recordBytes (r : Record) : List Byte := leBytes 8 (recordHead r) ++ r.echoes.flatMap (fun e => leBytes 6 (echoWord e))

/-- The echoes of an item: none for a header-only item, an unlit point or an uncorrectable read (R187, Table 8.4). -/
def itemEchoes (s : State) (p : Point) (bare : Bool) : List (Echo × Bool) :=
  if bare then [] else (echoesOf p).map (fun e => ({ e.1 with rainLike := rainLike s p e.1 }, e.2))

/-- The record of an item. -/
def recordOf (x : Ctx) (bn : Nat) (l : List Echo) : Record :=
  { offset := offsetOf x.openTime bn, primary := primaryOf l, planned := x.planned, taken := x.taken, flags := x.flags,
    bearing := x.bearing, channel := x.channel, echoes := l }

/-! ## CONTOUR_START (R150, R185, R187) -/

/-- The engine whose queue head is oldest. -/
def oldestQueue (s : State) : Option (Nat × Work) :=
  (List.range 68).foldl (fun a e =>
    match a, (engineOf s e).closed with
    | none, w :: _ => some (e, w)
    | some v, w :: _ => if w.order < v.2.order then some (e, w) else some v
    | a, [] => a) none

/-- The item a free unit takes: one that a failed unit held, else the oldest (R150, R420). -/
def takeWork (s : State) : Option (Work × State) :=
  match s.contour.again with
  | w :: r => some (w, modContour (fun c => { c with again := r }) s)
  | [] =>
    match oldestQueue s with
    | none => none
    | some (e, w) => some (w, modEngine e (fun v => { v with closed := v.closed.drop 1 }) s)

/-- The engine in whose slice a context lies. -/
def engineOfCtx (s : State) (x : Nat) : Nat := engineOfGroup s ((ctxOf s x).channel / 24)

/-- An uncorrectable error on one of the item's reads (R187): in a slice it is reported, counted at its engine (Table 6.8),
and the engine fails. -/
def contourEccError (x : Nat) (pool : Bool) (s : State) : State :=
  let t := count .contourEcc 1 s
  if pool then t
  else failEngine (engineOfCtx s x) 3 (count (.uncorrectableEcc (engineOfCtx s x)) 1 (storeError x t))

/-- CONTOUR_START. -/
def execContourStart (dt unit : Nat) (reads : PointReads) (s : State) : Out :=
  need (decide (unit < 16)) (
    let t := advance dt s
    let v := unitOf t unit
    if v.failed || v.item.isSome then t
    else
      match takeWork t with
      | none => t
      | some (w, u0) =>
        let u := match w.ctx with
          | none => u0
          | some x => count (.correctableEcc (engineOfCtx u0 x)) reads.corrected u0
        match w.ctx, reads.failed with
        | some x, some pool =>
          let y := if pool then (ctxOf u x).extra.getD x else x
          contourEccError y pool (setUnit unit { v with item := some w, ecc := true, since := u.now } u)
        | _, _ => setUnit unit { v with item := some w, ecc := false, since := u.now } u)

/-! ## CONTOUR_RECORD -/

/-- Does a zone hold a point? -/
def zoneHolds (z : Zone) (c β : Nat) : Bool :=
  z.enable && decide (z.firstRow ≤ c / 16 ∧ c / 16 ≤ z.lastRow ∧ z.firstCol ≤ c % 16 ∧ c % 16 ≤ z.lastCol ∧
    z.firstBe ≤ β ∧ β ≤ z.lastBe)

/-- Limit of a zone, mm. -/
def zoneLimit (d : DistRec) (z : Zone) : Nat := 10 * (if z.limit = 0 then d.dMax else z.limit)

/-- The least range of the echoes a zone counts (R383). -/
def countedRange (d : DistRec) (z : Zone) (l : List Echo) : Option Nat :=
  ((l.filter (fun e => !e.rainLike && decide (d.cMin ≤ e.confidence ∧ e.range ≤ zoneLimit d z))).map (·.range)).min?

/-- The distance tally of one zone after a record (R383, R384). -/
def tallyZone (d : DistRec) (r : Record) (o : SheetOut) (k : Nat) : SheetOut :=
  match d.zones[k]? with
  | none => o
  | some z =>
    if !(zoneHolds z r.channel r.bearing) then o
    else
      let o := if r.flags.unlit then o else { o with delivered := tableUpd 0 o.delivered k (· + 1) }
      match countedRange d z r.echoes with
      | none => o
      | some m =>
        { o with nearest := (match o.nearest.find? (fun e => decide (e.1 = k)) with
            | none => Table.put o.nearest k m
            | some e => Table.put o.nearest k (min e.2 m)) }

/-- The packetiser and the distance output take a record. -/
def takeRecord (d : Option DistRec) (r : Record) (o : SheetOut) : SheetOut :=
  let g := r.channel / 24
  let o := { o with due := o.due.filter (· ≠ (g, r.bearing, r.channel)), waiting := o.waiting ++ [(g, r.bearing, r)] }
  match d with
  | none => o
  | some d => (List.range d.zones.length).foldl (tallyZone d r) o

/-- The mode's distance output record, where there is one. -/
def distOf (s : State) (mode : Nat) : Option DistRec := (s.legend.dist.find? (fun e => decide (e.1 = mode))).map (·.2)

/-- The item's reads are over: its context is returned unless a dump copy is due (R131). -/
def returnCtx (x : Nat) (s : State) : State :=
  let v := ctxOf s x
  if v.copies = 0 then freeCtx x (freeExtra v s) else setCtx x { v with ph := .read } s

/-- The unit classifies the item's echoes, and so waits for its neighbours: not an unlit point, a header-only item or one
whose read failed (R177, R187, Table 8.4). -/
def classified (s : State) (v : Unit_) (w : Work) : Bool :=
  match w.ctx with
  | none => false
  | some x => decide ((ctxOf s x).cause ≠ 4) && !v.ecc

/-- A neighbour posted its entry more than 2 us after the unit's reads had ended (R177, R182). -/
def neighbourLate (s : State) (v : Unit_) (x : Ctx) : Bool :=
  (present s x).any (fun c => decide (v.since + us 2 < Table.getD 0 s.survey.postAt (ctxNumber c x.bearing)))

/-- The record of the item a unit holds leaves it. -/
def produce (unit : Nat) (v : Unit_) (w : Work) (s : State) : State :=
  let x := match w.ctx with | none => w.head | some x => ctxOf s x
  let n := sheetOfParity s x.parity
  let bn := match sheetOutOf s n with | none => s.seq.bnLocal | some o => o.bn
  let l := itemEchoes s (pointOf s x) (w.ctx.isNone || decide (x.cause = 4) || v.ecc)
  let es := sortBy (fun e f => decide (e.range < f.range)) (l.map (·.1))
  let r := recordOf x bn es
  let t := count .coarseOnly (l.countP (·.2)) (count .rainLikeEchoes (es.countP (·.rainLike)) (count .records 1 s))
  let t := if es.isEmpty && decide (0 < x.taken) then count .zeroEcho 1 t else t
  let t := if classified s v w && neighbourLate s v x then count .neighbourWaits 1 t else t
  let t := setUnit unit { v with item := none, ecc := false, freed := s.now } (modSheetOut n (takeRecord (distOf s x.mode) r) t)
  match w.ctx with
  | none => t
  | some x => returnCtx x t

/-- CONTOUR_RECORD. -/
def execContourRecord (dt unit : Nat) (s : State) : Out :=
  need (decide (unit < 16)) (
    let t := advance dt s
    let v := unitOf t unit
    match v.item with
    | none => t
    | some w => if !v.failed && (!classified t v w || allPosted t w.head) then produce unit v w t else t)

/-! ## Failures (R420) -/

/-- A unit fails: it stops, and the item it held is taken again. -/
def failUnit (unit how : Nat) (s : State) : State :=
  let v := unitOf s unit
  let t := setUnit unit { v with failed := true, item := none, ecc := false } s
  let t := match v.item with
    | none => t
    | some w => modContour (fun c => { c with again := c.again ++ [w] }) t
  count .contourFailures 1 (logEvent 5 1 unit how t)

/-- The instant from which a unit's work on its item is its own without doubt: the end of its reads, or the last post it
waited for; none while it waits (R177, R420, notes/assumptions/28.md). -/
def ownWorkFrom (s : State) (v : Unit_) (w : Work) : Option Nat :=
  if classified s v w then
    (if allPosted s w.head then
      some (((present s w.head).map (fun c => Table.getD 0 s.survey.postAt (ctxNumber c w.head.bearing))).foldl max v.since)
     else none)
  else some v.since

/-- CONTOUR_WATCHDOG: more than 10 us of its own work, the reads of its item and the neighbour wait apart (R420). -/
def execContourWatchdog (dt unit : Nat) (s : State) : Out :=
  need (decide (unit < 16)) (
    let t := advance dt s
    let v := unitOf t unit
    match v.item with
    | none => t
    | some w =>
      match ownWorkFrom t v w with
      | none => t
      | some x => when_ (!v.failed && decide (x + us 10 < t.now)) (failUnit unit 0) t)

/-- CONTOUR_SELF_TEST: in a facet gap, once the unit has held no item for 1 us; a test that does not complete is no
failure (R152, R420). -/
def execContourSelfTest (dt unit : Nat) (ran passed : Bool) (s : State) : Out :=
  need (decide (unit < 16))
    (let t := advance dt s
     let v := unitOf t unit
     when_ (inGap t && !v.failed && v.item.isNone && decide (v.freed + us 1 ≤ t.now) && ran && !passed) (failUnit unit 1) t)

/-! ## The packetiser (R205, R225, R227, R228, R235, R236) -/

/-- The sheet whose records may be released: the oldest one whose trailer has not been sent. -/
def openOut (s : State) : Option SheetOut :=
  match s.contour.sheets with
  | [] => none
  | o :: _ => if o.trailed then none else some o

/-- The next bearing of a group that may be released: the lowest with a record, and no point due at or below it. -/
def releasable (o : SheetOut) (g : Nat) : Option Nat :=
  match ((o.waiting.filter (fun w => decide (w.1 = g))).map (·.2.1)).min? with
  | none => none
  | some β => if o.due.any (fun d => decide (d.1 = g ∧ d.2.1 ≤ β)) then none else some β

/-- The records of a group at a bearing, in ascending channel order. -/
def recordsAt (o : SheetOut) (g β : Nat) : List Record :=
  sortBy (fun r t => decide (r.channel < t.channel)) ((o.waiting.filter (fun w => decide (w.1 = g ∧ w.2.1 = β))).map (·.2.2))

/-- The body of a point packet (Table 9.8). -/
def pointBody (o : SheetOut) (g β : Nat) (l : List Record) : List Byte :=
  leBytes 8 (field 32 32 o.sheet + field 6 26 g + field 12 14 β + field 5 9 l.length + field 3 6 o.mode +
    field 1 5 (b2n o.parity)) ++ l.flatMap recordBytes

/-- A packet of the sheet stream. -/
def streamPkt (type sheet : Nat) (body : List Byte) : Pkt :=
  { type := type, body := body, tagged := false, pool := none, stream := some sheet }

/-- Release the records of a group at a bearing: into a point packet; nowhere when the group is cut; a packet that does
not fit the buffer is dropped. -/
def release (o : SheetOut) (g β : Nat) (s : State) : State :=
  let l := recordsAt o g β
  let p := streamPkt 0x02 o.sheet (pointBody o g β l)
  let cut := bit g o.state.cut
  let sends := o.session.isSome && linkTakes s && !cut
  let fits := bufferFits s (pktBytes p)
  let t := modSheetOut o.sheet (fun o => { o with
    waiting := o.waiting.filter (fun w => decide (¬(w.1 = g ∧ w.2.1 = β))), released := o.released ++ l,
    cutRecords := o.cutRecords + (if cut then l.length else 0),
    packets := o.packets + (if sends && fits then 1 else 0),
    records := o.records + (if sends && fits then l.length else 0),
    dropped := o.dropped + (if sends && !fits then 1 else 0) }) s
  if sends && fits then due4 p t else if sends then count .pointsDropped 1 t else t

/-- POINT_PACKET_RELEASE. -/
def execPointPacketRelease (dt group : Nat) (s : State) : Out :=
  need (decide (group < 64)) (
    let t := advance dt s
    match openOut t with
    | none => t
    | some o =>
      match releasable o group with
      | none => t
      | some β => release o group β t)

/-- The body of a trailer without its tag (R228). -/
def trailerBody (o : SheetOut) : List Byte :=
  wordsLe [field 32 32 o.sheet + field 32 0 o.packets, field 32 32 o.records + field 32 0 o.dropped,
    field 32 32 o.cutRecords]

/-- Every point of the sheet has left the packetiser. -/
def drained (o : SheetOut) : Bool := o.due.isEmpty && o.waiting.isEmpty

/-- The recorder takes a sheet whose records have left the packetiser (R397). -/
def keepForRecorder (o : SheetOut) (s : State) : State :=
  if s.recd.st = 3 ∧ recordingNow s then modRec (fun r => { r with ended := r.ended ++ [{ o with ended := true }] }) s else s

/-- End a sheet: its trailer falls due; a sheet without a stream is only closed. -/
def trail (o : SheetOut) (s : State) : State :=
  keepForRecorder o (
    if o.session.isSome && linkTakes s then
      due4 (streamPkt 0x03 o.sheet (trailerBody o)) (modSheetOut o.sheet (fun o => { o with ended := true, trailed := true }) s)
    else modContour (fun c => { c with sheets := c.sheets.filter (fun p => decide (p.sheet ≠ o.sheet)) }) s)

/-- No further point of the sheet comes: it has ended, or the last slot of its last bearing period has begun (R31). -/
def sweepDone (s : State) (o : SheetOut) : Bool :=
  o.ended || (s.phase == .mode && decide (o.sheet = s.seq.sheet ∧ (tableNow s).q ≤ s.seq.slot ∧
    s.seq.period = some (periods (modeTable s s.seq.mode) - 1)))

/-- SHEET_TRAILER: after the last point packet of a sheet whose sweep is over. -/
def execSheetTrailer (dt : Nat) (s : State) : Out :=
  let t := advance dt s
  .next (match openOut t with
    | none => t
    | some o => if sweepDone t o && drained o then trail o t else t)

/-- Every open context of the sheet has closed: in Safe stop no further item comes. -/
def noneOpen (s : State) : Bool :=
  s.seq.stop.isNone && s.survey.ctxs.all (fun p => decide (15360 ≤ p.1) || (p.2.ph != .opened && p.2.ph != .marked))

/-- SAFE_STOP_TRAILER: without waiting for the next boundary. -/
def execSafeStopTrailer (dt : Nat) (s : State) : Out :=
  let t := advance dt s
  .next (match openOut t with
    | none => t
    | some o => if t.phase == .safeStop && drained o && noneOpen t then trail o t else t)

end Sys2Proof.Machine
end

