-- ==== Sys2Proof/Machine/Calib.lean ====
section
/-! DEFINITION. Calibration runs and sets (chapter 14). -/

namespace Sys2Proof.Machine

open Sys2Proof

def modCalib (f : Calib → Calib) (s : State) : State := { s with calib := f s.calib }
def setRun (r : Run) (s : State) : State := modCalib (fun v => { v with run := some r }) s

/-! ## Statistics -/

/-- The median; of an even number of values the mean of the middle two. -/
def medianOf (l : List Int) : Rat :=
  let t := sortBy (fun a b => decide (a < b)) l
  let n := t.length
  ((t.getD ((n - 1) / 2) 0 + t.getD (n / 2) 0 : Int) : Rat) / 2

/-- The median of rationals. -/
def medianRat (l : List Rat) : Rat :=
  let t := sortBy (fun a b => decide (a < b)) l
  (t.getD ((t.length - 1) / 2) 0 + t.getD (t.length / 2) 0) / 2

def meanRat (l : List Rat) : Rat := if l.isEmpty then 0 else l.sum / l.length

/-- Mean square deviation of readings. -/
def varianceOf (l : List Int) : Rat :=
  let m := meanRat (l.map (fun a => (a : Rat)))
  meanRat (l.map (fun a => ((a : Rat) - m) * ((a : Rat) - m)))

/-! ## Where segments may be taken (R342, R343, R354) -/

/-- The mode that runs, 0 outside a mode. -/
def modeRuns (s : State) : Nat := if s.phase == .mode then s.seq.mode else 0

/-- Drive, Platform or Yard. -/
def runMode (m : Nat) : Bool := decide (1 ≤ m ∧ m ≤ 3)

/-- The run works in the present gap. -/
def runWorks (s : State) (r : Run) : Bool :=
  if r.kind = 4 then decide (modeRuns s = 4)
  else runMode (modeRuns s) || (decide (r.kind = 2) && s.phase == .spinUp)

/-- The present gap gives segments: the frame has gone, the window has closed, and it began with no board carried over. -/
def gapServes (s : State) : Bool := inGap s && s.chain.sent && !s.chain.window && !s.chain.carried

/-- T_s / 400 before the gap's end, where the core segment ends and the optical segment starts. -/
def opticalStart (s : State) : Nat := gapEnd s - sheetTaps s / 400

/-- Length of the gap's core segment, from 10 us after the close of the window, taps. -/
def coreTaps (s : State) : Nat :=
  match s.chain.closed with
  | none => 0
  | some c => opticalStart s - (c + us 10)

/-- Length of the gap's optical segment, to 50 us before the gap's end, taps. -/
def lightTaps (s : State) : Nat := gapEnd s - us 50 - opticalStart s

/-- The gap's core segment is over: it lasts 50 us or more and is taken once. -/
def coreDue (s : State) : Bool :=
  gapServes s && !s.chain.coreTaken && decide (us 50 ≤ coreTaps s) && decide (opticalStart s ≤ s.now)

/-- The gap's optical segment begins: it lasts 11 us or more and is taken once. -/
def opticalDue (s : State) : Bool :=
  gapServes s && !s.chain.opticalTaken && decide (us 11 ≤ lightTaps s) &&
    decide (opticalStart s ≤ s.now ∧ s.now + us 50 < gapEnd s)

/-! ## Tap step (R347) -/

/-- Hits a channel needs (Table 14.2). -/
def tapNeed : Nat := 81920

/-- Every channel has its hits. -/
def tapDone (r : Run) : Bool := (List.range 1536).all (fun c => decide (tapNeed ≤ (hitsOf r c).sum))

/-- Add the hits of a segment. -/
def addHits (hits : List (Nat × List Nat)) (r : Run) : Run :=
  { r with hits := hits.foldl (fun t h => tableUpd [] t h.1 (fun l =>
      (List.range 20).map (fun p => l.getD p 0 + h.2.getD p 0))) r.hits }

/-! ## Dark step (R348, R350) -/



/-- Count of SPAD `p` of a channel, and of its gate at 16. -/
def darkOf (r : Run) (c p : Nat) : Nat := (Table.getD [] r.dark c).getD p 0

/-- Production mask of a channel: at most two SPADs. -/
def prodMask (c : Nat) : Nat :=
  (((List.range 16).filter (fun p => bit p (Config.productionMask c))).take 2).foldl (fun a p => a + 2 ^ p) 0

/-- Median count of the unmasked SPADs of a group. -/
def groupDark (r : Run) (g : Nat) : Rat :=
  medianOf ((List.range 24).flatMap (fun i =>
    ((List.range 16).filter (fun p => !bit p (prodMask (24 * g + i)))).map (fun p => (darkOf r (24 * g + i) p : Int))))

/-- Field mask and production mask of a channel: rates above 200 kcps and 16 medians, highest first, at most four. -/
def maskOf (r : Run) (med : Rat) (c : Nat) : Nat :=
  let l := ((List.range 16).filter (fun p => !bit p (prodMask c) && decide (100 < darkOf r c p) &&
    decide (16 * med < (darkOf r c p : Rat)))).map (fun p => (darkOf r c p, p))
  ((sortBy (fun a b => decide (b.1 < a.1)) l).take 4).foldl (fun a e => a + 2 ^ e.2) (prodMask c)

/-- Threshold step of a channel, coded as Table 4.4. -/
def stepCode (r : Run) (med : Rat) (c : Nat) : Nat :=
  let n : Rat := darkOf r c 16
  if 4 * med < n then 1 else if n < med / 4 then 3 else 0

/-- What channel `c` counts in the next dark interval: the firings of SPAD `darkDone` alone, and after the 16 positions the
coincidences of its gate with the new mask at k = 2 and tau = 1.00 ns, whatever the mode (R348); `med` is the group's
median. -/
def darkCount (r : Run) (med : Rat) (c : Nat) (firings : List (Nat × Nat)) : Nat :=
  if r.darkDone < 16 then firings.countP (fun f => decide (f.1 = r.darkDone))
  else gateEvents (65536 * maskOf r med c) 2 (ns 1) 0 (sortBy (fun f g => decide (f.2 < g.2)) firings) 0 []

/-- One counting interval of 500 us is complete: the `i`-th of its segment. -/
def darkInterval (firings : List (Nat × List (List (Nat × Nat)))) (r : Run) (i : Nat) : Run :=
  let meds := if r.darkDone < 16 then [] else (List.range 64).map (groupDark r)
  { r with darkDone := r.darkDone + 1,
           dark := (List.range 1536).foldl (fun t c => tableUpd [] t c (fun l =>
             l ++ [darkCount r (meds.getD (c / 24) 0) c ((Table.getD [] firings c).getD i [])])) r.dark }

/-- A segment's time for the dark step, and the intervals it completes. -/
def darkSegment (avail : Nat) (firings : List (Nat × List (List (Nat × Nat)))) (r : Run) : Run :=
  let k := min ((r.darkTaps + avail) / us 500) (17 - r.darkDone)
  (List.range k).foldl (darkInterval firings) { r with darkTaps := r.darkTaps + avail - us 500 * k }

/-! ## Reference and flood readings (R349, R357) -/

/-- Bank b's channels. -/
def chansOf (b : Nat) : List Nat := (List.range 48).map (48 * b + ·)

/-- Median reading of a channel. -/
def readingAt (t : Table (List Int)) (c : Nat) : Option Rat :=
  match Table.getD [] t c with
  | [] => none
  | l => some (medianOf l)

/-- Mean over a bank's channels that have readings. -/
def bankMean (t : Table (List Int)) (b : Nat) : Rat := meanRat ((chansOf b).filterMap (readingAt t))

/-- Banks the reference step has calibrated. -/
def refBanks (r : Run) : List Nat :=
  (List.range 32).filter (fun b => decide (144 ≤ Table.getD 0 r.pulses b) && (chansOf b).any (fun c => (readingAt r.readings c).isSome))

/-- Mean reference intensity of a bank, and its mean width in ps. -/
def refLight (r : Run) (b : Nat) : Nat × Rat :=
  let v := Table.getD (0, 0, 0) r.refs b
  if v.1 = 0 then (0, 0) else (divRoundN v.2.1 v.1, (v.2.2 : Rat) / v.1)

/-- R_b with a walk table. -/
def refDelay (r : Run) (walk : Nat → List Int) (b : Nat) : Rat :=
  let l := refLight r b
  bankMean r.readings b - walkDelta (walk b) l.1 (l.2 - 2000)

/-- Trim code in force. -/
def codeOld (s : State) (c : Nat) : Nat := bits 8 0 (trimWord s c)

/-- A change held within a limit. -/
def within (lim : Option Nat) (d : Int) : Int := match lim with | none => d | some n => clampI (-(n : Int)) n d

/-- code_new of a channel from readings. -/
def codeNew (s : State) (lim : Option Nat) (t : Table (List Int)) (c : Nat) : Nat :=
  match readingAt t c with
  | none => codeOld s c
  | some x => (clampI 0 511 ((codeOld s c : Int) + within lim (roundRat ((bankMean t (c / 48) - x) / 4)))).toNat

/-- tau in force and tau_new of a bank. -/
def fireOld (s : State) (b : Nat) : Int := Table.getD 0 s.calib.live.fire b
def fireNew (s : State) (lim : Option Nat) (med rb : Rat) (b : Nat) : Int :=
  clampI (-64) 64 (fireOld s b + within lim (roundRat ((med - rb) / 16)))

/-- Residual of a channel, ps, and its spread term (R355). -/
def residual (s : State) (t : Table (List Int)) (code : Nat → Nat) (c : Nat) : Option (Rat × Rat) :=
  match readingAt t c with
  | none => none
  | some x =>
    let l := Table.getD [] t c
    some (125 / 64 * ((x - bankMean t (c / 48)) + 4 * ((code c : Int) - (codeOld s c : Int) : Int)),
      125 / 64 * (125 / 64) * varianceOf l / l.length)

/-- RMS squared and max of residuals, ps. -/
def figures (l : List (Rat × Rat)) : Rat × Rat :=
  (meanRat (l.map (fun e => e.1 * e.1)) + meanRat (l.map (·.2)), (l.map (fun e => |e.1|)).foldl max 0)

/-- Figures in 0.1 ps. -/
def tenths (f : Rat × Rat) : Nat × Nat :=
  ((sqrtFloor (400 * f.1).floor.toNat + 1) / 2, (roundRat (10 * f.2)).toNat)

/-! ## The walk step (R357 step 4) -/

/-- log2 of a positive rational intensity. -/
def log2Rat (q : Rat) : Rat := (log2Fix q.num.toNat q.den : Rat) / 2 ^ 48

/-- Of the nodes at or on one side of a level the nearest. -/
def nearestNode (below : Bool) (lv : Rat) (l : List (Rat × Rat)) : Option (Rat × Rat) :=
  (l.filter (fun e => if below then decide (e.1 ≤ lv) else decide (lv ≤ e.1))).foldl (fun a e =>
    match a with
    | none => some e
    | some v => if (if below then v.1 < e.1 else e.1 < v.1) then some e else some v) none

/-- Reading at a level, interpolated in log2 I; none where the nodes do not reach it. -/
def walkReading (l : List (Rat × Rat)) (lv : Rat) : Option Rat :=
  match nearestNode true lv l, nearestNode false lv l with
  | some a, some b => if a.1 = b.1 then some a.2 else some (a.2 + (b.2 - a.2) * (lv - a.1) / (b.1 - a.1))
  | _, _ => none

/-- Node i's value, or that of the nearest node reached. -/
def nodeValue (vs : List (Option Rat)) (i : Nat) : Rat :=
  ((List.range 8).findSome? (fun d => match vs.getD (i - d) none, vs.getD (i + d) none with
    | some v, _ => if d ≤ i then some v else none
    | none, some v => some v
    | none, none => none)).getD 0

/-- The walk table of a bank from its walk sheets. -/
def walkTable (r : Run) (b : Nat) : List Int :=
  let l := ((Table.getD [] r.walkNodes b).filter (fun e => decide (0 < e.1))).map (fun e => (log2Rat e.1, e.2))
  let vs := (List.range 8).map (fun i => walkReading l (i + 4 : Nat))
  (List.range 8).flatMap (fun i => List.replicate 8 (roundRat (nodeValue vs i - nodeValue vs 0)))

/-- Codes of the walk sheets stand this much above the sheet codes. -/
def walkRaise (s : State) : Nat :=
  match s.calib.run with
  | some r => if r.kind = 4 ∧ r.step = 4 then 8 * (r.stepSheets + 1) else 0
  | none => 0

/-- Close one sheet of the walk step. -/
def walkSheet (r : Run) : Run :=
  { r with walkNow := [], walkNodes := r.walkNow.foldl (fun t e =>
      let (b, n, k, sum) := e
      if n = 0 ∨ k = 0 then t
      else tableUpd [] t b (fun l => l ++ [((1024 * k : Nat) / (n : Rat), (sum : Rat) / k)])) r.walkNodes }

/-! ## The candidate set (R349, R352, R353, R357) -/

/-- Flood intensity of a bank, 1/1,024 events per shot. -/
def floodLight (r : Run) (b : Nat) : Nat :=
  let n := Table.getD 0 r.floodShots b
  if n = 0 then 0 else divRoundN (1024 * ((chansOf b).map (fun c => (Table.getD [] r.flood c).length)).sum) n

/-- Limits of an unjudged run: trim codes and taps (R353). -/
def codeLimit (s : State) (r : Run) : Option Nat := if r.judged then none else some s.legend.trimChange
def fireLimit (s : State) (r : Run) : Option Nat := if r.judged then none else some (s.legend.trimChange / 4)

/-- Readings that set the trims: the flood in a Datum run, the reference path otherwise. -/
def trimReadings (r : Run) : Table (List Int) := if r.kind = 4 then r.flood else r.readings

/-- Walk tables the run reckons with. -/
def runWalk (s : State) (r : Run) (b : Nat) : List Int :=
  if r.kind = 4 then walkTable r b else (walkOf s (parityNow s) b).1

/-- What a completed run yields. -/
def candidateOf (s : State) (r : Run) : CalSet :=
  let old := s.calib.live
  let banks := refBanks r
  let t := trimReadings r
  let med := medianRat (banks.map (refDelay r (runWalk s r)))
  let fire := (List.range 32).map (fun b =>
    (b, if banks.contains b then fireNew s (fireLimit s r) med (refDelay r (runWalk s r) b) b else fireOld s b))
  let shift (b : Nat) : Rat := 16 * (Table.getD 0 fire b - fireOld s b : Int)
  let sD : Rat := if r.kind = 4 then meanRat (r.pairs.map (fun p => (p : Rat))) else old.sD
  let zeroAt (b : Nat) : Rat :=
    if r.kind = 4 then bankMean r.flood b - walkDelta (walkTable r b) (floodLight r b) 0 + shift b - sD
    else refDelay r (runWalk s r) b + shift b - old.dRef
  let zero := (List.range 32).map (fun b => (b, if banks.contains b then roundRat (zeroAt b) else Table.getD 0 old.zero b))
  let meds := (List.range 64).map (fun g => (groupDark r g, medianOf ((List.range 24).map (fun i => (darkOf r (24 * g + i) 16 : Int)))))
  let code (c : Nat) := if banks.contains (c / 48) then codeNew s (codeLimit s r) t c else codeOld s c
  let res (l : List Nat) := tenths (figures ((l.filter (fun c => banks.contains (c / 48))).filterMap (residual s t code)))
  let all := res (List.range 1536)
  { trims := (List.range 1536).map (fun c => let m := meds.getD (c / 24) (0, 0)
      (c, 65536 * maskOf r m.1 c + 16384 * stepCode r m.2 c + code c))
    taps := (List.range 1536).map (fun c => (c, tapMap (hitsOf r c)))
    walk := if r.kind = 4 then (List.range 32).map (fun b => (b, walkTable r b)) else old.walk
    zero := zero
    fire := fire
    dRef := if r.kind = 4 then
        roundRat (meanRat (banks.map (fun b => refDelay r (runWalk s r) b + shift b - ((Table.getD 0 zero b : Int) : Rat))))
      else old.dRef
    sD := roundRat sD
    resid := (List.range 64).map (fun g => (g, res ((List.range 24).map (24 * g + ·))))
    rms := all.1
    max := all.2
    seq := s.calib.base.seq + 1
    origin := if r.kind = 4 then 1 else 0
    tSet := if r.taN = 0 then 0 else roundRat (r.taSum / r.taN) }

/-! ## Judgement (R354, Table 14.3) -/

/-- Test 5: the changes of trims. -/
def changesOk (s : State) (k : CalSet) : Bool :=
  (List.range 1536).all (fun c => decide (binGap (bits 8 0 (Table.getD 256 k.trims c)) (codeOld s c) ≤ s.legend.trimChange)) &&
    (List.range 32).all (fun b => decide (4 * (Table.getD 0 k.fire b - fireOld s b).natAbs ≤ s.legend.trimChange))

/-- Test 6: S_D from 10 to 400 ns, deviation at most 10 ps, at least 1,024 pairs. -/
def pairsOk (r : Run) : Bool :=
  let m := meanRat (r.pairs.map (fun p => (p : Rat)))
  decide (1024 ≤ r.pairs.length) && decide (5120 ≤ m ∧ m ≤ 204800) &&
    decide (125 * 125 * varianceOf r.pairs ≤ 64 * 64 * 100)

/-- Test 7: reference readings after the flood trims, and R_b - Z_b against D_ref, within the max limit. -/
def uniformOk (s : State) (r : Run) (k : CalSet) : Bool :=
  let lim : Rat := s.legend.maxLimit
  let moved (c : Nat) : Option Rat := (readingAt r.readings c).map (fun x =>
    x + 4 * ((bits 8 0 (Table.getD 256 k.trims c) : Int) - (codeOld s c : Int) : Int))
  (refBanks r).all (fun b =>
    let m := meanRat ((chansOf b).filterMap moved)
    (chansOf b).all (fun c => match moved c with
      | none => true
      | some x => decide (125 * |x - m| ≤ 64 * lim)) &&
    decide (125 * |refDelay r (runWalk s r) b - ((Table.getD 0 k.zero b : Int) : Rat) - (k.dRef : Rat)| ≤ 64 * lim))

/-- The result of the tests: 0 when the run passes. -/
def judgeRun (s : State) (r : Run) (k : CalSet) : Nat :=
  let f := figures (((List.range 1536).filter (fun c => (refBanks r).contains (c / 48))).filterMap (residual s (trimReadings r) (fun c => bits 8 0 (Table.getD 256 k.trims c))))
  if !r.judged then 0
  else if ((s.legend.rmsLimit * s.legend.rmsLimit : Nat) : Rat) < f.1 then 3
  else if (s.legend.maxLimit : Rat) < f.2 then 4
  else if s.calib.calibrated && !changesOk s k then 5
  else if r.kind = 4 && !pairsOk r then 6
  else if r.kind = 4 && !uniformOk s r k then 7
  else 0

/-! ## The end of a run -/

/-- A run ends with a result and is reported. -/
def endRun (result : Nat) (s : State) : State :=
  let t := modCalib (fun v => { v with run := none, candidate := none, result := result }) s
  logEvent 8 3 0 (thermalWord t) t

/-- A run fails a test: the old set stays, and the trigger baseline becomes the present T_a. -/
def rejectRun (result : Nat) (s : State) : State :=
  count .runsRejected 1 (endRun result
    (modCalib (fun v => { v with rejected := true, baseline := s.thermal.ta.getD v.baseline }) s))

/-- The record of a run has been written and read back: the set applies at the next boundary (R285, R352). -/
def adoptRun (s : State) : State :=
  match s.calib.candidate with
  | none => s
  | some k => count .runsAdopted 1 (endRun 0 (modCalib (fun v => { v with next := some (k, none), rejected := false }) s))

/-- A write has failed: result 8, and the set in force stays (R352). -/
def calWriteFailed (s : State) : State := if s.calib.candidate.isSome then endRun 8 (norWriteFailed s) else s

/-- CALIBRATION_PROCESSING: the completed run is processed and judged, and the write of its record begins with the erase of
the slot not in force. -/
def processRun (norOk : Bool) (r : Run) (s : State) : State :=
  let k := candidateOf s r
  let j := judgeRun s r k
  if j ≠ 0 then rejectRun j s
  else
    let t := modCalib (fun v => { v with candidate := some k }) s
    if !norOk || !t.nor.present then calWriteFailed t
    else
      let slot := if t.calib.calibrated then 1 - t.calib.slot else 0
      let (rec, u) := calRecord k t
      norStart { job := .calSlot slot, erasing := true, addr := calAddr slot, left := rec } u

/-- CALIBRATION_PROCESSING. -/
def execCalibrationProcessing (dt : Nat) (norOk : Bool) (s : State) : Out :=
  let t := advance dt s
  .next (match t.calib.run with
    | none => t
    | some r => if r.step = 7 ∧ t.calib.candidate.isNone then processRun norOk r t else t)

/-! ## Steps (R346, R350) -/

/-- The reference step is complete: 144 pulses of every bank that fires them. -/
def refDone (s : State) (r : Run) : Bool := (calBanks s).all (fun b => decide (144 ≤ Table.getD 0 r.pulses b))

/-- The step after a segment. -/
def nextStep (s : State) (r : Run) : Run :=
  let dark := decide (17 ≤ r.darkDone)
  if r.kind = 4 then
    if r.step = 5 ∧ refDone s r then { r with step := 6 }
    else if r.step = 6 ∧ dark then { r with step := 7 } else r
  else if r.step = 5 ∨ r.step = 6 then
    if dark && r.refOk && refDone s r then { r with step := 7 } else { r with step := if dark then 5 else 6 }
  else r

/-- A core segment of `length` taps. -/
def coreSegment (length hitTaps : Nat) (hits : List (Nat × List Nat)) (firings : List (Nat × List (List (Nat × Nat)))) (r : Run)
    (s : State) : State :=
  let q := if r.step = 2 then addHits hits r else r
  let left := if r.step = 2 then (if tapDone q then length - hitTaps else 0) else length
  let q := if r.step = 2 && tapDone q then { q with step := if q.kind = 4 then 3 else 6, stepSheets := 0 } else q
  let q :=
    if q.step = 6 ∨ (q.step = 5 ∧ q.kind ≠ 4 ∧ q.darkDone < 17) then
      if s.bias.stepped then { q with darkTaps := 0 } else darkSegment left firings q
    else q
  setRun (nextStep s q) s

/-- CORE_SEGMENT. -/
def execCoreSegment (dt hitTaps : Nat) (hits : List (Nat × List Nat)) (firings : List (Nat × List (List (Nat × Nat))))
    (s : State) : Out :=
  let t := advance dt s
  .next (match t.calib.run with
    | none => t
    | some r =>
      if coreDue t && runWorks t r then
        coreSegment (coreTaps t) hitTaps hits firings r (modChain (fun c => { c with coreTaken := true }) t)
      else t)

/-- The fire instant of pulse `k` of a bank in an optical segment (R344). -/
def calFire (s : State) (b k : Nat) : Nat :=
  opticalStart s + staggerPos s b * (ns (tableNow s).stagger + ns 500) + k * ns 5500

/-- The pulses of an optical segment, bank and number, in order of their fire instants (R344). -/
def calShots (s : State) : List (Nat × Nat) :=
  let l := (calBanks s).flatMap (fun b => (List.range (calPulses s (tableNow s) b (lightTaps s))).map (fun k => (b, k)))
  sortBy (fun x y => decide (calFire s x.1 x.2 < calFire s y.1 y.2)) l

/-- First event time of a channel from 0 to 120 ns after pulse `k` of its bank, with the candidate tap map of the run (R346,
R349). -/
def firstReading (s : State) (r : Run) (c k : Nat) (events : List (Nat × Nat × Nat)) : Option Int :=
  let fineF := fineAt s (calFire s (c / 48) k)
  let l := (events.filter (fun e => decide (e.1 = k))).map (fun e => rawReading (tapMap (hitsOf r c)) e.2.1 e.2.2 fineF)
  (l.filter (fun x => decide (0 ≤ x ∧ x ≤ ((16 * ns 120 : Nat) : Int)))).min?

/-- Count the readings of an optical segment that fired the pulses `fired`. -/
def takeReadings (s : State) (fired : List (Nat × Nat)) (events : List (Nat × List (Nat × Nat × Nat)))
    (light : List (Nat × Nat)) (widths : List (Nat × Int)) (r : Run) : Run :=
  { r with
    pulses := fired.foldl (fun t p => tableUpd 0 t p.1 (· + 1)) r.pulses
    readings := events.foldl (fun t e => tableUpd [] t e.1 (fun l =>
      l ++ (fired.filter (fun p => decide (p.1 = e.1 / 48))).filterMap (fun p => firstReading s r e.1 p.2 e.2))) r.readings
    refs := widths.foldl (fun t e => tableUpd (0, 0, 0) t e.1 (fun v => (v.1, v.2.1, v.2.2 + e.2)))
      (light.foldl (fun t e => tableUpd (0, 0, 0) t e.1 (fun v => (v.1 + 1, v.2.1 + e.2, v.2.2))) r.refs) }

/-- One calibration pulse is requested: both channels check it as a sweep pulse (R314, R344). -/
def calChecked (x : Nat × Nat) (s : State) : State :=
  energyCheck .b x.1 (calFire s x.1 x.2) (energyCheck .a x.1 (calFire s x.1 x.2) s)

/-- It reaches the pads, unless a veto or a permit holds it (R309). -/
def calPads (x : Nat × Nat) (s : State) : State :=
  if padsPass s x.1 then
    { s with pulses := s.pulses ++
      [{ bank := x.1, at_ := padEdge s x.1 (calFire s x.1 x.2), width := ns 2, code := some (diagCode s x.1) }] }
  else s

/-- The state after the request: the near-zone veto of the bank is gone with it (R315). -/
def calDrive (x : Nat × Nat) (s : State) : State :=
  modBank x.1 (fun v => { v with lastPulse := some (calFire s x.1 x.2) })
    (modSide .b (clearNear x.1) (modSide .a (clearNear x.1) (calPads x (calChecked x s))))

/-- The pulses that reached the pads so far, and the state. -/
def calPulse (x : Nat × Nat) (a : List (Nat × Nat) × State) : List (Nat × Nat) × State :=
  (if padsPass (calChecked x a.2) x.1 then a.1 ++ [x] else a.1, calDrive x a.2)

/-- An optical segment that begins: its pulses are fired, and counted unless the boundary applied a bias step (R350) or the
run has been abandoned. -/
def opticalSegment (events : List (Nat × List (Nat × Nat × Nat))) (light : List (Nat × Nat)) (widths : List (Nat × Int))
    (s : State) : State :=
  let u := (calShots s).foldl (fun a x => calPulse x a) ([], modChain (fun c => { c with opticalTaken := true }) { s with pulses := [] })
  match u.2.calib.run with
  | none => u.2
  | some r => if s.bias.stepped then u.2 else setRun (nextStep u.2 (takeReadings s u.1 events light widths r)) u.2

/-- The run's reference step takes the present gap's optical segment: it is not complete, the tap step ended before the
gap began (R346, R357), and no dip inhibits its pulses (R424). -/
def refWorks (s : State) (r : Run) : Bool :=
  runWorks s r && !s.supply.dip && r.refOk && decide (r.step = 5 ∨ (r.step = 6 ∧ r.kind ≠ 4)) && !refDone s r

/-- OPTICAL_SEGMENT. -/
def execOpticalSegment (dt : Nat) (events : List (Nat × List (Nat × Nat × Nat))) (light : List (Nat × Nat))
    (widths : List (Nat × Int)) (s : State) : Out :=
  let t := advance dt s
  .next (match t.calib.run with
    | none => t
    | some r =>
      if opticalDue t && bothPermits t && refWorks t r then watchSafety (opticalSegment events light widths) t else t)

/-- The reference TDC: the tap of 31.25 ps in which an instant given in 1/16 taps lies (R356). -/
def referenceTdc (x : Nat) : Nat := x / 16

/-- The separation of an edge pair as timed, in 1/16 taps (R356). -/
def pairSeparation (edges : Nat × Nat) : Int := 16 * ((referenceTdc edges.2 : Int) - (referenceTdc edges.1 : Int))

/-- DATUM_EDGE_PAIR: both edges are timed, and the separation counts until the first step has its 1,024 pairs. -/
def execDatumEdgePair (dt : Nat) (edges : Nat × Nat) (s : State) : Out :=
  let t := advance dt s
  .next (match t.calib.run with
    | none => t
    | some r =>
      if r.kind = 4 ∧ r.step = 1 then
        let q := { r with pairs := r.pairs ++ [pairSeparation edges] }
        let q := if 1024 ≤ q.pairs.length then { q with step := 2, stepSheets := 0 } else q
        setRun q (modCalib (fun v => { v with sheetsNoPair := 0 }) t)
      else t)

/-! ## Gap time (R351) -/

/-- Gap time of a run so far, taps: the gaps before the present one and what has passed of it. -/
def gapTime (s : State) (r : Run) : Nat := r.gapTime + min (gapTaps s) (s.now - s.seq.bn)

/-- CALIBRATION_ABANDON: the gap time has reached 200 ms.  A Datum run has its own limits (R357). -/
def execCalibrationAbandon (dt : Nat) (s : State) : Out :=
  let t := advance dt s
  .next (match t.calib.run with
    | none => t
    | some r => if r.kind ≠ 4 ∧ ms 200 ≤ gapTime t r then abandonRun 1 t else t)

/-! ## At a boundary (R343, R345, R351, R354, R356 to R358) -/

/-- Start a run. -/
def startRun (kind : Nat) (judged : Bool) (s : State) : State :=
  let r : Run := { kind := kind, step := if kind = 4 then 1 else 2, judged := judged,
                   taSum := s.thermal.ta.getD 0, taN := if s.thermal.ta.isSome then 1 else 0 }
  let t := modCalib (fun v => { v with
    run := some r, candidate := none, startDue := v.startDue && decide (kind ≠ 2),
    recoveryDue := v.recoveryDue && decide (kind = 1 ∨ kind = 4), sheetsNoPair := 0,
    baseline := if v.calibrated || v.rejected then v.baseline else s.thermal.ta.getD 0 }) s
  count (.runsStarted (kind - 1)) 1 t

/-- A run meets a boundary into mode `m` (0: a timing-only gap). -/
def runBoundary (m : Nat) (r : Run) (s : State) : State :=
  if r.kind ≠ 4 ∧ 4 ≤ m then
    abandonRun 2 (modCalib (fun v => { v with startDue := v.startDue || decide (r.kind = 2 ∧ m = 5) }) s)
  else if r.kind = 4 ∧ m ≠ 4 then abandonRun 2 s
  else if r.kind = 4 ∧ r.step = 1 ∧ 20 ≤ s.calib.sheetsNoPair + 1 then abandonRun 6 s
  else if r.kind = 4 ∧ 600 ≤ r.sheets + 1 ∧ r.step ≠ 7 then abandonRun 1 s
  else
    let q := { r with gapTime := r.gapTime + gapTaps s, sheets := r.sheets + 1, stepSheets := r.stepSheets + 1 }
    let q := if q.step = 4 then walkSheet q else q
    let q :=
      if q.kind = 4 ∧ q.step = 3 ∧ 16 ≤ q.stepSheets then { q with step := 4, stepSheets := 0 }
      else if q.kind = 4 ∧ q.step = 4 ∧ 32 ≤ q.stepSheets then { q with step := 5, stepSheets := 0 }
      else q
    let q := { q with refOk := decide (q.step = 5 ∨ q.step = 6) }
    setRun q (modCalib (fun v => { v with sheetsNoPair := v.sheetsNoPair + 1 }) s)

/-- The run that a boundary into mode `m` starts, none in a dip (R424). -/
def runStarts (m old : Nat) (s : State) : State :=
  if s.calib.run.isSome || s.supply.dip then s
  else if m = 4 then (if old ≠ 4 then startRun 4 true s else s)
  else if m = 0 then (if s.calib.startDue && s.grat.st == .locked then startRun 2 true s else s)
  else if !runMode m then s
  else if s.calib.startDue then startRun 2 true s
  else if s.calib.recoveryDue then startRun 3 true s
  else
    match s.thermal.ta with
    | none => s
    | some ta =>
      if ((4 * s.legend.calDeltaT : Nat) : Rat) < |ta - s.calib.baseline| then startRun 1 s.calib.rejected s else s

/-- A gap that begins with a board carried over is yielded by the run that would use it (R343). -/
def noteYield (s : State) : State :=
  match s.calib.run with
  | none => s
  | some r => if s.chain.carried && decide (r.step ≠ 7) then count .gapsYielded 1 s else s

/-- Runs at a boundary from mode `old` into mode `m`. -/
def calibRuns (m old : Nat) (s : State) : State :=
  noteYield (runStarts m old (match s.calib.run with | none => s | some r => runBoundary m r s))

/-- The derived set of a stored set at a temperature (R358). -/
def derivedSet (k : CalSet) (ta : Rat) : CalSet :=
  let dT := max (-40) (min 40 ((ta - k.tSet) / 4))
  let coeff (n : Nat) : Rat := (ofTwos 8 n : Int)
  { k with
    taps := (List.range 1536).map (fun c => (c, (List.range 20).map (fun p =>
      (clampI 0 255 (((tapsOf k c).getD p 0 : Int) + roundRat (coeff (Config.tapCoeff p) * dT / 64))).toNat)))
    trims := (List.range 1536).map (fun c =>
      let w := Table.getD 256 k.trims c
      (c, w - bits 8 0 w + (clampI 0 511 ((bits 8 0 w : Int) + roundRat (coeff Config.trimCoeff * dT / 256))).toNat)) }

/-- Form a derived set for the next boundary when T_a has moved by 1 degC. -/
def formDerived (m : Nat) (s : State) : State :=
  match s.thermal.ta with
  | none => s
  | some ta =>
    if m ≠ 4 ∧ s.calib.calibrated ∧ s.calib.next.isNone ∧ 4 ≤ |ta - s.calib.derivedTemp| then
      count .derivedSets 1 (modCalib (fun v => { v with next := some (derivedSet v.base ta, some ta) }) s)
    else s

/-- Channels whose mask or threshold step two sets give differently (R173). -/
def gateChanged (a b : CalSet) : List Nat :=
  (List.range 1536).filter (fun c => decide (Table.getD 256 a.trims c / 16384 ≠ Table.getD 256 b.trims c / 16384))

/-- Put the pending set in force (R98, R186, R352), and give the coming sheet's parity the set in force. -/
def applySet (parity : Bool) (s : State) : State :=
  let t := match s.calib.next with
    | none => s
    | some (k, temp) =>
      let ch := gateChanged s.calib.live k
      let u := modCalib (fun v => match temp with
        | some q => { v with next := none, live := k, derived := true, derivedTemp := q }
        | none => { v with
            next := none, live := k, base := k, derived := false, derivedTemp := k.tSet, baseline := k.tSet,
            slot := if v.calibrated then 1 - v.slot else 0, calibrated := true }) s
      { u with ambEng := { u.ambEng with dueChans := u.ambEng.dueChans ++ ch.filter (fun c => !u.ambEng.dueChans.contains c) } }
  modCalib (fun v => if parity then { v with set1 := v.live } else { v with set0 := v.live }) t

end Sys2Proof.Machine
end

