-- ==== Sys2Proof/Machine/AuxSense.lean ====
section
/-! DEFINITION. The auxiliary converter and NEARDIST (chapter 15). -/

namespace Sys2Proof.Machine

open Sys2Proof

def modAux (f : Aux → Aux) (s : State) : State := { s with aux := f s.aux }

/-! ## Inputs and their entries (R369, R376) -/

/-- Inputs that records name: board NTCs, second bias sense, supply channel. -/
def namedInputs (s : State) : List Nat :=
  s.legend.boards.flatMap (fun b => [b.ntcA, b.ntcB]) ++ [s.legend.bias.second, s.legend.scan.supplyCh]

/-- Is an input converted in the cycle? -/
def inputEnabled (s : State) (n : Nat) : Bool :=
  decide (n < 16) && ((Table.getD {} s.legend.aux n).enable || (namedInputs s).contains n)

/-- An input converted with excitation 0 and in range 3 whatever its entry says: supply channel, second sense,
BIAS_SNS. -/
def plainInput (s : State) (n : Nat) : Bool :=
  decide (n = s.legend.scan.supplyCh ∨ n = s.legend.bias.second ∨ n = 16)

/-- The entry an input is converted under. -/
def auxEntry (s : State) (n : Nat) : AuxEntry :=
  let e := Table.getD {} s.legend.aux n
  if plainInput s n then { e with excitation := false, range := 3 } else e

/-- Range of an input's next conversion. -/
def nextRange (s : State) (n : Nat) : Nat :=
  let e := auxEntry s n
  if 16 ≤ n then 3 else if e.range = 0 then (auxOf s n).range else e.range

/-- T_r of a period code, taps: whole 10 ns counts (Table 15.3). -/
def rejectTaps (code : Nat) : Nat := 320 * [2000000, 1666667, 333333, 166667, 100000].getD code 333333

/-- t_s and T_r of an input, taps: 50 us and 1 ms for BIAS_SNS, the second sense after it and the reference check, else
those of its entry (R371, R372, R374). -/
def convTimes (s : State) (n : Nat) (bias : Bool) : Nat × Nat :=
  if 16 ≤ n || bias then (us 50, ms 1) else (us 10 * (auxEntry s n).settling, rejectTaps (auxEntry s n).period)

/-- The conversion of an input; a repeat has no settling delay (R377). -/
def convOf (s : State) (n : Nat) (urgent again bias : Bool) : Conv :=
  { input := n, range := if again then 3 else nextRange s n, urgent := urgent, again := again, bias := bias,
    exc := decide (n = 17) || (decide (n < 16) && (auxEntry s n).excitation), begun := 0,
    settle := if again then 0 else (convTimes s n bias).1, integrate := (convTimes s n bias).2 }

/-- End of a conversion's integration, and of its read-out 20 us later (R371). -/
def integrated (c : Conv) : Nat := c.begun + c.settle + c.integrate
def convEnd (c : Conv) : Nat := integrated c + us 20

/-- AUX_EXC is driven to 2.500 V (R367). -/
def auxExc (s : State) : Bool := match s.aux.cur with | none => false | some c => c.exc && decide (s.now < integrated c)

/-! ## Order (R373, R374, R377) -/

/-- The input of the cycle at or after `n`: enabled inputs in ascending number, then the reference check. -/
def cycleFrom (s : State) (n : Nat) : Nat :=
  (((List.range 16).filter (fun i => decide (n ≤ i) && inputEnabled s i)).head?).getD 17

/-- The conversions of an urgent request. -/
def urgentConvs (s : State) (supply : Bool) : List Conv :=
  if supply then [convOf s s.legend.scan.supplyCh true false false]
  else if s.legend.bias.second < 16 then [convOf s 16 true false true, convOf s s.legend.bias.second true false true]
  else [convOf s 16 true false true]

/-- Begin a conversion at `at_`: a settling delay takes up the lengthening of 200 us that is due (R378). -/
def beginConv (at_ : Nat) (c : Conv) (s : State) : State :=
  modBias (fun v => if c.bias && decide (c.input = 16) then { v with spanned := false } else v)
    (modAux (fun a => { a with
      cur := some { c with begun := at_, settle := if a.lengthen && !c.again then c.settle + us 200 else c.settle },
      lengthen := a.lengthen && c.again }) s)

/-- Begin the next conversion at `at_`: the rest of an urgent request, the next urgent request, a repeat, the cycle. -/
def startNext (at_ : Nat) (s : State) : State :=
  match s.aux.serving with
  | c :: r => beginConv at_ c (modAux (fun a => { a with serving := r }) s)
  | [] =>
    match s.aux.urgent with
    | q :: r =>
      (match urgentConvs s q with
       | [] => modAux (fun a => { a with urgent := r }) s
       | c :: cs => beginConv at_ c (modAux (fun a => { a with urgent := r, serving := cs, biasPaths := none }) s))
    | [] =>
      match s.aux.repeat_ with
      | some n => beginConv at_ (convOf s n false true false) (modAux (fun a => { a with repeat_ := none }) s)
      | none =>
        let n := cycleFrom s s.aux.cycle
        beginConv at_ (convOf s n false false false) (modAux (fun a => { a with cycle := if n = 17 then 0 else n + 1 }) s)

/-! ## Codes (R370, R372) -/

/-- The code of a result; the over-range codes stand for what reaches them.  With no reference the code is that of the
sign, and of 0 V a free value. -/
def convCode (vin : Int) (vref range : Nat) : Int :=
  if vref = 0 then (if 0 < vin then 524287 else if vin < 0 then -524288 else clampI (-524288) 524287 Config.noRatio)
  else clampI (-524288) 524287 (roundRat ((524288 * vin * gainOf range * 1000 : Int) / (1024 * vref : Nat)))

/-- A reference code outside 237,037 to 278,261 is a reference fault. -/
def refBad (x : Int) : Bool := decide (x < 237037 ∨ 278261 < x)

/-- Range of the next conversion after a sample of code `x` in range `r` (R376). -/
def rangeAfter (r : Nat) (x : Int) : Nat :=
  if r < 3 ∧ 491520 ≤ x.natAbs then r + 1
  else if 1 < r ∧ x.natAbs ≤ 57344 then r - 1
  else r

/-! ## Pairs (R380) -/

/-- One comparison of an input with its partner. -/
def comparePair (limit : Nat) (d : Rat) (v : AuxIn) : AuxIn :=
  if (limit : Rat) < |d| then
    { v with pairBad := min 3 (v.pairBad + 1), pairGood := 0, pairFault := v.pairFault || decide (3 ≤ v.pairBad + 1) }
  else
    { v with pairBad := 0, pairGood := min 8 (v.pairGood + 1), pairFault := v.pairFault && decide (v.pairGood + 1 < 8) }

/-- Compare input `a` with its partner; entry into and out of the fault is logged and counted. -/
def pairOne (a : Nat) (s : State) : State :=
  let e := auxEntry s a
  let v := auxOf s a
  match v.valid, (auxOf s e.partner).valid with
  | some x, some y =>
    let w := comparePair e.pairLimit (x - y) v
    let t := setAux a w s
    if w.pairFault = v.pairFault then t
    else count (.pairFaults a) 1 (logEvent 10 (if w.pairFault then 1 else 2) a (sampleWord t a) t)
  | _, _ => s

/-- The comparisons that a sample of input `n` brings. -/
def pairsAfter (n : Nat) (s : State) : State :=
  ((List.range 16).filter (fun a => inputEnabled s a && (auxEntry s a).pair &&
    decide (a = n ∨ (auxEntry s a).partner = n))).foldl (fun t a => pairOne a t) s

/-! ## Bias paths (R96, R375, R380) -/

/-- Magnitude of a path in uV: 16 x 1.024 x V_AUX_REF / 524,288 a code, with the latest reference check. -/
def biasMicro (s : State) (x : Int) : Nat :=
  if s.aux.xRef ≤ 0 then 0 else divRoundN (20000000 * x.natAbs) s.aux.xRef.toNat

/-- Judge a value against another: out of tolerance three times in a row is a fault of `cause`. -/
def awayFrom (s : State) (a b : Nat) : Bool := decide (1000 * s.legend.bias.rbTol < binGap a b)

/-- A readback of BIAS_SNS. -/
def judgeReadback (x : Int) (s : State) : State :=
  let bad := overRange x || awayFrom s (biasMicro s x) s.bias.vCmd
  let n := if bad then s.bias.rbRun + 1 else 0
  let t := modBias (fun v => { v with rbRun := min n 3 }) s
  if 3 ≤ n then biasFault 1 t else t

/-- The second path after BIAS_SNS: the magnitudes of the two are compared (R380). -/
def judgePaths (first : Nat) (x : Int) (s : State) : State :=
  let bad := awayFrom s (biasMicro s x) first
  let n := if bad then s.bias.pairRun + 1 else 0
  let t := modBias (fun v => { v with pairRun := min n 3 }) s
  if 3 ≤ n then biasFault 2 t else t

/-- The part of an urgent bias readback that a sample completes; one that spans a change of V_cmd is discarded. -/
def biasSample (c : Conv) (x : Int) (s : State) : State :=
  if !c.bias || !s.bias.on then s
  else if c.input = 16 then
    if s.legend.bias.second < 16 then modAux (fun a => { a with biasPaths := some (toTwos 20 x) }) s
    else if s.bias.spanned then count .readbacksDiscarded 1 s
    else judgeReadback x s
  else
    match s.aux.biasPaths with
    | none => s
    | some w =>
      let t := modAux (fun a => { a with biasPaths := none }) s
      if s.bias.spanned then count .readbacksDiscarded 1 t
      else
        let y := ofTwos 20 w
        judgePaths (biasMicro t y) x (judgeReadback y t)

/-! ## A sample (R376 to R379) -/

/-- Store the sample of a conversion. -/
def storeSample (c : Conv) (x0 : Int) (ov : Bool) (s : State) : State :=
  let x := if s.aux.refFault then 524287 else x0
  let tag := if s.aux.refFault then 3 else c.range
  let v := auxOf s c.input
  let changed := c.again || (v.sampled && decide (v.tag ≠ tag))
  let past := overRange x
  let auto := decide (c.input < 16) && decide ((auxEntry s c.input).range = 0)
  let w := { v with
    code := x, tag := tag, changed := changed, overvoltage := ov, urgent := c.urgent, sampled := true,
    time := localAt s (convEnd c) % 2 ^ 48, range := if auto then rangeAfter tag x else v.range,
    valid := if past || ov then none else some ((x : Rat) / gainOf tag) }
  let t := setAux c.input w s
  let t := if changed then count (.rangeChanges c.input) 1 t else t
  let t := if ov then count (.overvoltages c.input) 1 t else t
  let t := if past then count (.overRanges c.input) 1 t else t
  modAux (fun a => { a with lengthen := ov || past }) t

/-- REFERENCE_CHECK (R372). -/
def referenceCheck (x : Int) (s : State) : State :=
  let bad := refBad x
  let was := s.aux.refFault
  let t := modAux (fun a => { a with refFault := bad, xRef := x }) s
  if bad && !was then count .refFaults 1 (logEvent 10 3 17 (sampleWord t 17) t) else t

/-- The sample of a conversion and what follows from it. -/
def sampleDone (c : Conv) (x : Int) (ov : Bool) (s : State) : State :=
  let t := if c.input = 17 then referenceCheck x s else s
  let t := pairsAfter c.input (storeSample c x ov t)
  let t := biasSample c (auxOf t c.input).code t
  if c.urgent && !c.bias then logEvent 10 4 c.input (sampleWord t c.input) t else t

/-- A conversion ends with a code: a sample, or, over range in range 1 or 2 of an autoranging input, a repeat. -/
def convDone (c : Conv) (x : Int) (ov : Bool) (s : State) : State :=
  let t := count .conversions 1 (modAux (fun a => { a with cur := none }) s)
  let auto := decide (c.input < 16) && decide ((auxEntry s c.input).range = 0)
  if auto && decide (c.range < 3) && overRange x then
    modAux (fun a => { a with repeat_ := some c.input }) t
  else sampleDone c x ov t

/-- AUX_CONVERSION_DONE: the conversion in progress ends, and the next starts there (R371). -/
def execAuxConversionDone (dt : Nat) (vin : Int) (vref : Nat) (overvoltage : Bool) (s : State) : Out :=
  let t := advance dt s
  .next (match t.aux.cur with
    | none => t
    | some c =>
      if convEnd c ≤ t.now then
        startNext (convEnd c) (watchSafety (convDone c (convCode vin vref c.range) overvoltage) t)
      else t)

/-! ## NEARDIST (R381 to R386) -/

def modNear (f : NearDist → NearDist) (s : State) : State := { s with near := f s.near }

/-- A channel's bank lights a bearing under the mode's own records (R384). -/
def plannedAt (s : State) (mode c β : Nat) : Bool :=
  let m := modeTable s mode
  let b := c / 48
  bit b m.banks && bit (c / 24) m.groups && (m.boost || !isBoost b) && decide (0 < shotsAt (fireTable s mode) m 32 b β)

/-- Planned points of a zone. -/
def zonePlanned (s : State) (mode : Nat) (z : Zone) : Nat :=
  ((List.range 1536).map (fun c => (List.range (modeTable s mode).nb).countP (fun β =>
    zoneHolds z c β && plannedAt s mode c β))).sum

/-- A zone lacks more than half of its planned points. -/
def zoneBlind (s : State) (o : SheetOut) (z : Zone) (k : Nat) : Bool :=
  let n := zonePlanned s o.mode z
  z.enable && decide (n < 2 * (n - Table.getD 0 o.delivered k))

/-- The sheet's value (R383, R384). -/
def sheetValue (s : State) (d : DistRec) (o : SheetOut) : Near :=
  if (List.range d.zones.length).any (fun k => match d.zones[k]? with | none => false | some z => zoneBlind s o z k) then
    .noData
  else
    match (o.nearest.map (·.2)).min? with
    | none => .clear
    | some m => .object m (((o.nearest.filter (fun e => decide (e.2 = m))).map (·.1)).min?.getD 0)

/-- The next sheet whose value can be ready: its sweep is over and its last point has left the contour units. -/
def readySheet (s : State) : Option SheetOut :=
  s.contour.sheets.find? (fun o => !o.valueDone && sweepDone s o && o.due.isEmpty)

/-- A value becomes ready. -/
def valueReady (o : SheetOut) (s : State) : State :=
  let t := modSheetOut o.sheet (fun o => { o with valueDone := true }) s
  match distOf s o.mode with
  | none => t
  | some d =>
    let v := sheetValue s d o
    let t := modNear (fun n => { n with next := v, lastValue := s.now }) t
    if v = .noData then count .noDataSheets 1 t else t

/-- NEARDIST_VALUE_READY. -/
def execNeardistValueReady (dt : Nat) (s : State) : Out :=
  let t := advance dt s
  .next (match readySheet t with
    | none => t
    | some o => valueReady o t)

/-- The distance output record in force; the defaults of Table 15.5 where there is none. -/
def distInForce (s : State) : DistRec :=
  if s.phase == .mode || s.phase == .safeStop then (distOf s s.seq.mode).getD {} else {}

/-- The state that the next period shows: no data in Start, Idle, Safe stop and without a record (R381). -/
def nearShown (s : State) : Near :=
  if s.phase == .mode && decide (s.seq.mode ≠ 5) && (distOf s s.seq.mode).isSome then s.near.next else .noData

/-- Round a non-negative rational, halves upward. -/
def roundUp (q : Rat) : Nat := (q + 1 / 2).floor.toNat

/-- Frequency of a state, Hz (Table 15.6). -/
def nearFreq (d : DistRec) : Near → Rat
  | .noData => d.fNoData
  | .clear => d.fClear
  | .object r _ => (d.fFar : Rat) + ((d.fNear : Rat) - d.fFar) * (1 - (r : Rat) / (10 * d.dMax : Nat))

/-- High time of a state in the pulse-width encoding, us. -/
def nearHigh (d : DistRec) (n : Near) : Nat :=
  let tp : Rat := 1000 * d.tp
  roundUp (match n with
    | .noData => tp / 20
    | .clear => tp * 19 / 20
    | .object r _ => tp * (1 / 10 + (4 / 5) * (r : Rat) / (10 * d.dMax : Nat)))

/-- High time and period of a state, us (R385). -/
def nearTimes (d : DistRec) (n : Near) : Nat × Nat :=
  if d.freq then
    let p := roundUp (1000000 / nearFreq d n)
    (p / 2, p)
  else (nearHigh d n, 1000 * d.tp)

/-- The next rising edge: when the period in progress is complete; the first one comes after reset release (R385). -/
def nearEdge (s : State) : Nat := match s.near.edgeAt with | none => s.now | some e => e + us s.near.period

/-- NEARDIST_PERIOD: a rising edge; a new state takes effect here. -/
def execNeardistPeriod (dt : Nat) (s : State) : Out :=
  let t := advance dt s
  .next (when_ (t.phase != .reset && decide (nearEdge t ≤ t.now)) (fun t =>
    let d := distInForce t
    let n := nearShown t
    modNear (fun v => { v with
      out := n, freq := d.freq, high := (nearTimes d n).1, period := (nearTimes d n).2, edgeAt := some (nearEdge t) }) t) t)

/-- NEARDIST_NO_DATA_TIMEOUT: no value for three sheet periods. -/
def execNeardistNoDataTimeout (dt : Nat) (s : State) : Out :=
  let t := advance dt s
  .next (if t.phase != .reset && decide (t.near.lastValue + 3 * sheetTaps t ≤ t.now) then
    modNear (fun n => { n with next := .noData }) t else t)

end Sys2Proof.Machine
end

