-- ==== Sys2Proof/Machine/ImageLoad.lean ====
section
/-! DEFINITION. The records of the Legend image: framing, fields and their clamping, and the tables they become
(R274 to R282, Tables 11.3 to 11.8). -/

namespace Sys2Proof.Machine

open Sys2Proof

/-! ## Framing (R274, Table 11.4) -/

/-- One record as it stands in the image. -/
structure Rec where
  type : Nat
  inst : Nat
  body : List Byte

/-- Body bytes of a type; none where they vary. -/
def recLength (type : Nat) : Option Nat :=
  ([(1, 32), (2, 16), (3, 16), (4, 520), (5, 40), (6, 8192), (7, 64), (8, 96), (9, 72), (10, 72), (11, 128), (12, 80),
    (13, 8), (14, 8), (15, 64), (17, 136), (32, 280)].find? (fun e => decide (e.1 = type))).map (·.2)

/-- Is a type listed, with this instance? -/
def recListed (type inst : Nat) : Bool :=
  if [0, 1, 2, 8, 9, 10, 11, 13, 32].contains type then decide (inst = 0)
  else if type = 3 then decide (inst ≤ 7)
  else if type = 4 then decide (inst ≤ 3)
  else if [5, 6, 7, 12].contains type then decide (1 ≤ inst ∧ inst ≤ 6)
  else if type = 14 then decide (1 ≤ inst ∧ inst ≤ 7)
  else if type = 15 then decide (inst ≤ 4)
  else if type = 16 then decide (inst < 128 ∧ inst / 16 < 7 ∧ inst / 4 % 4 = 0)
  else if type = 17 then decide (inst ≤ 31)
  else false

/-- A body length matches its type. -/
def recLengthOk (r : Rec) : Bool :=
  match recLength r.type with
  | some n => decide (r.body.length = n)
  | none => if r.type = 16 then decide (264 ≤ r.body.length ∧ r.body.length = 264 + leAt r.body 196 4) else true

/-- Load result, type and instance of the record that failed. -/
abbrev LoadFail := Nat × Nat × Nat

/-- Walk the records in `l`, `k` at most, after those already seen: the records, or the failure. -/
def walkRecs : Nat → List Byte → List (Nat × Nat) → Nat → Nat → Except LoadFail (List Rec)
  | 0, l, _, n, want => if l.isEmpty && n = want then .ok [] else .error (3, 0, 0)
  | k + 1, l, seen, n, want =>
    if l.isEmpty then (if n = want then .ok [] else .error (3, 0, 0))
    else
      let type := leAt l 7 1
      let inst := leAt l 6 1
      let len := leAt l 0 4
      if l.length < 8 + len ∨ len % 8 ≠ 0 then .error (3, type, inst)
      else
        let r : Rec := { type := type, inst := inst, body := slice l 8 len }
        if !recListed type inst then .error (4, type, inst)
        else if !recLengthOk r then .error (3, type, inst)
        else if type ≠ 0 && seen.contains (type, inst) then .error (5, type, inst)
        else
          match walkRecs k (l.drop (8 + len)) ((type, inst) :: seen) (n + 1) want with
          | .error e => .error e
          | .ok t => .ok (if type = 0 then t else r :: t)

/-- A record of a type and instance. -/
def recOf (l : List Rec) (type inst : Nat) : Option (List Byte) :=
  (l.find? (fun r => decide (r.type = type ∧ r.inst = inst))).map (·.body)

/-- Records of a type: instance and body. -/
def recsOf (l : List Rec) (type : Nat) : List (Nat × List Byte) :=
  sortBy (fun a b => decide (a.1 < b.1)) ((l.filter (fun r => decide (r.type = type))).map (fun r => (r.inst, r.body)))

/-- The required record that is absent (R275). -/
def missingRec (l : List Rec) : Option (Nat × Nat) :=
  let boards := recsOf l 3
  let top := boards.length
  let gap := (List.range top).find? (fun i => (recOf l 3 i).isNone)
  let types := boards.map (fun b => bits 33 32 (leAt b.2 8 8))
  if (recOf l 1 0).isNone then some (1, 0)
  else if (recOf l 2 0).isNone then some (2, 0)
  else if boards.isEmpty then some (3, 0)
  else
    match gap, types.find? (fun t => (recOf l 4 t).isNone) with
    | some i, _ => some (3, i)
    | none, some t => some (4, t)
    | none, none =>
      if (recOf l 5 5).isNone then some (5, 5) else if (recOf l 32 0).isNone then some (32, 0) else none

/-! ## Fields (R276) -/

/-- A field: word, highest and lowest bit, least and greatest listed value, and a listed value outside that range. -/
structure Fld where
  w : Nat
  hi : Nat
  lo : Nat
  min : Nat
  max : Nat
  extra : Option Nat := none

/-- The nearest listed value. -/
def nearestListed (f : Fld) (v : Nat) : Nat :=
  let c := clampN f.min f.max v
  match f.extra with
  | none => c
  | some x =>
    let d := if v < c then c - v else v - c
    let e := if v < x then x - v else v - x
    if e < d ∨ (e = d ∧ (Config.clampUp = decide (c < x))) then x else c

/-- Is a value listed? -/
def fldListed (f : Fld) (v : Nat) : Bool := decide (f.min ≤ v ∧ v ≤ f.max) || f.extra == some v

/-- The value of a field as taken. -/
def fldGet (body : List Byte) (f : Fld) : Nat :=
  let v := bits f.hi f.lo (leAt body (8 * f.w) 8)
  if fldListed f v then v else nearestListed f v

/-- Fields that hold an unlisted value. -/
def fldClamped (body : List Byte) (l : List Fld) : Nat :=
  l.countP (fun f => !fldListed f (bits f.hi f.lo (leAt body (8 * f.w) 8)))

/-- A field without limits of its own. -/
def fl (w hi lo min max : Nat) : Fld := { w := w, hi := hi, lo := lo, min := min, max := max }

def scanFields : List Fld :=
  [fl 0 63 60 4 8, fl 0 59 55 10 30, fl 0 54 49 4 48, fl 0 48 37 0 3599, fl 0 36 26 200 2000, fl 0 25 19 1 64,
   fl 1 63 58 20 50, fl 1 57 51 4 80, fl 1 50 39 256 4095, fl 1 38 30 10 500, fl 1 29 24 10 60, fl 1 23 20 0 15,
   fl 2 63 48 0 65535, fl 2 47 32 0 65535, fl 2 31 31 0 1, fl 2 30 30 0 1, fl 2 29 28 0 3,
   fl 3 63 63 0 1, fl 3 62 47 64 65535, fl 3 46 39 0 255]

/-- The camera offset's field, whose limit follows r_s. -/
def offsetField (rs : Nat) : Fld := fl 2 27 8 0 (1000000 / rs - 1)

def scanOf (b : List Byte) : ScanRec :=
  let v := (scanFields.map (fldGet b)).getD
  { facets := v 0 6, rs := v 1 20, poles := v 2 6, edgeAngle := v 3 0, gap := v 4 360, rampLen := v 5 8, pwmKHz := v 6 25,
    deadTime := v 7 16, currentLimit := v 8 3000, accel := v 9 100, observerTol := v 10 30, supplyCh := v 11 15,
    kp := v 12 0, ki := v 13 0, sync := v 14 0 = 1, edgeFalling := v 15 0 = 1, divider := v 16 0 + 1,
    offsetUs := fldGet b (offsetField (v 1 20)), clkOut := v 17 0 = 1, clkDiv := v 18 256, clkDelay := v 19 0 }

def scanClamped (b : List Byte) : Nat :=
  fldClamped b scanFields + fldClamped b [offsetField (fldGet b (fl 0 59 55 10 30))]

/-- V_ov has no lower limit of its own: R454 checks it. -/
def biasFields : List Fld :=
  [fl 0 63 58 20 50, fl 0 57 46 2000 3000, fl 0 45 34 2000 3000, fl 0 33 22 2200 2800, fl 0 21 10 2200 2800,
   fl 1 63 52 0 2950, fl 1 51 48 1 10, fl 1 47 43 1 20, fl 1 42 34 50 500,
   { w := 1, hi := 33, lo := 26, min := 0, max := 15, extra := some 255 }]

def biasOf (b : List Byte) : BiasRec :=
  let v := (biasFields.map (fldGet b)).getD
  { vEx := 100 * v 0 30, vLo := 10 * v 1 2200, vHi := 10 * v 2 2800, vMin := 10 * v 3 2200, vMax := 10 * v 4 2800,
    vOv := 10 * v 5 2850, deadBand := 5 * v 6 2, stepLimit := 10 * v 7 4, rbTol := v 8 300, second := v 9 255 }

/-- The checks of R454. -/
def biasConflict (b : BiasRec) : Bool := !(decide (b.vLo < b.vHi ∧ b.vMin < b.vMax ∧ b.vMax + 200 ≤ b.vOv))

def bankField (i : Nat) : Fld := { w := 0, hi := 8 * i + 7, lo := 8 * i, min := 0, max := 31, extra := some 255 }

def boardRecOf (b : List Byte) : BoardRec :=
  { banks := (List.range 8).map (fun i => fldGet b (bankField i)), type := bits 33 32 (leAt b 8 8),
    ntcB := bits 31 28 (leAt b 8 8), ntcA := bits 27 24 (leAt b 8 8),
    pos := (List.range 8).map (fun i => bits (3 * i + 2) (3 * i) (leAt b 8 8)) }

def boardClamped (b : List Byte) : Nat := fldClamped b ((List.range 8).map bankField)

def boardTypeFields : List Fld := [fl 0 63 56 0 255, fl 0 55 49 60 125, fl 0 48 42 40 100, fl 0 41 36 1 48, fl 0 35 32 1 15]

def boardTypeOf (b : List Byte) : BoardType :=
  let v := (boardTypeFields.map (fldGet b)).getD
  { diagCode := v 0 80, tOff := v 1 100, knee := v 2 70, nRef := v 3 24, tRef := 8 * v 4 6,
    curve := (List.range 256).map (fun c => leAt b (8 + 2 * c) 2 % 1024) }

def modeFields : List Fld :=
  [fl 0 63 52 16 2400, fl 0 51 46 4 32, fl 0 45 42 1 10, fl 0 41 31 32 1024, fl 0 30 25 2 40, fl 0 18 12 1 64,
   fl 0 11 9 1 6, fl 0 8 4 2 16, fl 1 63 59 8 16, fl 1 58 53 4 40, fl 1 52 47 0 40, fl 1 46 44 0 7, fl 1 43 36 0 255,
   fl 1 35 34 0 3, fl 1 33 25 0 272, fl 1 24 17 16 255, fl 1 16 11 1 63, fl 1 10 1 0 1000, fl 1 0 0 0 1,
   fl 2 63 58 0 40, fl 2 57 51 0 64, fl 2 50 47 1 8, fl 2 46 37 0 1023, fl 2 36 31 0 63, fl 2 30 28 0 4, fl 2 27 24 1 8,
   fl 2 23 16 0 255, fl 2 15 0 0 65534]

/-- The shot minimum's field, whose limit is Q. -/
def shotMinField (q : Nat) : Fld := fl 0 24 19 4 q

def modeOf (b : List Byte) : ModeTable :=
  let v := (modeFields.map (fldGet b)).getD
  { nb := v 0 1200, q := v 1 6, d := v 2 6, w := 2 * v 3 1024, stagger := 50 * v 4 10,
    shotMin := fldGet b (shotMinField (v 1 6)), nc := v 5 15, k := v 6 2, tau := v 7 4, lOv := v 8 12, tRec := 5 * v 9 12,
    tBlank := v 10 8, scale := v 11 0, n0 := v 12 2, preset := v 13 1, m0 := v 14 64, kappa := v 15 80, tMin := v 16 2,
    gamma := v 17 290, boost := v 18 1 = 1, vq := 5 * v 19 4, ng := v 20 5, gn := v 21 2, nRain := v 22 83, wx := v 23 8,
    ns := v 24 2, db := v 25 2, cHard := v 26 160, lIf := v 27 4, banks := bits 63 32 (leAt b 24 8), groups := leAt b 32 8 }

def modeClamped (b : List Byte) : Nat :=
  fldClamped b modeFields + fldClamped b [shotMinField (fldGet b (fl 0 51 46 4 32))]

/-- A fire sheet's entries that are not zero (R279). -/
def fireOf (b : List Byte) : Table Nat :=
  ((List.range 1024).map (fun i => (i, leAt b (8 * i) 8))).filter (fun e => e.2 ≠ 0)

def dumpFields (i : Nat) : List Fld :=
  [fl i 63 63 0 1, fl i 62 52 0 1535, fl i 51 41 0 1535, fl i 40 29 0 2399, fl i 28 17 0 2399, fl i 16 9 1 255]

def phaseField (i divider : Nat) : Fld := fl i 8 1 0 (divider - 1)

def dumpOf (b : List Byte) (i : Nat) : DumpSel :=
  let v := ((dumpFields i).map (fldGet b)).getD
  { enable := v 0 0 = 1, firstCh := v 1 0, lastCh := v 2 0, firstBe := v 3 0, lastBe := v 4 0, divider := v 5 1,
    phase := fldGet b (phaseField i (v 5 1)) }

def dumpClamped (b : List Byte) : Nat :=
  ((List.range 8).map (fun i =>
    fldClamped b (dumpFields i) + fldClamped b [phaseField i (fldGet b (fl i 16 9 1 255))])).sum

/-- Coefficients of a preset. -/
def firOf (b : List Byte) (j : Nat) : List Int := (List.range 16).map (fun i => ofTwos 16 (leAt b (32 * j + 2 * i) 2))

/-- Chomel's default sets (R167). -/
def firDefault : List (List Int) :=
  [List.replicate 16 2048, List.replicate 8 4096 ++ List.replicate 8 0, List.replicate 4 8192 ++ List.replicate 12 0]

def orderFields : List Fld := (List.range 64).map (fun i => fl (i / 8) (8 * (i % 8) + 7) (8 * (i % 8)) 0 63)
def keepFields : List Fld := [fl 8 7 0 0 64, fl 8 15 8 0 64, fl 8 23 16 0 64]
def throttleFields : List Fld := [fl 8 63 60 1 15, fl 8 59 52 1 255, fl 8 51 40 1 4000, fl 8 39 31 1 511]

/-- An order of groups: repeats keep their first place, those missing follow in ascending order (R277). -/
def groupOrder (l : List Nat) : List Nat :=
  let once := l.foldl (fun a g => if a.contains g then a else a ++ [g]) []
  once ++ (List.range 64).filter (fun g => !once.contains g)

/-- Auxiliary entry n; the period is a list of codes (R276). -/
def auxFields (n : Nat) : List Fld :=
  [fl n 63 63 0 1, fl n 62 55 0 255, fl n 51 50 0 3, fl n 49 49 0 1, fl n 48 48 0 1, fl n 47 44 0 15, fl n 43 24 1 1048575]

def auxOfBody (b : List Byte) (n : Nat) : AuxEntry :=
  let v := ((auxFields n).map (fldGet b)).getD
  let p := bits 54 52 (leAt b (8 * n) 8)
  { enable := v 0 0 = 1, settling := v 1 10, period := if p ≤ 4 then p else 2, range := v 2 0, excitation := v 3 1 = 1,
    pair := v 4 0 = 1, partner := v 5 0, pairLimit := v 6 4096 }

def auxClamped (b : List Byte) : Nat :=
  ((List.range 16).map (fun n => fldClamped b (fl n 54 52 0 4 :: auxFields n))).sum

def distFields : List Fld :=
  [fl 0 63 63 0 1, fl 0 62 49 50 10000, fl 0 48 41 0 255, fl 0 40 34 5 100, fl 1 63 48 10 5000, fl 1 47 32 10 5000,
   fl 1 31 16 10 5000, fl 1 15 0 10 5000]

def zoneFirst (i : Nat) : List Fld := [fl (2 + i) 63 63 0 1, fl (2 + i) 62 56 0 95, fl (2 + i) 48 45 0 15, fl (2 + i) 40 29 0 2399]

/-- Fields of a zone that follow others: last row, column and bearing, and the limit. -/
def zoneLast (b : List Byte) (i : Nat) : List Fld :=
  let v := ((zoneFirst i).map (fldGet b)).getD
  [fl (2 + i) 55 49 (v 1 0) 95, fl (2 + i) 44 41 (v 2 0) 15, fl (2 + i) 28 17 (v 3 0) 2399,
   fl (2 + i) 16 3 0 (fldGet b (fl 0 62 49 50 10000))]

def zoneOf (b : List Byte) (i : Nat) : Zone :=
  let v := ((zoneFirst i).map (fldGet b)).getD
  let w := ((zoneLast b i).map (fldGet b)).getD
  { enable := v 0 0 = 1, firstRow := v 1 0, lastRow := w 0 0, firstCol := v 2 0, lastCol := w 1 0, firstBe := v 3 0,
    lastBe := w 2 0, limit := w 3 0 }

def distOfBody (b : List Byte) : DistRec :=
  let v := (distFields.map (fldGet b)).getD
  { freq := v 0 0 = 1, dMax := v 1 2000, cMin := v 2 64, tp := v 3 10, fNear := v 4 1000, fFar := v 5 100, fClear := v 6 50,
    fNoData := v 7 20, zones := (List.range 8).map (zoneOf b) }

def distClamped (b : List Byte) : Nat :=
  fldClamped b distFields + ((List.range 8).map (fun i => fldClamped b (zoneFirst i) + fldClamped b (zoneLast b i))).sum

def recorderFields : List Fld := [fl 0 63 56 1 60, fl 0 55 48 5 255, fl 0 47 47 0 1]

def planFields : List Fld :=
  [fl 0 63 59 1 31, fl 0 58 57 0 3, fl 0 56 55 0 3, fl 0 54 54 0 1, fl 0 53 42 1 3600,
   { w := 0, hi := 41, lo := 36, min := 8, max := 40, extra := some 0 },
   { w := 0, hi := 35, lo := 29, min := 2, max := 64, extra := some 0 }, fl 0 28 23 12 40]

def planOf (b : List Byte) : LanePlan :=
  let v := (planFields.map (fldGet b)).getD
  { lanes := v 0 15, patDown := v 1 3, patUp := v 2 1, loopback := v 3 0 = 1, duration := v 4 10, ks := v 5 0, burst := v 6 0,
    kb := v 7 20 }

def overrideOf (b : List Byte) : Override :=
  { walk := (List.range 64).map (fun i => ofTwos 16 (leAt b (2 * i) 2)), zero := ofTwos 16 (leAt b 128 2) }

/-! ## Safety block (R282, Table 11.8) -/

def safetyFields : List Fld :=
  [fl 0 55 48 1 1, fl 1 63 32 1 (2 ^ 32 - 1), fl 1 31 23 10 500, fl 1 22 14 10 500, fl 1 13 7 1 100, fl 2 63 58 5 50] ++
  (List.range 32).flatMap (fun b => [fl (3 + b) 63 48 1 65535, fl (3 + b) 47 32 1 65535, fl (3 + b) 31 16 1 65535,
    fl (3 + b) 15 0 1 65535])

/-- The check of a channel: CRC-32C and every field within its values. -/
def safetyOk (b : List Byte) : Bool := decide (leAt b 0 4 = crc32c (b.drop 8)) && decide (fldClamped b safetyFields = 0)

def safetyOfBody (b : List Byte) : SafetyBlock :=
  { profile := bits 63 56 (leAt b 0 8), identity := leAt b 12 4, disc0 := bits 31 23 (leAt b 8 8),
    disc1 := bits 22 14 (leAt b 8 8), expectation := bits 13 7 (leAt b 8 8), ramp := bits 63 58 (leAt b 16 8),
    energy := (List.range 32).map (fun k =>
      let w := leAt b (24 + 8 * k) 8
      (k, { e1 := bits 63 48 w, eSp := bits 47 32 w, eCell := bits 31 16 w, e1s := bits 15 0 w })) }

/-! ## The image (R274 to R281) -/

/-- The image as its records load it. -/
def legendOf (l : List Rec) (build version : Nat) : Legend :=
  let opt {α : Type} (type : Nat) (dflt : α) (f : List Byte → α) : α :=
    match recOf l type 0 with | none => dflt | some b => f b
  let per {α : Type} (type : Nat) (f : List Byte → α) : Table α := (recsOf l type).map (fun e => (e.1, f e.2))
  let thr := opt 10 [4, 20, 60, 64] (fun b => throttleFields.map (fldGet b))
  let recd := opt 13 [12, 20, 0] (fun b => recorderFields.map (fldGet b))
  { version := version
    build := build
    scan := opt 1 {} scanOf
    bias := opt 2 {} biasOf
    boards := (recsOf l 3).map (fun e => boardRecOf e.2)
    boardTypes := per 4 boardTypeOf
    modes := per 5 modeOf
    fire := per 6 fireOf
    dumps := per 7 (fun b => (List.range 8).map (dumpOf b))
    fir := opt 8 firDefault (fun b => [firOf b 0, firOf b 1, firOf b 2])
    priority := groupOrder (opt 9 [] (fun b => orderFields.map (fldGet b)))
    keep := opt 9 [64, 64, 48] (fun b => keepFields.map (fldGet b))
    throttle := opt 10 (List.range 64).reverse (fun b => groupOrder (orderFields.map (fldGet b)))
    calDeltaT := thr.getD 0 4
    rmsLimit := thr.getD 1 20
    maxLimit := thr.getD 2 60
    trimChange := thr.getD 3 64
    aux := opt 11 [] (fun b => (List.range 16).map (fun n => (n, auxOfBody b n)))
    auxPlan := (recOf l 11 0).isSome
    dist := per 12 distOfBody
    ringS := recd.getD 0 12
    post := recd.getD 1 20
    secondCe := recd.getD 2 0 = 1
    plans := per 14 planOf
    keys := per 15 (fun b => (leAt b 0 32, leAt b 32 32))
    patches := ((recsOf l 16).filter (fun e => decide (leAt e.2 194 2 = Config.romRevision % 65536))).map
      (fun e => (e.1 / 16, e.1 % 4))
    overrides := per 17 overrideOf
    safety := opt 32 {} safetyOfBody }

/-- Clamped fields of one record. -/
def recClamped (r : Rec) : Nat :=
  if r.type = 1 then scanClamped r.body
  else if r.type = 2 then fldClamped r.body biasFields
  else if r.type = 3 then boardClamped r.body
  else if r.type = 4 then fldClamped r.body boardTypeFields
  else if r.type = 5 then modeClamped r.body
  else if r.type = 7 then dumpClamped r.body
  else if r.type = 9 then fldClamped r.body (orderFields ++ keepFields)
  else if r.type = 10 then fldClamped r.body (orderFields ++ throttleFields)
  else if r.type = 11 then auxClamped r.body
  else if r.type = 12 then distClamped r.body
  else if r.type = 13 then fldClamped r.body recorderFields
  else if r.type = 14 then fldClamped r.body planFields
  else 0

/-- Patches whose ROM revision differs from the device's (R280). -/
def unappliedPatches (l : List Rec) : Nat :=
  (recsOf l 16).countP (fun e => decide (leAt e.2 194 2 ≠ Config.romRevision % 65536))

end Sys2Proof.Machine
end

