-- ==== Sys2Proof/Machine/Recorder.lean ====
section
/-! DEFINITION. Incident recorder, NAND management and the movement engine's events (chapter 16), part one: mount,
triggers and commits, body blocks, NAND operations. -/

namespace Sys2Proof.Machine

open Sys2Proof

/-! ## RECORDER_MOUNT (R389, R390, R403 to R405) -/

/-- Time per byte on the bus in halves of a nanosecond, in the fastest mode both sides support (Table 16.1; the modes'
rates are those of ONFI, notes/assumptions/15.md). -/
def busHalfNs (p : NandPart) : Nat :=
  if 0 < p.nvDdr2 then [30, 25, 15, 12, 10].getD (min 4 (p.nvDdr2 - 1)) 10 else [200, 100, 70, 60, 50, 40].getD (min 5 p.sdrMode) 40

/-- Does a part meet Table 16.1?  A later revision of ONFI than 4.2 meets it too (notes/assumptions/15.md). -/
def partSuits (p : NandPart) : Bool :=
  decide (402 ≤ p.onfi ∧ p.width = 8 ∧ p.vccqMv = 1800) && [2, 4, 8, 16].contains p.pageKiB && decide (126 * p.pageKiB + 32 ≤ p.spareBytes) &&
    decide (64 ≤ p.pagesPerBlock ∧ p.pagesPerBlock ≤ 1024 ∧ p.tReadUs ≤ 100 ∧ p.tBersUs ≤ 10000) &&
    decide (2000 * p.tProgUs + 1024 * p.pageKiB * busHalfNs p ≤ 200 * (1024 * p.pageKiB)) &&
    p.paramOk && decide (p.endurance ≠ 0)

/-- The incident entry that 64 bytes hold. -/
def incidentParse (l : List Byte) : Incident :=
  let w := leAt l 40 8
  { number := leAt l 0 8, first := leAt l 8 8, last := leAt l 16 8, time := ofTwos 64 (leAt l 24 8), local_ := leAt l 32 8,
    cause := bits 63 56 w, st := bits 55 54 w, joined := bits 53 48 w, segments := bits 47 32 w }

/-- The recorder table in a slot: sequence and body. -/
def tableAt (s : State) (slot : Nat) : Option (Nat × List Byte) :=
  let l := norRead s (0x440000 + 0x10000 * slot) 6228
  let h := l.take 64
  if leAt l 6224 4 ≠ crc32 (l.take 6224) then none
  else
    match gcmOpen (kNor s) (slice h 48 12) h (slice l 64 6144) (slice l 6208 16) with
    | none => none
    | some b => some (leAt h 0 8, b)

/-- The block that an entry of the table names, and whether it is grown. -/
def badParse (n w : Nat) : Nat × Bool := (n * bits 31 31 w + bits 29 0 w, bit 30 w)

/-- Take the table in force; none valid: the factory markers (R394). -/
def mountTable (p : NandPart) (second : Option NandPart) (s : State) : State :=
  let take (slot : Nat) (v : Nat × List Byte) : State :=
    let bad := ((List.range 1024).map (fun i => leAt v.2 (2048 + 4 * i) 4)).filter (· ≠ 0xFFFFFFFF)
    let bad := bad.map (badParse p.blocks)
    modRec (fun r => { r with
      tableSlot := slot, tableSeq := v.1
      incidents := ((List.range 32).map (fun i => incidentParse (slice v.2 (64 * i) 64))).filter (fun i => i.number ≠ 0)
      factory := (bad.filter (fun b => !b.2)).map (·.1), grown := (bad.filter (·.2)).map (·.1) }) s
  match tableAt s 0, tableAt s 1 with
  | some a, some b => if b.1 < a.1 then take 0 a else take 1 b
  | some a, none => take 0 a
  | none, some b => take 1 b
  | none, none =>
    let two := match second with | none => [] | some q => q.factoryBad.map (p.blocks + ·)
    tableWrite (modRec (fun r => { r with factory := p.factoryBad ++ two }) s)

/-- The journal's entries: sequence, page, kind, incident; ascending sequence. -/
def journalEntries (s : State) : List (Nat × Nat × Nat × Incident) :=
  let all := (List.range 512).filterMap (fun i =>
    let l := norRead s (0x460000 + 256 * i) 100
    if l.all (· == 0xFF#8) then none
    else (openPage (kNor s) 8 64 l).map (fun e => (leAt e.1 0 7, i, leAt e.1 7 1, incidentParse e.2)))
  sortBy (fun a b => decide (a.1 < b.1)) all

/-- Apply a journal entry to the incidents held: a prepare counts also where the table has its incident as committed, as long
as no commit entry follows (R405). -/
def journalApply (l : List Incident) (kind : Nat) (i : Incident) : List Incident :=
  let others := l.filter (fun j => decide (j.number ≠ i.number))
  if kind = 3 then others else others ++ [i]

/-- Take the journal. -/
def mountJournal (s : State) : State :=
  let es := journalEntries s
  let top := (es.map (fun e => e.2.2.2.number) ++ s.recd.incidents.map (·.number)).foldl max 0
  let t := modRec (fun r => { r with
    incidents := es.foldl (fun l e => journalApply l e.2.2.1 e.2.2.2) r.incidents, nextIncident := top + 1 }) s
  match es.getLast? with
  | none => t
  | some e => modRec (fun r => { r with journalSeq := e.1 + 1, journalPos := (e.2.1 + 1) % 512 }) t

/-- Powered hours as the record holds them (R406). -/
def mountHours (s : State) : State :=
  let all := (List.range 256).filterMap (fun i =>
    let l := norRead s (0x480000 + 256 * i) 44
    if l.all (· == 0xFF#8) then none else (openPage (kNor s) 8 8 l).map (fun e => leAt e.2 0 8))
  modRec (fun r => { r with hours := all.foldl max r.hours }) s

/-- Bit errors of the codewords of a page as the mount reads it. -/
def mountErrors (m : MountInput) (b page : Nat) : List Nat :=
  match m.errors.find? (fun e => decide (e.1 = b ∧ e.2.1 = page)) with
  | none => []
  | some e => e.2.2

/-- The storage header that page 1 of a block gives, where it reads and is valid (R403 steps 1 and 2). -/
def seenHeader (m : MountInput) (s : State) (b : Nat) : Option (List Byte) :=
  let h := (blockOf s b).header
  if !h.isEmpty && !uncorrectable (mountErrors m b 1) && storageOk h then some h else none

/-- The erase count that page 0 gives, which is read where page 1 is erased. -/
def seenZero (m : MountInput) (s : State) (b : Nat) : Option Nat :=
  let v := blockOf s b
  if v.header.isEmpty && !v.zero.isEmpty && !uncorrectable (mountErrors m b 0) && blockHeaderOk v.zero then
    some (leAt v.zero 8 4)
  else none

/-- The erase count that a block's valid header gives. -/
def seenErases (m : MountInput) (s : State) (b : Nat) : Option Nat :=
  match seenHeader m s b with
  | some h => some (bits 39 8 (leAt h 24 8))
  | none => seenZero m s b

/-- Scan one block (R403 steps 1, 2 and 4). -/
def mountBlock (m : MountInput) (highest b : Nat) (s : State) : State :=
  let v := blockOf s b
  match seenHeader m s b, seenZero m s b with
  | some h, _ => setBlock b { v with st := segKind v, headed := true, erases := bits 39 8 (leAt h 24 8), reads := 1 }
      s
  | none, some n =>
    if isBad s b then setBlock b { v with st := 3 } s
    else setBlock b { v with st := 0, headed := true, erases := n, reads := 2 } s
  | none, none =>
    if isBad s b then setBlock b { v with st := 3 } s
    else count .headerLosses 1 (setBlock b { v with st := 4, headed := false, erases := highest } s)

/-- Is block `b` the one of two with its sequence that goes: the lower generation where the last programmed pages match, else
the higher (R403 step 3)? -/
def losesTo (s : State) (b c : Nat) : Bool :=
  let v := blockOf s b
  let w := blockOf s c
  let matches_ := decide (v.pages.length = w.pages.length ∧ v.pages.getLast? = w.pages.getLast?)
  b != c && !v.header.isEmpty && !w.header.isEmpty && decide (segSeq v = segSeq w) &&
    (if segGen v < segGen w then matches_ else decide (segGen w < segGen v) && !matches_)

/-- Blocks whose storage header holds a segment. -/
def segBlocks (s : State) : List Nat :=
  sortBy (fun a b => decide (segSeq (blockOf s a) < segSeq (blockOf s b)))
    ((s.recd.blocks.filter (fun e => !e.2.header.isEmpty && decide (e.2.st = 1 ∨ e.2.st = 2))).map (·.1))

/-- The header of the record with a sequence, where it is held. -/
def heldHeader (s : State) (seq : Nat) : Option (List Byte) :=
  (findRecord s seq).map (fun e => if e.2 then (blockOf s e.1).closing.take 128 else (blockOf s e.1).sign.take 128)

/-- The body blocks that a body holds whole, `n` at most: kind and content. -/
def bodyParse : Nat → List Byte → List (Nat × List Byte)
  | 0, _ => []
  | n + 1, l =>
    let len := leAt l 0 4
    if len < 8 ∨ l.length < len then [] else (leAt l 7 1, slice l 8 (len - 8)) :: bodyParse n (l.drop len)

/-- First and last data that the sheet blocks of a body give; free values where it holds none. -/
def infoOf (draw_ : Nat) (body : List Byte) : SegInfo :=
  let sh := (bodyParse body.length body).filter (fun e => decide (e.1 = 2))
  match sh.head?, sh.getLast? with
  | some a, some z =>
    { firstSheet := leAt a.2 4 4, lastSheet := leAt z.2 4 4, firstTime := ofTwos 64 (leAt a.2 8 8)
      lastTime := ofTwos 64 (leAt z.2 8 8), step := sh.any (fun e => bit 8 (leAt e.2 0 8))
      slew := sh.any (fun e => bit 9 (leAt e.2 0 8)), sync := bits 2 1 (leAt z.2 0 8) }
  | _, _ =>
    { firstSheet := Config.lostInfo draw_ 0, lastSheet := Config.lostInfo draw_ 1
      firstTime := ofTwos 64 (Config.lostInfo draw_ 2), lastTime := ofTwos 64 (Config.lostInfo draw_ 3), step := false
      slew := false, sync := Config.lostInfo draw_ 4 % 3 }

/-- The plaintext of the data pages from page `i` on, up to the first that is uncorrectable or fails its tag (R404). -/
def verifiedPages (m : MountInput) (b : Nat) (sk : List Byte) : Nat → List (List Byte × List Byte) → List (List Byte)
  | _, [] => []
  | i, p :: r =>
    if uncorrectable (mountErrors m b i) then []
    else
      match gcmOpen sk (leBytes 12 i) [] p.1 (p.2.take 16) with
      | none => []
      | some x => x :: verifiedPages m b sk (i + 1) r

/-- Has the block a page free for one more signature page? -/
def pageFree (s : State) (v : Block) : Bool :=
  match s.recd.part with | none => false | some p => decide (2 + v.pages.length < p.pagesPerBlock)

/-- Program the signature page of block `b` at its first free page, `k` times at most, with the results in turn; where none
reads back `undo` takes what it would hold away (Table 16.2, R394). -/
def trySign (b seq : Nat) (sk : Option (List Byte)) (undo : Block → Block) :
    Nat → List PageResult × State → List PageResult × State
  | 0, x => (x.1, modBlock b undo x.2)
  | k + 1, (l, s) =>
    let p := l.headD goodPage
    if !pageFree s (blockOf s b) then (l, modBlock b undo s)
    else if programmed p then (l.tail, readBack b p (addSignPage b seq sk s))
    else trySign b seq sk undo k (l.tail, spoilPage b (retireBlock b (readBack b p s)))

/-- Is the signature page of a block there, and does it read? -/
def signSeen (m : MountInput) (s : State) (b : Nat) : Bool :=
  !(blockOf s b).sign.isEmpty && !uncorrectable (mountErrors m b (1 + (blockOf s b).pages.length))

/-- MOUNT_CLOSURE (R404): a segment without a valid signature page is closed over its verified pages. -/
def mountClosure (m : MountInput) (b : Nat) (x : List PageResult × State) : List PageResult × State :=
  let s := x.2
  let v := blockOf s b
  let sk := segKey s v.header
  let body := match sk with | none => [] | some k => (verifiedPages m b k 2 v.pages).flatten
  let i := infoOf s.free body
  let n := (s.recd.incidents.find? (fun i => decide (i.first ≤ segSeq v ∧ (i.last = 0 ∨ segSeq v < i.last)))).map (·.number)
  let t := modRec (fun r => { r with prevHash := (heldHeader s (segSeq v - 1)).map sha256 }) { s with free := s.free + 1 }
  let inc := if v.st = 2 then n.getD 0 else 0
  let (h, t) := signRecord (segKind v) (if inc = 0 then 0 else causeOf t inc) (segSeq v) inc i body t
  let t := modBlock b (fun v => { v with body := body, sign := h, closing := [] }) t
  let y := trySign b (segSeq v) sk (fun v => { v with sign := [] }) 2 (x.1, t)
  (y.1, count .closuresAtMount 1 (logEvent 11 6 0 (segSeq v % 2 ^ 32) y.2))

/-- Blocks of consecutive sequences from `seq` on, of blocks in ascending order. -/
def runFrom (s : State) : List Nat → Nat → List Nat
  | [], _ => []
  | b :: r, seq =>
    if segSeq (blockOf s b) < seq then runFrom s r seq
    else if segSeq (blockOf s b) = seq then b :: runFrom s r (seq + 1)
    else []

/-- The segments an incident holds. -/
def claimBlocks (s : State) (i : Incident) : List Nat :=
  let l := runFrom s (segBlocks s) i.first
  if i.st = 1 then l else l.filter (fun b => decide (segSeq (blockOf s b) < i.last))

/-- Mark the segments of an incident. -/
def claim (s : State) (i : Incident) : State :=
  (claimBlocks s i).foldl (fun u b => modBlock b (fun v => { v with st := 2, incident := i.number }) u) s

/-- Open a segment at the mount, trying `k` blocks at most, with the results of the storage headers' programs in turn. -/
def mountOpen : Nat → List PageResult × State → List PageResult × State
  | 0, x => x
  | k + 1, (l, s) =>
    match pickFree s with
    | none => (l, s)
    | some b =>
      let t := headerDone (l.headD goodPage) (openOn 2 b s)
      if t.recd.seg.isSome then (l.tail, t) else mountOpen k (l.tail, t)

/-- The closing record of an incident on a segment of its own, one without data pages (R405). -/
def ownSegment (i : Incident) (seq : Nat) (x : List PageResult × State) : List PageResult × State :=
  let (l, t) := mountOpen 2 (x.1, modRec (fun r => { r with nextSeq := seq }) x.2)
  match t.recd.seg with
  | none => (l, t)
  | some g =>
    let (h, u) := signRecord 2 i.cause seq i.number g.info [] t
    let u := modBlock g.block (fun v => { v with sign := h, incident := i.number }) (modRec (fun r => { r with seg := none }) u)
    let (l, u) := trySign g.block seq (some g.sk) (fun v => { v with sign := [], closing := [] }) 2
      (l, placeClosing i.number g.block seq g.info u)
    (l, count .segmentsWritten 1 u)

/-- The closing record goes to a new signature page of the last segment, or where none is free to a segment of its own. -/
def closeIncident (i : Incident) (last : Option (Nat × Nat)) (x : List PageResult × State) : List PageResult × State :=
  match last with
  | none => ownSegment i i.first x
  | some (seq, b) =>
    let s := x.2
    if pageFree s (blockOf s b) then
      trySign b seq (segKey s (blockOf s b).header) (fun v => { v with closing := [] }) 2
        (x.1, placeClosing i.number b seq (infoOf s.free (blockOf s b).body) { s with free := s.free + 1 })
    else ownSegment i (seq + 1) x

/-- JOURNAL_ROLL_FORWARD (R405): a prepared incident is committed with the segments that survived. -/
def rollForward (x : List PageResult × State) (i : Incident) : List PageResult × State :=
  if i.st ≠ 1 then x
  else
    let s := x.2
    let bs := incidentBlocks s i.number
    let last := (bs.map (fun b => (segSeq (blockOf s b), b))).foldl (fun a e => match a with
      | none => some e
      | some y => if y.1 ≤ e.1 then some e else a) none
    let t := modRec (fun r => { r with
      prevHash := (heldHeader s ((last.map (·.1)).getD (i.first - 1))).map sha256 }) s
    let (l, t) := closeIncident i last (x.1, t)
    let t := modIncident i.number (fun i => { i with st := 3, segments := bs.length }) t
    match incidentOf t i.number with
    | none => (l, t)
    | some j => (l, journalEntry 2 j (tableWrite t))

/-- The ring after a mount, and where the chain of records stands. -/
def mountRing (s : State) : State :=
  let free_ := (segBlocks s).filter (fun b => decide ((blockOf s b).incident = 0))
  let t := free_.foldl (fun u b => modBlock b (fun v => { v with st := 1 }) u) s
  let top := ((t.recd.blocks.filter (fun e => decide (e.2.st = 1 ∨ e.2.st = 2))).flatMap (fun e =>
    (if e.2.header.isEmpty then [] else [segSeq e.2]) ++ (if e.2.closing.isEmpty then [] else [leAt e.2.closing 8 8]))).foldl
      max 0
  modRec (fun r => { r with ring := free_, nextSeq := max top ((r.incidents.map (·.last)).foldl max 0) + 1,
                            prevHash := (heldHeader t top).map sha256 }) t

/-- The scan of R403, the closures of R404 and the roll-forward of R405, over a part that suits. -/
def mountScan (m : MountInput) (s : State) : State :=
  let highest := ((List.range (totalBlocks s)).filterMap (seenErases m s)).foldl max 0
  let t := (List.range (totalBlocks s)).foldl (fun u b => mountBlock m highest b u) s
  let segs := segBlocks t
  let t := (segs.filter (fun b => segs.any (fun c => losesTo t b c))).foldl
    (fun u b => modBlock b (fun v => { v with st := 4 }) u) t
  let t := m.errors.foldl (fun u e => noteRead e.1 e.2.2 u) t
  let x := ((segBlocks t).filter (fun b => !signSeen m t b)).foldl (fun x b => mountClosure m b x) (m.pages, t)
  let t := x.2.recd.incidents.foldl claim x.2
  mountRing (t.recd.incidents.foldl rollForward (x.1, t)).2

/-- The mount on a part that suits. -/
def mountOn (m : MountInput) (p : NandPart) (second : Option NandPart) (s : State) : State :=
  let t := modRec (fun r => { r with st := 3, part := some p, second := second.isSome }) s
  nandStart (mountScan m (mountJournal (mountTable p second t)))

/-- RECORDER_MOUNT: absent without an answer on a chip enable in use, unsuitable under Table 16.1 (R390); its page reads and
programs do not start below the supply warning level (R408). -/
def execRecorderMount (mount : MountInput) (ce0 ce1 : Option NandPart) (s : State) : Out :=
  .next (when_ (s.image.accepted && decide (s.recd.st = 2) && !s.supply.dip) (fun t =>
    let t := mountHours t
    let second := if t.legend.secondCe then ce1 else none
    match ce0 with
    | none => modRec (fun r => { r with st := 0 }) t
    | some p =>
      if t.legend.secondCe && ce1.isNone then modRec (fun r => { r with st := 0 }) t
      else if partSuits p && second.all partSuits then mountOn mount p second t
      else modRec (fun r => { r with st := 1 }) t) (advance mount.dt s))

/-- Has the NAND been silent: at its identification, or for 100 ms since an operation started (R452)? -/
def nandSilent (s : State) : Bool :=
  decide (s.recd.st = 2) && s.image.accepted ||
    decide (3 ≤ s.recd.st) && s.recd.job.isSome && decide (s.recd.jobAt + ms 100 ≤ s.now)

/-- NAND_RESPONSE_TIMEOUT (R452): absent for the rest of the Start; no block is retired. -/
def execNandResponseTimeout (dt : Nat) (s : State) : Out :=
  .next (when_ (nandSilent (advance dt s)) (modRec (fun r => { r with
    st := 0, seg := none, staging := [], closing := [], open_ := none, phase1 := false, phase2 := false, job := none,
    scrubs := [], scrubbing := none, readout := none, events := [], ended := [], gaps := [] })) (advance dt s))

/-! ## Triggers (R399, R400) -/

/-- CRASH_TRIGGER: the 10th consecutive high sample after at least 10 low ones. -/
def execCrashTrigger (dt high low : Nat) (s : State) : Out :=
  .next (when_ (decide (high = 10 ∧ 10 ≤ low)) (raiseTrigger 1) (advance dt s))

/-- Taps of the recorder record's post time. -/
def postTaps (s : State) : Nat := ms (100 * s.legend.post)

/-- Segments that incidents hold. -/
def heldSegments (s : State) : Nat := s.recd.blocks.countP (fun e => decide (e.2.st = 2))

/-- Would a new incident exceed 32 incidents or 25 % of the good blocks? -/
def exceedsLimits (s : State) : Bool :=
  decide (32 ≤ s.recd.incidents.length) ||
    decide ((goodBlocks s).length < 4 * (heldSegments s + s.recd.ring.length + (if s.recd.seg.isSome then 1 else 0) +
      segmentsFor s s.legend.post))

/-- Release the oldest committed incidents whose cause is not 1 until a new one fits, `k` at most; true when it does. -/
def makeRoom : Nat → State → Bool × State
  | 0, s => (!exceedsLimits s, s)
  | k + 1, s =>
    if !exceedsLimits s then (true, s)
    else
      match s.recd.incidents.find? (fun i => decide (i.cause ≠ 1 ∧ 2 ≤ i.st)) with
      | none => (false, s)
      | some i => makeRoom k (releaseIncident i s)

/-- Refuse a trigger: counted and logged; the ring continues. -/
def refuseTrigger (cause : Nat) (s : State) : State :=
  count .refusals 1 (logEvent 11 3 (s.recd.nextIncident % 65536) (cause * 2 ^ 24) (modRec (fun r => { r with full := true }) s))

/-- Open an incident: it takes the ring, and the open segment is to be closed with what is staged (R400, R401). -/
def openIncident (cause at_ local_ : Nat) (time : Int) (s : State) : State :=
  let n := s.recd.nextIncident
  let first := match s.recd.ring, s.recd.seg with
    | b :: _, _ => segSeq (blockOf s b)
    | [], some g => g.seq
    | [], none => s.recd.nextSeq
  let e : Incident := { number := n, first := first, last := 0, time := time, local_ := local_, cause := cause, st := 0,
                        joined := 0, segments := 0 }
  let t := s.recd.ring.foldl (fun u b => modBlock b (fun v => { v with st := 2, incident := n }) u) s
  let t := modRec (fun r => { r with
    incidents := r.incidents ++ [e], nextIncident := n + 1, ring := [], full := false, phase1 := true
    open_ := some (n, at_ + postTaps s, false)
    closing := if r.seg.isSome || !r.staging.isEmpty then r.closing ++ [(1, r.staging)] else r.closing
    staging := [] }) t
  logIncident 1 e t

/-- A trigger within the window joins its incident; the first one extends the window. -/
def joinIncident (n end_ at_ : Nat) (joined : Bool) (s : State) : State :=
  let t := modIncident n (fun i => { i with joined := min 63 (i.joined + 1) }) s
  let t := modRec (fun r => { r with full := false, open_ := some (n, if joined then end_ else at_ + postTaps s, true) }) t
  count .joins 1 (match incidentOf t n with | none => t | some i => logIncident 2 i t)

/-- Act on a trigger. -/
def actTrigger (cause at_ local_ : Nat) (time : Int) (s : State) : State :=
  let t := count .triggers 1 s
  if t.recd.st < 2 then refuseTrigger cause t
  else
    match t.recd.open_ with
    | some (n, end_, joined) => joinIncident n end_ at_ joined t
    | none =>
      match makeRoom 32 t with
      | (true, u) => openIncident cause at_ local_ time u
      | (false, u) => refuseTrigger cause u

/-- INCIDENT_TRIGGER: the oldest trigger held acts, once mounting has ended; one that comes between a window's end and
its commit waits for the commit. -/
def execIncidentTrigger (dt : Nat) (s : State) : Out :=
  let t := advance dt s
  .next (match t.recd.triggers with
    | [] => t
    | (cause, at_, local_, time) :: r =>
      if t.recd.st = 2 ∨ t.recd.phase2 then t
      else
        let u := actTrigger cause at_ local_ time (modRec (fun x => { x with triggers := r }) t)
        nandStart (when_ (!recordingNow u) pauseRing u))

/-- POST_TRIGGER_END: the events and gaps due go into the last segment's blocks (R433). -/
def execPostTriggerEnd (dt : Nat) (s : State) : Out :=
  let t := advance dt s
  .next (match t.recd.open_ with
    | none => t
    | some (_, end_, _) =>
      if end_ ≤ t.now then
        nandStart (modRec (fun r => { r with
          open_ := none, phase2 := true, closing := r.closing ++ [(2, r.staging)], staging := [] })
            (formGaps (formEvents (formGaps t))))
      else t)

/-! ## Commit (R401, R402) -/

/-- The bytes a NOR operation puts into memory. -/
def norApply (o : NorOp) (s : State) : State :=
  let t := if o.erasing then modNor (fun v => { v with mem := norErase (o.addr / 65536 * 65536) 65536 v.mem }) s else s
  norWrite o.addr o.left t

/-- An operation of the recorder index. -/
def ofIndex (j : NorJob) : Bool := match j with | .calSlot _ => false | _ => true

/-- What follows once a NOR operation has been programmed and read back. -/
def indexDone (j : NorJob) (s : State) : State := match j with | .journal k n => journalDone k n s | _ => s

/-- Bring the queued operations of the recorder index to their end. -/
def finishIndex (s : State) : State :=
  (s.nor.jobs.filter (fun o => ofIndex o.job)).foldl (fun u o => indexDone o.job (norApply o u))
    (modNor (fun v => { v with jobs := v.jobs.filter (fun o => !ofIndex o.job) }) s)

/-- The open segment's own operation is taken into what a closing command completes. -/
def dropSegJob (s : State) : State :=
  modRec (fun r => { r with job := (match r.job with | some .header | some .program | some .sign => none | j => j) }) s

/-- COMMIT_PHASE_1: the staged blocks are programmed, the open ring segment is closed, and the prepare entry is written
and read back.  It does not end below the supply warning level (R426), nor without the NOR. -/
def execCommitPhase1 (run : PageRun) (s : State) : Out :=
  .next (when_ (s.recd.phase1 && !s.supply.dip && s.nor.present) (fun t =>
    nandStart (finishIndex (phaseWork (finishClosing run.pages (dropSegJob t))))) (advance run.dt s))

/-- COMMIT_PHASE_2: the last post-trigger segment is closed with the closing record, the table is written, and the
commit entry follows. -/
def execCommitPhase2 (run : PageRun) (s : State) : Out :=
  .next (when_ (s.recd.phase2 && !s.supply.dip && s.nor.present) (fun t =>
    let t := finishIndex (phaseWork (finishClosing run.pages (dropSegJob t)))
    nandStart (finishIndex (phaseWork t))) (advance run.dt s))

/-- SEGMENT_CLOSE: a segment that is full, or that a trigger or a pause closes, is signed; a new one opens (R398). -/
def execSegmentClose (run : PageRun) (s : State) : Out :=
  .next (when_ (!s.supply.dip && decide (s.recd.st = 3)) (fun t =>
    let t := loadSeg (openIfNeeded t)
    match t.recd.seg with
    | none => nandStart t
    | some g =>
      if g.ending || !t.recd.closing.isEmpty then
        nandStart (finishSeg run.pages (dropSegJob t))
      else nandStart t) (advance run.dt s))

/-! ## BODY_BLOCK_FORM (R395 to R397) -/

/-- A channel sample (Table 16.5) of a record, or of a point not delivered. -/
def sampleOf (r : Option Record) : Nat :=
  match r with
  | none => field 19 29 0x7FFFF
  | some r =>
    let f := r.flags
    let flags := field 1 7 (b2n f.afterOverload) + field 1 6 (b2n f.settling) + field 1 5 (b2n f.pileUp) +
      field 1 4 (b2n f.saturation) + field 1 3 (b2n f.interference) + field 1 2 (b2n f.partial_) +
      field 1 1 (b2n f.brownout) + field 1 0 (b2n f.reassigned)
    let echo := match r.echoes[r.primary]? with
      | none => field 19 29 (min 317000 Config.noEchoRange)
      | some e => field 19 29 e.range + field 8 21 e.confidence + field 8 13 (min 255 (e.intensity / 16)) +
          field 1 9 (b2n e.rainLike)
    echo + field 3 10 r.echoes.length + field 1 8 (b2n f.unlit) + flags

/-- Samples of channels from `c` on, of records in ascending channel order. -/
def samples : Nat → Nat → List Record → List Byte
  | 0, _, _ => []
  | n + 1, c, [] => leBytes 6 (sampleOf none) ++ samples n (c + 1) []
  | n + 1, c, r :: t =>
    if r.channel = c then leBytes 6 (sampleOf (some r)) ++ samples n (c + 1) t
    else leBytes 6 (sampleOf none) ++ samples n (c + 1) (r :: t)

/-- A block with the sheet's number, time and flags. -/
def sheetStamp (o : SheetOut) (kind : Nat) (content : List Byte) : Body :=
  let w := leAt o.head 0 8
  { kind := kind, bytes := bodyBytes kind content, sheet := o.sheet, time := ofTwos 64 (leAt o.head 8 8), step := bit 8 w,
    slew := bit 9 w, sync := bits 2 1 w }

/-- A bearing block. -/
def bearingBlock (o : SheetOut) (β : Nat) : Body :=
  let l := sortBy (fun a b => decide (a.channel < b.channel)) (o.released.filter (fun r => decide (r.bearing = β)))
  sheetStamp o 3 (leBytes 8 (field 32 32 o.sheet + field 12 20 β + field 3 17 o.mode) ++ samples 1536 0 l)

/-- Nearest range of a group over a block of 16 bearings (R395). -/
def nearestCm (s : State) (o : SheetOut) (l : List Record) (g k : Nat) : Nat :=
  let mine := l.filter (fun r => decide (r.channel / 24 = g))
  let planned := ((List.range 24).map (fun i => (List.range 16).countP (fun j =>
    decide (16 * k + j < (modeTable s o.mode).nb) && plannedAt s o.mode (24 * g + i) (16 * k + j)))).sum
  let lit := mine.countP (fun r => !r.flags.unlit && plannedAt s o.mode r.channel r.bearing)
  if planned < 2 * (planned - lit) then 0xFFFE
  else
    match ((mine.flatMap (·.echoes)).filter (fun e => !e.rainLike && decide (64 ≤ e.confidence))).map (·.range / 10) |>.min?
      with
    | none => 0xFFFF
    | some m => min m 0xFFFD

/-- A sheet block. -/
def sheetBlock (s : State) (o : SheetOut) : Body :=
  sheetStamp o 2 (o.head ++ (List.range (ceilDiv (modeTable s o.mode).nb 16)).flatMap (fun k =>
    let l := o.released.filter (fun r => decide (r.bearing / 16 = k))
    (List.range 64).flatMap (fun g => leBytes 2 (nearestCm s o l g k))))

/-- Is a bearing sampled (R396)? -/
def isSampled (s : State) (o : SheetOut) (β : Nat) : Bool :=
  let d := 32 * 2 ^ decimationJ s o.mode
  decide (β % d = 11 * o.sheet % d)

/-- Every group's records of the bearing have left the packetiser. -/
def bearingLeft (s : State) (o : SheetOut) (β : Nat) : Bool :=
  (o.ended || decide (o.sheet ≠ s.seq.sheet) || (match s.seq.period with | some p => decide (β < p) | none => false)) &&
    !o.due.any (fun d => decide (d.2.1 = β)) && !o.waiting.any (fun w => decide (w.2.1 = β))

/-- The next sampled bearing of a sheet that is due. -/
def bearingDue (s : State) (o : SheetOut) : Option Nat :=
  (List.range (modeTable s o.mode).nb).find? (fun β =>
    isSampled s o β && !s.recd.sampled.contains (o.sheet, β) && bearingLeft s o β)

/-- Sheets whose blocks may be due, oldest first. -/
def recordedSheets (s : State) : List SheetOut := s.recd.ended ++ s.contour.sheets.filter (fun o => !o.trailed)

/-- The gap block in place of a lost one: the bearings lost, 0 for the sheet block. -/
def gapFor (o : SheetOut) (first lost : Nat) : Body :=
  sheetStamp o 5 (leBytes 8 (field 32 32 o.sheet + field 12 20 first + field 12 8 lost))

/-- Note a bearing as formed. -/
def noteSampled (n β : Nat) (s : State) : State := modRec (fun r => { r with sampled := r.sampled ++ [(n, β)] }) s

/-- The block of an ended sheet. -/
def formSheet (o : SheetOut) (s : State) : State :=
  stage (sheetBlock s o) (gapFor o 0 0) (modRec (fun r => { r with
    ended := r.ended.filter (fun p => decide (p.sheet ≠ o.sheet))
    sampled := r.sampled.filter (fun e => decide (e.1 ≠ o.sheet)) }) s)

/-- The next block of the sheets. -/
def formSheets : List SheetOut → State → State
  | [], s => s
  | o :: r, s =>
    match bearingDue s o with
    | some β => stage (bearingBlock o β) (gapFor o β 1) (noteSampled o.sheet β s)
    | none => if s.recd.ended.any (fun p => decide (p.sheet = o.sheet)) then formSheet o s else formSheets r s

/-- Form the next block: a gap block, the event entries, a bearing, a sheet. -/
def formBlock (s : State) : State :=
  match s.recd.gaps with
  | g :: r => if stageFits g s then modRec (fun x => { x with gaps := r, staging := x.staging ++ [g] }) s else s
  | [] => if !s.recd.events.isEmpty then formEvents s else formSheets (recordedSheets s) s

/-- BODY_BLOCK_FORM. -/
def execBodyBlockForm (dt : Nat) (s : State) : Out :=
  let t := advance dt s
  .next (if t.recd.st = 3 ∧ recordingNow t then nandStart (moveStart 13 1 3 16 (formBlock t)) else t)

/-! ## NAND operations (R391, R393, R394, R406, R408) -/

/-- The storage header of a scrub copy: the generation raised by 1, and the erase count and powered hours at its writing
(R406, Table 16.3, notes/assumptions/31.md). -/
def nextGeneration (hours erases : Nat) (h : List Byte) : List Byte :=
  let w := leAt h 24 8
  let l := BitVec.ofNat 8 (leAt h 0 1 + 1) :: slice h 1 23 ++ leBytes 8 (w - field 32 8 (bits 39 8 w) + field 32 8 erases) ++
    slice h 32 184 ++ leBytes 4 hours ++ slice h 220 32
  l ++ leBytes 4 (crc32 l)

/-- A page of the scrub copy has been programmed: the next one is read, or after the last the copy is read back; a failed
one gives the copy up (R394, R406). -/
def copyProgrammed (x : Scrub) (p : PageResult) (s : State) : State :=
  let t := readBack x.copy p (modRec (fun r => { r with job := none }) s)
  if !programmed p then dropCopy x.copy (retireBlock x.copy t)
  else
    let v := blockOf s x.source
    let t := modBlock x.copy (fun c =>
      if x.page = 1 then { c with header := nextGeneration s.recd.hours c.erases v.header }
      else { c with pages := c.pages ++ (v.pages[x.page - 2]?).toList }) t
    modRec (fun r => { r with scrubbing := some (
      if x.page < 1 + v.pages.length then { x with page := x.page + 1, step := .read } else { x with page := 1, step := .check }) }) t

/-- NAND_PROGRAM_DONE. -/
def execNandProgramDone (dt : Nat) (ok : Bool) (bitErrors : List Nat) (s : State) : Out :=
  let t := advance dt s
  .next (match t.recd.job, t.recd.scrubbing with
    | some .copy, some x =>
      if x.step = .program then nandStart (copyProgrammed x { ok := ok, errors := bitErrors } t) else t
    | some .copy, none => nandStart (modRec (fun r => { r with job := none }) t)
    | some j, _ =>
      if j = .header ∨ j = .program ∨ j = .sign then nandStart (endSegJob j { ok := ok, errors := bitErrors } t) else t
    | none, _ => t)

/-- A block has been erased and its page 0 written (Table 16.2): it is free, or retired where either failed (R394). -/
def blockErased (b : Nat) (ended : EraseResult) (s : State) : State :=
  let n := (blockOf s b).erases + 1
  let t := modRec (fun r => { r with job := none }) s
  if !ended.ok then retireBlock b (modBlock b (fun v => { v with st := 3, header := [] }) t)
  else
    let t := modRec (fun r => { r with erasesNow := r.erasesNow + 1 }) t
    if programmed ended.page0 then
      readBack b ended.page0 (setBlock b { zero := blockHeader n, headed := true, erases := n } t)
    else retireBlock b (readBack b ended.page0 (setBlock b { st := 3, erases := n } t))

/-- NAND_ERASE_DONE: page 0 is written directly after the erase (Table 16.2). -/
def execNandEraseDone (dt : Nat) (ended : EraseResult) (s : State) : Out :=
  let t := advance dt s
  .next (match t.recd.job with
    | some (.erase b) => nandStart (blockErased b ended t)
    | _ => t)

/-- A readout data packet (R412). -/
def readoutPkt (echo result arg offset : Nat) (data : List Byte) : Pkt :=
  pkt 0x18 (wordsLe [field 12 52 echo + field 4 48 result, arg, field 32 32 offset + field 16 16 data.length] ++ data)

/-- The record that a block holds: header, body, signature. -/
def recordAt (v : Block) (closing : Bool) : List Byte :=
  if closing then v.closing else v.sign.take 128 ++ v.body ++ v.sign.drop 128

/-- Where the page that holds the record byte at `offset` ends in the record. -/
def pageEnd (s : State) (v : Block) (closing : Bool) (offset : Nat) : Nat :=
  if closing then v.closing.length
  else if offset < 128 then 128
  else if offset < 128 + v.body.length then min (128 + v.body.length) (128 + ((offset - 128) / pageBytes s + 1) * pageBytes s)
  else 192 + v.body.length

/-- A data packet of a running read waits: no other readout packet has data. -/
def isReadData (p : Pkt) : Bool := decide (p.type = 0x18 ∧ 24 < p.body.length)

/-- The running read stops at the present packet boundary (R295, R412). -/
def stopReadout (s : State) : State :=
  modLink (fun l => { l with q3 := l.q3.filter (fun p => !isReadData p) }) (modRec (fun r => { r with readout := none }) s)

/-- The running read goes on: once the packet before has left, its next one falls due, after the last data its end, and
else its next page is read (R412). -/
def readoutGo (s : State) : State :=
  match s.recd.readout with
  | none => s
  | some r =>
    if s.link.q3.any isReadData then s
    else if !r.data.isEmpty then
      let d := r.data.take 1776
      due3 (readoutPkt r.echo r.result r.seq r.offset d)
        (modRec (fun x => { x with readout := some { r with data := r.data.drop 1776, offset := r.offset + d.length } }) s)
    else if r.last then due3 (readoutPkt r.echo 1 r.seq r.offset []) (modRec (fun x => { x with readout := none }) s)
    else nandStart s

/-- A page of the running read has been read: its part of the record is to be sent. -/
def readoutPage (b : Nat) (bad : Bool) (s : State) : State :=
  match s.recd.readout with
  | none => s
  | some r =>
    match findRecord s r.seq with
    | none => due3 (readoutPkt r.echo 3 r.seq r.offset []) (modRec (fun x => { x with readout := none }) s)
    | some (_, c) =>
      let v := blockOf s b
      let e := pageEnd s v c r.offset
      let data := slice (recordAt v c) r.offset (e - r.offset)
      readoutGo (modRec (fun x => { x with readout := some { r with
          data := if bad then (List.range data.length).map (Config.pageAsRead s.free) else data
          result := if bad then 4 else 0, last := decide ((recordAt v c).length ≤ e) } })
        { s with free := s.free + 1 })

/-- A page of the scrub copy's source has been read: it is programmed next, or where it cannot be corrected the copy is given
up (R406, notes/assumptions/31.md). -/
def copyRead (x : Scrub) (l : List Nat) (s : State) : State :=
  let t := noteRead x.source l (modRec (fun r => { r with job := none }) s)
  if uncorrectable l then dropCopy x.copy (modRec (fun r => { r with scrubs := r.scrubs.filter (· ≠ x.source) }) t)
  else modRec (fun r => { r with scrubbing := some { x with step := .program } }) t

/-- A readout page has been read: the page is corrected, scrub is judged (R406), and the read it was for goes on. -/
def pageRead (b page : Nat) (l : List Nat) (s : State) : State :=
  let wanted := readDue s
  let t := noteRead b l (modRec (fun r => { r with job := none }) s)
  if !inDepot t then stopReadout t
  else if wanted = some (.read b page) then readoutPage b (uncorrectable l) t
  else t

/-- NAND_READ_DONE. -/
def execNandReadDone (dt : Nat) (bitErrors : List Nat) (s : State) : Out :=
  let t := advance dt s
  .next (match t.recd.job with
    | some (.read b page) => nandStart (pageRead b page bitErrors t)
    | some .copy =>
      match t.recd.scrubbing with
      | some x => if x.step = .read then nandStart (copyRead x bitErrors t) else t
      | none => nandStart (modRec (fun r => { r with job := none }) t)
    | _ => t)

/-- A verified copy takes the place of the old block, which is to be erased. -/
def scrubbed (b c : Nat) (s : State) : State :=
  let v := blockOf s b
  let t := modBlock c (fun w => { w with body := v.body, sign := v.sign, closing := v.closing, st := v.st, incident := v.incident }) s
  letGo b (count .scrubCopies 1 (modRec (fun r => { r with
    scrubbing := none, ring := r.ring.map (fun x => if x = b then c else x) }) t))

/-- A page of the copy has been read back: the next one follows, and after the last the copy stands for the segment; one that
cannot be corrected gives the copy up (R394, R406). -/
def copyChecked (x : Scrub) (l : List Nat) (s : State) : State :=
  let t := noteRead x.copy l (modRec (fun r => { r with job := none }) s)
  if uncorrectable l then dropCopy x.copy (retireBlock x.copy t)
  else if x.page < 1 + (blockOf t x.copy).pages.length then
    modRec (fun r => { r with scrubbing := some { x with page := x.page + 1 } }) t
  else scrubbed x.source x.copy t

/-- SCRUB: a page of the copy is read back. -/
def execScrub (dt : Nat) (readBack : List Nat) (s : State) : Out :=
  let t := advance dt s
  .next (match t.recd.job, t.recd.scrubbing with
    | some .copy, some x => if x.step = .check then nandStart (copyChecked x readBack t) else t
    | some .copy, none => nandStart (modRec (fun r => { r with job := none }) t)
    | _, _ => t)

/-! ## POWERED_HOUR (R406, R410) -/

/-- Write the powered hours: a slot an hour, the region erased before it is used again. -/
def hoursWrite (s : State) : State :=
  let n := s.recd.hours
  let (l, t) := sealPage (leBytes 8 (n % 256)) (leBytes 8 n) s
  norStart { job := .hours, erasing := decide (n % 256 = 0), addr := 0x480000 + 256 * (n % 256), left := l } t

/-- Share of the good blocks that incidents do not hold (R409). -/
def poolBlocks (s : State) : Nat := (goodBlocks s).length - (goodBlocks s).length / 4

/-- Update the life figures. -/
def lifeFigures (s : State) : State :=
  let l := (goodBlocks s).map (fun b => (blockOf s b).erases)
  let mean := if l.isEmpty then 0 else l.sum / l.length
  let nc := match s.recd.part with | none => 1 | some p => max 1 p.endurance
  let hist := if recordingMode s then (s.recd.erasesNow :: s.recd.eraseHist).take 100 else s.recd.eraseHist
  let total := hist.sum
  let left := if total = 0 then Config.forecastIdle else (nc - mean) * poolBlocks s * hist.length / total
  modRec (fun r => { r with
    eraseHist := hist, erasesNow := 0, meanErase := mean, maxErase := l.foldl max 0, life := 1000 * mean / nc,
    forecast := min left (2 ^ 32 - 1) }) s

/-- Segments written 8,760 powered hours ago or more are scrubbed. -/
def ageScrubs (s : State) : State :=
  (segBlocks s).foldl (fun u b =>
    if leAt (blockOf u b).header 216 4 + 8760 ≤ u.recd.hours && !(u.recd.seg.any (fun g => decide (g.block = b))) then
      wantScrub b u else u) s

/-- POWERED_HOUR (R406, R410): an hour after the last one, or after the reset, the count and its record advance. -/
def execPoweredHour (dt : Nat) (s : State) : Out :=
  let t := advance dt s
  .next (when_ (t.sec.d.isSome && decide (t.recd.hourAt + sec 3600 ≤ t.now)) (fun t =>
    let u := if t.recd.st = 2 then mountHours t else t
    let u := hoursWrite (modRec (fun r => { r with hours := r.hours + 1, hourAt := r.hourAt + sec 3600 }) u)
    if u.recd.st = 3 then nandStart (ageScrubs (lifeFigures u)) else u) t)

end Sys2Proof.Machine
end

