-- ==== Sys2Proof/Machine/Readout.lean ====
section
/-! DEFINITION. Incident recorder and movement engine (chapter 16), part two: readout queries, descriptors and halts, and
the ends of NOR operations. -/

namespace Sys2Proof.Machine

open Sys2Proof

/-! ## Readout queries (R411, R412) -/

/-- Operation of a readout query packet. -/
def rxOperation (l : List Byte) : Nat := bits 55 52 (leAt l 8 8)

/-- Act on a readout query of operation `op`; bytes of another operation are not this command. -/
def onReadout (op : Nat) (codes : List Nat) (rd : Bool) (f : Nat → Nat → Nat → State → State) (s : State) : State :=
  if rxOperation (rxBytes s codes rd) ≠ op then s
  else onPacket 0x98 codes rd (fun b t => f (bits 63 52 (leAt b 0 8)) (leAt b 8 8) (leAt b 20 4 / 8 * 8) t) s

/-- Answer a query without data. -/
def readoutAnswer (echo result arg offset : Nat) (s : State) : State := due3 (readoutPkt echo result arg offset []) s

/-- What every operation but a mark and an abort checks first: Depot, and no read running. -/
def readoutGate (echo arg offset : Nat) (f : State → State) (s : State) : State :=
  if !inDepot s then readoutAnswer echo 2 arg offset s
  else if s.recd.readout.isSome then readoutAnswer echo 5 arg offset s
  else f s

/-- LIST_INCIDENTS: the incident entries, then the end. -/
def execListIncidents (dt : Nat) (codes : List Nat) (rd : Bool) (s : State) : Out :=
  .next (onReadout 0 codes rd (fun echo arg off =>
    readoutGate echo arg off (fun t =>
      let l := (t.recd.incidents.flatMap incidentBytes).drop off
      readoutGo (modRec (fun r => { r with readout := some {
        echo := echo, seq := arg, offset := off, data := l, last := true } }) t))) (advance dt s))

/-- READ_RECORD. -/
def execReadRecord (dt : Nat) (codes : List Nat) (rd : Bool) (s : State) : Out :=
  .next (onReadout 1 codes rd (fun echo arg off =>
    readoutGate echo arg off (fun t =>
      match findRecord t arg with
      | none => readoutAnswer echo 3 arg off t
      | some (b, c) =>
        if (recordAt (blockOf t b) c).length ≤ off then readoutAnswer echo 1 arg off t
        else nandStart (modRec (fun r => { r with readout := some { echo := echo, seq := arg, offset := off } }) t)))
    (advance dt s))

/-- RELEASE_INCIDENT: only a committed incident. -/
def execReleaseIncident (dt : Nat) (codes : List Nat) (rd : Bool) (s : State) : Out :=
  .next (onReadout 2 codes rd (fun echo arg off =>
    readoutGate echo arg off (fun t =>
      match incidentOf t arg with
      | none => readoutAnswer echo 3 arg off t
      | some i =>
        if 2 ≤ i.st then nandStart (readoutAnswer echo 1 arg off (releaseIncident i t))
        else readoutAnswer echo 3 arg off t)) (advance dt s))

/-- MARK: trigger cause 2, in any state from image acceptance on. -/
def execMark (dt : Nat) (codes : List Nat) (rd : Bool) (s : State) : Out :=
  .next (onReadout 3 codes rd (fun echo arg off t =>
    if t.image.accepted then readoutAnswer echo 1 arg off (raiseTrigger 2 t) else readoutAnswer echo 3 arg off t)
    (advance dt s))

/-- ABORT_READ: the running read stops at the next packet boundary. -/
def execAbortRead (dt : Nat) (codes : List Nat) (rd : Bool) (s : State) : Out :=
  .next (onReadout 4 codes rd (fun echo arg off t =>
    if !inDepot t then readoutAnswer echo 2 arg off t
    else readoutAnswer echo 1 arg off (stopReadout t)) (advance dt s))

/-! ## DESCRIPTOR_COMPLETE and CHANNEL_HALT (R414, R415) -/

/-- The oldest status response whose snapshot transfer has ended falls due: its data, or result 3 without them. -/
def snapshotOut (whole : Bool) (s : State) : State :=
  match s.dma.snapshots with
  | [] => s
  | (w0, rest) :: r =>
    let t := { s with dma := { s.dma with snapshots := r } }
    let t := due3 (pkt 0x08 (leBytes 8 (if whole then w0 else w0 - field 3 36 (bits 38 36 w0) + field 3 36 3) ++ (if whole then rest else rest.take 8))) t
    match r with
    | [] => t
    | (_, d) :: _ => moveStart 12 5 2 d.length t

/-- DESCRIPTOR_COMPLETE. -/
def execDescriptorComplete (dt channel : Nat) (s : State) : Out :=
  need (decide (channel < 16)) (
    let t := advance dt s
    let v := moverOf t channel
    if (v.st = 1 ∨ v.st = 3) ∧ descValid (descOf t v.desc) then
      let u := moveDone channel t
      if channel = 12 then snapshotOut true u else u
    else t)

/-- The dump copy in progress is skipped and counted, and its pool context freed (R158, R415). -/
def skipDump (channel : Nat) (s : State) : State :=
  match s.survey.dumpQueue with
  | [] => s
  | (x, p, _, _) :: r =>
    if p % 4 ≠ channel then s
    else dumpMove (count .dumpsSkipped 1 (copyDone (ownerOf s x) (freePool p (modSurvey (fun v => { v with dumpQueue := r }) s))))

/-- The channel that takes a dump packet to the link (Table 16.9, notes/assumptions/34.md). -/
def dumpChannel (p : Pkt) : Option Nat := p.pool.map (fun x => 4 + x % 4)

/-- The oldest dump packet that a channel was taking to the link is skipped and counted, and its pool context freed. -/
def skipPacket (channel : Nat) (s : State) : State :=
  match s.link.q5.find? (fun p => decide (dumpChannel p = some channel)) with
  | none => s
  | some p =>
    let t := count .dumpsSkipped 1 (modLink (fun l => { l with q5 := l.q5.erase p }) s)
    match p.pool with
    | none => t
    | some x => freePool x t

/-- What an abandoned descriptor means for its channel (R415). -/
def abandonUse (channel : Nat) (nandFailed : Bool) (s : State) : State :=
  if channel < 4 then skipDump channel s
  else if channel < 8 then skipPacket channel s
  else if channel = 8 then
    match s.recd.job, s.recd.seg with
    | some .program, some g =>
      let t := modRec (fun r => { r with job := none }) s
      nandStart (programFailed (if nandFailed then retireBlock g.block t else t))
    | some .header, some g =>
      let t := modRec (fun r => { r with job := none }) s
      nandStart (headerFailed (if nandFailed then retireBlock g.block t else t))
    | _, _ => s
  else if channel = 9 then
    match s.recd.scrubbing with
    | some x =>
      nandStart (dropCopy x.copy (modRec (fun r => { r with job := if r.job = some .copy then none else r.job }) s))
    | none => s
  else if channel = 10 then
    match s.recd.readout with
    | some r =>
      nandStart (modRec (fun x => { x with
        readout := none, job := (match x.job with | some (.read _ _) => none | j => j) }) (readoutAnswer r.echo 4 r.seq r.offset s))
    | none => s
  else if channel = 12 then snapshotOut false s
  else s

/-- CHANNEL_HALT: the first halt is retried from the latched address; a second at the same address abandons the descriptor.
A descriptor that the engine has rejected is rejected again at its retry (R413, R415). -/
def execChannelHalt (dt channel : Nat) (info : HaltInfo) (s : State) : Out :=
  need (decide (channel < 16)) (
    let t := advance dt s
    let v := moverOf t channel
    if v.st = 1 ∨ v.st = 3 then
      if !descValid (descOf t v.desc) then
        abandonUse channel false (moveAbandon channel v.addr (haltMover channel v.write false v.addr t))
      else
        let u := haltMover channel info.write info.stall info.addr t
        if v.st = 3 ∧ v.addr = info.addr % 2 ^ 48 then abandonUse channel info.nandFailed (moveAbandon channel info.addr u) else u
    else t)

/-! ## Ends of NOR operations (R285, R401, R402, R452) -/

/-- A calibration write has ended; the others go on as the recorder index has it. -/
def norDone (j : NorJob) (s : State) : State :=
  match j with
  | .calSlot _ => adoptRun s
  | _ => nandStart (indexDone j s)

/-- A NOR operation failed: a calibration write ends its run with result 8; a table stays in the slot that was in
force; a journal entry is written again (R401). -/
def norFailed (o : NorOp) (s : State) : State :=
  match o.job with
  | .calSlot _ => calWriteFailed s
  | .table slot =>
    if s.recd.tableSlot = slot then
      modRec (fun r => { r with tableSlot := 1 - slot })
        (modNor (fun v => { v with jobs := v.jobs.filter (fun p => decide (p.job ≠ .table (1 - slot))) }) s)
    else s
  | _ => nandStart s

/-- What follows a packet that has been sent: the movement channel of a dump packet ends its descriptor, and a running read
goes on (R229, R412). -/
def afterSend (p : Pkt) (s : State) : State :=
  let t := match dumpChannel p with
    | none => s
    | some k => moveDone k s
  if p.type = 0x18 then readoutGo t else t

/-- PACKET_TRANSMIT: at a packet boundary; a read that has left Depot stops there (R295, R412). -/
def execPacketTransmit (dt : Nat) (s : State) : Out :=
  let t := advance dt s
  .next (if laneFree t then
    let t := when_ (t.recd.readout.isSome && !inDepot t) stopReadout t
    match takeDue t with
    | none => t
    | some (p, l) => afterSend p (sendPacket p { t with link := l })
  else t)

/-- NOR_PAGE_PROGRAM_DONE: a page reads back as programmed, or the write has failed. -/
def execNorPageProgramDone (dt : Nat) (ok : Bool) (s : State) : Out :=
  let t := advance dt s
  .next (match t.nor.jobs with
    | [] => t
    | o :: r =>
      if o.erasing || o.left.isEmpty then t
      else
        let rest := modNor (fun v => { v with jobs := r }) t
        if !ok || !t.nor.present then norFailed o rest
        else
          let n := 256 - o.addr % 256
          let u := norWrite o.addr (o.left.take n) rest
          if o.left.length ≤ n then norDone o.job u
          else modNor (fun v => { v with jobs := { o with addr := o.addr + n, left := o.left.drop n } :: r }) u)

/-- NOR_SECTOR_ERASE_DONE. -/
def execNorSectorEraseDone (dt : Nat) (ok : Bool) (s : State) : Out :=
  let t := advance dt s
  .next (match t.nor.jobs with
    | [] => t
    | o :: r =>
      if !o.erasing then t
      else
        let rest := modNor (fun v => { v with jobs := r }) t
        if !ok || !t.nor.present then norFailed o rest
        else
          let u := modNor (fun v => { v with mem := norErase (o.addr / 65536 * 65536) 65536 v.mem }) rest
          if o.left.isEmpty then u
          else modNor (fun v => { v with jobs := { o with erasing := false } :: r }) u)

end Sys2Proof.Machine
end

