-- ==== Sys2Proof/Machine/Image.lean ====
section
/-! DEFINITION. IMAGE_VERIFY and IMAGE_ACCEPT (chapters 10 and 11; R108, R455). -/

namespace Sys2Proof.Machine

open Sys2Proof

/-! ## Verification (R253, R272, R273) -/

/-- A 64-byte key or signature: two 32-byte little-endian integers (R248). -/
def pairAt (l : List Byte) (off : Nat) : Nat × Nat := (leAt l off 32, leAt l (off + 32) 32)

/-- Does a signature verify over bytes? -/
def signedBy (pub : Nat × Nat) (data sig : List Byte) : Bool :=
  ecdsaVerify pub (sha256 data) (leAt sig 0 32) (leAt sig 32 32)

/-- The header's own checks (R273). -/
def headerOk (h : List Byte) : Bool :=
  let len := leAt h 8 4
  decide (leAt h 6 2 = 256 ∧ leAt h 4 2 = 1 ∧ 512 ≤ len ∧ len ≤ 4194304 ∧ len % 8 = 0) &&
    decide (1 ≤ leAt h 22 2 ∧ leAt h 22 2 ≤ 1024 ∧ leAt h 21 1 ≤ 64)

/-- H_c as the fuses hold it. -/
def keyHash (h : List Byte) : Nat := leNat (sha256 (slice h 40 64))

/-- The customer key step: any key, one that holds every burned bit, or the claiming one. -/
def keyAccepted (s : State) (hc : Nat) : Bool :=
  if s.otp.claimed then hc = s.otp.hash else decide (s.otp.hash &&& hc = s.otp.hash)

/-- Patch bodies as the security core finds them, walking the heads, `k` at most. -/
def patchBodies : Nat → List Byte → List (List Byte)
  | 0, _ => []
  | k + 1, l =>
    let len := leAt l 0 4
    if l.length < 8 ∨ l.length < 8 + len then []
    else
      let rest := patchBodies k (l.drop (8 + len))
      if leAt l 7 1 = 16 then slice l 8 len :: rest else rest

/-- A patch's certificate and signature (R253 step 6, R280). -/
def patchOk (b : List Byte) : Bool :=
  let n := leAt b 196 4
  decide (264 ≤ b.length ∧ b.length = 264 + n ∧ leAt b 6 2 = 1 ∧ leAt b 5 1 = 4) &&
    signedBy rootKey (b.take 128) (slice b 128 64) &&
    signedBy (pairAt b 48) (slice b 192 (8 + n)) (slice b (200 + n) 64)

/-- The result code of R253. -/
def imageResult (s : State) (img : List Byte) : Nat :=
  let h := img.take 256
  let len := leAt h 8 4
  if leAt h 0 4 ≠ 0x444E474C then 1
  else if !headerOk h then 2
  else if leAt h 12 4 ≠ familyCode then 3
  else if !keyAccepted s (keyHash h) then 4
  else if !(ecOn (pairAt h 40) && signedBy (pairAt h 40) (img.take (len - 64)) (slice img (len - 64) 64)) then 5
  else if leAt h 21 1 < versionFuses s then 6
  else if !(patchBodies (leAt h 22 2) (slice img 256 (len - 320))).all patchOk then 7
  else 0

/-! ## Fuses (R249 to R251) -/

/-- Claim state as read at Start. -/
def claimState (s : State) : Nat := if s.otp.claimed then 2 else if s.otp.hash = 0 then 0 else 1

/-- CLAIM and VERSION_ADVANCE: the fuses an accepted image burns. -/
def burnFuses (h : List Byte) (s : State) : State :=
  let o := s.otp
  let o := if o.claimed then o else { o with hash := o.hash ||| keyHash h, debugLock := true, claimed := true }
  { s with otp := { o with version := o.version ||| (2 ^ leAt h 21 1 - 1) } }

/-! ## START_COUNTER_ADVANCE (R245, Table 11.1) -/

/-- Valid start counter records: slot and counter. -/
def startRecords (s : State) : List (Nat × Nat) :=
  (List.range 256).filterMap (fun i =>
    let l := norRead s (0x430000 + 256 * i) 44
    if l.all (· == 0xFF#8) then none else (openPage (kNor s) 8 8 l).map (fun e => (i, leAt e.2 0 8)))

/-- The next free slot: the one after the last used. -/
def startSlot (s : State) : Nat :=
  match (List.range 256).find? (fun i => (norRead s (0x430000 + 256 * i) 256).all (· == 0xFF#8)) with
  | some i => i
  | none => 256

/-- The dither seeds of a start counter (R244, R49). -/
def ditherSeeds (s : State) (counter : Nat) : List (BitVec 23) :=
  let l := fromKey s (ascii "dexver dither" ++ leBytes 8 counter) 96
  (List.range 32).map (fun i => let v := leAt l (3 * i) 3 % 2 ^ 23; if v = 0 then 1 else BitVec.ofNat 23 v)

/-- The seeds of a counter go into the shift registers. -/
def loadSeeds (n : Nat) (s : State) : State :=
  (List.zip (List.range 32) (ditherSeeds s n)).foldl (fun u e => modBank e.1 (fun b => { b with dither := e.2 }) u)
    { s with sec := { s.sec with startCounter := n } }

/-- The counter where its record cannot be read: from the entropy source, bit 63 set (R245). -/
def freshCounter (e : List Byte) : Nat := leNat e % 2 ^ 63 + 2 ^ 63

/-- Advance the counter, write its record and read it back, and derive the seeds from what was read.  A NOR part that does
not suit holds no record (R246); a write that fails is counted, and the counter advanced goes on (R452). -/
def startCounter (suits written : Bool) (s : State) : State :=
  if !suits then let (e, t) := draw 8 s; loadSeeds (freshCounter e) (norWriteFailed t) else
  let recs := startRecords s
  let (e, t) := draw 8 s
  let n := match recs with
    | [] => freshCounter e
    | _ => ((recs.map (·.2)).foldl max 0 + 1) % 2 ^ 64
  if !written then loadSeeds n (norWriteFailed t) else
  let slot := startSlot t
  let t := if slot = 256 then modNor (fun v => { v with mem := norErase 0x430000 65536 v.mem }) t else t
  let (l, t) := sealPage (leBytes 8 (slot % 256)) (leBytes 8 n) t
  let t := norWrite (0x430000 + 256 * (slot % 256)) l t
  let back := openPage (kNor t) 8 8 (norRead t (0x430000 + 256 * (slot % 256)) 44)
  loadSeeds ((back.map (fun e => leAt e.2 0 8)).getD n) t

/-! ## CALIBRATION_SLOT_READ (R285, R286) -/

/-- Put a calibration set in force. -/
def calForce (slot : Nat) (k : CalSet) (s : State) : State :=
  { s with calib := { s.calib with calibrated := true, slot := slot, base := k, set0 := k, set1 := k, live := k,
                                   baseline := k.tSet, derivedTemp := k.tSet } }

/-- Read both slots. -/
def calRead (s : State) : State :=
  let bad := [0, 1].countP (fun i => !calEmpty s i && (calSlot s i).isNone)
  let t := { s with image := { s.image with failedSlots := bad } }
  match calSlot s 0, calSlot s 1 with
  | some a, some b => if a.seq < b.seq then calForce 1 b t else calForce 0 a t
  | some a, none => calForce 0 a t
  | none, some b => calForce 1 b t
  | none, none => t

/-! ## RECORD_WALK, SAFETY_BLOCK_CHECK, STRAP_CHECK (R274, R282, R283) -/

/-- A load that fails leaves the device in Start (R288). -/
def loadFailed (f : LoadFail) (s : State) : State :=
  { s with image := { s.image with load := f.1, type := f.2.1, inst := f.2.2 } }

/-- Banks that no board slot names are unassigned (R81). -/
def unassigned (l : Legend) (b : Nat) : Bool := !l.boards.any (fun k => k.banks.contains b)

/-- The escrow pair of this Start (R263). -/
def escrowPair (s : State) : State :=
  match s.legend.keys.find? (fun e => decide (e.1 = 4)) with
  | none => s
  | some q =>
    let (e, t) := drawScalar s
    match ecdh e q.2 with
    | none => t
    | some x =>
      { t with sec := { t.sec with
        escrow := some (e, hkdfExpand (hkdfExtract (zeros 32) (leBytes 32 x)) (ascii "dexver escrow") 32) } }

/-- The records are loaded into every unit. -/
def loadUnits (l : Legend) (s : State) : State :=
  let t := { s with
    legend := l
    image := { s.image with load := 0, loaded := true }
    calib := { s.calib with overrides := !l.overrides.isEmpty }
    seq := { s.seq with
      buf0 := (5, Table.getD [] l.fire 5)
      buf1 := (5, Table.getD [] l.fire 5) } }
  let t := (List.range 32).foldl (fun u b => if unassigned l b then modBank b (fun v => { v with st := 5 }) u else u) t
  escrowPair t

/-- The walk of the records of a verified image and the checks after it. -/
def recordWalk (img : List Byte) (s : State) : State :=
  let h := img.take 256
  let len := leAt h 8 4
  match walkRecs (leAt h 22 2 + 1) (slice img 256 (len - 320)) [] 0 (leAt h 22 2) with
  | .error e => loadFailed e s
  | .ok rs =>
    match missingRec rs with
    | some (t, i) => loadFailed (6, t, i) s
    | none =>
      let l := legendOf rs (leAt h 24 8) (leAt h 21 1)
      let t := { s with image := { s.image with
        clamped := min 65535 (rs.map recClamped).sum, unapplied := min 255 (unappliedPatches rs) } }
      let sb := (recOf rs 32 0).getD []
      if biasConflict l.bias then loadFailed (9, 2, 0) t
      else if !safetyOk sb then loadFailed (7, 32, 0) t
      else
        let u := startInputs .b (startInputs .a { t with legend := { t.legend with safety := l.safety } })
        if u.safety.a.straps ≠ l.safety.profile ∨ u.safety.b.straps ≠ l.safety.profile then loadFailed (8, 32, 0) u
        else loadUnits l u

/-! ## IMAGE_VERIFY -/

/-- The density suits (R269). -/
def norSuits (p : Option NorPart) : Bool :=
  match p with
  | none => false
  | some q => match q.sfdpMiB with | none => false | some n => decide (8 ≤ n)

/-- The image region, as long as its header says. -/
def imageBytes (s : State) : List Byte := norRead s 0 (clampN 512 4194304 (leAt (norRead s 8 4) 0 4))

/-- What an unwrapped key allows on a NOR part that suits. -/
def verifyImage (written : Bool) (s : State) : State :=
  let img := imageBytes s
  let r := imageResult s img
  let t := { s with sec := { s.sec with result := r } }
  let t := if r = 0 then burnFuses (img.take 256) t else t
  let t := calRead (startCounter true written t)
  if r = 0 then
    recordWalk img { t with sec := { t.sec with claim := claimState t }
                            legend := { t.legend with build := leAt img 24 8, version := leAt img 21 1 } }
  else t

/-- The device key unwrapped under the regenerated K_p; none where its tag does not verify (R243, R246). -/
def unwrapKey (o : Otp) : Option Nat :=
  if o.wrapped.length = 32 then (gcmOpen (kPuf o.helper) o.wrapIv [] o.wrapped o.wrapTag).map leNat else none

/-- How the device reads a part that suits: the widest mode SFDP declares, at 80 MHz or the part's limit (R269). -/
def norReadMode (nor : Option NorPart) (v : Nor) : Nor :=
  match nor with
  | none => { v with present := false }
  | some p => if norSuits nor then
      { v with present := true, lines := if p.quad then 4 else if p.dual then 2 else 1, mhz := min 80 p.maxMhz }
    else { v with present := true }

/-- IMAGE_VERIFY: once per Start, whatever the state of the reference (R455); in Safe stop no image is read
(notes/assumptions/46.md). -/
def execImageVerify (dt : Nat) (nor : Option NorPart) (s : State) : Out :=
  .next (when_ (s.phase == .start && !s.image.judged) (fun t =>
    watchSafety (fun t =>
      let suits := norSuits nor
      let t := { t with
        nor := norReadMode nor t.nor
        image := { t.image with judged := true, load := if suits then 1 else 2 }
        sec := { t.sec with claim := claimState t, d := unwrapKey t.otp, result := if (unwrapKey t.otp).isSome then 1 else 8 } }
      if t.sec.d.isNone then t else if suits then verifyImage (nor.any (·.counterOk)) t else startCounter false false t) t) (advance dt s))

/-! ## IMAGE_ACCEPT (R34, R92, R302, R455) -/

/-- Spin-up begins: the bias is enabled, both channels drive MOT_EN high, and the motor is commanded up from 0, whatever
speed the polygon still has (notes/assumptions/30.md). -/
def spinUp (s : State) : State :=
  let go (c : SafeCh) : SafeCh :=
    { c with motEn := true, torqueOff := none, standstill := false, entered := false, inWindow := false, regain := 0,
             outSince := none, gapOk := false, gapBad := true, badGaps := 0, gapBn := none, motorFault := false }
  let t := modSide .b go (modSide .a go s)
  biasEnable { t with
    phase := .spinUp
    motor := { t.motor with torque := true, settled := false, settleRun := 0, rampStart := some t.now, disagree := 0,
                            integral := 0, brake := none, fault := false }
    seq := { t.seq with timingBoundaries := 0, startWindows := 0, sheetOpen := false, period := none, stopped := false,
                        stop := none, startFault := s.seq.startFault && s.phase == .start } }

/-- The image is accepted: spin-up begins, in Safe stop only once it is left (R302). -/
def acceptImage (s : State) : State :=
  let t := { s with image := { s.image with accepted := true }, grat := { s.grat with clkOutArmed := true } }
  startNext t.now (if s.phase == .start then spinUp t else t)

/-- IMAGE_ACCEPT: the loaded image is accepted once the Graticule has locked. -/
def execImageAccept (dt : Nat) (s : State) : Out :=
  .next (when_ (s.phase != .reset && s.image.loaded && s.grat.everLocked && !s.image.accepted) (watchSafety acceptImage)
    (advance dt s))

end Sys2Proof.Machine
end

