-- ==== Sys2Proof/Machine/Modes.lean ====
section
/-! DEFINITION. Modes and mode requests: R232, R292 to R298, R302, R303 (chapter 12). -/

namespace Sys2Proof.Machine

open Sys2Proof

/-! ## Checks of a request (R293, R294, R296) -/

/-- Table 12.2 with 0 for Start; the mode in force is always allowed (R293). -/
def transitionAllowed (old new : Nat) : Bool :=
  decide (new = old ∨ old = 0 ∨ old = 5 ∨ new = 5 ∨ (old ≤ 4 ∧ 1 ≤ new ∧ new ≤ 3))

/-- The result of a request at its boundary: `hold` when an Idle hold is in force. -/
def requestResult (s : State) (old : Nat) (hold : Bool) (new : Nat) : Nat :=
  if hold ∧ new ≠ 5 then 2
  else if new = 6 ∧ !depotKey s then 3
  else if transitionAllowed old new then 0
  else 2

/-! ## MODE_REQUEST (R232, R294) -/

/-- The request of a body. -/
def requestOf (body : List Byte) (s : State) : Request :=
  let w := leAt body 0 8
  { identity := bits 63 56 w, mode := bits 55 53 w, plan := bits 52 50 w, arrival := s.now, echo := bits 63 50 w }

/-- Put a request into the latch; one still held is acknowledged as replaced (R40, R232). -/
def latchRequest (r : Request) (s : State) : State :=
  let t := match s.seq.latch with
    | none => s
    | some o => ackMode o.echo 1 0 s
  modSeq (fun q => { q with latch := some r }) t

/-- A channel leaves Safe stop: its causes and its notice line go. -/
def releaseChannel (c : SafeCh) : SafeCh :=
  { c with stopped := false, notice := false, cause := 0, causes := [], entry := none, ramps := [], origins := [], codes := [] }

/-- SAFE_STOP_EXIT (R302): acknowledged with the counter of the first sheet that will open in Idle; the device returns
to Start at image acceptance.  The applied request for Idle cancels a return (R296); the
frame count, a short and lock-lost stay as they are (notes/assumptions/47.md). -/
def safeStopExit (r : Request) (s : State) : State :=
  let t := ackMode r.echo 0 ((s.seq.sheet + 1) % 2 ^ 32) s
  let t := modSide .b releaseChannel (modSide .a releaseChannel t)
  let t := { t with banks := t.banks.map (fun e => (e.1, { e.2 with fired := false }))
                    calib := { t.calib with recoveryDue := true } }
  let t := spinUp (modSeq (fun q => { q with mode := 0, returnIdle := true, returnMode := 0, returnDue := false }) t)
  logEvent 1 5 0 (modeWord t) t

/-- Is the mode declared?  The codes 0 and 7 name none (R294). -/
def requestable (s : State) (m : Nat) : Bool := decide (1 ≤ m ∧ m ≤ 6) && modeDeclared s m

/-- A verified request: the checks on arrival, then the latch, or in Safe stop the exit. -/
def modeRequest (body : List Byte) (s : State) : State :=
  let r := requestOf body s
  if !requestable s r.mode then refuseMode r.echo 4 s
  else if r.mode = 6 ∧ r.plan ≠ 0 ∧ !tableHas s.legend.plans r.plan then refuseMode r.echo 5 s
  else if s.phase == .safeStop then
    if r.mode = 5 ∧ exitReady s then safeStopExit r s else refuseMode r.echo 2 s
  else latchRequest r s

/-- MODE_REQUEST. -/
def execModeRequest (dt : Nat) (codes : List Nat) (rd : Bool) (s : State) : Out :=
  .next (watchSafety (onPacket 0x82 codes rd modeRequest) (advance dt s))

/-! ## REQUEST_SAMPLE: the mode of the coming sheet (R40, R292, R295 to R297) -/

/-- A request that reached the latch before the hand-over window, 1 us before B_n as the bearing clock predicts it (R40). -/
def beforeWindow (s : State) (arrival : Nat) : Bool := decide (arrival + us 1 < clockBn s)

/-- The request sampled at this boundary; none at the boundary that opens the first sheet after Safe stop (R302). -/
def sampledRequest (s : State) : Option Request :=
  match s.seq.latch with
  | none => none
  | some r => if beforeWindow s r.arrival && !(s.phase == .spinUp && s.seq.returnIdle) then some r else none

/-- A request waits for the next boundary because of the hand-over window. -/
def requestDeferred (s : State) : Bool :=
  (match s.seq.latch with | none => false | some r => !(beforeWindow s r.arrival)) ||
    (match s.seq.keyWithdrawn with | none => false | some t => !(beforeWindow s t))

/-- What a boundary decides about the mode. -/
structure Choice where
  /-- mode of the coming sheet -/
  mode : Nat
  /-- Depot test plan of the coming sheet -/
  plan : Nat
  /-- the request sampled and its result -/
  ack : Option (Request × Nat)
  /-- return mode after the boundary -/
  returnMode : Nat
  /-- a bias hold, a dip hold, is entered -/
  enterBias : Bool
  enterDip : Bool
  deriving DecidableEq, Repr

/-- The mode of the sheet that ends, 0 in Start. -/
def endingMode (s : State) : Nat := if s.phase == .mode then s.seq.mode else 0

/-- The return mode once the holds of this boundary have been entered (R296).  A return that a bias hold keeps from being
made is cleared: the device stays in Idle. -/
def returnAfter (s : State) (bias dip : Bool) : Nat :=
  if !dip then (if bias && s.seq.returnDue then 0 else s.seq.returnMode)
  else if s.seq.biasHold || bias then 0
  else if s.seq.returnDue then s.seq.returnMode
  else endingMode s

/-- The depot key has been withdrawn in Depot before the hand-over window (R295). -/
def withdrawalDue (s : State) : Bool :=
  decide (endingMode s = 6) && (match s.seq.keyWithdrawn with | none => false | some t => beforeWindow s t)

/-- The mode where no request changes it: the first mode in Start, the return after a dip hold, the mode in force. -/
def unrequested (s : State) (hold : Bool) (ret : Nat) : Nat × Nat :=
  if endingMode s = 0 then (if s.seq.returnIdle || hold then 5 else firstMode s, ret)
  else if s.seq.returnDue && decide (ret ≠ 0) then
    (if requestResult s (endingMode s) hold ret = 0 ∧ modeDeclared s ret then ret else endingMode s, 0)
  else (endingMode s, ret)

/-- The order of R297: entry into an Idle hold, withdrawal of the depot key, the latched request, the return. -/
def chooseMode (s : State) : Choice :=
  let bias := s.seq.biasHoldDue && !s.seq.biasHold
  let dip := s.seq.dipHoldDue && !s.seq.dipHold
  let hold := s.seq.biasHold || s.seq.dipHold || bias || dip
  let ret := returnAfter s bias dip
  let kept := if s.phase == .mode && decide (s.seq.mode = 6) then s.seq.plan else 0
  let r := sampledRequest s
  if bias || dip || withdrawalDue s then
    { mode := 5, plan := 0, ack := r.map (fun x => (x, 2)), returnMode := ret, enterBias := bias, enterDip := dip }
  else
    let other := unrequested s hold ret
    match r with
    | none =>
      { mode := other.1, plan := if other.1 = 6 then kept else 0, ack := none, returnMode := other.2, enterBias := false,
        enterDip := false }
    | some x =>
      let k := requestResult s (endingMode s) hold x.mode
      if k = 0 then
        { mode := x.mode, plan := if x.mode ≠ 6 then 0 else if endingMode s = 6 then kept else x.plan, ack := some (x, 0),
          returnMode := 0, enterBias := false, enterDip := false }
      else
        { mode := other.1, plan := if other.1 = 6 then kept else 0, ack := some (x, k), returnMode := other.2,
          enterBias := false, enterDip := false }

/-- Acknowledge the request that a boundary sampled: an applied one with the counter of the sheet that begins. -/
def ackSampled (c : Choice) (s : State) : State :=
  match c.ack with
  | none => s
  | some (r, 0) => ackMode r.echo 0 s.seq.sheet s
  | some (r, k) => refuseMode r.echo k s

/-- Counters, log entries and triggers of a mode change and of holds entered (R296, R303, R399). -/
def noteMode (old : Nat) (c : Choice) (s : State) : State :=
  let w := modeWord s
  let t := if c.mode ≠ old then count .modeChanges 1 (logEvent 1 1 0 w s) else s
  let t := if c.enterBias then count .idleHolds 1 (logEvent 1 2 0 w t) else t
  if c.enterDip then raiseTrigger 4 (count .idleHolds 1 (logEvent 1 2 0 w t)) else t

end Sys2Proof.Machine
end

