-- ==== Sys2Proof/Machine/Power.lean ====
section
/-! DEFINITION. Supplies and reset (chapters 17 and 18) and the Graticule timebase (chapter 5). -/

namespace Sys2Proof.Machine

open Sys2Proof

/-! ## Reset (R427 to R429, R440, R441) -/

/-- What of the recorder lies in the NAND, and so persists. -/
def recorderKept (r : Recorder) : Recorder :=
  { blocks := r.blocks.map (fun e => (e.1, { e.2 with st := 0, reads := 0, incident := 0 })) }

/-- A reset: every volatile field returns to its default; fuses, NOR, NAND and the reset cause cell persist (R429).
While `hold` says that SAMPLE/PRELOAD or EXTEST is loaded, the instruction and its cells stay, as R453 holds the device in
reset for as long as it is loaded (notes/assumptions/39.md).  The levels of the rails, waiting commands, time and the count of
free values are not the device's. -/
def resetDevice (cause : Nat) (por low hold : Bool) (s : State) : State :=
  { State.reset with
    pending := s.pending, now := s.now, free := s.free,
    supply := { levels := s.supply.levels, below := s.supply.below, returning := if por then s.supply.returning else none,
                resetCause := cause, por := por, nresetLow := low, jtagHold := hold },
    otp := s.otp, nor := { mem := s.nor.mem, present := s.nor.present },
    recd := { recorderKept s.recd with hourAt := s.now },
    jtag := if hold then { instr := s.jtag.instr, cells := s.jtag.cells } else {} }

/-- VDD_CORE below 0.40 V clears the retention cell of the reset cause (R429). -/
def causeKept (core cause : Nat) : Nat := if core < 400000 then 0 else cause

/-- POWER_ON_RESET: every rail has been above its return level for 1 ms, and the internal power-on reset is released; the
cause shows 0 when VDD_CORE was lost (R440). -/
def execPowerOnReset (dt coreLowest : Nat) (s : State) : Out :=
  let t := advance dt s
  .next (match t.supply.returning with
    | some r =>
      if t.supply.por && decide (r + ms 1 ≤ t.now) then
        { t with supply := { t.supply with por := false, returning := none,
                                           resetCause := causeKept coreLowest t.supply.resetCause } }
      else t
    | none => t)

/-- Does a low level of this length reset the device (R427)? -/
def nresetActs (n low : Nat) : Bool :=
  if low < us 2 then false
  else if us 2 + ns 200 ≤ low then true
  else Config.nresetBetween n

/-- NRESET_LOW: a low level of `low` taps (R427, R428).  While the internal power-on reset holds the device the cause
of that reset stays (R440). -/
def execNresetLow (dt low : Nat) (s : State) : Out :=
  let t := advance dt s
  .next (if nresetActs t.free low then
      resetDevice (if t.supply.por then t.supply.resetCause else 1) t.supply.por true t.supply.jtagHold
        { t with free := t.free + 1 }
    else { t with free := t.free + 1 })

/-- PROCESSOR_WATCHDOG: resets the device as nRESET does, with cause 3 (R421). -/
def execProcessorWatchdog (dt : Nat) (s : State) : Out :=
  .next (when_ (s.phase != .reset) (resetDevice 3 s.supply.por s.supply.nresetLow s.supply.jtagHold) (advance dt s))

/-! ## Reference detection (R108, R109) -/

/-- The frequency a count of edges over 10 us names: 0, 1, 2 for 10, 25, 100 MHz. -/
def classifyEdges (n : Nat) : Option Nat :=
  if 90 ≤ n ∧ n ≤ 110 then some 0
  else if 225 ≤ n ∧ n ≤ 275 then some 1
  else if 900 ≤ n ∧ n ≤ 1100 then some 2
  else none

/-- The whole detection of R108: `watched` edges in the 20 us of the watch, and the count over 10 us.  Edges are counted,
and a count in a band is accepted; no edge in the watch starts the crystal; any other count means no valid reference. -/
def detectReference (now watched edges : Nat) (g0 : Grat) : Grat :=
  let g := { g0 with detectAt := now }
  if watched = 0 then { g with crystal := true, crystalWait := true }
  else
    match classifyEdges edges with
    | some f => { g with st := .searching, crystal := false, freq := f, crystalWait := false }
    | none => { g with st := .noReference, crystal := false, crystalWait := false }

/-- May the device leave reset? -/
def mayRelease (s : State) : Bool := s.phase == .reset && !s.supply.por && !s.supply.jtagHold

/-- RESET_RELEASE: Start begins; the straps are sampled by both channels (R283) and the reference is sought (R108). -/
def execResetRelease (dt : Nat) (strapA strapB : Byte) (ref : RefEdges) (s : State) : Out :=
  .next (when_ (mayRelease s) (fun t =>
    { t with phase := .start, supply := { t.supply with nresetLow := false },
             grat := detectReference t.now ref.watched ref.counted t.grat,
             safety := { t.safety with a := { t.safety.a with straps := strapA.toNat, lastWord := t.now },
                                       b := { t.safety.b with straps := strapB.toNat, lastWord := t.now } } }) (advance dt s))

/-- CRYSTAL_STARTUP_DONE: after 2 ms the crystal frequency is classified; only 10 and 25 MHz are accepted (R108). -/
def execCrystalStartupDone (dt edges : Nat) (s : State) : Out :=
  let t := advance dt s
  .next (when_ (t.grat.crystalWait && decide (t.grat.detectAt + ms 2 ≤ t.now)) (fun t =>
    match classifyEdges edges with
    | some f =>
      if f < 2 then { t with grat := { t.grat with st := .searching, freq := f, crystalWait := false } }
      else { t with grat := { t.grat with st := .noReference, crystalWait := false } }
    | none => { t with grat := { t.grat with st := .noReference, crystalWait := false } }) t)

/-- REFERENCE_DETECT_RETRY: 100 ms after the last, the whole detection again (R108). -/
def execReferenceDetectRetry (dt : Nat) (ref : RefEdges) (s : State) : Out :=
  let t := advance dt s
  .next (when_ (t.phase != .reset && t.grat.st == .noReference && !t.grat.crystalWait && decide (t.grat.detectAt + ms 100 ≤ t.now))
    (fun t => { t with grat := detectReference t.now ref.watched ref.counted t.grat }) t)

/-! ## Lock (R111, R112, R114, R116, R119, R120) -/

/-- Is the control value outside 5 % to 95 % (R111)? -/
def controlOutside (control : Nat) : Bool := decide (control < 0x0CCD ∨ 0xF333 < control)

/-- The band of the binary search in five steps: at each the divided VCO is slower than the reference, and the upper half of
the bands left is taken, or not (R111). -/
def searchedBand (slow : List Bool) : Nat := slow.foldl (fun b v => 2 * b + b2n v) 0

/-- The die temperature that R121 follows and R358 predicts from: TS10, or T_j while TS10 is faulty, 0 degC where no sensor is
valid and T_j cannot be formed (notes/assumptions/46.md); 0.25 degC. -/
def dieReading (s : State) : Int :=
  if s.thermal.faulty.contains 10 then s.thermal.tj.getD 0 else Table.getD 0 s.thermal.ts 10

/-- Control value of the searched band's neighbour `d` bands up, predicted for a die at `temp` (0.25 degC) from the value
measured now: bands overlap by 30 %, so a band is 70 % of the code range from the next (R111, R358). -/
def predictedControl (s : State) (measured : Nat) (d temp : Int) : Int :=
  (measured : Int) + Config.vcoCoeff * (temp - dieReading s) / 4 - d * 45875

/-- Do the predictions at -40 and 125 degC both lie within 5 % to 95 %? -/
def controlHolds (s : State) (measured : Nat) (d : Int) : Bool :=
  [-160, 500].all (fun k => decide (0x0CCD ≤ predictedControl s measured d k ∧ predictedControl s measured d k ≤ 0xF333))

/-- The band taken: the searched one, or the neighbour that brings both predictions inside (R111)
(notes/assumptions/46.md). -/
def chosenBand (s : State) (slow : List Bool) (measured : Nat) : Nat :=
  let b := searchedBand slow
  if controlHolds s measured 0 then b
  else if b < 31 && controlHolds s measured 1 then b + 1
  else if 0 < b && controlHolds s measured (-1) then b - 1
  else b

/-- The phase error has stayed within 200 ps on 256 consecutive reference cycles (R112); errors in ps, newest first. -/
def lockHeld (errors : List Int) : Bool := decide (256 ≤ errors.length) && (errors.take 256).all (fun e => decide (e.natAbs ≤ 200))

/-- First lock: the outputs start, the local counter starts at 0 and the link starts (R114, R116, R213). -/
def firstLock (band control : Nat) (s : State) : State :=
  linkTransmitStart 0 { s with grat := { s.grat with
    st := .locked, everLocked := true, outputs := true, startOsc := false, band := band, control := control,
    controlMargin := controlOutside control, localTime := 0, subTap := 0, lb := 0, vb := 0 } }

/-- The loop reports its control value; control-margin shows whether it lies outside 5 % to 95 %, and the lock stays (R111,
R125). -/
def noteControl (control : Nat) (g : Grat) : Grat :=
  { g with control := control, controlMargin := controlOutside control }

/-- LOCK_DECLARED: at the first lock, during a relock (the state stays Relocking until the outputs return, R119), or at
the end of a pull after Coasting (R120), in the band in force; while locked it reports the control value. -/
def execLockDeclared (dt : Nat) (band : BandSearch) (loop : LoopState) (s : State) : Out :=
  need (decide (band.slow.length = 5) && decide (band.measured < 65536) && decide (loop.control < 65536)) (
    let t := advance dt s
    if !lockHeld loop.errors then t else
    match t.grat.st with
    | .searching =>
      if t.phase != .reset && !t.grat.crystalWait && !t.grat.everLocked then
        firstLock (chosenBand t band.slow band.measured) loop.control t else t
    | .relocking =>
      if t.grat.pulling then
        { t with grat := { noteControl loop.control t.grat with st := .locked, pulling := false, deltaT := 0 } }
      else if t.grat.lockedAt.isNone then
        { t with grat := { noteControl loop.control t.grat with lockedAt := some t.now, band := chosenBand t band.slow band.measured } }
      else t
    | .locked => { t with grat := noteControl loop.control t.grat }
    | _ => t)

/-! ## Outputs (R114, R115, Table 5.2) -/

/-- The Graticule outputs. -/
inductive GratOut where
  | tdc | fire | processors | slowCores | linkRef | motorBase | clkOut
  deriving DecidableEq, Repr

/-- Divider from 6.4 GHz. -/
def outDivider (s : State) : GratOut → Nat
  | .tdc => 4
  | .fire => 8
  | .processors => 16
  | .slowCores => 32
  | .linkRef => 64
  | .motorBase => 64
  | .clkOut => s.legend.scan.clkDiv

/-- Delay, taps: one VCO period of 156.25 ps is 5 taps. -/
def outDelay (s : State) : GratOut → Nat
  | .tdc => 5 * Config.tdcDelay
  | .fire => 5 * Config.fireDelay
  | .clkOut => 5 * s.legend.scan.clkDelay
  | _ => 0

/-- Is an output running, and from the VCO? -/
def outRuns (s : State) : GratOut → Bool
  | .processors => s.phase != .reset
  | .slowCores => s.phase != .reset
  | .clkOut => s.grat.clkOut
  | _ => s.grat.outputs

/-- The motor's PWM period and high time, in counts of its 100 MHz time base. -/
def pwmCounts (s : State) : Nat := 100000 / s.legend.scan.pwmKHz

/-- The next rising edge of the VCO, at or after an instant. -/
def vcoEdge (s : State) (t : Nat) : Nat := t + (5 - fineAt s t % 5) % 5

/-- Period and high time of CLK_OUT, taps: an odd divider is high for (N + 1) / 2 VCO periods. -/
def clkPeriod (s : State) : Nat := 5 * s.legend.scan.clkDiv
def clkHigh (s : State) : Nat := 5 * ((s.legend.scan.clkDiv + 1) / 2)

/-- The level of CLK_OUT at an instant: whole high times from its first edge to its end (R115). -/
def clkLevel (s : State) (t : Nat) : Bool :=
  decide (s.grat.clkStart ≤ t) && (s.grat.clkOut || decide (t < s.grat.clkEnd)) &&
    decide ((t - s.grat.clkStart) % clkPeriod s < clkHigh s)

/-- CLK_OUT starts at a rising VCO edge, after its delay. -/
def clkBegin (at_ : Nat) (s : State) : Grat :=
  { s.grat with clkOut := true, clkStart := vcoEdge s at_ + outDelay s .clkOut }

/-- CLK_OUT stops: after the whole high time in progress, and stays low. -/
def clkStop (s : State) : Grat :=
  let high := clkLevel s s.now
  { s.grat with clkOut := false
                clkEnd := if high then s.now + (clkHigh s - (s.now - s.grat.clkStart) % clkPeriod s) else s.now }

/-! ## Coasting, loss of lock and relock (R112, R113, R118 to R121) -/

/-- REFERENCE_LOSS (R118): Coasting, with band and every output kept.  One that comes while a relock searches its band or
holds its lock changes nothing and is not counted (notes/assumptions/46.md). -/
def execReferenceLoss (dt : Nat) (s : State) : Out :=
  .next (when_ (s.grat.st == .locked || (s.grat.st == .relocking && s.grat.pulling)) (fun t =>
    let u := { t with grat := { t.grat with
      st := .coasting, pulling := false, coastTs := Table.getD 0 t.thermal.ts 10, coastTj := t.thermal.tj.getD 0
      deltaT := 0 } }
    count .refLoss 1 (logEvent 6 2 0 (gratWord u) u)) (advance dt s))

/-- Loss of lock (R119): lock-lost is set and counted, firing stops from the next slot, the outputs stop and the
processor clocks run on the start oscillator; a calibration run ends (R351). -/
def lossOfLock (s0 : State) : State :=
  let s := lightDiag s0
  let t := { s with grat := { (if s.grat.clkOut then clkStop s else s.grat) with
    st := .relocking, lockLost := true, outputs := false, startOsc := true, pulling := false,
    lockedAt := none, deltaT := 0,
    pllHold := (match s.grat.pllHold with | none => some s.now | some h => some h) } }
  let t := count .lockLoss 1 (logEvent 6 1 0 (gratWord t) t)
  abandonRun 2 (stopFiring 2 false { t with seq := { t.seq with resumeOk := false } })

/-- Is lock lost: the phase error, ps, exceeds 1 ns on 4 consecutive cycles, the monitor finds the VCO more than 500 ppm off
over 10 us (R112), or the reference has stepped by more than the 200 ppm that are followed (R113)? -/
def lockFails (errors : List Int) (offPpm stepPpm : Int) : Bool :=
  (decide (4 ≤ errors.length) && (errors.take 4).all (fun e => decide (1000 < e.natAbs))) ||
    decide (500 < offPpm.natAbs ∨ 200 < stepPpm.natAbs)

/-- LOSS_OF_LOCK: declared while locked, while the phase is pulled, or while a new lock is being held; a phase error that is
being pulled to zero declares none (R120). -/
def execLossOfLock (seen : LockMonitor) (s : State) : Out :=
  .next (when_ (lockFails (if s.grat.pulling then [] else seen.errors) seen.offPpm seen.stepPpm &&
      (s.grat.st == .locked || (s.grat.st == .relocking && (s.grat.pulling || s.grat.lockedAt.isSome))))
    lossOfLock (advance seen.dt s))

/-- REFERENCE_RETURN (R120): another frequency is a mismatch and Coasting continues; a difference above 500 ppm is a
loss of lock; otherwise the phase is pulled with every output running. -/
def execReferenceReturn (dt edges : Nat) (ppm : Int) (s : State) : Out :=
  .next (when_ (s.grat.st == .coasting) (fun t =>
    if classifyEdges edges ≠ some t.grat.freq then
      count .refMismatch 1 (logEvent 6 3 0 (gratWord t) t)
    else if 500 < ppm.natAbs then lossOfLock t
    else { t with grat := { t.grat with st := .relocking, pulling := true, deltaT := 0 } }) (advance dt s))

/-- CLK_OUT has been started by a sheet-state load after acceptance (R115). -/
def clkOutRuns (s : State) : Bool := s.legend.scan.clkOut && s.image.accepted && !s.grat.clkOutArmed

/-- OUTPUTS_RETURN (R119 step 5): lock has held for 1 ms; all outputs return, and a link that was stopped restarts. -/
def execOutputsReturn (dt : Nat) (s : State) : Out :=
  let t := advance dt s
  .next (match t.grat.lockedAt with
    | some l =>
      if t.grat.st == .relocking && decide (l + ms 1 ≤ t.now) then
        let g := { (if clkOutRuns t then clkBegin t.now t else t.grat) with
          st := .locked, outputs := true, startOsc := false, lockedAt := none, pllHold := none }
        let u := { t with grat := g, calib := { t.calib with recoveryDue := true } }
        if u.link.restart then linkTransmitStart 0 u else u
      else t
    | none => t)

/-- LINK_PLL_HOLD_EXPIRY (R119): the outputs have not returned within 2 ms. -/
def execLinkPllHoldExpiry (dt : Nat) (s : State) : Out :=
  let t := advance dt s
  .next (match t.grat.pllHold with
    | some h => if t.grat.st == .relocking && decide (h + ms 2 ≤ t.now) then linkStop t else t
    | none => t)

/-- Taps until the 48-bit local counter wraps, on the start oscillator at its rate while the outputs are stopped. -/
def tapsToWrap (s : State) : Nat :=
  let n := 2 ^ 48 - s.grat.localTime % 2 ^ 48
  if s.grat.startOsc then ceilDiv (80000000 * ceilDiv n 4 - s.grat.oscPhase) (startRate s.free) else n * 20 - s.grat.subTap

/-- LOCAL_COUNTER_WRAP: time passes to the instant at which the local counter wraps and the epoch increments (R116). -/
def execLocalCounterWrap (s : State) : Out := .next (when_ s.grat.everLocked (fun t => advance (tapsToWrap t) t) s)

/-- SYNC_STALE (R124): no message accepted for 10 s; rho is kept, sigma is zero and the mapping runs on alone. -/
def execSyncStale (dt : Nat) (s : State) : Out :=
  let t := advance dt s
  .next (when_ (decide (t.grat.sync = 1) && decide (t.grat.lastSync + sec 10 ≤ t.now)) (fun t =>
    { t with grat := { rebase t.grat t.grat.localTime with sync := 2, sigma := 0, slew := 0 } }) t)

/-! ## Time synchronisation (R122, R231) -/

/-- The frequency difference f between this sample and the previous one, ppb, rounded toward minus infinity (R122). -/
def syncFreq (host t2 : Nat) (prev : Nat × Nat) : Int :=
  let dl : Int := (t2 : Int) - (prev.2 : Int)
  if dl = 0 then 0
  else (((host : Int) - (prev.1 : Int)) * 8 - dl * 5) * 1000000000 / (dl * 5)

/-- Act on an accepted sample (R122): result code of R231 and the new Graticule state; a later step
replaces one that waits (notes/assumptions/48.md). -/
def syncSample (t1 d t2 : Nat) (g0 : Grat) (now : Nat) : Nat × Grat :=
  let host := t1 + d
  let e : Int := (host : Int) - vehicleAt g0 t2
  let g := rebase g0 t2
  let f : Option Int := g.prevSample.map (syncFreq host t2)
  let first := g.prevSample.isNone
  let g1 := { g with prevSample := some (host, t2), prevT1 := some t1, lastSync := now, sync := 1 }
  if first || 1000000 < e.natAbs then
    (if first then 3 else 1,
      { g1 with pendingStep := some e, sigma := 0, slew := 0,
                rho := clampI (-200000) 200000 (f.getD g.rho) })
  else
    (0, { g1 with sigma := clampI (-100000) 100000 e, slew := e,
                  rho := clampI (-200000) 200000
                    (match f with | none => g.rho | some v => g.rho + (v - g.rho) / 16) })

/-- The local time at the packet's K27.7, `n` bytes before its K29.7 at 8 ns a symbol (R122, R231). -/
def stampT2 (n : Nat) (s : State) : Nat := localAt s (s.now - ns 8 * (n + 1))

/-- The time echo of R231, t3 inserted as it leaves. -/
def timeEcho (t1 t2 result : Nat) (s : State) : State :=
  due2 (pkt 0x09 (wordsLe [t1, t2, 0, field 8 56 result])) s

/-- A time-sync body is acted on. -/
def timeSyncBody (n : Nat) (body : List Byte) (s : State) : State :=
  let t1 := leAt body 0 8
  let d := leAt body 12 4
  let t2 := stampT2 n s
  let late := match s.grat.prevT1 with | none => false | some p => decide (t1 ≤ p)
  if late then timeEcho t1 t2 2 (count .timeSyncDiscarded 1 s)
  else
    let r := syncSample t1 d t2 s.grat s.now
    timeEcho t1 t2 r.1 { s with grat := r.2 }

/-- TIME_SYNC. -/
def execTimeSync (dt : Nat) (codes : List Nat) (rd : Bool) (s : State) : Out :=
  .next (onPacket 0x81 codes rd (timeSyncBody (rxBytes s codes rd).length) (advance dt s))

/-- A pending step is applied at the sheet boundary (R122, R123). -/
def applyStep (s : State) : State :=
  match s.grat.pendingStep with
  | none => { s with grat := { s.grat with stepApplied := none } }
  | some e =>
    let g := rebase s.grat s.grat.localTime
    let t := { s with grat := { g with vb := g.vb + e, pendingStep := none, stepApplied := some e } }
    count .timeSteps 1 (logEvent 6 4 0 (toTwos 32 e) t)

/-! ## Rails, dips (R296, R423 to R425, R436, R437, R441) -/

/-- Table 18.1, uV: nominal voltage, and warning, return and reset level of rails 0 to 5. -/
def railTable : List (Nat × List Nat) :=
  [(750000, [700000, 720000, 650000]), (850000, [800000, 820000, 750000]), (900000, [850000, 870000, 800000]),
   (1200000, [1120000, 1160000, 1050000]), (1800000, [1650000, 1710000, 1550000]),
   (3300000, [3000000, 3135000, 2800000])]

/-- Is rail `r` at `v` judged below its warning (k = 0), return (1) or reset level (2)?  The comparison errs by up to 1 % of
the nominal voltage (R437). -/
def railUnder (n k r v : Nat) : Bool :=
  match railTable[r]? with
  | none => false
  | some (nominal, marks) =>
    let e : Int := (nominal / 100 : Nat)
    decide ((v : Int) + clampI (-e) e (Config.railError n (3 * r + k)) < (marks.getD k 0 : Nat))

/-- The rails judged below one of their levels. -/
def railsUnder (n k : Nat) (levels : List Nat) : List Nat :=
  (List.range 6).filter (fun r => railUnder n k r (levels.getD r 0))

/-- The monitor sees the rails: it notes which are below their warning level, and since when every one is above its return
level, in a dip and in the power-on reset; any rail that is not begins the 1 ms anew (R423, R440). -/
def railsSeen (levels : List Nat) (s : State) : State :=
  let below := railsUnder s.free 0 levels
  let back := below.isEmpty && (railsUnder s.free 1 levels).isEmpty
  { s with free := s.free + 1, supply := { s.supply with
      levels := levels, below := below,
      returning := if back && (s.supply.dip || s.supply.por) then some (s.supply.returning.getD s.now) else none } }

/-- A dip begins: counted, logged, fire inhibited, work in flight closed with cause 3, a run abandoned; more than
eight within 1 s enter a dip hold from the next boundary. -/
def dipBegin (rail : Nat) (s0 : State) : State :=
  let s := lightDiag s0
  let times := s.supply.dipTimes.filter (fun x => decide (s.now < x + sec 1)) ++ [s.now]
  let t := { s with supply := { s.supply with dip := true, returning := none, lastRail := rail, dipTimes := times } }
  let t := count (if rail = 0 then .coreDips else .otherDips) 1 t
  let t := logEvent 13 1 rail (supplyWord t) t
  let t := if 8 < times.length then
      logEvent 13 2 rail (supplyWord t) { t with seq := { t.seq with dipHoldDue := true } }
    else t
  abandonRun 2 (stopForDip t)

/-- The rails stand at these levels: one below its reset level resets the device with cause 2, and the power-on reset holds it
until the rails are back (R423, R440, R441); else one that has fallen below its warning level begins a dip, of the lowest
such rail (notes/assumptions/18.md), or keeps the dip in progress going. -/
def railsAt (levels : List Nat) (s : State) : State :=
  let t := railsSeen levels s
  if !(railsUnder s.free 2 levels).isEmpty then
    resetDevice (causeKept (levels.getD 0 0) 2) true t.supply.nresetLow false { t with supply := { t.supply with returning := none } }
  else
    match t.supply.below with
    | [] => t
    | r :: _ => if t.phase == .reset || t.supply.dip then t else dipBegin r t

/-- A fall that lasts less than 50 ns is ignored (R437). -/
def railsFall (fall : RailFall) (s : State) : State :=
  if fall.lasts < ns 50 then s else railsAt fall.levels s

/-- DIP_BEGIN: a fall during a dip restarts its 1 ms and begins no new one (R423). -/
def execDipBegin (dt : Nat) (fall : RailFall) (s : State) : Out :=
  need (decide (fall.levels.length = 6)) (railsFall fall (advance dt s))

/-- RESET_LEVEL_FALL: a rail below its reset level resets the device with cause 2 (R423, R441). -/
def execResetLevelFall (dt : Nat) (fall : RailFall) (s : State) : Out :=
  need (decide (fall.levels.length = 6)) (railsFall fall (advance dt s))

/-- SUPPLY_RETURN_LEVEL: with every rail above its return level the 1 ms starts, of a dip (R423) or of the power-on reset
(R440). -/
def execSupplyReturnLevel (rise : RailRise) (s : State) : Out :=
  need (decide (rise.levels.length = 6)) (railsAt rise.levels (advance rise.dt s))

/-- DIP_END: the rails have stayed above their return levels for 1 ms (R423). -/
def execDipEnd (dt : Nat) (s : State) : Out :=
  let t := advance dt s
  .next (match t.supply.returning with
    | some r =>
      if t.supply.dip && decide (r + ms 1 ≤ t.now) then
        { t with supply := { t.supply with dip := false, returning := none, lastDipEnd := t.now } }
      else t
    | none => t)

/-- DIP_HOLD_RELEASE: 10 s since the end of the last dip with no new one (R296). -/
def execDipHoldRelease (dt : Nat) (s : State) : Out :=
  let t := advance dt s
  .next (when_ (t.seq.dipHold && !t.supply.dip && decide (t.supply.lastDipEnd + sec 10 ≤ t.now)) (fun t =>
    let u := { t with seq := { t.seq with dipHold := false, returnDue := true }, calib := { t.calib with recoveryDue := true } }
    logEvent 1 3 0 (modeWord u) u) t)

end Sys2Proof.Machine
end

