-- ==== Sys2Proof/Machine/Thermal.lean ====
section
/-! DEFINITION. Die sensors, thermal levels and the throttle (R91, R121, R359 to R362). -/

namespace Sys2Proof.Machine

open Sys2Proof

def modThermal (f : Thermal → Thermal) (s : State) : State := { s with thermal := f s.thermal }

/-- A conversion within -55 to 150 degC. -/
def plausible (r : Option Int) : Bool := match r with | none => false | some v => decide (-220 ≤ v ∧ v ≤ 600)

/-- Sensors of a list that are not faulty and read plausibly. -/
def validOf (faulty : List Nat) (l : List (Option Int)) (sensors : List Nat) : List (Nat × Int) :=
  sensors.filterMap (fun i =>
    if faulty.contains i || !plausible (l.getD i none) then none else (l.getD i none).map (fun v => (i, v)))

/-- Does a sensor differ by more than 15 degC from the mean of the other valid ones (R360)? -/
def outlying (v : List (Nat × Int)) (i : Nat) (r : Int) : Bool :=
  let o := (v.filter (fun e => decide (e.1 ≠ i))).map (fun e => (e.2 : Rat))
  !o.isEmpty && decide (60 < |(r : Rat) - meanRat o|)

/-- Sensors found faulty at a reading. -/
def newFaults (faulty : List Nat) (l : List (Option Int)) : List Nat :=
  let v := validOf faulty l (List.range 16)
  (List.range 16).filter (fun i => !faulty.contains i &&
    (match v.find? (fun e => decide (e.1 = i)) with
     | none => true
     | some e => outlying v i e.2))

/-- T_a: the mean of TS0 to TS3 while two of them are valid, else of TS4 to TS7, else the one valid of TS0 to TS3, else
T_j (R91, R360). -/
def ambientTemp (faulty : List Nat) (l : List (Option Int)) (tj : Option Int) : Option Rat :=
  let a := (validOf faulty l [0, 1, 2, 3]).map (fun e => (e.2 : Rat))
  let b := (validOf faulty l [4, 5, 6, 7]).map (fun e => (e.2 : Rat))
  if 2 ≤ a.length then some (meanRat a)
  else if !b.isEmpty then some (meanRat b)
  else if !a.isEmpty then some (meanRat a)
  else tj.map (fun v => (v : Rat))

/-- T_j: the highest valid reading (R359). -/
def junctionTemp (faulty : List Nat) (l : List (Option Int)) : Option Int :=
  ((validOf faulty l (List.range 16)).map (·.2)).max?

/-- The thermal level (Table 14.5): `old`, T_j and the consecutive readings of 135 degC. -/
def thermalLevel (old : Nat) (tj : Int) (hot : Nat) : Nat :=
  if 2 ≤ hot ∨ (old = 3 ∧ 520 < tj) then 3
  else if 480 ≤ tj ∨ (2 ≤ old ∧ 460 < tj) then 2
  else if 440 ≤ tj ∨ (1 ≤ old ∧ 420 < tj) then 1
  else 0

/-- Report and log faulty sensors. -/
def noteFaults (l : List Nat) (s : State) : State :=
  l.foldl (fun t i =>
    let u := modThermal (fun v => { v with faulty := v.faulty ++ [i] }) t
    count .sensorFaults 1 (logEvent 8 4 i (thermalWord u) u)) s

/-- Level 3 or no valid sensor: shutdown is reported to both safety channels, which enter Safe stop (R360, R361). -/
def reportShutdown (now : Bool) (s : State) : State :=
  let t := modThermal (fun v => { v with shutdown := now }) s
  if now && !s.thermal.shutdown then enterSafeStopBoth 10 t else t

/-- The temperatures and the level of a reading. -/
def judgeTemps (l : List (Option Int)) (s : State) : State :=
  let f := s.thermal.faulty
  match junctionTemp f l with
  | none => reportShutdown true (modThermal (fun v => { v with tj := none, ta := none, hot := 0 }) s)
  | some tj =>
    let hot := if 540 ≤ tj then s.thermal.hot + 1 else 0
    let old := s.thermal.level
    let lv := thermalLevel old tj hot
    let t := modThermal (fun v => { v with
      tj := some tj, ta := ambientTemp f l (some tj), hot := hot, level := lv,
      fast := (if 400 ≤ tj then some s.now else match v.fast with
        | none => none
        | some a => if a + sec 1 ≤ s.now then none else some a) }) s
    let t := if lv = old then t else logEvent 8 1 0 (thermalWord t) t
    let t := if old = 0 ∧ 0 < lv then count .warningEntries 1 t else t
    let t := if old ≠ 3 ∧ lv = 3 then count .shutdowns 1 t else t
    reportShutdown (decide (lv = 3)) t

/-- T_a joins the mean of a run (R341). -/
def runTemp (s : State) : State :=
  match s.calib.run, s.thermal.ta with
  | some r, some ta => if r.step = 7 then s else setRun { r with taSum := r.taSum + ta, taN := r.taN + 1 } s
  | _, _ => s

/-- The change since Coasting began (R121). -/
def coastChange (s : State) : State :=
  if s.grat.st == .coasting then
    { s with grat := { s.grat with deltaT := clampI (-128) 127 (dieReading s -
      (if s.thermal.faulty.contains 10 then s.grat.coastTj else s.grat.coastTs)) } }
  else s

/-- The readings of TS0 to TS15. -/
def sensorReading (l : List (Option Int)) (s : State) : State :=
  let ts := (List.range 16).foldl (fun t i => match l.getD i none with
    | none => t
    | some v => Table.put t i v) s.thermal.ts
  let t := modThermal (fun v => { v with ts := ts }) s
  let t := judgeTemps l (noteFaults (newFaults s.thermal.faulty l) t)
  coastChange (runTemp (biasAtReading (biasRetarget t)))

/-- A reading is due: 10 ms after the last one, 1 ms while a reading is 100 degC or more and for 1 s after (R359). -/
def sensorsDue (s : State) : Bool :=
  match s.thermal.lastRead with
  | none => true
  | some x => decide (x + (if s.thermal.fast.isSome then ms 1 else ms 10) ≤ s.now)

/-- SENSOR_READING. -/
def execSensorReading (dt : Nat) (readings : List (Option Int)) (s : State) : Out :=
  let t := advance dt s
  need (decide (readings.length = 16))
    (watchSafety (when_ (t.phase != .reset && sensorsDue t) (fun u =>
      sensorReading readings (modThermal (fun v => { v with lastRead := some u.now }) u))) t)

/-! ## The throttle (R362) -/

/-- delta and n_s of a mode. -/
def throttleDelta (m : ModeTable) : Nat := max 1 (ceilDiv (m.q - m.shotMin) 4)
def throttleCaps (m : ModeTable) : Nat := ceilDiv (m.q - m.shotMin) (throttleDelta m)

/-- Cap of level L. -/
def throttleCap (m : ModeTable) (l : Nat) : Nat := max m.shotMin (m.q - throttleDelta m * min l (throttleCaps m))

/-- Boost off. -/
def throttleBoostOff (m : ModeTable) (l : Nat) : Bool := decide (throttleCaps m + 1 ≤ l)

/-- Groups off: the first of the throttle order. -/
def throttleGroups (s : State) (m : ModeTable) (l : Nat) : List Nat :=
  s.legend.throttle.take (8 * (l - throttleCaps m - 1))

/-- The step of a boundary. -/
def throttleStep (s : State) : State :=
  let v := s.thermal
  let due := decide (s.legend.scan.rs ≤ v.sinceStep + 1)
  let up := due && decide (v.throttle < 13) && (match v.tj with | none => false | some t => decide (480 ≤ t))
  let down := due && decide (0 < v.throttle) && (match v.tj with | none => false | some t => decide (t ≤ 460))
  let t := modThermal (fun v => { v with
    throttle := if up then v.throttle + 1 else if down then v.throttle - 1 else v.throttle
    sinceStep := if up || down then 0 else min 1000 (v.sinceStep + 1) }) s
  if up || down then count .throttleSteps 1 (logEvent 8 2 0 (thermalWord t) t) else t

end Sys2Proof.Machine
end

