-- ==== Sys2Proof/Machine/SheetForm.lean ====
section
/-! DEFINITION. The sheet state and the sheet codes of a boundary: R21, R46, R52, R63 to R66, R80, R236, R313, R362. -/

namespace Sys2Proof.Machine

open Sys2Proof

/-! ## Enables (R21, R80, R155, R236, R362) -/

/-- A mask with the listed bits. -/
def maskOfBits (l : List Nat) : Nat := l.foldl (fun a i => a ||| 2 ^ i) 0

/-- A mask without the listed bits. -/
def clearBits (n : Nat) (l : List Nat) : Nat := l.foldl (fun a i => if bit i a then a - 2 ^ i else a) n

/-- Boost banks are on: the mode has them, the throttle leaves them, and the mode is not Idle (Table 12.1). -/
def boostOn (s : State) (m : Nat) : Bool :=
  decide (m ≠ 5) && (modeTable s m).boost && !throttleBoostOff (modeTable s m) s.thermal.throttle

/-- Banks that every cause but their own failure enables; none in Idle (Table 12.1). -/
def banksWanted (s : State) (m : Nat) : List Nat :=
  if m = 5 then []
  else (List.range 32).filter (fun b => bit b (modeTable s m).banks && (boostOn s m || !isBoost b))

/-- Banks enabled in the coming sheet. -/
def banksOn (s : State) (m : Nat) : List Nat := (banksWanted s m).filter (fun b => !bankFailed s b)

/-- Banks whose channels carry unlit (R80). -/
def banksUnlit (s : State) (m : Nat) : List Nat := (banksWanted s m).filter (bankFailed s)

/-- Channel-group enable mask: the mode's, less the throttle's groups and the lost ones. -/
def groupsOn (s : State) (m : Nat) : Nat :=
  clearBits (clearBits (modeTable s m).groups (throttleGroups s (modeTable s m) s.thermal.throttle)) s.survey.lost

/-- Groups enabled but not sent at the width in force (R236). -/
def cutMask (s : State) (groups : Nat) : Nat :=
  let w := s.link.width
  if w = 0 ∨ 4 ≤ w then 0 else clearBits groups (s.legend.priority.take (s.legend.keep.getD (3 - w) 64))

/-! ## SHOT_LIMIT (R46) -/

/-- A cap takes a bank above 250,000 shots/s or the device above 5,000,000. -/
def overRate (s : State) (m : Nat) (banks : List Nat) (cap : Nat) : Bool :=
  let l := banks.map (fun b => s.legend.scan.rs * sheetShots (fireTable s m) (modeTable s m) cap b)
  l.any (fun n => decide (250000 < n)) || decide (5000000 < l.sum)

/-- The largest cap from `k + 3` down to 4 within the limits. -/
def capWithin (s : State) (m : Nat) (banks : List Nat) : Nat → Option Nat
  | 0 => none
  | k + 1 => if overRate s m banks (k + 4) then capWithin s m banks k else some (k + 4)

/-- Cap of the mode and the throttle. -/
def baseCap (s : State) (m : Nat) : Nat := min (modeTable s m).q (throttleCap (modeTable s m) s.thermal.throttle)

/-- The shots-per-point value R46 contributes, 0 where it does not act, and whether even 4 exceeds a limit. -/
def shotLimitOf (s : State) (m : Nat) (banks : List Nat) : Nat × Bool :=
  if !overRate s m banks (baseCap s m) then (0, false)
  else
    match capWithin s m banks (baseCap s m - 3) with
    | some c => (c, false)
    | none => (4, true)

/-- Cap of the sheet state: the least value of the causes (R21). -/
def sheetCap (s : State) (m : Nat) (limit : Nat) : Nat :=
  if limit = 0 then baseCap s m else min (baseCap s m) limit

/-! ## SHEET_CODE (R63 to R66) -/

/-- One bank that fires in the coming sheet. -/
structure BankPlan where
  bank : Nat
  /-- table code -/
  table : Nat
  /-- ramp step and origin -/
  k : Nat
  origin : Nat
  /-- ramp code -/
  ramp : Nat
  /-- sheet code after the energy clamp -/
  code : Nat
  deriving DecidableEq, Repr

/-- The sheet code of a ramp code: raised in a walk sheet (R357), then clamped (R52). -/
def sheetCode (s : State) (m cap b ramp : Nat) : Nat :=
  clampCode s (fireTable s m) (modeTable s m) cap b (min 255 (ramp + walkRaise s))

/-- The plan of an enabled bank, none where it has no table code; `old` is the sheet state of the sheet before. -/
def planBank (s : State) (m cap : Nat) (old : SheetState) (b : Nat) : Option BankPlan :=
  match tableCodeOf (fireTable s m) (modeTable s m) cap b with
  | none => none
  | some c =>
    let (k, o) := rampNext s.legend.scan.rampLen (bankOf s b) c (Table.getD 0 old.rampK b) (Table.getD 0 old.rampOrigin b)
    let r := rampCode o c k s.legend.scan.rampLen
    some { bank := b, table := c, k := k, origin := o, ramp := r, code := sheetCode s m cap b r }

/-- The plans of a sheet. -/
def planBanks (s : State) (m cap : Nat) (old : SheetState) : List BankPlan :=
  (banksOn s m).filterMap (planBank s m cap old)

/-- What a sheet leaves in a bank: one that does not fire has no sheet code, and one with a table code
counts as fired, whatever withholds its shots (notes/assumptions/47.md). -/
def bankPlanned (l : List BankPlan) (b : Nat) (v : Bank) : Bank :=
  match l.find? (fun p => decide (p.bank = b)) with
  | none => { v with fired := false, tableCode := none, code := 255, opened := [] }
  | some p => { v with fired := true, tableCode := some p.table, rampCode := p.ramp, code := p.code, opened := [] }

/-- Banks under the energy clamp. -/
def clamped (s : State) (l : List BankPlan) : List Nat :=
  (l.filter (fun p => decide (min 255 (p.ramp + walkRaise s) < p.code))).map (·.bank)

/-- The sheet state of the coming sheet (R19, R21). -/
def sheetStateOf (s : State) (m cap : Nat) (l : List BankPlan) : SheetState :=
  { mode := m, cap := cap, banks := maskOfBits (banksOn s m), boost := boostOn s m, groups := groupsOn s m
    rampK := l.map (fun p => (p.bank, p.k)), rampOrigin := l.map (fun p => (p.bank, p.origin))
    cut := cutMask s (groupsOn s m) }

/-- Put a sheet state into the register of a parity. -/
def setReg (parity : Bool) (v : SheetState) (q : Seq) : Seq := if parity then { q with reg1 := v } else { q with reg0 := v }

/-- Form the sheet state of the sheet in progress, whose mode is set, from that of the sheet before. -/
def formSheetState (s : State) : State :=
  let m := s.seq.mode
  let lim := shotLimitOf s m (banksOn s m)
  let cap := sheetCap s m lim.1
  let l := planBanks s m cap (regOf s (!parityNow s))
  let t := (List.range 32).foldl (fun u b => modBank b (bankPlanned l b) u) s
  { t with
    seq := { setReg (parityNow s) (sheetStateOf s m cap l) t.seq with
      shotLimit := lim.1, exceeded := lim.2, clampMask := maskOfBits (clamped s l), failedMask := maskOfBits (banksUnlit s m) }
    survey := { t.survey with lostNow := [] } }

/-! ## The channels' own codes (R313) -/

/-- A channel's own ramp origin of a bank: 255 or its own ramp code where a ramp starts, else the one it keeps. -/
def ownOrigin (c : SafeCh) (b k : Nat) : Nat := if k = 1 then Table.getD 255 c.ramps b else Table.getD 0 c.origins b

/-- The banks that fire under a sheet state, with their table codes, from the channel's own copies. -/
def ownTable (s : State) (v : SheetState) : List (Nat × Nat) :=
  ((List.range 32).filter (fun b => bit b v.banks)).filterMap (fun b =>
    (tableCodeOf (fireTable s v.mode) (modeTable s v.mode) v.cap b).map (fun c => (b, c)))

/-- Ramp codes a channel forms. -/
def ownRamps (s : State) (v : SheetState) : Table Nat :=
  (ownTable s v).map (fun e => (e.1, rampCode (Table.getD 0 v.rampOrigin e.1) e.2 (Table.getD 0 v.rampK e.1) s.legend.scan.rampLen))

/-- A channel forms its codes from the sheet state (R313). -/
def formOwn (s : State) (v : SheetState) (c : SafeCh) : SafeCh :=
  let r := ownRamps s v
  { c with ramps := r, codes := r.map (fun e => (e.1, sheetCode s v.mode v.cap e.1 e.2))
           origins := r.map (fun e => (e.1, ownOrigin c e.1 (Table.getD 0 v.rampK e.1))) }

/-- The sequencer's codes of the banks that fire. -/
def sentCodes (s : State) (v : SheetState) : Table Nat := (ownTable s v).map (fun e => (e.1, (bankOf s e.1).code))

/-- A code or a ramp origin differs (R313). -/
def codesDiffer (s : State) (v : SheetState) (c : SafeCh) : Bool :=
  decide (c.codes ≠ sentCodes s v) || c.origins.any (fun e => decide (Table.getD 0 v.rampOrigin e.1 ≠ e.2))

/-- One channel forms and compares; a difference is cause 4. -/
def compareCodes (d : Side) (s : State) : State :=
  let v := sheetState s
  let t := modSide d (formOwn s v) s
  if codesDiffer t v (sideOf t d) then enterSafeStop d 4 t else t

end Sys2Proof.Machine
end

