-- ==== Sys2Proof/Machine/Boundary.lean ====
section
/-! DEFINITION. SHEET_BOUNDARY and TIMING_ONLY_BOUNDARY (R19 to R21, R31, R35 to R40, R145, R225, R226). -/

namespace Sys2Proof.Machine

open Sys2Proof

/-! ## Stale items (R19) -/

/-- One stale item is counted and logged with its context. -/
def noteStale (s : State) (x : Nat) : State :=
  count .staleItems 1 (logEvent 14 1 0 x { s with log := { s.log with stale := true } })

/-- Contexts of the items of a parity in a channel's buffer. -/
def staleItems (p : Bool) (c : Chan) : List Nat :=
  (c.buffer.filter (fun i => itemParity i == p)).map (fun i => tagCtx i.word)

/-- Items of a parity in the channels' buffers go. -/
def staleBuffers (p : Bool) (s : State) : State :=
  let l := s.chans.flatMap (fun e => staleItems p e.2)
  l.foldl noteStale { s with chans := s.chans.map (fun e =>
    (e.1, { e.2 with buffer := e.2.buffer.filter (fun i => itemParity i != p) })) }

/-- Markers of a parity that wait at engines. -/
def staleMarkers (p : Bool) (s : State) : State :=
  let l := s.survey.engines.flatMap (fun e => e.2.markers.filter (fun m => m.parity == p))
  let t := modSurvey (fun v => { v with engines := v.engines.map (fun e =>
    (e.1, { e.2 with markers := e.2.markers.filter (fun m => m.parity != p) })) }) s
  l.foldl (fun u m => noteStale (if m.kind < 2 then freeCtx m.ctx u else u) m.ctx) t

/-- Contexts of a parity still open: discarded. -/
def staleContexts (p : Bool) (s : State) : State :=
  let l := (s.survey.ctxs.filter (fun e => decide (e.1 < 15360) && e.2.parity == p && e.2.ph == .opened)).map (·.1)
  l.foldl (fun u x => noteStale (discardCtx x u) x) s

/-- An item for the contour units goes, with its context. -/
def dropWork (s : State) (w : Work) : State :=
  match w.ctx with
  | none => noteStale s (ctxNumber w.head.channel w.head.bearing)
  | some x => noteStale (freeCtx x (freeExtra (ctxOf s x) s)) x

/-- Closed items of a parity, waiting or held by a contour unit. -/
def staleWork (p : Bool) (s : State) : State :=
  let mine (w : Work) : Bool := w.head.parity == p
  let l := s.survey.engines.flatMap (fun e => e.2.closed.filter mine) ++ s.contour.again.filter mine ++
    s.contour.units.filterMap (fun e => e.2.item.filter mine)
  let t := modSurvey (fun v => { v with engines := v.engines.map (fun e =>
    (e.1, { e.2 with closed := e.2.closed.filter (fun w => !mine w) })) }) s
  let t := modContour (fun c => { c with
    again := c.again.filter (fun w => !mine w)
    units := c.units.map (fun e => (e.1, { e.2 with item := e.2.item.filter (fun w => !mine w) })) }) t
  l.foldl dropWork t

/-- Records of a parity that the packetiser holds. -/
def staleRecords (p : Bool) (s : State) : State :=
  let l := (s.contour.sheets.filter (fun o => o.parity == p)).flatMap (fun o => o.waiting.map (fun w =>
    ctxNumber w.2.2.channel w.2.2.bearing))
  l.foldl noteStale (modContour (fun c => { c with
    sheets := c.sheets.map (fun o => if o.parity == p then { o with waiting := [], due := [] } else o) }) s)

/-- Every unit's register of a parity is written only when it holds no item of that parity: what is left is discarded. -/
def discardStale (p : Bool) (s : State) : State :=
  staleRecords p (staleWork p (staleContexts p (staleMarkers p (staleBuffers p s))))

/-! ## The sheet that ends -/

/-- Drops of the sheet are put on show, and the counts of a sheet start again (R145, R151). -/
def endEngines (s : State) : State :=
  let t := s.survey.engines.foldl (fun u e => countSet (.dropsInLastSheet e.1) e.2.drops u) s
  modSurvey (fun v => { v with engines := v.engines.map (fun e => (e.1, { e.2 with drops := 0, mismatches := 0 })) }) t

/-- The angular bins of a channel go on over the facet that a timing-only boundary ends (R50, R314). -/
def passBins (m : ModeTable) (s : State) (c : SafeCh) : SafeCh := { c with binBase := c.binBase + gapBins s m + periods m }

/-- The sheet that ends: close commands still due are sent, its cells are put away, its sweep is over, and its engines'
drops are put on show, at the first B_n after a Safe stop those of the sheet that it ended.  The last facet of Start's
timing-only boundaries ends too, and bins run on over it (R50). -/
def endSheet (s : State) : State :=
  let t := closePending (closeGap s)
  endEngines (
    if t.phase == .mode then
      let m := modeTable t t.seq.mode
      let t := modSide .b (energyAtBoundary t m) (modSide .a (energyAtBoundary t m) t)
      modContour (fun c => { c with sheets := c.sheets.map (fun o => { o with ended := true }) }) t
    else modSide .b (passBins (modeTable t t.seq.mode) t) (modSide .a (passBins (modeTable t t.seq.mode) t) t))

/-! ## The sheet that begins -/

/-- Where a boundary stands in time: the bearing clock's instant of it, in taps, in local and in vehicle time. -/
def stampBn (s : State) : State :=
  let b := clockBn s
  modSeq (fun q => { q with bn := b, bnLocal := localAt s b, bnVehicle := vehicleAt s.grat (localAt s b), period := none,
                            slot := 0, fireFrom := 0,
                            resumeOk := s.grat.outputs && decide (s.bias.fault = 0) }) s

/-- The chain of a new gap (R58, R343). -/
def newGap (s : State) : State :=
  modChain (fun c => { c with sent := false, window := false, carried := c.carryNext, visited := [], slotLit := false, closed := none,
                              coreTaken := false, opticalTaken := false }) s

/-- The choice takes effect: the mode, the counter of the sheet that begins, the holds (R31, R296). -/
def takeChoice (c : Choice) (s : State) : State :=
  stampBn { s with
    phase := .mode
    seq := { s.seq with
      sheet := (s.seq.sheet + 1) % 2 ^ 32, sheetOpen := true, mode := c.mode, plan := c.plan, returnMode := c.returnMode
      latch := if c.ack.isSome then none else s.seq.latch
      keyWithdrawn := if c.mode = 6 then s.seq.keyWithdrawn else none
      biasHold := s.seq.biasHold || c.enterBias, biasHoldDue := false
      dipHold := s.seq.dipHold || c.enterDip, dipHoldDue := false, returnDue := false, returnIdle := false } }

/-- The buffers are exchanged: the active one holds the mode's fire table, reloaded if another was preloaded, and the
other is filled with it (R39). -/
def exchangeBuffers (s : State) : State :=
  let m := s.seq.mode
  let full := (m, fireTable s m)
  let keep (b : Nat × Table Nat) : Nat × Table Nat := if b.1 = m then b else full
  modSeq (fun q =>
    if q.active1 then { q with active1 := false, buf0 := keep q.buf0, buf1 := full }
    else { q with active1 := true, buf1 := keep q.buf1, buf0 := full }) s

/-- The sheet header body (Table 9.7). -/
def sheetHead (s : State) : List Byte :=
  let q := s.seq
  let v := sheetState s
  let step := s.grat.stepApplied
  wordsLe [
    field 32 32 q.sheet + field 12 20 (modeTable s q.mode).nb + field 6 14 v.cap + field 3 11 q.mode +
      field 1 10 (b2n (parityNow s)) + field 1 9 (b2n (slewing s)) + field 1 8 (b2n step.isSome) + field 2 6 q.camera.st +
      field 3 3 (gratCode s.grat.st) + field 2 1 s.grat.sync,
    toTwos 64 q.bnVehicle, toTwos 64 (step.getD 0), q.bnLocal % 2 ^ 64, v.groups % 2 ^ 64, v.cut % 2 ^ 64,
    field 32 32 v.banks + field 32 0 q.failedMask,
    field 8 56 (toTwos 8 s.grat.deltaT) + field 4 52 s.thermal.throttle + field 6 46 (popcount 32 q.clampMask) +
      field 7 39 ((v.rampK.map (·.2)).foldl max 0) + field 32 0 (toTwos 32 q.camera.err)]

/-- The sheet as the packetiser follows it. -/
def newSheet (s : State) : SheetOut :=
  { sheet := s.seq.sheet, parity := parityNow s, mode := s.seq.mode, state := sheetState s, bn := s.seq.bnLocal
    head := sheetHead s, due := [], waiting := [], packets := 0, records := 0, dropped := 0, cutRecords := 0
    session := if linkTakes s then s.sec.session.map (·.number) else none
    aad := [], ended := false, trailed := false, nearest := [], delivered := [], released := [], valueDone := false }

/-- A sheet of a mode other than Idle opens: its header falls due while a session exists (R223, R225). -/
def openSheet (s : State) : State :=
  if s.seq.mode = 5 then s
  else
    let o := newSheet s
    let t := modContour (fun c => { c with sheets := c.sheets ++ [o] }) s
    if o.session.isSome then due4 (streamPkt 0x01 o.sheet o.head) t else t

/-- The link at a boundary: a width that has risen (R237), sleep in Idle (R218), the end and the start of a lane test
(R239, R295). -/
def linkAtBoundary (old : Nat) (s : State) : State :=
  let t := if s.seq.mode ≠ 6 then endLaneTest s
    else modLink (fun l => { l with testDue := l.testDue || (decide (old ≠ 6) && decide (s.seq.plan ≠ 0)) }) s
  let t := riseAtBoundary t
  if t.seq.mode = 5 then modLink (fun l => { l with idle := true }) t else wakeLanes t

/-- CLK_OUT starts at the first sheet-state load after acceptance (R115). -/
def startClkOut (s : State) : State :=
  if s.grat.clkOutArmed then
    { s with grat := { (if s.legend.scan.clkOut && s.grat.outputs then clkBegin s.seq.bn s else s.grat) with
      clkOutArmed := false } }
  else s

/-- The recorder at a boundary: the ring pauses outside the recording modes (R396), and a readout ends outside Depot
(R295, R412). -/
def recorderAtBoundary (old : Nat) (s : State) : State :=
  let t := if 1 ≤ old ∧ old ≤ 3 ∧ !recordingMode s then pauseRing s else s
  nandStart (if s.seq.mode = 6 then t else stopReadout t)

/-- What the housekeeping processor brings to a boundary: the pending set, bank states from the boards' temperatures and
the confirmed faults. -/
def banksAtBoundary (s : State) : State := showBankStates (applyConfirmed (boardHeat (newGap s)))

/-- The bias step and what the ambient filter engine notes of the boundary (R94, R95, R164, R173). -/
def biasAtBoundary (first : Bool) (old : Nat) (s : State) : State :=
  let (dv, t) := biasReport s
  ambientBoundary first old t.seq.mode dv t

/-- SHEET_BOUNDARY on a state in which the sheet opens. -/
def sheetBoundary (s : State) : State :=
  let c := chooseMode s
  let first := s.phase == .spinUp
  let old := endingMode s
  let t := applyStep (endSheet s)
  let t := takeChoice c t
  let t := if requestDeferred s then count .requestsDeferred 1 t else t
  let t := ackSampled c (noteMode old c t)
  let t := discardStale (parityNow t) t
  let t := banksAtBoundary (throttleStep (applySet (parityNow t) t))
  let t := formDerived c.mode (calibRuns c.mode old t)
  let t := biasAtBoundary first old t
  let t := modSeq (fun q => { q with camera := cameraBoundary t q.camera }) t
  let t := exchangeBuffers (formSheetState t)
  let t := openSheet (linkAtBoundary old (startClkOut t))
  let t := recorderAtBoundary old t
  let t := compareCodes .b (compareCodes .a t)
  checkPermit .b (checkPermit .a t)

/-- The sweep of the sheet in progress is over: every slot has begun and every range window has closed (R43). -/
def sweepOver (s : State) : Bool :=
  decide (s.seq.period = some (periods (tableNow s) - 1) ∧ (tableNow s).q ≤ s.seq.slot) &&
    s.chans.all (fun e => e.2.arm.isNone)

/-- A sheet opens at this boundary: in a mode after its sweep, or in Start with speed settled after the second diagnosed
window, unless a bias fault of this Start keeps the device in it (R35, R43, R79, R97). -/
def sheetOpens (s : State) : Bool :=
  (s.phase == .mode && sweepOver s) ||
    (s.phase == .spinUp && s.motor.settled && decide (2 ≤ s.seq.startWindows) &&
      !s.seq.startFault)

/-- SHEET_BOUNDARY: the bearing clock has reached B_n (R31). -/
def execSheetBoundary (dt : Nat) (s : State) : Out :=
  .next (watchSafety (fun t => if boundaryReached t && sheetOpens t then sheetBoundary t else t) (advance dt s))

/-- A timing-only boundary of Start: the marker, the frame and the window run, and no sheet opens (R35); a width that has
risen is retrained at this B_n too (R237). -/
def timingBoundary (s : State) : State :=
  let bins := passBins (modeTable s s.seq.mode) s
  let t := modSide .b bins (modSide .a bins (closeGap s))
  let t := modSeq (fun q => { q with timingBoundaries := q.timingBoundaries + 1 }) (stampBn t)
  let t := banksAtBoundary (applySet (!parityNow t) t)
  riseAtBoundary (calibRuns 0 0 (modBias (fun v => { v with stepped := false }) t))

/-- A boundary for timing only is due in Start: from the first gap start that follows settling (R35). -/
def timingDue (s : State) : Bool :=
  boundaryReached s && s.phase == .spinUp && s.motor.settled && !sheetOpens s &&
    (decide (0 < s.seq.timingBoundaries) || decide (s.motor.settledAt ≤ clockBn s))

/-- A facet gap starts in Safe stop, while the polygon still turns: the sweep of the sheet that was open is over, the gap has
its frame, and no sheet and no count follows (R31, R59, R79, notes/assumptions/42.md). -/
def stopBoundary (s : State) : State :=
  let m := modeTable s s.seq.mode
  let t := closeGap s
  let t := if t.seq.sheetOpen then modSide .b (energyAtBoundary t m) (modSide .a (energyAtBoundary t m) t)
    else modSide .b (passBins m t) (modSide .a (passBins m t) t)
  riseAtBoundary (banksAtBoundary
    (modSeq (fun q => { q with sheetOpen := false, timingBoundaries := q.timingBoundaries + 1 }) (stampBn t)))

/-- A facet gap starts in Safe stop, before standstill and once the sweep in progress is over. -/
def stopGapDue (s : State) : Bool :=
  boundaryReached s && s.phase == .safeStop && !(s.safety.a.standstill && s.safety.b.standstill) &&
    (s.seq.period.isNone || !s.seq.sheetOpen || sweepOver s)

/-- TIMING_ONLY_BOUNDARY: in Start, or a facet-gap start in Safe stop. -/
def execTimingOnlyBoundary (dt : Nat) (s : State) : Out :=
  let t := advance dt s
  .next (if timingDue t then timingBoundary t else if stopGapDue t then stopBoundary t else t)

end Sys2Proof.Machine
end

