-- ==== Sys2Proof/Machine/Sessions.lean ====
section
/-! DEFINITION. Link sessions (R256 to R261, Tables 10.2 and 10.5). -/

namespace Sys2Proof.Machine

open Sys2Proof

def modSec (f : Security → Security) (s : State) : State := { s with sec := f s.sec }

/-- Answer a failed establishment (R258): it is counted and logged; reasons 3 to 5 count toward the rate limit. -/
def refuseSession (reason : Nat) (s : State) : State :=
  let t := due3 (pkt 0x12 (leBytes 8 (field 8 56 reason))) (modSec (fun v => { v with hello := none }) s)
  let t := count .sessionRefusals 1 (logEvent 7 5 0 reason t)
  if 3 ≤ reason ∧ reason ≤ 5 then
    let l := (t.sec.refusals ++ [t.now]).filter (fun x => decide (t.now < x + sec 60))
    modSec (fun v =>
      if 8 ≤ l.length then { v with refusals := [], blockedUntil := some (l.headD t.now + sec 60) }
      else { v with refusals := l }) t
  else t

/-- The rate limit holds. -/
def rateLimited (s : State) : Bool := match s.sec.blockedUntil with | none => false | some u => decide (s.now < u)

/-- A refusal of a hello leaves an establishment that runs as it is superseded: none runs. -/
def helloReason (key : Nat) (pub : Nat × Nat) (s : State) : Nat :=
  if !s.image.accepted then 1
  else if rateLimited s then 6
  else if 4 ≤ key ∨ !tableHas s.legend.keys key then 2
  else if !ecOn pub then 3
  else 0

/-- Send a device hello (R256 step 2). -/
def deviceHello (body : List Byte) (s : State) : State :=
  let (nonce, t) := draw 32 s
  let (e, t) := drawScalar t
  let q := ecPublic e
  let n := (t.sec.number + 1) % 2 ^ 32
  let head := leBytes 8 (field 32 32 n) ++ nonce ++ leBytes 32 q.1 ++ leBytes 32 q.2 ++
    t.otp.caCert ++ t.otp.devCert
  let th := sha256 (body ++ head)
  let (sig, t) := signDigest th t
  due3 (pkt 0x10 (head ++ sig)) (modSec (fun v => { v with
    number := n
    hello := some { key := leAt body 7 1, hostNonce := slice body 8 32, hostPub := (leAt body 40 32, leAt body 72 32),
                    devNonce := nonce, eph := e, th := th, sig := sig, session := n, at_ := none } }) t)

/-- A host hello is acted on. -/
def hostHello (body : List Byte) (s : State) : State :=
  match helloReason (leAt body 7 1) (leAt body 40 32, leAt body 72 32) s with
  | 0 => deviceHello body s
  | r => refuseSession r s

/-- HOST_HELLO. -/
def execHostHello (dt : Nat) (codes : List Nat) (rd : Bool) (s : State) : Out :=
  .next (onPacket 0x90 codes rd hostHello (advance dt s))

/-- Form the session's keys from Z; the device finish falls due, and the session is in force when it is sent (R256). -/
def establish (h : Hello) (z : Nat) (s : State) : State :=
  let prk := hkdfExtract (h.hostNonce ++ h.devNonce) (leBytes 32 z)
  let k : Session := { number := h.session, kDown := hkdfExpand prk (ascii "etust down") 32,
                       kUp := hkdfExpand prk (ascii "etust up") 32, ctrDown := 0, ctrUp := none }
  due3 (pkt 0x11 (leBytes 8 (field 32 32 h.session))) (modSec (fun v => { v with next := some k, hello := none }) s)

/-- The 100 ms after the device hello was sent are over, or have just run out where `edge` (R256 step 3). -/
def finishLate (edge : Bool) (h : Hello) (s : State) : Bool :=
  match h.at_ with
  | none => false
  | some x => decide (x + ms 100 < s.now) || (edge && decide (x + ms 100 = s.now))

/-- A host finish is acted on. -/
def hostFinish (body : List Byte) (s : State) : State :=
  match s.sec.hello with
  | none => refuseSession 7 s
  | some h =>
    if finishLate false h s then refuseSession 5 s
    else
      let pub := Table.getD (0, 0) s.legend.keys h.key
      if ecdsaVerify pub (sha256 (h.th ++ h.sig)) (leAt body 0 32) (leAt body 32 32) then
        match ecdh h.eph h.hostPub with
        | some z => establish h z s
        | none => refuseSession 3 s
      else refuseSession 4 s

/-- HOST_FINISH. -/
def execHostFinish (dt : Nat) (codes : List Nat) (rd : Bool) (s : State) : Out :=
  .next (onPacket 0x91 codes rd hostFinish (advance dt s))

/-- HOST_FINISH_TIMEOUT. -/
def execHostFinishTimeout (dt : Nat) (s : State) : Out :=
  let t := advance dt s
  .next (match t.sec.hello with
    | none => t
    | some h => if finishLate true h t then refuseSession 5 t else t)

/-- A session ends while the link stays up: what would have to be tagged is not sent any more (R223). -/
def closeSession (s : State) : State :=
  let t := s.link.q5.foldl (fun u p => match p.pool with | none => u | some x => freePool x u) s
  let t := modLink (fun l => { l with
    q2 := l.q2.filter (fun p => !p.tagged), q3 := l.q3.filter (fun p => !p.tagged), q4 := [], q5 := [] }) t
  let t := modContour (fun c => { c with
    sheets := (c.sheets.filter (fun o => !o.trailed)).map (fun o => { o with session := none }) }) t
  modSec (fun v => { v with session := none, old := [] }) (modRec (fun r => { r with readout := none }) t)

/-- HOST_CLOSE (R259): a close that names another number is discarded and counted. -/
def execHostClose (dt : Nat) (codes : List Nat) (rd : Bool) (s : State) : Out :=
  .next (onPacket 0x92 codes rd (fun b t =>
    match t.sec.session with
    | some k => if k.number = leAt b 4 4 then closeSession t else count .closesDiscarded 1 t
    | none => count .closesDiscarded 1 t) (advance dt s))

end Sys2Proof.Machine
end

