-- ==== Sys2Proof/Machine/Pads.lean ====
section
/-! DEFINITION. The signal balls: which the device drives, to what level, and the boundary cells (Table 18.5, R428, R441, R451,
R453). -/

namespace Sys2Proof.Machine

open Sys2Proof

/-- A ball that the device drives or that has a boundary cell; the second argument of a FIRE ball is true for its N half.
NAND control balls 0 to 5 are DQS_T, DQS_C, RE_T, RE_C, nWE and ALE. -/
inductive Ball where
  | fire (b : Nat) (neg : Bool)
  | isns (n : Nat)
  | trvOut
  | spiSck
  | spiNcs
  | spiIo (n : Nat)
  | nreset
  | testMode
  | refIn
  | clkOut
  | syncIn
  | scfg (n : Nat)
  | nandIo (n : Nat)
  | nandCtl (n : Nat)
  | nandCle
  | nandNwp
  | nandRnb
  | nce (n : Nat)
  | motGh (n : Nat)
  | motGl (n : Nat)
  | motEn (d : Side)
  | motHall (n : Nat)
  | biasPwm
  | sin (d : Side) (n : Nat)
  | sout (d : Side)
  | nearDist
  | crashIn
  | etx (n : Nat)
  | etxc
  deriving DecidableEq, Repr

/-- What the device puts on a ball; `pulledHigh` is an inactive drive with the pull of Table 18.7, `carries` a signal that
this view does not resolve in time, `unstated` a level in reset that the spec does not give. -/
inductive PadLevel where
  | low
  | high
  | highZ
  | pulledHigh
  | idle
  | carries
  | unstated
  deriving DecidableEq, Repr

/-- The rail of a ball, numbered as in Table 18.1: VDD_IO, VDD_AUX or VDD_LINK12 (Table 18.7, R54). -/
def ballRail : Ball → Nat
  | .motGh _ | .motGl _ | .motEn _ | .motHall _ | .sin _ _ | .sout _ | .nearDist | .crashIn => 5
  | .etx _ | .etxc => 3
  | .fire _ _ | .isns _ | .trvOut | .spiSck | .spiNcs | .spiIo _ | .nreset | .testMode | .refIn | .clkOut | .syncIn
  | .scfg _ | .nandIo _ | .nandCtl _ | .nandCle | .nandNwp | .nandRnb | .nce _ | .biasPwm => 4

/-- Is the rail absent?  At 0 V it is, at its reset level or above it is not; between, the spec names no level (R441)
(notes/assumptions/39.md). -/
def railAbsent (s : State) (r : Nat) : Bool :=
  let v := s.supply.levels.getD r 0
  decide (v = 0) || (railUnder s.free 2 r v && Config.railGone r v)

/-- Is the ball one that the device only senses? -/
def inputBall : Ball → Bool
  | .isns _ | .nreset | .testMode | .refIn | .syncIn | .scfg _ | .nandRnb | .motHall _ | .sin _ _ | .crashIn => true
  | _ => false

/-- The state of R428 at a ball. -/
def restLevel : Ball → PadLevel
  | .fire _ neg => if neg then .high else .low
  | .motEn _ | .motGh _ | .motGl _ | .sout _ | .biasPwm | .trvOut | .nearDist => .low
  | .etx _ | .etxc => .idle
  | .spiNcs => .pulledHigh
  | .spiSck | .spiIo _ => .highZ
  | .nce _ => .pulledHigh
  | .clkOut => .low
  | .nandIo _ | .nandCtl _ | .nandCle | .nandNwp => .unstated
  | .isns _ | .nreset | .testMode | .refIn | .syncIn | .scfg _ | .nandRnb | .motHall _ | .sin _ _ | .crashIn => .highZ

/-- Is the pair of bank `b` at logic 1 now (R54)? -/
def fireHigh (s : State) (b : Nat) : Bool :=
  s.pulses.any (fun p => p.bank == b && decide (p.at_ ≤ s.now ∧ s.now < p.at_ + p.width))

def levelOf (v : Bool) : PadLevel := if v then .high else .low

/-- The level at a ball while the device runs. -/
def runLevel (s : State) : Ball → PadLevel
  | .fire b neg => levelOf (fireHigh s b != neg)
  | .trvOut => levelOf (trvOut s s.now)
  | .motEn d => levelOf (sideOf s d).motEn
  | .sout d => levelOf (soutLevel (sideOf s d))
  | .motGh _ | .motGl _ => if torqueOn s then .carries else .low
  | .biasPwm => if s.bias.on then .carries else .low
  | .clkOut => levelOf (clkLevel s s.now)
  | .nearDist => match s.near.edgeAt with
    | some x => levelOf (decide (s.now < x + us s.near.high))
    | none => .low
  | .etx _ | .etxc => if s.link.down == .off then .idle else .carries
  | .spiSck | .spiNcs | .spiIo _ | .nce _ | .nandIo _ | .nandCtl _ | .nandCle | .nandNwp => .carries
  | .isns _ | .nreset | .testMode | .refIn | .syncIn | .scfg _ | .nandRnb | .motHall _ | .sin _ _ | .crashIn => .highZ

/-! ## Boundary cells (R453) -/

def eachBall (n : Nat) (f : Nat → Ball) : List Ball := (List.range n).map f

/-- The balls with a boundary cell in the order of the register, which the spec leaves open: the order of Table 18.5
(notes/assumptions/39.md).  Link, crystal, DATUM, analog, VBIAS and JTAG balls have none. -/
def boundaryBalls : List Ball :=
  List.flatten [
    (List.range 32).flatMap (fun b => [Ball.fire b false, Ball.fire b true]), eachBall 8 Ball.isns,
    [Ball.trvOut, Ball.spiSck, Ball.spiNcs], eachBall 4 Ball.spiIo,
    [Ball.nreset, Ball.testMode, Ball.refIn, Ball.clkOut, Ball.syncIn], eachBall 8 Ball.scfg, eachBall 8 Ball.nandIo,
    eachBall 6 Ball.nandCtl, [Ball.nandCle, Ball.nandNwp, Ball.nandRnb], eachBall 2 Ball.nce, eachBall 3 Ball.motGh,
    eachBall 3 Ball.motGl, [Ball.motEn .a, Ball.motEn .b], eachBall 3 Ball.motHall,
    [Ball.biasPwm, Ball.sin .a 0, Ball.sin .b 0, Ball.sin .a 1, Ball.sin .b 1, Ball.sout .a, Ball.sout .b, Ball.nearDist,
     Ball.crashIn]]

/-- Balls whose cells observe only. -/
def observeOnly : Ball → Bool
  | .fire _ _ | .motGh _ | .motGl _ | .motEn _ | .sout _ | .biasPwm => true
  | _ => false

/-- The cell that drives a ball under EXTEST. -/
def drivingCell (s : State) (p : Ball) : Option Bool :=
  if s.supply.jtagHold && decide (s.jtag.instr = 4) && !observeOnly p && !inputBall p then
    (boundaryBalls.zip s.jtag.cells).lookup p
  else none

/-- What the device puts on a ball: nothing while the ball's rail is absent; in reset the state of R428, or the cell of EXTEST;
else what its unit drives (R428, R441, R451, R453). -/
def padLevel (s : State) (p : Ball) : PadLevel :=
  if railAbsent s (ballRail p) then .highZ
  else if s.phase == .reset then
    match drivingCell s p with
    | some v => levelOf v
    | none => restLevel p
  else runLevel s p

/-- What a boundary cell captures: the level the device drives, else the level that the board puts on the ball. -/
def captureCell (s : State) (p : Ball) (board : Bool) : Bool :=
  match padLevel s p with
  | .low => false
  | .high => true
  | _ => board

/-- The register captures the levels at the balls. -/
def captureCells (s : State) (board : List Bool) : List Bool := (boundaryBalls.zip board).map (fun x => captureCell s x.1 x.2)

end Sys2Proof.Machine
end

