-- ==== Sys2Proof/Machine/Status.lean ====
section
/-! DEFINITION. The status space, status queries, the event log, the pages and JTAG (R233, R234, R433 to R435, R453,
Tables 17.6 to 17.10). -/

namespace Sys2Proof.Machine

open Sys2Proof

/-! ## The status space (Table 17.8) -/

/-- Word `i`, 0 low, of a value that takes two words. -/
def half (v i : Nat) : Nat := v / 2 ^ (32 * i) % 2 ^ 32

/-- A bank's word as shown: not diagnosed in short, thermal-off and unassigned, in Idle and in Safe stop (Table 3.8). -/
def bankWordShown (s : State) (b : Nat) : Nat :=
  let v := bankOf s b
  if 3 ≤ v.st ∨ s.phase = .safeStop ∨ (s.phase = .mode ∧ s.seq.mode = 5) then bankWord { v with outcome := 6 } else bankWord v

/-- Word `w` of a channel record (Table 17.10). -/
def channelRecord (s : State) (c w : Nat) : Nat :=
  match w with
  | 0 => ambientWord s c
  | 1 => (ambOf s c).lambda
  | 2 => counterOf s (.overDepth c)
  | 3 => counterOf s (.overloadEntries c)
  | 4 => counterOf s (.tdcDrops c)
  | 5 => counterOf s (.contextDrops c)
  | 6 => counterOf s (.restarts c)
  | 7 => counterOf s (.heldOutputs c)
  | 8 => counterOf s (.invalidPreWindows c)
  | _ => trimWord s c

/-- Word `w` of the channel page (R435). -/
def channelPageWord (s : State) (w : Nat) : Nat :=
  if w = 0 then field 8 24 s.log.chPage + field 16 8 s.log.chTick
  else channelRecord s (6 * s.log.chPage + (w - 1) / 10) ((w - 1) % 10)

/-- Word `w` of the engine page (R435). -/
def enginePageWord (s : State) (w : Nat) : Nat :=
  let e := s.log.enPage
  match w with
  | 0 => field 8 24 e + field 16 8 s.log.enTick
  | 1 => counterOf s (.eventsApplied e)
  | 2 => counterOf s (.eventsDropped e)
  | 3 => counterOf s (.dropsInLastSheet e)
  | 4 => counterOf s (.strayItems e)
  | 5 => counterOf s (.discardedContexts e)
  | 6 => counterOf s (.countMismatches e)
  | 7 => counterOf s (.correctableEcc e)
  | 8 => counterOf s (.uncorrectableEcc e)
  | _ => counterOf s (.testsSkipped e)

/-- The safety cause mask (R340). -/
def causeMask (s : State) : Nat :=
  (List.range 16).foldl (fun a i =>
    a + field 1 i (b2n (s.safety.a.causes.contains i || s.safety.b.causes.contains i))) 0

/-- The packet counters shown: those of the session in force. -/
def sessionCounter (s : State) (up : Bool) : Nat :=
  match s.sec.session with
  | none => 0
  | some k => if up then k.ctrUp.getD 0 else k.ctrDown

/-- The words of Table 17.8 below 0x0100. -/
def statusHead (s : State) (a : Nat) : Nat :=
  match a / 4 with
  | 0 => summaryWord s
  | 1 => modeWord s
  | 2 => safetyWord s
  | 3 => causeMask s
  | 4 => securityWord s
  | 5 => configWord s
  | 6 => configCounts s
  | 7 => gratWord s
  | 8 => linkWord s
  | 9 => thermalWord s
  | 10 => recorderWord s
  | 11 => nearWord s
  | 12 => supplyWord s
  | 13 => biasWord s
  | 14 => scanWord s
  | 15 => s.seq.clampMask
  | 16 => s.seq.sheet
  | 18 => half s.legend.build 0
  | 19 => half s.legend.build 1
  | 20 => half Config.dieIdentity 0
  | 21 => half Config.dieIdentity 1
  | 32 => s.recd.meanErase
  | 33 => s.recd.maxErase
  | 34 => s.recd.forecast
  | 35 => match s.recd.part with | none => 0 | some p => p.endurance
  | n =>
    if 24 ≤ n ∧ n < 32 then
      field 16 0 (toTwos 16 (Table.getD 0 s.thermal.ts (2 * (n - 24)))) +
        field 16 16 (toTwos 16 (Table.getD 0 s.thermal.ts (2 * (n - 24) + 1)))
    else 0

/-- The values that stand among the counters without being kept as counters. -/
def statusLive (s : State) (a : Nat) : Option Nat :=
  if a = 0x120 then some (half (s.grat.localTime % 2 ^ 48) 0)
  else if a = 0x124 then some (half (s.grat.localTime % 2 ^ 48) 1)
  else if a = 0x128 then some (s.grat.localTime / 2 ^ 48)
  else if a = 0x14C then some (field 9 10 s.survey.highWater.1 + field 10 0 s.survey.highWater.2)
  else if a = 0x190 then some (half s.sec.startCounter 0)
  else if a = 0x194 then some (half s.sec.startCounter 1)
  else if a = 0x1DC then some s.safety.seq
  else if a = 0x200 then some s.link.seqDown
  else if a = 0x204 then some s.link.seqUp
  else if a = 0x208 then some (half (sessionCounter s false) 0)
  else if a = 0x20C then some (half (sessionCounter s false) 1)
  else if a = 0x210 then some (half (sessionCounter s true) 0)
  else if a = 0x214 then some (half (sessionCounter s true) 1)
  else none

/-- A word of the counter regions. -/
def statusCounter (s : State) (a : Nat) : Nat :=
  match statusLive s a with
  | some v => v
  | none =>
    if 0x248 ≤ a ∧ a < 0x270 then half (Table.getD 0 s.log.counters (a / 8 * 8)) (a / 4 % 2)
    else Table.getD 0 s.log.counters a

/-- Word `w` of the newest event entries. -/
def eventWord (s : State) (w : Nat) : Nat :=
  let e := s.log.ring.getD (w / 4) (0, 0)
  half (if w % 4 < 2 then e.1 else e.2) (w % 2)

/-- The 32-bit word at byte address `a` of the status space (R434). -/
def statusAt (s : State) (a : Nat) : Nat :=
  (if a < 0x100 then statusHead s a
  else if a < 0x4C4 then statusCounter s a
  else if a < 0x500 then 0
  else if a < 0x580 then bankWordShown s ((a - 0x500) / 4)
  else if a < 0x680 then Table.getD 0 s.log.counters a
  else if a < 0x790 then engineWord (engineOf s ((a - 0x680) / 4))
  else if a < 0x800 then 0
  else if a < 0x848 then sampleWord s ((a - 0x800) / 4)
  else if a < 0x8D8 then half ((auxOf s ((a - 0x848) / 8)).time % 2 ^ 48) ((a - 0x848) / 4 % 2)
  else if a < 0x900 then 0
  else if a < 0x940 then moverWord (moverOf s ((a - 0x900) / 4))
  else if a < 0x9C0 then half (moverOf s ((a - 0x940) / 8)).addr ((a - 0x940) / 4 % 2)
  else if a < 0xA00 then 0
  else if a < 0xAF4 then channelPageWord s ((a - 0xA00) / 4)
  else if a < 0xB00 then 0
  else if a < 0xB28 then enginePageWord s ((a - 0xB00) / 4)
  else if a < 0xC00 then 0
  else if a < 0xC08 then Table.getD 0 s.log.counters a
  else if a < 0xC10 then 0
  else if a < 0xE10 then eventWord s ((a - 0xC10) / 4)
  else 0) % 2 ^ 32

/-- `n` words from word address `w`, as far as the space goes. -/
def statusWords (s : State) (w n : Nat) : List Nat :=
  let t := settleCheckers s
  (List.range n).filterMap (fun i => if w + i < 1024 then some (statusAt t (4 * (w + i))) else none)

/-! ## STATUS_QUERY (R234) -/

/-- Result of a pending status response. -/
def responseResult (p : Pkt) : Nat := bits 38 36 (leAt p.body 0 8)

/-- Queries pending: their snapshot is on its way, or their response waits for the link. -/
def queriesPending (s : State) : Nat :=
  s.dma.snapshots.length +
    s.link.q3.countP (fun p => decide (p.type = 0x08 ∧ responseResult p ≠ 2 ∧ responseResult p ≠ 4))

/-- Answer a query without data words. -/
def statusRefused (w0 result : Nat) (s : State) : State :=
  due3 (pkt 0x08 (wordsLe [w0 + field 3 36 result, s.grat.localTime])) s

/-- A status query is acted on: one indivisible snapshot, brought to the link by movement channel 12. -/
def statusQuery (body : List Byte) (s : State) : State :=
  let q := leAt body 0 8
  let w0 := field 25 39 (q / 2 ^ 39)
  let addr := bits 55 46 q
  let len := bits 45 39 q
  if len = 0 ∨ 64 < len then statusRefused w0 4 s
  else if 8 ≤ queriesPending s then statusRefused w0 2 s
  else
    let data := leBytes 8 s.grat.localTime ++ (statusWords s addr len).flatMap (leBytes 4)
    let r := if 1024 < addr + len then 1 else 0
    let t := { s with dma := { s.dma with snapshots := s.dma.snapshots ++ [(w0 + field 3 36 r, data)] } }
    if s.dma.snapshots.isEmpty then moveStart 12 5 2 data.length t else t

/-- STATUS_QUERY. -/
def execStatusQuery (dt : Nat) (codes : List Nat) (rd : Bool) (s : State) : Out :=
  .next (onPacket 0x84 codes rd statusQuery (advance dt s))

/-! ## Event log and pages (R433, R435) -/

/-- An entry of the queue enters the ring, and the recorder's event blocks while a segment is open. -/
def logWrite (e : Nat × Nat) (r : List (Nat × Nat)) (s : State) : State :=
  let full := decide (1024 ≤ s.log.ring.length)
  let t := { s with log := { s.log with
    queue := r, ring := (e :: s.log.ring).take 1024, lastWrite := some s.now,
    overwritten := s.log.overwritten || full } }
  let t := count .eventsLogged 1 (if full then count .logOverwrites 1 t else t)
  if t.recd.st = 3 ∧ (t.recd.seg.isSome ∨ recordingNow t) then modRec (fun x => { x with events := x.events ++ [e] }) t else t

/-- EVENT_LOG_WRITE: at most one entry per 10 us. -/
def execEventLogWrite (dt : Nat) (s : State) : Out :=
  let t := advance dt s
  .next (match t.log.queue with
    | [] => t
    | e :: r =>
      match t.log.lastWrite with
      | some w => if t.now < w + us 10 then t else logWrite e r t
      | none => logWrite e r t)

/-- STATUS_PAGE_ADVANCE: both pages advance every 10 ms of local time, 16,000,000 ticks. -/
def execStatusPageAdvance (dt : Nat) (s : State) : Out :=
  let t := advance dt s
  .next (when_ (t.phase != .reset && decide (t.log.pageAt ≤ t.grat.localTime)) (fun t => { t with log := { t.log with
    chPage := (t.log.chPage + 1) % 256, chTick := (t.log.chTick + 1) % 65536,
    enPage := (t.log.enPage + 1) % 68, enTick := (t.log.enTick + 1) % 65536,
    pageAt := t.log.pageAt + 16000000 } }) t)

/-! ## JTAG (R252, R434, R453) -/

/-- The IDCODE. -/
def idCode : Nat := field 4 28 Config.maskRevision + field 16 12 0xD536 + field 11 1 Config.manufacturer + 1

/-- Load an instruction that lets the device run. -/
def jtagRun (n : Nat) (s : State) : State :=
  { s with jtag := { s.jtag with instr := n }, supply := { s.supply with jtagHold := false } }

/-- BYPASS: its register captures 0 (IEEE 1149.1). -/
def execBypass (dt : Nat) (s : State) : Out :=
  .next (let t := jtagRun 1 (advance dt s)
    { t with jtag := { t.jtag with bypass := false, tdo := [0] } })

/-- IDCODE. -/
def execIdcode (dt : Nat) (s : State) : Out :=
  .next (let t := jtagRun 2 (advance dt s)
    { t with jtag := { t.jtag with tdo := [idCode] } })

/-- SAMPLE/PRELOAD and EXTEST hold the device in reset for as long as they are loaded; the cells capture the levels at the
balls, under EXTEST with the pattern loaded before on the balls that it drives, and take the pattern shifted in (R453). -/
def jtagHold (n : Nat) (scan : BoundaryScan) (s : State) : State :=
  let t := if s.supply.jtagHold then s else resetDevice s.supply.resetCause s.supply.por s.supply.nresetLow true s
  let u := { t with jtag := { t.jtag with instr := n } }
  { u with jtag := { u.jtag with captured := captureCells u scan.levels, cells := scan.shifted } }

/-- As many levels and bits as there are cells. -/
def scanFits (scan : BoundaryScan) : Bool := decide (scan.levels.length = 131) && decide (scan.shifted.length = 131)

/-- SAMPLE_PRELOAD. -/
def execSamplePreload (dt : Nat) (scan : BoundaryScan) (s : State) : Out := need (scanFits scan) (jtagHold 3 scan (advance dt s))

/-- EXTEST. -/
def execExtest (dt : Nat) (scan : BoundaryScan) (s : State) : Out := need (scanFits scan) (jtagHold 4 scan (advance dt s))

/-- JTAG_STATUS_READ: in Depot one indivisible snapshot, zeros elsewhere. -/
def execJtagStatusRead (dt addr words : Nat) (s : State) : Out :=
  need (decide (addr < 1024 ∧ 1 ≤ words ∧ words ≤ 64)) (
    let t := advance dt s
    let l := if t.phase == .mode && decide (t.seq.mode = 6) then
        (List.range words).map (fun i => if addr + i < 1024 then statusAt (settleCheckers t) (4 * (addr + i)) else 0)
      else List.replicate words 0
    { t with jtag := { t.jtag with tdo := l } })

end Sys2Proof.Machine
end

