-- ==== Sys2Proof/Machine/Dispatch.lean ====
section
/-! DEFINITION. One arm per command: the call of its meaning. -/

namespace Sys2Proof.Machine

open Sys2Proof

def exec (i : Instr) (s : State) : Host.Outcome State Fault Refusal :=
  match i with
  | .powerOnReset dt coreLowest => Sys2Proof.Machine.execPowerOnReset dt coreLowest s
  | .nresetLow dt low => Sys2Proof.Machine.execNresetLow dt low s
  | .resetRelease dt strapA strapB ref => Sys2Proof.Machine.execResetRelease dt strapA strapB ref s
  | .crystalStartupDone dt edges => Sys2Proof.Machine.execCrystalStartupDone dt edges s
  | .referenceDetectRetry dt ref => Sys2Proof.Machine.execReferenceDetectRetry dt ref s
  | .lockDeclared dt band loop => Sys2Proof.Machine.execLockDeclared dt band loop s
  | .imageVerify dt nor => Sys2Proof.Machine.execImageVerify dt nor s
  | .imageAccept dt => Sys2Proof.Machine.execImageAccept dt s
  | .recorderMount mount ce0 ce1 => Sys2Proof.Machine.execRecorderMount mount ce0 ce1 s
  | .hallEdge dt code observer => Sys2Proof.Machine.execHallEdge dt code observer s
  | .hallInvalid dt code => Sys2Proof.Machine.execHallInvalid dt code s
  | .stallTimeout dt => Sys2Proof.Machine.execStallTimeout dt s
  | .overcurrent dt => Sys2Proof.Machine.execOvercurrent dt s
  | .timingOnlyBoundary dt => Sys2Proof.Machine.execTimingOnlyBoundary dt s
  | .sheetBoundary dt => Sys2Proof.Machine.execSheetBoundary dt s
  | .traverseFrame dt => Sys2Proof.Machine.execTraverseFrame dt s
  | .diagnosticSlot dt bank high rises firings measured => Sys2Proof.Machine.execDiagnosticSlot dt bank high rises firings measured s
  | .diagnosticWindowClose dt => Sys2Proof.Machine.execDiagnosticWindowClose dt s
  | .engineSelfTest dt engine ran passed => Sys2Proof.Machine.execEngineSelfTest dt engine ran passed s
  | .contourSelfTest dt unit ran passed => Sys2Proof.Machine.execContourSelfTest dt unit ran passed s
  | .coreSegment dt hitTaps hits firings => Sys2Proof.Machine.execCoreSegment dt hitTaps hits firings s
  | .opticalSegment dt events light widths => Sys2Proof.Machine.execOpticalSegment dt events light widths s
  | .calibrationProcessing dt norOk => Sys2Proof.Machine.execCalibrationProcessing dt norOk s
  | .calibrationAbandon dt => Sys2Proof.Machine.execCalibrationAbandon dt s
  | .datumEdgePair dt edges => Sys2Proof.Machine.execDatumEdgePair dt edges s
  | .bearingPeriodStart dt => Sys2Proof.Machine.execBearingPeriodStart dt s
  | .ambientEvaluation dt channel => Sys2Proof.Machine.execAmbientEvaluation dt channel s
  | .shotSlot dt => Sys2Proof.Machine.execShotSlot dt s
  | .rangeWindowEnd dt channel => Sys2Proof.Machine.execRangeWindowEnd dt channel s
  | .coincidenceEvent dt channel fired tap => Sys2Proof.Machine.execCoincidenceEvent dt channel fired tap s
  | .recoveryEnd dt channel => Sys2Proof.Machine.execRecoveryEnd dt channel s
  | .nearZoneLine dt channel fired => Sys2Proof.Machine.execNearZoneLine dt channel fired s
  | .holdingRegisterFlush dt channel => Sys2Proof.Machine.execHoldingRegisterFlush dt channel s
  | .markerApply dt engine => Sys2Proof.Machine.execMarkerApply dt engine s
  | .eventItem dt reads => Sys2Proof.Machine.execEventItem dt reads s
  | .dropItem dt engine => Sys2Proof.Machine.execDropItem dt engine s
  | .contextClose dt engine reads => Sys2Proof.Machine.execContextClose dt engine reads s
  | .closeCommand dt => Sys2Proof.Machine.execCloseCommand dt s
  | .grantTimeout dt engine => Sys2Proof.Machine.execGrantTimeout dt engine s
  | .engineFailure dt engine => Sys2Proof.Machine.execEngineFailure dt engine s
  | .spareSubstitution dt => Sys2Proof.Machine.execSpareSubstitution dt s
  | .contourStart dt unit reads => Sys2Proof.Machine.execContourStart dt unit reads s
  | .contourRecord dt unit => Sys2Proof.Machine.execContourRecord dt unit s
  | .contourWatchdog dt unit => Sys2Proof.Machine.execContourWatchdog dt unit s
  | .pointPacketRelease dt group => Sys2Proof.Machine.execPointPacketRelease dt group s
  | .sheetTrailer dt => Sys2Proof.Machine.execSheetTrailer dt s
  | .safeStopTrailer dt => Sys2Proof.Machine.execSafeStopTrailer dt s
  | .dumpCopy dt => Sys2Proof.Machine.execDumpCopy dt s
  | .packetTransmit dt => Sys2Proof.Machine.execPacketTransmit dt s
  | .alignmentMarker dt => Sys2Proof.Machine.execAlignmentMarker dt s
  | .downstreamSleep dt => Sys2Proof.Machine.execDownstreamSleep dt s
  | .upstreamStage dt seen => Sys2Proof.Machine.execUpstreamStage dt seen s
  | .upstreamStageTimeout dt => Sys2Proof.Machine.execUpstreamStageTimeout dt s
  | .symbolLockLoss run => Sys2Proof.Machine.execSymbolLockLoss run s
  | .lossOfSignal seen => Sys2Proof.Machine.execLossOfSignal seen s
  | .uts dt st => Sys2Proof.Machine.execUts dt st s
  | .trainingTimeout dt => Sys2Proof.Machine.execTrainingTimeout dt s
  | .widthRise dt => Sys2Proof.Machine.execWidthRise dt s
  | .linkDown dt => Sys2Proof.Machine.execLinkDown dt s
  | .upstreamSleep dt slpSets => Sys2Proof.Machine.execUpstreamSleep dt slpSets s
  | .laneTestStart dt => Sys2Proof.Machine.execLaneTestStart dt s
  | .laneTestEnd dt errors => Sys2Proof.Machine.execLaneTestEnd dt errors s
  | .timeSync dt codes rd => Sys2Proof.Machine.execTimeSync dt codes rd s
  | .syncStale dt => Sys2Proof.Machine.execSyncStale dt s
  | .modeRequest dt codes rd => Sys2Proof.Machine.execModeRequest dt codes rd s
  | .statusQuery dt codes rd => Sys2Proof.Machine.execStatusQuery dt codes rd s
  | .hostHello dt codes rd => Sys2Proof.Machine.execHostHello dt codes rd s
  | .hostFinish dt codes rd => Sys2Proof.Machine.execHostFinish dt codes rd s
  | .hostFinishTimeout dt => Sys2Proof.Machine.execHostFinishTimeout dt s
  | .hostClose dt codes rd => Sys2Proof.Machine.execHostClose dt codes rd s
  | .listIncidents dt codes rd => Sys2Proof.Machine.execListIncidents dt codes rd s
  | .readRecord dt codes rd => Sys2Proof.Machine.execReadRecord dt codes rd s
  | .releaseIncident dt codes rd => Sys2Proof.Machine.execReleaseIncident dt codes rd s
  | .mark dt codes rd => Sys2Proof.Machine.execMark dt codes rd s
  | .abortRead dt codes rd => Sys2Proof.Machine.execAbortRead dt codes rd s
  | .safetyMessage dt codes rd => Sys2Proof.Machine.execSafetyMessage dt codes rd s
  | .connectionExpiry dt side => Sys2Proof.Machine.execConnectionExpiry dt side s
  | .safetyExchange dt crcOkA crcOkB intervalA intervalB => Sys2Proof.Machine.execSafetyExchange dt crcOkA crcOkB intervalA intervalB s
  | .exchangeTimeout dt side => Sys2Proof.Machine.execExchangeTimeout dt side s
  | .noticeLine dt side => Sys2Proof.Machine.execNoticeLine dt side s
  | .safetyHallEdge dt side code => Sys2Proof.Machine.execSafetyHallEdge dt side code s
  | .speedWindowTimeout dt side => Sys2Proof.Machine.execSpeedWindowTimeout dt side s
  | .bnMarker dt side => Sys2Proof.Machine.execBnMarker dt side s
  | .firePadPulse dt side bank width => Sys2Proof.Machine.execFirePadPulse dt side bank width s
  | .gateTest dt seenA seenB => Sys2Proof.Machine.execGateTest dt seenA seenB s
  | .torqueRemoval dt side => Sys2Proof.Machine.execTorqueRemoval dt side s
  | .standstill dt side => Sys2Proof.Machine.execStandstill dt side s
  | .sinSample dt side a0 b0 a1 b1 => Sys2Proof.Machine.execSinSample dt side a0 b0 a1 b1 s
  | .discrepancyTimeout dt side input => Sys2Proof.Machine.execDiscrepancyTimeout dt side input s
  | .soutReadback dt side level => Sys2Proof.Machine.execSoutReadback dt side level s
  | .soutTestPulse dt side => Sys2Proof.Machine.execSoutTestPulse dt side s
  | .soutTestSample dt side level => Sys2Proof.Machine.execSoutTestSample dt side level s
  | .safetySensorRead dt side reading => Sys2Proof.Machine.execSafetySensorRead dt side reading s
  | .sensorReading dt readings => Sys2Proof.Machine.execSensorReading dt readings s
  | .biasOvervoltage dt => Sys2Proof.Machine.execBiasOvervoltage dt s
  | .biasReadback dt => Sys2Proof.Machine.execBiasReadback dt s
  | .auxConversionDone dt vin vref overvoltage => Sys2Proof.Machine.execAuxConversionDone dt vin vref overvoltage s
  | .urgentRequest dt supply => Sys2Proof.Machine.execUrgentRequest dt supply s
  | .neardistValueReady dt => Sys2Proof.Machine.execNeardistValueReady dt s
  | .neardistPeriod dt => Sys2Proof.Machine.execNeardistPeriod dt s
  | .neardistNoDataTimeout dt => Sys2Proof.Machine.execNeardistNoDataTimeout dt s
  | .referenceLoss dt => Sys2Proof.Machine.execReferenceLoss dt s
  | .referenceReturn dt edges ppm => Sys2Proof.Machine.execReferenceReturn dt edges ppm s
  | .lossOfLock seen => Sys2Proof.Machine.execLossOfLock seen s
  | .outputsReturn dt => Sys2Proof.Machine.execOutputsReturn dt s
  | .linkPllHoldExpiry dt => Sys2Proof.Machine.execLinkPllHoldExpiry dt s
  | .localCounterWrap => Sys2Proof.Machine.execLocalCounterWrap s
  | .syncInEdge dt rising => Sys2Proof.Machine.execSyncInEdge dt rising s
  | .dipBegin dt fall => Sys2Proof.Machine.execDipBegin dt fall s
  | .dipEnd dt => Sys2Proof.Machine.execDipEnd dt s
  | .dipHoldRelease dt => Sys2Proof.Machine.execDipHoldRelease dt s
  | .resetLevelFall dt fall => Sys2Proof.Machine.execResetLevelFall dt fall s
  | .processorWatchdog dt => Sys2Proof.Machine.execProcessorWatchdog dt s
  | .crashTrigger dt high low => Sys2Proof.Machine.execCrashTrigger dt high low s
  | .incidentTrigger dt => Sys2Proof.Machine.execIncidentTrigger dt s
  | .commitPhase1 run => Sys2Proof.Machine.execCommitPhase1 run s
  | .postTriggerEnd dt => Sys2Proof.Machine.execPostTriggerEnd dt s
  | .commitPhase2 run => Sys2Proof.Machine.execCommitPhase2 run s
  | .bodyBlockForm dt => Sys2Proof.Machine.execBodyBlockForm dt s
  | .segmentClose run => Sys2Proof.Machine.execSegmentClose run s
  | .nandProgramDone dt ok bitErrors => Sys2Proof.Machine.execNandProgramDone dt ok bitErrors s
  | .nandEraseDone dt ended => Sys2Proof.Machine.execNandEraseDone dt ended s
  | .nandReadDone dt bitErrors => Sys2Proof.Machine.execNandReadDone dt bitErrors s
  | .scrub dt readBack => Sys2Proof.Machine.execScrub dt readBack s
  | .poweredHour dt => Sys2Proof.Machine.execPoweredHour dt s
  | .descriptorComplete dt channel => Sys2Proof.Machine.execDescriptorComplete dt channel s
  | .channelHalt dt channel info => Sys2Proof.Machine.execChannelHalt dt channel info s
  | .eventLogWrite dt => Sys2Proof.Machine.execEventLogWrite dt s
  | .statusPageAdvance dt => Sys2Proof.Machine.execStatusPageAdvance dt s
  | .bypass dt => Sys2Proof.Machine.execBypass dt s
  | .idcode dt => Sys2Proof.Machine.execIdcode dt s
  | .samplePreload dt scan => Sys2Proof.Machine.execSamplePreload dt scan s
  | .extest dt scan => Sys2Proof.Machine.execExtest dt scan s
  | .jtagStatusRead dt addr words => Sys2Proof.Machine.execJtagStatusRead dt addr words s
  | .speedBelowWindow dt side => Sys2Proof.Machine.execSpeedBelowWindow dt side s
  | .bnMarkerMissing dt side => Sys2Proof.Machine.execBnMarkerMissing dt side s
  | .safetySelfTestFailure dt side => Sys2Proof.Machine.execSafetySelfTestFailure dt side s
  | .soutTestPulseEnd dt side => Sys2Proof.Machine.execSoutTestPulseEnd dt side s
  | .checkerSync dt seen => Sys2Proof.Machine.execCheckerSync dt seen s
  | .checkerSyncLoss dt lane errors wrong => Sys2Proof.Machine.execCheckerSyncLoss dt lane errors wrong s
  | .upstreamPacketDiscard dt codes rd => Sys2Proof.Machine.execUpstreamPacketDiscard dt codes rd s
  | .nandResponseTimeout dt => Sys2Proof.Machine.execNandResponseTimeout dt s
  | .norPageProgramDone dt ok => Sys2Proof.Machine.execNorPageProgramDone dt ok s
  | .norSectorEraseDone dt ok => Sys2Proof.Machine.execNorSectorEraseDone dt ok s
  | .supplyReturnLevel rise => Sys2Proof.Machine.execSupplyReturnLevel rise s

end Sys2Proof.Machine
end

