-- ==== Sys2Proof/WellFormed.lean ====
section
/-! DEFINITION. Which commands name units, rails, inputs and lengths that the DX1536 has. -/

namespace Sys2Proof

/-- The command names parts the device has: 1,536 channels of 16 SPADs, 64 groups, 32 banks of 48 channels,
68 engines, 16 contour units, 16 movement channels, 16 sensors, 6 rails, 131 boundary cells, 5 checkers, 20 interpolator taps, 32 VCO
bands, two dual-contact inputs, a status space of 1,024 words.  A command that names another is no event of this
device. -/
def Instr.wellFormed : Instr → Bool
  | .powerOnReset _ _ => true
  | .nresetLow _ _ => true
  | .resetRelease _ _ _ _ => true
  | .crystalStartupDone _ _ => true
  | .referenceDetectRetry _ _ => true
  | .lockDeclared _ band loop =>
    decide (band.slow.length = 5) && decide (band.measured < 65536) && decide (loop.control < 65536)
  | .imageVerify _ _ => true
  | .imageAccept _ => true
  | .recorderMount _ _ _ => true
  | .hallEdge _ _ _ => true
  | .hallInvalid _ _ => true
  | .stallTimeout _ => true
  | .overcurrent _ => true
  | .timingOnlyBoundary _ => true
  | .sheetBoundary _ => true
  | .traverseFrame _ => true
  | .diagnosticSlot _ bank _ _ firings _ =>
    decide (bank < 32) && decide (firings.length = 48) && firings.all (fun l => l.all (fun f => decide (f.1 < 16)))
  | .diagnosticWindowClose _ => true
  | .engineSelfTest _ engine _ _ => decide (engine < 68)
  | .contourSelfTest _ unit _ _ => decide (unit < 16)
  | .coreSegment _ _ _ _ => true
  | .opticalSegment _ _ _ _ => true
  | .calibrationProcessing _ _ => true
  | .calibrationAbandon _ => true
  | .datumEdgePair _ _ => true
  | .bearingPeriodStart _ => true
  | .ambientEvaluation _ channel => decide (channel < 1536)
  | .shotSlot _ => true
  | .rangeWindowEnd _ channel => decide (channel < 1536)
  | .coincidenceEvent _ channel fired tap => decide (channel < 1536) && fired.all (fun f => decide (f.1 < 16)) && decide (tap < 20)
  | .recoveryEnd _ channel => decide (channel < 1536)
  | .nearZoneLine _ channel fired => decide (channel < 1536) && fired.all (fun f => decide (f.1 < 16))
  | .holdingRegisterFlush _ channel => decide (channel < 1536)
  | .markerApply _ engine => decide (engine < 68)
  | .eventItem _ reads => decide (reads.engine < 68)
  | .dropItem _ engine => decide (engine < 68)
  | .contextClose _ engine _ => decide (engine < 68)
  | .closeCommand _ => true
  | .grantTimeout _ engine => decide (engine < 68)
  | .engineFailure _ engine => decide (engine < 68)
  | .spareSubstitution _ => true
  | .contourStart _ unit _ => decide (unit < 16)
  | .contourRecord _ unit => decide (unit < 16)
  | .contourWatchdog _ unit => decide (unit < 16)
  | .pointPacketRelease _ group => decide (group < 64)
  | .sheetTrailer _ => true
  | .safeStopTrailer _ => true
  | .dumpCopy _ => true
  | .packetTransmit _ => true
  | .alignmentMarker _ => true
  | .downstreamSleep _ => true
  | .upstreamStage _ _ => true
  | .upstreamStageTimeout _ => true
  | .symbolLockLoss _ => true
  | .lossOfSignal _ => true
  | .uts _ _ => true
  | .trainingTimeout _ => true
  | .widthRise _ => true
  | .linkDown _ => true
  | .upstreamSleep _ _ => true
  | .laneTestStart _ => true
  | .laneTestEnd _ errors => errors.all (fun c => decide (c.1 < 5))
  | .timeSync _ _ _ => true
  | .syncStale _ => true
  | .modeRequest _ _ _ => true
  | .statusQuery _ _ _ => true
  | .hostHello _ _ _ => true
  | .hostFinish _ _ _ => true
  | .hostFinishTimeout _ => true
  | .hostClose _ _ _ => true
  | .listIncidents _ _ _ => true
  | .readRecord _ _ _ => true
  | .releaseIncident _ _ _ => true
  | .mark _ _ _ => true
  | .abortRead _ _ _ => true
  | .safetyMessage _ _ _ => true
  | .connectionExpiry _ _ => true
  | .safetyExchange _ _ _ _ _ => true
  | .exchangeTimeout _ _ => true
  | .noticeLine _ _ => true
  | .safetyHallEdge _ _ _ => true
  | .speedWindowTimeout _ _ => true
  | .bnMarker _ _ => true
  | .firePadPulse _ _ bank _ => decide (bank < 32)
  | .gateTest _ seenA seenB => decide (seenA.length = 32) && decide (seenB.length = 32)
  | .torqueRemoval _ _ => true
  | .standstill _ _ => true
  | .sinSample _ _ _ _ _ _ => true
  | .discrepancyTimeout _ _ input => decide (input < 2)
  | .soutReadback _ _ _ => true
  | .soutTestPulse _ _ => true
  | .soutTestSample _ _ _ => true
  | .safetySensorRead _ _ _ => true
  | .sensorReading _ readings => decide (readings.length = 16)
  | .biasOvervoltage _ => true
  | .biasReadback _ => true
  | .auxConversionDone _ _ _ _ => true
  | .urgentRequest _ _ => true
  | .neardistValueReady _ => true
  | .neardistPeriod _ => true
  | .neardistNoDataTimeout _ => true
  | .referenceLoss _ => true
  | .referenceReturn _ _ _ => true
  | .lossOfLock _ => true
  | .outputsReturn _ => true
  | .linkPllHoldExpiry _ => true
  | .localCounterWrap => true
  | .syncInEdge _ _ => true
  | .dipBegin _ fall => decide (fall.levels.length = 6)
  | .dipEnd _ => true
  | .dipHoldRelease _ => true
  | .resetLevelFall _ fall => decide (fall.levels.length = 6)
  | .processorWatchdog _ => true
  | .crashTrigger _ _ _ => true
  | .incidentTrigger _ => true
  | .commitPhase1 _ => true
  | .postTriggerEnd _ => true
  | .commitPhase2 _ => true
  | .bodyBlockForm _ => true
  | .segmentClose _ => true
  | .nandProgramDone _ _ _ => true
  | .nandEraseDone _ _ => true
  | .nandReadDone _ _ => true
  | .scrub _ _ => true
  | .poweredHour _ => true
  | .descriptorComplete _ channel => decide (channel < 16)
  | .channelHalt _ channel _ => decide (channel < 16)
  | .eventLogWrite _ => true
  | .statusPageAdvance _ => true
  | .bypass _ => true
  | .idcode _ => true
  | .samplePreload _ scan => decide (scan.levels.length = 131) && decide (scan.shifted.length = 131)
  | .extest _ scan => decide (scan.levels.length = 131) && decide (scan.shifted.length = 131)
  | .jtagStatusRead _ addr words => decide (addr < 1024 ∧ 1 ≤ words ∧ words ≤ 64)
  | .speedBelowWindow _ _ => true
  | .bnMarkerMissing _ _ => true
  | .safetySelfTestFailure _ _ => true
  | .soutTestPulseEnd _ _ => true
  | .checkerSync _ seen => decide (seen.lane < 5)
  | .checkerSyncLoss _ lane _ _ => decide (lane < 5)
  | .upstreamPacketDiscard _ _ _ => true
  | .nandResponseTimeout _ => true
  | .norPageProgramDone _ _ => true
  | .norSectorEraseDone _ _ => true
  | .supplyReturnLevel rise => decide (rise.levels.length = 6)

end Sys2Proof
end

