-- ==== Sys2Proof/Safety.lean ====
section
/-! DEFINITION. What counts as safe, in the terms the claims use. -/

namespace Sys2Proof.Safety

open Sys2Proof Sys2Proof.Machine

/-- The local counter holds 64 bits with its epoch, and its sub-count is less than one step of 20 taps (R116). -/
def ClockInRange (s : State) : Prop := s.grat.localTime < 2 ^ 64 ∧ s.grat.subTap < 20

/-- The NOR flash's contents are in their one canonical form. -/
def MemoryCanonical (s : State) : Prop := norWf s.nor.mem = true

/-- What every command keeps: the clock's range and the canonical form of the memory. -/
def Inv (s : State) : Prop := ClockInRange s ∧ MemoryCanonical s

/-- No pulse may reach a FIRE pad: a safety channel has withdrawn its permit (R15, R309). -/
def EmissionHeld (s : State) : Prop := s.safety.a.permit = false ∨ s.safety.b.permit = false

/-- The fields that an entry into Safe stop may touch; every other is as in `s`. -/
def SafeStopFrame (s t : State) : Prop :=
  t = { s with
    phase := t.phase, seq := t.seq, motor := t.motor, safety := t.safety, calib := t.calib, nor := t.nor, aux := t.aux,
    recd := t.recd, link := t.link, log := t.log, pulses := t.pulses, chain := t.chain, banks := t.banks, chans := t.chans }

/-- The pads from an instant on: no pulse that has not begun by then is left, and none is longer than it was, a diagnostic pulse
that has fallen due by then included (R55, R73). -/
def PulsesCut (s t : State) : Prop :=
  ∀ y ∈ t.pulses, y.at_ < s.now ∧ y.at_ + y.width ≤ s.now ∧
    ∃ x ∈ (lightDiag s).pulses, x.bank = y.bank ∧ x.at_ = y.at_ ∧ y.width ≤ x.width

/-- Level `k` of rail `r` in Table 18.1, 0 warning, 1 return, 2 reset, and 1 % of the rail's nominal voltage; uV (R436, R437). -/
def railMark (r k : Nat) : Nat := (railTable.getD r (0, [])).2.getD k 0
def railError (r : Nat) : Nat := (railTable.getD r (0, [])).1 / 100

/-- Rail `r` lies below one of its levels, or above it, by more than the monitor can err (R437). -/
def RailBelow (k r : Nat) (levels : List Nat) : Prop := levels.getD r 0 + railError r < railMark r k
def RailAbove (k r : Nat) (levels : List Nat) : Prop := railMark r k + railError r ≤ levels.getD r 0

/-- The codes of a packet of a type reach the device in `s` and pass every check, which leave the body and the state `u`
(R222, R223, R230). -/
def Received (type : Nat) (codes : List Nat) (rd : Bool) (body : List Byte) (s u : State) : Prop :=
  rxType (rxBytes s codes rd) = type ∧
    receive (rxBytes s codes rd) (rxViol s codes rd) s = (some { type := type, body := body }, u)

/-- The tally that a holding register keeps for a context, 0 where it has no entry for it (R104). -/
def tallyFor (l : List HoldEntry) (ctx : Nat) : Nat :=
  match l.find? (fun h => decide (tagCtx h.tag = ctx)) with
  | none => 0
  | some h => h.tally

/-- From `s`, channel `d` has entered Safe stop with this cause, or added it to its mask (R327, R331): the device is in
Safe stop, firing is stopped for good, a held request and a calibration run are gone, and the entry is counted once. -/
def StoppedBy (s t : State) (d : Side) (code : Nat) : Prop :=
  t.phase = .safeStop ∧ (sideOf t d).stopped = true ∧ code ∈ (sideOf t d).causes ∧
    ((sideOf s d).stopped = false →
      (sideOf t d).permit = false ∧ (sideOf t d).sout = false ∧ (sideOf t d).notice = true ∧ (sideOf t d).cause = code) ∧
    (s.phase ≠ .safeStop → t.seq.stopped = true ∧ t.seq.latch = none ∧ t.calib.run = none ∧
      counterOf t .safeStops = counterNext .safeStops (counterOf s .safeStops) 1)

end Sys2Proof.Safety
end

