-- ==== Sys2Proof/Certificates/Slice0/Obligations.lean ====
section
/-! DEFINITION. The statements for the provers.  `t = { advance dt s with x := t.x, ... }` says of a next state `t` that
every field not named is as time alone leaves it. -/

open Sys2Proof Sys2Proof.Machine Sys2Proof.Safety

/-- A step takes the command at the front of the queue and runs it with the queue's rest.  That an empty queue idles is
the model's choice (notes/assumptions/4.md). -/
def Obligations.StepRunsFront : Prop :=
  (∀ (c : Instr) (r : List Instr) (s : State), s.pending = c :: r → step s = exec c { s with pending := r }) ∧
  (∀ s : State, s.pending = [] → step s = .next s)

/-- Every well-formed command completes from every state; a command that names a part the device does not have stops by
name (the operands are the model's, notes/assumptions/1.md). -/
def Obligations.WellFormedCommandsComplete : Prop :=
  ∀ (c : Instr) (s : State),
    (c.wellFormed = true → ∃ t, exec c s = .next t) ∧
    (c.wellFormed = false → exec c s = .fault .noSuchUnit)

/-- The effect of a command is on everything but the queue, and time never runs back. -/
def Obligations.QueueKeptTimeForward : Prop :=
  ∀ (c : Instr) (s t : State), exec c s = .next t → t.pending = s.pending ∧ s.now ≤ t.now

/-- The 64-bit local time stays in range and the NOR flash's contents keep their one canonical form, whatever command
runs. -/
def Obligations.EveryStepKeepsInv : Prop :=
  ∀ s t : State, Inv s → step s = .next t → Inv t

def Obligations.InvAtReset : Prop := Inv State.reset

/-- The values the spec gives for reset, of every kind of state. -/
def Obligations.ResetValues : Prop :=
  State.reset.phase = .reset ∧ State.reset.supply.por = true ∧ State.reset.supply.resetCause = 0 ∧
  State.reset.grat.st = .searching ∧ State.reset.grat.localTime = 0 ∧ State.reset.grat.lockLost = false ∧
  State.reset.grat.sync = 0 ∧ State.reset.grat.vb = 0 ∧ State.reset.grat.clkOut = false ∧
  State.reset.motor.torque = false ∧ State.reset.pulses = [] ∧
  State.reset.bias.on = false ∧ State.reset.bias.fault = 0 ∧
  (∀ d : Side, (sideOf State.reset d).permit = false ∧ (sideOf State.reset d).sout = false ∧
    (sideOf State.reset d).motEn = false ∧ (sideOf State.reset d).stopped = false ∧
    (sideOf State.reset d).connOpen = false) ∧
  State.reset.sec.session = none ∧ State.reset.log.queue = [] ∧ State.reset.log.ring = [] ∧
  State.reset.log.chPage = 0 ∧ State.reset.log.chTick = 0 ∧ State.reset.log.enPage = 0 ∧ State.reset.log.enTick = 0 ∧
  State.reset.log.pageAt = 16000000 ∧ (∀ c : Counter, counterOf State.reset c = 0) ∧
  State.reset.seq.sheet = 0 ∧ State.reset.seq.latch = none ∧ State.reset.link.down = .off ∧
  State.reset.nor.jobs = [] ∧ State.reset.pending = []

/-- Fuses are burned once, in the claim and the version advance of an accepted image (R250), and no command clears one. -/
def Obligations.FusesNeverClear : Prop :=
  ∀ s t : State, step s = .next t →
    s.otp.hash ||| t.otp.hash = t.otp.hash ∧ s.otp.version ||| t.otp.version = t.otp.version ∧
    (s.otp.debugLock = true → t.otp.debugLock = true) ∧
    (s.otp.claimed = true → t.otp.claimed = true ∧ t.otp.hash = s.otp.hash) ∧
    (t.otp ≠ s.otp → ∃ dt nor r, s.pending = .imageVerify dt nor :: r)

/-- The four resets: what each leaves, and that a short low level is ignored.  A processor watchdog acts outside reset.
That nRESET during the power-on reset keeps the cause, and that a loaded scan instruction outlives a reset by a pin or the
watchdog, are the model's choices (notes/assumptions/18.md, notes/assumptions/39.md). -/
def Obligations.ResetKeepsOnlyWhatPersists : Prop :=
  let after (cause : Nat) (por low hold : Bool) (supply : Supply) (s : State) (free : Nat) (dt : Nat) : State :=
    { State.reset with
      pending := s.pending, now := s.now + dt, free := free,
      supply := { levels := supply.levels, below := supply.below, returning := if por then supply.returning else none
                  resetCause := cause, por := por, nresetLow := low, jtagHold := hold },
      otp := s.otp, nor := { mem := s.nor.mem, present := s.nor.present },
      recd := { blocks := s.recd.blocks.map (fun e => (e.1, { e.2 with st := 0, reads := 0, incident := 0 })), hourAt := s.now + dt },
      jtag := if hold then { instr := s.jtag.instr, cells := s.jtag.cells } else {} }
  (∀ (dt low : Nat) (s : State), us 2 + ns 200 ≤ low → ∃ free,
    exec (.nresetLow dt low) s =
      .next (after (if s.supply.por then s.supply.resetCause else 1) s.supply.por true s.supply.jtagHold s.supply s free dt)) ∧
  (∀ (dt low : Nat) (s : State), low < us 2 → ∃ free,
    exec (.nresetLow dt low) s = .next { advance dt s with free := free }) ∧
  (∀ (dt r : Nat) (fall : RailFall) (s : State), fall.levels.length = 6 → ns 50 ≤ fall.lasts → RailBelow 2 r fall.levels →
    ∃ free below, exec (.resetLevelFall dt fall) s =
      .next (after (if fall.levels.getD 0 0 < 400000 then 0 else 2) true s.supply.nresetLow false
        { s.supply with levels := fall.levels, below := below, returning := none } s free dt) ∧ r ∈ below) ∧
  (∀ (dt : Nat) (s : State), s.phase ≠ .reset → ∃ free,
    exec (.processorWatchdog dt) s = .next (after 3 s.supply.por s.supply.nresetLow s.supply.jtagHold s.supply s free dt))

/-- POWER_ON_RESET, RESET_RELEASE, CRYSTAL_STARTUP_DONE and REFERENCE_DETECT_RETRY: the detection of R108 on the edges of
the watch and the count, and what it leaves alone. -/
def Obligations.ReferenceIsSoughtAtRelease : Prop :=
  let named (n : Nat) : Option Nat :=
    if 90 ≤ n ∧ n ≤ 110 then some 0 else if 225 ≤ n ∧ n ≤ 275 then some 1
    else if 900 ≤ n ∧ n ≤ 1100 then some 2 else none
  let sought (now w n : Nat) (g : Grat) : Grat :=
    if w = 0 then { g with detectAt := now, crystal := true, crystalWait := true }
    else match named n with
      | some f => { g with detectAt := now, st := .searching, crystal := false, freq := f, crystalWait := false }
      | none => { g with detectAt := now, st := .noReference, crystal := false, crystalWait := false }
  (∀ (dt core r : Nat) (s : State), s.supply.por = true → s.supply.returning = some r →
    exec (.powerOnReset dt core) s =
      .next (let t := advance dt s
             if r + ms 1 ≤ s.now + dt then
               { t with supply := { t.supply with por := false, returning := none,
                                                  resetCause := if core < 400000 then 0 else s.supply.resetCause } }
             else t)) ∧
  (∀ (dt core : Nat) (s : State), s.supply.por = true → s.supply.returning = none →
    exec (.powerOnReset dt core) s = .next (advance dt s)) ∧
  (∀ (dt : Nat) (x y : Byte) (w n : Nat) (s : State),
    (s.phase = .reset ∧ s.supply.por = false ∧ s.supply.jtagHold = false →
      exec (.resetRelease dt x y ⟨w, n⟩) s =
        .next (let t := advance dt s
               { t with phase := .start, supply := { t.supply with nresetLow := false }, grat := sought t.now w n t.grat,
                        safety := { t.safety with a := { t.safety.a with straps := x.toNat, lastWord := t.now },
                                                  b := { t.safety.b with straps := y.toNat, lastWord := t.now } } })) ∧
    (¬(s.phase = .reset ∧ s.supply.por = false ∧ s.supply.jtagHold = false) →
      exec (.resetRelease dt x y ⟨w, n⟩) s = .next (advance dt s))) ∧
  (∀ (dt n : Nat) (s : State), s.grat.crystalWait = true → s.grat.detectAt + ms 2 ≤ s.now + dt →
    exec (.crystalStartupDone dt n) s =
      .next (let t := advance dt s
             { t with grat :=
               (if named n = some 0 ∨ named n = some 1 then
                 { t.grat with st := .searching, freq := (named n).getD 0, crystalWait := false }
               else { t.grat with st := .noReference, crystalWait := false }) })) ∧
  (∀ (dt w n : Nat) (s : State), s.phase ≠ .reset → s.grat.st = .noReference → s.grat.crystalWait = false →
    s.grat.detectAt + ms 100 ≤ s.now + dt →
    exec (.referenceDetectRetry dt ⟨w, n⟩) s =
      .next (let t := advance dt s; { t with grat := sought t.now w n t.grat })) ∧
  (∀ (dt w n : Nat) (s : State),
    (s.now + dt < s.grat.detectAt + ms 2 → exec (.crystalStartupDone dt n) s = .next (advance dt s)) ∧
    (s.now + dt < s.grat.detectAt + ms 100 → exec (.referenceDetectRetry dt ⟨w, n⟩) s = .next (advance dt s)))

/-- LOCK_DECLARED, LOSS_OF_LOCK, OUTPUTS_RETURN and LINK_PLL_HOLD_EXPIRY: the first lock, a loss of lock, and the way back
(R119).  Which band is the next higher one, that the searched band stays where no band holds both predictions, and that
control-margin is judged at every declared lock are the model's choices (notes/assumptions/46.md). -/
def Obligations.LockAndLossOfLock : Prop :=
  let held (errors : List Int) : Prop := 256 ≤ errors.length ∧ ∀ e ∈ errors.take 256, e.natAbs ≤ 200
  let band (s : State) (slow : List Bool) (measured : Nat) : Nat :=
    if controlHolds s measured 0 then searchedBand slow
    else if searchedBand slow < 31 ∧ controlHolds s measured 1 = true then searchedBand slow + 1
    else if 0 < searchedBand slow ∧ controlHolds s measured (-1) = true then searchedBand slow - 1
    else searchedBand slow
  let lost (errors : List Int) (off step : Int) : Prop :=
    (4 ≤ errors.length ∧ ∀ e ∈ errors.take 4, 1000 < e.natAbs) ∨ 500 < off.natAbs ∨ 200 < step.natAbs
  (∀ (dt measured control : Nat) (slow : List Bool) (errors : List Int) (s : State), slow.length = 5 → measured < 65536 →
    control < 65536 → held errors → s.grat.st = .searching → s.phase ≠ .reset →
    s.grat.crystalWait = false → s.grat.everLocked = false →
    ∃ t, exec (.lockDeclared dt ⟨slow, measured⟩ ⟨control, errors⟩) s = .next t ∧
      t.grat.st = .locked ∧ t.grat.everLocked = true ∧ t.grat.outputs = true ∧ t.grat.startOsc = false ∧
      t.grat.localTime = 0 ∧ t.grat.lb = 0 ∧ t.grat.vb = 0 ∧ t.grat.control = control ∧
      t.grat.band = band s slow measured ∧
      (control < 0x0CCD ∨ 0xF333 < control ↔ t.grat.controlMargin = true) ∧
      t.link.down = .training ∧ t.link.intended = 15 ∧ t.link.active = 0 ∧
      t = { advance dt s with grat := t.grat, link := t.link }) ∧
  (∀ (dt measured control : Nat) (slow : List Bool) (errors : List Int) (s : State), slow.length = 5 → measured < 65536 →
    control < 65536 → ¬held errors → exec (.lockDeclared dt ⟨slow, measured⟩ ⟨control, errors⟩) s = .next (advance dt s)) ∧
  (∀ (dt : Nat) (errors : List Int) (off step : Int) (s : State), ¬lost errors off step →
    exec (.lossOfLock ⟨dt, errors, off, step⟩) s = .next (advance dt s)) ∧
  (∀ (dt : Nat) (errors : List Int) (off step : Int) (s : State), s.grat.st = .relocking → s.grat.pulling = true →
    off.natAbs ≤ 500 → step.natAbs ≤ 200 → exec (.lossOfLock ⟨dt, errors, off, step⟩) s = .next (advance dt s)) ∧
  (∀ (dt : Nat) (errors : List Int) (off step : Int) (s : State), lost errors off step → s.grat.st = .locked →
    s.grat.pulling = false →
    ∃ t, exec (.lossOfLock ⟨dt, errors, off, step⟩) s = .next t ∧
      t.grat.st = .relocking ∧ t.grat.lockLost = true ∧ t.grat.outputs = false ∧ t.grat.startOsc = true ∧
      t.grat.clkOut = false ∧ t.grat.lockedAt = none ∧ t.grat.localTime = (advance dt s).grat.localTime ∧
      counterOf t .lockLoss = counterNext .lockLoss (counterOf s .lockLoss) 1 ∧
      t.seq.stopped = true ∧ t.seq.stop = stopDue 2 false s.seq ∧ t.calib.run = none ∧
      t = { advance dt s with grat := t.grat, seq := t.seq, calib := t.calib, nor := t.nor, log := t.log, pulses := t.pulses
                              chain := t.chain }) ∧
  (∀ (dt measured control : Nat) (slow : List Bool) (errors : List Int) (s : State), slow.length = 5 → measured < 65536 →
    control < 65536 → held errors → s.grat.st = .relocking →
    (s.grat.pulling = true → ∃ t, exec (.lockDeclared dt ⟨slow, measured⟩ ⟨control, errors⟩) s = .next t ∧ t.grat.st = .locked ∧
      t.grat.pulling = false ∧ t.grat.band = s.grat.band ∧ t = { advance dt s with grat := t.grat }) ∧
    (s.grat.pulling = false → s.grat.lockedAt = none →
      ∃ t, exec (.lockDeclared dt ⟨slow, measured⟩ ⟨control, errors⟩) s = .next t ∧ t.grat.st = .relocking ∧
        t.grat.lockedAt = some t.now ∧ t.grat.band = band s slow measured ∧
        t.grat.control = control ∧
        t.grat.outputs = s.grat.outputs ∧ t = { advance dt s with grat := t.grat }) ∧
    (∀ l, s.grat.pulling = false → s.grat.lockedAt = some l →
      exec (.lockDeclared dt ⟨slow, measured⟩ ⟨control, errors⟩) s = .next (advance dt s))) ∧
  (∀ (dt l : Nat) (s : State), s.grat.st = .relocking → s.grat.lockedAt = some l → l + ms 1 ≤ s.now + dt →
    ∃ t, exec (.outputsReturn dt) s = .next t ∧ t.grat.st = .locked ∧ t.grat.outputs = true ∧
      t.grat.startOsc = false ∧ t.grat.lockLost = s.grat.lockLost ∧ t.calib.recoveryDue = true ∧
      (s.link.restart = true → t.link.down = .training) ∧ (s.link.restart = false → t.link = s.link) ∧
      t = { advance dt s with grat := t.grat, calib := { s.calib with recoveryDue := true }, link := t.link }) ∧
  (∀ (dt h : Nat) (s : State), s.grat.st = .relocking → s.grat.pllHold = some h → h + ms 2 ≤ s.now + dt →
    ∃ t, exec (.linkPllHoldExpiry dt) s = .next t ∧ t.link.down = .off ∧ t.link.active = 0 ∧
      t.link.restart = true ∧ t = { advance dt s with link := t.link })

/-- REFERENCE_LOSS and REFERENCE_RETURN: Coasting and the way out of it. -/
def Obligations.ReferenceLossAndReturn : Prop :=
  (∀ (dt : Nat) (s : State), s.grat.st = .locked →
    ∃ t, exec (.referenceLoss dt) s = .next t ∧ t.grat.st = .coasting ∧
      t.grat.band = s.grat.band ∧ t.grat.control = s.grat.control ∧ t.grat.outputs = s.grat.outputs ∧
      t.grat.clkOut = s.grat.clkOut ∧ t.grat.lockLost = s.grat.lockLost ∧
      t.grat.localTime = (advance dt s).grat.localTime ∧
      counterOf t .refLoss = counterNext .refLoss (counterOf s .refLoss) 1 ∧
      t = { advance dt s with grat := t.grat, log := t.log }) ∧
  (∀ (dt edges : Nat) (ppm : Int) (s : State), s.grat.st = .coasting →
    (classifyEdges edges ≠ some s.grat.freq →
      ∃ t, exec (.referenceReturn dt edges ppm) s = .next t ∧ t.grat = (advance dt s).grat ∧
        counterOf t .refMismatch = counterNext .refMismatch (counterOf s .refMismatch) 1 ∧
        t = { advance dt s with log := t.log }) ∧
    (classifyEdges edges = some s.grat.freq → -500 ≤ ppm → ppm ≤ 500 →
      ∃ t, exec (.referenceReturn dt edges ppm) s = .next t ∧ t.grat.st = .relocking ∧ t.grat.pulling = true ∧
        t.grat.outputs = s.grat.outputs ∧ t.grat.lockLost = s.grat.lockLost ∧
        t = { advance dt s with grat := t.grat }) ∧
    (classifyEdges edges = some s.grat.freq → (ppm < -500 ∨ 500 < ppm) →
      ∃ t, exec (.referenceReturn dt edges ppm) s = .next t ∧ t.grat.st = .relocking ∧ t.grat.pulling = false ∧
        t.grat.lockLost = true ∧ t.grat.outputs = false ∧ t.seq.stopped = true))

/-- DIP_BEGIN, SUPPLY_RETURN_LEVEL, DIP_END and DIP_HOLD_RELEASE: a dip from the fall below warning to its end, and the hold
that a storm of dips enters.  Of several rails that fall at once the lowest names the dip, which is the model's choice
(notes/assumptions/18.md). -/
def Obligations.SupplyDips : Prop :=
  let falls (r : Nat) (fall : RailFall) : Prop := fall.levels.length = 6 ∧ ns 50 ≤ fall.lasts ∧ RailBelow 0 r fall.levels ∧
    (∀ q, q < 6 → RailAbove 2 q fall.levels) ∧ ∀ q, q < r → RailAbove 0 q fall.levels
  (∀ (dt r : Nat) (fall : RailFall) (s : State), falls r fall → s.phase ≠ .reset → s.supply.dip = false →
    ∃ t, exec (.dipBegin dt fall) s = .next t ∧
      t.supply.dip = true ∧ t.supply.returning = none ∧ t.supply.lastRail = r ∧ r ∈ t.supply.below ∧
      t.supply.levels = fall.levels ∧
      t.supply.dipTimes = s.supply.dipTimes.filter (fun x => decide (s.now + dt < x + sec 1)) ++ [s.now + dt] ∧
      (r = 0 → counterOf t .coreDips = counterNext .coreDips (counterOf s .coreDips) 1 ∧
        counterOf t .otherDips = counterOf s .otherDips) ∧
      (r ≠ 0 → counterOf t .otherDips = counterNext .otherDips (counterOf s .otherDips) 1 ∧
        counterOf t .coreDips = counterOf s .coreDips) ∧
      t.seq.dipStop = true ∧ t.seq.stop = stopDue 3 false s.seq ∧ t.calib.run = none ∧
      (t.seq.dipHoldDue = true ↔ s.seq.dipHoldDue = true ∨ 8 < t.supply.dipTimes.length) ∧
      PulsesCut (advance dt s) t ∧ (∀ x ∈ t.seq.shots, x ∈ s.seq.shots ∧ x.fire ≤ s.now + dt) ∧
      t = { advance dt s with free := t.free, supply := t.supply, seq := t.seq, calib := t.calib, nor := t.nor, log := t.log
                              pulses := t.pulses, chain := t.chain, banks := t.banks, chans := t.chans }) ∧
  (∀ (dt r : Nat) (fall : RailFall) (s : State), falls r fall → s.phase ≠ .reset → s.supply.dip = true →
    ∃ t, exec (.dipBegin dt fall) s = .next t ∧ r ∈ t.supply.below ∧ t.supply.levels = fall.levels ∧
      t = { advance dt s with free := t.free
                              supply := { s.supply with returning := none, below := t.supply.below, levels := t.supply.levels } }) ∧
  (∀ (dt : Nat) (fall : RailFall) (s : State), fall.levels.length = 6 → fall.lasts < ns 50 →
    exec (.dipBegin dt fall) s = .next (advance dt s) ∧ exec (.resetLevelFall dt fall) s = .next (advance dt s)) ∧
  (∀ (dt : Nat) (levels : List Nat) (s : State), levels.length = 6 → (∀ r, r < 6 → RailAbove 1 r levels) →
    s.supply.dip = true ∨ s.supply.por = true → s.supply.returning = none →
    ∃ t, exec (.supplyReturnLevel ⟨dt, levels⟩) s = .next t ∧
      t = { advance dt s with free := t.free
                              supply := { s.supply with below := [], levels := levels, returning := some (s.now + dt) } }) ∧
  (∀ (dt r : Nat) (s : State), s.supply.dip = true → s.supply.returning = some r →
    exec (.dipEnd dt) s = .next (
      if r + ms 1 ≤ s.now + dt then
        { advance dt s with supply := { s.supply with dip := false, returning := none, lastDipEnd := s.now + dt } }
      else advance dt s)) ∧
  (∀ (dt : Nat) (s : State), s.seq.dipHold = true → s.supply.dip = false →
    s.supply.lastDipEnd + sec 10 ≤ s.now + dt →
    ∃ t, exec (.dipHoldRelease dt) s = .next t ∧
      t = { advance dt s with
        seq := { s.seq with dipHold := false, returnDue := true }
        calib := { s.calib with recoveryDue := true }
        log := t.log })

/-- TIME_SYNC, SYNC_STALE and LOCAL_COUNTER_WRAP (R122 to R124).  `u` is the state that the receiver's checks leave.  What
becomes of a noted step at a second sample, and the stamp t2, are the model's choices (notes/assumptions/48.md,
notes/assumptions/10.md). -/
def Obligations.VehicleTime : Prop :=
  (∀ (dt : Nat) (codes : List Nat) (rd : Bool) (body : List Byte) (s u : State), Received 0x81 codes rd body (advance dt s) u →
    let t1 := leAt body 0 8
    let t2 := stampT2 (rxBytes (advance dt s) codes rd).length u
    let e : Int := ((t1 + leAt body 12 4 : Nat) : Int) - vehicleAt u.grat t2
    ((∀ p, u.grat.prevT1 = some p → p < t1) →
      ∃ t, exec (.timeSync dt codes rd) s = .next t ∧
        t.grat.lb = t2 ∧ vehicleAt t.grat t2 = vehicleAt u.grat t2 ∧
        t.grat.sync = 1 ∧ t.grat.lastSync = u.now ∧ t.grat.prevT1 = some t1 ∧
        -200000 ≤ t.grat.rho ∧ t.grat.rho ≤ 200000 ∧
        (u.grat.prevSample = none ∨ 1000000 < e.natAbs →
          t.grat.pendingStep = some e ∧ t.grat.sigma = 0 ∧ t.grat.slew = 0) ∧
        (u.grat.prevSample ≠ none ∧ e.natAbs ≤ 1000000 →
          t.grat.pendingStep = u.grat.pendingStep ∧ t.grat.slew = e ∧ t.grat.sigma = max (-100000) (min 100000 e)) ∧
        t = { u with grat := t.grat, link := t.link }) ∧
    (∀ p, u.grat.prevT1 = some p → t1 ≤ p →
      ∃ t, exec (.timeSync dt codes rd) s = .next t ∧
        counterOf t .timeSyncDiscarded = counterNext .timeSyncDiscarded (counterOf u .timeSyncDiscarded) 1 ∧
        t = { u with link := t.link, log := t.log })) ∧
  (∀ (dt : Nat) (s : State), s.grat.sync = 1 → s.grat.lastSync + sec 10 ≤ s.now + dt →
    ∃ t, exec (.syncStale dt) s = .next t ∧ t.grat.sync = 2 ∧ t.grat.sigma = 0 ∧ t.grat.rho = s.grat.rho ∧
      vehicleNow t = vehicleNow (advance dt s) ∧ t = { advance dt s with grat := t.grat }) ∧
  (∀ s : State, s.grat.everLocked = true → s.grat.startOsc = false → s.grat.localTime < 2 ^ 64 → s.grat.subTap < 20 →
    ∃ t, exec .localCounterWrap s = .next t ∧ t.grat.localTime % 2 ^ 48 = 0 ∧ t.grat.subTap = 0 ∧
      t.grat.localTime = (s.grat.localTime / 2 ^ 48 + 1) * 2 ^ 48 % 2 ^ 64 ∧
      t.grat = { s.grat with localTime := t.grat.localTime, subTap := 0 } ∧
      t = { s with now := t.now, grat := t.grat }) ∧
  (∀ s : State, s.grat.everLocked = true → s.grat.startOsc = true → s.grat.localTime < 2 ^ 64 → s.grat.oscPhase < 80000000 →
    ∃ t, exec .localCounterWrap s = .next t ∧ t.grat.localTime % 2 ^ 48 < 4 ∧
      t.grat.localTime / 2 ^ 48 = (s.grat.localTime / 2 ^ 48 + 1) % 2 ^ 16 ∧
      t.grat = { s.grat with localTime := t.grat.localTime, oscPhase := t.grat.oscPhase } ∧
      t = { s with now := t.now, free := t.free, grat := t.grat })
/-- UPSTREAM_STAGE, UPSTREAM_STAGE_TIMEOUT, SYMBOL_LOCK_LOSS, LOSS_OF_SIGNAL and UPSTREAM_SLEEP: the device's receiver
(R213 to R215, R219). -/
def Obligations.ReceiverStages : Prop :=
  let back (n now : Nat) (l : Link) : Link :=
    { l with stage := n, stageAt := now, confirmed := false, leftAt := if l.stage = 8 then now else l.leftAt }
  (∀ (dt clearNs : Nat) (sets : List (List Nat)) (s : State), upTested s = false →
    let read := if s.link.inverted then sets.map (·.map invertCode) else sets
    ∃ t, exec (.upstreamStage dt ⟨clearNs, sets⟩) s = .next t ∧
    (s.link.stage = 1 → t.link.stage = if 10000 ≤ clearNs then 2 else 1) ∧
    (s.link.stage = 2 → t.link.stage = if 20000 ≤ clearNs then 3 else 2) ∧
    (s.link.stage = 3 → 3 ≤ read.length → (∀ w ∈ read.drop (read.length - 3), readAny (w.getD 0 0) = some comma) →
      t.link.stage = 4 ∧ t.link.inverted = s.link.inverted) ∧
    (4 ≤ s.link.stage → s.link.stage < 8 → lastFour d102 read = true → s.link.corrected = false →
      t.link.stage = 4 ∧ t.link.inverted = !s.link.inverted ∧ t.link.corrected = true) ∧
    (4 ≤ s.link.stage → s.link.stage < 8 → lastFour d215 read = true →
      t.link.stage = 8 ∧ t.link.inverted = s.link.inverted ∧ t.link.confirmed = false) ∧
    (8 ≤ s.link.stage → 8 ≤ read.length → (∀ w ∈ read.drop (read.length - 8), isIdlOrUts w = true) →
      t.link.stage = s.link.stage ∧ t.link.confirmed = true) ∧
    t = { advance dt s with link := { s.link with
      stage := t.link.stage, stageAt := t.link.stageAt, inverted := t.link.inverted, corrected := t.link.corrected
      confirmed := t.link.confirmed, upAsleep := t.link.upAsleep
      downDeclared := t.link.downDeclared } }) ∧
  (∀ (dt : Nat) (s : State), upTested s = false → 2 ≤ s.link.stage → s.link.confirmed = false →
    s.link.stageAt + stageTimeout s.link.stage ≤ s.now + dt →
    ∃ t, exec (.upstreamStageTimeout dt) s = .next t ∧
      t = count .bringUpFailures 1 { advance dt s with link := { back 1 (s.now + dt) s.link with
        upAsleep := false, leftAt := t.link.leftAt } } ∧
      (s.link.stage = 8 → t.link.leftAt = s.now + dt)) ∧
  (∀ (dt : Nat) (before codes : List Nat) (s : State), upTested s = false → 4 ≤ s.link.stage → codes.length ≤ 256 →
    (8 ≤ (rxAfter (rxCodes s before) (rxCodes s codes)).violations ∨ 2 ≤ (rxAfter (rxCodes s before) (rxCodes s codes)).offWord) →
    exec (.symbolLockLoss ⟨dt, before, codes⟩) s = .next { advance dt s with link := back 3 (s.now + dt) s.link }) ∧
  (∀ (dt lostNs : Nat) (lockLost : Bool) (s : State), upTested s = false → 2 ≤ s.link.stage →
    (lockLost = true ∨ 1000 ≤ lostNs) →
    exec (.lossOfSignal ⟨dt, lostNs, lockLost⟩) s = .next { advance dt s with link := back 1 (s.now + dt) s.link }) ∧
  (∀ (dt n : Nat) (s : State), upTested s = false → 2 ≤ s.link.stage →
    exec (.upstreamSleep dt n) s =
      .next { advance dt s with link := { back 1 (s.now + dt) s.link with upAsleep := decide (2 ≤ n) } })

/-- UTS, TRAINING_TIMEOUT and WIDTH_RISE: the lane report of R216 and what it brings about.  The instant of the first training
word after a time-out is the model's choice (notes/assumptions/44.md). -/
def Obligations.TrainingAndWidth : Prop :=
  (∀ (dt : Nat) (st : Byte) (s : State), s.link.stage = 8 → upTested s = false →
    ((if s.link.st.1 = st.toNat then s.link.st.2 + 1 else 1) < 4 ∨ s.link.acted = st.toNat ∨
        (s.link.down = .training ∧ downNow (advance dt s) ≠ .training) →
      ∃ n, exec (.uts dt st) s = .next { advance dt s with link := { s.link with st := (st.toNat, n) } }) ∧
    (s.link.st.1 = st.toNat → 3 ≤ s.link.st.2 → s.link.acted ≠ st.toNat →
      (s.link.down = .training → downNow (advance dt s) = .training) →
      ∃ t, exec (.uts dt st) s = .next t ∧ t.link.good = st.toNat / 16 ∧ t.link.acted ∈ [st.toNat, 256] ∧
        (s.link.down = .training → st.toNat / 8 % 2 = 1 → st.toNat / 16 &&& s.link.intended ≠ 0 →
          t.link.down = .data ∧ t.link.active = st.toNat / 16 &&& s.link.intended) ∧
        ((s.link.down = .data ∨ s.link.down = .asleep) → s.link.active &&& (st.toNat / 16) ≠ 0 →
          s.link.active &&& (st.toNat / 16) ≠ s.link.active →
          t.link.down = .training ∧ t.link.intended = s.link.active &&& (st.toNat / 16) ∧
            t.link.trainAt = max (s.now + dt) s.link.busyUntil ∧
            counterOf t .retrains = counterNext .retrains (counterOf s .retrains) 1) ∧
        ((s.link.down = .data ∨ s.link.down = .asleep) → s.link.active &&& (st.toNat / 16) = 0 →
          t.link.down = .training ∧ t.link.intended = 15 ^^^ s.link.tested ∧ t.link.active = 0 ∧
            t.link.trainAt = max (s.now + dt) s.link.busyUntil) ∧
        t = { advance dt s with link := t.link, log := t.log })) ∧
  (∀ (dt : Nat) (s : State), s.link.down = .training →
    (s.link.trainAt + ms 20 ≤ s.now + dt →
      ∃ t, exec (.trainingTimeout dt) s = .next t ∧ t.link.down = .training ∧ t.link.intended = 15 ∧ t.link.active = 0 ∧
        t.link.trainAt = s.now + dt + us 300 ∧
        counterOf t .trainingTimeouts = counterNext .trainingTimeouts (counterOf s .trainingTimeouts) 1 ∧
        t = { advance dt s with link := t.link, log := t.log }) ∧
    (s.now + dt < s.link.trainAt + ms 20 → exec (.trainingTimeout dt) s = .next (advance dt s))) ∧
  (∀ (dt m since : Nat) (s : State), s.link.rising = some (m, since) →
    exec (.widthRise dt) s = .next (
      if since + sec 1 ≤ s.now + dt then
        { advance dt s with link := { s.link with riseDue := m, rising := none } }
      else advance dt s))

/-- LINK_DOWN (R238).  That no link is declared down before it was ready once, and that an upstream lane test is no loss of the
upstream, are the model's choices (notes/assumptions/9.md, notes/assumptions/44.md). -/
def Obligations.LinkDownDiscardsPending : Prop :=
  (∀ (dt : Nat) (s : State), s.link.downDeclared = false →
    ((s.link.stage ≠ 8 ∧ s.link.upAsleep = false ∧ upTested s = false ∧
        s.link.leftAt + ms 1 ≤ s.now + dt) ∨
      (linkWidth s = 0 ∧ s.link.down ≠ .test ∧ s.link.zeroAt + ms 1 ≤ s.now + dt)) →
    ∃ t, exec (.linkDown dt) s = .next t ∧
      t.link.q1 = [] ∧ t.link.q2 = [] ∧ t.link.q3 = [] ∧ t.link.q4 = [] ∧ t.link.q5 = [] ∧ t.dma.snapshots = [] ∧
      counterOf t .discardedLinkDown = counterNext .discardedLinkDown (counterOf s .discardedLinkDown)
        (s.link.q1.length + s.link.q2.length + s.link.q3.length + s.link.q4.length + s.link.q5.length +
          s.dma.snapshots.length) ∧
      counterOf t .linkDowns = counterNext .linkDowns (counterOf s .linkDowns) 1 ∧
      t.link.stage = 1 ∧ t.link.downDeclared = true ∧
      t.sec = { s.sec with session := none, old := [], hello := none, next := none } ∧
      t.recd = { s.recd with readout := none } ∧ (∀ o ∈ t.contour.sheets, o.session = none) ∧
      t = { advance dt s with
        link := t.link, sec := t.sec, recd := t.recd, contour := t.contour, survey := t.survey, log := t.log
        dma := { s.dma with snapshots := [] } }) ∧
  (∀ (dt : Nat) (s : State), s.link.downDeclared = true → exec (.linkDown dt) s = .next (advance dt s))

/-- PACKET_TRANSMIT, ALIGNMENT_MARKER, DOWNSTREAM_SLEEP and UPSTREAM_PACKET_DISCARD: what leaves the device, and what it
discards on arrival.  That a packet which fails a check takes a token is the model's choice (notes/assumptions/9.md). -/
def Obligations.PacketsLeaveInOrder : Prop :=
  (∀ (dt : Nat) (p : Pkt) (s : State), s.link.down = .data ∨ s.link.down = .asleep → s.link.active ≠ 0 →
    s.link.busyUntil ≤ s.now + dt → s.recd.readout = none →
    ((∃ r, s.link.q1 = p :: r) ∨ (s.link.q1 = [] ∧ ∃ r, s.link.q2 = p :: r) ∨
      (s.link.q1 = [] ∧ s.link.q2 = [] ∧ ∃ r, s.link.q3 = p :: r) ∨
      (s.link.q1 = [] ∧ s.link.q2 = [] ∧ s.link.q3 = [] ∧ streamMayGo (advance dt s) p = true ∧
        ∃ r, s.link.q4 = p :: r) ∨
      (s.link.q1 = [] ∧ s.link.q2 = [] ∧ s.link.q3 = [] ∧ s.link.q4 = [] ∧ s.sec.session ≠ none ∧
        ∃ r, s.link.q5 = p :: r)) →
    ∃ t n tagged rest, exec (.packetTransmit dt) s = .next t ∧
      t.link.sent = some { bytes := withCrc (header p.type n s.link.seqDown tagged ++ rest),
                           lanes := popcount 4 s.link.active } ∧
      t.link.down = .data ∧
      (s.link.down = .data → t.link.line = onLanes s.link.active (fun k =>
        packetSyms (popcount 4 s.link.active) k (withCrc (header p.type n s.link.seqDown tagged ++ rest))) ++
          trainingLine s.link.am s.link.others) ∧
      t.link.seqDown = (s.link.seqDown + 1) % 65536 ∧ s.now + dt ≤ t.link.busyUntil ∧
      t.link.q1 = s.link.q1.tail ∧ (s.link.q1 ≠ [] → t.link.q2 = s.link.q2) ∧
      (s.link.q1 = [] → t.link.q2 = s.link.q2.tail) ∧
      t = { advance dt s with
        link := t.link, sec := t.sec, contour := t.contour, survey := t.survey, dma := t.dma, log := t.log }) ∧
  (∀ (dt : Nat) (s : State), s.recd.readout = none →
    (s.link.q1 = [] ∧ s.link.q2 = [] ∧ s.link.q3 = [] ∧ s.link.q4 = [] ∧ s.link.q5 = []) ∨
      s.now + dt < s.link.busyUntil →
    exec (.packetTransmit dt) s = .next (advance dt s)) ∧
  (∀ (dt : Nat) (s : State), s.link.down = .data → s.link.active ≠ 0 → s.link.busyUntil ≤ s.now + dt →
    s.link.amAt + symTaps 16384 ≤ s.now + dt →
    exec (.alignmentMarker dt) s = .next { advance dt s with link := { s.link with
      am := (s.link.am + 1) % 256, amAt := s.now + dt, busyUntil := s.now + dt + symTaps 4
      line := onLanes s.link.active (fun _ => amSet s.link.am) ++ trainingLine s.link.am s.link.others } }) ∧
  (∀ (dt : Nat) (s : State), s.link.down = .data → s.link.idle = true → (∀ o ∈ s.contour.sheets, o.session = none) →
    s.link.q1 = [] → s.link.q2 = [] → s.link.q3 = [] → s.link.q4 = [] → s.link.q5 = [] →
    s.link.busyUntil ≤ s.now + dt → (trailerSent s.link = true ∨ s.link.busyUntil + us 100 ≤ s.now + dt) →
    exec (.downstreamSleep dt) s = .next { advance dt s with link := { s.link with
      down := .asleep
      line := onLanes s.link.active (fun _ => slpSet) ++ trainingLine s.link.am s.link.others } }) ∧
  (∀ (dt : Nat) (codes : List Nat) (rd : Bool) (s : State), s.link.stage = 8 → s.link.plan = 0 →
    (refilled (advance dt s)).1 ≠ 0 → rxWellFormed (rxBytes s codes rd) (rxViol s codes rd) = false →
    exec (.upstreamPacketDiscard dt codes rd) s =
      .next (count .upDiscarded 1 { advance dt s with link := { s.link with
        tokens := (refilled (advance dt s)).1 - 1, refill := (refilled (advance dt s)).2 } }))

/-- LANE_TEST_START, CHECKER_SYNC, CHECKER_SYNC_LOSS and LANE_TEST_END (R239, R240).  How tested lanes come back, and that
CHECKER_SYNC_LOSS with fewer errors only reports them, are the model's choices (notes/assumptions/44.md). -/
def Obligations.LaneTests : Prop :=
  let planned (s : State) (p : Nat) : Nat := bits 3 0 (Table.getD {} s.legend.plans p).lanes
  (∀ (dt : Nat) (s : State), s.link.testDue = true → s.phase = .mode → s.seq.mode = 6 → linkReady s = true →
    s.link.q1 = [] → s.link.q2 = [] → s.link.q3 = [] → s.link.q4 = [] → s.link.q5 = [] → s.link.busyUntil ≤ s.now + dt →
    ∃ t, exec (.laneTestStart dt) s = .next t ∧
      (∀ i, i < 5 → counterOf t (.checkerErrors i) = 0 ∧ counterOf t (.checkerBits i) = 0 ∧
        counterOf t (.checkerSyncLosses i) = 0) ∧
      t.link.active = s.link.active &&& (15 ^^^ planned s s.seq.plan) ∧ t.link.tested = planned s s.seq.plan ∧
      t.link.down = (if t.link.active = 0 then .test else s.link.down) ∧
      t = { advance dt s with
        link := { s.link with
          testDue := false, plan := s.seq.plan, down := t.link.down, checkers := [], testAt := s.now + dt
          active := t.link.active, tested := t.link.tested, riseDue := t.link.riseDue, rising := t.link.rising
          others := s.link.others &&& (15 ^^^ planned s s.seq.plan) }
        log := t.log }) ∧
  (∀ (dt lane : Nat) (l : List Bool) (s : State), lane < 5 → checkerUsed s lane = true →
    checkerGains (if lane = 4 then (planNow s).patUp else (planNow s).patDown) l = true →
    (Table.getD {} s.link.checkers lane).sync = false →
    exec (.checkerSync dt ⟨lane, l⟩) s =
      .next { advance dt s with link := { s.link with
        checkers := Table.put s.link.checkers lane { sync := true, since := s.now + dt } } }) ∧
  (∀ (dt lane e : Nat) (wrong : List Nat) (s : State), lane < 5 → checkerUsed s lane = true →
    (Table.getD {} s.link.checkers lane).sync = true →
    (64 ≤ wrong.length ∧ wrong.getLastD 0 < wrong.getD (wrong.length - 64) 0 + 1024) →
    ∃ t, exec (.checkerSyncLoss dt lane e wrong) s = .next t ∧
      counterOf t (.checkerSyncLosses lane) =
        counterNext (.checkerSyncLosses lane) (counterOf s (.checkerSyncLosses lane)) 1 ∧
      counterOf t (.checkerBits lane) =
        counterNext (.checkerBits lane) (counterOf s (.checkerBits lane)) (checkerRun (advance dt s) lane).1 ∧
      counterOf t (.checkerErrors lane) =
        counterNext (.checkerErrors lane) (counterOf s (.checkerErrors lane)) ((checkerRun (advance dt s) lane).2 + e) ∧
      Table.getD {} t.link.checkers lane = { sync := false, since := s.now + dt } ∧
      t = { advance dt s with link := { s.link with checkers := t.link.checkers }, log := t.log }) ∧
  (∀ (dt lane e : Nat) (wrong : List Nat) (s : State), lane < 5 → checkerUsed s lane = true →
    (Table.getD {} s.link.checkers lane).sync = true → wrong.length < 64 →
    ∃ t, exec (.checkerSyncLoss dt lane e wrong) s = .next t ∧
      counterOf t (.checkerSyncLosses lane) = counterOf s (.checkerSyncLosses lane) ∧
      counterOf t (.checkerErrors lane) =
        counterNext (.checkerErrors lane) (counterOf s (.checkerErrors lane)) ((checkerRun (advance dt s) lane).2 + e) ∧
      Table.getD {} t.link.checkers lane = { sync := true, since := s.now + dt } ∧
      t = { advance dt s with link := { s.link with checkers := t.link.checkers }, log := t.log }) ∧
  (∀ (dt : Nat) (errors : List (Nat × Nat)) (s : State), (∀ c ∈ errors, c.1 < 5) → s.link.plan ≠ 0 →
    s.link.testAt + sec (planNow s).duration ≤ s.now + dt →
    ∃ t, exec (.laneTestEnd dt errors) s = .next t ∧ t.link.plan = 0 ∧ t.sec = s.sec ∧ t.link.tested = 0 ∧
      (s.link.tested = 0 → t.link.down = s.link.down ∧ counterOf t .retrains = counterOf s .retrains) ∧
      (s.link.tested ≠ 0 → counterOf t .retrains = counterNext .retrains (counterOf s .retrains) 1 ∧
        (s.link.down = .test → t.link.down = .training ∧ t.link.intended = s.link.tested ∧ t.link.active = s.link.tested) ∧
        (s.link.down ≠ .test → t.link.down = s.link.down ∧ t.link.active = s.link.active ∧
          t.link.others = s.link.others ||| s.link.tested)) ∧
      t = { advance dt s with link := t.link, log := t.log })
/-- HALL_EDGE and SYNC_IN_EDGE: the bearing clock and the camera's edges.  That the 1 % band is judged on the implied rate, and
that the reference edge is the one at count 0, are the model's choices (notes/assumptions/40.md, notes/assumptions/22.md).
The third disagreement in a row is stated with the motor faults. -/
def Obligations.HallAndCameraEdges : Prop :=
  (∀ (dt observer : Nat) (code : BitVec 3) (s : State), s.phase ≠ .reset → code ≠ 0 → code ≠ 7 → s.motor.disagree < 2 →
    ∃ t, exec (.hallEdge dt code observer) s = .next t ∧
      t.motor.hall = code ∧ t.motor.lastEdge = some (s.now + dt) ∧
      t.motor.interval = (match s.motor.lastEdge with | none => 0 | some e => s.now + dt - e) ∧
      t.motor.cycle = nextCycle s s.motor.cycle code ∧
      (t.motor.settled = true ↔ s.motor.settled = true ∨
        (s.phase = .spinUp ∧ 15 ≤ s.motor.settleRun ∧ t.motor.interval ≠ 0 ∧
          rateWithin s t.motor.interval 99 101 = true)) ∧
      t = { advance dt s with motor := t.motor, safety := { s.safety with msgDue := t.safety.msgDue }, log := t.log }) ∧
  (∀ (dt : Nat) (rising : Bool) (s : State), s.image.accepted = true → s.legend.scan.sync = true →
    rising = !s.legend.scan.edgeFalling →
    exec (.syncInEdge dt rising) s = .next { advance dt s with seq := { s.seq with camera := { s.seq.camera with
      edge := if s.seq.camera.count = 0 then some (s.now + dt) else s.seq.camera.edge,
      count := (s.seq.camera.count + 1) % max s.legend.scan.divider 1,
      sinceBn := s.seq.camera.sinceBn + 1 } } })

/-- HALL_INVALID, STALL_TIMEOUT, OVERCURRENT and the third disagreement at HALL_EDGE: the motor faults of Table 2.3.  That the
run of disagreements ends at half of setpoint or below is the model's choice (notes/assumptions/40.md). -/
def Obligations.MotorFaultsStopTheDevice : Prop :=
  (∀ (dt : Nat) (code : BitVec 3) (s : State), s.phase ≠ .reset → torqueOn s = true → (code = 0 ∨ code = 7) →
    ∃ t, exec (.hallInvalid dt code) s = .next t ∧ (∀ d, StoppedBy s t d 5 ∧ (sideOf t d).motEn = false) ∧
      t.motor.fault = true ∧ counterOf t .hallInvalid = counterNext .hallInvalid (counterOf s .hallInvalid) 1 ∧
      SafeStopFrame (advance dt s) t) ∧
  (∀ (dt : Nat) (s : State), s.phase ≠ .reset → stalled (advance dt s) = true →
    ∃ t, exec (.stallTimeout dt) s = .next t ∧ (∀ d, StoppedBy s t d 5) ∧ t.motor.fault = true ∧
      counterOf t .stall = counterNext .stall (counterOf s .stall) 1 ∧ SafeStopFrame (advance dt s) t) ∧
  (∀ (dt : Nat) (s : State), s.phase ≠ .reset → torqueOn s = true →
    ∃ t, exec (.overcurrent dt) s = .next t ∧ (∀ d, StoppedBy s t d 5) ∧ t.motor.fault = true ∧
      counterOf t .overcurrent = counterNext .overcurrent (counterOf s .overcurrent) 1 ∧
      SafeStopFrame (advance dt s) t) ∧
  (∀ (dt e observer : Nat) (code : BitVec 3) (s : State), s.phase ≠ .reset → code ≠ 0 → code ≠ 7 → s.motor.disagree = 2 →
    s.motor.lastEdge = some e → e < s.now + dt → s.now + dt - e < 2 * hallSetpoint s →
    10 * s.legend.scan.observerTol < angleDiff observer (600 * (Config.hallSector code.toNat % 6)) →
    ∃ t, exec (.hallEdge dt code observer) s = .next t ∧ (∀ d, StoppedBy s t d 5) ∧ t.motor.fault = true ∧
      t.motor.disagree = 0 ∧ t.motor.hall = code ∧
      counterOf t .posDisagree = counterNext .posDisagree (counterOf s .posDisagree) 1 ∧
      SafeStopFrame (advance dt s) t)
/-- SHEET_BOUNDARY and TIMING_ONLY_BOUNDARY: what a boundary does to the sequencer, and the codes of the coming sheet.  The gaps
of Safe stop are the model's choice (notes/assumptions/42.md). -/
def Obligations.BoundariesOpenSheets : Prop :=
  (∀ (dt : Nat) (s : State), boundaryReached (advance dt s) = true → sheetOpens s = true →
    ∃ t, exec (.sheetBoundary dt) s = .next t ∧
      t.seq.sheet = (s.seq.sheet + 1) % 2 ^ 32 ∧ t.seq.sheetOpen = true ∧ t.seq.period = none ∧ t.seq.slot = 0 ∧
      t.seq.bn = clockBn (advance dt s) ∧ t.now = s.now + dt ∧ t.seq.active1 = !s.seq.active1 ∧
      (if t.seq.active1 then t.seq.buf1.1 else t.seq.buf0.1) = t.seq.mode ∧
      (sheetState t).mode = t.seq.mode ∧ t.grat.pendingStep = none ∧ t.grat.stepApplied = s.grat.pendingStep ∧
      (t.phase = .mode ∨ t.phase = .safeStop) ∧
      (∀ y ∈ t.pulses, ∃ x ∈ s.pulses, x.bank = y.bank ∧ x.at_ = y.at_ ∧ y.width ≤ x.width) ∧
      (∀ x, s.thermal.tj = some x → s.legend.scan.rs ≤ s.thermal.sinceStep + 1 →
        t.thermal.throttle = (if 480 ≤ x ∧ s.thermal.throttle < 13 then s.thermal.throttle + 1
          else if x ≤ 460 then s.thermal.throttle - 1 else s.thermal.throttle)) ∧
      (s.thermal.sinceStep + 1 < s.legend.scan.rs → t.thermal.throttle = s.thermal.throttle) ∧
      (let v := sheetState t
       let m := modeTable s t.seq.mode
       let k := fireTable s t.seq.mode
       v.cap ≤ m.q ∧ v.cap ≤ throttleCap m t.thermal.throttle ∧
       (throttleBoostOff m t.thermal.throttle = true → v.boost = false) ∧
       (∀ g ∈ throttleGroups s m t.thermal.throttle, bit g v.groups = false) ∧
       ∀ b, b < 32 → bit b v.banks = true →
        (tableCodeOf k m v.cap b = none → (bankOf t b).fired = false) ∧
        ∀ c, tableCodeOf k m v.cap b = some c →
          (bankOf t b).fired = true ∧ (bankOf t b).tableCode = some c ∧
          (bankOf t b).rampCode = rampCode (Table.getD 0 v.rampOrigin b) c (Table.getD 0 v.rampK b) s.legend.scan.rampLen ∧
          ((bankOf s b).fired = false → Table.getD 0 v.rampK b = 1 ∧ Table.getD 0 v.rampOrigin b = 255) ∧
          ((bankOf s b).fired = true → (bankOf s b).tableCode ≠ some c →
            Table.getD 0 v.rampK b = 1 ∧ Table.getD 0 v.rampOrigin b = (bankOf s b).rampCode) ∧
          min 255 (bankOf t b).rampCode ≤ (bankOf t b).code ∧ (bankOf t b).code ≤ 255 ∧
          ((bankOf t b).code = 255 ∨ ∃ n, cellShots k m v.cap b ≤ n ∧
            withinEnergy s m b (greatestWidth k m v.cap b) n (bankOf t b).code = true))) ∧
  (∀ (dt : Nat) (s : State), boundaryReached (advance dt s) = true → s.phase = .spinUp → s.motor.settled = true →
    sheetOpens s = false → (0 < s.seq.timingBoundaries ∨ s.motor.settledAt ≤ clockBn (advance dt s)) →
    ∃ t, exec (.timingOnlyBoundary dt) s = .next t ∧ t.phase = .spinUp ∧
      t.seq.timingBoundaries = s.seq.timingBoundaries + 1 ∧ t.seq.bn = clockBn (advance dt s) ∧ t.seq.period = none ∧
      t.seq.sheet = s.seq.sheet ∧ t.seq.sheetOpen = s.seq.sheetOpen ∧ t.seq.mode = s.seq.mode ∧
      t.seq.reg0 = s.seq.reg0 ∧ t.seq.reg1 = s.seq.reg1 ∧ t.seq.latch = s.seq.latch ∧
      t.contour = s.contour ∧ t.pulses = s.pulses ∧
      (s.link.riseDue = 0 → t.link = s.link) ∧
      (s.link.down = .data → s.link.riseDue &&& s.link.good ≠ 0 → t.link.down = .training ∧
        t.link.intended = s.link.active ||| (s.link.riseDue &&& s.link.good)) ∧
      (∀ e, engineOf t e = { engineOf s e with tested := false }) ∧
      t.survey = { s.survey with engines := t.survey.engines }) ∧
  (∀ (dt : Nat) (s : State), s.phase = .safeStop → stopGapDue (advance dt s) = true →
    ∃ t, exec (.timingOnlyBoundary dt) s = .next t ∧ t.phase = .safeStop ∧ t.seq.sheetOpen = false ∧
      t.seq.timingBoundaries = s.seq.timingBoundaries + 1 ∧ t.seq.bn = clockBn (advance dt s) ∧
      t.seq.sheet = s.seq.sheet ∧ t.seq.mode = s.seq.mode ∧ t.pulses = s.pulses) ∧
  (∀ (dt : Nat) (s : State), boundaryReached (advance dt s) = false ∨
      (s.phase = .spinUp ∧ s.seq.timingBoundaries = 0 ∧ clockBn (advance dt s) < s.motor.settledAt) →
    exec (.timingOnlyBoundary dt) s = .next (advance dt s))

/-- SHEET_BOUNDARY: the order of R297, seen in the mode that the boundary leaves. -/
def Obligations.ModeOfTheComingSheet : Prop :=
  ∀ (dt : Nat) (s : State), boundaryReached (advance dt s) = true → sheetOpens s = true →
    ∃ t, exec (.sheetBoundary dt) s = .next t ∧
      ((s.seq.biasHoldDue = true ∧ s.seq.biasHold = false) ∨ (s.seq.dipHoldDue = true ∧ s.seq.dipHold = false) →
        t.seq.mode = 5) ∧
      (s.seq.biasHoldDue = true → t.seq.biasHold = true) ∧ (s.seq.dipHoldDue = true → t.seq.dipHold = true) ∧
      (∀ r, s.phase = .mode → s.seq.mode ≠ 6 → s.seq.biasHoldDue = false → s.seq.dipHoldDue = false →
        s.seq.biasHold = false → s.seq.dipHold = false → s.seq.latch = some r → r.arrival + us 1 < clockBn (advance dt s) →
        (r.mode = 6 → depotKey s = true) → transitionAllowed s.seq.mode r.mode = true →
        t.seq.mode = r.mode ∧ t.seq.latch = none) ∧
      (∀ at_, s.phase = .mode → s.seq.mode = 6 → s.seq.keyWithdrawn = some at_ → at_ + us 1 < clockBn (advance dt s) →
        t.seq.mode = 5 ∧ t.seq.keyWithdrawn = none) ∧
      (s.phase = .mode → s.seq.mode ≠ 0 → s.seq.mode ≠ 6 → s.seq.biasHoldDue = false → s.seq.dipHoldDue = false →
        s.seq.biasHold = false → s.seq.dipHold = false → s.seq.latch = none → s.seq.returnDue = true →
        s.seq.returnMode ≠ 0 →
        t.seq.returnDue = false ∧ t.seq.returnMode = 0 ∧
        t.seq.mode = (if modeDeclared s s.seq.returnMode = true ∧ transitionAllowed s.seq.mode s.seq.returnMode = true ∧
            (s.seq.returnMode = 6 → depotKey s = true) then s.seq.returnMode else s.seq.mode)) ∧
      (s.phase = .mode → s.seq.mode ≠ 0 → s.seq.mode ≠ 6 → s.seq.biasHoldDue = false → s.seq.dipHoldDue = false →
        s.seq.returnDue = false → s.seq.latch = none → t.seq.mode = s.seq.mode) ∧
      (s.phase = .spinUp → s.seq.biasHoldDue = false → s.seq.dipHoldDue = false → s.seq.biasHold = false →
        s.seq.dipHold = false → s.seq.latch = none →
        t.seq.mode = (if s.seq.returnIdle then 5 else if modeDeclared s 1 then 1 else if modeDeclared s 2 then 2
          else if modeDeclared s 3 then 3 else 5))

/-- MODE_REQUEST on an accepted body; `u` is the state the receiver's checks leave. -/
def Obligations.ModeRequests : Prop :=
  ∀ (dt : Nat) (codes : List Nat) (rd : Bool) (body : List Byte) (s u : State), Received 0x82 codes rd body (advance dt s) u →
    let m := bits 55 53 (leAt body 0 8)
    let plan := bits 52 50 (leAt body 0 8)
    (requestable u m = false → ∃ t, exec (.modeRequest dt codes rd) s = .next t ∧ t.seq.lastResult = 4 ∧
      t.seq.latch = u.seq.latch ∧ t.phase = u.phase ∧
      counterOf t .requestsRefused = counterNext .requestsRefused (counterOf u .requestsRefused) 1) ∧
    (requestable u m = true → m = 6 → plan ≠ 0 → tableHas u.legend.plans plan = false →
      ∃ t, exec (.modeRequest dt codes rd) s = .next t ∧ t.seq.lastResult = 5 ∧ t.seq.latch = u.seq.latch ∧ t.phase = u.phase ∧
        counterOf t .requestsRefused = counterNext .requestsRefused (counterOf u .requestsRefused) 1) ∧
    (requestable u m = true → (m = 6 → plan = 0 ∨ tableHas u.legend.plans plan = true) → u.phase ≠ .safeStop →
      ∃ t, exec (.modeRequest dt codes rd) s = .next t ∧
        t.seq.latch = some (requestOf body u) ∧ (requestOf body u).mode = m ∧ (requestOf body u).arrival = u.now ∧
        (u.seq.latch ≠ none → t.seq.lastResult = 1) ∧ t.phase = u.phase ∧ t.seq.mode = u.seq.mode) ∧
    (requestable u m = true → u.phase = .safeStop → m = 5 → exitReady u = true →
      ∃ t, exec (.modeRequest dt codes rd) s = .next t ∧ t.phase = .spinUp ∧ t.seq.lastResult = 0 ∧
        t.seq.returnIdle = true ∧ t.motor.settled = false ∧
        ∀ d, (sideOf t d).stopped = false ∧ (sideOf t d).causes = [] ∧ (sideOf t d).notice = false ∧
          (sideOf t d).motEn = true) ∧
    (requestable u m = true → u.phase = .safeStop → (m ≠ 5 ∨ exitReady u = false) →
      (m = 6 → plan = 0 ∨ tableHas u.legend.plans plan = true) →
      ∃ t, exec (.modeRequest dt codes rd) s = .next t ∧ t.seq.lastResult = 2 ∧ t.phase = .safeStop ∧
        counterOf t .requestsRefused = counterNext .requestsRefused (counterOf u .requestsRefused) 1)

/-- EXCHANGE_TIMEOUT, NOTICE_LINE, SPEED_WINDOW_TIMEOUT, SAFETY_SENSOR_READ, SOUT_READBACK, SOUT_TEST_SAMPLE,
SAFETY_SELF_TEST_FAILURE and GATE_TEST: triggers of R326 that a channel finds on its own, and what these commands do where
nothing is wrong. -/
def Obligations.ChannelTriggersStopTheDevice : Prop :=
  (∀ (dt : Nat) (d : Side) (s : State), s.phase ≠ .reset → (sideOf s d).lastWord + us 1250 ≤ s.now + dt →
    ∃ t, exec (.exchangeTimeout dt d) s = .next t ∧ StoppedBy s t d 2 ∧ SafeStopFrame (advance dt s) t) ∧
  (∀ (dt : Nat) (d : Side) (s : State), s.phase ≠ .reset → (sideOf s (otherSide d)).notice = true →
    (sideOf s d).stopped = false →
    ∃ t, exec (.noticeLine dt d) s = .next t ∧ StoppedBy s t d (sideOf s (otherSide d)).cause ∧
      SafeStopFrame (advance dt s) t) ∧
  (∀ (dt out : Nat) (d : Side) (s : State), s.phase ≠ .reset → (sideOf s d).outSince = some out →
    (sideOf s d).entered = true → out + sec 5 ≤ s.now + dt →
    ∃ t, exec (.speedWindowTimeout dt d) s = .next t ∧ StoppedBy s t d 6 ∧ SafeStopFrame (advance dt s) t) ∧
  (∀ (dt : Nat) (d : Side) (reading : Int) (s : State), s.phase ≠ .reset → (sideOf s d).ownFault = false →
    (∀ x, (sideOf s d).sensorAt = some x → x + ms 1 ≤ s.now + dt) → 540 ≤ reading → reading ≤ 600 →
    1 ≤ (sideOf s d).hotOwn →
    ∃ t, exec (.safetySensorRead dt d (some reading)) s = .next t ∧ StoppedBy s t d 10 ∧
      SafeStopFrame (advance dt s) t) ∧
  (∀ (dt : Nat) (d : Side) (reading : Int) (s : State), s.phase ≠ .reset → (sideOf s d).ownFault = false →
    (∀ x, (sideOf s d).sensorAt = some x → x + ms 1 ≤ s.now + dt) → -220 ≤ reading → reading < 540 →
    (∀ v, s.thermal.tj = some v → v < 540) →
    ∃ t, exec (.safetySensorRead dt d (some reading)) s = .next t ∧ (sideOf t d).ownTemp = some reading ∧
      (sideOf t d).sensorAt = some (s.now + dt) ∧
      (sideOf t d).hotOwn = 0 ∧ (sideOf t d).hotTj = 0 ∧ (sideOf t d).causes = (sideOf s d).causes ∧ t.phase = s.phase ∧
      t = { advance dt s with safety := t.safety, log := t.log }) ∧
  (∀ (dt : Nat) (d : Side) (s : State), s.phase ≠ .reset →
    ∃ t, exec (.soutReadback dt d (sideOf s d).sout) s = .next t ∧
      t = modSide d (fun c => { c with soutRun := 0 }) (advance dt s)) ∧
  (∀ (dt x : Nat) (d : Side) (s : State), (sideOf s d).testSample = some x → x ≤ s.now + dt →
    ∃ t, exec (.soutTestSample dt d (sideOf s d).sout) s = .next t ∧
      t = modSide d (fun c => { c with testSample := none }) (advance dt s)) ∧
  (∀ (dt : Nat) (d : Side) (level : Bool) (s : State), s.phase ≠ .reset → level ≠ (sideOf s d).sout →
    1 ≤ (sideOf s d).soutRun →
    ∃ t, exec (.soutReadback dt d level) s = .next t ∧ StoppedBy s t d 11 ∧ (sideOf t d).soutFault = true ∧
      SafeStopFrame (advance dt s) t) ∧
  (∀ (dt x : Nat) (d : Side) (level : Bool) (s : State), s.phase ≠ .reset → (sideOf s d).testSample = some x →
    x ≤ s.now + dt → level ≠ (sideOf s d).sout →
    ∃ t, exec (.soutTestSample dt d level) s = .next t ∧ StoppedBy s t d 11 ∧ (sideOf t d).soutFault = true ∧
      SafeStopFrame (advance dt s) t) ∧
  (∀ (dt : Nat) (d : Side) (s : State), s.phase ≠ .reset →
    ∃ t, exec (.safetySelfTestFailure dt d) s = .next t ∧ StoppedBy s t d 12 ∧ SafeStopFrame (advance dt s) t) ∧
  (∀ (dt : Nat) (seenA seenB : List (Bool × Bool × Bool)) (s : State), seenA.length = 32 → seenB.length = 32 →
    s.phase = .spinUp → s.safety.gateTested = false → beforeFrames s = true →
    ∃ t, exec (.gateTest dt seenA seenB) s = .next t ∧ t.safety.gateTested = true ∧
      (seenA.all gateOk = false → StoppedBy s t .a 13) ∧ (seenB.all gateOk = false → StoppedBy s t .b 13) ∧
      (seenA.all gateOk = true → seenB.all gateOk = true → t.phase = .spinUp ∧
        t.pulses = (List.range 32).map (fun b => { bank := b, at_ := s.now + dt, width := ns 2, code := none })) ∧ SafeStopFrame (advance dt s) t)

/-- STANDSTILL (R330). -/
def Obligations.StandstillAfterOneSecond : Prop :=
  ∀ (dt off : Nat) (d : Side) (s : State), (sideOf s d).torqueOff = some off → (sideOf s d).standstill = false →
    (max off ((sideOf s d).lastEdge.getD 0) + sec 1 ≤ s.now + dt →
      ∃ t, exec (.standstill dt d) s = .next t ∧ (sideOf t d).standstill = true ∧
        sideOf t (otherSide d) = sideOf s (otherSide d) ∧
        ((sideOf s (otherSide d)).standstill = true → t.bias = { s.bias with on := false, duty := 0 }) ∧
        ((sideOf s (otherSide d)).standstill = false → t.bias = s.bias ∧ t.motor = s.motor) ∧
        t = { advance dt s with bias := t.bias, motor := t.motor, safety := t.safety, log := t.log }) ∧
    (s.now + dt < max off ((sideOf s d).lastEdge.getD 0) + sec 1 →
      exec (.standstill dt d) s = .next (advance dt s))

/-- SAFETY_HALL_EDGE, SPEED_BELOW_WINDOW and TORQUE_REMOVAL: speed as one channel judges it.  That the 5 % and 4 % windows are
judged on the implied rate is the model's choice (notes/assumptions/40.md). -/
def Obligations.SpeedWindow : Prop :=
  (∀ (dt e : Nat) (d : Side) (code : BitVec 3) (s : State), s.phase ≠ .reset → code ≠ 0 → code ≠ 7 →
    (sideOf s d).lastEdge = some e → e < s.now + dt →
    ∃ t, exec (.safetyHallEdge dt d code) s = .next t ∧
      (sideOf t d).lastEdge = some (s.now + dt) ∧ (sideOf t d).interval = s.now + dt - e ∧ (sideOf t d).hall = code ∧
      (rateWithin s (s.now + dt - e) 95 105 = false → (sideOf t d).inWindow = false ∧
        ((sideOf s d).inWindow = true → (sideOf t d).permit = false)) ∧
      (rateWithin s (s.now + dt - e) 96 104 = true → 15 ≤ (sideOf s d).regain →
        (sideOf t d).inWindow = true ∧ (sideOf t d).entered = true) ∧
      ((sideOf t d).permit = true → (sideOf s d).permit = true) ∧
      t = { advance dt s with seq := t.seq, safety := t.safety, log := t.log, calib := t.calib, nor := t.nor
                              pulses := t.pulses, chain := t.chain }) ∧
  (∀ (dt : Nat) (d : Side) (code : BitVec 3) (s : State), s.phase ≠ .reset → code ≠ 0 → code ≠ 7 →
    (sideOf s d).lastEdge = none →
    ∃ t, exec (.safetyHallEdge dt d code) s = .next t ∧ (sideOf t d).lastEdge = some (s.now + dt) ∧
      (sideOf t d).interval = 0 ∧ (sideOf t d).hall = code ∧ (sideOf t d).regain = 0 ∧
      (sideOf t d).inWindow = (sideOf s d).inWindow ∧ (sideOf t d).permit = (sideOf s d).permit ∧
      t = { advance dt s with safety := t.safety, log := t.log }) ∧
  (∀ (dt e : Nat) (d : Side) (s : State), (sideOf s d).lastEdge = some e → (sideOf s d).inWindow = true →
    100 * hallSetpoint s < 95 * (s.now + dt - e) →
    ∃ t, exec (.speedBelowWindow dt d) s = .next t ∧ (sideOf t d).inWindow = false ∧ (sideOf t d).permit = false ∧
      ((sideOf s d).entered = true → (sideOf t d).outSince = some (s.now + dt)) ∧
      t = { advance dt s with seq := t.seq, safety := t.safety, log := t.log, calib := t.calib, nor := t.nor
                              pulses := t.pulses, chain := t.chain }) ∧
  (∀ (dt entry : Nat) (v0 : Rat) (d : Side) (s : State), (sideOf s d).entry = some (entry, v0) →
    (sideOf s d).stopped = true → (sideOf s d).motEn = true →
    let v := chanSpeed (advance dt s) (sideOf s d)
    let e := vExp s v0 (s.now + dt - entry)
    (v < 1 / 50 ∨ v0 / 5 < v - e ∨ v0 / 5 < e - v ∨ ms 120 * s.legend.safety.ramp ≤ s.now + dt - entry) →
    ∃ t, exec (.torqueRemoval dt d) s = .next t ∧ (sideOf t d).motEn = false ∧
      (sideOf t d).torqueOff = some (s.now + dt) ∧ (sideOf t d).permit = (sideOf s d).permit ∧
      sideOf t (otherSide d) = sideOf s (otherSide d) ∧
      t = { advance dt s with safety := t.safety, log := t.log })

/-- B_N_MARKER and B_N_MARKER_MISSING: gaps and permits at the boundary, and no other way to a permit (R310). -/
def Obligations.PermitAtMarker : Prop :=
  (∀ (c : Instr) (d : Side) (s t : State), exec c s = .next t → (sideOf s d).permit = false →
    (sideOf t d).permit = true → ∃ dt, c = .bnMarker dt d) ∧
  (∀ (dt : Nat) (d : Side) (s : State), s.phase = .mode ∨ s.phase = .spinUp →
    ∃ t, exec (.bnMarker dt d) s = .next t ∧
      (sideOf t d).permit = permitHolds t (sideOf t d) ∧
      (∀ p, predictedBn (advance dt s) (sideOf s d) = some p →
        p ≤ s.now + dt + gapTolerance s → s.now + dt ≤ p + gapTolerance s →
        gapBegun (advance dt s) (sideOf s d) p = false →
        (sideOf t d).gapBad = false ∧ (sideOf t d).gapBn = some p ∧ ((sideOf t d).gapOk = !(sideOf s d).gapBad) ∧
        ((s.phase = .mode ∧ s.seq.mode ≠ 5) ∨ (s.phase = .spinUp ∧ s.motor.settled = true) →
          (sideOf s d).gapBad = false → (sideOf s d).stopped = false → (sideOf s d).tested = true →
          (sideOf s d).inWindow = true →
          (hostLayerUsed (sideOf s d) = true → (sideOf s d).connOpen = true ∧ (sideOf s d).demand = 1) →
          (sideOf t d).permit = true ∧ ((sideOf s d).testPulse = none → (sideOf t d).sout = true))) ∧
      (∀ p, predictedBn (advance dt s) (sideOf s d) = some p →
        (p + gapTolerance s < s.now + dt ∨ s.now + dt + gapTolerance s < p) →
        (sideOf t d).gapBad = true ∧ (sideOf t d).permit = false ∧
          (gapBegun (advance dt s) (sideOf s d) p = false → (sideOf s d).gapBad = true → 2 ≤ (sideOf s d).badGaps → 7 ∈ (sideOf t d).causes))) ∧
  (∀ (dt p : Nat) (d : Side) (s : State),
    s.phase = .mode ∨ (s.phase = .spinUp ∧ s.motor.settled = true ∧ s.motor.settledAt ≤ p) →
    predictedBn (advance dt s) (sideOf s d) = some p →
    (p + gapTolerance s ≤ s.now + dt → gapBegun (advance dt s) (sideOf s d) p = false →
      ∃ t, exec (.bnMarkerMissing dt d) s = .next t ∧ (sideOf t d).gapBad = true ∧ (sideOf t d).gapBn = some p ∧
        (sideOf t d).permit = false ∧
        ((sideOf s d).gapBad = true → 2 ≤ (sideOf s d).badGaps → 7 ∈ (sideOf t d).causes)) ∧
    (gapBegun (advance dt s) (sideOf s d) p = true → exec (.bnMarkerMissing dt d) s = .next (advance dt s)))

/-- SAFETY_MESSAGE and CONNECTION_EXPIRY (R322, R323), and SAFETY_EXCHANGE (R306).  `u` is the state that the receiver's checks
leave.  That the device counts a message as channel A judges it is the model's choice (notes/assumptions/21.md). -/
def Obligations.SafetyMessagesAndExchange : Prop :=
  (∀ (dt : Nat) (codes : List Nat) (rd : Bool) (m : List Byte) (s u : State), Received 0x83 codes rd m (advance dt s) u →
    ∃ t, exec (.safetyMessage dt codes rd) s = .next t ∧
      (∀ d, channelAccepts u (sideOf u d) m = true →
        (sideOf t d).lastSeq = hostSeq m ∧ (sideOf t d).accepted = (sideOf u d).accepted + 1 ∧
        (hostKind m = 1 ∨ (sideOf u d).connOpen = true → (sideOf t d).connOpen = true ∧ (sideOf t d).lastMsg = u.now) ∧
        (hostKind m ≠ 1 → (sideOf u d).connOpen = false →
          (sideOf t d).connOpen = false ∧ (sideOf t d).lastMsg = (sideOf u d).lastMsg) ∧
        (hostDemand m = 2 → u.phase ≠ .reset → 9 ∈ (sideOf t d).causes ∧
          ((sideOf u d).stopped = false → (sideOf t d).permit = false)) ∧
        (hostDemand m = 0 → hostKind m = 1 ∨ (sideOf u d).connOpen = true →
          (sideOf t d).permit = false ∧ (sideOf t d).demand = 0) ∧
        (hostDemand m = 1 → hostKind m = 1 ∨ (sideOf u d).connOpen = true → (sideOf t d).demand = 1)) ∧
      (∀ d, channelAccepts u (sideOf u d) m = false → sideOf t d = sideOf u d) ∧
      (channelAccepts u u.safety.a m = true →
        counterOf t .safetyAccepted = counterNext .safetyAccepted (counterOf u .safetyAccepted) 1 ∧
        t.safety.echo = hostSeq m ∧ t.safety.msgDue = true) ∧
      (channelAccepts u u.safety.a m = false →
        counterOf t .safetyDiscarded = counterNext .safetyDiscarded (counterOf u .safetyDiscarded) 1)) ∧
  (∀ (dt : Nat) (d : Side) (s : State), (sideOf s d).connOpen = true → hostLayerUsed (sideOf s d) = true →
    (sideOf s d).lastMsg + ms s.legend.safety.expectation ≤ s.now + dt →
    ∃ t, exec (.connectionExpiry dt d) s = .next t ∧ (sideOf t d).connOpen = false ∧ (sideOf t d).demand = 0 ∧
      (sideOf t d).permit = false ∧
      (d = .a → counterOf t .connectionExpiries = counterNext .connectionExpiries (counterOf s .connectionExpiries) 1) ∧
      t = { advance dt s with seq := t.seq, safety := t.safety, log := t.log, calib := t.calib, nor := t.nor
                              pulses := t.pulses, chain := t.chain }) ∧
  (∀ (dt : Nat) (crcA crcB : Bool) (ia ib : Nat) (s : State), s.phase ≠ .reset → 970 ≤ ia → ia ≤ 1030 → 970 ≤ ib →
    ib ≤ 1030 →
    ∃ t, exec (.safetyExchange dt crcA crcB ia ib) s = .next t ∧
      counterOf t .exchanges = counterNext .exchanges (counterOf s .exchanges) 1 ∧
      (∀ d, (sideOf t d).partnerFault = (sideOf s (otherSide d)).ownFault) ∧
      (crcA = false → 2 ∈ t.safety.a.causes) ∧ (crcB = false → 2 ∈ t.safety.b.causes) ∧
      (crcA = true → crcB = true → exchangeDiffers (advance dt s) = false → verdictDiffers s = false → inputDiffers s = false →
        permitDiffers s = false → t.phase = s.phase ∧ t.safety.a.lastWord = s.now + dt ∧
          t.safety.b.lastWord = s.now + dt ∧ t.safety.a.causes = s.safety.a.causes ∧
          t.safety.b.causes = s.safety.b.causes ∧ t.safety.a.permit = s.safety.a.permit ∧
          t.safety.b.permit = s.safety.b.permit))

/-- SIN_SAMPLE and DISCREPANCY_TIMEOUT (R318, R319), SOUT_TEST_PULSE and SOUT_TEST_PULSE_END (R335, R336). -/
def Obligations.InputsAndTestPulse : Prop :=
  (∀ (dt : Nat) (d : Side) (a0 b0 a1 b1 : Bool) (s : State), s.phase ≠ .reset →
    ∃ t, exec (.sinSample dt d a0 b0 a1 b1) s = .next t ∧
      (sideOf t d).in0 = inputSample (s.now + dt) (coverUsed (sideOf s d)) a0 b0 (sideOf s d).in0 ∧
      (sideOf t d).in1 = inputSample (s.now + dt) (depotUsed (sideOf s d)) a1 b1 (sideOf s d).in1 ∧
      (sideOf t d).in0.a = (if (a0 :: (sideOf s d).in0.rawA).take 3 = [true, true, true] then true
        else if (a0 :: (sideOf s d).in0.rawA).take 3 = [false, false, false] then false else (sideOf s d).in0.a) ∧
      (sideOf t (otherSide d)).in0 = (sideOf s (otherSide d)).in0 ∧
      (sideOf t (otherSide d)).in1 = (sideOf s (otherSide d)).in1 ∧ SafeStopFrame (advance dt s) t) ∧
  (∀ (dt : Nat) (d : Side) (s : State), depotUsed (sideOf s d) = true →
    ((sideOf s d).in1.st = .pendingUp ∨ (sideOf s d).in1.st = .pendingDown) →
    (sideOf s d).in1.since + ms s.legend.safety.disc1 ≤ s.now + dt →
    ∃ t, exec (.discrepancyTimeout dt d 1) s = .next t ∧ (sideOf t d).in1.st = .discrepancy ∧
      (sideOf t d).in0 = (sideOf s d).in0 ∧
      ((sideOf s (otherSide d)).in1.st ≠ .discrepancy →
        counterOf t (.discrepancies 1) = counterNext (.discrepancies 1) (counterOf s (.discrepancies 1)) 1) ∧
      SafeStopFrame (advance dt s) t) ∧
  (∀ (dt : Nat) (d : Side) (s : State), coverUsed (sideOf s d) = true →
    ((sideOf s d).in0.st = .pendingUp ∨ (sideOf s d).in0.st = .pendingDown) →
    (sideOf s d).in0.since + ms s.legend.safety.disc0 ≤ s.now + dt →
    ∃ t, exec (.discrepancyTimeout dt d 0) s = .next t ∧ (sideOf t d).in0.st = .discrepancy ∧
      (sideOf t d).in1 = (sideOf s d).in1 ∧
      ((sideOf s d).in0.started = true → s.phase ≠ .reset → 8 ∈ (sideOf t d).causes ∧ (sideOf t d).stopped = true) ∧
      ((sideOf s (otherSide d)).in0.st ≠ .discrepancy →
        counterOf t (.discrepancies 0) = counterNext (.discrepancies 0) (counterOf s (.discrepancies 0)) 1) ∧
      SafeStopFrame (advance dt s) t) ∧
  (∀ (dt : Nat) (d : Side) (s : State), coverUsed (sideOf s d) = false →
    exec (.discrepancyTimeout dt d 0) s = .next (advance dt s) ∧
    (depotUsed (sideOf s d) = false → exec (.discrepancyTimeout dt d 1) s = .next (advance dt s))) ∧
  (∀ (dt : Nat) (d : Side) (a0 b0 a1 b1 : Bool) (s : State),
    ∃ t, exec (.sinSample dt d a0 b0 a1 b1) s = .next t ∧
      (coverUsed (sideOf s d) = false → (sideOf t d).in0.st = (sideOf s d).in0.st) ∧
      (depotUsed (sideOf s d) = false → (sideOf t d).in1.st = (sideOf s d).in1.st) ∧
      (coverUsed (sideOf s d) = false → depotUsed (sideOf s d) = false → t = { advance dt s with safety := t.safety })) ∧
  (∀ (dt : Nat) (d : Side) (s : State), s.phase ≠ .reset → testDue d (advance dt s) = true →
    ((sideOf s d).sout = true →
      exec (.soutTestPulse dt d) s = .next (modSide d (fun c =>
        { c with lastTest := some (s.now + dt), testPulse := some (s.now + dt)
                 testSample := some (s.now + dt + us 250), sout := false }) (advance dt s))) ∧
    ((sideOf s d).sout = false →
      exec (.soutTestPulse dt d) s = .next (modSide d (fun c => { c with lastTest := some (s.now + dt) }) (advance dt s)))) ∧
  (∀ (dt x : Nat) (d : Side) (s : State), (sideOf s d).testPulse = some x → x + us 300 ≤ s.now + dt →
    exec (.soutTestPulseEnd dt d) s = .next (modSide d (fun c =>
      { c with testPulse := none, testSample := some (s.now + dt + us 50), sout := c.permit }) (advance dt s)))

/-- The gate of R15 over the whole machine: no command reaches a FIRE pad past a withdrawn permit or a veto. -/
def Obligations.NoPulseWithoutBothPermits : Prop :=
  ∀ s t : State, step s = .next t → ∀ x ∈ t.pulses,
    (∃ y ∈ s.pulses, y.bank = x.bank ∧ y.at_ = x.at_ ∧ x.width ≤ y.width) ∨
    (s.phase = .spinUp ∧ s.safety.gateTested = false ∧ beforeFrames s = true ∧ x.width = ns 2 ∧
      ∃ dt a b r, s.pending = .gateTest dt a b :: r) ∨
    ∀ d : Side, (sideOf s d).permit = true ∧ x.bank ∉ (sideOf s d).veto ∧
      (x.bank ∈ (sideOf s d).nearVeto → ∃ dt events light widths r, s.pending = .opticalSegment dt events light widths :: r)

/-- FIRE_PAD_PULSE. -/
def Obligations.PadPulses : Prop :=
  (∀ (dt bank width : Nat) (d : Side) (s : State), bank < 32 → width < ns 20 → s.phase ≠ .reset →
    bankPermit (sideOf s d) bank = true → pulseImplausible (advance dt s) (sideOf s d) width = false →
    ∃ t, exec (.firePadPulse dt d bank width) s = .next t ∧
      Table.getD 0 (sideOf t d).pulses bank = Table.getD 0 (sideOf s d).pulses bank + 1 ∧
      (s.now + dt, pulseEnergy s (sideOf s d) bank) ∈ (Table.getD {} (sideOf t d).energy bank).short ∧
      sideOf t (otherSide d) = sideOf s (otherSide d) ∧ (sideOf t d).permit = (sideOf s d).permit ∧
      t = { advance dt s with safety := t.safety, log := t.log }) ∧
  (∀ (dt bank width : Nat) (d : Side) (s : State), bank < 32 → s.phase ≠ .reset →
    bankPermit (sideOf s d) bank = false →
    ∃ t, exec (.firePadPulse dt d bank width) s = .next t ∧ StoppedBy s t d 13 ∧ SafeStopFrame (advance dt s) t)

/-- BEARING_PERIOD_START and SHOT_SLOT: the schedule (R31, R42, R45), and what period 0 brings to the ambient filter (R173, R174). -/
def Obligations.PeriodsAndSlots : Prop :=
  let old (s t : State) (y : FirePulse) : Prop := y ∈ t.pulses ∧ ∃ z ∈ s.pulses, z.bank = y.bank ∧ z.at_ = y.at_ ∧ y.width ≤ z.width
  (∀ (dt : Nat) (s : State), (s.phase = .mode ∨ s.phase = .safeStop) → s.seq.sheetOpen = true →
    (∀ p, nextPeriod (periods (tableNow s)) s.seq.period = some p →
      (s.seq.period = none ∨ (tableNow s).q ≤ s.seq.slot) → slotReached (advance dt s) (tableNow s) p 0 = true →
      ∃ t, exec (.bearingPeriodStart dt) s = .next t ∧ t.seq.period = some p ∧
        t.seq.periodStart = slotAt (advance dt s) (tableNow s) p 0 ∧ t.seq.slot = 0 ∧ t.seq.sheet = s.seq.sheet ∧
        (p ≠ 0 → t.survey = s.survey) ∧
        (s.phase = .mode →
          (4 ≤ p → p % 4 = 0 → t.ambEng.round = some (some p) ∧ t.ambEng.roundStart = s.now + dt ∧
            t.ambEng.roundNo = s.ambEng.roundNo + 1) ∧
          (p ≠ 0 → s.ambEng.unpublished = true → s.ambEng.roundStart + us 32 ≤ s.now + dt → ∀ ch e m,
            (ambOf s ch).output = some (e, m) → (ambOf t ch).estimate = e ∧ (ambOf t ch).settled = m) ∧
          (p = 0 → s.ambEng.unpublished = true → s.ambEng.roundStart + us 32 ≤ s.now + dt → ∀ ch, ch < 1536 →
            let m := modeTable s s.seq.mode
            let e := match (ambOf s ch).output with | some o => o.1 | none => (ambOf s ch).estimate
            (s.ambEng.due = 1 → (ambOf t ch).restarting = true ∧ (ambOf t ch).settled = false ∧ (ambOf t ch).cause = 1 ∧
              (ambOf t ch).estimate = (m.m0 : Rat) / 8) ∧
            (s.ambEng.due = 2 → ch ∉ s.ambEng.dueChans → (ambOf t ch).restarting = true ∧ (ambOf t ch).settled = false ∧
              (ambOf t ch).cause = 2 ∧ (ambOf t ch).estimate = max 0 (min 34 (e * s.ambEng.factor))) ∧
            (s.ambEng.due = 3 → (ambOf t ch).restarting = true ∧ (ambOf t ch).settled = false ∧ (ambOf t ch).cause = 3 ∧
              (ambOf t ch).estimate = max 0 (min 34 (e * s.ambEng.factor))) ∧
            (s.ambEng.due = 0 → ch ∉ s.ambEng.dueChans → s.ambEng.presetDue = false →
              (ambOf t ch).estimate = e ∧ (ambOf t ch).settle = ((ambOf s ch).settle.1 * s.ambEng.factor, (ambOf s ch).settle.2) ∧
              (ambOf t ch).counts.s = (ambOf s ch).counts.s * s.ambEng.factor ∧
              (ambOf t ch).counts.line = (ambOf s ch).counts.line.map (· * s.ambEng.factor) ∧
              (ambOf t ch).windows = (ambOf s ch).windows ∧ (ambOf t ch).restarting = (ambOf s ch).restarting))) ∧
        t = { advance dt s with seq := t.seq, amb := t.amb, ambEng := t.ambEng, log := t.log
                                survey := { s.survey with engines := t.survey.engines } }) ∧
    (nextPeriod (periods (tableNow s)) s.seq.period = none →
      exec (.bearingPeriodStart dt) s = .next (advance dt s)) ∧
    (∀ p, nextPeriod (periods (tableNow s)) s.seq.period = some p →
      slotReached (advance dt s) (tableNow s) p 0 = false → exec (.bearingPeriodStart dt) s = .next (advance dt s))) ∧
  (∀ (dt p : Nat) (s : State), (s.phase = .mode ∨ s.phase = .safeStop) → s.seq.sheetOpen = true →
    s.seq.period = some p → s.seq.slot < (tableNow s).q →
    (slotReached (advance dt s) (tableNow s) p s.seq.slot = true →
      ∃ t, exec (.shotSlot dt) s = .next t ∧ t.seq.slot = s.seq.slot + 1 ∧ t.seq.period = some p ∧
        (∀ y ∈ t.pulses, old s t y ∨ ∃ x, assigned (advance dt s) p s.seq.slot y.bank = some x ∧
          y.bank < 32 ∧ bit y.bank (sheetState s).banks = true ∧ x.q = s.seq.slot ∧ x.q < x.planned ∧
          bearingOf (tableNow s) p s.seq.slot = some x.bearing ∧ y.width ≤ x.width ∧
          (t.phase = .mode → y.width = x.width) ∧
          y.at_ = padEdge s y.bank x.fire ∧ (∀ l, (bankOf s y.bank).lastPulse = some l → l + us 4 ≤ x.fire)) ∧
        (mayFire s = false → ∀ y ∈ t.pulses, old s t y) ∧
        (mayFire s = true →
          (∀ d b x, b < 32 → assigned (advance dt s) p s.seq.slot b = some x →
            overLimit (advance dt s) (sideOf s d) b (pulseEnergy s (sideOf s d) b) x.fire = false) →
          ∀ b x, b < 32 → assigned (advance dt s) p s.seq.slot b = some x → padsPass s b = true →
            (x.q = 0 ∨ (tableHas (bankOf s b).opened x.bearing = true ∧ s.seq.fireFrom ≤ x.bearing)) →
            t.phase = .mode ∧
            { bank := b, at_ := padEdge s b x.fire, width := x.width, code := some (bankOf s b).code } ∈ t.pulses)) ∧
    (slotReached (advance dt s) (tableNow s) p s.seq.slot = false →
      exec (.shotSlot dt) s = .next (advance dt s)))

/-- CLOSE_COMMAND. -/
def Obligations.CloseCommandsClearTheBanks : Prop :=
  (∀ (dt : Nat) (st : Stop) (s : State), s.seq.stop = some st →
    ∃ t, exec (.closeCommand dt) s = .next t ∧ t.seq = { s.seq with stop := none } ∧
      (∀ b, b < 32 → (bankOf t b).opened = []) ∧
      (∀ b c β taken, b < 32 → (β, taken) ∈ (bankOf s b).opened → c ∈ bankChans s b → β ∉ (chanOf s c).noCtx →
        ((ctxOf s (ctxNumber c β)).ph = .marked ∨ (ctxOf s (ctxNumber c β)).ph = .opened) →
        (ctxOf s (ctxNumber c β)).closeCmd = none →
        (∃ n, (ctxOf t (ctxNumber c β)).closeCmd = some (st.cause, n)) ∧
        ((∀ e ∈ (bankOf s b).opened, e.1 % 10 = β % 10 → e = (β, taken)) →
          (ctxOf t (ctxNumber c β)).closeCmd = some (st.cause, taken))) ∧
      (∀ b c a, b < 32 → c ∈ bankChans s b → ((chanOf s c).arm = some a ∨ ((chanOf s c).arm ≠ none ∧ (chanOf s c).next = some a)) →
        a.last = true → a.noCtx = false →
        ((ctxOf s (tagCtx a.tag)).ph = .marked ∨ (ctxOf s (tagCtx a.tag)).ph = .opened) →
        (ctxOf s (tagCtx a.tag)).closeCmd = none →
        ∃ n, (ctxOf t (tagCtx a.tag)).closeCmd = some (st.cause, n)) ∧
      (∀ x, (ctxOf s x).closeCmd ≠ none → (ctxOf t x).closeCmd = (ctxOf s x).closeCmd) ∧
      (∀ x cause taken, (ctxOf s x).closeCmd = none → (ctxOf t x).closeCmd = some (cause, taken) →
        cause = st.cause ∧ ((ctxOf s x).ph = .marked ∨ (ctxOf s x).ph = .opened)) ∧
      t = { advance dt s with seq := t.seq, banks := t.banks, chans := t.chans, survey := t.survey }) ∧
  (∀ (dt : Nat) (s : State), s.seq.stop = none → exec (.closeCommand dt) s = .next (advance dt s))

/-- COINCIDENCE_EVENT.  `u` is the state in which a pre-window that has ended has passed its count on. -/
def Obligations.EventsAreConvertedOrTallied : Prop :=
  ∀ (dt ch tap : Nat) (fired : List (Nat × Nat)) (s : State), ch < 1536 → tap < 20 → (∀ f ∈ fired, f.1 < 16) →
    let u := passPre ch (advance dt s)
    let c := chanOf u ch
    (gateDeclares u ch fired = false → overloads u ch fired = false →
      exec (.coincidenceEvent dt ch fired tap) s = .next u) ∧
    (∀ a, gateDeclares u ch fired = true → overloads u ch fired = false → c.arm = some a → a.noCtx = false →
      a.converted < 8 → s.grat.outputs = true → a.fire ≤ u.now → u.now < a.stop → 0 ≤ eventOf u ch tap a →
      eventOf u ch tap a < (ns (modeTable u u.seq.mode).w : Nat) →
      ∃ t, exec (.coincidenceEvent dt ch fired tap) s = .next t ∧ (chanOf t ch).lastEvent = some u.now ∧
        (hasRoom (flush (inRecovery u c) u.now c) = true → ∃ w : Word64, (chanOf t ch).buffer =
          (flush (inRecovery u c) u.now c).buffer ++ [{ kind := 0, word := w, at_ := u.now }] ∧
          w = a.tag ||| BitVec.ofNat 64 ((eventOf u ch tap a).toNat <<< 46) |||
            (if inRecovery u c then 1#64 <<< 62 else 0)) ∧
        (hasRoom (flush (inRecovery u c) u.now c) = false →
          (chanOf t ch).buffer = (flush (inRecovery u c) u.now c).buffer ∧
          tallyFor (chanOf t ch).hold (tagCtx a.tag) =
            min 65535 (tallyFor (flush (inRecovery u c) u.now c).hold (tagCtx a.tag) + 1) ∧
          (∀ x, x ≠ tagCtx a.tag →
            tallyFor (chanOf t ch).hold x = tallyFor (flush (inRecovery u c) u.now c).hold x) ∧
          counterOf t (.tdcDrops ch) = counterNext (.tdcDrops ch) (counterOf u (.tdcDrops ch)) 1)) ∧
    (∀ a, gateDeclares u ch fired = true → overloads u ch fired = false → c.arm = some a → s.grat.outputs = true →
      a.fire ≤ u.now → u.now < a.stop → 0 ≤ eventOf u ch tap a →
      eventOf u ch tap a < (ns (modeTable u u.seq.mode).w : Nat) →
      (8 ≤ a.converted → ∃ t, exec (.coincidenceEvent dt ch fired tap) s = .next t ∧
        (chanOf t ch).lastEvent = some u.now ∧ (chanOf t ch).buffer = c.buffer ∧ (chanOf t ch).hold = c.hold ∧
        (chanOf t ch).arm = some a ∧
        counterOf t (.overDepth ch) = counterNext (.overDepth ch) (counterOf u (.overDepth ch)) 1) ∧
      (a.converted < 8 → a.noCtx = true → ∃ t, exec (.coincidenceEvent dt ch fired tap) s = .next t ∧
        (chanOf t ch).lastEvent = some u.now ∧ (chanOf t ch).buffer = c.buffer ∧ (chanOf t ch).hold = c.hold ∧
        counterOf t (.contextDrops ch) = counterNext (.contextDrops ch) (counterOf u (.contextDrops ch)) 1))

/-- RANGE_WINDOW_END, RECOVERY_END, HOLDING_REGISTER_FLUSH, AMBIENT_EVALUATION and NEAR_ZONE_LINE.  That the end round puts out
the part-block of the preset Settle is the model's choice (notes/assumptions/19.md). -/
def Obligations.ReceiverCommands : Prop :=
  (∀ (dt ch : Nat) (a : Arm) (s : State), ch < 1536 → (chanOf (passPre ch (advance dt s)) ch).arm = some a →
    a.stop ≤ s.now + dt →
    ∃ t, exec (.rangeWindowEnd dt ch) s = .next t ∧
      (chanOf t ch).arm = (chanOf (passPre ch (advance dt s)) ch).next ∧ (chanOf t ch).next = none ∧
      (∀ k, k ≠ ch → chanOf t k = chanOf s k) ∧ t = { advance dt s with chans := t.chans, log := t.log }) ∧
  (∀ (dt ch r : Nat) (s : State), ch < 1536 → (chanOf s ch).recovery = some r → r ≤ s.now + dt →
    ∃ t, exec (.recoveryEnd dt ch) s = .next t ∧ (chanOf t ch).recovery = none ∧ (chanOf t ch).recovered = some r ∧
      (∀ k, k ≠ ch → chanOf t k = chanOf s k) ∧ t = { advance dt s with chans := t.chans, log := t.log }) ∧
  (∀ (dt ch : Nat) (s : State), ch < 1536 →
    ∃ t, exec (.holdingRegisterFlush dt ch) s = .next t ∧
      chanOf t ch = (let u := passPre ch (advance dt s)
        flush (inRecovery u (chanOf u ch)) u.now (chanOf u ch)) ∧
      (∃ l, (chanOf t ch).buffer = (chanOf s ch).buffer ++ l) ∧
      ((chanOf s ch).buffer.length ≤ 8 → (chanOf t ch).buffer.length ≤ 8) ∧
      ((chanOf s ch).hold.length ≤ 10 → (chanOf t ch).hold ≠ [] → 8 ≤ (chanOf t ch).buffer.length) ∧
      (∀ k, k ≠ ch → chanOf t k = chanOf s k) ∧ t = { advance dt s with chans := t.chans, log := t.log }) ∧
  (∀ (dt ch : Nat) (p : Option Nat) (s : State), ch < 1536 → s.ambEng.round = some p →
    (ambOf s ch).seen < s.ambEng.roundNo → s.ambEng.roundStart + ns (500 * (ch % 64)) ≤ s.now + dt →
    ∃ t, exec (.ambientEvaluation dt ch) s = .next t ∧ (chanOf t ch).ambSum = 0 ∧ (chanOf t ch).ambWin = 0 ∧
      (ambOf t ch).seen = s.ambEng.roundNo ∧ (ambOf t ch).estimate = (ambOf s ch).estimate ∧
      (let v := ambOf s ch
       let w := ambOf t ch
       let sum : Rat := (chanOf (passPre ch (advance dt s)) ch).ambSum
       let win : Rat := (chanOf (passPre ch (advance dt s)) ch).ambWin
       let m := modeTable s s.seq.mode
       let counts := pathFeed sum v.counts
       let windows := pathFeed win v.windows
       let due := (match p with | none => true | some q => decide (q % decimation v.preset = 0))
       let k := blockReadings v.preset
       let coef := s.legend.fir.getD v.preset []
       (v.restarting = false → v.waiting = false ∨ win = 0 →
         (due = false → w.counts = counts ∧ w.windows = windows ∧ w.output = v.output ∧ w.held = v.held) ∧
         (due = true → v.preset ≠ 3 → 0 < windows.s → 0 < firValue coef (pathEnd k windows) →
           w.counts = pathEnd k counts ∧ w.windows = pathEnd k windows ∧ w.held = 0 ∧ w.restarting = false ∧
           w.output.map (·.1) = some (max 0 (min 34 (firValue coef (pathEnd k counts) / firValue coef (pathEnd k windows))))) ∧
         (due = true → v.preset = 3 → 0 < windows.s →
           w.held = 0 ∧ w.output.map (·.1) = some (max 0 (min 34 (counts.s / windows.s)))) ∧
         (due = true → windows.s ≤ 0 → w.held = min (v.held + 1) 15 ∧
           w.output.map (·.1) = some (match v.output with | some o => o.1 | none => v.estimate) ∧
           (3 ≤ v.held → w.waiting = true ∧ w.output.map (·.2) = some false) ∧
           counterOf t (.heldOutputs ch) = counterNext (.heldOutputs ch)
             (counterOf (passPre ch (advance dt s)) (.heldOutputs ch)) 1)) ∧
       (v.restarting = false → v.waiting = true → 0 < win →
         w.restarting = true ∧ w.waiting = false ∧ w.cause = 4 ∧ w.settle = (0, 0) ∧ w.restartAt = some (p.getD 0) ∧
         counterOf t (.restarts ch) = counterNext (.restarts ch) (counterOf (passPre ch (advance dt s)) (.restarts ch)) 1) ∧
       (v.restarting = true →
         (∀ q, p = some q → 16 ≤ restartPeriods q v ∨ (m.preset = 3 ∧ q % 16 = 0) → 0 < v.settle.2 + win →
           let e := max 0 (min 34 ((v.settle.1 + sum) / (v.settle.2 + win)))
           w.restarting = false ∧ w.output = some (e, true) ∧ w.held = 0 ∧ w.preset = m.preset ∧
             w.counts = pathLoaded m.preset (e * (4 * m.q : Nat)) ∧ w.windows = pathLoaded m.preset (4 * m.q : Nat)) ∧
         (∀ q, p = some q → 16 ≤ restartPeriods q v ∨ (m.preset = 3 ∧ q % 16 = 0) → v.settle.2 + win ≤ 0 →
           w.held = min (v.held + 1) 15 ∧ w.settle = (0, 0) ∧ w.restartAt = some q ∧
             (w.restarting = true ↔ v.held < 3)) ∧
         (p = none ∨ (∃ q, p = some q ∧ restartPeriods q v < 16 ∧ (m.preset ≠ 3 ∨ q % 16 ≠ 0)) →
           w.restarting = true ∧ w.output = v.output ∧ w.settle = (v.settle.1 + sum, v.settle.2 + win)))) ∧
      (∀ k, k ≠ ch → chanOf t k = chanOf s k ∧ ambOf t k = ambOf s k) ∧
      t = { advance dt s with chans := t.chans, amb := t.amb, log := t.log }) ∧
  (∀ (dt ch : Nat) (fired : List (Nat × Nat)) (s : State), ch < 1536 → (∀ f ∈ fired, f.1 < 16) →
    (chanOf s ch).arm ≠ none → nearRaised s ch fired = true →
    ∃ t, exec (.nearZoneLine dt ch fired) s = .next t ∧ (∀ d, ch / 48 ∈ (sideOf t d).nearVeto ∧
        (sideOf t d).permit = (sideOf s d).permit) ∧
      t = { advance dt s with safety := t.safety, log := t.log })

/-- R149 for EVENT_ITEM, DROP_ITEM and CONTEXT_CLOSE: the three kinds of item, and any count of corrected errors, which a
stray item never brings to the counter. -/
def Obligations.StrayItemsTouchNothing : Prop :=
  ∀ (dt e c : Nat) (i : Item) (ecc : Bool) (s : State), e < 68 → engineWorks (engineOf s e) = true →
    (engineOf s e).markers = [] → nextGrant s e = some (c, i) →
    ((ctxOf s (tagCtx i.word)).ph ≠ .opened ∨ (ctxOf s (tagCtx i.word)).bearing ≠ itemBearing i ∨
      (ctxOf s (tagCtx i.word)).parity ≠ itemParity i) →
    ∀ k, (∃ n, k = .eventItem dt ⟨e, n⟩ ∧ i.kind = 0) ∨ (k = .dropItem dt e ∧ i.kind = 1) ∨
        (∃ n, k = .contextClose dt e ⟨ecc, n⟩ ∧ i.kind = 2) →
      ∃ t, exec k s = .next t ∧ t.survey.ctxs = s.survey.ctxs ∧ t.survey.posts = s.survey.posts ∧
        (chanOf t c).buffer = (chanOf s c).buffer.drop 1 ∧
        counterOf t (.strayItems e) = counterNext (.strayItems e) (counterOf s (.strayItems e)) 1 ∧
        t = { advance dt s with chans := t.chans, survey := t.survey, log := t.log }

/-- R138, EVENT_ITEM: the coarse bin and the count of applied events.  A re-zoom context, where the context has one, lies in the
pool. -/
def Obligations.EventItemAddsToItsBin : Prop :=
  ∀ (dt e c corrected : Nat) (i : Item) (s : State), e < 68 → engineWorks (engineOf s e) = true →
    (engineOf s e).markers = [] → nextGrant s e = some (c, i) → i.kind = 0 → itemValid s i = true →
    (∀ y, (ctxOf s (tagCtx i.word)).extra = some y → 15360 ≤ y) →
    let x := tagCtx i.word
    let n := itemTime i / 64
    ∃ t, exec (.eventItem dt ⟨e, corrected⟩) s = .next t ∧
      Table.getD 0 (ctxOf t x).coarse n =
        min 4095 (Table.getD 0 (ctxOf s x).coarse n + 2 ^ (modeTable s (ctxOf s x).mode).scale) ∧
      (∀ k, k ≠ n → Table.getD 0 (ctxOf t x).coarse k = Table.getD 0 (ctxOf s x).coarse k) ∧
      ((ctxOf s x).applied < 511 → (ctxOf t x).applied = (ctxOf s x).applied + 1) ∧
      (∀ y, y < 15360 → y ≠ x → ctxOf t y = ctxOf s y) ∧
      (∀ y, y ≠ e → engineOf t y = engineOf s y) ∧
      t = { advance dt s with chans := t.chans, survey := t.survey, log := t.log }

/-- MARKER_APPLY, and the tracking, windows and foreign count of EVENT_ITEM (R139 to R142, R180).  That the item of an unlit point
whose context is busy carries unlit beside pile-up is the model's choice (notes/assumptions/13.md). -/
def Obligations.MarkersAreApplied : Prop :=
  (∀ (dt e : Nat) (m : Marker) (r : List Marker) (s : State), e < 68 → engineWorks (engineOf s e) = true →
    (engineOf s e).markers = m :: r →
    ∃ t, exec (.markerApply dt e) s = .next t ∧ (engineOf t e).markers = r ∧
      (m.kind = 0 →
        let v := ctxOf t m.ctx
        let k := modeTable s m.mode
        let b : Rat := (m.planned * 2 ^ k.scale : Nat) * m.estimate / 50
        v.ph = .opened ∧ v.channel = m.channel ∧ v.bearing = m.bearing ∧ v.parity = m.parity ∧ v.mode = m.mode ∧
        v.planned = m.planned ∧ v.openTime = m.openTime ∧
        v.flags = { settling := !m.settled, reassigned := m.reassigned } ∧
        v.preset = (if m.restarting then 3 else k.preset) ∧
        (b ≤ 65535 / 4096 → v.background = (roundRat (b * 4096)).toNat ∧
          v.threshold = min 4095 (max (k.tMin * 2 ^ k.scale) (ceilSqrt ((k.kappa * k.kappa * 2 ^ k.scale : Nat) * b / 256)))) ∧
        (65535 / 4096 < b → v.background = 65535 ∧ v.threshold = 4095 ∧
          counterOf t .bgSaturations = counterNext .bgSaturations (counterOf s .bgSaturations) 1) ∧
        v.coarse = [] ∧ v.fine = [] ∧ v.blocks = 0 ∧ v.applied = 0 ∧ v.dropped = 0 ∧ v.converted = 0 ∧ v.foreign = 0 ∧
        v.taken = 0 ∧ v.cause = 0 ∧ v.placed = 0 ∧ v.extra = none ∧ v.extras = 0 ∧
        v.peaks = [{}, {}, {}, {}] ∧ v.wins = [{}, {}, {}, {}] ∧ (engineOf t e).closed = (engineOf s e).closed) ∧
      (m.kind = 1 → (ctxOf t m.ctx).ph = .queued ∧ (ctxOf t m.ctx).cause = 4 ∧ (ctxOf t m.ctx).taken = 0 ∧
        (ctxOf t m.ctx).flags.unlit = true ∧ (ctxOf t m.ctx).coarse = [] ∧
        ∃ w, (engineOf t e).closed = (engineOf s e).closed ++ [w] ∧ w.ctx = some m.ctx) ∧
      (2 ≤ m.kind → t.survey.ctxs = s.survey.ctxs ∧
        ∃ w, (engineOf t e).closed = (engineOf s e).closed ++ [w] ∧ w.ctx = none ∧ w.head.flags.pileUp = true ∧
          w.head.flags.unlit = decide (m.kind = 3) ∧
          w.head.planned = m.planned ∧ w.head.taken = 0) ∧
      t = { advance dt s with survey := t.survey, log := t.log }) ∧
  (∀ (dt e c corrected : Nat) (i : Item) (s : State), e < 68 → engineWorks (engineOf s e) = true →
    (engineOf s e).markers = [] → nextGrant s e = some (c, i) → i.kind = 0 → itemValid s i = true → tagCtx i.word < 15360 →
    (∀ y, (ctxOf s (tagCtx i.word)).extra = some y → 15360 ≤ y) →
    let x := tagCtx i.word
    let v := ctxOf s x
    let u := 2 ^ (modeTable s v.mode).scale
    let q := itemShot i
    let n := itemTime i / 64
    let h := min 4095 (Table.getD 0 v.coarse n + u)
    let here (p : Peak) : Prop := p.valid = true ∧ p.bin = n
    let beside (p : Peak) : Prop := p.valid = true ∧ (p.bin + 1 = n ∨ n + 1 = p.bin)
    let covered : Prop := (∃ w ∈ v.wins, covers w n = true) ∨ ∃ y, v.extra = some y ∧ ∃ w ∈ (ctxOf s y).wins, covers w n = true
    ∃ t, exec (.eventItem dt ⟨e, corrected⟩) s = .next t ∧
      (n < (modeTable s v.mode).n0 ∨ h < 2 * u → (ctxOf t x).peaks = v.peaks) ∧
      ((modeTable s v.mode).n0 ≤ n → 2 * u ≤ h →
        (∀ j, j < 4 → here (peakAt v.peaks j) → (∀ k, k < j → ¬here (peakAt v.peaks k)) →
          (ctxOf t x).peaks = v.peaks.set j { peakAt v.peaks j with value := h }) ∧
        ((∀ j, j < 4 → ¬here (peakAt v.peaks j)) →
          (∀ j, j < 4 → beside (peakAt v.peaks j) →
            (∀ k, k < 4 → k ≠ j → beside (peakAt v.peaks k) → (peakAt v.peaks j).bin < (peakAt v.peaks k).bin) →
            (h ≤ (peakAt v.peaks j).value → (ctxOf t x).peaks = v.peaks) ∧
            ((peakAt v.peaks j).value < h → (∀ k, k < 4 → k ≠ j → ¬beside (peakAt v.peaks k)) →
              (ctxOf t x).peaks = v.peaks.set j { valid := true, bin := n, value := h })) ∧
          ((∀ j, j < 4 → ¬beside (peakAt v.peaks j)) →
            (∀ j, j < 4 → (peakAt v.peaks j).valid = false → (∀ k, k < j → (peakAt v.peaks k).valid = true) →
              (ctxOf t x).peaks = v.peaks.set j { valid := true, bin := n, value := h }) ∧
            (∀ j, j < 4 → (∀ k, k < 4 → (peakAt v.peaks k).valid = true ∧ (peakAt v.peaks k).bin < 1024 ∧
                (k ≠ j → (peakAt v.peaks j).value < (peakAt v.peaks k).value ∨
                  ((peakAt v.peaks j).value = (peakAt v.peaks k).value ∧ (peakAt v.peaks k).bin < (peakAt v.peaks j).bin))) →
              (ctxOf t x).peaks = (if (peakAt v.peaks j).value < h then v.peaks.set j { valid := true, bin := n, value := h }
                else v.peaks))))) ∧
      (2 ≤ q → v.placed = 0 → (ctxOf t x).placed = q ∧ ∀ j, j < 4 → j < v.wins.length → (peakAt v.peaks j).valid = true →
        (ctxOf t x).wins.getD j {} = { valid := true, z := windowStart v (peakAt v.peaks j).bin, from_ := q }) ∧
      (v.placed ≠ 0 ∨ q < 2 → (ctxOf t x).placed = v.placed ∧
        (∀ j, j < 4 → (v.wins.getD j {}).valid = true → (ctxOf t x).wins.getD j {} = v.wins.getD j {}) ∧
        (∀ j f, j < 4 → f < 32 → Table.getD 0 (ctxOf t x).fine (32 * j + f) =
          (if (v.wins.getD j {}).valid = true ∧ (v.wins.getD j {}).from_ ≤ q ∧ 2 * (v.wins.getD j {}).z ≤ itemTime i ∧
              itemTime i ≤ 2 * (v.wins.getD j {}).z + 63 ∧ (itemTime i - 2 * (v.wins.getD j {}).z) / 2 = f
            then min 4095 (Table.getD 0 v.fine (32 * j + f) + u) else Table.getD 0 v.fine (32 * j + f)))) ∧
      (v.placed ≠ 0 → (modeTable s v.mode).n0 ≤ n → 2 * u ≤ h → q + 2 ≤ v.planned → ¬covered →
        (∀ j, j < 4 → ¬here (peakAt v.peaks j) ∧ ¬beside (peakAt v.peaks j)) →
        ∀ j, j < 4 → j < v.peaks.length → (peakAt v.peaks j).valid = false → (∀ k, k < j → (peakAt v.peaks k).valid = true) →
          ((v.wins.getD j {}).valid = false → j < v.wins.length →
            (ctxOf t x).wins.getD j {} = { valid := true, z := windowStart (ctxOf t x) n, from_ := q + 1 }) ∧
          (∀ k, k < 4 → k < v.wins.length → (v.wins.getD j {}).valid = true → (v.wins.getD k {}).valid = false →
            (∀ l, l < k → (v.wins.getD l {}).valid = true) →
            (ctxOf t x).wins.getD k {} = { valid := true, z := windowStart (ctxOf t x) n, from_ := q + 1 }) ∧
          ((∀ k, k < 4 → (v.wins.getD k {}).valid = true) → v.extras < 4 → v.extra = none →
            (∀ y, freeRezoom s = some y → (ctxOf t x).extra = some y ∧ (ctxOf t x).extras = 1 ∧
              (ctxOf t y).wins.getD 0 {} = { valid := true, z := windowStart (ctxOf t x) n, from_ := q + 1 }) ∧
            (freeRezoom s = none → (ctxOf t x).extra = none ∧
              counterOf t .rezoomSkipped = counterNext .rezoomSkipped (counterOf s .rezoomSkipped) 1))) ∧
      (∀ e0, v.prev = some (q, e0, true) → 2 ≤ q → e0 + 96 ≤ itemTime i → itemTime i ≤ e0 + 128 →
        (Table.getD 0 v.coarse n = 0 ∨ n ∈ v.fresh) → (ctxOf t x).foreign = min 65535 (v.foreign + 1)) ∧
      (q < 2 ∨ v.prev = none ∨ (Table.getD 0 v.coarse n ≠ 0 ∧ n ∉ v.fresh) ∨
        (∃ q0 e0 z, v.prev = some (q0, e0, z) ∧ (q0 ≠ q ∨ z = false ∨ itemTime i < e0 + 96 ∨ e0 + 128 < itemTime i)) →
        (ctxOf t x).foreign = v.foreign) ∧
      (ctxOf t x).prev = some (q, itemTime i, zeroBefore v q n))

/-- DROP_ITEM and CONTEXT_CLOSE. -/
def Obligations.DropsAndCloses : Prop :=
  ∀ (dt e c corrected : Nat) (i : Item) (s : State), e < 68 → engineWorks (engineOf s e) = true →
    (engineOf s e).markers = [] → nextGrant s e = some (c, i) → itemValid s i = true →
    let x := tagCtx i.word
    let v := ctxOf s x
    (i.kind = 1 → ∃ t, exec (.dropItem dt e) s = .next t ∧
      (ctxOf t x).dropped = min 65535 (v.dropped + itemTime i) ∧ (ctxOf t x).flags.pileUp = true ∧
      (ctxOf t x).coarse = v.coarse ∧ (engineOf t e).drops = (engineOf s e).drops + itemTime i ∧
      (∀ y, y ≠ x → ctxOf t y = ctxOf s y) ∧
      t = { advance dt s with chans := t.chans, survey := t.survey, log := t.log }) ∧
    (i.kind = 2 → v.closeCmd = none →
      (v.skipCheck = true ∨ v.dropped = 65535 ∨ v.applied + v.dropped = itemTime i) →
      ∃ t, exec (.contextClose dt e ⟨false, corrected⟩) s = .next t ∧ (ctxOf t x).ph = .queued ∧ (ctxOf t x).cause = 1 ∧
        (ctxOf t x).taken = v.planned ∧ (ctxOf t x).converted = itemTime i ∧ (ctxOf t x).coarse = v.coarse ∧
        (engineOf t e).st = (engineOf s e).st ∧
        ∃ w, (engineOf t e).closed = (engineOf s e).closed ++ [w] ∧ w.ctx = some x) ∧
    (∀ cause taken, i.kind = 2 → v.closeCmd = some (cause, taken) → cause ≠ 1 →
      ∃ t, exec (.contextClose dt e ⟨false, corrected⟩) s = .next t ∧
        counterOf t (.correctableEcc e) = counterNext (.correctableEcc e) (counterOf s (.correctableEcc e)) corrected ∧
        (v.planned ≤ 2 * taken → (ctxOf t x).ph = .queued ∧ (ctxOf t x).cause = cause ∧ (ctxOf t x).taken = taken ∧
          (taken < v.planned → (ctxOf t x).flags.partial_ = true ∧ (cause = 3 → (ctxOf t x).flags.brownout = true))) ∧
        (2 * taken < v.planned → (ctxOf t x).ph = .free ∧
          counterOf t (.discardedContexts e) = counterNext (.discardedContexts e) (counterOf s (.discardedContexts e)) 1))

/-- GRANT_TIMEOUT, ENGINE_FAILURE, ENGINE_SELF_TEST and SPARE_SUBSTITUTION. -/
def Obligations.EnginesFailAndAreReplaced : Prop :=
  (∀ (dt e : Nat) (s : State), e < 68 → grantWithheld (advance dt s) e = true →
    ∃ t, exec (.grantTimeout dt e) s = .next t ∧ (engineOf t e).st = 3 ∧ (engineOf t e).cause = 2 ∧
      t.survey.failures = s.survey.failures ++ [e] ∧ t.survey.ctxs = s.survey.ctxs ∧
      t = { advance dt s with survey := t.survey, log := t.log }) ∧
  (∀ (dt e : Nat) (s : State), e < 68 → engineWorks (engineOf s e) = true →
    ∃ t, exec (.engineFailure dt e) s = .next t ∧ (engineOf t e).st = 3 ∧ (engineOf t e).cause = 3 ∧
      t.survey.failures = s.survey.failures ++ [e] ∧
      counterOf t (.uncorrectableEcc e) = counterNext (.uncorrectableEcc e) (counterOf s (.uncorrectableEcc e)) 1 ∧
      t = { advance dt s with survey := t.survey, log := t.log }) ∧
  (∀ (dt e : Nat) (ran passed : Bool) (s : State), e < 68 → testMayRun (advance dt s) e = true →
    ∃ t, exec (.engineSelfTest dt e ran passed) s = .next t ∧
      (ran = false → t = advance dt s) ∧
      (ran = true → passed = true →
        engineOf t e = { engineOf s e with tested := inGap (advance dt s) } ∧ t.log = s.log) ∧
      (ran = true → passed = false → (engineOf t e).st = 3 ∧ (engineOf t e).cause = 1 ∧
        (engineWorks (engineOf s e) = true → t.survey.failures = s.survey.failures ++ [e])) ∧
      t.survey.ctxs = s.survey.ctxs ∧ (∀ y, y ≠ e → engineOf t y = engineOf s y) ∧
      t = { advance dt s with survey := t.survey, log := t.log }) ∧
  (∀ (dt f g : Nat) (r : List Nat) (s : State), s.survey.failures = f :: r → (engineOf s f).group = some g →
    ∃ t, exec (.spareSubstitution dt) s = .next t ∧ t.survey.failures = r ∧
      (∀ e, idleSpare s = some e → e ≠ f → (engineOf t e).st = 2 ∧ (engineOf t e).group = some g ∧
        (engineOf t e).markers = (engineOf s f).markers.map (fun m => { m with reassigned := true }) ∧
        (engineOf t f).group = none ∧ (engineOf t f).markers = [] ∧ t.survey.lost = s.survey.lost ∧
        counterOf t .substitutions = counterNext .substitutions (counterOf s .substitutions) 1 ∧
        (∀ x, 240 * g ≤ x → x < 240 * g + 240 → (ctxOf s x).ph = .opened →
          ctxOf t x = { ctxOf s x with
            flags := { (ctxOf s x).flags with reassigned := true }, applied := 0, dropped := 0, converted := 0
            foreign := (ctxOf s x).kept, skipCheck := true, peaks := [{}, {}, {}, {}], prev := none, fresh := [] }) ∧
        (∀ x, (ctxOf s x).ph ≠ .opened ∨ x < 240 * g ∨ 240 * g + 240 ≤ x → ctxOf t x = ctxOf s x)) ∧
      (idleSpare s = none → t.survey.lost = s.survey.lost ++ [g] ∧ t.calib.run = none ∧
        (engineOf t f).group = none ∧ (engineOf t f).markers = [] ∧
        (∀ x, 240 * g ≤ x → x < 240 * g + 240 → (ctxOf s x).ph = .opened → (ctxOf t x).ph = .free) ∧
        (g < 64 → (engineOf s f).markers = [] → counterOf s (.discardedContexts f) < 2 ^ 32 → (∀ x y, (ctxOf s x).extra = some y → 15360 ≤ y) →
          counterOf t (.discardedContexts f) = counterNext (.discardedContexts f) (counterOf s (.discardedContexts f))
            ((List.range 240).countP (fun k => decide ((ctxOf s (240 * g + k)).ph = .opened))))))
/-- CONTOUR_START, CONTOUR_RECORD, CONTOUR_WATCHDOG and CONTOUR_SELF_TEST.  That a range is held at 317,000 mm, and from when the
watchdog counts a unit's own work, are the model's choices (notes/assumptions/28.md). -/
def Obligations.ContourUnitsServeTheOldest : Prop :=
  (∀ (dt unit corrected : Nat) (w : Work) (s : State), unit < 16 → (unitOf s unit).failed = false →
    (unitOf s unit).item = none →
    (∀ r, s.contour.again = w :: r → ∃ t, exec (.contourStart dt unit ⟨none, corrected⟩) s = .next t ∧
      (unitOf t unit).item = some w ∧ t.contour.again = r ∧
      (∀ x, w.ctx = some x → counterOf t (.correctableEcc (engineOfCtx s x)) =
        counterNext (.correctableEcc (engineOfCtx s x)) (counterOf s (.correctableEcc (engineOfCtx s x))) corrected) ∧
      (w.ctx = none → t.log = s.log) ∧
      t = { advance dt s with contour := t.contour, log := t.log }) ∧
    (∀ e, s.contour.again = [] → oldestQueue s = some (e, w) → ∃ t, exec (.contourStart dt unit ⟨none, corrected⟩) s = .next t ∧
      (unitOf t unit).item = some w ∧ (engineOf s e).closed = w :: (engineOf t e).closed ∧
      (∀ k v, k < 68 → (engineOf s k).closed.head? = some v → w.order ≤ v.order) ∧
      t = { advance dt s with contour := t.contour, survey := t.survey, log := t.log })) ∧
  (∀ (dt unit : Nat) (w : Work) (s : State), unit < 16 → (unitOf s unit).failed = false →
    (unitOf s unit).item = some w →
    (classified s (unitOf s unit) w = false ∨ allPosted s w.head = true → ∃ t, exec (.contourRecord dt unit) s = .next t ∧ (unitOf t unit).item = none ∧
      counterOf t .records = counterNext .records (counterOf s .records) 1 ∧
      (∀ x, w.ctx = some x → (ctxOf s x).copies = 0 → (ctxOf t x).ph = .free) ∧
      (let x := match w.ctx with | none => w.head | some k => ctxOf s k
       let p := pointOf s x
       let n := sheetOfParity s x.parity
       let bare : Prop := w.ctx = none ∨ x.cause = 4 ∨ (unitOf s unit).ecc = true
       ∀ o, sheetOutOf s n = some o → ∃ o' r, sheetOutOf t n = some o' ∧
         o'.waiting = o.waiting ++ [(x.channel / 24, x.bearing, r)] ∧
         o'.due = o.due.filter (fun d => decide (d ≠ (x.channel / 24, x.bearing, x.channel))) ∧
         r.channel = x.channel ∧ r.bearing = x.bearing ∧ r.planned = x.planned ∧ r.taken = x.taken ∧ r.flags = x.flags ∧
         r.offset = min 4095 ((x.openTime + 2 ^ 48 - o.bn % 2 ^ 48) % 2 ^ 48 / 25600) ∧
         r.echoes.Pairwise (fun e g => e.range ≤ g.range) ∧
         (r.echoes ≠ [] → ∃ b, r.echoes[r.primary]? = some b ∧
           ∀ e ∈ r.echoes, better (r.echoes.all (·.rainLike)) e b = false) ∧
         (bare → r.echoes = []) ∧
         (¬bare →
           (r.echoes.map (·.bin)).Perm ((x.peaks.filter (fun k => k.valid && passes p k.bin)).map (·.bin)) ∧
           ∀ e ∈ r.echoes, ∃ k ∈ x.peaks, ∃ a : Rat, k.valid = true ∧ passes p k.bin = true ∧ e.bin = k.bin ∧
             ((passing p).length = 1 → a = 0) ∧
             (let sv := survival (muOf p * (k.bin : Rat) + a)
              let bg := p.b * sv * x.taken / x.planned
              let sum := spanSum p bg (spanOf (passing p) k)
              let time := echoTime p k.bin bg
              e.widthPs = echoWidth sum ((coarseAt x k.bin : Rat) - bg) time.2 ∧
              e.width = (min 255 (roundRat (e.widthPs / 125))).toNat ∧ e.intensity = echoIntensity p sum sv ∧
              e.confidence = confidenceOf p.u (coarseAt x k.bin) (bg / p.u) ∧
              e.range = rangeOf (time.1 - (walkDelta p.walk e.intensity (e.widthPs - p.fired) : Rat) / 16) p.zero) ∧
             e.range ≤ 317000 ∧ e.intensity ≤ 4095 ∧ e.rainLike = rainLike s p e)) ∧
      t = { advance dt s with contour := t.contour, survey := t.survey, log := t.log }) ∧
    (classified s (unitOf s unit) w = true → allPosted s w.head = false → exec (.contourRecord dt unit) s = .next (advance dt s))) ∧
  (∀ (dt unit : Nat) (w : Work) (s : State), unit < 16 → (unitOf s unit).failed = false →
    (unitOf s unit).item = some w →
    (∀ x, ownWorkFrom (advance dt s) (unitOf s unit) w = some x → x + us 10 < s.now + dt →
      ∃ t, exec (.contourWatchdog dt unit) s = .next t ∧ (unitOf t unit).failed = true ∧ (unitOf t unit).item = none ∧
        t.contour.again = s.contour.again ++ [w] ∧
        counterOf t .contourFailures = counterNext .contourFailures (counterOf s .contourFailures) 1 ∧
        t = { advance dt s with contour := t.contour, log := t.log }) ∧
    (classified s (unitOf s unit) w = true → allPosted s w.head = false →
      exec (.contourWatchdog dt unit) s = .next (advance dt s))) ∧
  (∀ (dt unit : Nat) (s : State), unit < 16 → inGap s = true → (unitOf s unit).failed = false →
    (unitOf s unit).item = none → (unitOf s unit).freed + us 1 ≤ s.now + dt →
    (exec (.contourSelfTest dt unit true true) s = .next (advance dt s)) ∧
    ∃ t, exec (.contourSelfTest dt unit true false) s = .next t ∧ (unitOf t unit).failed = true ∧
      t.contour.again = s.contour.again ∧ t = { advance dt s with contour := t.contour, log := t.log })

/-- POINT_PACKET_RELEASE, SHEET_TRAILER, SAFE_STOP_TRAILER and DUMP_COPY.  What counts as waiting for the read ports, and that
nothing is sent while the link is declared down, are the model's choices (notes/assumptions/46.md, notes/assumptions/9.md). -/
def Obligations.PacketiserReleasesInOrder : Prop :=
  (∀ (dt g β : Nat) (o : SheetOut) (r : List SheetOut) (s : State), g < 64 → s.contour.sheets = o :: r →
    o.trailed = false → releasable o g = some β →
    let l := recordsAt o g β
    let p := streamPkt 0x02 o.sheet (pointBody o g β l)
    let sends := o.session ≠ none ∧ s.link.downDeclared = false ∧ bit g o.state.cut = false ∧
      bufferFits s (pktBytes p) = true
    ∃ t o', exec (.pointPacketRelease dt g) s = .next t ∧ t.contour.sheets.head? = some o' ∧
      o'.released = o.released ++ l ∧
      o'.waiting = o.waiting.filter (fun w => decide (¬(w.1 = g ∧ w.2.1 = β))) ∧
      (sends → t.link = { s.link with q4 := s.link.q4 ++ [p] } ∧ o'.packets = o.packets + 1 ∧
        o'.records = o.records + l.length) ∧
      (¬sends → t.link = s.link ∧ o'.packets = o.packets) ∧
      t = { advance dt s with contour := t.contour, link := t.link, log := t.log }) ∧
  (∀ (dt : Nat) (o : SheetOut) (r : List SheetOut) (s : State) (c : Instr), s.contour.sheets = o :: r →
    o.trailed = false → o.due = [] → o.waiting = [] →
    (c = .sheetTrailer dt ∧ o.ended = true) ∨ (c = .safeStopTrailer dt ∧ s.phase = .safeStop ∧ noneOpen s = true) →
    ∃ t, exec c s = .next t ∧
      (o.session ≠ none → s.link.downDeclared = false →
        t.link = { s.link with q4 := s.link.q4 ++ [streamPkt 0x03 o.sheet (trailerBody o)] } ∧
        ∃ o', t.contour.sheets.head? = some o' ∧ o'.trailed = true ∧ o'.sheet = o.sheet) ∧
      (o.session = none → t.link = s.link ∧ ∀ q ∈ t.contour.sheets, q.sheet ≠ o.sheet) ∧
      t = { advance dt s with contour := t.contour, link := t.link, recd := t.recd }) ∧
  (∀ (dt x p sheet part : Nat) (r : List (Nat × Nat × Nat × Nat)) (s : State),
    s.survey.dumpQueue = (x, p, sheet, part) :: r →
    (portTaken s = true → exec (.dumpCopy dt) s = .next (advance dt s)) ∧
    (portTaken s = false → ∃ t, exec (.dumpCopy dt) s = .next t ∧ t.survey.dumpQueue = r ∧
      (s.link.downDeclared = false → s.sec.session ≠ none → ∃ d, t.link = { s.link with q5 := s.link.q5 ++ [d] } ∧ d.type = 0x04 ∧ d.tagged = true ∧
        d.pool = some p ∧ d.body = leBytes 8 (dumpWord (ctxOf s x) sheet part) ++ copyBytes s x part) ∧
      (s.link.downDeclared = true ∨ s.sec.session = none → t.link = s.link ∧ p ∉ t.survey.dumpUsed) ∧
      t = { advance dt s with survey := t.survey, link := t.link, dma := t.dma, log := t.log }))

/-- TRAVERSE_FRAME, DIAGNOSTIC_SLOT and DIAGNOSTIC_WINDOW_CLOSE. -/
def Obligations.GapDiagnostics : Prop :=
  (∀ (dt : Nat) (s : State), inGap s = true → s.chain.sent = false → s.seq.bn + us 50 ≤ s.now + dt →
    lineFree (advance dt s) = true →
    ∃ t, exec (.traverseFrame dt) s = .next t ∧ t.chain.sent = true ∧ t.chain.count = (s.chain.count + 1) % 4 ∧
      t.chain.frame = (List.range s.legend.boards.length).map (boardWord s) ∧
      t.chain.frameAt = some (s.seq.bn + us 50) ∧ t.chain.window = windowRuns s ∧
      (∀ b, b < 32 → (bankOf t b).enable = chainEnable s b) ∧
      t = { advance dt s with banks := t.banks, chain := t.chain }) ∧
  (∀ (dt b : Nat) (high rises : List Nat) (firings : List (List (Nat × Nat))) (measured : Option Nat) (s : State), b < 32 →
    firings.length = 48 → (∀ l ∈ firings, ∀ f ∈ l, f.1 < 16) →
    inGap s = true → s.chain.window = true → ((windowOrder s).drop s.chain.visited.length).head? = some b →
    slotEnd (advance dt s) ≤ s.now + dt → slotFits (advance dt s) = true →
    let u := advance dt s
    let refl := (List.range 48).map (fun i => diagEvents u (boardOf s b) (48 * b + i) (firings.getD i []))
    let cut : Prop := s.chain.slotLit = true ∧ slotCut b measured u ≠ none
    let short := high.any (fun x => decide (x ≤ us 2))
    let edge := rises.any (fun x => decide (us 2 + ns 2 ≤ x ∧ x ≤ us 2 + ns 40))
    ∃ t, exec (.diagnosticSlot dt b high rises firings measured) s = .next t ∧ t.chain.visited = s.chain.visited ++ [b] ∧
      (bankOf t b).outcome = (bankOf s b).outcome ∧ t.chain.slotLit = false ∧
      (padsPass s b = false ∨ dipInSlot u = true ∨ cut → (bankOf t b).windowOutcome = some 5 ∧
        t.chans = s.chans ∧ (s.chain.slotLit = false → t.pulses = s.pulses)) ∧
      (padsPass s b = true → dipInSlot u = false → ¬cut → boardOf s b ∉ s.chain.muxLost → s.grat.outputs = true →
        (bankOf t b).windowOutcome = some (slotOutcome (bankOf s b).sense short edge
          (decide ((boardTypeAt s (boardOf s b)).nRef ≤ refl.countP (fun n => decide (0 < n))))) ∧
        (∀ i, i < 48 → (chanOf t (48 * b + i)).diag = refl.getD i 0) ∧
        (s.chain.slotLit = false →
          t.pulses.map (fun p => (p.bank, p.at_, p.width)) = [(b, padEdge u b (diagFire u), ns 40)])) ∧
      (s.chain.slotLit = true → t.pulses = s.pulses) ∧
      t = { advance dt s with banks := t.banks, chans := t.chans, chain := t.chain, pulses := t.pulses }) ∧
  (∀ (dt : Nat) (s : State), windowEnds (advance dt s) = true →
    ∃ t, exec (.diagnosticWindowClose dt) s = .next t ∧ t.chain.window = false ∧
      (∀ b o, b < 32 → (bankOf s b).windowOutcome = some o → b ∉ slotsLeft s →
        (bankOf t b).outcome = o ∧
        (o = 4 → (bankOf t b).confirmed = some 3) ∧
        ((o = 1 ∨ o = 2) → (bankOf s b).last = o → 1 ≤ (bankOf s b).run → (bankOf s b).base ≠ o →
          (bankOf t b).confirmed = some o) ∧
        (o = 5 → (bankOf t b).confirmed = (bankOf s b).confirmed ∧ (bankOf t b).run = (bankOf s b).run ∧
          (bankOf t b).last = (bankOf s b).last)) ∧
      t.seq.startWindows =
        (if s.phase = .spinUp ∧ bothPermits s = true then s.seq.startWindows + 1 else s.seq.startWindows) ∧
      t = { advance dt s with banks := t.banks, chain := t.chain, seq := t.seq })

/-- CORE_SEGMENT, OPTICAL_SEGMENT and DATUM_EDGE_PAIR. -/
def Obligations.CalibrationSegments : Prop :=
  (∀ (dt hitTaps : Nat) (hits : List (Nat × List Nat)) (firings : List (Nat × List (List (Nat × Nat)))) (r : Run) (s : State),
    s.calib.run = some r →
    coreDue (advance dt s) = true → runWorks s r = true →
    ∃ t q, exec (.coreSegment dt hitTaps hits firings) s = .next t ∧ t.calib = { s.calib with run := some q } ∧
      q.kind = r.kind ∧ q.pulses = r.pulses ∧ q.pairs = r.pairs ∧
      q.hits = (if r.step = 2 then (addHits hits r).hits else r.hits) ∧
      (r.step = 2 → (q.step = 2 ↔ tapDone (addHits hits r) = false)) ∧
      t.chain = { s.chain with coreTaken := true } ∧
      t = { advance dt s with calib := t.calib, chain := t.chain }) ∧
  (∀ (dt : Nat) (events : List (Nat × List (Nat × Nat × Nat))) (light : List (Nat × Nat)) (widths : List (Nat × Int))
    (r : Run) (s : State),
    let u := advance dt s
    s.calib.run = some r → opticalDue u = true → bothPermits s = true → refWorks u r = true →
    s.safety.a.nearVeto = [] → s.safety.b.nearVeto = [] →
    let pads (l : List (Nat × Nat)) : List FirePulse := (l.filter (fun x => padsPass u x.1)).map (fun x =>
      { bank := x.1, at_ := padEdge u x.1 (calFire u x.1 x.2), width := ns 2, code := some (diagCode u x.1) })
    (∀ (n : Nat) (x : Nat × Nat) (d : Side), (calShots u)[n]? = some x →
      overLimit { u with pulses := pads ((calShots u).take n) } (sideOf u d) x.1 (pulseEnergy u (sideOf u d) x.1)
        (calFire u x.1 x.2) = false) →
    let fired := (calShots u).filter (fun x => padsPass u x.1)
    ∃ t, exec (.opticalSegment dt events light widths) s = .next t ∧
      t.pulses = pads (calShots u) ∧
      (s.bias.stepped = true → t.calib = s.calib) ∧
      (s.bias.stepped = false → ∃ q, t.calib = { s.calib with run := some q } ∧
        q.pulses = (takeReadings u fired events light widths r).pulses ∧
        q.readings = (takeReadings u fired events light widths r).readings ∧
        q.refs = (takeReadings u fired events light widths r).refs) ∧
      t.chain = { s.chain with opticalTaken := true } ∧ t.phase = s.phase ∧ t.safety = s.safety ∧
      t = { advance dt s with calib := t.calib, banks := t.banks, chain := t.chain, pulses := t.pulses }) ∧
  (∀ (dt a b : Nat) (r : Run) (s : State), s.calib.run = some r → r.kind = 4 → r.step = 1 →
    ∃ t q, exec (.datumEdgePair dt (a, b)) s = .next t ∧
      q.pairs = r.pairs ++ [16 * (((b / 16 : Nat) : Int) - ((a / 16 : Nat) : Int))] ∧
      q.step = (if 1024 ≤ r.pairs.length + 1 then 2 else 1) ∧
      t.calib = { s.calib with run := some q, sheetsNoPair := 0 } ∧ t = { advance dt s with calib := t.calib })

/-- CALIBRATION_PROCESSING and CALIBRATION_ABANDON. -/
def Obligations.CalibrationJudgement : Prop :=
  (∀ (dt : Nat) (norOk : Bool) (r : Run) (s : State), s.calib.run = some r → r.step = 7 → s.calib.candidate = none →
    ∃ t, exec (.calibrationProcessing dt norOk) s = .next t ∧
      t.calib.base = s.calib.base ∧ t.calib.live = s.calib.live ∧ t.calib.set0 = s.calib.set0 ∧
      t.calib.set1 = s.calib.set1 ∧ t.nor.mem = s.nor.mem ∧
      (judgeRun (advance dt s) r (candidateOf (advance dt s) r) ≠ 0 →
        t.calib.run = none ∧ t.calib.result = judgeRun (advance dt s) r (candidateOf (advance dt s) r) ∧
        t.calib.candidate = none ∧ t.nor = s.nor ∧
        counterOf t .runsRejected = counterNext .runsRejected (counterOf s .runsRejected) 1) ∧
      (judgeRun (advance dt s) r (candidateOf (advance dt s) r) = 0 → norOk = true → s.nor.present = true →
        t.calib.run = some r ∧ t.calib.candidate = some (candidateOf (advance dt s) r) ∧
        ∃ o, t.nor.jobs = s.nor.jobs ++ [o] ∧ o.erasing = true ∧
          o.job = .calSlot (if s.calib.calibrated then 1 - s.calib.slot else 0) ∧
          o.addr = calAddr (if s.calib.calibrated then 1 - s.calib.slot else 0)) ∧
      (judgeRun (advance dt s) r (candidateOf (advance dt s) r) = 0 → norOk = false →
        t.calib.run = none ∧ t.calib.result = 8 ∧ t.calib.candidate = none ∧ t.nor = s.nor)) ∧
  (∀ (dt : Nat) (r : Run) (s : State), s.calib.run = some r → r.kind ≠ 4 → ms 200 ≤ gapTime (advance dt s) r →
    ∃ t, exec (.calibrationAbandon dt) s = .next t ∧ t.calib.run = none ∧ t.calib.result = 1 ∧
      counterOf t .runsAbandoned = counterNext .runsAbandoned (counterOf s .runsAbandoned) 1 ∧
      t.calib = { s.calib with run := none, result := 1, candidate := none } ∧
      t = { advance dt s with calib := t.calib, nor := t.nor, log := t.log })

/-- SENSOR_READING. -/
def Obligations.SensorReadings : Prop :=
  (∀ (dt : Nat) (l : List (Option Int)) (s : State), l.length = 16 → s.phase ≠ .reset →
    (∀ x, s.thermal.lastRead = some x → x + (if s.thermal.fast.isSome then ms 1 else ms 10) ≤ s.now + dt) →
    ∃ t, exec (.sensorReading dt l) s = .next t ∧
      (∀ i v, i < 16 → l.getD i none = some v → Table.getD 0 t.thermal.ts i = v) ∧
      (∀ i ∈ s.thermal.faulty, i ∈ t.thermal.faulty) ∧
      (∀ i, i < 16 → l.getD i none = none → i ∈ t.thermal.faulty) ∧
      t.thermal.tj = junctionTemp t.thermal.faulty l ∧
      (∀ v, t.thermal.tj = some v →
        t.thermal.hot = (if 540 ≤ v then s.thermal.hot + 1 else 0) ∧
        (480 ≤ v → 2 ≤ t.thermal.level) ∧ (v < 420 → t.thermal.level = 0) ∧
        (540 ≤ v → 1 ≤ s.thermal.hot → t.thermal.level = 3)) ∧
      (t.thermal.shutdown = true ↔ t.thermal.tj = none ∨ t.thermal.level = 3) ∧
      (s.thermal.shutdown = false → t.thermal.shutdown = true → ∀ d, StoppedBy s t d 10) ∧
      (s.grat.st ≠ .coasting → t.grat = (advance dt s).grat) ∧
      t.thermal.lastRead = some (s.now + dt) ∧ (∀ v, t.thermal.tj = some v → 400 ≤ v → t.thermal.fast = some (s.now + dt)) ∧
      (s.thermal.shutdown = true ∨ t.thermal.shutdown = false →
        t.banks = s.banks ∧ t.chans = s.chans ∧ t.pulses = s.pulses ∧ t.phase = s.phase ∧ t.safety.a = s.safety.a ∧
          t.safety.b = s.safety.b) ∧
      t.survey = s.survey ∧ t.contour = s.contour) ∧
  (∀ (dt x : Nat) (l : List (Option Int)) (s : State), l.length = 16 → s.thermal.lastRead = some x →
    s.now + dt < x + (if s.thermal.fast.isSome then ms 1 else ms 10) →
    exec (.sensorReading dt l) s = .next (advance dt s))

/-- BIAS_OVERVOLTAGE, BIAS_READBACK and URGENT_REQUEST. -/
def Obligations.BiasFaultsAndUrgentRequests : Prop :=
  (∀ (dt : Nat) (s : State), s.phase ≠ .reset → s.bias.fault = 0 →
    ∃ t, exec (.biasOvervoltage dt) s = .next t ∧ t.bias = { s.bias with on := false, duty := 0, fault := 1 } ∧
      t.seq.stopped = true ∧ t.seq.stop = stopDue 2 false s.seq ∧ t.calib.run = none ∧
      (s.phase = .mode ∨ s.phase = .safeStop → t.seq.biasHoldDue = true) ∧
      (s.phase = .start ∨ s.phase = .spinUp → t.seq.startFault = true ∧ t.seq.biasHoldDue = s.seq.biasHoldDue) ∧
      t = { advance dt s with bias := t.bias, seq := t.seq, calib := t.calib, nor := t.nor, log := t.log }) ∧
  (∀ (dt : Nat) (supply : Bool) (s : State), s.phase ≠ .reset →
    ∃ t, exec (.urgentRequest dt supply) s = .next t ∧
      (supply ∈ s.aux.urgent → t = advance dt s) ∧
      (supply ∉ s.aux.urgent → s.aux.urgent.length < 4 →
        t.aux = { s.aux with urgent := s.aux.urgent ++ [supply] } ∧ t = { advance dt s with aux := t.aux }) ∧
      (supply ∉ s.aux.urgent → 4 ≤ s.aux.urgent.length → t.aux = s.aux ∧
        counterOf t .urgentRefused = counterNext .urgentRefused (counterOf s .urgentRefused) 1)) ∧
  (∀ (dt : Nat) (s : State), readbackDue (advance dt s) = true → s.aux.urgent.length < 4 →
    ∃ t, exec (.biasReadback dt) s = .next t ∧ false ∈ t.aux.urgent ∧
      t.aux = { s.aux with urgent := t.aux.urgent } ∧ t.bias.requestAt = s.now + dt ∧
      t.bias = { s.bias with requestAt := t.bias.requestAt, stepAt := t.bias.stepAt } ∧
      t = { advance dt s with aux := t.aux, bias := t.bias })

/-- AUX_CONVERSION_DONE. -/
def Obligations.AuxiliaryConversions : Prop :=
  ∀ (dt vref : Nat) (vin : Int) (ov : Bool) (c : Conv) (s : State), s.aux.cur = some c → convEnd c ≤ s.now + dt →
    ∃ t, exec (.auxConversionDone dt vin vref ov) s = .next t ∧
      t.aux.cur ≠ none ∧ t.now = s.now + dt ∧ t.chans = s.chans ∧ t.banks = s.banks ∧ t.survey = s.survey ∧
      t.contour = s.contour ∧ t.link = s.link ∧ t.motor = s.motor ∧ t.recd = s.recd ∧
      (c.input < 16 → (auxEntry s c.input).range = 0 → c.range < 3 → overRange (convCode vin vref c.range) = true →
        t.aux.ins = s.aux.ins ∧
        (s.aux.serving = [] → s.aux.urgent = [] →
          ∃ k, t.aux.cur = some k ∧ k.input = c.input ∧ k.range = 3 ∧ k.again = true ∧ k.settle = 0 ∧ k.begun = convEnd c)) ∧
      ((auxEntry s c.input).range ≠ 0 ∨ 3 ≤ c.range ∨ overRange (convCode vin vref c.range) = false →
        c.input < 17 →
        (auxOf t c.input).code = (if s.aux.refFault then 524287 else convCode vin vref c.range) ∧
        (auxOf t c.input).tag = (if s.aux.refFault then 3 else c.range) ∧
        (auxOf t c.input).time = localAt (advance dt s) (convEnd c) % 2 ^ 48 ∧ (auxOf t c.input).sampled = true ∧
        (auxOf t c.input).overvoltage = ov ∧ (auxOf t c.input).urgent = c.urgent ∧
        (c.input < 16 → (auxEntry s c.input).range = 0 → s.aux.refFault = false →
          (auxOf t c.input).range = rangeAfter c.range (convCode vin vref c.range)) ∧
        (∀ n, n ≠ c.input → (auxOf t n).code = (auxOf s n).code ∧ (auxOf t n).tag = (auxOf s n).tag ∧
          (auxOf t n).time = (auxOf s n).time) ∧
        (s.aux.serving = [] → s.aux.urgent = [] → s.aux.repeat_ = none →
          t.aux.cur.map (fun k => k.input) = some (cycleFrom s s.aux.cycle))) ∧
      (c.input = 17 → t.aux.refFault = refBad (convCode vin vref c.range) ∧ t.aux.xRef = convCode vin vref c.range) ∧
      (c.input ≠ 17 → t.aux.refFault = s.aux.refFault ∧ t.aux.xRef = s.aux.xRef) ∧
      (∀ k r, s.aux.serving = k :: r → (∃ v, t.aux.cur = some v ∧ v.input = k.input ∧ v.range = k.range ∧
        v.integrate = k.integrate ∧ v.begun = convEnd c) ∧ t.aux.serving = r ∧ t.aux.urgent = s.aux.urgent) ∧
      (∀ q r, s.aux.serving = [] → s.aux.urgent = q :: r → t.aux.urgent = r ∧
        t.aux.cur.map (fun k => k.input) = some (if q then s.legend.scan.supplyCh else 16))

/-- NEARDIST_VALUE_READY, NEARDIST_PERIOD and NEARDIST_NO_DATA_TIMEOUT. -/
def Obligations.DistanceOutput : Prop :=
  (∀ (dt : Nat) (o : SheetOut) (d : DistRec) (s : State), readySheet s = some o → distOf s o.mode = some d →
    ∃ t, exec (.neardistValueReady dt) s = .next t ∧ t.near.lastValue = s.now + dt ∧ t.near.out = s.near.out ∧
      ((∃ k z, d.zones[k]? = some z ∧ zoneBlind s o z k = true) → t.near.next = .noData) ∧
      ((∀ k z, d.zones[k]? = some z → zoneBlind s o z k = false) →
        (o.nearest = [] → t.near.next = .clear) ∧
        (∀ e ∈ o.nearest, ∃ r z, t.near.next = .object r z ∧ (z, r) ∈ o.nearest ∧ r ≤ e.2 ∧ (e.2 = r → z ≤ e.1))) ∧
      t = { advance dt s with near := t.near, contour := t.contour, log := t.log }) ∧
  (∀ (dt : Nat) (s : State), s.phase ≠ .reset → nearEdge (advance dt s) ≤ s.now + dt →
    ∃ t, exec (.neardistPeriod dt) s = .next t ∧ t.near.out = nearShown s ∧ t.near.edgeAt = some (nearEdge (advance dt s)) ∧ t.near.next = s.near.next ∧
      t.near.lastValue = s.near.lastValue ∧
      ((s.phase ≠ .mode ∨ s.seq.mode = 5 ∨ distOf s s.seq.mode = none) → t.near.out = .noData) ∧
      ((distInForce s).freq = false →
        t.near.period = 1000 * (distInForce s).tp ∧
        (t.near.out = .clear → t.near.high = 950 * (distInForce s).tp) ∧
        (t.near.out = .noData → t.near.high = 50 * (distInForce s).tp) ∧
        (∀ r z, t.near.out = .object r z →
          let exact : Rat := 1000 * (distInForce s).tp * (1 / 10 + 4 / 5 * (r : Rat) / (10 * (distInForce s).dMax : Nat))
          exact - 1 / 2 < t.near.high ∧ (t.near.high : Rat) ≤ exact + 1 / 2)) ∧
      ((distInForce s).freq = true →
        t.near.high = t.near.period / 2 ∧
        (∀ f : Rat, 0 < f → f = nearFreq (distInForce s) t.near.out →
          1000000 / f - 1 / 2 < t.near.period ∧ (t.near.period : Rat) ≤ 1000000 / f + 1 / 2)) ∧
      t = { advance dt s with near := t.near }) ∧
  (∀ (dt : Nat) (s : State), s.phase ≠ .reset → s.near.lastValue + 3 * sheetTaps (advance dt s) ≤ s.now + dt →
    ∃ t, exec (.neardistNoDataTimeout dt) s = .next t ∧ t.near = { s.near with next := .noData } ∧
      t = { advance dt s with near := t.near })
/-- IMAGE_VERIFY. -/
def Obligations.ImageVerification : Prop :=
  (∀ (dt : Nat) (nor : Option NorPart) (s : State), s.phase = .start → s.image.judged = false →
    ∃ t, exec (.imageVerify dt nor) s = .next t ∧ t.image.judged = true ∧ t.nor.present = nor.isSome ∧
      (coverUsed s.safety.a = false → coverUsed s.safety.b = false → t.phase = .start) ∧
      (t.phase = .start ∨ (t.phase = .safeStop ∧ ∃ d, coverUsed (sideOf s d) = true ∧ 8 ∈ (sideOf t d).causes)) ∧
      t.image.accepted = s.image.accepted ∧ t.sec.d = unwrapKey s.otp ∧
      (unwrapKey s.otp = none → t.otp = s.otp ∧ t.sec.result = 8 ∧ t.sec.claim = claimState s ∧ t.nor.mem = s.nor.mem) ∧
      (norSuits nor = false → t.otp = s.otp ∧ t.image.load = 2 ∧ t.nor.mem = s.nor.mem) ∧
      (unwrapKey s.otp ≠ none → norSuits nor = true →
        let v := { s with sec := { s.sec with d := unwrapKey s.otp } }
        t.sec.result = imageResult s (imageBytes s) ∧
        (startRecords v ≠ [] → t.sec.startCounter = (((startRecords v).map (·.2)).foldl max 0 + 1) % 2 ^ 64) ∧
        (imageResult s (imageBytes s) ≠ 0 → t.otp = s.otp ∧ t.sec.claim = claimState s ∧ t.image.load = 1 ∧
          t.image.loaded = s.image.loaded) ∧
        (imageResult s (imageBytes s) = 0 → t.otp.claimed = true ∧ t.sec.claim = 2 ∧ t.otp.wrapped = s.otp.wrapped ∧
          (s.otp.claimed = false →
            t.otp.hash = s.otp.hash ||| keyHash ((imageBytes s).take 256) ∧ t.otp.debugLock = true) ∧
          (s.otp.claimed = true → t.otp.hash = s.otp.hash ∧ t.otp.debugLock = s.otp.debugLock) ∧
          t.otp.version = s.otp.version ||| (2 ^ leAt ((imageBytes s).take 256) 21 1 - 1)) ∧
        t.image.failedSlots = [0, 1].countP (fun i => !calEmpty v i && (calSlot v i).isNone) ∧
        (∀ i k, i < 2 → calSlot v i = some k →
          (∀ j m, j < 2 → j ≠ i → calSlot v j = some m → m.seq < k.seq ∨ (m.seq = k.seq ∧ i = 0)) →
          t.calib.calibrated = true ∧ t.calib.slot = i ∧ t.calib.base = k ∧ t.calib.live = k ∧ t.calib.set0 = k ∧
            t.calib.set1 = k) ∧
        (calSlot v 0 = none → calSlot v 1 = none →
          t.calib.calibrated = s.calib.calibrated ∧ t.calib.live = s.calib.live ∧ t.calib.slot = s.calib.slot) ∧
        (imageResult s (imageBytes s) = 0 →
          let img := imageBytes s
          let h := img.take 256
          let walk := walkRecs (leAt h 22 2 + 1) (slice img 256 (leAt h 8 4 - 320)) [] 0 (leAt h 22 2)
          (∀ n type inst, walk = .error (n, type, inst) →
            t.image.load = n ∧ t.image.type = type ∧ t.image.inst = inst ∧ t.image.loaded = s.image.loaded ∧
            (n = 3 ∨ (n = 4 ∧ recListed type inst = false) ∨ (n = 5 ∧ recListed type inst = true ∧ type ≠ 0))) ∧
          (∀ rs, walk = .ok rs →
            (∀ r ∈ rs, recListed r.type r.inst = true ∧ recLengthOk r = true ∧ r.type ≠ 0) ∧
            rs.Pairwise (fun a b => (a.type, a.inst) ≠ (b.type, b.inst)) ∧
            (∀ type inst, missingRec rs = some (type, inst) → recOf rs type inst = none ∧
              t.image.load = 6 ∧ t.image.type = type ∧ t.image.inst = inst ∧ t.image.loaded = s.image.loaded) ∧
            (missingRec rs = none →
              let l := legendOf rs (leAt h 24 8) (leAt h 21 1)
              let conflict : Prop := l.bias.vHi ≤ l.bias.vLo ∨ l.bias.vMax ≤ l.bias.vMin ∨ l.bias.vOv < l.bias.vMax + 200
              let strapped : Prop := ∀ d, (sideOf s d).straps = l.safety.profile
              let block := safetyOk ((recOf rs 32 0).getD [])
              t.image.clamped = min 65535 (rs.map recClamped).sum ∧
              (conflict → t.image.load = 9 ∧ t.image.type = 2 ∧ t.image.loaded = s.image.loaded) ∧
              (¬conflict → block = false → t.image.load = 7 ∧ t.image.type = 32 ∧ t.image.loaded = s.image.loaded) ∧
              (¬conflict → block = true → ¬strapped →
                t.image.load = 8 ∧ t.image.type = 32 ∧ t.image.loaded = s.image.loaded) ∧
              (¬conflict → block = true → strapped → t.image.load = 0 ∧ t.image.loaded = true ∧ t.legend = l)))))) ∧
  (∀ (dt : Nat) (nor : Option NorPart) (s : State), s.phase = .start → s.image.judged = true →
    exec (.imageVerify dt nor) s = .next (advance dt s))

/-- IMAGE_ACCEPT.  That the auxiliary converter starts here and that a motor fault is cleared are the model's choices
(notes/assumptions/26.md, notes/assumptions/30.md). -/
def Obligations.ImageAcceptance : Prop :=
  (∀ (dt : Nat) (s : State), s.phase = .start → s.image.loaded = true → s.grat.everLocked = true →
    s.image.accepted = false →
    ∃ t, exec (.imageAccept dt) s = .next t ∧ t.phase = .spinUp ∧ t.image = { s.image with accepted := true } ∧
      (∀ d, (sideOf t d).motEn = true ∧ (sideOf t d).inWindow = false ∧ (sideOf t d).gapOk = false ∧
        (sideOf t d).permit = (sideOf s d).permit ∧ (sideOf t d).stopped = (sideOf s d).stopped) ∧
      t.motor.torque = true ∧ t.motor.settled = false ∧ t.motor.rampStart = some (s.now + dt) ∧ t.motor.fault = false ∧
      t.seq.sheetOpen = false ∧ t.seq.timingBoundaries = 0 ∧ t.seq.startWindows = 0 ∧ t.seq.sheet = s.seq.sheet ∧
      (s.bias.fault = 0 → t.bias.on = true ∧ (s.bias.on = false → t.bias.duty = dutyOf t t.bias.vTarget)) ∧
      (s.bias.fault ≠ 0 → t.bias.on = s.bias.on ∧ t.bias.duty = s.bias.duty) ∧
      t.aux.cur ≠ none ∧ t.grat.clkOutArmed = true ∧ t.otp = s.otp ∧ t.nor = s.nor ∧ t.legend = s.legend ∧
      t.survey = s.survey ∧ t.contour = s.contour ∧ t.link = s.link) ∧
  (∀ (dt : Nat) (s : State), s.phase = .start → (s.image.loaded = false ∨ s.grat.everLocked = false) →
    exec (.imageAccept dt) s = .next (advance dt s))
/-- HOST_HELLO, HOST_FINISH, HOST_FINISH_TIMEOUT and HOST_CLOSE on accepted bodies, and PACKET_TRANSMIT of a device finish; `u` is the state the receiver's checks
leave.  That a refused hello drops an establishment that runs, and what a close drops, are the model's choices
(notes/assumptions/36.md). -/
def Obligations.SessionEstablishment : Prop :=
  (∀ (dt : Nat) (codes : List Nat) (rd : Bool) (body : List Byte) (s u : State), Received 0x90 codes rd body (advance dt s) u →
    ∃ t, exec (.hostHello dt codes rd) s = .next t ∧ t.sec.session = u.sec.session ∧
      (helloReason (leAt body 7 1) (leAt body 40 32, leAt body 72 32) u = 0 →
        t.sec.number = (u.sec.number + 1) % 2 ^ 32 ∧
        ∃ h, t.sec.hello = some h ∧ h.session = t.sec.number ∧ h.key = leAt body 7 1 ∧
          h.hostPub = (leAt body 40 32, leAt body 72 32) ∧ h.at_ = none) ∧
      (helloReason (leAt body 7 1) (leAt body 40 32, leAt body 72 32) u ≠ 0 →
        t.sec.hello = none ∧ t.sec.number = u.sec.number ∧
        counterOf t .sessionRefusals = counterNext .sessionRefusals (counterOf u .sessionRefusals) 1) ∧
      (u.image.accepted = true → (∃ b, u.sec.blockedUntil = some b ∧ u.now < b) → t.sec.hello = none) ∧
      (∀ x l, u.sec.refusals = x :: l → l.length = 6 → (∀ y ∈ x :: l, u.now < y + sec 60) →
        helloReason (leAt body 7 1) (leAt body 40 32, leAt body 72 32) u = 3 →
        t.sec.blockedUntil = some (x + sec 60))) ∧
  (∀ (dt : Nat) (codes : List Nat) (rd : Bool) (body : List Byte) (s u : State), Received 0x91 codes rd body (advance dt s) u →
    ∃ t, exec (.hostFinish dt codes rd) s = .next t ∧ t.sec.hello = none ∧
      t.sec.session = u.sec.session ∧
      (u.sec.hello = none → t.sec.next = u.sec.next ∧
        counterOf t .sessionRefusals = counterNext .sessionRefusals (counterOf u .sessionRefusals) 1) ∧
      (∀ h y, u.sec.hello = some h → h.at_ = some y → y + ms 100 < u.now → t.sec.next = u.sec.next) ∧
      (∀ h x l, u.sec.hello = some h → u.sec.refusals = x :: l → l.length = 6 → (∀ y ∈ x :: l, u.now < y + sec 60) →
        ((∃ y, h.at_ = some y ∧ y + ms 100 < u.now) ∨
          ecdsaVerify (Table.getD (0, 0) u.legend.keys h.key) (sha256 (h.th ++ h.sig)) (leAt body 0 32) (leAt body 32 32)
            = false) →
        t.sec.blockedUntil = some (x + sec 60)) ∧
      (∀ h, u.sec.hello = some h →
        ecdsaVerify (Table.getD (0, 0) u.legend.keys h.key) (sha256 (h.th ++ h.sig)) (leAt body 0 32) (leAt body 32 32)
          = false → t.sec.next = u.sec.next) ∧
      (∀ h z, u.sec.hello = some h → (∀ y, h.at_ = some y → u.now ≤ y + ms 100) →
        ecdsaVerify (Table.getD (0, 0) u.legend.keys h.key) (sha256 (h.th ++ h.sig)) (leAt body 0 32) (leAt body 32 32)
          = true → ecdh h.eph h.hostPub = some z →
        ∃ k, t.sec.next = some k ∧ k.number = h.session ∧ k.ctrDown = 0 ∧ k.ctrUp = none ∧
          k.kDown = hkdfExpand (hkdfExtract (h.hostNonce ++ h.devNonce) (leBytes 32 z)) (ascii "etust down") 32 ∧
          k.kUp = hkdfExpand (hkdfExtract (h.hostNonce ++ h.devNonce) (leBytes 32 z)) (ascii "etust up") 32)) ∧
  (∀ (dt : Nat) (p : Pkt) (l : Link) (k : Session) (s : State), laneFree (advance dt s) = true →
    takeDue (advance dt s) = some (p, l) → p.type = 0x11 → p.stream = none → p.tagged = false → s.sec.next = some k →
    ∃ t, exec (.packetTransmit dt) s = .next t ∧ t.sec.session = some k ∧ t.sec.next = none ∧
      counterOf t .sessions = counterNext .sessions (counterOf s .sessions) 1) ∧
  (∀ (dt : Nat) (p : Pkt) (l : Link) (h : Hello) (s : State), laneFree (advance dt s) = true →
    takeDue (advance dt s) = some (p, l) → p.type = 0x10 → p.stream = none → p.tagged = false → s.sec.hello = some h →
    h.session = leAt p.body 4 4 →
    ∃ t, exec (.packetTransmit dt) s = .next t ∧ t.sec.hello = some { h with
      at_ := some (if s.link.down = .asleep then s.now + dt + symTaps 260 else s.now + dt) }) ∧
  (∀ (dt : Nat) (h : Hello) (s : State), s.sec.hello = some h →
    ∃ t, exec (.hostFinishTimeout dt) s = .next t ∧ t.sec.session = s.sec.session ∧
      (∀ y, h.at_ = some y → y + ms 100 ≤ s.now + dt → t.sec.hello = none ∧
        counterOf t .sessionRefusals = counterNext .sessionRefusals (counterOf s .sessionRefusals) 1 ∧
        (∀ x l, s.sec.refusals = x :: l → l.length = 6 → (∀ z ∈ x :: l, s.now + dt < z + sec 60) →
          t.sec.blockedUntil = some (x + sec 60))) ∧
      (h.at_ = none ∨ (∃ y, h.at_ = some y ∧ s.now + dt < y + ms 100) → t = advance dt s)) ∧
  (∀ (dt : Nat) (codes : List Nat) (rd : Bool) (body : List Byte) (k : Session) (s u : State),
    Received 0x92 codes rd body (advance dt s) u → u.sec.session = some k →
    ∃ t, exec (.hostClose dt codes rd) s = .next t ∧
      (k.number = leAt body 4 4 → t.sec.session = none ∧ t.sec.old = [] ∧ t.recd.readout = none ∧
        t.link.q4 = [] ∧ t.link.q5 = [] ∧ (∀ p ∈ t.link.q2 ++ t.link.q3, p.tagged = false) ∧
        ∀ o ∈ t.contour.sheets, o.session = none) ∧
      (k.number ≠ leAt body 4 4 → t = { u with log := t.log } ∧
        counterOf t .closesDiscarded = counterNext .closesDiscarded (counterOf u .closesDiscarded) 1))
/-- STATUS_QUERY, EVENT_LOG_WRITE and STATUS_PAGE_ADVANCE. -/
def Obligations.StatusAndEventLog : Prop :=
  (∀ (dt : Nat) (codes : List Nat) (rd : Bool) (body : List Byte) (s u : State), Received 0x84 codes rd body (advance dt s) u →
    let q := leAt body 0 8
    let addr := bits 55 46 q
    let len := bits 45 39 q
    ∃ t, exec (.statusQuery dt codes rd) s = .next t ∧
      (1 ≤ len → len ≤ 64 → queriesPending u < 8 →
        t.dma.snapshots = u.dma.snapshots ++
          [(field 25 39 (q / 2 ^ 39) + field 3 36 (if 1024 < addr + len then 1 else 0),
            leBytes 8 u.grat.localTime ++ (statusWords u addr len).flatMap (leBytes 4))] ∧
        (statusWords u addr len).length = min len (1024 - addr) ∧
        t = { u with dma := t.dma, log := t.log }) ∧
      (1 ≤ len → len ≤ 64 → 8 ≤ queriesPending u → linkTakes u = true →
        t.link.q3 = u.link.q3 ++ [pkt 0x08 (wordsLe [field 25 39 (q / 2 ^ 39) + field 3 36 2, u.grat.localTime])] ∧
        t = { u with link := t.link }) ∧
      (len = 0 ∨ 64 < len → linkTakes u = true →
        t.link.q3 = u.link.q3 ++ [pkt 0x08 (wordsLe [field 25 39 (q / 2 ^ 39) + field 3 36 4, u.grat.localTime])] ∧
        t = { u with link := t.link })) ∧
  (∀ (cls ev inst arg : Nat) (s : State),
    (s.log.queue.length < 64 →
      ∃ w, (logEvent cls ev inst arg s).log.queue = s.log.queue ++ [(s.grat.localTime, w)] ∧
        bits 63 56 w = cls % 256 ∧ bits 55 48 w = ev % 256 ∧ bits 47 32 w = inst % 65536 ∧ bits 31 0 w = arg % 2 ^ 32) ∧
    (64 ≤ s.log.queue.length →
      (logEvent cls ev inst arg s).log.queue = s.log.queue ∧ (logEvent cls ev inst arg s).log.overwritten = true ∧
      counterOf (logEvent cls ev inst arg s) .logOverwrites =
        counterNext .logOverwrites (counterOf s .logOverwrites) 1)) ∧
  (∀ (dt : Nat) (e : Nat × Nat) (r : List (Nat × Nat)) (s : State), s.log.queue = e :: r →
    ∃ t, exec (.eventLogWrite dt) s = .next t ∧
      (s.log.lastWrite = none ∨ (∃ w, s.log.lastWrite = some w ∧ w + us 10 ≤ s.now + dt) →
        t.log.queue = r ∧ t.log.ring = (e :: s.log.ring).take 1024 ∧ t.log.lastWrite = some (s.now + dt) ∧
        (s.log.ring.length < 1024 → counterOf t .logOverwrites = counterOf s .logOverwrites) ∧
        (s.log.ring.length = 1024 →
          counterOf t .logOverwrites = counterNext .logOverwrites (counterOf s .logOverwrites) 1) ∧
        t = { advance dt s with log := t.log, recd := t.recd }) ∧
      (∀ w, s.log.lastWrite = some w → s.now + dt < w + us 10 → t = advance dt s)) ∧
  (∀ (dt : Nat) (s : State), s.phase ≠ .reset →
    ∃ t, exec (.statusPageAdvance dt) s = .next t ∧
      (s.log.pageAt ≤ (advance dt s).grat.localTime →
        t.log.pageAt = s.log.pageAt + 16000000 ∧
        t.log.chPage = (s.log.chPage + 1) % 256 ∧ t.log.chTick = (s.log.chTick + 1) % 65536 ∧
        t.log.enPage = (s.log.enPage + 1) % 68 ∧ t.log.enTick = (s.log.enTick + 1) % 65536 ∧
        t.log.counters = s.log.counters ∧ t.log.ring = s.log.ring ∧ t.log.queue = s.log.queue ∧
        t = { advance dt s with log := t.log }) ∧
      ((advance dt s).grat.localTime < s.log.pageAt → t = advance dt s)) ∧
  (∀ (c e : Counter) (n : Nat) (s : State),
    (counterSaturates c = true → counterOf (count c n s) c = min (2 ^ counterWidth c - 1) (counterOf s c + n)) ∧
    (counterSaturates c = false → counterOf (count c n s) c = (counterOf s c + n) % 2 ^ counterWidth c) ∧
    (counterKey e ≠ counterKey c → counterOf (count c n s) e = counterOf s e))

/-- BYPASS, IDCODE, SAMPLE_PRELOAD, EXTEST and JTAG_STATUS_READ.  The order of the cells is the model's choice
(notes/assumptions/39.md), as is what the hold does to the reset cause and what ends it (notes/assumptions/18.md). -/
def Obligations.JtagPort : Prop :=
  (∀ (dt n : Nat) (scan : BoundaryScan) (i : Instr) (s : State),
    (i = .samplePreload dt scan ∧ n = 3) ∨ (i = .extest dt scan ∧ n = 4) →
    scan.levels.length = 131 → scan.shifted.length = 131 →
    ∃ t, exec i s = .next t ∧ t.jtag.instr = n ∧ t.jtag.cells = scan.shifted ∧ t.jtag.captured.length = 131 ∧
      (∀ (k : Nat) (p : Ball), boundaryBalls[k]? = some p → inputBall p = true →
        t.jtag.captured.getD k false = scan.levels.getD k false) ∧
      (∀ (k : Nat) (p : Ball), boundaryBalls[k]? = some p → t.phase = .reset → railAbsent t (ballRail p) = false →
        (observeOnly p = true → padLevel t p = restLevel p) ∧
        (n = 4 → observeOnly p = false → inputBall p = false → padLevel t p = levelOf (scan.shifted.getD k false))) ∧
      t.supply.jtagHold = true ∧ t.otp = s.otp ∧ t.nor.mem = s.nor.mem ∧ t.pending = s.pending ∧ t.now = s.now + dt ∧
      (s.supply.jtagHold = false → t.phase = .reset ∧ (∀ d, (sideOf t d).permit = false ∧ (sideOf t d).sout = false) ∧
        t.bias.on = false ∧ t.motor.torque = false ∧ t.pulses = [] ∧ t.supply.resetCause = s.supply.resetCause) ∧
      (s.supply.jtagHold = true → t = { advance dt s with jtag := t.jtag })) ∧
  (∀ (dt : Nat) (s : State),
    ∃ t, exec (.bypass dt) s = .next t ∧ t.jtag.instr = 1 ∧ t.jtag.tdo = [0] ∧ t.supply = { s.supply with jtagHold := false } ∧
      t = { advance dt s with jtag := t.jtag, supply := t.supply }) ∧
  (∀ (dt : Nat) (s : State),
    ∃ t w, exec (.idcode dt) s = .next t ∧ t.jtag.instr = 2 ∧ t.jtag.tdo = [w] ∧ bits 27 12 w = 0xD536 ∧ bits 0 0 w = 1 ∧
      bits 31 28 w = Config.maskRevision % 16 ∧ bits 11 1 w = Config.manufacturer % 2048 ∧ w < 2 ^ 32 ∧
      t.supply = { s.supply with jtagHold := false } ∧ t = { advance dt s with jtag := t.jtag, supply := t.supply }) ∧
  (∀ (dt addr words : Nat) (s : State), addr < 1024 → 1 ≤ words → words ≤ 64 →
    ∃ t, exec (.jtagStatusRead dt addr words) s = .next t ∧ t.jtag.tdo.length = words ∧
      (s.phase = .mode → s.seq.mode = 6 → ∀ i, i < words → addr + i < 1024 →
        t.jtag.tdo.getD i 0 = statusAt (settleCheckers (advance dt s)) (4 * (addr + i))) ∧
      (s.phase ≠ .mode ∨ s.seq.mode ≠ 6 → ∀ w ∈ t.jtag.tdo, w = 0) ∧
      t = { advance dt s with jtag := t.jtag })

/-- LIST_INCIDENTS, READ_RECORD, RELEASE_INCIDENT, MARK and ABORT_READ on accepted bodies; `u` is the state the receiver's
checks leave, with a link that takes packets; and what PACKET_TRANSMIT does for a running read.  Results the spec does not
name, the offset's rounding and the order of a read's packets are the model's choices (notes/assumptions/33.md). -/
def Obligations.ReadoutQueries : Prop :=
  (∀ (dt : Nat) (codes : List Nat) (rd : Bool) (body : List Byte) (s u : State), Received 0x98 codes rd body (advance dt s) u →
    linkTakes u = true →
    let echo := bits 63 52 (leAt body 0 8)
    let arg := leAt body 8 8
    let off := leAt body 20 4 / 8 * 8
    let answered := fun (t : State) (result : Nat) => t.link.q3 = u.link.q3 ++ [readoutPkt echo result arg off []] ∧
      t = { u with link := t.link }
    (∀ i op, (i = .listIncidents dt codes rd ∧ op = 0) ∨ (i = .readRecord dt codes rd ∧ op = 1) ∨
        (i = .releaseIncident dt codes rd ∧ op = 2) → rxOperation (rxBytes (advance dt s) codes rd) = op →
      ∃ t, exec i s = .next t ∧ (inDepot u = false → answered t 2) ∧
        (inDepot u = true → u.recd.readout ≠ none → answered t 5)) ∧
    (rxOperation (rxBytes (advance dt s) codes rd) = 0 → inDepot u = true → u.recd.readout = none →
      let l := (u.recd.incidents.flatMap incidentBytes).drop off
      let go : Readout := { echo := echo, seq := arg, offset := off, data := l, last := true }
      ∃ t, exec (.listIncidents dt codes rd) s = .next t ∧
        (u.link.q3.any isReadData = false → l = [] → answered t 1) ∧
        (u.link.q3.any isReadData = false → l ≠ [] →
          t.link.q3 = u.link.q3 ++ [readoutPkt echo 0 arg off (l.take 1776)] ∧
          t.recd = { u.recd with readout := some { go with data := l.drop 1776, offset := off + (l.take 1776).length } } ∧
          t = { u with link := t.link, recd := t.recd }) ∧
        (u.link.q3.any isReadData = true → t = { u with recd := { u.recd with readout := some go } })) ∧
    (rxOperation (rxBytes (advance dt s) codes rd) = 1 → inDepot u = true → u.recd.readout = none →
      ∃ t, exec (.readRecord dt codes rd) s = .next t ∧
        (findRecord u arg = none → answered t 3) ∧
        (∀ b c, findRecord u arg = some (b, c) →
          (off < (recordAt (blockOf u b) c).length →
            t.recd.readout = some { echo := echo, seq := arg, offset := off } ∧ t.link = u.link) ∧
          ((recordAt (blockOf u b) c).length ≤ off → answered t 1))) ∧
    (rxOperation (rxBytes (advance dt s) codes rd) = 2 → inDepot u = true → u.recd.readout = none →
      ∃ t, exec (.releaseIncident dt codes rd) s = .next t ∧
        (∀ i, incidentOf u arg = some i → 2 ≤ i.st → incidentOf t arg = none ∧
          t.link.q3 = u.link.q3 ++ [readoutPkt echo 1 arg off []] ∧
          counterOf t .releases = counterNext .releases (counterOf u .releases) 1) ∧
        ((∀ i, incidentOf u arg = some i → i.st < 2) → answered t 3)) ∧
    (rxOperation (rxBytes (advance dt s) codes rd) = 3 →
      ∃ t, exec (.mark dt codes rd) s = .next t ∧
        (u.image.accepted = true →
          t.recd = { u.recd with triggers := u.recd.triggers ++ [(2, u.now, u.grat.localTime, vehicleNow u)] } ∧
          t.link.q3 = u.link.q3 ++ [readoutPkt echo 1 arg off []] ∧ t = { u with link := t.link, recd := t.recd }) ∧
        (u.image.accepted = false → answered t 3)) ∧
    (rxOperation (rxBytes (advance dt s) codes rd) = 4 →
      ∃ t, exec (.abortRead dt codes rd) s = .next t ∧
        (inDepot u = true → t.recd = { u.recd with readout := none } ∧
          t.link.q3 = u.link.q3.filter (fun p => !isReadData p) ++ [readoutPkt echo 1 arg off []] ∧
          t = { u with link := t.link, recd := t.recd }) ∧
        (inDepot u = false → answered t 2))) ∧
  (∀ (dt : Nat) (s : State), laneFree (advance dt s) = true → s.recd.readout ≠ none → inDepot s = false →
    ∃ t, exec (.packetTransmit dt) s = .next t ∧ t.recd.readout = none ∧ ∀ q ∈ t.link.q3, isReadData q = false) ∧
  (∀ (dt : Nat) (s : State) (p : Pkt) (l : Link) (r : Readout), laneFree (advance dt s) = true →
    takeDue (advance dt s) = some (p, l) → p.type = 0x18 → s.recd.readout = some r → inDepot s = true →
    linkTakes s = true → s.sec.session ≠ none → l.q3.any isReadData = false →
    ∃ t, exec (.packetTransmit dt) s = .next t ∧
      (r.data ≠ [] → t.link.q3 = l.q3 ++ [readoutPkt r.echo r.result r.seq r.offset (r.data.take 1776)] ∧
        t.recd.readout = some { r with data := r.data.drop 1776, offset := r.offset + (r.data.take 1776).length }) ∧
      (r.data = [] → r.last = true → t.link.q3 = l.q3 ++ [readoutPkt r.echo 1 r.seq r.offset []] ∧
        t.recd.readout = none))

/-- CRASH_TRIGGER, INCIDENT_TRIGGER, POST_TRIGGER_END and RECORDER_MOUNT.  The count of triggers, the wait for a commit and the
estimate of an incident's size are the model's choices (notes/assumptions/32.md), as is the reading of Table 16.1 in `partSuits`
(notes/assumptions/15.md). -/
def Obligations.RecorderTriggers : Prop :=
  (∀ (dt high low : Nat) (s : State), high = 10 → 10 ≤ low →
    ∃ t, exec (.crashTrigger dt high low) s = .next t ∧
      (s.image.accepted = true → t.recd = { s.recd with
        triggers := s.recd.triggers ++ [(1, t.now, t.grat.localTime, vehicleNow t)] } ∧
        t = { advance dt s with recd := t.recd }) ∧
      (s.image.accepted = false → t = advance dt s)) ∧
  (∀ (dt cause at_ loc : Nat) (time : Int) (r : List (Nat × Nat × Nat × Int)) (s : State),
    s.recd.triggers = (cause, at_, loc, time) :: r →
    ∃ t, exec (.incidentTrigger dt) s = .next t ∧
      (s.recd.st = 2 ∨ s.recd.phase2 = true → t = advance dt s) ∧
      (s.recd.st ≠ 2 → s.recd.phase2 = false → t.recd.triggers = r ∧
        counterOf t .triggers = counterNext .triggers (counterOf s .triggers) 1) ∧
      (s.recd.st < 2 → s.recd.phase2 = false → t.recd = { s.recd with triggers := r, full := true } ∧
        counterOf t .refusals = counterNext .refusals (counterOf s .refusals) 1) ∧
      (∀ n e j, 3 ≤ s.recd.st → s.recd.phase2 = false → s.recd.open_ = some (n, e, j) →
        t.recd.open_ = some (n, if j then e else at_ + postTaps s, true) ∧ t.recd.nextIncident = s.recd.nextIncident ∧
        counterOf t .joins = counterNext .joins (counterOf s .joins) 1) ∧
      (3 ≤ s.recd.st → s.recd.phase2 = false → s.recd.open_ = none → exceedsLimits s = false →
        t.recd.open_ = some (s.recd.nextIncident, at_ + postTaps s, false) ∧ t.recd.phase1 = true ∧
        t.recd.nextIncident = s.recd.nextIncident + 1 ∧ t.recd.ring = [] ∧
        ∃ e ∈ t.recd.incidents, e.number = s.recd.nextIncident ∧ e.cause = cause ∧ e.time = time ∧ e.local_ = loc)) ∧
  (∀ (dt n e : Nat) (j : Bool) (s : State), s.recd.open_ = some (n, e, j) →
    ∃ t, exec (.postTriggerEnd dt) s = .next t ∧
      (e ≤ s.now + dt → t.recd.open_ = none ∧ t.recd.phase2 = true ∧ t.recd.triggers = s.recd.triggers) ∧
      (s.now + dt < e → t = advance dt s)) ∧
  (∀ (m : MountInput) (ce0 ce1 : Option NandPart) (s : State), s.supply.dip = true →
    exec (.recorderMount m ce0 ce1) s = .next (advance m.dt s)) ∧
  (∀ (m : MountInput) (ce0 ce1 : Option NandPart) (s : State), s.image.accepted = true → s.recd.st = 2 → s.supply.dip = false →
    ∃ t, exec (.recorderMount m ce0 ce1) s = .next t ∧ s.recd.hours ≤ t.recd.hours ∧
      (ce0 = none → t.recd.st = 0) ∧ (s.legend.secondCe = true → ce1 = none → t.recd.st = 0) ∧
      (∀ p, ce0 = some p → s.legend.secondCe = false →
        (partSuits p = false → t.recd.st = 1) ∧
        (partSuits p = true → t.recd.st = 3 ∧ t.recd.part = some p ∧ t.recd.second = false)) ∧
      (∀ p q, ce0 = some p → ce1 = some q → s.legend.secondCe = true →
        (partSuits p = false ∨ partSuits q = false → t.recd.st = 1) ∧
        (partSuits p = true → partSuits q = true → t.recd.st = 3 ∧ t.recd.part = some p ∧ t.recd.second = true)))

/-- NAND_PROGRAM_DONE, NAND_ERASE_DONE, NAND_READ_DONE, SCRUB, BODY_BLOCK_FORM, SEGMENT_CLOSE and NAND_RESPONSE_TIMEOUT.  When
data leave the staging memory, how a close ends its programs, and the order of a scrub are the model's choices
(notes/assumptions/31.md). -/
def Obligations.NandOperations : Prop :=
  let header := fun (s : State) (g : OpenSeg) (body : List Byte) =>
    recordHeader g.kind (if g.kind = 2 then causeOf s (currentIncident s) else 0) g.seq
      (if g.kind = 2 then currentIncident s else 0) g.info body.length (sha256 body) (prevField s) s.legend.version
  let staged := fun (b : Body) (t : State) => b ∈ t.recd.staging ∨ ∃ g, t.recd.seg = some g ∧ b ∈ g.taken
  (∀ (dt : Nat) (ok : Bool) (l : List Nat) (g : OpenSeg) (s : State), s.recd.seg = some g →
    s.recd.job = some .header ∨ s.recd.job = some .program ∨ s.recd.job = some .sign →
    ∃ t, exec (.nandProgramDone dt ok l) s = .next t ∧
      (ok = true → counterOf t .correctedBits =
        counterNext .correctedBits (counterOf s .correctedBits) (l.filter (fun n => n ≤ 72)).sum) ∧
      (ok = true → uncorrectable l = false → s.recd.job = some .header → (blockOf t g.block).header = g.header) ∧
      (ok = true → uncorrectable l = false → s.recd.job = some .program →
        let page := ((g.taken.flatMap (fun b => b.bytes)).drop g.skip).take (min (pageBytes s) (segBuffered g))
        (blockOf t g.block).body = (blockOf s g.block).body ++ page ∧
        (blockOf t g.block).pages =
          (blockOf s g.block).pages ++ [sealedPage g.sk g.seq (2 + (blockOf s g.block).pages.length) page]) ∧
      (ok = true → uncorrectable l = false → s.recd.job = some .sign →
        let h := header s g (blockOf s g.block).body
        (blockOf t g.block).sign = h ++ (signDigest (sha256 h) (advance dt s)).1 ∧
        (blockOf t g.block).pages = (blockOf s g.block).pages ++
          [sealedPage g.sk g.seq (2 + (blockOf s g.block).pages.length) (signaturePage s (blockOf t g.block))] ∧
        counterOf t .segmentsWritten = counterNext .segmentsWritten (counterOf s .segmentsWritten) 1) ∧
      (ok = false ∨ uncorrectable l = true → isBad t g.block = true)) ∧
  (∀ (dt b : Nat) (ended : EraseResult) (s : State), s.recd.job = some (.erase b) →
    ∃ t, exec (.nandEraseDone dt ended) s = .next t ∧
      (ended.ok = true → programmed ended.page0 = true →
        (blockOf t b).headed = true ∧ (blockOf t b).erases = (blockOf s b).erases + 1 ∧
        (blockOf t b).zero = blockHeader ((blockOf s b).erases + 1) ∧ (blockOf t b).header = [] ∧
        (blockOf t b).body = [] ∧ (blockOf t b).sign = []) ∧
      (ended.ok = true → t.recd.erasesNow = s.recd.erasesNow + 1) ∧
      (ended.ok = false ∨ programmed ended.page0 = false → isBad t b = true)) ∧
  (∀ (dt b p : Nat) (l : List Nat) (s : State), s.recd.job = some (.read b p) →
    ∃ t, exec (.nandReadDone dt l) s = .next t ∧
      counterOf t .correctedBits = counterNext .correctedBits (counterOf s .correctedBits) (l.filter (fun n => n ≤ 72)).sum ∧
      ((∃ k ∈ l, 48 < k) ∨ 50000 ≤ (blockOf s b).reads + 1 → (∀ x, s.recd.scrubbing = some x → x.copy ≠ b) →
        b ∈ t.recd.scrubs ∨ (b ∈ s.recd.ring ∧ ((blockOf t b).st = 3 ∨ (blockOf t b).st = 4))) ∧
      (inDepot s = false → t.recd.readout = none) ∧
      (∀ r c, uncorrectable l = false → s.recd.readout = some r → readDue s = some (.read b p) →
        findRecord s r.seq = some (b, c) → s.link.q3.any isReadData = false → linkTakes s = true → s.sec.session ≠ none →
        let v := blockOf s b
        let d := slice (recordAt v c) r.offset (pageEnd s v c r.offset - r.offset)
        d ≠ [] → t.link.q3 = s.link.q3 ++ [readoutPkt r.echo 0 r.seq r.offset (d.take 1776)])) ∧
  (∀ (dt : Nat) (ok : Bool) (l : List Nat) (x : Scrub) (s : State), s.recd.job = some .copy → s.recd.scrubbing = some x →
    x.source ≠ x.copy → s.recd.ring.head? ≠ some x.source →
    (x.step = .program → ∃ t, exec (.nandProgramDone dt ok l) s = .next t ∧
      (ok = true → uncorrectable l = false →
        (x.page = 1 → (blockOf t x.copy).header =
          nextGeneration s.recd.hours (blockOf s x.copy).erases (blockOf s x.source).header) ∧
        (x.page ≠ 1 → (blockOf t x.copy).pages =
          (blockOf s x.copy).pages ++ ((blockOf s x.source).pages[x.page - 2]?).toList)) ∧
      (ok = false ∨ uncorrectable l = true → isBad t x.copy = true ∧ (blockOf t x.copy).header = [])) ∧
    (x.step = .read → ∃ t, exec (.nandReadDone dt l) s = .next t ∧
      (uncorrectable l = true → (blockOf t x.copy).header = [] ∧ x.source ∉ t.recd.scrubs ∧
        (blockOf t x.source).header = (blockOf s x.source).header) ∧
      (uncorrectable l = false → t.recd.scrubbing = some { x with step := .program })) ∧
    (x.step = .check → ∃ t, exec (.scrub dt l) s = .next t ∧
      (uncorrectable l = false → x.page < 1 + (blockOf s x.copy).pages.length →
        t.recd.scrubbing = some { x with page := x.page + 1 }) ∧
      (uncorrectable l = false → 1 + (blockOf s x.copy).pages.length ≤ x.page →
        (blockOf t x.copy).header = (blockOf s x.copy).header ∧ (blockOf t x.copy).body = (blockOf s x.source).body ∧
        (blockOf t x.copy).sign = (blockOf s x.source).sign ∧ (blockOf t x.source).st = (if isBad s x.source then 3 else 4) ∧
        x.source ∉ t.recd.scrubs ∧ counterOf t .scrubCopies = counterNext .scrubCopies (counterOf s .scrubCopies) 1) ∧
      (uncorrectable l = true → isBad t x.copy = true ∧ (blockOf t x.copy).header = [] ∧
        (blockOf t x.source).header = (blockOf s x.source).header))) ∧
  (∀ (dt : Nat) (s : State), s.recd.st = 3 → recordingNow s = true → s.recd.gaps = [] →
    ∃ t, exec (.bodyBlockForm dt) s = .next t ∧
      (s.recd.events ≠ [] →
        let b := bodyNow 4 (wordsLe (s.recd.events.flatMap (fun e => [e.1, e.2]))) (advance dt s)
        t.recd.events = [] ∧
        (stagedBytes s + 8 + 16 * s.recd.events.length ≤ 524288 → staged b t ∧ t.recd.gaps = [] ∧
          (s.recd.job ≠ none → t.recd.staging = s.recd.staging ++ [b])) ∧
        (524288 < stagedBytes s + 8 + 16 * s.recd.events.length → t.recd.gaps = [eventGap (advance dt s)] ∧
          counterOf t .stagingDrops = counterNext .stagingDrops (counterOf s .stagingDrops) 1)) ∧
      (∀ o r β, s.recd.events = [] → recordedSheets s = o :: r → bearingDue s o = some β →
        (o.sheet, β) ∈ t.recd.sampled ∧ (stageFits (bearingBlock o β) s = true → staged (bearingBlock o β) t) ∧
        (stageFits (bearingBlock o β) s = false → t.recd.gaps = [gapFor o β 1]))) ∧
  (∀ (run : PageRun) (g : OpenSeg) (s : State), s.recd.st = 3 → s.supply.dip = false → s.recd.seg = some g → g.ending = true →
    0 < pageBytes s → segBuffered g ≤ dataPages s * pageBytes s → (∀ p ∈ run.pages, programmed p = true) →
    ∃ t, exec (.segmentClose run) s = .next t ∧
      (let h := header s g (blockOf t g.block).body
       (blockOf t g.block).sign = h ++ (signDigest (sha256 h) (advance run.dt s)).1) ∧
      counterOf t .segmentsWritten = counterNext .segmentsWritten (counterOf s .segmentsWritten) 1) ∧
  (∀ (dt : Nat) (s : State), 3 ≤ s.recd.st → s.recd.job = none ∨ s.now + dt < s.recd.jobAt + ms 100 →
    exec (.nandResponseTimeout dt) s = .next (advance dt s)) ∧
  (∀ (dt : Nat) (s : State), (s.recd.st = 2 ∧ s.image.accepted = true) ∨
      (3 ≤ s.recd.st ∧ s.recd.job ≠ none ∧ s.recd.jobAt + ms 100 ≤ s.now + dt) →
    ∃ t, exec (.nandResponseTimeout dt) s = .next t ∧ t.recd.st = 0 ∧ t.recd.job = none ∧ t.recd.seg = none ∧
      t.recd.blocks = s.recd.blocks ∧ t.recd.grown = s.recd.grown ∧ t.recd.incidents = s.recd.incidents ∧
      t = { advance dt s with recd := t.recd })

/-- COMMIT_PHASE_1, COMMIT_PHASE_2 and POWERED_HOUR.  The bytes of the journal's and the hours' pages are the model's choice
(notes/assumptions/14.md), as are what the commands complete (notes/assumptions/31.md) and when hours count
(notes/assumptions/32.md). -/
def Obligations.CommitPhases : Prop :=
  let holds := fun (t : State) (a : Nat) (l : List Byte) =>
    0 < l.length ∧ ∀ k, k < l.length → norByte t.nor.mem (a + k) = l.getD k 0xFF#8
  let entry := fun (kind : Nat) (e : Incident) (s u : State) =>
    (sealPage (leBytes 8 (field 8 56 kind + field 56 0 s.recd.journalSeq)) (incidentBytes e) u).1
  (∀ (run : PageRun) (s : State), s.recd.phase1 = true → s.recd.phase2 = false → s.supply.dip = false → s.nor.present = true →
    s.recd.closing = [] → s.recd.seg = none → s.nor.jobs = [] → s.recd.incidents ≠ [] →
    ∃ t e, exec (.commitPhase1 run) s = .next t ∧ t.recd.phase1 = false ∧ t.recd.journalSeq = s.recd.journalSeq + 1 ∧
      t.recd.journalPos = (s.recd.journalPos + 1) % 512 ∧ t.nor.jobs = [] ∧
      incidentOf t (currentIncident s) = some e ∧ e.st = 1 ∧ e.segments = (incidentBlocks s (currentIncident s)).length ∧
      holds t (0x460000 + 256 * s.recd.journalPos) (entry 1 e s (advance run.dt s))) ∧
  (∀ (run : PageRun) (s : State), s.recd.phase2 = true → s.recd.phase1 = false → s.supply.dip = false → s.nor.present = true →
    s.recd.closing = [] → s.recd.seg = none → s.nor.jobs = [] → s.recd.incidents ≠ [] →
    let u := modIncident (currentIncident s) (fun i => { i with st := 2 }) (countSegments (currentIncident s) (advance run.dt s))
    ∃ t e, exec (.commitPhase2 run) s = .next t ∧ t.recd.phase2 = false ∧ t.recd.tableSlot = 1 - s.recd.tableSlot ∧
      t.recd.tableSeq = s.recd.tableSeq + 1 ∧ t.recd.journalSeq = s.recd.journalSeq + 1 ∧ t.nor.jobs = [] ∧
      incidentOf t (currentIncident s) = some e ∧ e.st = 2 ∧ e.segments = (incidentBlocks s (currentIncident s)).length ∧
      incidentOf u (currentIncident s) = some e ∧
      holds t (0x440000 + 0x10000 * (1 - s.recd.tableSlot)) (tableRecord u).1 ∧
      holds t (0x460000 + 256 * s.recd.journalPos) (entry 2 e s (tableRecord u).2) ∧
      counterOf t .commits = counterNext .commits (counterOf s .commits) 1) ∧
  (∀ (run : PageRun) (s : State), s.supply.dip = true ∨ s.nor.present = false →
    exec (.commitPhase1 run) s = .next (advance run.dt s) ∧ exec (.commitPhase2 run) s = .next (advance run.dt s)) ∧
  (∀ (dt : Nat) (s : State), s.now + dt < s.recd.hourAt + sec 3600 → exec (.poweredHour dt) s = .next (advance dt s)) ∧
  (∀ (dt : Nat) (s : State), s.sec.d ≠ none → s.recd.hourAt + sec 3600 ≤ s.now + dt →
    ∃ t, exec (.poweredHour dt) s = .next t ∧ s.recd.hours < t.recd.hours ∧ t.recd.hourAt = s.recd.hourAt + sec 3600 ∧
      (s.recd.st ≠ 2 → t.recd.hours = s.recd.hours + 1) ∧
      ∃ o ∈ t.nor.jobs, o.job = .hours ∧ o.addr = 0x480000 + 256 * (t.recd.hours % 256) ∧
        o.erasing = decide (t.recd.hours % 256 = 0))

/-- DESCRIPTOR_COMPLETE and CHANNEL_HALT.  Which descriptor and dump a channel has, what it shows after a halt and how a
rejected descriptor halts are the model's choices (notes/assumptions/34.md), as is the size of the SRAM space that `descValid`
takes (notes/assumptions/35.md). -/
def Obligations.MovementChannels : Prop :=
  (∀ (dt k : Nat) (s : State), k < 16 → (moverOf s k).st = 1 ∨ (moverOf s k).st = 3 →
    ∃ t, exec (.descriptorComplete dt k) s = .next t ∧
      (∀ n, n ≠ k → moverOf t n = moverOf s n) ∧
      (descValid (descOf s (moverOf s k).desc) = false → t = advance dt s) ∧
      (k ≠ 12 → t = { advance dt s with dma := t.dma, log := t.log }) ∧
      (descValid (descOf s (moverOf s k).desc) = true →
        (k ≠ 12 → 1024 ≤ (descOf s (moverOf s k).desc).next →
          moverOf t k = { moverOf s k with
            st := 0, completions := ((moverOf s k).completions + (if (descOf s (moverOf s k).desc).event then 1 else 0)) % 65536 } ∧
          (descOf t (moverOf s k).desc).st = 2 ∧
          (descOf t (moverOf s k).desc).done = (descOf s (moverOf s k).desc).len) ∧
        (k ≠ 12 → (descOf s (moverOf s k).desc).next < 1024 → (descOf s (moverOf s k).desc).next ≠ (moverOf s k).desc →
          (moverOf t k).desc = (descOf s (moverOf s k).desc).next ∧
          (moverOf t k).st = (if descValid (descOf s (descOf s (moverOf s k).desc).next) then 1 else 3) ∧
          (descOf t (descOf s (moverOf s k).desc).next).st =
            (if descValid (descOf s (descOf s (moverOf s k).desc).next) then 1 else 3) ∧
          (descOf t (moverOf s k).desc).st = 2) ∧
        (∀ w d r, k = 12 → s.dma.snapshots = (w, d) :: r → linkTakes s = true →
          t.dma.snapshots = r ∧ t.link.q3 = s.link.q3 ++ [pkt 0x08 (leBytes 8 w ++ d)]))) ∧
  (∀ (dt k : Nat) (info : HaltInfo) (s : State), k < 16 → (moverOf s k).st = 1 →
    descValid (descOf s (moverOf s k).desc) = true →
    ∃ t, exec (.channelHalt dt k info) s = .next t ∧
      moverOf t k = { moverOf s k with st := 3, write := info.write, stall := info.stall, addr := info.addr % 2 ^ 48 } ∧
      (descOf t (moverOf s k).desc).st = 3 ∧ (∀ n, n ≠ k → moverOf t n = moverOf s n) ∧
      counterOf t (.halts k) = counterNext (.halts k) (counterOf s (.halts k)) 1 ∧
      counterOf t (.abandonments k) = counterOf s (.abandonments k) ∧
      t = { advance dt s with dma := t.dma, log := t.log }) ∧
  (∀ (dt k : Nat) (info : HaltInfo) (s : State), k < 16 →
    ((moverOf s k).st = 3 ∧ (moverOf s k).addr = info.addr % 2 ^ 48 ∧ descValid (descOf s (moverOf s k).desc) = true) ∨
      (((moverOf s k).st = 1 ∨ (moverOf s k).st = 3) ∧ descValid (descOf s (moverOf s k).desc) = false) →
    ∃ t, exec (.channelHalt dt k info) s = .next t ∧
      counterOf t (.abandonments k) = counterNext (.abandonments k) (counterOf s (.abandonments k)) 1 ∧
      (k = 11 ∨ 13 ≤ k → (moverOf t k).st = 0 ∧ (descOf t (moverOf s k).desc).st = 4 ∧
        t = { advance dt s with dma := t.dma, log := t.log }) ∧
      (∀ e r, k < 4 → s.survey.dumpQueue = e :: r → e.2.1 % 4 = k → t.survey.dumpQueue = r ∧ e.2.1 ∉ t.survey.dumpUsed ∧
        counterOf t .dumpsSkipped = counterNext .dumpsSkipped (counterOf s .dumpsSkipped) 1) ∧
      (∀ p, 4 ≤ k → k < 8 → s.link.q5.find? (fun p => decide (dumpChannel p = some k)) = some p →
        t.link.q5 = s.link.q5.erase p ∧ (∀ x, p.pool = some x → x ∉ t.survey.dumpUsed) ∧
        counterOf t .dumpsSkipped = counterNext .dumpsSkipped (counterOf s .dumpsSkipped) 1) ∧
      (∀ g, k = 8 → s.recd.job = some .program → s.recd.seg = some g →
        (∃ h, t.recd.seg = some h ∧ h.block = g.block ∧ h.ending = true ∧ h.taken = []) ∧
        (info.nandFailed = true → descValid (descOf s (moverOf s k).desc) = true → isBad t g.block = true)) ∧
      (∀ x, k = 9 → s.recd.scrubbing = some x → x.source ≠ x.copy →
        (blockOf t x.copy).header = [] ∧ (blockOf t x.copy).st = (if isBad s x.copy then 3 else 4) ∧
        (blockOf t x.source).header = (blockOf s x.source).header ∧ (blockOf t x.source).body = (blockOf s x.source).body) ∧
      (∀ r, k = 10 → s.recd.readout = some r → t.recd.readout = none ∧
        (linkTakes s = true → s.sec.session ≠ none →
          t.link.q3 = s.link.q3 ++ [readoutPkt r.echo 4 r.seq r.offset []])) ∧
      (∀ w d r, k = 12 → s.dma.snapshots = (w, d) :: r → linkTakes s = true →
        t.dma.snapshots = r ∧ t.link.q3 = s.link.q3 ++ [pkt 0x08 (leBytes 8 (w - field 3 36 (bits 38 36 w) + field 3 36 3) ++ d.take 8)]))

/-- NOR_PAGE_PROGRAM_DONE and NOR_SECTOR_ERASE_DONE.  The layout of the records is the model's choice
(notes/assumptions/14.md), as are the reverted slot (notes/assumptions/31.md) and the count of failed writes
(notes/assumptions/45.md). -/
def Obligations.NorOperations : Prop :=
  (∀ (dt : Nat) (ok : Bool) (o : NorOp) (r : List NorOp) (s : State), s.nor.jobs = o :: r → o.erasing = false → o.left ≠ [] →
    ∃ t, exec (.norPageProgramDone dt ok) s = .next t ∧
      (ok = false ∨ s.nor.present = false → t.nor.mem = s.nor.mem) ∧
      (ok = true → s.nor.present = true →
        (∀ i, i < o.left.length → i < 256 - o.addr % 256 → norByte t.nor.mem (o.addr + i) = o.left.getD i 0xFF#8) ∧
        (∀ a, a < o.addr ∨ o.addr + min (256 - o.addr % 256) o.left.length ≤ a →
          norByte t.nor.mem a = norByte s.nor.mem a) ∧
        (256 - o.addr % 256 < o.left.length →
          ∃ q, t.nor.jobs = q :: r ∧ q.job = o.job ∧ q.erasing = false ∧ q.addr = o.addr + (256 - o.addr % 256) ∧
            q.left = o.left.drop (256 - o.addr % 256) ∧ t = { advance dt s with nor := t.nor }) ∧
        (∀ n k, o.left.length ≤ 256 - o.addr % 256 → o.job = .calSlot n → s.calib.candidate = some k →
          t.calib.next = some (k, none) ∧ t.calib.run = none ∧ t.calib.result = 0 ∧ t.nor.jobs = r ∧
          t.calib.live = s.calib.live ∧ counterOf t .runsAdopted = counterNext .runsAdopted (counterOf s .runsAdopted) 1)) ∧
      (∀ n k, ok = false → o.job = .calSlot n → s.calib.candidate = some k →
        t.calib.run = none ∧ t.calib.result = 8 ∧ t.calib.next = s.calib.next ∧ t.calib.live = s.calib.live ∧
        t.nor.jobs = r ∧ t.nor.failures = s.nor.failures + 1) ∧
      (ok = false → o.job = .table s.recd.tableSlot → t.recd.tableSlot = 1 - s.recd.tableSlot ∧
        (∀ q ∈ t.nor.jobs, q.job ≠ .table (1 - s.recd.tableSlot)))) ∧
  (∀ (dt : Nat) (ok : Bool) (o : NorOp) (r : List NorOp) (s : State), s.nor.jobs = o :: r → o.erasing = true →
    ∃ t, exec (.norSectorEraseDone dt ok) s = .next t ∧
      (ok = false ∨ s.nor.present = false → t.nor.mem = s.nor.mem) ∧
      (ok = true → s.nor.present = true →
        (∀ a, o.addr / 65536 * 65536 ≤ a → a < o.addr / 65536 * 65536 + 65536 → norByte t.nor.mem a = 0xFF#8) ∧
        (∀ a, a < o.addr / 65536 * 65536 ∨ o.addr / 65536 * 65536 + 65536 ≤ a →
          norByte t.nor.mem a = norByte s.nor.mem a) ∧
        (o.left = [] → t.nor.jobs = r) ∧ (o.left ≠ [] → t.nor.jobs = { o with erasing := false } :: r) ∧
        t = { advance dt s with nor := t.nor }))
end

