-- ==== Sys2Proof/Laws/Bytes.lean ====
section
/-! SUPPORT. Laws of byte strings: their lengths, the numbers they spell, and slices of what is put together. -/

namespace Sys2Proof.Machine

open Sys2Proof

@[simp] theorem leBytes_length : ∀ n w : Nat, (leBytes n w).length = n
  | 0, _ => rfl
  | n + 1, w => by simp [leBytes, leBytes_length n]

/-- Bytes of a number spell it, modulo their width (R6). -/
theorem leNat_leBytes : ∀ n w : Nat, leNat (leBytes n w) = w % 256 ^ n
  | 0, w => by simp [leBytes, leNat, Nat.mod_one]
  | n + 1, w => by
    simp only [leBytes, leNat, leNat_leBytes n, BitVec.toNat_ofNat]
    have h : (256 : Nat) ^ (n + 1) = 256 * 256 ^ n := pow_succ' 256 n
    rw [h, Nat.mod_mul]

/-- A slice of the front part. -/
theorem slice_front (a b : List Byte) (o n : Nat) (h : o + n ≤ a.length) : slice (a ++ b) o n = slice a o n := by
  unfold slice
  rw [List.drop_append_of_le_length (by omega), List.take_append_of_le_length (by simp; omega)]

/-- The middle part. -/
theorem slice_at (a b c : List Byte) : slice (a ++ b ++ c) a.length b.length = b := by
  simp [slice]


end Sys2Proof.Machine
end

