-- ==== Sys2Proof/Laws/Table.lean ====
section
/-! SUPPORT. What a table reads after a write and after a removal. -/

namespace Sys2Proof

/-- A key reads what was put under it. -/
@[simp] theorem Table.getD_put_self {α : Type} (d a : α) (n : Nat) :
    ∀ t : Table α, Table.getD d (Table.put t n a) n = a
  | [] => by simp [Table.put, Table.getD]
  | (k, v) :: r => by
    unfold Table.put
    split
    · simp [Table.getD]
    · split
      · simp [Table.getD]
      · rename_i h; simp [Table.getD, Ne.symm h, Table.getD_put_self d a n r]

/-- Every other key reads as before. -/
theorem Table.getD_put_ne {α : Type} (d a : α) (n m : Nat) (h : m ≠ n) :
    ∀ t : Table α, Table.getD d (Table.put t n a) m = Table.getD d t m
  | [] => by simp [Table.put, Table.getD, Ne.symm h]
  | (k, v) :: r => by
    unfold Table.put
    split
    · simp [Table.getD, Ne.symm h]
    · split
      · rename_i hk; subst hk; simp [Table.getD, Ne.symm h]
      · simp [Table.getD, Table.getD_put_ne d a n m h r]

/-- A removed key reads as the default. -/
@[simp] theorem Table.getD_del_self {α : Type} (d : α) (n : Nat) :
    ∀ t : Table α, Table.getD d (Table.del t n) n = d
  | [] => rfl
  | (k, v) :: r => by
    unfold Table.del
    split
    · exact Table.getD_del_self d n r
    · rename_i h; simp [Table.getD, h, Table.getD_del_self d n r]

/-- Every other key reads as before. -/
theorem Table.getD_del_ne {α : Type} (d : α) (n m : Nat) (h : m ≠ n) :
    ∀ t : Table α, Table.getD d (Table.del t n) m = Table.getD d t m
  | [] => rfl
  | (k, v) :: r => by
    unfold Table.del
    split
    · rename_i hk; subst hk; simp [Table.getD, Ne.symm h, Table.getD_del_ne d k m h r]
    · simp [Table.getD, Table.getD_del_ne d n m h r]

end Sys2Proof
end

