-- ==== Sys2Proof/Laws/State.lean ====
section
/-! SUPPORT. One lemma per field per update: what each shared update leaves as it was, and, where one field is all it
changes, what that field becomes.  No later proof unfolds a record update. -/

namespace Sys2Proof.Laws

open Sys2Proof Sys2Proof.Machine

/-! ## advance -/

@[simp] theorem advance_pending (dt : Nat) (s : State) : (advance dt s).pending = s.pending := by
  unfold advance
  repeat' split
  all_goals rfl
@[simp] theorem advance_phase (dt : Nat) (s : State) : (advance dt s).phase = s.phase := by
  unfold advance
  repeat' split
  all_goals rfl
@[simp] theorem advance_supply (dt : Nat) (s : State) : (advance dt s).supply = s.supply := by
  unfold advance
  repeat' split
  all_goals rfl
@[simp] theorem advance_motor (dt : Nat) (s : State) : (advance dt s).motor = s.motor := by
  unfold advance
  repeat' split
  all_goals rfl
@[simp] theorem advance_seq (dt : Nat) (s : State) : (advance dt s).seq = s.seq := by
  unfold advance
  repeat' split
  all_goals rfl
@[simp] theorem advance_banks (dt : Nat) (s : State) : (advance dt s).banks = s.banks := by
  unfold advance
  repeat' split
  all_goals rfl
@[simp] theorem advance_chain (dt : Nat) (s : State) : (advance dt s).chain = s.chain := by
  unfold advance
  repeat' split
  all_goals rfl
@[simp] theorem advance_pulses (dt : Nat) (s : State) : (advance dt s).pulses = s.pulses := by
  unfold advance
  repeat' split
  all_goals rfl
@[simp] theorem advance_bias (dt : Nat) (s : State) : (advance dt s).bias = s.bias := by
  unfold advance
  repeat' split
  all_goals rfl
@[simp] theorem advance_chans (dt : Nat) (s : State) : (advance dt s).chans = s.chans := by
  unfold advance
  repeat' split
  all_goals rfl
@[simp] theorem advance_amb (dt : Nat) (s : State) : (advance dt s).amb = s.amb := by
  unfold advance
  repeat' split
  all_goals rfl
@[simp] theorem advance_ambEng (dt : Nat) (s : State) : (advance dt s).ambEng = s.ambEng := by
  unfold advance
  repeat' split
  all_goals rfl
@[simp] theorem advance_survey (dt : Nat) (s : State) : (advance dt s).survey = s.survey := by
  unfold advance
  repeat' split
  all_goals rfl
@[simp] theorem advance_contour (dt : Nat) (s : State) : (advance dt s).contour = s.contour := by
  unfold advance
  repeat' split
  all_goals rfl
@[simp] theorem advance_link (dt : Nat) (s : State) : (advance dt s).link = s.link := by
  unfold advance
  repeat' split
  all_goals rfl
@[simp] theorem advance_otp (dt : Nat) (s : State) : (advance dt s).otp = s.otp := by
  unfold advance
  repeat' split
  all_goals rfl
@[simp] theorem advance_sec (dt : Nat) (s : State) : (advance dt s).sec = s.sec := by
  unfold advance
  repeat' split
  all_goals rfl
@[simp] theorem advance_nor (dt : Nat) (s : State) : (advance dt s).nor = s.nor := by
  unfold advance
  repeat' split
  all_goals rfl
@[simp] theorem advance_legend (dt : Nat) (s : State) : (advance dt s).legend = s.legend := by
  unfold advance
  repeat' split
  all_goals rfl
@[simp] theorem advance_image (dt : Nat) (s : State) : (advance dt s).image = s.image := by
  unfold advance
  repeat' split
  all_goals rfl
@[simp] theorem advance_safety (dt : Nat) (s : State) : (advance dt s).safety = s.safety := by
  unfold advance
  repeat' split
  all_goals rfl
@[simp] theorem advance_calib (dt : Nat) (s : State) : (advance dt s).calib = s.calib := by
  unfold advance
  repeat' split
  all_goals rfl
@[simp] theorem advance_thermal (dt : Nat) (s : State) : (advance dt s).thermal = s.thermal := by
  unfold advance
  repeat' split
  all_goals rfl
@[simp] theorem advance_aux (dt : Nat) (s : State) : (advance dt s).aux = s.aux := by
  unfold advance
  repeat' split
  all_goals rfl
@[simp] theorem advance_near (dt : Nat) (s : State) : (advance dt s).near = s.near := by
  unfold advance
  repeat' split
  all_goals rfl
@[simp] theorem advance_recd (dt : Nat) (s : State) : (advance dt s).recd = s.recd := by
  unfold advance
  repeat' split
  all_goals rfl
@[simp] theorem advance_dma (dt : Nat) (s : State) : (advance dt s).dma = s.dma := by
  unfold advance
  repeat' split
  all_goals rfl
@[simp] theorem advance_log (dt : Nat) (s : State) : (advance dt s).log = s.log := by
  unfold advance
  repeat' split
  all_goals rfl
@[simp] theorem advance_jtag (dt : Nat) (s : State) : (advance dt s).jtag = s.jtag := by
  unfold advance
  repeat' split
  all_goals rfl

/-! ## setBank -/

@[simp] theorem setBank_pending (b : Nat) (v : Bank) (s : State) : (setBank b v s).pending = s.pending := rfl
@[simp] theorem setBank_now (b : Nat) (v : Bank) (s : State) : (setBank b v s).now = s.now := rfl
@[simp] theorem setBank_free (b : Nat) (v : Bank) (s : State) : (setBank b v s).free = s.free := rfl
@[simp] theorem setBank_phase (b : Nat) (v : Bank) (s : State) : (setBank b v s).phase = s.phase := rfl
@[simp] theorem setBank_supply (b : Nat) (v : Bank) (s : State) : (setBank b v s).supply = s.supply := rfl
@[simp] theorem setBank_grat (b : Nat) (v : Bank) (s : State) : (setBank b v s).grat = s.grat := rfl
@[simp] theorem setBank_motor (b : Nat) (v : Bank) (s : State) : (setBank b v s).motor = s.motor := rfl
@[simp] theorem setBank_seq (b : Nat) (v : Bank) (s : State) : (setBank b v s).seq = s.seq := rfl
@[simp] theorem setBank_chain (b : Nat) (v : Bank) (s : State) : (setBank b v s).chain = s.chain := rfl
@[simp] theorem setBank_pulses (b : Nat) (v : Bank) (s : State) : (setBank b v s).pulses = s.pulses := rfl
@[simp] theorem setBank_bias (b : Nat) (v : Bank) (s : State) : (setBank b v s).bias = s.bias := rfl
@[simp] theorem setBank_chans (b : Nat) (v : Bank) (s : State) : (setBank b v s).chans = s.chans := rfl
@[simp] theorem setBank_amb (b : Nat) (v : Bank) (s : State) : (setBank b v s).amb = s.amb := rfl
@[simp] theorem setBank_ambEng (b : Nat) (v : Bank) (s : State) : (setBank b v s).ambEng = s.ambEng := rfl
@[simp] theorem setBank_survey (b : Nat) (v : Bank) (s : State) : (setBank b v s).survey = s.survey := rfl
@[simp] theorem setBank_contour (b : Nat) (v : Bank) (s : State) : (setBank b v s).contour = s.contour := rfl
@[simp] theorem setBank_link (b : Nat) (v : Bank) (s : State) : (setBank b v s).link = s.link := rfl
@[simp] theorem setBank_otp (b : Nat) (v : Bank) (s : State) : (setBank b v s).otp = s.otp := rfl
@[simp] theorem setBank_sec (b : Nat) (v : Bank) (s : State) : (setBank b v s).sec = s.sec := rfl
@[simp] theorem setBank_nor (b : Nat) (v : Bank) (s : State) : (setBank b v s).nor = s.nor := rfl
@[simp] theorem setBank_legend (b : Nat) (v : Bank) (s : State) : (setBank b v s).legend = s.legend := rfl
@[simp] theorem setBank_image (b : Nat) (v : Bank) (s : State) : (setBank b v s).image = s.image := rfl
@[simp] theorem setBank_safety (b : Nat) (v : Bank) (s : State) : (setBank b v s).safety = s.safety := rfl
@[simp] theorem setBank_calib (b : Nat) (v : Bank) (s : State) : (setBank b v s).calib = s.calib := rfl
@[simp] theorem setBank_thermal (b : Nat) (v : Bank) (s : State) : (setBank b v s).thermal = s.thermal := rfl
@[simp] theorem setBank_aux (b : Nat) (v : Bank) (s : State) : (setBank b v s).aux = s.aux := rfl
@[simp] theorem setBank_near (b : Nat) (v : Bank) (s : State) : (setBank b v s).near = s.near := rfl
@[simp] theorem setBank_recd (b : Nat) (v : Bank) (s : State) : (setBank b v s).recd = s.recd := rfl
@[simp] theorem setBank_dma (b : Nat) (v : Bank) (s : State) : (setBank b v s).dma = s.dma := rfl
@[simp] theorem setBank_log (b : Nat) (v : Bank) (s : State) : (setBank b v s).log = s.log := rfl
@[simp] theorem setBank_jtag (b : Nat) (v : Bank) (s : State) : (setBank b v s).jtag = s.jtag := rfl

/-! ## modBank -/

@[simp] theorem modBank_pending (b : Nat) (f : Bank → Bank) (s : State) : (modBank b f s).pending = s.pending := rfl
@[simp] theorem modBank_now (b : Nat) (f : Bank → Bank) (s : State) : (modBank b f s).now = s.now := rfl
@[simp] theorem modBank_free (b : Nat) (f : Bank → Bank) (s : State) : (modBank b f s).free = s.free := rfl
@[simp] theorem modBank_phase (b : Nat) (f : Bank → Bank) (s : State) : (modBank b f s).phase = s.phase := rfl
@[simp] theorem modBank_supply (b : Nat) (f : Bank → Bank) (s : State) : (modBank b f s).supply = s.supply := rfl
@[simp] theorem modBank_grat (b : Nat) (f : Bank → Bank) (s : State) : (modBank b f s).grat = s.grat := rfl
@[simp] theorem modBank_motor (b : Nat) (f : Bank → Bank) (s : State) : (modBank b f s).motor = s.motor := rfl
@[simp] theorem modBank_seq (b : Nat) (f : Bank → Bank) (s : State) : (modBank b f s).seq = s.seq := rfl
@[simp] theorem modBank_chain (b : Nat) (f : Bank → Bank) (s : State) : (modBank b f s).chain = s.chain := rfl
@[simp] theorem modBank_pulses (b : Nat) (f : Bank → Bank) (s : State) : (modBank b f s).pulses = s.pulses := rfl
@[simp] theorem modBank_bias (b : Nat) (f : Bank → Bank) (s : State) : (modBank b f s).bias = s.bias := rfl
@[simp] theorem modBank_chans (b : Nat) (f : Bank → Bank) (s : State) : (modBank b f s).chans = s.chans := rfl
@[simp] theorem modBank_amb (b : Nat) (f : Bank → Bank) (s : State) : (modBank b f s).amb = s.amb := rfl
@[simp] theorem modBank_ambEng (b : Nat) (f : Bank → Bank) (s : State) : (modBank b f s).ambEng = s.ambEng := rfl
@[simp] theorem modBank_survey (b : Nat) (f : Bank → Bank) (s : State) : (modBank b f s).survey = s.survey := rfl
@[simp] theorem modBank_contour (b : Nat) (f : Bank → Bank) (s : State) : (modBank b f s).contour = s.contour := rfl
@[simp] theorem modBank_link (b : Nat) (f : Bank → Bank) (s : State) : (modBank b f s).link = s.link := rfl
@[simp] theorem modBank_otp (b : Nat) (f : Bank → Bank) (s : State) : (modBank b f s).otp = s.otp := rfl
@[simp] theorem modBank_sec (b : Nat) (f : Bank → Bank) (s : State) : (modBank b f s).sec = s.sec := rfl
@[simp] theorem modBank_nor (b : Nat) (f : Bank → Bank) (s : State) : (modBank b f s).nor = s.nor := rfl
@[simp] theorem modBank_legend (b : Nat) (f : Bank → Bank) (s : State) : (modBank b f s).legend = s.legend := rfl
@[simp] theorem modBank_image (b : Nat) (f : Bank → Bank) (s : State) : (modBank b f s).image = s.image := rfl
@[simp] theorem modBank_safety (b : Nat) (f : Bank → Bank) (s : State) : (modBank b f s).safety = s.safety := rfl
@[simp] theorem modBank_calib (b : Nat) (f : Bank → Bank) (s : State) : (modBank b f s).calib = s.calib := rfl
@[simp] theorem modBank_thermal (b : Nat) (f : Bank → Bank) (s : State) : (modBank b f s).thermal = s.thermal := rfl
@[simp] theorem modBank_aux (b : Nat) (f : Bank → Bank) (s : State) : (modBank b f s).aux = s.aux := rfl
@[simp] theorem modBank_near (b : Nat) (f : Bank → Bank) (s : State) : (modBank b f s).near = s.near := rfl
@[simp] theorem modBank_recd (b : Nat) (f : Bank → Bank) (s : State) : (modBank b f s).recd = s.recd := rfl
@[simp] theorem modBank_dma (b : Nat) (f : Bank → Bank) (s : State) : (modBank b f s).dma = s.dma := rfl
@[simp] theorem modBank_log (b : Nat) (f : Bank → Bank) (s : State) : (modBank b f s).log = s.log := rfl
@[simp] theorem modBank_jtag (b : Nat) (f : Bank → Bank) (s : State) : (modBank b f s).jtag = s.jtag := rfl

/-! ## setChan -/

@[simp] theorem setChan_pending (c : Nat) (v : Chan) (s : State) : (setChan c v s).pending = s.pending := rfl
@[simp] theorem setChan_now (c : Nat) (v : Chan) (s : State) : (setChan c v s).now = s.now := rfl
@[simp] theorem setChan_free (c : Nat) (v : Chan) (s : State) : (setChan c v s).free = s.free := rfl
@[simp] theorem setChan_phase (c : Nat) (v : Chan) (s : State) : (setChan c v s).phase = s.phase := rfl
@[simp] theorem setChan_supply (c : Nat) (v : Chan) (s : State) : (setChan c v s).supply = s.supply := rfl
@[simp] theorem setChan_grat (c : Nat) (v : Chan) (s : State) : (setChan c v s).grat = s.grat := rfl
@[simp] theorem setChan_motor (c : Nat) (v : Chan) (s : State) : (setChan c v s).motor = s.motor := rfl
@[simp] theorem setChan_seq (c : Nat) (v : Chan) (s : State) : (setChan c v s).seq = s.seq := rfl
@[simp] theorem setChan_banks (c : Nat) (v : Chan) (s : State) : (setChan c v s).banks = s.banks := rfl
@[simp] theorem setChan_chain (c : Nat) (v : Chan) (s : State) : (setChan c v s).chain = s.chain := rfl
@[simp] theorem setChan_pulses (c : Nat) (v : Chan) (s : State) : (setChan c v s).pulses = s.pulses := rfl
@[simp] theorem setChan_bias (c : Nat) (v : Chan) (s : State) : (setChan c v s).bias = s.bias := rfl
@[simp] theorem setChan_amb (c : Nat) (v : Chan) (s : State) : (setChan c v s).amb = s.amb := rfl
@[simp] theorem setChan_ambEng (c : Nat) (v : Chan) (s : State) : (setChan c v s).ambEng = s.ambEng := rfl
@[simp] theorem setChan_survey (c : Nat) (v : Chan) (s : State) : (setChan c v s).survey = s.survey := rfl
@[simp] theorem setChan_contour (c : Nat) (v : Chan) (s : State) : (setChan c v s).contour = s.contour := rfl
@[simp] theorem setChan_link (c : Nat) (v : Chan) (s : State) : (setChan c v s).link = s.link := rfl
@[simp] theorem setChan_otp (c : Nat) (v : Chan) (s : State) : (setChan c v s).otp = s.otp := rfl
@[simp] theorem setChan_sec (c : Nat) (v : Chan) (s : State) : (setChan c v s).sec = s.sec := rfl
@[simp] theorem setChan_nor (c : Nat) (v : Chan) (s : State) : (setChan c v s).nor = s.nor := rfl
@[simp] theorem setChan_legend (c : Nat) (v : Chan) (s : State) : (setChan c v s).legend = s.legend := rfl
@[simp] theorem setChan_image (c : Nat) (v : Chan) (s : State) : (setChan c v s).image = s.image := rfl
@[simp] theorem setChan_safety (c : Nat) (v : Chan) (s : State) : (setChan c v s).safety = s.safety := rfl
@[simp] theorem setChan_calib (c : Nat) (v : Chan) (s : State) : (setChan c v s).calib = s.calib := rfl
@[simp] theorem setChan_thermal (c : Nat) (v : Chan) (s : State) : (setChan c v s).thermal = s.thermal := rfl
@[simp] theorem setChan_aux (c : Nat) (v : Chan) (s : State) : (setChan c v s).aux = s.aux := rfl
@[simp] theorem setChan_near (c : Nat) (v : Chan) (s : State) : (setChan c v s).near = s.near := rfl
@[simp] theorem setChan_recd (c : Nat) (v : Chan) (s : State) : (setChan c v s).recd = s.recd := rfl
@[simp] theorem setChan_dma (c : Nat) (v : Chan) (s : State) : (setChan c v s).dma = s.dma := rfl
@[simp] theorem setChan_log (c : Nat) (v : Chan) (s : State) : (setChan c v s).log = s.log := rfl
@[simp] theorem setChan_jtag (c : Nat) (v : Chan) (s : State) : (setChan c v s).jtag = s.jtag := rfl

/-! ## modChan -/

@[simp] theorem modChan_pending (c : Nat) (f : Chan → Chan) (s : State) : (modChan c f s).pending = s.pending := rfl
@[simp] theorem modChan_now (c : Nat) (f : Chan → Chan) (s : State) : (modChan c f s).now = s.now := rfl
@[simp] theorem modChan_free (c : Nat) (f : Chan → Chan) (s : State) : (modChan c f s).free = s.free := rfl
@[simp] theorem modChan_phase (c : Nat) (f : Chan → Chan) (s : State) : (modChan c f s).phase = s.phase := rfl
@[simp] theorem modChan_supply (c : Nat) (f : Chan → Chan) (s : State) : (modChan c f s).supply = s.supply := rfl
@[simp] theorem modChan_grat (c : Nat) (f : Chan → Chan) (s : State) : (modChan c f s).grat = s.grat := rfl
@[simp] theorem modChan_motor (c : Nat) (f : Chan → Chan) (s : State) : (modChan c f s).motor = s.motor := rfl
@[simp] theorem modChan_seq (c : Nat) (f : Chan → Chan) (s : State) : (modChan c f s).seq = s.seq := rfl
@[simp] theorem modChan_banks (c : Nat) (f : Chan → Chan) (s : State) : (modChan c f s).banks = s.banks := rfl
@[simp] theorem modChan_chain (c : Nat) (f : Chan → Chan) (s : State) : (modChan c f s).chain = s.chain := rfl
@[simp] theorem modChan_pulses (c : Nat) (f : Chan → Chan) (s : State) : (modChan c f s).pulses = s.pulses := rfl
@[simp] theorem modChan_bias (c : Nat) (f : Chan → Chan) (s : State) : (modChan c f s).bias = s.bias := rfl
@[simp] theorem modChan_amb (c : Nat) (f : Chan → Chan) (s : State) : (modChan c f s).amb = s.amb := rfl
@[simp] theorem modChan_ambEng (c : Nat) (f : Chan → Chan) (s : State) : (modChan c f s).ambEng = s.ambEng := rfl
@[simp] theorem modChan_survey (c : Nat) (f : Chan → Chan) (s : State) : (modChan c f s).survey = s.survey := rfl
@[simp] theorem modChan_contour (c : Nat) (f : Chan → Chan) (s : State) : (modChan c f s).contour = s.contour := rfl
@[simp] theorem modChan_link (c : Nat) (f : Chan → Chan) (s : State) : (modChan c f s).link = s.link := rfl
@[simp] theorem modChan_otp (c : Nat) (f : Chan → Chan) (s : State) : (modChan c f s).otp = s.otp := rfl
@[simp] theorem modChan_sec (c : Nat) (f : Chan → Chan) (s : State) : (modChan c f s).sec = s.sec := rfl
@[simp] theorem modChan_nor (c : Nat) (f : Chan → Chan) (s : State) : (modChan c f s).nor = s.nor := rfl
@[simp] theorem modChan_legend (c : Nat) (f : Chan → Chan) (s : State) : (modChan c f s).legend = s.legend := rfl
@[simp] theorem modChan_image (c : Nat) (f : Chan → Chan) (s : State) : (modChan c f s).image = s.image := rfl
@[simp] theorem modChan_safety (c : Nat) (f : Chan → Chan) (s : State) : (modChan c f s).safety = s.safety := rfl
@[simp] theorem modChan_calib (c : Nat) (f : Chan → Chan) (s : State) : (modChan c f s).calib = s.calib := rfl
@[simp] theorem modChan_thermal (c : Nat) (f : Chan → Chan) (s : State) : (modChan c f s).thermal = s.thermal := rfl
@[simp] theorem modChan_aux (c : Nat) (f : Chan → Chan) (s : State) : (modChan c f s).aux = s.aux := rfl
@[simp] theorem modChan_near (c : Nat) (f : Chan → Chan) (s : State) : (modChan c f s).near = s.near := rfl
@[simp] theorem modChan_recd (c : Nat) (f : Chan → Chan) (s : State) : (modChan c f s).recd = s.recd := rfl
@[simp] theorem modChan_dma (c : Nat) (f : Chan → Chan) (s : State) : (modChan c f s).dma = s.dma := rfl
@[simp] theorem modChan_log (c : Nat) (f : Chan → Chan) (s : State) : (modChan c f s).log = s.log := rfl
@[simp] theorem modChan_jtag (c : Nat) (f : Chan → Chan) (s : State) : (modChan c f s).jtag = s.jtag := rfl

/-! ## setAmb -/

@[simp] theorem setAmb_pending (c : Nat) (v : Ambient) (s : State) : (setAmb c v s).pending = s.pending := rfl
@[simp] theorem setAmb_now (c : Nat) (v : Ambient) (s : State) : (setAmb c v s).now = s.now := rfl
@[simp] theorem setAmb_free (c : Nat) (v : Ambient) (s : State) : (setAmb c v s).free = s.free := rfl
@[simp] theorem setAmb_phase (c : Nat) (v : Ambient) (s : State) : (setAmb c v s).phase = s.phase := rfl
@[simp] theorem setAmb_supply (c : Nat) (v : Ambient) (s : State) : (setAmb c v s).supply = s.supply := rfl
@[simp] theorem setAmb_grat (c : Nat) (v : Ambient) (s : State) : (setAmb c v s).grat = s.grat := rfl
@[simp] theorem setAmb_motor (c : Nat) (v : Ambient) (s : State) : (setAmb c v s).motor = s.motor := rfl
@[simp] theorem setAmb_seq (c : Nat) (v : Ambient) (s : State) : (setAmb c v s).seq = s.seq := rfl
@[simp] theorem setAmb_banks (c : Nat) (v : Ambient) (s : State) : (setAmb c v s).banks = s.banks := rfl
@[simp] theorem setAmb_chain (c : Nat) (v : Ambient) (s : State) : (setAmb c v s).chain = s.chain := rfl
@[simp] theorem setAmb_pulses (c : Nat) (v : Ambient) (s : State) : (setAmb c v s).pulses = s.pulses := rfl
@[simp] theorem setAmb_bias (c : Nat) (v : Ambient) (s : State) : (setAmb c v s).bias = s.bias := rfl
@[simp] theorem setAmb_chans (c : Nat) (v : Ambient) (s : State) : (setAmb c v s).chans = s.chans := rfl
@[simp] theorem setAmb_ambEng (c : Nat) (v : Ambient) (s : State) : (setAmb c v s).ambEng = s.ambEng := rfl
@[simp] theorem setAmb_survey (c : Nat) (v : Ambient) (s : State) : (setAmb c v s).survey = s.survey := rfl
@[simp] theorem setAmb_contour (c : Nat) (v : Ambient) (s : State) : (setAmb c v s).contour = s.contour := rfl
@[simp] theorem setAmb_link (c : Nat) (v : Ambient) (s : State) : (setAmb c v s).link = s.link := rfl
@[simp] theorem setAmb_otp (c : Nat) (v : Ambient) (s : State) : (setAmb c v s).otp = s.otp := rfl
@[simp] theorem setAmb_sec (c : Nat) (v : Ambient) (s : State) : (setAmb c v s).sec = s.sec := rfl
@[simp] theorem setAmb_nor (c : Nat) (v : Ambient) (s : State) : (setAmb c v s).nor = s.nor := rfl
@[simp] theorem setAmb_legend (c : Nat) (v : Ambient) (s : State) : (setAmb c v s).legend = s.legend := rfl
@[simp] theorem setAmb_image (c : Nat) (v : Ambient) (s : State) : (setAmb c v s).image = s.image := rfl
@[simp] theorem setAmb_safety (c : Nat) (v : Ambient) (s : State) : (setAmb c v s).safety = s.safety := rfl
@[simp] theorem setAmb_calib (c : Nat) (v : Ambient) (s : State) : (setAmb c v s).calib = s.calib := rfl
@[simp] theorem setAmb_thermal (c : Nat) (v : Ambient) (s : State) : (setAmb c v s).thermal = s.thermal := rfl
@[simp] theorem setAmb_aux (c : Nat) (v : Ambient) (s : State) : (setAmb c v s).aux = s.aux := rfl
@[simp] theorem setAmb_near (c : Nat) (v : Ambient) (s : State) : (setAmb c v s).near = s.near := rfl
@[simp] theorem setAmb_recd (c : Nat) (v : Ambient) (s : State) : (setAmb c v s).recd = s.recd := rfl
@[simp] theorem setAmb_dma (c : Nat) (v : Ambient) (s : State) : (setAmb c v s).dma = s.dma := rfl
@[simp] theorem setAmb_log (c : Nat) (v : Ambient) (s : State) : (setAmb c v s).log = s.log := rfl
@[simp] theorem setAmb_jtag (c : Nat) (v : Ambient) (s : State) : (setAmb c v s).jtag = s.jtag := rfl

/-! ## setEngine -/

@[simp] theorem setEngine_pending (e : Nat) (v : Engine) (s : State) : (setEngine e v s).pending = s.pending := rfl
@[simp] theorem setEngine_now (e : Nat) (v : Engine) (s : State) : (setEngine e v s).now = s.now := rfl
@[simp] theorem setEngine_free (e : Nat) (v : Engine) (s : State) : (setEngine e v s).free = s.free := rfl
@[simp] theorem setEngine_phase (e : Nat) (v : Engine) (s : State) : (setEngine e v s).phase = s.phase := rfl
@[simp] theorem setEngine_supply (e : Nat) (v : Engine) (s : State) : (setEngine e v s).supply = s.supply := rfl
@[simp] theorem setEngine_grat (e : Nat) (v : Engine) (s : State) : (setEngine e v s).grat = s.grat := rfl
@[simp] theorem setEngine_motor (e : Nat) (v : Engine) (s : State) : (setEngine e v s).motor = s.motor := rfl
@[simp] theorem setEngine_seq (e : Nat) (v : Engine) (s : State) : (setEngine e v s).seq = s.seq := rfl
@[simp] theorem setEngine_banks (e : Nat) (v : Engine) (s : State) : (setEngine e v s).banks = s.banks := rfl
@[simp] theorem setEngine_chain (e : Nat) (v : Engine) (s : State) : (setEngine e v s).chain = s.chain := rfl
@[simp] theorem setEngine_pulses (e : Nat) (v : Engine) (s : State) : (setEngine e v s).pulses = s.pulses := rfl
@[simp] theorem setEngine_bias (e : Nat) (v : Engine) (s : State) : (setEngine e v s).bias = s.bias := rfl
@[simp] theorem setEngine_chans (e : Nat) (v : Engine) (s : State) : (setEngine e v s).chans = s.chans := rfl
@[simp] theorem setEngine_amb (e : Nat) (v : Engine) (s : State) : (setEngine e v s).amb = s.amb := rfl
@[simp] theorem setEngine_ambEng (e : Nat) (v : Engine) (s : State) : (setEngine e v s).ambEng = s.ambEng := rfl
@[simp] theorem setEngine_contour (e : Nat) (v : Engine) (s : State) : (setEngine e v s).contour = s.contour := rfl
@[simp] theorem setEngine_link (e : Nat) (v : Engine) (s : State) : (setEngine e v s).link = s.link := rfl
@[simp] theorem setEngine_otp (e : Nat) (v : Engine) (s : State) : (setEngine e v s).otp = s.otp := rfl
@[simp] theorem setEngine_sec (e : Nat) (v : Engine) (s : State) : (setEngine e v s).sec = s.sec := rfl
@[simp] theorem setEngine_nor (e : Nat) (v : Engine) (s : State) : (setEngine e v s).nor = s.nor := rfl
@[simp] theorem setEngine_legend (e : Nat) (v : Engine) (s : State) : (setEngine e v s).legend = s.legend := rfl
@[simp] theorem setEngine_image (e : Nat) (v : Engine) (s : State) : (setEngine e v s).image = s.image := rfl
@[simp] theorem setEngine_safety (e : Nat) (v : Engine) (s : State) : (setEngine e v s).safety = s.safety := rfl
@[simp] theorem setEngine_calib (e : Nat) (v : Engine) (s : State) : (setEngine e v s).calib = s.calib := rfl
@[simp] theorem setEngine_thermal (e : Nat) (v : Engine) (s : State) : (setEngine e v s).thermal = s.thermal := rfl
@[simp] theorem setEngine_aux (e : Nat) (v : Engine) (s : State) : (setEngine e v s).aux = s.aux := rfl
@[simp] theorem setEngine_near (e : Nat) (v : Engine) (s : State) : (setEngine e v s).near = s.near := rfl
@[simp] theorem setEngine_recd (e : Nat) (v : Engine) (s : State) : (setEngine e v s).recd = s.recd := rfl
@[simp] theorem setEngine_dma (e : Nat) (v : Engine) (s : State) : (setEngine e v s).dma = s.dma := rfl
@[simp] theorem setEngine_log (e : Nat) (v : Engine) (s : State) : (setEngine e v s).log = s.log := rfl
@[simp] theorem setEngine_jtag (e : Nat) (v : Engine) (s : State) : (setEngine e v s).jtag = s.jtag := rfl

/-! ## modEngine -/

@[simp] theorem modEngine_pending (e : Nat) (f : Engine → Engine) (s : State) : (modEngine e f s).pending = s.pending := rfl
@[simp] theorem modEngine_now (e : Nat) (f : Engine → Engine) (s : State) : (modEngine e f s).now = s.now := rfl
@[simp] theorem modEngine_free (e : Nat) (f : Engine → Engine) (s : State) : (modEngine e f s).free = s.free := rfl
@[simp] theorem modEngine_phase (e : Nat) (f : Engine → Engine) (s : State) : (modEngine e f s).phase = s.phase := rfl
@[simp] theorem modEngine_supply (e : Nat) (f : Engine → Engine) (s : State) : (modEngine e f s).supply = s.supply := rfl
@[simp] theorem modEngine_grat (e : Nat) (f : Engine → Engine) (s : State) : (modEngine e f s).grat = s.grat := rfl
@[simp] theorem modEngine_motor (e : Nat) (f : Engine → Engine) (s : State) : (modEngine e f s).motor = s.motor := rfl
@[simp] theorem modEngine_seq (e : Nat) (f : Engine → Engine) (s : State) : (modEngine e f s).seq = s.seq := rfl
@[simp] theorem modEngine_banks (e : Nat) (f : Engine → Engine) (s : State) : (modEngine e f s).banks = s.banks := rfl
@[simp] theorem modEngine_chain (e : Nat) (f : Engine → Engine) (s : State) : (modEngine e f s).chain = s.chain := rfl
@[simp] theorem modEngine_pulses (e : Nat) (f : Engine → Engine) (s : State) : (modEngine e f s).pulses = s.pulses := rfl
@[simp] theorem modEngine_bias (e : Nat) (f : Engine → Engine) (s : State) : (modEngine e f s).bias = s.bias := rfl
@[simp] theorem modEngine_chans (e : Nat) (f : Engine → Engine) (s : State) : (modEngine e f s).chans = s.chans := rfl
@[simp] theorem modEngine_amb (e : Nat) (f : Engine → Engine) (s : State) : (modEngine e f s).amb = s.amb := rfl
@[simp] theorem modEngine_ambEng (e : Nat) (f : Engine → Engine) (s : State) : (modEngine e f s).ambEng = s.ambEng := rfl
@[simp] theorem modEngine_contour (e : Nat) (f : Engine → Engine) (s : State) : (modEngine e f s).contour = s.contour := rfl
@[simp] theorem modEngine_link (e : Nat) (f : Engine → Engine) (s : State) : (modEngine e f s).link = s.link := rfl
@[simp] theorem modEngine_otp (e : Nat) (f : Engine → Engine) (s : State) : (modEngine e f s).otp = s.otp := rfl
@[simp] theorem modEngine_sec (e : Nat) (f : Engine → Engine) (s : State) : (modEngine e f s).sec = s.sec := rfl
@[simp] theorem modEngine_nor (e : Nat) (f : Engine → Engine) (s : State) : (modEngine e f s).nor = s.nor := rfl
@[simp] theorem modEngine_legend (e : Nat) (f : Engine → Engine) (s : State) : (modEngine e f s).legend = s.legend := rfl
@[simp] theorem modEngine_image (e : Nat) (f : Engine → Engine) (s : State) : (modEngine e f s).image = s.image := rfl
@[simp] theorem modEngine_safety (e : Nat) (f : Engine → Engine) (s : State) : (modEngine e f s).safety = s.safety := rfl
@[simp] theorem modEngine_calib (e : Nat) (f : Engine → Engine) (s : State) : (modEngine e f s).calib = s.calib := rfl
@[simp] theorem modEngine_thermal (e : Nat) (f : Engine → Engine) (s : State) : (modEngine e f s).thermal = s.thermal := rfl
@[simp] theorem modEngine_aux (e : Nat) (f : Engine → Engine) (s : State) : (modEngine e f s).aux = s.aux := rfl
@[simp] theorem modEngine_near (e : Nat) (f : Engine → Engine) (s : State) : (modEngine e f s).near = s.near := rfl
@[simp] theorem modEngine_recd (e : Nat) (f : Engine → Engine) (s : State) : (modEngine e f s).recd = s.recd := rfl
@[simp] theorem modEngine_dma (e : Nat) (f : Engine → Engine) (s : State) : (modEngine e f s).dma = s.dma := rfl
@[simp] theorem modEngine_log (e : Nat) (f : Engine → Engine) (s : State) : (modEngine e f s).log = s.log := rfl
@[simp] theorem modEngine_jtag (e : Nat) (f : Engine → Engine) (s : State) : (modEngine e f s).jtag = s.jtag := rfl

/-! ## setCtx -/

@[simp] theorem setCtx_pending (x : Nat) (v : Ctx) (s : State) : (setCtx x v s).pending = s.pending := rfl
@[simp] theorem setCtx_now (x : Nat) (v : Ctx) (s : State) : (setCtx x v s).now = s.now := rfl
@[simp] theorem setCtx_free (x : Nat) (v : Ctx) (s : State) : (setCtx x v s).free = s.free := rfl
@[simp] theorem setCtx_phase (x : Nat) (v : Ctx) (s : State) : (setCtx x v s).phase = s.phase := rfl
@[simp] theorem setCtx_supply (x : Nat) (v : Ctx) (s : State) : (setCtx x v s).supply = s.supply := rfl
@[simp] theorem setCtx_grat (x : Nat) (v : Ctx) (s : State) : (setCtx x v s).grat = s.grat := rfl
@[simp] theorem setCtx_motor (x : Nat) (v : Ctx) (s : State) : (setCtx x v s).motor = s.motor := rfl
@[simp] theorem setCtx_seq (x : Nat) (v : Ctx) (s : State) : (setCtx x v s).seq = s.seq := rfl
@[simp] theorem setCtx_banks (x : Nat) (v : Ctx) (s : State) : (setCtx x v s).banks = s.banks := rfl
@[simp] theorem setCtx_chain (x : Nat) (v : Ctx) (s : State) : (setCtx x v s).chain = s.chain := rfl
@[simp] theorem setCtx_pulses (x : Nat) (v : Ctx) (s : State) : (setCtx x v s).pulses = s.pulses := rfl
@[simp] theorem setCtx_bias (x : Nat) (v : Ctx) (s : State) : (setCtx x v s).bias = s.bias := rfl
@[simp] theorem setCtx_chans (x : Nat) (v : Ctx) (s : State) : (setCtx x v s).chans = s.chans := rfl
@[simp] theorem setCtx_amb (x : Nat) (v : Ctx) (s : State) : (setCtx x v s).amb = s.amb := rfl
@[simp] theorem setCtx_ambEng (x : Nat) (v : Ctx) (s : State) : (setCtx x v s).ambEng = s.ambEng := rfl
@[simp] theorem setCtx_contour (x : Nat) (v : Ctx) (s : State) : (setCtx x v s).contour = s.contour := rfl
@[simp] theorem setCtx_link (x : Nat) (v : Ctx) (s : State) : (setCtx x v s).link = s.link := rfl
@[simp] theorem setCtx_otp (x : Nat) (v : Ctx) (s : State) : (setCtx x v s).otp = s.otp := rfl
@[simp] theorem setCtx_sec (x : Nat) (v : Ctx) (s : State) : (setCtx x v s).sec = s.sec := rfl
@[simp] theorem setCtx_nor (x : Nat) (v : Ctx) (s : State) : (setCtx x v s).nor = s.nor := rfl
@[simp] theorem setCtx_legend (x : Nat) (v : Ctx) (s : State) : (setCtx x v s).legend = s.legend := rfl
@[simp] theorem setCtx_image (x : Nat) (v : Ctx) (s : State) : (setCtx x v s).image = s.image := rfl
@[simp] theorem setCtx_safety (x : Nat) (v : Ctx) (s : State) : (setCtx x v s).safety = s.safety := rfl
@[simp] theorem setCtx_calib (x : Nat) (v : Ctx) (s : State) : (setCtx x v s).calib = s.calib := rfl
@[simp] theorem setCtx_thermal (x : Nat) (v : Ctx) (s : State) : (setCtx x v s).thermal = s.thermal := rfl
@[simp] theorem setCtx_aux (x : Nat) (v : Ctx) (s : State) : (setCtx x v s).aux = s.aux := rfl
@[simp] theorem setCtx_near (x : Nat) (v : Ctx) (s : State) : (setCtx x v s).near = s.near := rfl
@[simp] theorem setCtx_recd (x : Nat) (v : Ctx) (s : State) : (setCtx x v s).recd = s.recd := rfl
@[simp] theorem setCtx_dma (x : Nat) (v : Ctx) (s : State) : (setCtx x v s).dma = s.dma := rfl
@[simp] theorem setCtx_log (x : Nat) (v : Ctx) (s : State) : (setCtx x v s).log = s.log := rfl
@[simp] theorem setCtx_jtag (x : Nat) (v : Ctx) (s : State) : (setCtx x v s).jtag = s.jtag := rfl

/-! ## modCtx -/

@[simp] theorem modCtx_pending (x : Nat) (f : Ctx → Ctx) (s : State) : (modCtx x f s).pending = s.pending := rfl
@[simp] theorem modCtx_now (x : Nat) (f : Ctx → Ctx) (s : State) : (modCtx x f s).now = s.now := rfl
@[simp] theorem modCtx_free (x : Nat) (f : Ctx → Ctx) (s : State) : (modCtx x f s).free = s.free := rfl
@[simp] theorem modCtx_phase (x : Nat) (f : Ctx → Ctx) (s : State) : (modCtx x f s).phase = s.phase := rfl
@[simp] theorem modCtx_supply (x : Nat) (f : Ctx → Ctx) (s : State) : (modCtx x f s).supply = s.supply := rfl
@[simp] theorem modCtx_grat (x : Nat) (f : Ctx → Ctx) (s : State) : (modCtx x f s).grat = s.grat := rfl
@[simp] theorem modCtx_motor (x : Nat) (f : Ctx → Ctx) (s : State) : (modCtx x f s).motor = s.motor := rfl
@[simp] theorem modCtx_seq (x : Nat) (f : Ctx → Ctx) (s : State) : (modCtx x f s).seq = s.seq := rfl
@[simp] theorem modCtx_banks (x : Nat) (f : Ctx → Ctx) (s : State) : (modCtx x f s).banks = s.banks := rfl
@[simp] theorem modCtx_chain (x : Nat) (f : Ctx → Ctx) (s : State) : (modCtx x f s).chain = s.chain := rfl
@[simp] theorem modCtx_pulses (x : Nat) (f : Ctx → Ctx) (s : State) : (modCtx x f s).pulses = s.pulses := rfl
@[simp] theorem modCtx_bias (x : Nat) (f : Ctx → Ctx) (s : State) : (modCtx x f s).bias = s.bias := rfl
@[simp] theorem modCtx_chans (x : Nat) (f : Ctx → Ctx) (s : State) : (modCtx x f s).chans = s.chans := rfl
@[simp] theorem modCtx_amb (x : Nat) (f : Ctx → Ctx) (s : State) : (modCtx x f s).amb = s.amb := rfl
@[simp] theorem modCtx_ambEng (x : Nat) (f : Ctx → Ctx) (s : State) : (modCtx x f s).ambEng = s.ambEng := rfl
@[simp] theorem modCtx_contour (x : Nat) (f : Ctx → Ctx) (s : State) : (modCtx x f s).contour = s.contour := rfl
@[simp] theorem modCtx_link (x : Nat) (f : Ctx → Ctx) (s : State) : (modCtx x f s).link = s.link := rfl
@[simp] theorem modCtx_otp (x : Nat) (f : Ctx → Ctx) (s : State) : (modCtx x f s).otp = s.otp := rfl
@[simp] theorem modCtx_sec (x : Nat) (f : Ctx → Ctx) (s : State) : (modCtx x f s).sec = s.sec := rfl
@[simp] theorem modCtx_nor (x : Nat) (f : Ctx → Ctx) (s : State) : (modCtx x f s).nor = s.nor := rfl
@[simp] theorem modCtx_legend (x : Nat) (f : Ctx → Ctx) (s : State) : (modCtx x f s).legend = s.legend := rfl
@[simp] theorem modCtx_image (x : Nat) (f : Ctx → Ctx) (s : State) : (modCtx x f s).image = s.image := rfl
@[simp] theorem modCtx_safety (x : Nat) (f : Ctx → Ctx) (s : State) : (modCtx x f s).safety = s.safety := rfl
@[simp] theorem modCtx_calib (x : Nat) (f : Ctx → Ctx) (s : State) : (modCtx x f s).calib = s.calib := rfl
@[simp] theorem modCtx_thermal (x : Nat) (f : Ctx → Ctx) (s : State) : (modCtx x f s).thermal = s.thermal := rfl
@[simp] theorem modCtx_aux (x : Nat) (f : Ctx → Ctx) (s : State) : (modCtx x f s).aux = s.aux := rfl
@[simp] theorem modCtx_near (x : Nat) (f : Ctx → Ctx) (s : State) : (modCtx x f s).near = s.near := rfl
@[simp] theorem modCtx_recd (x : Nat) (f : Ctx → Ctx) (s : State) : (modCtx x f s).recd = s.recd := rfl
@[simp] theorem modCtx_dma (x : Nat) (f : Ctx → Ctx) (s : State) : (modCtx x f s).dma = s.dma := rfl
@[simp] theorem modCtx_log (x : Nat) (f : Ctx → Ctx) (s : State) : (modCtx x f s).log = s.log := rfl
@[simp] theorem modCtx_jtag (x : Nat) (f : Ctx → Ctx) (s : State) : (modCtx x f s).jtag = s.jtag := rfl

/-! ## freeCtx -/

@[simp] theorem freeCtx_pending (x : Nat) (s : State) : (freeCtx x s).pending = s.pending := rfl
@[simp] theorem freeCtx_now (x : Nat) (s : State) : (freeCtx x s).now = s.now := rfl
@[simp] theorem freeCtx_free (x : Nat) (s : State) : (freeCtx x s).free = s.free := rfl
@[simp] theorem freeCtx_phase (x : Nat) (s : State) : (freeCtx x s).phase = s.phase := rfl
@[simp] theorem freeCtx_supply (x : Nat) (s : State) : (freeCtx x s).supply = s.supply := rfl
@[simp] theorem freeCtx_grat (x : Nat) (s : State) : (freeCtx x s).grat = s.grat := rfl
@[simp] theorem freeCtx_motor (x : Nat) (s : State) : (freeCtx x s).motor = s.motor := rfl
@[simp] theorem freeCtx_seq (x : Nat) (s : State) : (freeCtx x s).seq = s.seq := rfl
@[simp] theorem freeCtx_banks (x : Nat) (s : State) : (freeCtx x s).banks = s.banks := rfl
@[simp] theorem freeCtx_chain (x : Nat) (s : State) : (freeCtx x s).chain = s.chain := rfl
@[simp] theorem freeCtx_pulses (x : Nat) (s : State) : (freeCtx x s).pulses = s.pulses := rfl
@[simp] theorem freeCtx_bias (x : Nat) (s : State) : (freeCtx x s).bias = s.bias := rfl
@[simp] theorem freeCtx_chans (x : Nat) (s : State) : (freeCtx x s).chans = s.chans := rfl
@[simp] theorem freeCtx_amb (x : Nat) (s : State) : (freeCtx x s).amb = s.amb := rfl
@[simp] theorem freeCtx_ambEng (x : Nat) (s : State) : (freeCtx x s).ambEng = s.ambEng := rfl
@[simp] theorem freeCtx_contour (x : Nat) (s : State) : (freeCtx x s).contour = s.contour := rfl
@[simp] theorem freeCtx_link (x : Nat) (s : State) : (freeCtx x s).link = s.link := rfl
@[simp] theorem freeCtx_otp (x : Nat) (s : State) : (freeCtx x s).otp = s.otp := rfl
@[simp] theorem freeCtx_sec (x : Nat) (s : State) : (freeCtx x s).sec = s.sec := rfl
@[simp] theorem freeCtx_nor (x : Nat) (s : State) : (freeCtx x s).nor = s.nor := rfl
@[simp] theorem freeCtx_legend (x : Nat) (s : State) : (freeCtx x s).legend = s.legend := rfl
@[simp] theorem freeCtx_image (x : Nat) (s : State) : (freeCtx x s).image = s.image := rfl
@[simp] theorem freeCtx_safety (x : Nat) (s : State) : (freeCtx x s).safety = s.safety := rfl
@[simp] theorem freeCtx_calib (x : Nat) (s : State) : (freeCtx x s).calib = s.calib := rfl
@[simp] theorem freeCtx_thermal (x : Nat) (s : State) : (freeCtx x s).thermal = s.thermal := rfl
@[simp] theorem freeCtx_aux (x : Nat) (s : State) : (freeCtx x s).aux = s.aux := rfl
@[simp] theorem freeCtx_near (x : Nat) (s : State) : (freeCtx x s).near = s.near := rfl
@[simp] theorem freeCtx_recd (x : Nat) (s : State) : (freeCtx x s).recd = s.recd := rfl
@[simp] theorem freeCtx_dma (x : Nat) (s : State) : (freeCtx x s).dma = s.dma := rfl
@[simp] theorem freeCtx_log (x : Nat) (s : State) : (freeCtx x s).log = s.log := rfl
@[simp] theorem freeCtx_jtag (x : Nat) (s : State) : (freeCtx x s).jtag = s.jtag := rfl

/-! ## setUnit -/

@[simp] theorem setUnit_pending (u : Nat) (v : Unit_) (s : State) : (setUnit u v s).pending = s.pending := rfl
@[simp] theorem setUnit_now (u : Nat) (v : Unit_) (s : State) : (setUnit u v s).now = s.now := rfl
@[simp] theorem setUnit_free (u : Nat) (v : Unit_) (s : State) : (setUnit u v s).free = s.free := rfl
@[simp] theorem setUnit_phase (u : Nat) (v : Unit_) (s : State) : (setUnit u v s).phase = s.phase := rfl
@[simp] theorem setUnit_supply (u : Nat) (v : Unit_) (s : State) : (setUnit u v s).supply = s.supply := rfl
@[simp] theorem setUnit_grat (u : Nat) (v : Unit_) (s : State) : (setUnit u v s).grat = s.grat := rfl
@[simp] theorem setUnit_motor (u : Nat) (v : Unit_) (s : State) : (setUnit u v s).motor = s.motor := rfl
@[simp] theorem setUnit_seq (u : Nat) (v : Unit_) (s : State) : (setUnit u v s).seq = s.seq := rfl
@[simp] theorem setUnit_banks (u : Nat) (v : Unit_) (s : State) : (setUnit u v s).banks = s.banks := rfl
@[simp] theorem setUnit_chain (u : Nat) (v : Unit_) (s : State) : (setUnit u v s).chain = s.chain := rfl
@[simp] theorem setUnit_pulses (u : Nat) (v : Unit_) (s : State) : (setUnit u v s).pulses = s.pulses := rfl
@[simp] theorem setUnit_bias (u : Nat) (v : Unit_) (s : State) : (setUnit u v s).bias = s.bias := rfl
@[simp] theorem setUnit_chans (u : Nat) (v : Unit_) (s : State) : (setUnit u v s).chans = s.chans := rfl
@[simp] theorem setUnit_amb (u : Nat) (v : Unit_) (s : State) : (setUnit u v s).amb = s.amb := rfl
@[simp] theorem setUnit_ambEng (u : Nat) (v : Unit_) (s : State) : (setUnit u v s).ambEng = s.ambEng := rfl
@[simp] theorem setUnit_survey (u : Nat) (v : Unit_) (s : State) : (setUnit u v s).survey = s.survey := rfl
@[simp] theorem setUnit_link (u : Nat) (v : Unit_) (s : State) : (setUnit u v s).link = s.link := rfl
@[simp] theorem setUnit_otp (u : Nat) (v : Unit_) (s : State) : (setUnit u v s).otp = s.otp := rfl
@[simp] theorem setUnit_sec (u : Nat) (v : Unit_) (s : State) : (setUnit u v s).sec = s.sec := rfl
@[simp] theorem setUnit_nor (u : Nat) (v : Unit_) (s : State) : (setUnit u v s).nor = s.nor := rfl
@[simp] theorem setUnit_legend (u : Nat) (v : Unit_) (s : State) : (setUnit u v s).legend = s.legend := rfl
@[simp] theorem setUnit_image (u : Nat) (v : Unit_) (s : State) : (setUnit u v s).image = s.image := rfl
@[simp] theorem setUnit_safety (u : Nat) (v : Unit_) (s : State) : (setUnit u v s).safety = s.safety := rfl
@[simp] theorem setUnit_calib (u : Nat) (v : Unit_) (s : State) : (setUnit u v s).calib = s.calib := rfl
@[simp] theorem setUnit_thermal (u : Nat) (v : Unit_) (s : State) : (setUnit u v s).thermal = s.thermal := rfl
@[simp] theorem setUnit_aux (u : Nat) (v : Unit_) (s : State) : (setUnit u v s).aux = s.aux := rfl
@[simp] theorem setUnit_near (u : Nat) (v : Unit_) (s : State) : (setUnit u v s).near = s.near := rfl
@[simp] theorem setUnit_recd (u : Nat) (v : Unit_) (s : State) : (setUnit u v s).recd = s.recd := rfl
@[simp] theorem setUnit_dma (u : Nat) (v : Unit_) (s : State) : (setUnit u v s).dma = s.dma := rfl
@[simp] theorem setUnit_log (u : Nat) (v : Unit_) (s : State) : (setUnit u v s).log = s.log := rfl
@[simp] theorem setUnit_jtag (u : Nat) (v : Unit_) (s : State) : (setUnit u v s).jtag = s.jtag := rfl

/-! ## setAux -/

@[simp] theorem setAux_pending (n : Nat) (v : AuxIn) (s : State) : (setAux n v s).pending = s.pending := rfl
@[simp] theorem setAux_now (n : Nat) (v : AuxIn) (s : State) : (setAux n v s).now = s.now := rfl
@[simp] theorem setAux_free (n : Nat) (v : AuxIn) (s : State) : (setAux n v s).free = s.free := rfl
@[simp] theorem setAux_phase (n : Nat) (v : AuxIn) (s : State) : (setAux n v s).phase = s.phase := rfl
@[simp] theorem setAux_supply (n : Nat) (v : AuxIn) (s : State) : (setAux n v s).supply = s.supply := rfl
@[simp] theorem setAux_grat (n : Nat) (v : AuxIn) (s : State) : (setAux n v s).grat = s.grat := rfl
@[simp] theorem setAux_motor (n : Nat) (v : AuxIn) (s : State) : (setAux n v s).motor = s.motor := rfl
@[simp] theorem setAux_seq (n : Nat) (v : AuxIn) (s : State) : (setAux n v s).seq = s.seq := rfl
@[simp] theorem setAux_banks (n : Nat) (v : AuxIn) (s : State) : (setAux n v s).banks = s.banks := rfl
@[simp] theorem setAux_chain (n : Nat) (v : AuxIn) (s : State) : (setAux n v s).chain = s.chain := rfl
@[simp] theorem setAux_pulses (n : Nat) (v : AuxIn) (s : State) : (setAux n v s).pulses = s.pulses := rfl
@[simp] theorem setAux_bias (n : Nat) (v : AuxIn) (s : State) : (setAux n v s).bias = s.bias := rfl
@[simp] theorem setAux_chans (n : Nat) (v : AuxIn) (s : State) : (setAux n v s).chans = s.chans := rfl
@[simp] theorem setAux_amb (n : Nat) (v : AuxIn) (s : State) : (setAux n v s).amb = s.amb := rfl
@[simp] theorem setAux_ambEng (n : Nat) (v : AuxIn) (s : State) : (setAux n v s).ambEng = s.ambEng := rfl
@[simp] theorem setAux_survey (n : Nat) (v : AuxIn) (s : State) : (setAux n v s).survey = s.survey := rfl
@[simp] theorem setAux_contour (n : Nat) (v : AuxIn) (s : State) : (setAux n v s).contour = s.contour := rfl
@[simp] theorem setAux_link (n : Nat) (v : AuxIn) (s : State) : (setAux n v s).link = s.link := rfl
@[simp] theorem setAux_otp (n : Nat) (v : AuxIn) (s : State) : (setAux n v s).otp = s.otp := rfl
@[simp] theorem setAux_sec (n : Nat) (v : AuxIn) (s : State) : (setAux n v s).sec = s.sec := rfl
@[simp] theorem setAux_nor (n : Nat) (v : AuxIn) (s : State) : (setAux n v s).nor = s.nor := rfl
@[simp] theorem setAux_legend (n : Nat) (v : AuxIn) (s : State) : (setAux n v s).legend = s.legend := rfl
@[simp] theorem setAux_image (n : Nat) (v : AuxIn) (s : State) : (setAux n v s).image = s.image := rfl
@[simp] theorem setAux_safety (n : Nat) (v : AuxIn) (s : State) : (setAux n v s).safety = s.safety := rfl
@[simp] theorem setAux_calib (n : Nat) (v : AuxIn) (s : State) : (setAux n v s).calib = s.calib := rfl
@[simp] theorem setAux_thermal (n : Nat) (v : AuxIn) (s : State) : (setAux n v s).thermal = s.thermal := rfl
@[simp] theorem setAux_near (n : Nat) (v : AuxIn) (s : State) : (setAux n v s).near = s.near := rfl
@[simp] theorem setAux_recd (n : Nat) (v : AuxIn) (s : State) : (setAux n v s).recd = s.recd := rfl
@[simp] theorem setAux_dma (n : Nat) (v : AuxIn) (s : State) : (setAux n v s).dma = s.dma := rfl
@[simp] theorem setAux_log (n : Nat) (v : AuxIn) (s : State) : (setAux n v s).log = s.log := rfl
@[simp] theorem setAux_jtag (n : Nat) (v : AuxIn) (s : State) : (setAux n v s).jtag = s.jtag := rfl

/-! ## setMover -/

@[simp] theorem setMover_pending (k : Nat) (v : Mover) (s : State) : (setMover k v s).pending = s.pending := rfl
@[simp] theorem setMover_now (k : Nat) (v : Mover) (s : State) : (setMover k v s).now = s.now := rfl
@[simp] theorem setMover_free (k : Nat) (v : Mover) (s : State) : (setMover k v s).free = s.free := rfl
@[simp] theorem setMover_phase (k : Nat) (v : Mover) (s : State) : (setMover k v s).phase = s.phase := rfl
@[simp] theorem setMover_supply (k : Nat) (v : Mover) (s : State) : (setMover k v s).supply = s.supply := rfl
@[simp] theorem setMover_grat (k : Nat) (v : Mover) (s : State) : (setMover k v s).grat = s.grat := rfl
@[simp] theorem setMover_motor (k : Nat) (v : Mover) (s : State) : (setMover k v s).motor = s.motor := rfl
@[simp] theorem setMover_seq (k : Nat) (v : Mover) (s : State) : (setMover k v s).seq = s.seq := rfl
@[simp] theorem setMover_banks (k : Nat) (v : Mover) (s : State) : (setMover k v s).banks = s.banks := rfl
@[simp] theorem setMover_chain (k : Nat) (v : Mover) (s : State) : (setMover k v s).chain = s.chain := rfl
@[simp] theorem setMover_pulses (k : Nat) (v : Mover) (s : State) : (setMover k v s).pulses = s.pulses := rfl
@[simp] theorem setMover_bias (k : Nat) (v : Mover) (s : State) : (setMover k v s).bias = s.bias := rfl
@[simp] theorem setMover_chans (k : Nat) (v : Mover) (s : State) : (setMover k v s).chans = s.chans := rfl
@[simp] theorem setMover_amb (k : Nat) (v : Mover) (s : State) : (setMover k v s).amb = s.amb := rfl
@[simp] theorem setMover_ambEng (k : Nat) (v : Mover) (s : State) : (setMover k v s).ambEng = s.ambEng := rfl
@[simp] theorem setMover_survey (k : Nat) (v : Mover) (s : State) : (setMover k v s).survey = s.survey := rfl
@[simp] theorem setMover_contour (k : Nat) (v : Mover) (s : State) : (setMover k v s).contour = s.contour := rfl
@[simp] theorem setMover_link (k : Nat) (v : Mover) (s : State) : (setMover k v s).link = s.link := rfl
@[simp] theorem setMover_otp (k : Nat) (v : Mover) (s : State) : (setMover k v s).otp = s.otp := rfl
@[simp] theorem setMover_sec (k : Nat) (v : Mover) (s : State) : (setMover k v s).sec = s.sec := rfl
@[simp] theorem setMover_nor (k : Nat) (v : Mover) (s : State) : (setMover k v s).nor = s.nor := rfl
@[simp] theorem setMover_legend (k : Nat) (v : Mover) (s : State) : (setMover k v s).legend = s.legend := rfl
@[simp] theorem setMover_image (k : Nat) (v : Mover) (s : State) : (setMover k v s).image = s.image := rfl
@[simp] theorem setMover_safety (k : Nat) (v : Mover) (s : State) : (setMover k v s).safety = s.safety := rfl
@[simp] theorem setMover_calib (k : Nat) (v : Mover) (s : State) : (setMover k v s).calib = s.calib := rfl
@[simp] theorem setMover_thermal (k : Nat) (v : Mover) (s : State) : (setMover k v s).thermal = s.thermal := rfl
@[simp] theorem setMover_aux (k : Nat) (v : Mover) (s : State) : (setMover k v s).aux = s.aux := rfl
@[simp] theorem setMover_near (k : Nat) (v : Mover) (s : State) : (setMover k v s).near = s.near := rfl
@[simp] theorem setMover_recd (k : Nat) (v : Mover) (s : State) : (setMover k v s).recd = s.recd := rfl
@[simp] theorem setMover_log (k : Nat) (v : Mover) (s : State) : (setMover k v s).log = s.log := rfl
@[simp] theorem setMover_jtag (k : Nat) (v : Mover) (s : State) : (setMover k v s).jtag = s.jtag := rfl

/-! ## setBlock -/

@[simp] theorem setBlock_pending (b : Nat) (v : Block) (s : State) : (setBlock b v s).pending = s.pending := rfl
@[simp] theorem setBlock_now (b : Nat) (v : Block) (s : State) : (setBlock b v s).now = s.now := rfl
@[simp] theorem setBlock_free (b : Nat) (v : Block) (s : State) : (setBlock b v s).free = s.free := rfl
@[simp] theorem setBlock_phase (b : Nat) (v : Block) (s : State) : (setBlock b v s).phase = s.phase := rfl
@[simp] theorem setBlock_supply (b : Nat) (v : Block) (s : State) : (setBlock b v s).supply = s.supply := rfl
@[simp] theorem setBlock_grat (b : Nat) (v : Block) (s : State) : (setBlock b v s).grat = s.grat := rfl
@[simp] theorem setBlock_motor (b : Nat) (v : Block) (s : State) : (setBlock b v s).motor = s.motor := rfl
@[simp] theorem setBlock_seq (b : Nat) (v : Block) (s : State) : (setBlock b v s).seq = s.seq := rfl
@[simp] theorem setBlock_banks (b : Nat) (v : Block) (s : State) : (setBlock b v s).banks = s.banks := rfl
@[simp] theorem setBlock_chain (b : Nat) (v : Block) (s : State) : (setBlock b v s).chain = s.chain := rfl
@[simp] theorem setBlock_pulses (b : Nat) (v : Block) (s : State) : (setBlock b v s).pulses = s.pulses := rfl
@[simp] theorem setBlock_bias (b : Nat) (v : Block) (s : State) : (setBlock b v s).bias = s.bias := rfl
@[simp] theorem setBlock_chans (b : Nat) (v : Block) (s : State) : (setBlock b v s).chans = s.chans := rfl
@[simp] theorem setBlock_amb (b : Nat) (v : Block) (s : State) : (setBlock b v s).amb = s.amb := rfl
@[simp] theorem setBlock_ambEng (b : Nat) (v : Block) (s : State) : (setBlock b v s).ambEng = s.ambEng := rfl
@[simp] theorem setBlock_survey (b : Nat) (v : Block) (s : State) : (setBlock b v s).survey = s.survey := rfl
@[simp] theorem setBlock_contour (b : Nat) (v : Block) (s : State) : (setBlock b v s).contour = s.contour := rfl
@[simp] theorem setBlock_link (b : Nat) (v : Block) (s : State) : (setBlock b v s).link = s.link := rfl
@[simp] theorem setBlock_otp (b : Nat) (v : Block) (s : State) : (setBlock b v s).otp = s.otp := rfl
@[simp] theorem setBlock_sec (b : Nat) (v : Block) (s : State) : (setBlock b v s).sec = s.sec := rfl
@[simp] theorem setBlock_nor (b : Nat) (v : Block) (s : State) : (setBlock b v s).nor = s.nor := rfl
@[simp] theorem setBlock_legend (b : Nat) (v : Block) (s : State) : (setBlock b v s).legend = s.legend := rfl
@[simp] theorem setBlock_image (b : Nat) (v : Block) (s : State) : (setBlock b v s).image = s.image := rfl
@[simp] theorem setBlock_safety (b : Nat) (v : Block) (s : State) : (setBlock b v s).safety = s.safety := rfl
@[simp] theorem setBlock_calib (b : Nat) (v : Block) (s : State) : (setBlock b v s).calib = s.calib := rfl
@[simp] theorem setBlock_thermal (b : Nat) (v : Block) (s : State) : (setBlock b v s).thermal = s.thermal := rfl
@[simp] theorem setBlock_aux (b : Nat) (v : Block) (s : State) : (setBlock b v s).aux = s.aux := rfl
@[simp] theorem setBlock_near (b : Nat) (v : Block) (s : State) : (setBlock b v s).near = s.near := rfl
@[simp] theorem setBlock_dma (b : Nat) (v : Block) (s : State) : (setBlock b v s).dma = s.dma := rfl
@[simp] theorem setBlock_log (b : Nat) (v : Block) (s : State) : (setBlock b v s).log = s.log := rfl
@[simp] theorem setBlock_jtag (b : Nat) (v : Block) (s : State) : (setBlock b v s).jtag = s.jtag := rfl

/-! ## modBlock -/

@[simp] theorem modBlock_pending (b : Nat) (f : Block → Block) (s : State) : (modBlock b f s).pending = s.pending := rfl
@[simp] theorem modBlock_now (b : Nat) (f : Block → Block) (s : State) : (modBlock b f s).now = s.now := rfl
@[simp] theorem modBlock_free (b : Nat) (f : Block → Block) (s : State) : (modBlock b f s).free = s.free := rfl
@[simp] theorem modBlock_phase (b : Nat) (f : Block → Block) (s : State) : (modBlock b f s).phase = s.phase := rfl
@[simp] theorem modBlock_supply (b : Nat) (f : Block → Block) (s : State) : (modBlock b f s).supply = s.supply := rfl
@[simp] theorem modBlock_grat (b : Nat) (f : Block → Block) (s : State) : (modBlock b f s).grat = s.grat := rfl
@[simp] theorem modBlock_motor (b : Nat) (f : Block → Block) (s : State) : (modBlock b f s).motor = s.motor := rfl
@[simp] theorem modBlock_seq (b : Nat) (f : Block → Block) (s : State) : (modBlock b f s).seq = s.seq := rfl
@[simp] theorem modBlock_banks (b : Nat) (f : Block → Block) (s : State) : (modBlock b f s).banks = s.banks := rfl
@[simp] theorem modBlock_chain (b : Nat) (f : Block → Block) (s : State) : (modBlock b f s).chain = s.chain := rfl
@[simp] theorem modBlock_pulses (b : Nat) (f : Block → Block) (s : State) : (modBlock b f s).pulses = s.pulses := rfl
@[simp] theorem modBlock_bias (b : Nat) (f : Block → Block) (s : State) : (modBlock b f s).bias = s.bias := rfl
@[simp] theorem modBlock_chans (b : Nat) (f : Block → Block) (s : State) : (modBlock b f s).chans = s.chans := rfl
@[simp] theorem modBlock_amb (b : Nat) (f : Block → Block) (s : State) : (modBlock b f s).amb = s.amb := rfl
@[simp] theorem modBlock_ambEng (b : Nat) (f : Block → Block) (s : State) : (modBlock b f s).ambEng = s.ambEng := rfl
@[simp] theorem modBlock_survey (b : Nat) (f : Block → Block) (s : State) : (modBlock b f s).survey = s.survey := rfl
@[simp] theorem modBlock_contour (b : Nat) (f : Block → Block) (s : State) : (modBlock b f s).contour = s.contour := rfl
@[simp] theorem modBlock_link (b : Nat) (f : Block → Block) (s : State) : (modBlock b f s).link = s.link := rfl
@[simp] theorem modBlock_otp (b : Nat) (f : Block → Block) (s : State) : (modBlock b f s).otp = s.otp := rfl
@[simp] theorem modBlock_sec (b : Nat) (f : Block → Block) (s : State) : (modBlock b f s).sec = s.sec := rfl
@[simp] theorem modBlock_nor (b : Nat) (f : Block → Block) (s : State) : (modBlock b f s).nor = s.nor := rfl
@[simp] theorem modBlock_legend (b : Nat) (f : Block → Block) (s : State) : (modBlock b f s).legend = s.legend := rfl
@[simp] theorem modBlock_image (b : Nat) (f : Block → Block) (s : State) : (modBlock b f s).image = s.image := rfl
@[simp] theorem modBlock_safety (b : Nat) (f : Block → Block) (s : State) : (modBlock b f s).safety = s.safety := rfl
@[simp] theorem modBlock_calib (b : Nat) (f : Block → Block) (s : State) : (modBlock b f s).calib = s.calib := rfl
@[simp] theorem modBlock_thermal (b : Nat) (f : Block → Block) (s : State) : (modBlock b f s).thermal = s.thermal := rfl
@[simp] theorem modBlock_aux (b : Nat) (f : Block → Block) (s : State) : (modBlock b f s).aux = s.aux := rfl
@[simp] theorem modBlock_near (b : Nat) (f : Block → Block) (s : State) : (modBlock b f s).near = s.near := rfl
@[simp] theorem modBlock_dma (b : Nat) (f : Block → Block) (s : State) : (modBlock b f s).dma = s.dma := rfl
@[simp] theorem modBlock_log (b : Nat) (f : Block → Block) (s : State) : (modBlock b f s).log = s.log := rfl
@[simp] theorem modBlock_jtag (b : Nat) (f : Block → Block) (s : State) : (modBlock b f s).jtag = s.jtag := rfl

/-! ## setSide -/

@[simp] theorem setSide_pending (d : Side) (v : SafeCh) (s : State) : (setSide d v s).pending = s.pending := by cases d <;> rfl
@[simp] theorem setSide_now (d : Side) (v : SafeCh) (s : State) : (setSide d v s).now = s.now := by cases d <;> rfl
@[simp] theorem setSide_free (d : Side) (v : SafeCh) (s : State) : (setSide d v s).free = s.free := by cases d <;> rfl
@[simp] theorem setSide_phase (d : Side) (v : SafeCh) (s : State) : (setSide d v s).phase = s.phase := by cases d <;> rfl
@[simp] theorem setSide_supply (d : Side) (v : SafeCh) (s : State) : (setSide d v s).supply = s.supply := by cases d <;> rfl
@[simp] theorem setSide_grat (d : Side) (v : SafeCh) (s : State) : (setSide d v s).grat = s.grat := by cases d <;> rfl
@[simp] theorem setSide_motor (d : Side) (v : SafeCh) (s : State) : (setSide d v s).motor = s.motor := by cases d <;> rfl
@[simp] theorem setSide_seq (d : Side) (v : SafeCh) (s : State) : (setSide d v s).seq = s.seq := by cases d <;> rfl
@[simp] theorem setSide_banks (d : Side) (v : SafeCh) (s : State) : (setSide d v s).banks = s.banks := by cases d <;> rfl
@[simp] theorem setSide_chain (d : Side) (v : SafeCh) (s : State) : (setSide d v s).chain = s.chain := by cases d <;> rfl
@[simp] theorem setSide_pulses (d : Side) (v : SafeCh) (s : State) : (setSide d v s).pulses = s.pulses := by cases d <;> rfl
@[simp] theorem setSide_bias (d : Side) (v : SafeCh) (s : State) : (setSide d v s).bias = s.bias := by cases d <;> rfl
@[simp] theorem setSide_chans (d : Side) (v : SafeCh) (s : State) : (setSide d v s).chans = s.chans := by cases d <;> rfl
@[simp] theorem setSide_amb (d : Side) (v : SafeCh) (s : State) : (setSide d v s).amb = s.amb := by cases d <;> rfl
@[simp] theorem setSide_ambEng (d : Side) (v : SafeCh) (s : State) : (setSide d v s).ambEng = s.ambEng := by cases d <;> rfl
@[simp] theorem setSide_survey (d : Side) (v : SafeCh) (s : State) : (setSide d v s).survey = s.survey := by cases d <;> rfl
@[simp] theorem setSide_contour (d : Side) (v : SafeCh) (s : State) : (setSide d v s).contour = s.contour := by cases d <;> rfl
@[simp] theorem setSide_link (d : Side) (v : SafeCh) (s : State) : (setSide d v s).link = s.link := by cases d <;> rfl
@[simp] theorem setSide_otp (d : Side) (v : SafeCh) (s : State) : (setSide d v s).otp = s.otp := by cases d <;> rfl
@[simp] theorem setSide_sec (d : Side) (v : SafeCh) (s : State) : (setSide d v s).sec = s.sec := by cases d <;> rfl
@[simp] theorem setSide_nor (d : Side) (v : SafeCh) (s : State) : (setSide d v s).nor = s.nor := by cases d <;> rfl
@[simp] theorem setSide_legend (d : Side) (v : SafeCh) (s : State) : (setSide d v s).legend = s.legend := by cases d <;> rfl
@[simp] theorem setSide_image (d : Side) (v : SafeCh) (s : State) : (setSide d v s).image = s.image := by cases d <;> rfl
@[simp] theorem setSide_calib (d : Side) (v : SafeCh) (s : State) : (setSide d v s).calib = s.calib := by cases d <;> rfl
@[simp] theorem setSide_thermal (d : Side) (v : SafeCh) (s : State) : (setSide d v s).thermal = s.thermal := by cases d <;> rfl
@[simp] theorem setSide_aux (d : Side) (v : SafeCh) (s : State) : (setSide d v s).aux = s.aux := by cases d <;> rfl
@[simp] theorem setSide_near (d : Side) (v : SafeCh) (s : State) : (setSide d v s).near = s.near := by cases d <;> rfl
@[simp] theorem setSide_recd (d : Side) (v : SafeCh) (s : State) : (setSide d v s).recd = s.recd := by cases d <;> rfl
@[simp] theorem setSide_dma (d : Side) (v : SafeCh) (s : State) : (setSide d v s).dma = s.dma := by cases d <;> rfl
@[simp] theorem setSide_log (d : Side) (v : SafeCh) (s : State) : (setSide d v s).log = s.log := by cases d <;> rfl
@[simp] theorem setSide_jtag (d : Side) (v : SafeCh) (s : State) : (setSide d v s).jtag = s.jtag := by cases d <;> rfl

/-! ## modSide -/

@[simp] theorem modSide_pending (d : Side) (f : SafeCh → SafeCh) (s : State) : (modSide d f s).pending = s.pending := by cases d <;> rfl
@[simp] theorem modSide_now (d : Side) (f : SafeCh → SafeCh) (s : State) : (modSide d f s).now = s.now := by cases d <;> rfl
@[simp] theorem modSide_free (d : Side) (f : SafeCh → SafeCh) (s : State) : (modSide d f s).free = s.free := by cases d <;> rfl
@[simp] theorem modSide_phase (d : Side) (f : SafeCh → SafeCh) (s : State) : (modSide d f s).phase = s.phase := by cases d <;> rfl
@[simp] theorem modSide_supply (d : Side) (f : SafeCh → SafeCh) (s : State) : (modSide d f s).supply = s.supply := by cases d <;> rfl
@[simp] theorem modSide_grat (d : Side) (f : SafeCh → SafeCh) (s : State) : (modSide d f s).grat = s.grat := by cases d <;> rfl
@[simp] theorem modSide_motor (d : Side) (f : SafeCh → SafeCh) (s : State) : (modSide d f s).motor = s.motor := by cases d <;> rfl
@[simp] theorem modSide_seq (d : Side) (f : SafeCh → SafeCh) (s : State) : (modSide d f s).seq = s.seq := by cases d <;> rfl
@[simp] theorem modSide_banks (d : Side) (f : SafeCh → SafeCh) (s : State) : (modSide d f s).banks = s.banks := by cases d <;> rfl
@[simp] theorem modSide_chain (d : Side) (f : SafeCh → SafeCh) (s : State) : (modSide d f s).chain = s.chain := by cases d <;> rfl
@[simp] theorem modSide_pulses (d : Side) (f : SafeCh → SafeCh) (s : State) : (modSide d f s).pulses = s.pulses := by cases d <;> rfl
@[simp] theorem modSide_bias (d : Side) (f : SafeCh → SafeCh) (s : State) : (modSide d f s).bias = s.bias := by cases d <;> rfl
@[simp] theorem modSide_chans (d : Side) (f : SafeCh → SafeCh) (s : State) : (modSide d f s).chans = s.chans := by cases d <;> rfl
@[simp] theorem modSide_amb (d : Side) (f : SafeCh → SafeCh) (s : State) : (modSide d f s).amb = s.amb := by cases d <;> rfl
@[simp] theorem modSide_ambEng (d : Side) (f : SafeCh → SafeCh) (s : State) : (modSide d f s).ambEng = s.ambEng := by cases d <;> rfl
@[simp] theorem modSide_survey (d : Side) (f : SafeCh → SafeCh) (s : State) : (modSide d f s).survey = s.survey := by cases d <;> rfl
@[simp] theorem modSide_contour (d : Side) (f : SafeCh → SafeCh) (s : State) : (modSide d f s).contour = s.contour := by cases d <;> rfl
@[simp] theorem modSide_link (d : Side) (f : SafeCh → SafeCh) (s : State) : (modSide d f s).link = s.link := by cases d <;> rfl
@[simp] theorem modSide_otp (d : Side) (f : SafeCh → SafeCh) (s : State) : (modSide d f s).otp = s.otp := by cases d <;> rfl
@[simp] theorem modSide_sec (d : Side) (f : SafeCh → SafeCh) (s : State) : (modSide d f s).sec = s.sec := by cases d <;> rfl
@[simp] theorem modSide_nor (d : Side) (f : SafeCh → SafeCh) (s : State) : (modSide d f s).nor = s.nor := by cases d <;> rfl
@[simp] theorem modSide_legend (d : Side) (f : SafeCh → SafeCh) (s : State) : (modSide d f s).legend = s.legend := by cases d <;> rfl
@[simp] theorem modSide_image (d : Side) (f : SafeCh → SafeCh) (s : State) : (modSide d f s).image = s.image := by cases d <;> rfl
@[simp] theorem modSide_calib (d : Side) (f : SafeCh → SafeCh) (s : State) : (modSide d f s).calib = s.calib := by cases d <;> rfl
@[simp] theorem modSide_thermal (d : Side) (f : SafeCh → SafeCh) (s : State) : (modSide d f s).thermal = s.thermal := by cases d <;> rfl
@[simp] theorem modSide_aux (d : Side) (f : SafeCh → SafeCh) (s : State) : (modSide d f s).aux = s.aux := by cases d <;> rfl
@[simp] theorem modSide_near (d : Side) (f : SafeCh → SafeCh) (s : State) : (modSide d f s).near = s.near := by cases d <;> rfl
@[simp] theorem modSide_recd (d : Side) (f : SafeCh → SafeCh) (s : State) : (modSide d f s).recd = s.recd := by cases d <;> rfl
@[simp] theorem modSide_dma (d : Side) (f : SafeCh → SafeCh) (s : State) : (modSide d f s).dma = s.dma := by cases d <;> rfl
@[simp] theorem modSide_log (d : Side) (f : SafeCh → SafeCh) (s : State) : (modSide d f s).log = s.log := by cases d <;> rfl
@[simp] theorem modSide_jtag (d : Side) (f : SafeCh → SafeCh) (s : State) : (modSide d f s).jtag = s.jtag := by cases d <;> rfl

/-! ## count -/

@[simp] theorem count_pending (c : Counter) (n : Nat) (s : State) : (count c n s).pending = s.pending := rfl
@[simp] theorem count_now (c : Counter) (n : Nat) (s : State) : (count c n s).now = s.now := rfl
@[simp] theorem count_free (c : Counter) (n : Nat) (s : State) : (count c n s).free = s.free := rfl
@[simp] theorem count_phase (c : Counter) (n : Nat) (s : State) : (count c n s).phase = s.phase := rfl
@[simp] theorem count_supply (c : Counter) (n : Nat) (s : State) : (count c n s).supply = s.supply := rfl
@[simp] theorem count_grat (c : Counter) (n : Nat) (s : State) : (count c n s).grat = s.grat := rfl
@[simp] theorem count_motor (c : Counter) (n : Nat) (s : State) : (count c n s).motor = s.motor := rfl
@[simp] theorem count_seq (c : Counter) (n : Nat) (s : State) : (count c n s).seq = s.seq := rfl
@[simp] theorem count_banks (c : Counter) (n : Nat) (s : State) : (count c n s).banks = s.banks := rfl
@[simp] theorem count_chain (c : Counter) (n : Nat) (s : State) : (count c n s).chain = s.chain := rfl
@[simp] theorem count_pulses (c : Counter) (n : Nat) (s : State) : (count c n s).pulses = s.pulses := rfl
@[simp] theorem count_bias (c : Counter) (n : Nat) (s : State) : (count c n s).bias = s.bias := rfl
@[simp] theorem count_chans (c : Counter) (n : Nat) (s : State) : (count c n s).chans = s.chans := rfl
@[simp] theorem count_amb (c : Counter) (n : Nat) (s : State) : (count c n s).amb = s.amb := rfl
@[simp] theorem count_ambEng (c : Counter) (n : Nat) (s : State) : (count c n s).ambEng = s.ambEng := rfl
@[simp] theorem count_survey (c : Counter) (n : Nat) (s : State) : (count c n s).survey = s.survey := rfl
@[simp] theorem count_contour (c : Counter) (n : Nat) (s : State) : (count c n s).contour = s.contour := rfl
@[simp] theorem count_link (c : Counter) (n : Nat) (s : State) : (count c n s).link = s.link := rfl
@[simp] theorem count_otp (c : Counter) (n : Nat) (s : State) : (count c n s).otp = s.otp := rfl
@[simp] theorem count_sec (c : Counter) (n : Nat) (s : State) : (count c n s).sec = s.sec := rfl
@[simp] theorem count_nor (c : Counter) (n : Nat) (s : State) : (count c n s).nor = s.nor := rfl
@[simp] theorem count_legend (c : Counter) (n : Nat) (s : State) : (count c n s).legend = s.legend := rfl
@[simp] theorem count_image (c : Counter) (n : Nat) (s : State) : (count c n s).image = s.image := rfl
@[simp] theorem count_safety (c : Counter) (n : Nat) (s : State) : (count c n s).safety = s.safety := rfl
@[simp] theorem count_calib (c : Counter) (n : Nat) (s : State) : (count c n s).calib = s.calib := rfl
@[simp] theorem count_thermal (c : Counter) (n : Nat) (s : State) : (count c n s).thermal = s.thermal := rfl
@[simp] theorem count_aux (c : Counter) (n : Nat) (s : State) : (count c n s).aux = s.aux := rfl
@[simp] theorem count_near (c : Counter) (n : Nat) (s : State) : (count c n s).near = s.near := rfl
@[simp] theorem count_recd (c : Counter) (n : Nat) (s : State) : (count c n s).recd = s.recd := rfl
@[simp] theorem count_dma (c : Counter) (n : Nat) (s : State) : (count c n s).dma = s.dma := rfl
@[simp] theorem count_jtag (c : Counter) (n : Nat) (s : State) : (count c n s).jtag = s.jtag := rfl

/-! ## countSet -/

@[simp] theorem countSet_pending (c : Counter) (v : Nat) (s : State) : (countSet c v s).pending = s.pending := rfl
@[simp] theorem countSet_now (c : Counter) (v : Nat) (s : State) : (countSet c v s).now = s.now := rfl
@[simp] theorem countSet_free (c : Counter) (v : Nat) (s : State) : (countSet c v s).free = s.free := rfl
@[simp] theorem countSet_phase (c : Counter) (v : Nat) (s : State) : (countSet c v s).phase = s.phase := rfl
@[simp] theorem countSet_supply (c : Counter) (v : Nat) (s : State) : (countSet c v s).supply = s.supply := rfl
@[simp] theorem countSet_grat (c : Counter) (v : Nat) (s : State) : (countSet c v s).grat = s.grat := rfl
@[simp] theorem countSet_motor (c : Counter) (v : Nat) (s : State) : (countSet c v s).motor = s.motor := rfl
@[simp] theorem countSet_seq (c : Counter) (v : Nat) (s : State) : (countSet c v s).seq = s.seq := rfl
@[simp] theorem countSet_banks (c : Counter) (v : Nat) (s : State) : (countSet c v s).banks = s.banks := rfl
@[simp] theorem countSet_chain (c : Counter) (v : Nat) (s : State) : (countSet c v s).chain = s.chain := rfl
@[simp] theorem countSet_pulses (c : Counter) (v : Nat) (s : State) : (countSet c v s).pulses = s.pulses := rfl
@[simp] theorem countSet_bias (c : Counter) (v : Nat) (s : State) : (countSet c v s).bias = s.bias := rfl
@[simp] theorem countSet_chans (c : Counter) (v : Nat) (s : State) : (countSet c v s).chans = s.chans := rfl
@[simp] theorem countSet_amb (c : Counter) (v : Nat) (s : State) : (countSet c v s).amb = s.amb := rfl
@[simp] theorem countSet_ambEng (c : Counter) (v : Nat) (s : State) : (countSet c v s).ambEng = s.ambEng := rfl
@[simp] theorem countSet_survey (c : Counter) (v : Nat) (s : State) : (countSet c v s).survey = s.survey := rfl
@[simp] theorem countSet_contour (c : Counter) (v : Nat) (s : State) : (countSet c v s).contour = s.contour := rfl
@[simp] theorem countSet_link (c : Counter) (v : Nat) (s : State) : (countSet c v s).link = s.link := rfl
@[simp] theorem countSet_otp (c : Counter) (v : Nat) (s : State) : (countSet c v s).otp = s.otp := rfl
@[simp] theorem countSet_sec (c : Counter) (v : Nat) (s : State) : (countSet c v s).sec = s.sec := rfl
@[simp] theorem countSet_nor (c : Counter) (v : Nat) (s : State) : (countSet c v s).nor = s.nor := rfl
@[simp] theorem countSet_legend (c : Counter) (v : Nat) (s : State) : (countSet c v s).legend = s.legend := rfl
@[simp] theorem countSet_image (c : Counter) (v : Nat) (s : State) : (countSet c v s).image = s.image := rfl
@[simp] theorem countSet_safety (c : Counter) (v : Nat) (s : State) : (countSet c v s).safety = s.safety := rfl
@[simp] theorem countSet_calib (c : Counter) (v : Nat) (s : State) : (countSet c v s).calib = s.calib := rfl
@[simp] theorem countSet_thermal (c : Counter) (v : Nat) (s : State) : (countSet c v s).thermal = s.thermal := rfl
@[simp] theorem countSet_aux (c : Counter) (v : Nat) (s : State) : (countSet c v s).aux = s.aux := rfl
@[simp] theorem countSet_near (c : Counter) (v : Nat) (s : State) : (countSet c v s).near = s.near := rfl
@[simp] theorem countSet_recd (c : Counter) (v : Nat) (s : State) : (countSet c v s).recd = s.recd := rfl
@[simp] theorem countSet_dma (c : Counter) (v : Nat) (s : State) : (countSet c v s).dma = s.dma := rfl
@[simp] theorem countSet_jtag (c : Counter) (v : Nat) (s : State) : (countSet c v s).jtag = s.jtag := rfl

/-! ## logEvent -/

@[simp] theorem logEvent_pending (k e i a : Nat) (s : State) : (logEvent k e i a s).pending = s.pending := by unfold logEvent; split <;> rfl
@[simp] theorem logEvent_now (k e i a : Nat) (s : State) : (logEvent k e i a s).now = s.now := by unfold logEvent; split <;> rfl
@[simp] theorem logEvent_free (k e i a : Nat) (s : State) : (logEvent k e i a s).free = s.free := by unfold logEvent; split <;> rfl
@[simp] theorem logEvent_phase (k e i a : Nat) (s : State) : (logEvent k e i a s).phase = s.phase := by unfold logEvent; split <;> rfl
@[simp] theorem logEvent_supply (k e i a : Nat) (s : State) : (logEvent k e i a s).supply = s.supply := by unfold logEvent; split <;> rfl
@[simp] theorem logEvent_grat (k e i a : Nat) (s : State) : (logEvent k e i a s).grat = s.grat := by unfold logEvent; split <;> rfl
@[simp] theorem logEvent_motor (k e i a : Nat) (s : State) : (logEvent k e i a s).motor = s.motor := by unfold logEvent; split <;> rfl
@[simp] theorem logEvent_seq (k e i a : Nat) (s : State) : (logEvent k e i a s).seq = s.seq := by unfold logEvent; split <;> rfl
@[simp] theorem logEvent_banks (k e i a : Nat) (s : State) : (logEvent k e i a s).banks = s.banks := by unfold logEvent; split <;> rfl
@[simp] theorem logEvent_chain (k e i a : Nat) (s : State) : (logEvent k e i a s).chain = s.chain := by unfold logEvent; split <;> rfl
@[simp] theorem logEvent_pulses (k e i a : Nat) (s : State) : (logEvent k e i a s).pulses = s.pulses := by unfold logEvent; split <;> rfl
@[simp] theorem logEvent_bias (k e i a : Nat) (s : State) : (logEvent k e i a s).bias = s.bias := by unfold logEvent; split <;> rfl
@[simp] theorem logEvent_chans (k e i a : Nat) (s : State) : (logEvent k e i a s).chans = s.chans := by unfold logEvent; split <;> rfl
@[simp] theorem logEvent_amb (k e i a : Nat) (s : State) : (logEvent k e i a s).amb = s.amb := by unfold logEvent; split <;> rfl
@[simp] theorem logEvent_ambEng (k e i a : Nat) (s : State) : (logEvent k e i a s).ambEng = s.ambEng := by unfold logEvent; split <;> rfl
@[simp] theorem logEvent_survey (k e i a : Nat) (s : State) : (logEvent k e i a s).survey = s.survey := by unfold logEvent; split <;> rfl
@[simp] theorem logEvent_contour (k e i a : Nat) (s : State) : (logEvent k e i a s).contour = s.contour := by unfold logEvent; split <;> rfl
@[simp] theorem logEvent_link (k e i a : Nat) (s : State) : (logEvent k e i a s).link = s.link := by unfold logEvent; split <;> rfl
@[simp] theorem logEvent_otp (k e i a : Nat) (s : State) : (logEvent k e i a s).otp = s.otp := by unfold logEvent; split <;> rfl
@[simp] theorem logEvent_sec (k e i a : Nat) (s : State) : (logEvent k e i a s).sec = s.sec := by unfold logEvent; split <;> rfl
@[simp] theorem logEvent_nor (k e i a : Nat) (s : State) : (logEvent k e i a s).nor = s.nor := by unfold logEvent; split <;> rfl
@[simp] theorem logEvent_legend (k e i a : Nat) (s : State) : (logEvent k e i a s).legend = s.legend := by unfold logEvent; split <;> rfl
@[simp] theorem logEvent_image (k e i a : Nat) (s : State) : (logEvent k e i a s).image = s.image := by unfold logEvent; split <;> rfl
@[simp] theorem logEvent_safety (k e i a : Nat) (s : State) : (logEvent k e i a s).safety = s.safety := by unfold logEvent; split <;> rfl
@[simp] theorem logEvent_calib (k e i a : Nat) (s : State) : (logEvent k e i a s).calib = s.calib := by unfold logEvent; split <;> rfl
@[simp] theorem logEvent_thermal (k e i a : Nat) (s : State) : (logEvent k e i a s).thermal = s.thermal := by unfold logEvent; split <;> rfl
@[simp] theorem logEvent_aux (k e i a : Nat) (s : State) : (logEvent k e i a s).aux = s.aux := by unfold logEvent; split <;> rfl
@[simp] theorem logEvent_near (k e i a : Nat) (s : State) : (logEvent k e i a s).near = s.near := by unfold logEvent; split <;> rfl
@[simp] theorem logEvent_recd (k e i a : Nat) (s : State) : (logEvent k e i a s).recd = s.recd := by unfold logEvent; split <;> rfl
@[simp] theorem logEvent_dma (k e i a : Nat) (s : State) : (logEvent k e i a s).dma = s.dma := by unfold logEvent; split <;> rfl
@[simp] theorem logEvent_jtag (k e i a : Nat) (s : State) : (logEvent k e i a s).jtag = s.jtag := by unfold logEvent; split <;> rfl

/-! ## due1 -/

@[simp] theorem due1_pending (p : Pkt) (s : State) : (due1 p s).pending = s.pending := by unfold due1; split <;> rfl
@[simp] theorem due1_now (p : Pkt) (s : State) : (due1 p s).now = s.now := by unfold due1; split <;> rfl
@[simp] theorem due1_free (p : Pkt) (s : State) : (due1 p s).free = s.free := by unfold due1; split <;> rfl
@[simp] theorem due1_phase (p : Pkt) (s : State) : (due1 p s).phase = s.phase := by unfold due1; split <;> rfl
@[simp] theorem due1_supply (p : Pkt) (s : State) : (due1 p s).supply = s.supply := by unfold due1; split <;> rfl
@[simp] theorem due1_grat (p : Pkt) (s : State) : (due1 p s).grat = s.grat := by unfold due1; split <;> rfl
@[simp] theorem due1_motor (p : Pkt) (s : State) : (due1 p s).motor = s.motor := by unfold due1; split <;> rfl
@[simp] theorem due1_seq (p : Pkt) (s : State) : (due1 p s).seq = s.seq := by unfold due1; split <;> rfl
@[simp] theorem due1_banks (p : Pkt) (s : State) : (due1 p s).banks = s.banks := by unfold due1; split <;> rfl
@[simp] theorem due1_chain (p : Pkt) (s : State) : (due1 p s).chain = s.chain := by unfold due1; split <;> rfl
@[simp] theorem due1_pulses (p : Pkt) (s : State) : (due1 p s).pulses = s.pulses := by unfold due1; split <;> rfl
@[simp] theorem due1_bias (p : Pkt) (s : State) : (due1 p s).bias = s.bias := by unfold due1; split <;> rfl
@[simp] theorem due1_chans (p : Pkt) (s : State) : (due1 p s).chans = s.chans := by unfold due1; split <;> rfl
@[simp] theorem due1_amb (p : Pkt) (s : State) : (due1 p s).amb = s.amb := by unfold due1; split <;> rfl
@[simp] theorem due1_ambEng (p : Pkt) (s : State) : (due1 p s).ambEng = s.ambEng := by unfold due1; split <;> rfl
@[simp] theorem due1_survey (p : Pkt) (s : State) : (due1 p s).survey = s.survey := by unfold due1; split <;> rfl
@[simp] theorem due1_contour (p : Pkt) (s : State) : (due1 p s).contour = s.contour := by unfold due1; split <;> rfl
@[simp] theorem due1_otp (p : Pkt) (s : State) : (due1 p s).otp = s.otp := by unfold due1; split <;> rfl
@[simp] theorem due1_sec (p : Pkt) (s : State) : (due1 p s).sec = s.sec := by unfold due1; split <;> rfl
@[simp] theorem due1_nor (p : Pkt) (s : State) : (due1 p s).nor = s.nor := by unfold due1; split <;> rfl
@[simp] theorem due1_legend (p : Pkt) (s : State) : (due1 p s).legend = s.legend := by unfold due1; split <;> rfl
@[simp] theorem due1_image (p : Pkt) (s : State) : (due1 p s).image = s.image := by unfold due1; split <;> rfl
@[simp] theorem due1_safety (p : Pkt) (s : State) : (due1 p s).safety = s.safety := by unfold due1; split <;> rfl
@[simp] theorem due1_calib (p : Pkt) (s : State) : (due1 p s).calib = s.calib := by unfold due1; split <;> rfl
@[simp] theorem due1_thermal (p : Pkt) (s : State) : (due1 p s).thermal = s.thermal := by unfold due1; split <;> rfl
@[simp] theorem due1_aux (p : Pkt) (s : State) : (due1 p s).aux = s.aux := by unfold due1; split <;> rfl
@[simp] theorem due1_near (p : Pkt) (s : State) : (due1 p s).near = s.near := by unfold due1; split <;> rfl
@[simp] theorem due1_recd (p : Pkt) (s : State) : (due1 p s).recd = s.recd := by unfold due1; split <;> rfl
@[simp] theorem due1_dma (p : Pkt) (s : State) : (due1 p s).dma = s.dma := by unfold due1; split <;> rfl
@[simp] theorem due1_log (p : Pkt) (s : State) : (due1 p s).log = s.log := by unfold due1; split <;> rfl
@[simp] theorem due1_jtag (p : Pkt) (s : State) : (due1 p s).jtag = s.jtag := by unfold due1; split <;> rfl

/-! ## due2 -/

@[simp] theorem due2_pending (p : Pkt) (s : State) : (due2 p s).pending = s.pending := by unfold due2; split <;> rfl
@[simp] theorem due2_now (p : Pkt) (s : State) : (due2 p s).now = s.now := by unfold due2; split <;> rfl
@[simp] theorem due2_free (p : Pkt) (s : State) : (due2 p s).free = s.free := by unfold due2; split <;> rfl
@[simp] theorem due2_phase (p : Pkt) (s : State) : (due2 p s).phase = s.phase := by unfold due2; split <;> rfl
@[simp] theorem due2_supply (p : Pkt) (s : State) : (due2 p s).supply = s.supply := by unfold due2; split <;> rfl
@[simp] theorem due2_grat (p : Pkt) (s : State) : (due2 p s).grat = s.grat := by unfold due2; split <;> rfl
@[simp] theorem due2_motor (p : Pkt) (s : State) : (due2 p s).motor = s.motor := by unfold due2; split <;> rfl
@[simp] theorem due2_seq (p : Pkt) (s : State) : (due2 p s).seq = s.seq := by unfold due2; split <;> rfl
@[simp] theorem due2_banks (p : Pkt) (s : State) : (due2 p s).banks = s.banks := by unfold due2; split <;> rfl
@[simp] theorem due2_chain (p : Pkt) (s : State) : (due2 p s).chain = s.chain := by unfold due2; split <;> rfl
@[simp] theorem due2_pulses (p : Pkt) (s : State) : (due2 p s).pulses = s.pulses := by unfold due2; split <;> rfl
@[simp] theorem due2_bias (p : Pkt) (s : State) : (due2 p s).bias = s.bias := by unfold due2; split <;> rfl
@[simp] theorem due2_chans (p : Pkt) (s : State) : (due2 p s).chans = s.chans := by unfold due2; split <;> rfl
@[simp] theorem due2_amb (p : Pkt) (s : State) : (due2 p s).amb = s.amb := by unfold due2; split <;> rfl
@[simp] theorem due2_ambEng (p : Pkt) (s : State) : (due2 p s).ambEng = s.ambEng := by unfold due2; split <;> rfl
@[simp] theorem due2_survey (p : Pkt) (s : State) : (due2 p s).survey = s.survey := by unfold due2; split <;> rfl
@[simp] theorem due2_contour (p : Pkt) (s : State) : (due2 p s).contour = s.contour := by unfold due2; split <;> rfl
@[simp] theorem due2_otp (p : Pkt) (s : State) : (due2 p s).otp = s.otp := by unfold due2; split <;> rfl
@[simp] theorem due2_sec (p : Pkt) (s : State) : (due2 p s).sec = s.sec := by unfold due2; split <;> rfl
@[simp] theorem due2_nor (p : Pkt) (s : State) : (due2 p s).nor = s.nor := by unfold due2; split <;> rfl
@[simp] theorem due2_legend (p : Pkt) (s : State) : (due2 p s).legend = s.legend := by unfold due2; split <;> rfl
@[simp] theorem due2_image (p : Pkt) (s : State) : (due2 p s).image = s.image := by unfold due2; split <;> rfl
@[simp] theorem due2_safety (p : Pkt) (s : State) : (due2 p s).safety = s.safety := by unfold due2; split <;> rfl
@[simp] theorem due2_calib (p : Pkt) (s : State) : (due2 p s).calib = s.calib := by unfold due2; split <;> rfl
@[simp] theorem due2_thermal (p : Pkt) (s : State) : (due2 p s).thermal = s.thermal := by unfold due2; split <;> rfl
@[simp] theorem due2_aux (p : Pkt) (s : State) : (due2 p s).aux = s.aux := by unfold due2; split <;> rfl
@[simp] theorem due2_near (p : Pkt) (s : State) : (due2 p s).near = s.near := by unfold due2; split <;> rfl
@[simp] theorem due2_recd (p : Pkt) (s : State) : (due2 p s).recd = s.recd := by unfold due2; split <;> rfl
@[simp] theorem due2_dma (p : Pkt) (s : State) : (due2 p s).dma = s.dma := by unfold due2; split <;> rfl
@[simp] theorem due2_log (p : Pkt) (s : State) : (due2 p s).log = s.log := by unfold due2; split <;> rfl
@[simp] theorem due2_jtag (p : Pkt) (s : State) : (due2 p s).jtag = s.jtag := by unfold due2; split <;> rfl

/-! ## due3 -/

@[simp] theorem due3_pending (p : Pkt) (s : State) : (due3 p s).pending = s.pending := by unfold due3; split <;> rfl
@[simp] theorem due3_now (p : Pkt) (s : State) : (due3 p s).now = s.now := by unfold due3; split <;> rfl
@[simp] theorem due3_free (p : Pkt) (s : State) : (due3 p s).free = s.free := by unfold due3; split <;> rfl
@[simp] theorem due3_phase (p : Pkt) (s : State) : (due3 p s).phase = s.phase := by unfold due3; split <;> rfl
@[simp] theorem due3_supply (p : Pkt) (s : State) : (due3 p s).supply = s.supply := by unfold due3; split <;> rfl
@[simp] theorem due3_grat (p : Pkt) (s : State) : (due3 p s).grat = s.grat := by unfold due3; split <;> rfl
@[simp] theorem due3_motor (p : Pkt) (s : State) : (due3 p s).motor = s.motor := by unfold due3; split <;> rfl
@[simp] theorem due3_seq (p : Pkt) (s : State) : (due3 p s).seq = s.seq := by unfold due3; split <;> rfl
@[simp] theorem due3_banks (p : Pkt) (s : State) : (due3 p s).banks = s.banks := by unfold due3; split <;> rfl
@[simp] theorem due3_chain (p : Pkt) (s : State) : (due3 p s).chain = s.chain := by unfold due3; split <;> rfl
@[simp] theorem due3_pulses (p : Pkt) (s : State) : (due3 p s).pulses = s.pulses := by unfold due3; split <;> rfl
@[simp] theorem due3_bias (p : Pkt) (s : State) : (due3 p s).bias = s.bias := by unfold due3; split <;> rfl
@[simp] theorem due3_chans (p : Pkt) (s : State) : (due3 p s).chans = s.chans := by unfold due3; split <;> rfl
@[simp] theorem due3_amb (p : Pkt) (s : State) : (due3 p s).amb = s.amb := by unfold due3; split <;> rfl
@[simp] theorem due3_ambEng (p : Pkt) (s : State) : (due3 p s).ambEng = s.ambEng := by unfold due3; split <;> rfl
@[simp] theorem due3_survey (p : Pkt) (s : State) : (due3 p s).survey = s.survey := by unfold due3; split <;> rfl
@[simp] theorem due3_contour (p : Pkt) (s : State) : (due3 p s).contour = s.contour := by unfold due3; split <;> rfl
@[simp] theorem due3_otp (p : Pkt) (s : State) : (due3 p s).otp = s.otp := by unfold due3; split <;> rfl
@[simp] theorem due3_sec (p : Pkt) (s : State) : (due3 p s).sec = s.sec := by unfold due3; split <;> rfl
@[simp] theorem due3_nor (p : Pkt) (s : State) : (due3 p s).nor = s.nor := by unfold due3; split <;> rfl
@[simp] theorem due3_legend (p : Pkt) (s : State) : (due3 p s).legend = s.legend := by unfold due3; split <;> rfl
@[simp] theorem due3_image (p : Pkt) (s : State) : (due3 p s).image = s.image := by unfold due3; split <;> rfl
@[simp] theorem due3_safety (p : Pkt) (s : State) : (due3 p s).safety = s.safety := by unfold due3; split <;> rfl
@[simp] theorem due3_calib (p : Pkt) (s : State) : (due3 p s).calib = s.calib := by unfold due3; split <;> rfl
@[simp] theorem due3_thermal (p : Pkt) (s : State) : (due3 p s).thermal = s.thermal := by unfold due3; split <;> rfl
@[simp] theorem due3_aux (p : Pkt) (s : State) : (due3 p s).aux = s.aux := by unfold due3; split <;> rfl
@[simp] theorem due3_near (p : Pkt) (s : State) : (due3 p s).near = s.near := by unfold due3; split <;> rfl
@[simp] theorem due3_recd (p : Pkt) (s : State) : (due3 p s).recd = s.recd := by unfold due3; split <;> rfl
@[simp] theorem due3_dma (p : Pkt) (s : State) : (due3 p s).dma = s.dma := by unfold due3; split <;> rfl
@[simp] theorem due3_log (p : Pkt) (s : State) : (due3 p s).log = s.log := by unfold due3; split <;> rfl
@[simp] theorem due3_jtag (p : Pkt) (s : State) : (due3 p s).jtag = s.jtag := by unfold due3; split <;> rfl

/-! ## due4 -/

@[simp] theorem due4_pending (p : Pkt) (s : State) : (due4 p s).pending = s.pending := by unfold due4; split <;> rfl
@[simp] theorem due4_now (p : Pkt) (s : State) : (due4 p s).now = s.now := by unfold due4; split <;> rfl
@[simp] theorem due4_free (p : Pkt) (s : State) : (due4 p s).free = s.free := by unfold due4; split <;> rfl
@[simp] theorem due4_phase (p : Pkt) (s : State) : (due4 p s).phase = s.phase := by unfold due4; split <;> rfl
@[simp] theorem due4_supply (p : Pkt) (s : State) : (due4 p s).supply = s.supply := by unfold due4; split <;> rfl
@[simp] theorem due4_grat (p : Pkt) (s : State) : (due4 p s).grat = s.grat := by unfold due4; split <;> rfl
@[simp] theorem due4_motor (p : Pkt) (s : State) : (due4 p s).motor = s.motor := by unfold due4; split <;> rfl
@[simp] theorem due4_seq (p : Pkt) (s : State) : (due4 p s).seq = s.seq := by unfold due4; split <;> rfl
@[simp] theorem due4_banks (p : Pkt) (s : State) : (due4 p s).banks = s.banks := by unfold due4; split <;> rfl
@[simp] theorem due4_chain (p : Pkt) (s : State) : (due4 p s).chain = s.chain := by unfold due4; split <;> rfl
@[simp] theorem due4_pulses (p : Pkt) (s : State) : (due4 p s).pulses = s.pulses := by unfold due4; split <;> rfl
@[simp] theorem due4_bias (p : Pkt) (s : State) : (due4 p s).bias = s.bias := by unfold due4; split <;> rfl
@[simp] theorem due4_chans (p : Pkt) (s : State) : (due4 p s).chans = s.chans := by unfold due4; split <;> rfl
@[simp] theorem due4_amb (p : Pkt) (s : State) : (due4 p s).amb = s.amb := by unfold due4; split <;> rfl
@[simp] theorem due4_ambEng (p : Pkt) (s : State) : (due4 p s).ambEng = s.ambEng := by unfold due4; split <;> rfl
@[simp] theorem due4_survey (p : Pkt) (s : State) : (due4 p s).survey = s.survey := by unfold due4; split <;> rfl
@[simp] theorem due4_contour (p : Pkt) (s : State) : (due4 p s).contour = s.contour := by unfold due4; split <;> rfl
@[simp] theorem due4_otp (p : Pkt) (s : State) : (due4 p s).otp = s.otp := by unfold due4; split <;> rfl
@[simp] theorem due4_sec (p : Pkt) (s : State) : (due4 p s).sec = s.sec := by unfold due4; split <;> rfl
@[simp] theorem due4_nor (p : Pkt) (s : State) : (due4 p s).nor = s.nor := by unfold due4; split <;> rfl
@[simp] theorem due4_legend (p : Pkt) (s : State) : (due4 p s).legend = s.legend := by unfold due4; split <;> rfl
@[simp] theorem due4_image (p : Pkt) (s : State) : (due4 p s).image = s.image := by unfold due4; split <;> rfl
@[simp] theorem due4_safety (p : Pkt) (s : State) : (due4 p s).safety = s.safety := by unfold due4; split <;> rfl
@[simp] theorem due4_calib (p : Pkt) (s : State) : (due4 p s).calib = s.calib := by unfold due4; split <;> rfl
@[simp] theorem due4_thermal (p : Pkt) (s : State) : (due4 p s).thermal = s.thermal := by unfold due4; split <;> rfl
@[simp] theorem due4_aux (p : Pkt) (s : State) : (due4 p s).aux = s.aux := by unfold due4; split <;> rfl
@[simp] theorem due4_near (p : Pkt) (s : State) : (due4 p s).near = s.near := by unfold due4; split <;> rfl
@[simp] theorem due4_recd (p : Pkt) (s : State) : (due4 p s).recd = s.recd := by unfold due4; split <;> rfl
@[simp] theorem due4_dma (p : Pkt) (s : State) : (due4 p s).dma = s.dma := by unfold due4; split <;> rfl
@[simp] theorem due4_log (p : Pkt) (s : State) : (due4 p s).log = s.log := by unfold due4; split <;> rfl
@[simp] theorem due4_jtag (p : Pkt) (s : State) : (due4 p s).jtag = s.jtag := by unfold due4; split <;> rfl

/-! ## due5 -/

@[simp] theorem due5_pending (p : Pkt) (s : State) : (due5 p s).pending = s.pending := by unfold due5; split <;> rfl
@[simp] theorem due5_now (p : Pkt) (s : State) : (due5 p s).now = s.now := by unfold due5; split <;> rfl
@[simp] theorem due5_free (p : Pkt) (s : State) : (due5 p s).free = s.free := by unfold due5; split <;> rfl
@[simp] theorem due5_phase (p : Pkt) (s : State) : (due5 p s).phase = s.phase := by unfold due5; split <;> rfl
@[simp] theorem due5_supply (p : Pkt) (s : State) : (due5 p s).supply = s.supply := by unfold due5; split <;> rfl
@[simp] theorem due5_grat (p : Pkt) (s : State) : (due5 p s).grat = s.grat := by unfold due5; split <;> rfl
@[simp] theorem due5_motor (p : Pkt) (s : State) : (due5 p s).motor = s.motor := by unfold due5; split <;> rfl
@[simp] theorem due5_seq (p : Pkt) (s : State) : (due5 p s).seq = s.seq := by unfold due5; split <;> rfl
@[simp] theorem due5_banks (p : Pkt) (s : State) : (due5 p s).banks = s.banks := by unfold due5; split <;> rfl
@[simp] theorem due5_chain (p : Pkt) (s : State) : (due5 p s).chain = s.chain := by unfold due5; split <;> rfl
@[simp] theorem due5_pulses (p : Pkt) (s : State) : (due5 p s).pulses = s.pulses := by unfold due5; split <;> rfl
@[simp] theorem due5_bias (p : Pkt) (s : State) : (due5 p s).bias = s.bias := by unfold due5; split <;> rfl
@[simp] theorem due5_chans (p : Pkt) (s : State) : (due5 p s).chans = s.chans := by unfold due5; split <;> rfl
@[simp] theorem due5_amb (p : Pkt) (s : State) : (due5 p s).amb = s.amb := by unfold due5; split <;> rfl
@[simp] theorem due5_ambEng (p : Pkt) (s : State) : (due5 p s).ambEng = s.ambEng := by unfold due5; split <;> rfl
@[simp] theorem due5_survey (p : Pkt) (s : State) : (due5 p s).survey = s.survey := by unfold due5; split <;> rfl
@[simp] theorem due5_contour (p : Pkt) (s : State) : (due5 p s).contour = s.contour := by unfold due5; split <;> rfl
@[simp] theorem due5_otp (p : Pkt) (s : State) : (due5 p s).otp = s.otp := by unfold due5; split <;> rfl
@[simp] theorem due5_sec (p : Pkt) (s : State) : (due5 p s).sec = s.sec := by unfold due5; split <;> rfl
@[simp] theorem due5_nor (p : Pkt) (s : State) : (due5 p s).nor = s.nor := by unfold due5; split <;> rfl
@[simp] theorem due5_legend (p : Pkt) (s : State) : (due5 p s).legend = s.legend := by unfold due5; split <;> rfl
@[simp] theorem due5_image (p : Pkt) (s : State) : (due5 p s).image = s.image := by unfold due5; split <;> rfl
@[simp] theorem due5_safety (p : Pkt) (s : State) : (due5 p s).safety = s.safety := by unfold due5; split <;> rfl
@[simp] theorem due5_calib (p : Pkt) (s : State) : (due5 p s).calib = s.calib := by unfold due5; split <;> rfl
@[simp] theorem due5_thermal (p : Pkt) (s : State) : (due5 p s).thermal = s.thermal := by unfold due5; split <;> rfl
@[simp] theorem due5_aux (p : Pkt) (s : State) : (due5 p s).aux = s.aux := by unfold due5; split <;> rfl
@[simp] theorem due5_near (p : Pkt) (s : State) : (due5 p s).near = s.near := by unfold due5; split <;> rfl
@[simp] theorem due5_recd (p : Pkt) (s : State) : (due5 p s).recd = s.recd := by unfold due5; split <;> rfl
@[simp] theorem due5_dma (p : Pkt) (s : State) : (due5 p s).dma = s.dma := by unfold due5; split <;> rfl
@[simp] theorem due5_log (p : Pkt) (s : State) : (due5 p s).log = s.log := by unfold due5; split <;> rfl
@[simp] theorem due5_jtag (p : Pkt) (s : State) : (due5 p s).jtag = s.jtag := by unfold due5; split <;> rfl

/-! ## ackMode -/

@[simp] theorem ackMode_pending (e r n : Nat) (s : State) : (ackMode e r n s).pending = s.pending := by unfold ackMode; rw [due2_pending]
@[simp] theorem ackMode_now (e r n : Nat) (s : State) : (ackMode e r n s).now = s.now := by unfold ackMode; rw [due2_now]
@[simp] theorem ackMode_free (e r n : Nat) (s : State) : (ackMode e r n s).free = s.free := by unfold ackMode; rw [due2_free]
@[simp] theorem ackMode_phase (e r n : Nat) (s : State) : (ackMode e r n s).phase = s.phase := by unfold ackMode; rw [due2_phase]
@[simp] theorem ackMode_supply (e r n : Nat) (s : State) : (ackMode e r n s).supply = s.supply := by unfold ackMode; rw [due2_supply]
@[simp] theorem ackMode_grat (e r n : Nat) (s : State) : (ackMode e r n s).grat = s.grat := by unfold ackMode; rw [due2_grat]
@[simp] theorem ackMode_motor (e r n : Nat) (s : State) : (ackMode e r n s).motor = s.motor := by unfold ackMode; rw [due2_motor]
@[simp] theorem ackMode_banks (e r n : Nat) (s : State) : (ackMode e r n s).banks = s.banks := by unfold ackMode; rw [due2_banks]
@[simp] theorem ackMode_chain (e r n : Nat) (s : State) : (ackMode e r n s).chain = s.chain := by unfold ackMode; rw [due2_chain]
@[simp] theorem ackMode_pulses (e r n : Nat) (s : State) : (ackMode e r n s).pulses = s.pulses := by unfold ackMode; rw [due2_pulses]
@[simp] theorem ackMode_bias (e r n : Nat) (s : State) : (ackMode e r n s).bias = s.bias := by unfold ackMode; rw [due2_bias]
@[simp] theorem ackMode_chans (e r n : Nat) (s : State) : (ackMode e r n s).chans = s.chans := by unfold ackMode; rw [due2_chans]
@[simp] theorem ackMode_amb (e r n : Nat) (s : State) : (ackMode e r n s).amb = s.amb := by unfold ackMode; rw [due2_amb]
@[simp] theorem ackMode_ambEng (e r n : Nat) (s : State) : (ackMode e r n s).ambEng = s.ambEng := by unfold ackMode; rw [due2_ambEng]
@[simp] theorem ackMode_survey (e r n : Nat) (s : State) : (ackMode e r n s).survey = s.survey := by unfold ackMode; rw [due2_survey]
@[simp] theorem ackMode_contour (e r n : Nat) (s : State) : (ackMode e r n s).contour = s.contour := by unfold ackMode; rw [due2_contour]
@[simp] theorem ackMode_otp (e r n : Nat) (s : State) : (ackMode e r n s).otp = s.otp := by unfold ackMode; rw [due2_otp]
@[simp] theorem ackMode_sec (e r n : Nat) (s : State) : (ackMode e r n s).sec = s.sec := by unfold ackMode; rw [due2_sec]
@[simp] theorem ackMode_nor (e r n : Nat) (s : State) : (ackMode e r n s).nor = s.nor := by unfold ackMode; rw [due2_nor]
@[simp] theorem ackMode_legend (e r n : Nat) (s : State) : (ackMode e r n s).legend = s.legend := by unfold ackMode; rw [due2_legend]
@[simp] theorem ackMode_image (e r n : Nat) (s : State) : (ackMode e r n s).image = s.image := by unfold ackMode; rw [due2_image]
@[simp] theorem ackMode_safety (e r n : Nat) (s : State) : (ackMode e r n s).safety = s.safety := by unfold ackMode; rw [due2_safety]
@[simp] theorem ackMode_calib (e r n : Nat) (s : State) : (ackMode e r n s).calib = s.calib := by unfold ackMode; rw [due2_calib]
@[simp] theorem ackMode_thermal (e r n : Nat) (s : State) : (ackMode e r n s).thermal = s.thermal := by unfold ackMode; rw [due2_thermal]
@[simp] theorem ackMode_aux (e r n : Nat) (s : State) : (ackMode e r n s).aux = s.aux := by unfold ackMode; rw [due2_aux]
@[simp] theorem ackMode_near (e r n : Nat) (s : State) : (ackMode e r n s).near = s.near := by unfold ackMode; rw [due2_near]
@[simp] theorem ackMode_recd (e r n : Nat) (s : State) : (ackMode e r n s).recd = s.recd := by unfold ackMode; rw [due2_recd]
@[simp] theorem ackMode_dma (e r n : Nat) (s : State) : (ackMode e r n s).dma = s.dma := by unfold ackMode; rw [due2_dma]
@[simp] theorem ackMode_log (e r n : Nat) (s : State) : (ackMode e r n s).log = s.log := by unfold ackMode; rw [due2_log]
@[simp] theorem ackMode_jtag (e r n : Nat) (s : State) : (ackMode e r n s).jtag = s.jtag := by unfold ackMode; rw [due2_jtag]

/-! ## refuseMode -/

@[simp] theorem refuseMode_pending (e r : Nat) (s : State) : (refuseMode e r s).pending = s.pending := by unfold refuseMode; rw [count_pending, ackMode_pending]
@[simp] theorem refuseMode_now (e r : Nat) (s : State) : (refuseMode e r s).now = s.now := by unfold refuseMode; rw [count_now, ackMode_now]
@[simp] theorem refuseMode_free (e r : Nat) (s : State) : (refuseMode e r s).free = s.free := by unfold refuseMode; rw [count_free, ackMode_free]
@[simp] theorem refuseMode_phase (e r : Nat) (s : State) : (refuseMode e r s).phase = s.phase := by unfold refuseMode; rw [count_phase, ackMode_phase]
@[simp] theorem refuseMode_supply (e r : Nat) (s : State) : (refuseMode e r s).supply = s.supply := by unfold refuseMode; rw [count_supply, ackMode_supply]
@[simp] theorem refuseMode_grat (e r : Nat) (s : State) : (refuseMode e r s).grat = s.grat := by unfold refuseMode; rw [count_grat, ackMode_grat]
@[simp] theorem refuseMode_motor (e r : Nat) (s : State) : (refuseMode e r s).motor = s.motor := by unfold refuseMode; rw [count_motor, ackMode_motor]
@[simp] theorem refuseMode_banks (e r : Nat) (s : State) : (refuseMode e r s).banks = s.banks := by unfold refuseMode; rw [count_banks, ackMode_banks]
@[simp] theorem refuseMode_chain (e r : Nat) (s : State) : (refuseMode e r s).chain = s.chain := by unfold refuseMode; rw [count_chain, ackMode_chain]
@[simp] theorem refuseMode_pulses (e r : Nat) (s : State) : (refuseMode e r s).pulses = s.pulses := by unfold refuseMode; rw [count_pulses, ackMode_pulses]
@[simp] theorem refuseMode_bias (e r : Nat) (s : State) : (refuseMode e r s).bias = s.bias := by unfold refuseMode; rw [count_bias, ackMode_bias]
@[simp] theorem refuseMode_chans (e r : Nat) (s : State) : (refuseMode e r s).chans = s.chans := by unfold refuseMode; rw [count_chans, ackMode_chans]
@[simp] theorem refuseMode_amb (e r : Nat) (s : State) : (refuseMode e r s).amb = s.amb := by unfold refuseMode; rw [count_amb, ackMode_amb]
@[simp] theorem refuseMode_ambEng (e r : Nat) (s : State) : (refuseMode e r s).ambEng = s.ambEng := by unfold refuseMode; rw [count_ambEng, ackMode_ambEng]
@[simp] theorem refuseMode_survey (e r : Nat) (s : State) : (refuseMode e r s).survey = s.survey := by unfold refuseMode; rw [count_survey, ackMode_survey]
@[simp] theorem refuseMode_contour (e r : Nat) (s : State) : (refuseMode e r s).contour = s.contour := by unfold refuseMode; rw [count_contour, ackMode_contour]
@[simp] theorem refuseMode_otp (e r : Nat) (s : State) : (refuseMode e r s).otp = s.otp := by unfold refuseMode; rw [count_otp, ackMode_otp]
@[simp] theorem refuseMode_sec (e r : Nat) (s : State) : (refuseMode e r s).sec = s.sec := by unfold refuseMode; rw [count_sec, ackMode_sec]
@[simp] theorem refuseMode_nor (e r : Nat) (s : State) : (refuseMode e r s).nor = s.nor := by unfold refuseMode; rw [count_nor, ackMode_nor]
@[simp] theorem refuseMode_legend (e r : Nat) (s : State) : (refuseMode e r s).legend = s.legend := by unfold refuseMode; rw [count_legend, ackMode_legend]
@[simp] theorem refuseMode_image (e r : Nat) (s : State) : (refuseMode e r s).image = s.image := by unfold refuseMode; rw [count_image, ackMode_image]
@[simp] theorem refuseMode_safety (e r : Nat) (s : State) : (refuseMode e r s).safety = s.safety := by unfold refuseMode; rw [count_safety, ackMode_safety]
@[simp] theorem refuseMode_calib (e r : Nat) (s : State) : (refuseMode e r s).calib = s.calib := by unfold refuseMode; rw [count_calib, ackMode_calib]
@[simp] theorem refuseMode_thermal (e r : Nat) (s : State) : (refuseMode e r s).thermal = s.thermal := by unfold refuseMode; rw [count_thermal, ackMode_thermal]
@[simp] theorem refuseMode_aux (e r : Nat) (s : State) : (refuseMode e r s).aux = s.aux := by unfold refuseMode; rw [count_aux, ackMode_aux]
@[simp] theorem refuseMode_near (e r : Nat) (s : State) : (refuseMode e r s).near = s.near := by unfold refuseMode; rw [count_near, ackMode_near]
@[simp] theorem refuseMode_recd (e r : Nat) (s : State) : (refuseMode e r s).recd = s.recd := by unfold refuseMode; rw [count_recd, ackMode_recd]
@[simp] theorem refuseMode_dma (e r : Nat) (s : State) : (refuseMode e r s).dma = s.dma := by unfold refuseMode; rw [count_dma, ackMode_dma]
@[simp] theorem refuseMode_jtag (e r : Nat) (s : State) : (refuseMode e r s).jtag = s.jtag := by unfold refuseMode; rw [count_jtag, ackMode_jtag]

/-! ## stopFiring -/

@[simp] theorem stopFiring_pending (c : Nat) (b : Bool) (s : State) : (stopFiring c b s).pending = s.pending := rfl
@[simp] theorem stopFiring_now (c : Nat) (b : Bool) (s : State) : (stopFiring c b s).now = s.now := rfl
@[simp] theorem stopFiring_free (c : Nat) (b : Bool) (s : State) : (stopFiring c b s).free = s.free := rfl
@[simp] theorem stopFiring_phase (c : Nat) (b : Bool) (s : State) : (stopFiring c b s).phase = s.phase := rfl
@[simp] theorem stopFiring_supply (c : Nat) (b : Bool) (s : State) : (stopFiring c b s).supply = s.supply := rfl
@[simp] theorem stopFiring_grat (c : Nat) (b : Bool) (s : State) : (stopFiring c b s).grat = s.grat := rfl
@[simp] theorem stopFiring_motor (c : Nat) (b : Bool) (s : State) : (stopFiring c b s).motor = s.motor := rfl
@[simp] theorem stopFiring_banks (c : Nat) (b : Bool) (s : State) : (stopFiring c b s).banks = s.banks := rfl
@[simp] theorem stopFiring_chain (c : Nat) (b : Bool) (s : State) : (stopFiring c b s).chain = s.chain := rfl
@[simp] theorem stopFiring_pulses (c : Nat) (b : Bool) (s : State) : (stopFiring c b s).pulses = s.pulses := rfl
@[simp] theorem stopFiring_bias (c : Nat) (b : Bool) (s : State) : (stopFiring c b s).bias = s.bias := rfl
@[simp] theorem stopFiring_chans (c : Nat) (b : Bool) (s : State) : (stopFiring c b s).chans = s.chans := rfl
@[simp] theorem stopFiring_amb (c : Nat) (b : Bool) (s : State) : (stopFiring c b s).amb = s.amb := rfl
@[simp] theorem stopFiring_ambEng (c : Nat) (b : Bool) (s : State) : (stopFiring c b s).ambEng = s.ambEng := rfl
@[simp] theorem stopFiring_survey (c : Nat) (b : Bool) (s : State) : (stopFiring c b s).survey = s.survey := rfl
@[simp] theorem stopFiring_contour (c : Nat) (b : Bool) (s : State) : (stopFiring c b s).contour = s.contour := rfl
@[simp] theorem stopFiring_link (c : Nat) (b : Bool) (s : State) : (stopFiring c b s).link = s.link := rfl
@[simp] theorem stopFiring_otp (c : Nat) (b : Bool) (s : State) : (stopFiring c b s).otp = s.otp := rfl
@[simp] theorem stopFiring_sec (c : Nat) (b : Bool) (s : State) : (stopFiring c b s).sec = s.sec := rfl
@[simp] theorem stopFiring_nor (c : Nat) (b : Bool) (s : State) : (stopFiring c b s).nor = s.nor := rfl
@[simp] theorem stopFiring_legend (c : Nat) (b : Bool) (s : State) : (stopFiring c b s).legend = s.legend := rfl
@[simp] theorem stopFiring_image (c : Nat) (b : Bool) (s : State) : (stopFiring c b s).image = s.image := rfl
@[simp] theorem stopFiring_safety (c : Nat) (b : Bool) (s : State) : (stopFiring c b s).safety = s.safety := rfl
@[simp] theorem stopFiring_calib (c : Nat) (b : Bool) (s : State) : (stopFiring c b s).calib = s.calib := rfl
@[simp] theorem stopFiring_thermal (c : Nat) (b : Bool) (s : State) : (stopFiring c b s).thermal = s.thermal := rfl
@[simp] theorem stopFiring_aux (c : Nat) (b : Bool) (s : State) : (stopFiring c b s).aux = s.aux := rfl
@[simp] theorem stopFiring_near (c : Nat) (b : Bool) (s : State) : (stopFiring c b s).near = s.near := rfl
@[simp] theorem stopFiring_recd (c : Nat) (b : Bool) (s : State) : (stopFiring c b s).recd = s.recd := rfl
@[simp] theorem stopFiring_dma (c : Nat) (b : Bool) (s : State) : (stopFiring c b s).dma = s.dma := rfl
@[simp] theorem stopFiring_log (c : Nat) (b : Bool) (s : State) : (stopFiring c b s).log = s.log := rfl
@[simp] theorem stopFiring_jtag (c : Nat) (b : Bool) (s : State) : (stopFiring c b s).jtag = s.jtag := rfl

/-! ## lightDiag -/

@[simp] theorem lightDiag_pending (s : State) : (lightDiag s).pending = s.pending := by
  unfold lightDiag
  repeat' split
  all_goals rfl
@[simp] theorem lightDiag_now (s : State) : (lightDiag s).now = s.now := by
  unfold lightDiag
  repeat' split
  all_goals rfl
@[simp] theorem lightDiag_free (s : State) : (lightDiag s).free = s.free := by
  unfold lightDiag
  repeat' split
  all_goals rfl
@[simp] theorem lightDiag_phase (s : State) : (lightDiag s).phase = s.phase := by
  unfold lightDiag
  repeat' split
  all_goals rfl
@[simp] theorem lightDiag_supply (s : State) : (lightDiag s).supply = s.supply := by
  unfold lightDiag
  repeat' split
  all_goals rfl
@[simp] theorem lightDiag_grat (s : State) : (lightDiag s).grat = s.grat := by
  unfold lightDiag
  repeat' split
  all_goals rfl
@[simp] theorem lightDiag_motor (s : State) : (lightDiag s).motor = s.motor := by
  unfold lightDiag
  repeat' split
  all_goals rfl
@[simp] theorem lightDiag_seq (s : State) : (lightDiag s).seq = s.seq := by
  unfold lightDiag
  repeat' split
  all_goals rfl
@[simp] theorem lightDiag_banks (s : State) : (lightDiag s).banks = s.banks := by
  unfold lightDiag
  repeat' split
  all_goals rfl
@[simp] theorem lightDiag_bias (s : State) : (lightDiag s).bias = s.bias := by
  unfold lightDiag
  repeat' split
  all_goals rfl
@[simp] theorem lightDiag_chans (s : State) : (lightDiag s).chans = s.chans := by
  unfold lightDiag
  repeat' split
  all_goals rfl
@[simp] theorem lightDiag_amb (s : State) : (lightDiag s).amb = s.amb := by
  unfold lightDiag
  repeat' split
  all_goals rfl
@[simp] theorem lightDiag_ambEng (s : State) : (lightDiag s).ambEng = s.ambEng := by
  unfold lightDiag
  repeat' split
  all_goals rfl
@[simp] theorem lightDiag_survey (s : State) : (lightDiag s).survey = s.survey := by
  unfold lightDiag
  repeat' split
  all_goals rfl
@[simp] theorem lightDiag_contour (s : State) : (lightDiag s).contour = s.contour := by
  unfold lightDiag
  repeat' split
  all_goals rfl
@[simp] theorem lightDiag_link (s : State) : (lightDiag s).link = s.link := by
  unfold lightDiag
  repeat' split
  all_goals rfl
@[simp] theorem lightDiag_otp (s : State) : (lightDiag s).otp = s.otp := by
  unfold lightDiag
  repeat' split
  all_goals rfl
@[simp] theorem lightDiag_sec (s : State) : (lightDiag s).sec = s.sec := by
  unfold lightDiag
  repeat' split
  all_goals rfl
@[simp] theorem lightDiag_nor (s : State) : (lightDiag s).nor = s.nor := by
  unfold lightDiag
  repeat' split
  all_goals rfl
@[simp] theorem lightDiag_legend (s : State) : (lightDiag s).legend = s.legend := by
  unfold lightDiag
  repeat' split
  all_goals rfl
@[simp] theorem lightDiag_image (s : State) : (lightDiag s).image = s.image := by
  unfold lightDiag
  repeat' split
  all_goals rfl
@[simp] theorem lightDiag_safety (s : State) : (lightDiag s).safety = s.safety := by
  unfold lightDiag
  repeat' split
  all_goals rfl
@[simp] theorem lightDiag_calib (s : State) : (lightDiag s).calib = s.calib := by
  unfold lightDiag
  repeat' split
  all_goals rfl
@[simp] theorem lightDiag_thermal (s : State) : (lightDiag s).thermal = s.thermal := by
  unfold lightDiag
  repeat' split
  all_goals rfl
@[simp] theorem lightDiag_aux (s : State) : (lightDiag s).aux = s.aux := by
  unfold lightDiag
  repeat' split
  all_goals rfl
@[simp] theorem lightDiag_near (s : State) : (lightDiag s).near = s.near := by
  unfold lightDiag
  repeat' split
  all_goals rfl
@[simp] theorem lightDiag_recd (s : State) : (lightDiag s).recd = s.recd := by
  unfold lightDiag
  repeat' split
  all_goals rfl
@[simp] theorem lightDiag_dma (s : State) : (lightDiag s).dma = s.dma := by
  unfold lightDiag
  repeat' split
  all_goals rfl
@[simp] theorem lightDiag_log (s : State) : (lightDiag s).log = s.log := by
  unfold lightDiag
  repeat' split
  all_goals rfl
@[simp] theorem lightDiag_jtag (s : State) : (lightDiag s).jtag = s.jtag := by
  unfold lightDiag
  repeat' split
  all_goals rfl

/-! ## cutPulses -/

@[simp] theorem cutPulses_pending (s : State) : (cutPulses s).pending = s.pending := lightDiag_pending s
@[simp] theorem cutPulses_now (s : State) : (cutPulses s).now = s.now := lightDiag_now s
@[simp] theorem cutPulses_free (s : State) : (cutPulses s).free = s.free := lightDiag_free s
@[simp] theorem cutPulses_phase (s : State) : (cutPulses s).phase = s.phase := lightDiag_phase s
@[simp] theorem cutPulses_supply (s : State) : (cutPulses s).supply = s.supply := lightDiag_supply s
@[simp] theorem cutPulses_grat (s : State) : (cutPulses s).grat = s.grat := lightDiag_grat s
@[simp] theorem cutPulses_motor (s : State) : (cutPulses s).motor = s.motor := lightDiag_motor s
@[simp] theorem cutPulses_seq (s : State) : (cutPulses s).seq = s.seq := lightDiag_seq s
@[simp] theorem cutPulses_banks (s : State) : (cutPulses s).banks = s.banks := lightDiag_banks s
@[simp] theorem cutPulses_bias (s : State) : (cutPulses s).bias = s.bias := lightDiag_bias s
@[simp] theorem cutPulses_chans (s : State) : (cutPulses s).chans = s.chans := lightDiag_chans s
@[simp] theorem cutPulses_amb (s : State) : (cutPulses s).amb = s.amb := lightDiag_amb s
@[simp] theorem cutPulses_ambEng (s : State) : (cutPulses s).ambEng = s.ambEng := lightDiag_ambEng s
@[simp] theorem cutPulses_survey (s : State) : (cutPulses s).survey = s.survey := lightDiag_survey s
@[simp] theorem cutPulses_contour (s : State) : (cutPulses s).contour = s.contour := lightDiag_contour s
@[simp] theorem cutPulses_link (s : State) : (cutPulses s).link = s.link := lightDiag_link s
@[simp] theorem cutPulses_otp (s : State) : (cutPulses s).otp = s.otp := lightDiag_otp s
@[simp] theorem cutPulses_sec (s : State) : (cutPulses s).sec = s.sec := lightDiag_sec s
@[simp] theorem cutPulses_nor (s : State) : (cutPulses s).nor = s.nor := lightDiag_nor s
@[simp] theorem cutPulses_legend (s : State) : (cutPulses s).legend = s.legend := lightDiag_legend s
@[simp] theorem cutPulses_image (s : State) : (cutPulses s).image = s.image := lightDiag_image s
@[simp] theorem cutPulses_safety (s : State) : (cutPulses s).safety = s.safety := lightDiag_safety s
@[simp] theorem cutPulses_calib (s : State) : (cutPulses s).calib = s.calib := lightDiag_calib s
@[simp] theorem cutPulses_thermal (s : State) : (cutPulses s).thermal = s.thermal := lightDiag_thermal s
@[simp] theorem cutPulses_aux (s : State) : (cutPulses s).aux = s.aux := lightDiag_aux s
@[simp] theorem cutPulses_near (s : State) : (cutPulses s).near = s.near := lightDiag_near s
@[simp] theorem cutPulses_recd (s : State) : (cutPulses s).recd = s.recd := lightDiag_recd s
@[simp] theorem cutPulses_dma (s : State) : (cutPulses s).dma = s.dma := lightDiag_dma s
@[simp] theorem cutPulses_log (s : State) : (cutPulses s).log = s.log := lightDiag_log s
@[simp] theorem cutPulses_jtag (s : State) : (cutPulses s).jtag = s.jtag := lightDiag_jtag s

/-! ## unfireAll -/

@[simp] theorem unfireAll_pending (l : List Shot) (s : State) : (l.foldr unfire s).pending = s.pending := by
  induction l with
  | nil => rfl
  | cons _ _ h => exact h
@[simp] theorem unfireAll_now (l : List Shot) (s : State) : (l.foldr unfire s).now = s.now := by
  induction l with
  | nil => rfl
  | cons _ _ h => exact h
@[simp] theorem unfireAll_free (l : List Shot) (s : State) : (l.foldr unfire s).free = s.free := by
  induction l with
  | nil => rfl
  | cons _ _ h => exact h
@[simp] theorem unfireAll_phase (l : List Shot) (s : State) : (l.foldr unfire s).phase = s.phase := by
  induction l with
  | nil => rfl
  | cons _ _ h => exact h
@[simp] theorem unfireAll_supply (l : List Shot) (s : State) : (l.foldr unfire s).supply = s.supply := by
  induction l with
  | nil => rfl
  | cons _ _ h => exact h
@[simp] theorem unfireAll_grat (l : List Shot) (s : State) : (l.foldr unfire s).grat = s.grat := by
  induction l with
  | nil => rfl
  | cons _ _ h => exact h
@[simp] theorem unfireAll_motor (l : List Shot) (s : State) : (l.foldr unfire s).motor = s.motor := by
  induction l with
  | nil => rfl
  | cons _ _ h => exact h
@[simp] theorem unfireAll_seq (l : List Shot) (s : State) : (l.foldr unfire s).seq = s.seq := by
  induction l with
  | nil => rfl
  | cons _ _ h => exact h
@[simp] theorem unfireAll_chain (l : List Shot) (s : State) : (l.foldr unfire s).chain = s.chain := by
  induction l with
  | nil => rfl
  | cons _ _ h => exact h
@[simp] theorem unfireAll_pulses (l : List Shot) (s : State) : (l.foldr unfire s).pulses = s.pulses := by
  induction l with
  | nil => rfl
  | cons _ _ h => exact h
@[simp] theorem unfireAll_bias (l : List Shot) (s : State) : (l.foldr unfire s).bias = s.bias := by
  induction l with
  | nil => rfl
  | cons _ _ h => exact h
@[simp] theorem unfireAll_chans (l : List Shot) (s : State) : (l.foldr unfire s).chans = s.chans := by
  induction l with
  | nil => rfl
  | cons _ _ h => exact h
@[simp] theorem unfireAll_amb (l : List Shot) (s : State) : (l.foldr unfire s).amb = s.amb := by
  induction l with
  | nil => rfl
  | cons _ _ h => exact h
@[simp] theorem unfireAll_ambEng (l : List Shot) (s : State) : (l.foldr unfire s).ambEng = s.ambEng := by
  induction l with
  | nil => rfl
  | cons _ _ h => exact h
@[simp] theorem unfireAll_survey (l : List Shot) (s : State) : (l.foldr unfire s).survey = s.survey := by
  induction l with
  | nil => rfl
  | cons _ _ h => exact h
@[simp] theorem unfireAll_contour (l : List Shot) (s : State) : (l.foldr unfire s).contour = s.contour := by
  induction l with
  | nil => rfl
  | cons _ _ h => exact h
@[simp] theorem unfireAll_link (l : List Shot) (s : State) : (l.foldr unfire s).link = s.link := by
  induction l with
  | nil => rfl
  | cons _ _ h => exact h
@[simp] theorem unfireAll_otp (l : List Shot) (s : State) : (l.foldr unfire s).otp = s.otp := by
  induction l with
  | nil => rfl
  | cons _ _ h => exact h
@[simp] theorem unfireAll_sec (l : List Shot) (s : State) : (l.foldr unfire s).sec = s.sec := by
  induction l with
  | nil => rfl
  | cons _ _ h => exact h
@[simp] theorem unfireAll_nor (l : List Shot) (s : State) : (l.foldr unfire s).nor = s.nor := by
  induction l with
  | nil => rfl
  | cons _ _ h => exact h
@[simp] theorem unfireAll_legend (l : List Shot) (s : State) : (l.foldr unfire s).legend = s.legend := by
  induction l with
  | nil => rfl
  | cons _ _ h => exact h
@[simp] theorem unfireAll_image (l : List Shot) (s : State) : (l.foldr unfire s).image = s.image := by
  induction l with
  | nil => rfl
  | cons _ _ h => exact h
@[simp] theorem unfireAll_safety (l : List Shot) (s : State) : (l.foldr unfire s).safety = s.safety := by
  induction l with
  | nil => rfl
  | cons _ _ h => exact h
@[simp] theorem unfireAll_calib (l : List Shot) (s : State) : (l.foldr unfire s).calib = s.calib := by
  induction l with
  | nil => rfl
  | cons _ _ h => exact h
@[simp] theorem unfireAll_thermal (l : List Shot) (s : State) : (l.foldr unfire s).thermal = s.thermal := by
  induction l with
  | nil => rfl
  | cons _ _ h => exact h
@[simp] theorem unfireAll_aux (l : List Shot) (s : State) : (l.foldr unfire s).aux = s.aux := by
  induction l with
  | nil => rfl
  | cons _ _ h => exact h
@[simp] theorem unfireAll_near (l : List Shot) (s : State) : (l.foldr unfire s).near = s.near := by
  induction l with
  | nil => rfl
  | cons _ _ h => exact h
@[simp] theorem unfireAll_recd (l : List Shot) (s : State) : (l.foldr unfire s).recd = s.recd := by
  induction l with
  | nil => rfl
  | cons _ _ h => exact h
@[simp] theorem unfireAll_dma (l : List Shot) (s : State) : (l.foldr unfire s).dma = s.dma := by
  induction l with
  | nil => rfl
  | cons _ _ h => exact h
@[simp] theorem unfireAll_log (l : List Shot) (s : State) : (l.foldr unfire s).log = s.log := by
  induction l with
  | nil => rfl
  | cons _ _ h => exact h
@[simp] theorem unfireAll_jtag (l : List Shot) (s : State) : (l.foldr unfire s).jtag = s.jtag := by
  induction l with
  | nil => rfl
  | cons _ _ h => exact h

/-! ## dropShots -/

@[simp] theorem dropShots_pending (s : State) : (dropShots s).pending = s.pending := unfireAll_pending _ s
@[simp] theorem dropShots_now (s : State) : (dropShots s).now = s.now := unfireAll_now _ s
@[simp] theorem dropShots_free (s : State) : (dropShots s).free = s.free := unfireAll_free _ s
@[simp] theorem dropShots_phase (s : State) : (dropShots s).phase = s.phase := unfireAll_phase _ s
@[simp] theorem dropShots_supply (s : State) : (dropShots s).supply = s.supply := unfireAll_supply _ s
@[simp] theorem dropShots_grat (s : State) : (dropShots s).grat = s.grat := unfireAll_grat _ s
@[simp] theorem dropShots_motor (s : State) : (dropShots s).motor = s.motor := unfireAll_motor _ s
@[simp] theorem dropShots_chain (s : State) : (dropShots s).chain = s.chain := unfireAll_chain _ s
@[simp] theorem dropShots_pulses (s : State) : (dropShots s).pulses = s.pulses := unfireAll_pulses _ s
@[simp] theorem dropShots_bias (s : State) : (dropShots s).bias = s.bias := unfireAll_bias _ s
@[simp] theorem dropShots_amb (s : State) : (dropShots s).amb = s.amb := unfireAll_amb _ s
@[simp] theorem dropShots_ambEng (s : State) : (dropShots s).ambEng = s.ambEng := unfireAll_ambEng _ s
@[simp] theorem dropShots_survey (s : State) : (dropShots s).survey = s.survey := unfireAll_survey _ s
@[simp] theorem dropShots_contour (s : State) : (dropShots s).contour = s.contour := unfireAll_contour _ s
@[simp] theorem dropShots_link (s : State) : (dropShots s).link = s.link := unfireAll_link _ s
@[simp] theorem dropShots_otp (s : State) : (dropShots s).otp = s.otp := unfireAll_otp _ s
@[simp] theorem dropShots_sec (s : State) : (dropShots s).sec = s.sec := unfireAll_sec _ s
@[simp] theorem dropShots_nor (s : State) : (dropShots s).nor = s.nor := unfireAll_nor _ s
@[simp] theorem dropShots_legend (s : State) : (dropShots s).legend = s.legend := unfireAll_legend _ s
@[simp] theorem dropShots_image (s : State) : (dropShots s).image = s.image := unfireAll_image _ s
@[simp] theorem dropShots_safety (s : State) : (dropShots s).safety = s.safety := unfireAll_safety _ s
@[simp] theorem dropShots_calib (s : State) : (dropShots s).calib = s.calib := unfireAll_calib _ s
@[simp] theorem dropShots_thermal (s : State) : (dropShots s).thermal = s.thermal := unfireAll_thermal _ s
@[simp] theorem dropShots_aux (s : State) : (dropShots s).aux = s.aux := unfireAll_aux _ s
@[simp] theorem dropShots_near (s : State) : (dropShots s).near = s.near := unfireAll_near _ s
@[simp] theorem dropShots_recd (s : State) : (dropShots s).recd = s.recd := unfireAll_recd _ s
@[simp] theorem dropShots_dma (s : State) : (dropShots s).dma = s.dma := unfireAll_dma _ s
@[simp] theorem dropShots_log (s : State) : (dropShots s).log = s.log := unfireAll_log _ s
@[simp] theorem dropShots_jtag (s : State) : (dropShots s).jtag = s.jtag := unfireAll_jtag _ s

/-! ## stopForDip -/

@[simp] theorem stopForDip_pending (s : State) : (stopForDip s).pending = s.pending := (dropShots_pending _).trans (cutPulses_pending s)
@[simp] theorem stopForDip_now (s : State) : (stopForDip s).now = s.now := (dropShots_now _).trans (cutPulses_now s)
@[simp] theorem stopForDip_free (s : State) : (stopForDip s).free = s.free := (dropShots_free _).trans (cutPulses_free s)
@[simp] theorem stopForDip_phase (s : State) : (stopForDip s).phase = s.phase := (dropShots_phase _).trans (cutPulses_phase s)
@[simp] theorem stopForDip_supply (s : State) : (stopForDip s).supply = s.supply := (dropShots_supply _).trans (cutPulses_supply s)
@[simp] theorem stopForDip_grat (s : State) : (stopForDip s).grat = s.grat := (dropShots_grat _).trans (cutPulses_grat s)
@[simp] theorem stopForDip_motor (s : State) : (stopForDip s).motor = s.motor := (dropShots_motor _).trans (cutPulses_motor s)
@[simp] theorem stopForDip_bias (s : State) : (stopForDip s).bias = s.bias := (dropShots_bias _).trans (cutPulses_bias s)
@[simp] theorem stopForDip_amb (s : State) : (stopForDip s).amb = s.amb := (dropShots_amb _).trans (cutPulses_amb s)
@[simp] theorem stopForDip_ambEng (s : State) : (stopForDip s).ambEng = s.ambEng := (dropShots_ambEng _).trans (cutPulses_ambEng s)
@[simp] theorem stopForDip_survey (s : State) : (stopForDip s).survey = s.survey := (dropShots_survey _).trans (cutPulses_survey s)
@[simp] theorem stopForDip_contour (s : State) : (stopForDip s).contour = s.contour := (dropShots_contour _).trans (cutPulses_contour s)
@[simp] theorem stopForDip_link (s : State) : (stopForDip s).link = s.link := (dropShots_link _).trans (cutPulses_link s)
@[simp] theorem stopForDip_otp (s : State) : (stopForDip s).otp = s.otp := (dropShots_otp _).trans (cutPulses_otp s)
@[simp] theorem stopForDip_sec (s : State) : (stopForDip s).sec = s.sec := (dropShots_sec _).trans (cutPulses_sec s)
@[simp] theorem stopForDip_nor (s : State) : (stopForDip s).nor = s.nor := (dropShots_nor _).trans (cutPulses_nor s)
@[simp] theorem stopForDip_legend (s : State) : (stopForDip s).legend = s.legend := (dropShots_legend _).trans (cutPulses_legend s)
@[simp] theorem stopForDip_image (s : State) : (stopForDip s).image = s.image := (dropShots_image _).trans (cutPulses_image s)
@[simp] theorem stopForDip_safety (s : State) : (stopForDip s).safety = s.safety := (dropShots_safety _).trans (cutPulses_safety s)
@[simp] theorem stopForDip_calib (s : State) : (stopForDip s).calib = s.calib := (dropShots_calib _).trans (cutPulses_calib s)
@[simp] theorem stopForDip_thermal (s : State) : (stopForDip s).thermal = s.thermal := (dropShots_thermal _).trans (cutPulses_thermal s)
@[simp] theorem stopForDip_aux (s : State) : (stopForDip s).aux = s.aux := (dropShots_aux _).trans (cutPulses_aux s)
@[simp] theorem stopForDip_near (s : State) : (stopForDip s).near = s.near := (dropShots_near _).trans (cutPulses_near s)
@[simp] theorem stopForDip_recd (s : State) : (stopForDip s).recd = s.recd := (dropShots_recd _).trans (cutPulses_recd s)
@[simp] theorem stopForDip_dma (s : State) : (stopForDip s).dma = s.dma := (dropShots_dma _).trans (cutPulses_dma s)
@[simp] theorem stopForDip_log (s : State) : (stopForDip s).log = s.log := (dropShots_log _).trans (cutPulses_log s)
@[simp] theorem stopForDip_jtag (s : State) : (stopForDip s).jtag = s.jtag := (dropShots_jtag _).trans (cutPulses_jtag s)

/-! ## raiseTrigger -/

@[simp] theorem raiseTrigger_pending (c : Nat) (s : State) : (raiseTrigger c s).pending = s.pending := by unfold raiseTrigger; split <;> rfl
@[simp] theorem raiseTrigger_now (c : Nat) (s : State) : (raiseTrigger c s).now = s.now := by unfold raiseTrigger; split <;> rfl
@[simp] theorem raiseTrigger_free (c : Nat) (s : State) : (raiseTrigger c s).free = s.free := by unfold raiseTrigger; split <;> rfl
@[simp] theorem raiseTrigger_phase (c : Nat) (s : State) : (raiseTrigger c s).phase = s.phase := by unfold raiseTrigger; split <;> rfl
@[simp] theorem raiseTrigger_supply (c : Nat) (s : State) : (raiseTrigger c s).supply = s.supply := by unfold raiseTrigger; split <;> rfl
@[simp] theorem raiseTrigger_grat (c : Nat) (s : State) : (raiseTrigger c s).grat = s.grat := by unfold raiseTrigger; split <;> rfl
@[simp] theorem raiseTrigger_motor (c : Nat) (s : State) : (raiseTrigger c s).motor = s.motor := by unfold raiseTrigger; split <;> rfl
@[simp] theorem raiseTrigger_seq (c : Nat) (s : State) : (raiseTrigger c s).seq = s.seq := by unfold raiseTrigger; split <;> rfl
@[simp] theorem raiseTrigger_banks (c : Nat) (s : State) : (raiseTrigger c s).banks = s.banks := by unfold raiseTrigger; split <;> rfl
@[simp] theorem raiseTrigger_chain (c : Nat) (s : State) : (raiseTrigger c s).chain = s.chain := by unfold raiseTrigger; split <;> rfl
@[simp] theorem raiseTrigger_pulses (c : Nat) (s : State) : (raiseTrigger c s).pulses = s.pulses := by unfold raiseTrigger; split <;> rfl
@[simp] theorem raiseTrigger_bias (c : Nat) (s : State) : (raiseTrigger c s).bias = s.bias := by unfold raiseTrigger; split <;> rfl
@[simp] theorem raiseTrigger_chans (c : Nat) (s : State) : (raiseTrigger c s).chans = s.chans := by unfold raiseTrigger; split <;> rfl
@[simp] theorem raiseTrigger_amb (c : Nat) (s : State) : (raiseTrigger c s).amb = s.amb := by unfold raiseTrigger; split <;> rfl
@[simp] theorem raiseTrigger_ambEng (c : Nat) (s : State) : (raiseTrigger c s).ambEng = s.ambEng := by unfold raiseTrigger; split <;> rfl
@[simp] theorem raiseTrigger_survey (c : Nat) (s : State) : (raiseTrigger c s).survey = s.survey := by unfold raiseTrigger; split <;> rfl
@[simp] theorem raiseTrigger_contour (c : Nat) (s : State) : (raiseTrigger c s).contour = s.contour := by unfold raiseTrigger; split <;> rfl
@[simp] theorem raiseTrigger_link (c : Nat) (s : State) : (raiseTrigger c s).link = s.link := by unfold raiseTrigger; split <;> rfl
@[simp] theorem raiseTrigger_otp (c : Nat) (s : State) : (raiseTrigger c s).otp = s.otp := by unfold raiseTrigger; split <;> rfl
@[simp] theorem raiseTrigger_sec (c : Nat) (s : State) : (raiseTrigger c s).sec = s.sec := by unfold raiseTrigger; split <;> rfl
@[simp] theorem raiseTrigger_nor (c : Nat) (s : State) : (raiseTrigger c s).nor = s.nor := by unfold raiseTrigger; split <;> rfl
@[simp] theorem raiseTrigger_legend (c : Nat) (s : State) : (raiseTrigger c s).legend = s.legend := by unfold raiseTrigger; split <;> rfl
@[simp] theorem raiseTrigger_image (c : Nat) (s : State) : (raiseTrigger c s).image = s.image := by unfold raiseTrigger; split <;> rfl
@[simp] theorem raiseTrigger_safety (c : Nat) (s : State) : (raiseTrigger c s).safety = s.safety := by unfold raiseTrigger; split <;> rfl
@[simp] theorem raiseTrigger_calib (c : Nat) (s : State) : (raiseTrigger c s).calib = s.calib := by unfold raiseTrigger; split <;> rfl
@[simp] theorem raiseTrigger_thermal (c : Nat) (s : State) : (raiseTrigger c s).thermal = s.thermal := by unfold raiseTrigger; split <;> rfl
@[simp] theorem raiseTrigger_aux (c : Nat) (s : State) : (raiseTrigger c s).aux = s.aux := by unfold raiseTrigger; split <;> rfl
@[simp] theorem raiseTrigger_near (c : Nat) (s : State) : (raiseTrigger c s).near = s.near := by unfold raiseTrigger; split <;> rfl
@[simp] theorem raiseTrigger_dma (c : Nat) (s : State) : (raiseTrigger c s).dma = s.dma := by unfold raiseTrigger; split <;> rfl
@[simp] theorem raiseTrigger_log (c : Nat) (s : State) : (raiseTrigger c s).log = s.log := by unfold raiseTrigger; split <;> rfl
@[simp] theorem raiseTrigger_jtag (c : Nat) (s : State) : (raiseTrigger c s).jtag = s.jtag := by unfold raiseTrigger; split <;> rfl

/-! ## urgentAdd -/

@[simp] theorem urgentAdd_pending (b : Bool) (s : State) : (urgentAdd b s).pending = s.pending := by
  unfold urgentAdd
  repeat' split
  all_goals rfl
@[simp] theorem urgentAdd_now (b : Bool) (s : State) : (urgentAdd b s).now = s.now := by
  unfold urgentAdd
  repeat' split
  all_goals rfl
@[simp] theorem urgentAdd_free (b : Bool) (s : State) : (urgentAdd b s).free = s.free := by
  unfold urgentAdd
  repeat' split
  all_goals rfl
@[simp] theorem urgentAdd_phase (b : Bool) (s : State) : (urgentAdd b s).phase = s.phase := by
  unfold urgentAdd
  repeat' split
  all_goals rfl
@[simp] theorem urgentAdd_supply (b : Bool) (s : State) : (urgentAdd b s).supply = s.supply := by
  unfold urgentAdd
  repeat' split
  all_goals rfl
@[simp] theorem urgentAdd_grat (b : Bool) (s : State) : (urgentAdd b s).grat = s.grat := by
  unfold urgentAdd
  repeat' split
  all_goals rfl
@[simp] theorem urgentAdd_motor (b : Bool) (s : State) : (urgentAdd b s).motor = s.motor := by
  unfold urgentAdd
  repeat' split
  all_goals rfl
@[simp] theorem urgentAdd_seq (b : Bool) (s : State) : (urgentAdd b s).seq = s.seq := by
  unfold urgentAdd
  repeat' split
  all_goals rfl
@[simp] theorem urgentAdd_banks (b : Bool) (s : State) : (urgentAdd b s).banks = s.banks := by
  unfold urgentAdd
  repeat' split
  all_goals rfl
@[simp] theorem urgentAdd_chain (b : Bool) (s : State) : (urgentAdd b s).chain = s.chain := by
  unfold urgentAdd
  repeat' split
  all_goals rfl
@[simp] theorem urgentAdd_pulses (b : Bool) (s : State) : (urgentAdd b s).pulses = s.pulses := by
  unfold urgentAdd
  repeat' split
  all_goals rfl
@[simp] theorem urgentAdd_bias (b : Bool) (s : State) : (urgentAdd b s).bias = s.bias := by
  unfold urgentAdd
  repeat' split
  all_goals rfl
@[simp] theorem urgentAdd_chans (b : Bool) (s : State) : (urgentAdd b s).chans = s.chans := by
  unfold urgentAdd
  repeat' split
  all_goals rfl
@[simp] theorem urgentAdd_amb (b : Bool) (s : State) : (urgentAdd b s).amb = s.amb := by
  unfold urgentAdd
  repeat' split
  all_goals rfl
@[simp] theorem urgentAdd_ambEng (b : Bool) (s : State) : (urgentAdd b s).ambEng = s.ambEng := by
  unfold urgentAdd
  repeat' split
  all_goals rfl
@[simp] theorem urgentAdd_survey (b : Bool) (s : State) : (urgentAdd b s).survey = s.survey := by
  unfold urgentAdd
  repeat' split
  all_goals rfl
@[simp] theorem urgentAdd_contour (b : Bool) (s : State) : (urgentAdd b s).contour = s.contour := by
  unfold urgentAdd
  repeat' split
  all_goals rfl
@[simp] theorem urgentAdd_link (b : Bool) (s : State) : (urgentAdd b s).link = s.link := by
  unfold urgentAdd
  repeat' split
  all_goals rfl
@[simp] theorem urgentAdd_otp (b : Bool) (s : State) : (urgentAdd b s).otp = s.otp := by
  unfold urgentAdd
  repeat' split
  all_goals rfl
@[simp] theorem urgentAdd_sec (b : Bool) (s : State) : (urgentAdd b s).sec = s.sec := by
  unfold urgentAdd
  repeat' split
  all_goals rfl
@[simp] theorem urgentAdd_nor (b : Bool) (s : State) : (urgentAdd b s).nor = s.nor := by
  unfold urgentAdd
  repeat' split
  all_goals rfl
@[simp] theorem urgentAdd_legend (b : Bool) (s : State) : (urgentAdd b s).legend = s.legend := by
  unfold urgentAdd
  repeat' split
  all_goals rfl
@[simp] theorem urgentAdd_image (b : Bool) (s : State) : (urgentAdd b s).image = s.image := by
  unfold urgentAdd
  repeat' split
  all_goals rfl
@[simp] theorem urgentAdd_safety (b : Bool) (s : State) : (urgentAdd b s).safety = s.safety := by
  unfold urgentAdd
  repeat' split
  all_goals rfl
@[simp] theorem urgentAdd_calib (b : Bool) (s : State) : (urgentAdd b s).calib = s.calib := by
  unfold urgentAdd
  repeat' split
  all_goals rfl
@[simp] theorem urgentAdd_thermal (b : Bool) (s : State) : (urgentAdd b s).thermal = s.thermal := by
  unfold urgentAdd
  repeat' split
  all_goals rfl
@[simp] theorem urgentAdd_near (b : Bool) (s : State) : (urgentAdd b s).near = s.near := by
  unfold urgentAdd
  repeat' split
  all_goals rfl
@[simp] theorem urgentAdd_recd (b : Bool) (s : State) : (urgentAdd b s).recd = s.recd := by
  unfold urgentAdd
  repeat' split
  all_goals rfl
@[simp] theorem urgentAdd_dma (b : Bool) (s : State) : (urgentAdd b s).dma = s.dma := by
  unfold urgentAdd
  repeat' split
  all_goals rfl
@[simp] theorem urgentAdd_jtag (b : Bool) (s : State) : (urgentAdd b s).jtag = s.jtag := by
  unfold urgentAdd
  repeat' split
  all_goals rfl

/-! ## abandonRun -/

@[simp] theorem abandonRun_pending (r : Nat) (s : State) : (abandonRun r s).pending = s.pending := by
  unfold abandonRun
  split
  · rfl
  · rw [count_pending, logEvent_pending]
@[simp] theorem abandonRun_now (r : Nat) (s : State) : (abandonRun r s).now = s.now := by
  unfold abandonRun
  split
  · rfl
  · rw [count_now, logEvent_now]
@[simp] theorem abandonRun_free (r : Nat) (s : State) : (abandonRun r s).free = s.free := by
  unfold abandonRun
  split
  · rfl
  · rw [count_free, logEvent_free]
@[simp] theorem abandonRun_phase (r : Nat) (s : State) : (abandonRun r s).phase = s.phase := by
  unfold abandonRun
  split
  · rfl
  · rw [count_phase, logEvent_phase]
@[simp] theorem abandonRun_supply (r : Nat) (s : State) : (abandonRun r s).supply = s.supply := by
  unfold abandonRun
  split
  · rfl
  · rw [count_supply, logEvent_supply]
@[simp] theorem abandonRun_grat (r : Nat) (s : State) : (abandonRun r s).grat = s.grat := by
  unfold abandonRun
  split
  · rfl
  · rw [count_grat, logEvent_grat]
@[simp] theorem abandonRun_motor (r : Nat) (s : State) : (abandonRun r s).motor = s.motor := by
  unfold abandonRun
  split
  · rfl
  · rw [count_motor, logEvent_motor]
@[simp] theorem abandonRun_seq (r : Nat) (s : State) : (abandonRun r s).seq = s.seq := by
  unfold abandonRun
  split
  · rfl
  · rw [count_seq, logEvent_seq]
@[simp] theorem abandonRun_banks (r : Nat) (s : State) : (abandonRun r s).banks = s.banks := by
  unfold abandonRun
  split
  · rfl
  · rw [count_banks, logEvent_banks]
@[simp] theorem abandonRun_chain (r : Nat) (s : State) : (abandonRun r s).chain = s.chain := by
  unfold abandonRun
  split
  · rfl
  · rw [count_chain, logEvent_chain]
@[simp] theorem abandonRun_pulses (r : Nat) (s : State) : (abandonRun r s).pulses = s.pulses := by
  unfold abandonRun
  split
  · rfl
  · rw [count_pulses, logEvent_pulses]
@[simp] theorem abandonRun_bias (r : Nat) (s : State) : (abandonRun r s).bias = s.bias := by
  unfold abandonRun
  split
  · rfl
  · rw [count_bias, logEvent_bias]
@[simp] theorem abandonRun_chans (r : Nat) (s : State) : (abandonRun r s).chans = s.chans := by
  unfold abandonRun
  split
  · rfl
  · rw [count_chans, logEvent_chans]
@[simp] theorem abandonRun_amb (r : Nat) (s : State) : (abandonRun r s).amb = s.amb := by
  unfold abandonRun
  split
  · rfl
  · rw [count_amb, logEvent_amb]
@[simp] theorem abandonRun_ambEng (r : Nat) (s : State) : (abandonRun r s).ambEng = s.ambEng := by
  unfold abandonRun
  split
  · rfl
  · rw [count_ambEng, logEvent_ambEng]
@[simp] theorem abandonRun_survey (r : Nat) (s : State) : (abandonRun r s).survey = s.survey := by
  unfold abandonRun
  split
  · rfl
  · rw [count_survey, logEvent_survey]
@[simp] theorem abandonRun_contour (r : Nat) (s : State) : (abandonRun r s).contour = s.contour := by
  unfold abandonRun
  split
  · rfl
  · rw [count_contour, logEvent_contour]
@[simp] theorem abandonRun_link (r : Nat) (s : State) : (abandonRun r s).link = s.link := by
  unfold abandonRun
  split
  · rfl
  · rw [count_link, logEvent_link]
@[simp] theorem abandonRun_otp (r : Nat) (s : State) : (abandonRun r s).otp = s.otp := by
  unfold abandonRun
  split
  · rfl
  · rw [count_otp, logEvent_otp]
@[simp] theorem abandonRun_sec (r : Nat) (s : State) : (abandonRun r s).sec = s.sec := by
  unfold abandonRun
  split
  · rfl
  · rw [count_sec, logEvent_sec]
@[simp] theorem abandonRun_legend (r : Nat) (s : State) : (abandonRun r s).legend = s.legend := by
  unfold abandonRun
  split
  · rfl
  · rw [count_legend, logEvent_legend]
@[simp] theorem abandonRun_image (r : Nat) (s : State) : (abandonRun r s).image = s.image := by
  unfold abandonRun
  split
  · rfl
  · rw [count_image, logEvent_image]
@[simp] theorem abandonRun_safety (r : Nat) (s : State) : (abandonRun r s).safety = s.safety := by
  unfold abandonRun
  split
  · rfl
  · rw [count_safety, logEvent_safety]
@[simp] theorem abandonRun_thermal (r : Nat) (s : State) : (abandonRun r s).thermal = s.thermal := by
  unfold abandonRun
  split
  · rfl
  · rw [count_thermal, logEvent_thermal]
@[simp] theorem abandonRun_aux (r : Nat) (s : State) : (abandonRun r s).aux = s.aux := by
  unfold abandonRun
  split
  · rfl
  · rw [count_aux, logEvent_aux]
@[simp] theorem abandonRun_near (r : Nat) (s : State) : (abandonRun r s).near = s.near := by
  unfold abandonRun
  split
  · rfl
  · rw [count_near, logEvent_near]
@[simp] theorem abandonRun_recd (r : Nat) (s : State) : (abandonRun r s).recd = s.recd := by
  unfold abandonRun
  split
  · rfl
  · rw [count_recd, logEvent_recd]
@[simp] theorem abandonRun_dma (r : Nat) (s : State) : (abandonRun r s).dma = s.dma := by
  unfold abandonRun
  split
  · rfl
  · rw [count_dma, logEvent_dma]
@[simp] theorem abandonRun_jtag (r : Nat) (s : State) : (abandonRun r s).jtag = s.jtag := by
  unfold abandonRun
  split
  · rfl
  · rw [count_jtag, logEvent_jtag]

/-! ## withdrawPermit -/

@[simp] theorem withdrawPermit_pending (d : Side) (s : State) : (withdrawPermit d s).pending = s.pending := by
  unfold withdrawPermit
  split
  · rw [abandonRun_pending, stopFiring_pending, modSide_pending, cutPulses_pending]
  · rfl
@[simp] theorem withdrawPermit_now (d : Side) (s : State) : (withdrawPermit d s).now = s.now := by
  unfold withdrawPermit
  split
  · rw [abandonRun_now, stopFiring_now, modSide_now, cutPulses_now]
  · rfl
@[simp] theorem withdrawPermit_free (d : Side) (s : State) : (withdrawPermit d s).free = s.free := by
  unfold withdrawPermit
  split
  · rw [abandonRun_free, stopFiring_free, modSide_free, cutPulses_free]
  · rfl
@[simp] theorem withdrawPermit_phase (d : Side) (s : State) : (withdrawPermit d s).phase = s.phase := by
  unfold withdrawPermit
  split
  · rw [abandonRun_phase, stopFiring_phase, modSide_phase, cutPulses_phase]
  · rfl
@[simp] theorem withdrawPermit_supply (d : Side) (s : State) : (withdrawPermit d s).supply = s.supply := by
  unfold withdrawPermit
  split
  · rw [abandonRun_supply, stopFiring_supply, modSide_supply, cutPulses_supply]
  · rfl
@[simp] theorem withdrawPermit_grat (d : Side) (s : State) : (withdrawPermit d s).grat = s.grat := by
  unfold withdrawPermit
  split
  · rw [abandonRun_grat, stopFiring_grat, modSide_grat, cutPulses_grat]
  · rfl
@[simp] theorem withdrawPermit_motor (d : Side) (s : State) : (withdrawPermit d s).motor = s.motor := by
  unfold withdrawPermit
  split
  · rw [abandonRun_motor, stopFiring_motor, modSide_motor, cutPulses_motor]
  · rfl
@[simp] theorem withdrawPermit_banks (d : Side) (s : State) : (withdrawPermit d s).banks = s.banks := by
  unfold withdrawPermit
  split
  · rw [abandonRun_banks, stopFiring_banks, modSide_banks, cutPulses_banks]
  · rfl
@[simp] theorem withdrawPermit_bias (d : Side) (s : State) : (withdrawPermit d s).bias = s.bias := by
  unfold withdrawPermit
  split
  · rw [abandonRun_bias, stopFiring_bias, modSide_bias, cutPulses_bias]
  · rfl
@[simp] theorem withdrawPermit_chans (d : Side) (s : State) : (withdrawPermit d s).chans = s.chans := by
  unfold withdrawPermit
  split
  · rw [abandonRun_chans, stopFiring_chans, modSide_chans, cutPulses_chans]
  · rfl
@[simp] theorem withdrawPermit_amb (d : Side) (s : State) : (withdrawPermit d s).amb = s.amb := by
  unfold withdrawPermit
  split
  · rw [abandonRun_amb, stopFiring_amb, modSide_amb, cutPulses_amb]
  · rfl
@[simp] theorem withdrawPermit_ambEng (d : Side) (s : State) : (withdrawPermit d s).ambEng = s.ambEng := by
  unfold withdrawPermit
  split
  · rw [abandonRun_ambEng, stopFiring_ambEng, modSide_ambEng, cutPulses_ambEng]
  · rfl
@[simp] theorem withdrawPermit_survey (d : Side) (s : State) : (withdrawPermit d s).survey = s.survey := by
  unfold withdrawPermit
  split
  · rw [abandonRun_survey, stopFiring_survey, modSide_survey, cutPulses_survey]
  · rfl
@[simp] theorem withdrawPermit_contour (d : Side) (s : State) : (withdrawPermit d s).contour = s.contour := by
  unfold withdrawPermit
  split
  · rw [abandonRun_contour, stopFiring_contour, modSide_contour, cutPulses_contour]
  · rfl
@[simp] theorem withdrawPermit_link (d : Side) (s : State) : (withdrawPermit d s).link = s.link := by
  unfold withdrawPermit
  split
  · rw [abandonRun_link, stopFiring_link, modSide_link, cutPulses_link]
  · rfl
@[simp] theorem withdrawPermit_otp (d : Side) (s : State) : (withdrawPermit d s).otp = s.otp := by
  unfold withdrawPermit
  split
  · rw [abandonRun_otp, stopFiring_otp, modSide_otp, cutPulses_otp]
  · rfl
@[simp] theorem withdrawPermit_sec (d : Side) (s : State) : (withdrawPermit d s).sec = s.sec := by
  unfold withdrawPermit
  split
  · rw [abandonRun_sec, stopFiring_sec, modSide_sec, cutPulses_sec]
  · rfl
@[simp] theorem withdrawPermit_legend (d : Side) (s : State) : (withdrawPermit d s).legend = s.legend := by
  unfold withdrawPermit
  split
  · rw [abandonRun_legend, stopFiring_legend, modSide_legend, cutPulses_legend]
  · rfl
@[simp] theorem withdrawPermit_image (d : Side) (s : State) : (withdrawPermit d s).image = s.image := by
  unfold withdrawPermit
  split
  · rw [abandonRun_image, stopFiring_image, modSide_image, cutPulses_image]
  · rfl
@[simp] theorem withdrawPermit_thermal (d : Side) (s : State) : (withdrawPermit d s).thermal = s.thermal := by
  unfold withdrawPermit
  split
  · rw [abandonRun_thermal, stopFiring_thermal, modSide_thermal, cutPulses_thermal]
  · rfl
@[simp] theorem withdrawPermit_aux (d : Side) (s : State) : (withdrawPermit d s).aux = s.aux := by
  unfold withdrawPermit
  split
  · rw [abandonRun_aux, stopFiring_aux, modSide_aux, cutPulses_aux]
  · rfl
@[simp] theorem withdrawPermit_near (d : Side) (s : State) : (withdrawPermit d s).near = s.near := by
  unfold withdrawPermit
  split
  · rw [abandonRun_near, stopFiring_near, modSide_near, cutPulses_near]
  · rfl
@[simp] theorem withdrawPermit_recd (d : Side) (s : State) : (withdrawPermit d s).recd = s.recd := by
  unfold withdrawPermit
  split
  · rw [abandonRun_recd, stopFiring_recd, modSide_recd, cutPulses_recd]
  · rfl
@[simp] theorem withdrawPermit_dma (d : Side) (s : State) : (withdrawPermit d s).dma = s.dma := by
  unfold withdrawPermit
  split
  · rw [abandonRun_dma, stopFiring_dma, modSide_dma, cutPulses_dma]
  · rfl
@[simp] theorem withdrawPermit_jtag (d : Side) (s : State) : (withdrawPermit d s).jtag = s.jtag := by
  unfold withdrawPermit
  split
  · rw [abandonRun_jtag, stopFiring_jtag, modSide_jtag, cutPulses_jtag]
  · rfl

/-! ## checkPermit -/

@[simp] theorem checkPermit_pending (d : Side) (s : State) : (checkPermit d s).pending = s.pending := by
  unfold checkPermit
  split
  · rfl
  · rw [withdrawPermit_pending]
@[simp] theorem checkPermit_now (d : Side) (s : State) : (checkPermit d s).now = s.now := by
  unfold checkPermit
  split
  · rfl
  · rw [withdrawPermit_now]
@[simp] theorem checkPermit_free (d : Side) (s : State) : (checkPermit d s).free = s.free := by
  unfold checkPermit
  split
  · rfl
  · rw [withdrawPermit_free]
@[simp] theorem checkPermit_phase (d : Side) (s : State) : (checkPermit d s).phase = s.phase := by
  unfold checkPermit
  split
  · rfl
  · rw [withdrawPermit_phase]
@[simp] theorem checkPermit_supply (d : Side) (s : State) : (checkPermit d s).supply = s.supply := by
  unfold checkPermit
  split
  · rfl
  · rw [withdrawPermit_supply]
@[simp] theorem checkPermit_grat (d : Side) (s : State) : (checkPermit d s).grat = s.grat := by
  unfold checkPermit
  split
  · rfl
  · rw [withdrawPermit_grat]
@[simp] theorem checkPermit_motor (d : Side) (s : State) : (checkPermit d s).motor = s.motor := by
  unfold checkPermit
  split
  · rfl
  · rw [withdrawPermit_motor]
@[simp] theorem checkPermit_banks (d : Side) (s : State) : (checkPermit d s).banks = s.banks := by
  unfold checkPermit
  split
  · rfl
  · rw [withdrawPermit_banks]
@[simp] theorem checkPermit_bias (d : Side) (s : State) : (checkPermit d s).bias = s.bias := by
  unfold checkPermit
  split
  · rfl
  · rw [withdrawPermit_bias]
@[simp] theorem checkPermit_chans (d : Side) (s : State) : (checkPermit d s).chans = s.chans := by
  unfold checkPermit
  split
  · rfl
  · rw [withdrawPermit_chans]
@[simp] theorem checkPermit_amb (d : Side) (s : State) : (checkPermit d s).amb = s.amb := by
  unfold checkPermit
  split
  · rfl
  · rw [withdrawPermit_amb]
@[simp] theorem checkPermit_ambEng (d : Side) (s : State) : (checkPermit d s).ambEng = s.ambEng := by
  unfold checkPermit
  split
  · rfl
  · rw [withdrawPermit_ambEng]
@[simp] theorem checkPermit_survey (d : Side) (s : State) : (checkPermit d s).survey = s.survey := by
  unfold checkPermit
  split
  · rfl
  · rw [withdrawPermit_survey]
@[simp] theorem checkPermit_contour (d : Side) (s : State) : (checkPermit d s).contour = s.contour := by
  unfold checkPermit
  split
  · rfl
  · rw [withdrawPermit_contour]
@[simp] theorem checkPermit_link (d : Side) (s : State) : (checkPermit d s).link = s.link := by
  unfold checkPermit
  split
  · rfl
  · rw [withdrawPermit_link]
@[simp] theorem checkPermit_otp (d : Side) (s : State) : (checkPermit d s).otp = s.otp := by
  unfold checkPermit
  split
  · rfl
  · rw [withdrawPermit_otp]
@[simp] theorem checkPermit_sec (d : Side) (s : State) : (checkPermit d s).sec = s.sec := by
  unfold checkPermit
  split
  · rfl
  · rw [withdrawPermit_sec]
@[simp] theorem checkPermit_legend (d : Side) (s : State) : (checkPermit d s).legend = s.legend := by
  unfold checkPermit
  split
  · rfl
  · rw [withdrawPermit_legend]
@[simp] theorem checkPermit_image (d : Side) (s : State) : (checkPermit d s).image = s.image := by
  unfold checkPermit
  split
  · rfl
  · rw [withdrawPermit_image]
@[simp] theorem checkPermit_thermal (d : Side) (s : State) : (checkPermit d s).thermal = s.thermal := by
  unfold checkPermit
  split
  · rfl
  · rw [withdrawPermit_thermal]
@[simp] theorem checkPermit_aux (d : Side) (s : State) : (checkPermit d s).aux = s.aux := by
  unfold checkPermit
  split
  · rfl
  · rw [withdrawPermit_aux]
@[simp] theorem checkPermit_near (d : Side) (s : State) : (checkPermit d s).near = s.near := by
  unfold checkPermit
  split
  · rfl
  · rw [withdrawPermit_near]
@[simp] theorem checkPermit_recd (d : Side) (s : State) : (checkPermit d s).recd = s.recd := by
  unfold checkPermit
  split
  · rfl
  · rw [withdrawPermit_recd]
@[simp] theorem checkPermit_dma (d : Side) (s : State) : (checkPermit d s).dma = s.dma := by
  unfold checkPermit
  split
  · rfl
  · rw [withdrawPermit_dma]
@[simp] theorem checkPermit_jtag (d : Side) (s : State) : (checkPermit d s).jtag = s.jtag := by
  unfold checkPermit
  split
  · rfl
  · rw [withdrawPermit_jtag]

/-! ## modLink -/

@[simp] theorem modLink_pending (f : Link → Link) (s : State) : (modLink f s).pending = s.pending := rfl
@[simp] theorem modLink_now (f : Link → Link) (s : State) : (modLink f s).now = s.now := rfl
@[simp] theorem modLink_free (f : Link → Link) (s : State) : (modLink f s).free = s.free := rfl
@[simp] theorem modLink_phase (f : Link → Link) (s : State) : (modLink f s).phase = s.phase := rfl
@[simp] theorem modLink_supply (f : Link → Link) (s : State) : (modLink f s).supply = s.supply := rfl
@[simp] theorem modLink_grat (f : Link → Link) (s : State) : (modLink f s).grat = s.grat := rfl
@[simp] theorem modLink_motor (f : Link → Link) (s : State) : (modLink f s).motor = s.motor := rfl
@[simp] theorem modLink_seq (f : Link → Link) (s : State) : (modLink f s).seq = s.seq := rfl
@[simp] theorem modLink_banks (f : Link → Link) (s : State) : (modLink f s).banks = s.banks := rfl
@[simp] theorem modLink_chain (f : Link → Link) (s : State) : (modLink f s).chain = s.chain := rfl
@[simp] theorem modLink_pulses (f : Link → Link) (s : State) : (modLink f s).pulses = s.pulses := rfl
@[simp] theorem modLink_bias (f : Link → Link) (s : State) : (modLink f s).bias = s.bias := rfl
@[simp] theorem modLink_chans (f : Link → Link) (s : State) : (modLink f s).chans = s.chans := rfl
@[simp] theorem modLink_amb (f : Link → Link) (s : State) : (modLink f s).amb = s.amb := rfl
@[simp] theorem modLink_ambEng (f : Link → Link) (s : State) : (modLink f s).ambEng = s.ambEng := rfl
@[simp] theorem modLink_survey (f : Link → Link) (s : State) : (modLink f s).survey = s.survey := rfl
@[simp] theorem modLink_contour (f : Link → Link) (s : State) : (modLink f s).contour = s.contour := rfl
@[simp] theorem modLink_otp (f : Link → Link) (s : State) : (modLink f s).otp = s.otp := rfl
@[simp] theorem modLink_sec (f : Link → Link) (s : State) : (modLink f s).sec = s.sec := rfl
@[simp] theorem modLink_nor (f : Link → Link) (s : State) : (modLink f s).nor = s.nor := rfl
@[simp] theorem modLink_legend (f : Link → Link) (s : State) : (modLink f s).legend = s.legend := rfl
@[simp] theorem modLink_image (f : Link → Link) (s : State) : (modLink f s).image = s.image := rfl
@[simp] theorem modLink_safety (f : Link → Link) (s : State) : (modLink f s).safety = s.safety := rfl
@[simp] theorem modLink_calib (f : Link → Link) (s : State) : (modLink f s).calib = s.calib := rfl
@[simp] theorem modLink_thermal (f : Link → Link) (s : State) : (modLink f s).thermal = s.thermal := rfl
@[simp] theorem modLink_aux (f : Link → Link) (s : State) : (modLink f s).aux = s.aux := rfl
@[simp] theorem modLink_near (f : Link → Link) (s : State) : (modLink f s).near = s.near := rfl
@[simp] theorem modLink_recd (f : Link → Link) (s : State) : (modLink f s).recd = s.recd := rfl
@[simp] theorem modLink_dma (f : Link → Link) (s : State) : (modLink f s).dma = s.dma := rfl
@[simp] theorem modLink_log (f : Link → Link) (s : State) : (modLink f s).log = s.log := rfl
@[simp] theorem modLink_jtag (f : Link → Link) (s : State) : (modLink f s).jtag = s.jtag := rfl
@[simp] theorem modLink_link (f : Link → Link) (s : State) : (modLink f s).link = f s.link := rfl

/-! ## modMotor -/

@[simp] theorem modMotor_pending (f : Motor → Motor) (s : State) : (modMotor f s).pending = s.pending := rfl
@[simp] theorem modMotor_now (f : Motor → Motor) (s : State) : (modMotor f s).now = s.now := rfl
@[simp] theorem modMotor_free (f : Motor → Motor) (s : State) : (modMotor f s).free = s.free := rfl
@[simp] theorem modMotor_phase (f : Motor → Motor) (s : State) : (modMotor f s).phase = s.phase := rfl
@[simp] theorem modMotor_supply (f : Motor → Motor) (s : State) : (modMotor f s).supply = s.supply := rfl
@[simp] theorem modMotor_grat (f : Motor → Motor) (s : State) : (modMotor f s).grat = s.grat := rfl
@[simp] theorem modMotor_seq (f : Motor → Motor) (s : State) : (modMotor f s).seq = s.seq := rfl
@[simp] theorem modMotor_banks (f : Motor → Motor) (s : State) : (modMotor f s).banks = s.banks := rfl
@[simp] theorem modMotor_chain (f : Motor → Motor) (s : State) : (modMotor f s).chain = s.chain := rfl
@[simp] theorem modMotor_pulses (f : Motor → Motor) (s : State) : (modMotor f s).pulses = s.pulses := rfl
@[simp] theorem modMotor_bias (f : Motor → Motor) (s : State) : (modMotor f s).bias = s.bias := rfl
@[simp] theorem modMotor_chans (f : Motor → Motor) (s : State) : (modMotor f s).chans = s.chans := rfl
@[simp] theorem modMotor_amb (f : Motor → Motor) (s : State) : (modMotor f s).amb = s.amb := rfl
@[simp] theorem modMotor_ambEng (f : Motor → Motor) (s : State) : (modMotor f s).ambEng = s.ambEng := rfl
@[simp] theorem modMotor_survey (f : Motor → Motor) (s : State) : (modMotor f s).survey = s.survey := rfl
@[simp] theorem modMotor_contour (f : Motor → Motor) (s : State) : (modMotor f s).contour = s.contour := rfl
@[simp] theorem modMotor_link (f : Motor → Motor) (s : State) : (modMotor f s).link = s.link := rfl
@[simp] theorem modMotor_otp (f : Motor → Motor) (s : State) : (modMotor f s).otp = s.otp := rfl
@[simp] theorem modMotor_sec (f : Motor → Motor) (s : State) : (modMotor f s).sec = s.sec := rfl
@[simp] theorem modMotor_nor (f : Motor → Motor) (s : State) : (modMotor f s).nor = s.nor := rfl
@[simp] theorem modMotor_legend (f : Motor → Motor) (s : State) : (modMotor f s).legend = s.legend := rfl
@[simp] theorem modMotor_image (f : Motor → Motor) (s : State) : (modMotor f s).image = s.image := rfl
@[simp] theorem modMotor_safety (f : Motor → Motor) (s : State) : (modMotor f s).safety = s.safety := rfl
@[simp] theorem modMotor_calib (f : Motor → Motor) (s : State) : (modMotor f s).calib = s.calib := rfl
@[simp] theorem modMotor_thermal (f : Motor → Motor) (s : State) : (modMotor f s).thermal = s.thermal := rfl
@[simp] theorem modMotor_aux (f : Motor → Motor) (s : State) : (modMotor f s).aux = s.aux := rfl
@[simp] theorem modMotor_near (f : Motor → Motor) (s : State) : (modMotor f s).near = s.near := rfl
@[simp] theorem modMotor_recd (f : Motor → Motor) (s : State) : (modMotor f s).recd = s.recd := rfl
@[simp] theorem modMotor_dma (f : Motor → Motor) (s : State) : (modMotor f s).dma = s.dma := rfl
@[simp] theorem modMotor_log (f : Motor → Motor) (s : State) : (modMotor f s).log = s.log := rfl
@[simp] theorem modMotor_jtag (f : Motor → Motor) (s : State) : (modMotor f s).jtag = s.jtag := rfl
@[simp] theorem modMotor_motor (f : Motor → Motor) (s : State) : (modMotor f s).motor = f s.motor := rfl

/-! ## modSeq -/

@[simp] theorem modSeq_pending (f : Seq → Seq) (s : State) : (modSeq f s).pending = s.pending := rfl
@[simp] theorem modSeq_now (f : Seq → Seq) (s : State) : (modSeq f s).now = s.now := rfl
@[simp] theorem modSeq_free (f : Seq → Seq) (s : State) : (modSeq f s).free = s.free := rfl
@[simp] theorem modSeq_phase (f : Seq → Seq) (s : State) : (modSeq f s).phase = s.phase := rfl
@[simp] theorem modSeq_supply (f : Seq → Seq) (s : State) : (modSeq f s).supply = s.supply := rfl
@[simp] theorem modSeq_grat (f : Seq → Seq) (s : State) : (modSeq f s).grat = s.grat := rfl
@[simp] theorem modSeq_motor (f : Seq → Seq) (s : State) : (modSeq f s).motor = s.motor := rfl
@[simp] theorem modSeq_banks (f : Seq → Seq) (s : State) : (modSeq f s).banks = s.banks := rfl
@[simp] theorem modSeq_chain (f : Seq → Seq) (s : State) : (modSeq f s).chain = s.chain := rfl
@[simp] theorem modSeq_pulses (f : Seq → Seq) (s : State) : (modSeq f s).pulses = s.pulses := rfl
@[simp] theorem modSeq_bias (f : Seq → Seq) (s : State) : (modSeq f s).bias = s.bias := rfl
@[simp] theorem modSeq_chans (f : Seq → Seq) (s : State) : (modSeq f s).chans = s.chans := rfl
@[simp] theorem modSeq_amb (f : Seq → Seq) (s : State) : (modSeq f s).amb = s.amb := rfl
@[simp] theorem modSeq_ambEng (f : Seq → Seq) (s : State) : (modSeq f s).ambEng = s.ambEng := rfl
@[simp] theorem modSeq_survey (f : Seq → Seq) (s : State) : (modSeq f s).survey = s.survey := rfl
@[simp] theorem modSeq_contour (f : Seq → Seq) (s : State) : (modSeq f s).contour = s.contour := rfl
@[simp] theorem modSeq_link (f : Seq → Seq) (s : State) : (modSeq f s).link = s.link := rfl
@[simp] theorem modSeq_otp (f : Seq → Seq) (s : State) : (modSeq f s).otp = s.otp := rfl
@[simp] theorem modSeq_sec (f : Seq → Seq) (s : State) : (modSeq f s).sec = s.sec := rfl
@[simp] theorem modSeq_nor (f : Seq → Seq) (s : State) : (modSeq f s).nor = s.nor := rfl
@[simp] theorem modSeq_legend (f : Seq → Seq) (s : State) : (modSeq f s).legend = s.legend := rfl
@[simp] theorem modSeq_image (f : Seq → Seq) (s : State) : (modSeq f s).image = s.image := rfl
@[simp] theorem modSeq_safety (f : Seq → Seq) (s : State) : (modSeq f s).safety = s.safety := rfl
@[simp] theorem modSeq_calib (f : Seq → Seq) (s : State) : (modSeq f s).calib = s.calib := rfl
@[simp] theorem modSeq_thermal (f : Seq → Seq) (s : State) : (modSeq f s).thermal = s.thermal := rfl
@[simp] theorem modSeq_aux (f : Seq → Seq) (s : State) : (modSeq f s).aux = s.aux := rfl
@[simp] theorem modSeq_near (f : Seq → Seq) (s : State) : (modSeq f s).near = s.near := rfl
@[simp] theorem modSeq_recd (f : Seq → Seq) (s : State) : (modSeq f s).recd = s.recd := rfl
@[simp] theorem modSeq_dma (f : Seq → Seq) (s : State) : (modSeq f s).dma = s.dma := rfl
@[simp] theorem modSeq_log (f : Seq → Seq) (s : State) : (modSeq f s).log = s.log := rfl
@[simp] theorem modSeq_jtag (f : Seq → Seq) (s : State) : (modSeq f s).jtag = s.jtag := rfl
@[simp] theorem modSeq_seq (f : Seq → Seq) (s : State) : (modSeq f s).seq = f s.seq := rfl

/-! ## modChain -/

@[simp] theorem modChain_pending (f : Chain → Chain) (s : State) : (modChain f s).pending = s.pending := rfl
@[simp] theorem modChain_now (f : Chain → Chain) (s : State) : (modChain f s).now = s.now := rfl
@[simp] theorem modChain_free (f : Chain → Chain) (s : State) : (modChain f s).free = s.free := rfl
@[simp] theorem modChain_phase (f : Chain → Chain) (s : State) : (modChain f s).phase = s.phase := rfl
@[simp] theorem modChain_supply (f : Chain → Chain) (s : State) : (modChain f s).supply = s.supply := rfl
@[simp] theorem modChain_grat (f : Chain → Chain) (s : State) : (modChain f s).grat = s.grat := rfl
@[simp] theorem modChain_motor (f : Chain → Chain) (s : State) : (modChain f s).motor = s.motor := rfl
@[simp] theorem modChain_seq (f : Chain → Chain) (s : State) : (modChain f s).seq = s.seq := rfl
@[simp] theorem modChain_banks (f : Chain → Chain) (s : State) : (modChain f s).banks = s.banks := rfl
@[simp] theorem modChain_pulses (f : Chain → Chain) (s : State) : (modChain f s).pulses = s.pulses := rfl
@[simp] theorem modChain_bias (f : Chain → Chain) (s : State) : (modChain f s).bias = s.bias := rfl
@[simp] theorem modChain_chans (f : Chain → Chain) (s : State) : (modChain f s).chans = s.chans := rfl
@[simp] theorem modChain_amb (f : Chain → Chain) (s : State) : (modChain f s).amb = s.amb := rfl
@[simp] theorem modChain_ambEng (f : Chain → Chain) (s : State) : (modChain f s).ambEng = s.ambEng := rfl
@[simp] theorem modChain_survey (f : Chain → Chain) (s : State) : (modChain f s).survey = s.survey := rfl
@[simp] theorem modChain_contour (f : Chain → Chain) (s : State) : (modChain f s).contour = s.contour := rfl
@[simp] theorem modChain_link (f : Chain → Chain) (s : State) : (modChain f s).link = s.link := rfl
@[simp] theorem modChain_otp (f : Chain → Chain) (s : State) : (modChain f s).otp = s.otp := rfl
@[simp] theorem modChain_sec (f : Chain → Chain) (s : State) : (modChain f s).sec = s.sec := rfl
@[simp] theorem modChain_nor (f : Chain → Chain) (s : State) : (modChain f s).nor = s.nor := rfl
@[simp] theorem modChain_legend (f : Chain → Chain) (s : State) : (modChain f s).legend = s.legend := rfl
@[simp] theorem modChain_image (f : Chain → Chain) (s : State) : (modChain f s).image = s.image := rfl
@[simp] theorem modChain_safety (f : Chain → Chain) (s : State) : (modChain f s).safety = s.safety := rfl
@[simp] theorem modChain_calib (f : Chain → Chain) (s : State) : (modChain f s).calib = s.calib := rfl
@[simp] theorem modChain_thermal (f : Chain → Chain) (s : State) : (modChain f s).thermal = s.thermal := rfl
@[simp] theorem modChain_aux (f : Chain → Chain) (s : State) : (modChain f s).aux = s.aux := rfl
@[simp] theorem modChain_near (f : Chain → Chain) (s : State) : (modChain f s).near = s.near := rfl
@[simp] theorem modChain_recd (f : Chain → Chain) (s : State) : (modChain f s).recd = s.recd := rfl
@[simp] theorem modChain_dma (f : Chain → Chain) (s : State) : (modChain f s).dma = s.dma := rfl
@[simp] theorem modChain_log (f : Chain → Chain) (s : State) : (modChain f s).log = s.log := rfl
@[simp] theorem modChain_jtag (f : Chain → Chain) (s : State) : (modChain f s).jtag = s.jtag := rfl
@[simp] theorem modChain_chain (f : Chain → Chain) (s : State) : (modChain f s).chain = f s.chain := rfl

/-! ## modBias -/

@[simp] theorem modBias_pending (f : Bias → Bias) (s : State) : (modBias f s).pending = s.pending := rfl
@[simp] theorem modBias_now (f : Bias → Bias) (s : State) : (modBias f s).now = s.now := rfl
@[simp] theorem modBias_free (f : Bias → Bias) (s : State) : (modBias f s).free = s.free := rfl
@[simp] theorem modBias_phase (f : Bias → Bias) (s : State) : (modBias f s).phase = s.phase := rfl
@[simp] theorem modBias_supply (f : Bias → Bias) (s : State) : (modBias f s).supply = s.supply := rfl
@[simp] theorem modBias_grat (f : Bias → Bias) (s : State) : (modBias f s).grat = s.grat := rfl
@[simp] theorem modBias_motor (f : Bias → Bias) (s : State) : (modBias f s).motor = s.motor := rfl
@[simp] theorem modBias_seq (f : Bias → Bias) (s : State) : (modBias f s).seq = s.seq := rfl
@[simp] theorem modBias_banks (f : Bias → Bias) (s : State) : (modBias f s).banks = s.banks := rfl
@[simp] theorem modBias_chain (f : Bias → Bias) (s : State) : (modBias f s).chain = s.chain := rfl
@[simp] theorem modBias_pulses (f : Bias → Bias) (s : State) : (modBias f s).pulses = s.pulses := rfl
@[simp] theorem modBias_chans (f : Bias → Bias) (s : State) : (modBias f s).chans = s.chans := rfl
@[simp] theorem modBias_amb (f : Bias → Bias) (s : State) : (modBias f s).amb = s.amb := rfl
@[simp] theorem modBias_ambEng (f : Bias → Bias) (s : State) : (modBias f s).ambEng = s.ambEng := rfl
@[simp] theorem modBias_survey (f : Bias → Bias) (s : State) : (modBias f s).survey = s.survey := rfl
@[simp] theorem modBias_contour (f : Bias → Bias) (s : State) : (modBias f s).contour = s.contour := rfl
@[simp] theorem modBias_link (f : Bias → Bias) (s : State) : (modBias f s).link = s.link := rfl
@[simp] theorem modBias_otp (f : Bias → Bias) (s : State) : (modBias f s).otp = s.otp := rfl
@[simp] theorem modBias_sec (f : Bias → Bias) (s : State) : (modBias f s).sec = s.sec := rfl
@[simp] theorem modBias_nor (f : Bias → Bias) (s : State) : (modBias f s).nor = s.nor := rfl
@[simp] theorem modBias_legend (f : Bias → Bias) (s : State) : (modBias f s).legend = s.legend := rfl
@[simp] theorem modBias_image (f : Bias → Bias) (s : State) : (modBias f s).image = s.image := rfl
@[simp] theorem modBias_safety (f : Bias → Bias) (s : State) : (modBias f s).safety = s.safety := rfl
@[simp] theorem modBias_calib (f : Bias → Bias) (s : State) : (modBias f s).calib = s.calib := rfl
@[simp] theorem modBias_thermal (f : Bias → Bias) (s : State) : (modBias f s).thermal = s.thermal := rfl
@[simp] theorem modBias_aux (f : Bias → Bias) (s : State) : (modBias f s).aux = s.aux := rfl
@[simp] theorem modBias_near (f : Bias → Bias) (s : State) : (modBias f s).near = s.near := rfl
@[simp] theorem modBias_recd (f : Bias → Bias) (s : State) : (modBias f s).recd = s.recd := rfl
@[simp] theorem modBias_dma (f : Bias → Bias) (s : State) : (modBias f s).dma = s.dma := rfl
@[simp] theorem modBias_log (f : Bias → Bias) (s : State) : (modBias f s).log = s.log := rfl
@[simp] theorem modBias_jtag (f : Bias → Bias) (s : State) : (modBias f s).jtag = s.jtag := rfl
@[simp] theorem modBias_bias (f : Bias → Bias) (s : State) : (modBias f s).bias = f s.bias := rfl

/-! ## modSurvey -/

@[simp] theorem modSurvey_pending (f : Survey → Survey) (s : State) : (modSurvey f s).pending = s.pending := rfl
@[simp] theorem modSurvey_now (f : Survey → Survey) (s : State) : (modSurvey f s).now = s.now := rfl
@[simp] theorem modSurvey_free (f : Survey → Survey) (s : State) : (modSurvey f s).free = s.free := rfl
@[simp] theorem modSurvey_phase (f : Survey → Survey) (s : State) : (modSurvey f s).phase = s.phase := rfl
@[simp] theorem modSurvey_supply (f : Survey → Survey) (s : State) : (modSurvey f s).supply = s.supply := rfl
@[simp] theorem modSurvey_grat (f : Survey → Survey) (s : State) : (modSurvey f s).grat = s.grat := rfl
@[simp] theorem modSurvey_motor (f : Survey → Survey) (s : State) : (modSurvey f s).motor = s.motor := rfl
@[simp] theorem modSurvey_seq (f : Survey → Survey) (s : State) : (modSurvey f s).seq = s.seq := rfl
@[simp] theorem modSurvey_banks (f : Survey → Survey) (s : State) : (modSurvey f s).banks = s.banks := rfl
@[simp] theorem modSurvey_chain (f : Survey → Survey) (s : State) : (modSurvey f s).chain = s.chain := rfl
@[simp] theorem modSurvey_pulses (f : Survey → Survey) (s : State) : (modSurvey f s).pulses = s.pulses := rfl
@[simp] theorem modSurvey_bias (f : Survey → Survey) (s : State) : (modSurvey f s).bias = s.bias := rfl
@[simp] theorem modSurvey_chans (f : Survey → Survey) (s : State) : (modSurvey f s).chans = s.chans := rfl
@[simp] theorem modSurvey_amb (f : Survey → Survey) (s : State) : (modSurvey f s).amb = s.amb := rfl
@[simp] theorem modSurvey_ambEng (f : Survey → Survey) (s : State) : (modSurvey f s).ambEng = s.ambEng := rfl
@[simp] theorem modSurvey_contour (f : Survey → Survey) (s : State) : (modSurvey f s).contour = s.contour := rfl
@[simp] theorem modSurvey_link (f : Survey → Survey) (s : State) : (modSurvey f s).link = s.link := rfl
@[simp] theorem modSurvey_otp (f : Survey → Survey) (s : State) : (modSurvey f s).otp = s.otp := rfl
@[simp] theorem modSurvey_sec (f : Survey → Survey) (s : State) : (modSurvey f s).sec = s.sec := rfl
@[simp] theorem modSurvey_nor (f : Survey → Survey) (s : State) : (modSurvey f s).nor = s.nor := rfl
@[simp] theorem modSurvey_legend (f : Survey → Survey) (s : State) : (modSurvey f s).legend = s.legend := rfl
@[simp] theorem modSurvey_image (f : Survey → Survey) (s : State) : (modSurvey f s).image = s.image := rfl
@[simp] theorem modSurvey_safety (f : Survey → Survey) (s : State) : (modSurvey f s).safety = s.safety := rfl
@[simp] theorem modSurvey_calib (f : Survey → Survey) (s : State) : (modSurvey f s).calib = s.calib := rfl
@[simp] theorem modSurvey_thermal (f : Survey → Survey) (s : State) : (modSurvey f s).thermal = s.thermal := rfl
@[simp] theorem modSurvey_aux (f : Survey → Survey) (s : State) : (modSurvey f s).aux = s.aux := rfl
@[simp] theorem modSurvey_near (f : Survey → Survey) (s : State) : (modSurvey f s).near = s.near := rfl
@[simp] theorem modSurvey_recd (f : Survey → Survey) (s : State) : (modSurvey f s).recd = s.recd := rfl
@[simp] theorem modSurvey_dma (f : Survey → Survey) (s : State) : (modSurvey f s).dma = s.dma := rfl
@[simp] theorem modSurvey_log (f : Survey → Survey) (s : State) : (modSurvey f s).log = s.log := rfl
@[simp] theorem modSurvey_jtag (f : Survey → Survey) (s : State) : (modSurvey f s).jtag = s.jtag := rfl
@[simp] theorem modSurvey_survey (f : Survey → Survey) (s : State) : (modSurvey f s).survey = f s.survey := rfl

/-! ## modNor -/

@[simp] theorem modNor_pending (f : Nor → Nor) (s : State) : (modNor f s).pending = s.pending := rfl
@[simp] theorem modNor_now (f : Nor → Nor) (s : State) : (modNor f s).now = s.now := rfl
@[simp] theorem modNor_free (f : Nor → Nor) (s : State) : (modNor f s).free = s.free := rfl
@[simp] theorem modNor_phase (f : Nor → Nor) (s : State) : (modNor f s).phase = s.phase := rfl
@[simp] theorem modNor_supply (f : Nor → Nor) (s : State) : (modNor f s).supply = s.supply := rfl
@[simp] theorem modNor_grat (f : Nor → Nor) (s : State) : (modNor f s).grat = s.grat := rfl
@[simp] theorem modNor_motor (f : Nor → Nor) (s : State) : (modNor f s).motor = s.motor := rfl
@[simp] theorem modNor_seq (f : Nor → Nor) (s : State) : (modNor f s).seq = s.seq := rfl
@[simp] theorem modNor_banks (f : Nor → Nor) (s : State) : (modNor f s).banks = s.banks := rfl
@[simp] theorem modNor_chain (f : Nor → Nor) (s : State) : (modNor f s).chain = s.chain := rfl
@[simp] theorem modNor_pulses (f : Nor → Nor) (s : State) : (modNor f s).pulses = s.pulses := rfl
@[simp] theorem modNor_bias (f : Nor → Nor) (s : State) : (modNor f s).bias = s.bias := rfl
@[simp] theorem modNor_chans (f : Nor → Nor) (s : State) : (modNor f s).chans = s.chans := rfl
@[simp] theorem modNor_amb (f : Nor → Nor) (s : State) : (modNor f s).amb = s.amb := rfl
@[simp] theorem modNor_ambEng (f : Nor → Nor) (s : State) : (modNor f s).ambEng = s.ambEng := rfl
@[simp] theorem modNor_survey (f : Nor → Nor) (s : State) : (modNor f s).survey = s.survey := rfl
@[simp] theorem modNor_contour (f : Nor → Nor) (s : State) : (modNor f s).contour = s.contour := rfl
@[simp] theorem modNor_link (f : Nor → Nor) (s : State) : (modNor f s).link = s.link := rfl
@[simp] theorem modNor_otp (f : Nor → Nor) (s : State) : (modNor f s).otp = s.otp := rfl
@[simp] theorem modNor_sec (f : Nor → Nor) (s : State) : (modNor f s).sec = s.sec := rfl
@[simp] theorem modNor_legend (f : Nor → Nor) (s : State) : (modNor f s).legend = s.legend := rfl
@[simp] theorem modNor_image (f : Nor → Nor) (s : State) : (modNor f s).image = s.image := rfl
@[simp] theorem modNor_safety (f : Nor → Nor) (s : State) : (modNor f s).safety = s.safety := rfl
@[simp] theorem modNor_calib (f : Nor → Nor) (s : State) : (modNor f s).calib = s.calib := rfl
@[simp] theorem modNor_thermal (f : Nor → Nor) (s : State) : (modNor f s).thermal = s.thermal := rfl
@[simp] theorem modNor_aux (f : Nor → Nor) (s : State) : (modNor f s).aux = s.aux := rfl
@[simp] theorem modNor_near (f : Nor → Nor) (s : State) : (modNor f s).near = s.near := rfl
@[simp] theorem modNor_recd (f : Nor → Nor) (s : State) : (modNor f s).recd = s.recd := rfl
@[simp] theorem modNor_dma (f : Nor → Nor) (s : State) : (modNor f s).dma = s.dma := rfl
@[simp] theorem modNor_log (f : Nor → Nor) (s : State) : (modNor f s).log = s.log := rfl
@[simp] theorem modNor_jtag (f : Nor → Nor) (s : State) : (modNor f s).jtag = s.jtag := rfl
@[simp] theorem modNor_nor (f : Nor → Nor) (s : State) : (modNor f s).nor = f s.nor := rfl

/-! ## modThermal -/

@[simp] theorem modThermal_pending (f : Thermal → Thermal) (s : State) : (modThermal f s).pending = s.pending := rfl
@[simp] theorem modThermal_now (f : Thermal → Thermal) (s : State) : (modThermal f s).now = s.now := rfl
@[simp] theorem modThermal_free (f : Thermal → Thermal) (s : State) : (modThermal f s).free = s.free := rfl
@[simp] theorem modThermal_phase (f : Thermal → Thermal) (s : State) : (modThermal f s).phase = s.phase := rfl
@[simp] theorem modThermal_supply (f : Thermal → Thermal) (s : State) : (modThermal f s).supply = s.supply := rfl
@[simp] theorem modThermal_grat (f : Thermal → Thermal) (s : State) : (modThermal f s).grat = s.grat := rfl
@[simp] theorem modThermal_motor (f : Thermal → Thermal) (s : State) : (modThermal f s).motor = s.motor := rfl
@[simp] theorem modThermal_seq (f : Thermal → Thermal) (s : State) : (modThermal f s).seq = s.seq := rfl
@[simp] theorem modThermal_banks (f : Thermal → Thermal) (s : State) : (modThermal f s).banks = s.banks := rfl
@[simp] theorem modThermal_chain (f : Thermal → Thermal) (s : State) : (modThermal f s).chain = s.chain := rfl
@[simp] theorem modThermal_pulses (f : Thermal → Thermal) (s : State) : (modThermal f s).pulses = s.pulses := rfl
@[simp] theorem modThermal_bias (f : Thermal → Thermal) (s : State) : (modThermal f s).bias = s.bias := rfl
@[simp] theorem modThermal_chans (f : Thermal → Thermal) (s : State) : (modThermal f s).chans = s.chans := rfl
@[simp] theorem modThermal_amb (f : Thermal → Thermal) (s : State) : (modThermal f s).amb = s.amb := rfl
@[simp] theorem modThermal_ambEng (f : Thermal → Thermal) (s : State) : (modThermal f s).ambEng = s.ambEng := rfl
@[simp] theorem modThermal_survey (f : Thermal → Thermal) (s : State) : (modThermal f s).survey = s.survey := rfl
@[simp] theorem modThermal_contour (f : Thermal → Thermal) (s : State) : (modThermal f s).contour = s.contour := rfl
@[simp] theorem modThermal_link (f : Thermal → Thermal) (s : State) : (modThermal f s).link = s.link := rfl
@[simp] theorem modThermal_otp (f : Thermal → Thermal) (s : State) : (modThermal f s).otp = s.otp := rfl
@[simp] theorem modThermal_sec (f : Thermal → Thermal) (s : State) : (modThermal f s).sec = s.sec := rfl
@[simp] theorem modThermal_nor (f : Thermal → Thermal) (s : State) : (modThermal f s).nor = s.nor := rfl
@[simp] theorem modThermal_legend (f : Thermal → Thermal) (s : State) : (modThermal f s).legend = s.legend := rfl
@[simp] theorem modThermal_image (f : Thermal → Thermal) (s : State) : (modThermal f s).image = s.image := rfl
@[simp] theorem modThermal_safety (f : Thermal → Thermal) (s : State) : (modThermal f s).safety = s.safety := rfl
@[simp] theorem modThermal_calib (f : Thermal → Thermal) (s : State) : (modThermal f s).calib = s.calib := rfl
@[simp] theorem modThermal_aux (f : Thermal → Thermal) (s : State) : (modThermal f s).aux = s.aux := rfl
@[simp] theorem modThermal_near (f : Thermal → Thermal) (s : State) : (modThermal f s).near = s.near := rfl
@[simp] theorem modThermal_recd (f : Thermal → Thermal) (s : State) : (modThermal f s).recd = s.recd := rfl
@[simp] theorem modThermal_dma (f : Thermal → Thermal) (s : State) : (modThermal f s).dma = s.dma := rfl
@[simp] theorem modThermal_log (f : Thermal → Thermal) (s : State) : (modThermal f s).log = s.log := rfl
@[simp] theorem modThermal_jtag (f : Thermal → Thermal) (s : State) : (modThermal f s).jtag = s.jtag := rfl
@[simp] theorem modThermal_thermal (f : Thermal → Thermal) (s : State) : (modThermal f s).thermal = f s.thermal := rfl

/-! ## modAux -/

@[simp] theorem modAux_pending (f : Aux → Aux) (s : State) : (modAux f s).pending = s.pending := rfl
@[simp] theorem modAux_now (f : Aux → Aux) (s : State) : (modAux f s).now = s.now := rfl
@[simp] theorem modAux_free (f : Aux → Aux) (s : State) : (modAux f s).free = s.free := rfl
@[simp] theorem modAux_phase (f : Aux → Aux) (s : State) : (modAux f s).phase = s.phase := rfl
@[simp] theorem modAux_supply (f : Aux → Aux) (s : State) : (modAux f s).supply = s.supply := rfl
@[simp] theorem modAux_grat (f : Aux → Aux) (s : State) : (modAux f s).grat = s.grat := rfl
@[simp] theorem modAux_motor (f : Aux → Aux) (s : State) : (modAux f s).motor = s.motor := rfl
@[simp] theorem modAux_seq (f : Aux → Aux) (s : State) : (modAux f s).seq = s.seq := rfl
@[simp] theorem modAux_banks (f : Aux → Aux) (s : State) : (modAux f s).banks = s.banks := rfl
@[simp] theorem modAux_chain (f : Aux → Aux) (s : State) : (modAux f s).chain = s.chain := rfl
@[simp] theorem modAux_pulses (f : Aux → Aux) (s : State) : (modAux f s).pulses = s.pulses := rfl
@[simp] theorem modAux_bias (f : Aux → Aux) (s : State) : (modAux f s).bias = s.bias := rfl
@[simp] theorem modAux_chans (f : Aux → Aux) (s : State) : (modAux f s).chans = s.chans := rfl
@[simp] theorem modAux_amb (f : Aux → Aux) (s : State) : (modAux f s).amb = s.amb := rfl
@[simp] theorem modAux_ambEng (f : Aux → Aux) (s : State) : (modAux f s).ambEng = s.ambEng := rfl
@[simp] theorem modAux_survey (f : Aux → Aux) (s : State) : (modAux f s).survey = s.survey := rfl
@[simp] theorem modAux_contour (f : Aux → Aux) (s : State) : (modAux f s).contour = s.contour := rfl
@[simp] theorem modAux_link (f : Aux → Aux) (s : State) : (modAux f s).link = s.link := rfl
@[simp] theorem modAux_otp (f : Aux → Aux) (s : State) : (modAux f s).otp = s.otp := rfl
@[simp] theorem modAux_sec (f : Aux → Aux) (s : State) : (modAux f s).sec = s.sec := rfl
@[simp] theorem modAux_nor (f : Aux → Aux) (s : State) : (modAux f s).nor = s.nor := rfl
@[simp] theorem modAux_legend (f : Aux → Aux) (s : State) : (modAux f s).legend = s.legend := rfl
@[simp] theorem modAux_image (f : Aux → Aux) (s : State) : (modAux f s).image = s.image := rfl
@[simp] theorem modAux_safety (f : Aux → Aux) (s : State) : (modAux f s).safety = s.safety := rfl
@[simp] theorem modAux_calib (f : Aux → Aux) (s : State) : (modAux f s).calib = s.calib := rfl
@[simp] theorem modAux_thermal (f : Aux → Aux) (s : State) : (modAux f s).thermal = s.thermal := rfl
@[simp] theorem modAux_near (f : Aux → Aux) (s : State) : (modAux f s).near = s.near := rfl
@[simp] theorem modAux_recd (f : Aux → Aux) (s : State) : (modAux f s).recd = s.recd := rfl
@[simp] theorem modAux_dma (f : Aux → Aux) (s : State) : (modAux f s).dma = s.dma := rfl
@[simp] theorem modAux_log (f : Aux → Aux) (s : State) : (modAux f s).log = s.log := rfl
@[simp] theorem modAux_jtag (f : Aux → Aux) (s : State) : (modAux f s).jtag = s.jtag := rfl
@[simp] theorem modAux_aux (f : Aux → Aux) (s : State) : (modAux f s).aux = f s.aux := rfl

/-! ## modNear -/

@[simp] theorem modNear_pending (f : NearDist → NearDist) (s : State) : (modNear f s).pending = s.pending := rfl
@[simp] theorem modNear_now (f : NearDist → NearDist) (s : State) : (modNear f s).now = s.now := rfl
@[simp] theorem modNear_free (f : NearDist → NearDist) (s : State) : (modNear f s).free = s.free := rfl
@[simp] theorem modNear_phase (f : NearDist → NearDist) (s : State) : (modNear f s).phase = s.phase := rfl
@[simp] theorem modNear_supply (f : NearDist → NearDist) (s : State) : (modNear f s).supply = s.supply := rfl
@[simp] theorem modNear_grat (f : NearDist → NearDist) (s : State) : (modNear f s).grat = s.grat := rfl
@[simp] theorem modNear_motor (f : NearDist → NearDist) (s : State) : (modNear f s).motor = s.motor := rfl
@[simp] theorem modNear_seq (f : NearDist → NearDist) (s : State) : (modNear f s).seq = s.seq := rfl
@[simp] theorem modNear_banks (f : NearDist → NearDist) (s : State) : (modNear f s).banks = s.banks := rfl
@[simp] theorem modNear_chain (f : NearDist → NearDist) (s : State) : (modNear f s).chain = s.chain := rfl
@[simp] theorem modNear_pulses (f : NearDist → NearDist) (s : State) : (modNear f s).pulses = s.pulses := rfl
@[simp] theorem modNear_bias (f : NearDist → NearDist) (s : State) : (modNear f s).bias = s.bias := rfl
@[simp] theorem modNear_chans (f : NearDist → NearDist) (s : State) : (modNear f s).chans = s.chans := rfl
@[simp] theorem modNear_amb (f : NearDist → NearDist) (s : State) : (modNear f s).amb = s.amb := rfl
@[simp] theorem modNear_ambEng (f : NearDist → NearDist) (s : State) : (modNear f s).ambEng = s.ambEng := rfl
@[simp] theorem modNear_survey (f : NearDist → NearDist) (s : State) : (modNear f s).survey = s.survey := rfl
@[simp] theorem modNear_contour (f : NearDist → NearDist) (s : State) : (modNear f s).contour = s.contour := rfl
@[simp] theorem modNear_link (f : NearDist → NearDist) (s : State) : (modNear f s).link = s.link := rfl
@[simp] theorem modNear_otp (f : NearDist → NearDist) (s : State) : (modNear f s).otp = s.otp := rfl
@[simp] theorem modNear_sec (f : NearDist → NearDist) (s : State) : (modNear f s).sec = s.sec := rfl
@[simp] theorem modNear_nor (f : NearDist → NearDist) (s : State) : (modNear f s).nor = s.nor := rfl
@[simp] theorem modNear_legend (f : NearDist → NearDist) (s : State) : (modNear f s).legend = s.legend := rfl
@[simp] theorem modNear_image (f : NearDist → NearDist) (s : State) : (modNear f s).image = s.image := rfl
@[simp] theorem modNear_safety (f : NearDist → NearDist) (s : State) : (modNear f s).safety = s.safety := rfl
@[simp] theorem modNear_calib (f : NearDist → NearDist) (s : State) : (modNear f s).calib = s.calib := rfl
@[simp] theorem modNear_thermal (f : NearDist → NearDist) (s : State) : (modNear f s).thermal = s.thermal := rfl
@[simp] theorem modNear_aux (f : NearDist → NearDist) (s : State) : (modNear f s).aux = s.aux := rfl
@[simp] theorem modNear_recd (f : NearDist → NearDist) (s : State) : (modNear f s).recd = s.recd := rfl
@[simp] theorem modNear_dma (f : NearDist → NearDist) (s : State) : (modNear f s).dma = s.dma := rfl
@[simp] theorem modNear_log (f : NearDist → NearDist) (s : State) : (modNear f s).log = s.log := rfl
@[simp] theorem modNear_jtag (f : NearDist → NearDist) (s : State) : (modNear f s).jtag = s.jtag := rfl
@[simp] theorem modNear_near (f : NearDist → NearDist) (s : State) : (modNear f s).near = f s.near := rfl

/-! ## modSec -/

@[simp] theorem modSec_pending (f : Security → Security) (s : State) : (modSec f s).pending = s.pending := rfl
@[simp] theorem modSec_now (f : Security → Security) (s : State) : (modSec f s).now = s.now := rfl
@[simp] theorem modSec_free (f : Security → Security) (s : State) : (modSec f s).free = s.free := rfl
@[simp] theorem modSec_phase (f : Security → Security) (s : State) : (modSec f s).phase = s.phase := rfl
@[simp] theorem modSec_supply (f : Security → Security) (s : State) : (modSec f s).supply = s.supply := rfl
@[simp] theorem modSec_grat (f : Security → Security) (s : State) : (modSec f s).grat = s.grat := rfl
@[simp] theorem modSec_motor (f : Security → Security) (s : State) : (modSec f s).motor = s.motor := rfl
@[simp] theorem modSec_seq (f : Security → Security) (s : State) : (modSec f s).seq = s.seq := rfl
@[simp] theorem modSec_banks (f : Security → Security) (s : State) : (modSec f s).banks = s.banks := rfl
@[simp] theorem modSec_chain (f : Security → Security) (s : State) : (modSec f s).chain = s.chain := rfl
@[simp] theorem modSec_pulses (f : Security → Security) (s : State) : (modSec f s).pulses = s.pulses := rfl
@[simp] theorem modSec_bias (f : Security → Security) (s : State) : (modSec f s).bias = s.bias := rfl
@[simp] theorem modSec_chans (f : Security → Security) (s : State) : (modSec f s).chans = s.chans := rfl
@[simp] theorem modSec_amb (f : Security → Security) (s : State) : (modSec f s).amb = s.amb := rfl
@[simp] theorem modSec_ambEng (f : Security → Security) (s : State) : (modSec f s).ambEng = s.ambEng := rfl
@[simp] theorem modSec_survey (f : Security → Security) (s : State) : (modSec f s).survey = s.survey := rfl
@[simp] theorem modSec_contour (f : Security → Security) (s : State) : (modSec f s).contour = s.contour := rfl
@[simp] theorem modSec_link (f : Security → Security) (s : State) : (modSec f s).link = s.link := rfl
@[simp] theorem modSec_otp (f : Security → Security) (s : State) : (modSec f s).otp = s.otp := rfl
@[simp] theorem modSec_nor (f : Security → Security) (s : State) : (modSec f s).nor = s.nor := rfl
@[simp] theorem modSec_legend (f : Security → Security) (s : State) : (modSec f s).legend = s.legend := rfl
@[simp] theorem modSec_image (f : Security → Security) (s : State) : (modSec f s).image = s.image := rfl
@[simp] theorem modSec_safety (f : Security → Security) (s : State) : (modSec f s).safety = s.safety := rfl
@[simp] theorem modSec_calib (f : Security → Security) (s : State) : (modSec f s).calib = s.calib := rfl
@[simp] theorem modSec_thermal (f : Security → Security) (s : State) : (modSec f s).thermal = s.thermal := rfl
@[simp] theorem modSec_aux (f : Security → Security) (s : State) : (modSec f s).aux = s.aux := rfl
@[simp] theorem modSec_near (f : Security → Security) (s : State) : (modSec f s).near = s.near := rfl
@[simp] theorem modSec_recd (f : Security → Security) (s : State) : (modSec f s).recd = s.recd := rfl
@[simp] theorem modSec_dma (f : Security → Security) (s : State) : (modSec f s).dma = s.dma := rfl
@[simp] theorem modSec_log (f : Security → Security) (s : State) : (modSec f s).log = s.log := rfl
@[simp] theorem modSec_jtag (f : Security → Security) (s : State) : (modSec f s).jtag = s.jtag := rfl
@[simp] theorem modSec_sec (f : Security → Security) (s : State) : (modSec f s).sec = f s.sec := rfl

/-! ## modContour -/

@[simp] theorem modContour_pending (f : Contour → Contour) (s : State) : (modContour f s).pending = s.pending := rfl
@[simp] theorem modContour_now (f : Contour → Contour) (s : State) : (modContour f s).now = s.now := rfl
@[simp] theorem modContour_free (f : Contour → Contour) (s : State) : (modContour f s).free = s.free := rfl
@[simp] theorem modContour_phase (f : Contour → Contour) (s : State) : (modContour f s).phase = s.phase := rfl
@[simp] theorem modContour_supply (f : Contour → Contour) (s : State) : (modContour f s).supply = s.supply := rfl
@[simp] theorem modContour_grat (f : Contour → Contour) (s : State) : (modContour f s).grat = s.grat := rfl
@[simp] theorem modContour_motor (f : Contour → Contour) (s : State) : (modContour f s).motor = s.motor := rfl
@[simp] theorem modContour_seq (f : Contour → Contour) (s : State) : (modContour f s).seq = s.seq := rfl
@[simp] theorem modContour_banks (f : Contour → Contour) (s : State) : (modContour f s).banks = s.banks := rfl
@[simp] theorem modContour_chain (f : Contour → Contour) (s : State) : (modContour f s).chain = s.chain := rfl
@[simp] theorem modContour_pulses (f : Contour → Contour) (s : State) : (modContour f s).pulses = s.pulses := rfl
@[simp] theorem modContour_bias (f : Contour → Contour) (s : State) : (modContour f s).bias = s.bias := rfl
@[simp] theorem modContour_chans (f : Contour → Contour) (s : State) : (modContour f s).chans = s.chans := rfl
@[simp] theorem modContour_amb (f : Contour → Contour) (s : State) : (modContour f s).amb = s.amb := rfl
@[simp] theorem modContour_ambEng (f : Contour → Contour) (s : State) : (modContour f s).ambEng = s.ambEng := rfl
@[simp] theorem modContour_survey (f : Contour → Contour) (s : State) : (modContour f s).survey = s.survey := rfl
@[simp] theorem modContour_link (f : Contour → Contour) (s : State) : (modContour f s).link = s.link := rfl
@[simp] theorem modContour_otp (f : Contour → Contour) (s : State) : (modContour f s).otp = s.otp := rfl
@[simp] theorem modContour_sec (f : Contour → Contour) (s : State) : (modContour f s).sec = s.sec := rfl
@[simp] theorem modContour_nor (f : Contour → Contour) (s : State) : (modContour f s).nor = s.nor := rfl
@[simp] theorem modContour_legend (f : Contour → Contour) (s : State) : (modContour f s).legend = s.legend := rfl
@[simp] theorem modContour_image (f : Contour → Contour) (s : State) : (modContour f s).image = s.image := rfl
@[simp] theorem modContour_safety (f : Contour → Contour) (s : State) : (modContour f s).safety = s.safety := rfl
@[simp] theorem modContour_calib (f : Contour → Contour) (s : State) : (modContour f s).calib = s.calib := rfl
@[simp] theorem modContour_thermal (f : Contour → Contour) (s : State) : (modContour f s).thermal = s.thermal := rfl
@[simp] theorem modContour_aux (f : Contour → Contour) (s : State) : (modContour f s).aux = s.aux := rfl
@[simp] theorem modContour_near (f : Contour → Contour) (s : State) : (modContour f s).near = s.near := rfl
@[simp] theorem modContour_recd (f : Contour → Contour) (s : State) : (modContour f s).recd = s.recd := rfl
@[simp] theorem modContour_dma (f : Contour → Contour) (s : State) : (modContour f s).dma = s.dma := rfl
@[simp] theorem modContour_log (f : Contour → Contour) (s : State) : (modContour f s).log = s.log := rfl
@[simp] theorem modContour_jtag (f : Contour → Contour) (s : State) : (modContour f s).jtag = s.jtag := rfl
@[simp] theorem modContour_contour (f : Contour → Contour) (s : State) : (modContour f s).contour = f s.contour := rfl

/-! ## modRec -/

@[simp] theorem modRec_pending (f : Recorder → Recorder) (s : State) : (modRec f s).pending = s.pending := rfl
@[simp] theorem modRec_now (f : Recorder → Recorder) (s : State) : (modRec f s).now = s.now := rfl
@[simp] theorem modRec_free (f : Recorder → Recorder) (s : State) : (modRec f s).free = s.free := rfl
@[simp] theorem modRec_phase (f : Recorder → Recorder) (s : State) : (modRec f s).phase = s.phase := rfl
@[simp] theorem modRec_supply (f : Recorder → Recorder) (s : State) : (modRec f s).supply = s.supply := rfl
@[simp] theorem modRec_grat (f : Recorder → Recorder) (s : State) : (modRec f s).grat = s.grat := rfl
@[simp] theorem modRec_motor (f : Recorder → Recorder) (s : State) : (modRec f s).motor = s.motor := rfl
@[simp] theorem modRec_seq (f : Recorder → Recorder) (s : State) : (modRec f s).seq = s.seq := rfl
@[simp] theorem modRec_banks (f : Recorder → Recorder) (s : State) : (modRec f s).banks = s.banks := rfl
@[simp] theorem modRec_chain (f : Recorder → Recorder) (s : State) : (modRec f s).chain = s.chain := rfl
@[simp] theorem modRec_pulses (f : Recorder → Recorder) (s : State) : (modRec f s).pulses = s.pulses := rfl
@[simp] theorem modRec_bias (f : Recorder → Recorder) (s : State) : (modRec f s).bias = s.bias := rfl
@[simp] theorem modRec_chans (f : Recorder → Recorder) (s : State) : (modRec f s).chans = s.chans := rfl
@[simp] theorem modRec_amb (f : Recorder → Recorder) (s : State) : (modRec f s).amb = s.amb := rfl
@[simp] theorem modRec_ambEng (f : Recorder → Recorder) (s : State) : (modRec f s).ambEng = s.ambEng := rfl
@[simp] theorem modRec_survey (f : Recorder → Recorder) (s : State) : (modRec f s).survey = s.survey := rfl
@[simp] theorem modRec_contour (f : Recorder → Recorder) (s : State) : (modRec f s).contour = s.contour := rfl
@[simp] theorem modRec_link (f : Recorder → Recorder) (s : State) : (modRec f s).link = s.link := rfl
@[simp] theorem modRec_otp (f : Recorder → Recorder) (s : State) : (modRec f s).otp = s.otp := rfl
@[simp] theorem modRec_sec (f : Recorder → Recorder) (s : State) : (modRec f s).sec = s.sec := rfl
@[simp] theorem modRec_nor (f : Recorder → Recorder) (s : State) : (modRec f s).nor = s.nor := rfl
@[simp] theorem modRec_legend (f : Recorder → Recorder) (s : State) : (modRec f s).legend = s.legend := rfl
@[simp] theorem modRec_image (f : Recorder → Recorder) (s : State) : (modRec f s).image = s.image := rfl
@[simp] theorem modRec_safety (f : Recorder → Recorder) (s : State) : (modRec f s).safety = s.safety := rfl
@[simp] theorem modRec_calib (f : Recorder → Recorder) (s : State) : (modRec f s).calib = s.calib := rfl
@[simp] theorem modRec_thermal (f : Recorder → Recorder) (s : State) : (modRec f s).thermal = s.thermal := rfl
@[simp] theorem modRec_aux (f : Recorder → Recorder) (s : State) : (modRec f s).aux = s.aux := rfl
@[simp] theorem modRec_near (f : Recorder → Recorder) (s : State) : (modRec f s).near = s.near := rfl
@[simp] theorem modRec_dma (f : Recorder → Recorder) (s : State) : (modRec f s).dma = s.dma := rfl
@[simp] theorem modRec_log (f : Recorder → Recorder) (s : State) : (modRec f s).log = s.log := rfl
@[simp] theorem modRec_jtag (f : Recorder → Recorder) (s : State) : (modRec f s).jtag = s.jtag := rfl
@[simp] theorem modRec_recd (f : Recorder → Recorder) (s : State) : (modRec f s).recd = f s.recd := rfl

/-! ## modCalib -/

@[simp] theorem modCalib_pending (f : Calib → Calib) (s : State) : (modCalib f s).pending = s.pending := rfl
@[simp] theorem modCalib_now (f : Calib → Calib) (s : State) : (modCalib f s).now = s.now := rfl
@[simp] theorem modCalib_free (f : Calib → Calib) (s : State) : (modCalib f s).free = s.free := rfl
@[simp] theorem modCalib_phase (f : Calib → Calib) (s : State) : (modCalib f s).phase = s.phase := rfl
@[simp] theorem modCalib_supply (f : Calib → Calib) (s : State) : (modCalib f s).supply = s.supply := rfl
@[simp] theorem modCalib_grat (f : Calib → Calib) (s : State) : (modCalib f s).grat = s.grat := rfl
@[simp] theorem modCalib_motor (f : Calib → Calib) (s : State) : (modCalib f s).motor = s.motor := rfl
@[simp] theorem modCalib_seq (f : Calib → Calib) (s : State) : (modCalib f s).seq = s.seq := rfl
@[simp] theorem modCalib_banks (f : Calib → Calib) (s : State) : (modCalib f s).banks = s.banks := rfl
@[simp] theorem modCalib_chain (f : Calib → Calib) (s : State) : (modCalib f s).chain = s.chain := rfl
@[simp] theorem modCalib_pulses (f : Calib → Calib) (s : State) : (modCalib f s).pulses = s.pulses := rfl
@[simp] theorem modCalib_bias (f : Calib → Calib) (s : State) : (modCalib f s).bias = s.bias := rfl
@[simp] theorem modCalib_chans (f : Calib → Calib) (s : State) : (modCalib f s).chans = s.chans := rfl
@[simp] theorem modCalib_amb (f : Calib → Calib) (s : State) : (modCalib f s).amb = s.amb := rfl
@[simp] theorem modCalib_ambEng (f : Calib → Calib) (s : State) : (modCalib f s).ambEng = s.ambEng := rfl
@[simp] theorem modCalib_survey (f : Calib → Calib) (s : State) : (modCalib f s).survey = s.survey := rfl
@[simp] theorem modCalib_contour (f : Calib → Calib) (s : State) : (modCalib f s).contour = s.contour := rfl
@[simp] theorem modCalib_link (f : Calib → Calib) (s : State) : (modCalib f s).link = s.link := rfl
@[simp] theorem modCalib_otp (f : Calib → Calib) (s : State) : (modCalib f s).otp = s.otp := rfl
@[simp] theorem modCalib_sec (f : Calib → Calib) (s : State) : (modCalib f s).sec = s.sec := rfl
@[simp] theorem modCalib_nor (f : Calib → Calib) (s : State) : (modCalib f s).nor = s.nor := rfl
@[simp] theorem modCalib_legend (f : Calib → Calib) (s : State) : (modCalib f s).legend = s.legend := rfl
@[simp] theorem modCalib_image (f : Calib → Calib) (s : State) : (modCalib f s).image = s.image := rfl
@[simp] theorem modCalib_safety (f : Calib → Calib) (s : State) : (modCalib f s).safety = s.safety := rfl
@[simp] theorem modCalib_thermal (f : Calib → Calib) (s : State) : (modCalib f s).thermal = s.thermal := rfl
@[simp] theorem modCalib_aux (f : Calib → Calib) (s : State) : (modCalib f s).aux = s.aux := rfl
@[simp] theorem modCalib_near (f : Calib → Calib) (s : State) : (modCalib f s).near = s.near := rfl
@[simp] theorem modCalib_recd (f : Calib → Calib) (s : State) : (modCalib f s).recd = s.recd := rfl
@[simp] theorem modCalib_dma (f : Calib → Calib) (s : State) : (modCalib f s).dma = s.dma := rfl
@[simp] theorem modCalib_log (f : Calib → Calib) (s : State) : (modCalib f s).log = s.log := rfl
@[simp] theorem modCalib_jtag (f : Calib → Calib) (s : State) : (modCalib f s).jtag = s.jtag := rfl
@[simp] theorem modCalib_calib (f : Calib → Calib) (s : State) : (modCalib f s).calib = f s.calib := rfl

/-! ## watchSafety: only the log and the device message asked for differ from what it runs -/

@[simp] theorem watchSafety_pending (f : State → State) (s : State) : (watchSafety f s).pending = (f s).pending := by
  unfold watchSafety; dsimp only; split
  · rfl
  · rw [logEvent_pending]
@[simp] theorem watchSafety_now (f : State → State) (s : State) : (watchSafety f s).now = (f s).now := by
  unfold watchSafety; dsimp only; split
  · rfl
  · rw [logEvent_now]
@[simp] theorem watchSafety_free (f : State → State) (s : State) : (watchSafety f s).free = (f s).free := by
  unfold watchSafety; dsimp only; split
  · rfl
  · rw [logEvent_free]
@[simp] theorem watchSafety_phase (f : State → State) (s : State) : (watchSafety f s).phase = (f s).phase := by
  unfold watchSafety; dsimp only; split
  · rfl
  · rw [logEvent_phase]
@[simp] theorem watchSafety_supply (f : State → State) (s : State) : (watchSafety f s).supply = (f s).supply := by
  unfold watchSafety; dsimp only; split
  · rfl
  · rw [logEvent_supply]
@[simp] theorem watchSafety_grat (f : State → State) (s : State) : (watchSafety f s).grat = (f s).grat := by
  unfold watchSafety; dsimp only; split
  · rfl
  · rw [logEvent_grat]
@[simp] theorem watchSafety_motor (f : State → State) (s : State) : (watchSafety f s).motor = (f s).motor := by
  unfold watchSafety; dsimp only; split
  · rfl
  · rw [logEvent_motor]
@[simp] theorem watchSafety_seq (f : State → State) (s : State) : (watchSafety f s).seq = (f s).seq := by
  unfold watchSafety; dsimp only; split
  · rfl
  · rw [logEvent_seq]
@[simp] theorem watchSafety_banks (f : State → State) (s : State) : (watchSafety f s).banks = (f s).banks := by
  unfold watchSafety; dsimp only; split
  · rfl
  · rw [logEvent_banks]
@[simp] theorem watchSafety_chain (f : State → State) (s : State) : (watchSafety f s).chain = (f s).chain := by
  unfold watchSafety; dsimp only; split
  · rfl
  · rw [logEvent_chain]
@[simp] theorem watchSafety_pulses (f : State → State) (s : State) : (watchSafety f s).pulses = (f s).pulses := by
  unfold watchSafety; dsimp only; split
  · rfl
  · rw [logEvent_pulses]
@[simp] theorem watchSafety_bias (f : State → State) (s : State) : (watchSafety f s).bias = (f s).bias := by
  unfold watchSafety; dsimp only; split
  · rfl
  · rw [logEvent_bias]
@[simp] theorem watchSafety_chans (f : State → State) (s : State) : (watchSafety f s).chans = (f s).chans := by
  unfold watchSafety; dsimp only; split
  · rfl
  · rw [logEvent_chans]
@[simp] theorem watchSafety_amb (f : State → State) (s : State) : (watchSafety f s).amb = (f s).amb := by
  unfold watchSafety; dsimp only; split
  · rfl
  · rw [logEvent_amb]
@[simp] theorem watchSafety_ambEng (f : State → State) (s : State) : (watchSafety f s).ambEng = (f s).ambEng := by
  unfold watchSafety; dsimp only; split
  · rfl
  · rw [logEvent_ambEng]
@[simp] theorem watchSafety_survey (f : State → State) (s : State) : (watchSafety f s).survey = (f s).survey := by
  unfold watchSafety; dsimp only; split
  · rfl
  · rw [logEvent_survey]
@[simp] theorem watchSafety_contour (f : State → State) (s : State) : (watchSafety f s).contour = (f s).contour := by
  unfold watchSafety; dsimp only; split
  · rfl
  · rw [logEvent_contour]
@[simp] theorem watchSafety_link (f : State → State) (s : State) : (watchSafety f s).link = (f s).link := by
  unfold watchSafety; dsimp only; split
  · rfl
  · rw [logEvent_link]
@[simp] theorem watchSafety_otp (f : State → State) (s : State) : (watchSafety f s).otp = (f s).otp := by
  unfold watchSafety; dsimp only; split
  · rfl
  · rw [logEvent_otp]
@[simp] theorem watchSafety_sec (f : State → State) (s : State) : (watchSafety f s).sec = (f s).sec := by
  unfold watchSafety; dsimp only; split
  · rfl
  · rw [logEvent_sec]
@[simp] theorem watchSafety_nor (f : State → State) (s : State) : (watchSafety f s).nor = (f s).nor := by
  unfold watchSafety; dsimp only; split
  · rfl
  · rw [logEvent_nor]
@[simp] theorem watchSafety_legend (f : State → State) (s : State) : (watchSafety f s).legend = (f s).legend := by
  unfold watchSafety; dsimp only; split
  · rfl
  · rw [logEvent_legend]
@[simp] theorem watchSafety_image (f : State → State) (s : State) : (watchSafety f s).image = (f s).image := by
  unfold watchSafety; dsimp only; split
  · rfl
  · rw [logEvent_image]
@[simp] theorem watchSafety_calib (f : State → State) (s : State) : (watchSafety f s).calib = (f s).calib := by
  unfold watchSafety; dsimp only; split
  · rfl
  · rw [logEvent_calib]
@[simp] theorem watchSafety_thermal (f : State → State) (s : State) : (watchSafety f s).thermal = (f s).thermal := by
  unfold watchSafety; dsimp only; split
  · rfl
  · rw [logEvent_thermal]
@[simp] theorem watchSafety_aux (f : State → State) (s : State) : (watchSafety f s).aux = (f s).aux := by
  unfold watchSafety; dsimp only; split
  · rfl
  · rw [logEvent_aux]
@[simp] theorem watchSafety_near (f : State → State) (s : State) : (watchSafety f s).near = (f s).near := by
  unfold watchSafety; dsimp only; split
  · rfl
  · rw [logEvent_near]
@[simp] theorem watchSafety_recd (f : State → State) (s : State) : (watchSafety f s).recd = (f s).recd := by
  unfold watchSafety; dsimp only; split
  · rfl
  · rw [logEvent_recd]
@[simp] theorem watchSafety_dma (f : State → State) (s : State) : (watchSafety f s).dma = (f s).dma := by
  unfold watchSafety; dsimp only; split
  · rfl
  · rw [logEvent_dma]
@[simp] theorem watchSafety_jtag (f : State → State) (s : State) : (watchSafety f s).jtag = (f s).jtag := by
  unfold watchSafety; dsimp only; split
  · rfl
  · rw [logEvent_jtag]

/-! ## when_ and need -/

@[simp] theorem when_true (f : State → State) (s : State) : when_ true f s = f s := rfl
@[simp] theorem when_false (f : State → State) (s : State) : when_ false f s = s := rfl
@[simp] theorem need_true (t : State) : need true t = .next t := rfl
@[simp] theorem need_false (t : State) : need false t = .fault .noSuchUnit := rfl
/-- A guarded meaning answers a next state exactly when its guard holds. -/
theorem need_eq_next (c : Bool) (t u : State) : need c t = .next u ↔ c = true ∧ t = u := by
  cases c <;> simp [need]

/-! ## Sides -/

@[simp] theorem sideOf_setSide_same (d : Side) (v : SafeCh) (s : State) : sideOf (setSide d v s) d = v := by
  cases d <;> rfl
@[simp] theorem sideOf_setSide_other (d : Side) (v : SafeCh) (s : State) :
    sideOf (setSide d v s) (otherSide d) = sideOf s (otherSide d) := by
  cases d <;> rfl
@[simp] theorem sideOf_modSide_same (d : Side) (f : SafeCh → SafeCh) (s : State) :
    sideOf (modSide d f s) d = f (sideOf s d) := by
  cases d <;> rfl
@[simp] theorem sideOf_modSide_other (d : Side) (f : SafeCh → SafeCh) (s : State) :
    sideOf (modSide d f s) (otherSide d) = sideOf s (otherSide d) := by
  cases d <;> rfl
/-- Watching the safety status word changes no channel. -/
@[simp] theorem sideOf_watchSafety (f : State → State) (s : State) (d : Side) :
    sideOf (watchSafety f s) d = sideOf (f s) d := by
  unfold watchSafety; dsimp only; split
  · rfl
  · cases d <;> simp [sideOf]

end Sys2Proof.Laws
end

