-- ==== Sys2Proof/Laws/Time.lean ====
section
/-! SUPPORT. What the passing of time leaves of the Graticule, and the instant it reaches. -/

namespace Sys2Proof.Machine

open Sys2Proof

/-- `dt` taps later. -/
@[simp] theorem advance_now (dt : Nat) (s : State) : (advance dt s).now = s.now + dt := by
  unfold advance; split <;> [rfl; (split <;> rfl)]

@[simp] theorem advance_grat_st (dt : Nat) (s : State) : (advance dt s).grat.st = s.grat.st := by
  unfold advance; split <;> [rfl; (split <;> rfl)]
@[simp] theorem advance_grat_crystal (dt : Nat) (s : State) : (advance dt s).grat.crystal = s.grat.crystal := by
  unfold advance; split <;> [rfl; (split <;> rfl)]
@[simp] theorem advance_grat_freq (dt : Nat) (s : State) : (advance dt s).grat.freq = s.grat.freq := by
  unfold advance; split <;> [rfl; (split <;> rfl)]
@[simp] theorem advance_grat_crystalWait (dt : Nat) (s : State) : (advance dt s).grat.crystalWait = s.grat.crystalWait := by
  unfold advance; split <;> [rfl; (split <;> rfl)]
@[simp] theorem advance_grat_detectAt (dt : Nat) (s : State) : (advance dt s).grat.detectAt = s.grat.detectAt := by
  unfold advance; split <;> [rfl; (split <;> rfl)]
@[simp] theorem advance_grat_band (dt : Nat) (s : State) : (advance dt s).grat.band = s.grat.band := by
  unfold advance; split <;> [rfl; (split <;> rfl)]
@[simp] theorem advance_grat_control (dt : Nat) (s : State) : (advance dt s).grat.control = s.grat.control := by
  unfold advance; split <;> [rfl; (split <;> rfl)]
@[simp] theorem advance_grat_lockLost (dt : Nat) (s : State) : (advance dt s).grat.lockLost = s.grat.lockLost := by
  unfold advance; split <;> [rfl; (split <;> rfl)]
@[simp] theorem advance_grat_controlMargin (dt : Nat) (s : State) : (advance dt s).grat.controlMargin = s.grat.controlMargin := by
  unfold advance; split <;> [rfl; (split <;> rfl)]
@[simp] theorem advance_grat_everLocked (dt : Nat) (s : State) : (advance dt s).grat.everLocked = s.grat.everLocked := by
  unfold advance; split <;> [rfl; (split <;> rfl)]
@[simp] theorem advance_grat_outputs (dt : Nat) (s : State) : (advance dt s).grat.outputs = s.grat.outputs := by
  unfold advance; split <;> [rfl; (split <;> rfl)]
@[simp] theorem advance_grat_startOsc (dt : Nat) (s : State) : (advance dt s).grat.startOsc = s.grat.startOsc := by
  unfold advance; split <;> [rfl; (split <;> rfl)]
@[simp] theorem advance_grat_pulling (dt : Nat) (s : State) : (advance dt s).grat.pulling = s.grat.pulling := by
  unfold advance; split <;> [rfl; (split <;> rfl)]
@[simp] theorem advance_grat_lockedAt (dt : Nat) (s : State) : (advance dt s).grat.lockedAt = s.grat.lockedAt := by
  unfold advance; split <;> [rfl; (split <;> rfl)]
@[simp] theorem advance_grat_pllHold (dt : Nat) (s : State) : (advance dt s).grat.pllHold = s.grat.pllHold := by
  unfold advance; split <;> [rfl; (split <;> rfl)]
@[simp] theorem advance_grat_coastTs (dt : Nat) (s : State) : (advance dt s).grat.coastTs = s.grat.coastTs := by
  unfold advance; split <;> [rfl; (split <;> rfl)]
@[simp] theorem advance_grat_coastTj (dt : Nat) (s : State) : (advance dt s).grat.coastTj = s.grat.coastTj := by
  unfold advance; split <;> [rfl; (split <;> rfl)]
@[simp] theorem advance_grat_deltaT (dt : Nat) (s : State) : (advance dt s).grat.deltaT = s.grat.deltaT := by
  unfold advance; split <;> [rfl; (split <;> rfl)]
@[simp] theorem advance_grat_clkOut (dt : Nat) (s : State) : (advance dt s).grat.clkOut = s.grat.clkOut := by
  unfold advance; split <;> [rfl; (split <;> rfl)]
@[simp] theorem advance_grat_clkStart (dt : Nat) (s : State) : (advance dt s).grat.clkStart = s.grat.clkStart := by
  unfold advance; split <;> [rfl; (split <;> rfl)]
@[simp] theorem advance_grat_clkEnd (dt : Nat) (s : State) : (advance dt s).grat.clkEnd = s.grat.clkEnd := by
  unfold advance; split <;> [rfl; (split <;> rfl)]
@[simp] theorem advance_grat_clkOutArmed (dt : Nat) (s : State) : (advance dt s).grat.clkOutArmed = s.grat.clkOutArmed := by
  unfold advance; split <;> [rfl; (split <;> rfl)]
@[simp] theorem advance_grat_vb (dt : Nat) (s : State) : (advance dt s).grat.vb = s.grat.vb := by
  unfold advance; split <;> [rfl; (split <;> rfl)]
@[simp] theorem advance_grat_lb (dt : Nat) (s : State) : (advance dt s).grat.lb = s.grat.lb := by
  unfold advance; split <;> [rfl; (split <;> rfl)]
@[simp] theorem advance_grat_rho (dt : Nat) (s : State) : (advance dt s).grat.rho = s.grat.rho := by
  unfold advance; split <;> [rfl; (split <;> rfl)]
@[simp] theorem advance_grat_sigma (dt : Nat) (s : State) : (advance dt s).grat.sigma = s.grat.sigma := by
  unfold advance; split <;> [rfl; (split <;> rfl)]
@[simp] theorem advance_grat_slew (dt : Nat) (s : State) : (advance dt s).grat.slew = s.grat.slew := by
  unfold advance; split <;> [rfl; (split <;> rfl)]
@[simp] theorem advance_grat_sync (dt : Nat) (s : State) : (advance dt s).grat.sync = s.grat.sync := by
  unfold advance; split <;> [rfl; (split <;> rfl)]
@[simp] theorem advance_grat_prevSample (dt : Nat) (s : State) : (advance dt s).grat.prevSample = s.grat.prevSample := by
  unfold advance; split <;> [rfl; (split <;> rfl)]
@[simp] theorem advance_grat_prevT1 (dt : Nat) (s : State) : (advance dt s).grat.prevT1 = s.grat.prevT1 := by
  unfold advance; split <;> [rfl; (split <;> rfl)]
@[simp] theorem advance_grat_lastSync (dt : Nat) (s : State) : (advance dt s).grat.lastSync = s.grat.lastSync := by
  unfold advance; split <;> [rfl; (split <;> rfl)]
@[simp] theorem advance_grat_pendingStep (dt : Nat) (s : State) : (advance dt s).grat.pendingStep = s.grat.pendingStep := by
  unfold advance; split <;> [rfl; (split <;> rfl)]
@[simp] theorem advance_grat_stepApplied (dt : Nat) (s : State) : (advance dt s).grat.stepApplied = s.grat.stepApplied := by
  unfold advance; split <;> [rfl; (split <;> rfl)]

end Sys2Proof.Machine
end

