-- ==== Sys2Proof/Laws/Counters.lean ====
section
/-! SUPPORT. What the counters read after an event is counted (R431). -/

namespace Sys2Proof.Machine

open Sys2Proof

/-- A counter that has been written reads that value. -/
@[simp] theorem counterIn_counterPut (t : Table Nat) (c : Counter) (v : Nat) : counterIn (counterPut t c v) c = v := by
  unfold counterIn counterPut
  split
  · rename_i h; simp [h]
  · simp

/-- Writing one counter leaves the others. -/
theorem counterIn_counterPut_ne (t : Table Nat) (c e : Counter) (v : Nat) (h : counterKey e ≠ counterKey c) :
    counterIn (counterPut t c v) e = counterIn t e := by
  unfold counterIn counterPut
  split
  · exact Table.getD_del_ne 0 _ _ h t
  · exact Table.getD_put_ne 0 v _ _ h t

/-- A counter reads its next value after an event of its kind. -/
@[simp] theorem counterOf_count (c : Counter) (n : Nat) (s : State) :
    counterOf (count c n s) c = counterNext c (counterOf s c) n := by
  simp [counterOf, count, counterAdd]

/-- Counting one event leaves every other counter. -/
theorem counterOf_count_ne (c e : Counter) (n : Nat) (s : State) (h : counterKey e ≠ counterKey c) :
    counterOf (count c n s) e = counterOf s e := by
  simp [counterOf, count, counterAdd, counterIn_counterPut_ne _ _ _ _ h]

/-- A counter that has been set reads that value. -/
@[simp] theorem counterOf_countSet (c : Counter) (v : Nat) (s : State) : counterOf (countSet c v s) c = v := by
  simp [counterOf, countSet]

/-- Logging an event counts nothing but an overwritten entry. -/
theorem counterOf_logEvent (e : Counter) (x y z w : Nat) (s : State) (h : counterKey e ≠ counterKey .logOverwrites) :
    counterOf (logEvent x y z w s) e = counterOf s e := by
  unfold logEvent
  split
  · exact counterOf_count_ne .logOverwrites e 1 { s with log := { s.log with overwritten := true } } h
  · rfl

/-- A state with the same counters reads the same. -/
theorem counterOf_congr (e : Counter) (s t : State) (h : t.log.counters = s.log.counters) :
    counterOf t e = counterOf s e := by
  simp [counterOf, h]

/-- Time counts nothing. -/
@[simp] theorem counterOf_advance (e : Counter) (dt : Nat) (s : State) : counterOf (advance dt s) e = counterOf s e := by
  simp [counterOf]

end Sys2Proof.Machine
end

