-- ==== Sys2Proof/Laws/Memory.lean ====
section
/-! SUPPORT. The NOR flash as memory: every write and every erase keeps the canonical form, and a byte reads as it was
written. -/

namespace Sys2Proof.Laws

open Sys2Proof Sys2Proof.Machine

/-- The canonical form: addresses rise over the whole list, and no entry holds what an unlisted address reads as. -/
theorem norWf_iff : ∀ m : List (Nat × Byte),
    norWf m = true ↔ m.Pairwise (fun x y => x.1 < y.1) ∧ ∀ e ∈ m, e.2 ≠ 0xFF#8
  | [] => by simp [norWf]
  | [(a, v)] => by simp [norWf]
  | (a, v) :: (b, w) :: r => by
    rw [norWf, Bool.and_eq_true, Bool.and_eq_true, norWf_iff ((b, w) :: r)]
    simp only [decide_eq_true_eq, List.pairwise_cons, List.mem_cons, forall_eq_or_imp]
    constructor
    · rintro ⟨⟨h1, h2⟩, ⟨h3, h4⟩, h5, h6⟩
      exact ⟨⟨⟨h1, fun e he => Nat.lt_trans h1 (h3 e he)⟩, h3, h4⟩, h2, h5, h6⟩
    · rintro ⟨⟨⟨h1, _⟩, h3, h4⟩, h2, h5, h6⟩
      exact ⟨⟨h1, h2⟩, ⟨h3, h4⟩, h5, h6⟩

/-- The cells of bytes lie from their address on, rise, and list no 0xFF. -/
theorem norCells_spec : ∀ (l : List Byte) (a : Nat),
    (norCells a l).Pairwise (fun x y => x.1 < y.1) ∧
      (∀ e ∈ norCells a l, e.2 ≠ 0xFF#8 ∧ a ≤ e.1 ∧ e.1 < a + l.length)
  | [], a => by simp [norCells]
  | b :: r, a => by
    obtain ⟨h1, h2⟩ := norCells_spec r (a + 1)
    rw [norCells]
    split
    · refine ⟨h1, fun e he => ?_⟩
      have := h2 e he
      simp only [List.length_cons]
      exact ⟨this.1, by omega, by omega⟩
    · rename_i hb
      refine ⟨List.pairwise_cons.2 ⟨fun e he => ?_, h1⟩, fun e he => ?_⟩
      · have := h2 e he; show a < e.1; omega
      · rcases List.mem_cons.1 he with rfl | he
        · exact ⟨hb, Nat.le_refl _, by simp only [List.length_cons]; omega⟩
        · have := h2 e he
          simp only [List.length_cons]
          exact ⟨this.1, by omega, by omega⟩

/-- Writing keeps the canonical form. -/
theorem norWf_norPut (a : Nat) (l : List Byte) (m : List (Nat × Byte)) (h : norWf m = true) :
    norWf (norPut a l m) = true := by
  rw [norWf_iff] at h ⊢
  obtain ⟨c1, c2⟩ := norCells_spec l a
  have hb : ∀ e ∈ norBelow a m, e.1 < a ∧ e ∈ m := fun e he => by
    simpa [norBelow, and_comm] using he
  have hf : ∀ e ∈ norFrom (a + l.length) m, a + l.length ≤ e.1 ∧ e ∈ m := fun e he => by
    simpa [norFrom, and_comm] using he
  unfold norPut
  refine ⟨?_, ?_⟩
  · rw [List.pairwise_append, List.pairwise_append]
    refine ⟨⟨h.1.filter _, c1, fun x hx y hy => ?_⟩, h.1.filter _, fun x hx y hy => ?_⟩
    · exact Nat.lt_of_lt_of_le (hb x hx).1 (c2 y hy).2.1
    · have := (hf y hy).1
      rcases List.mem_append.1 hx with hx | hx
      · have := (hb x hx).1; show x.1 < y.1; omega
      · have := (c2 x hx).2.2; show x.1 < y.1; omega
  · intro e he
    rcases List.mem_append.1 he with he | he
    · rcases List.mem_append.1 he with he | he
      · exact h.2 e (hb e he).2
      · exact (c2 e he).1
    · exact h.2 e (hf e he).2

/-- Erasing keeps the canonical form. -/
theorem norWf_norErase (a n : Nat) (m : List (Nat × Byte)) (h : norWf m = true) : norWf (norErase a n m) = true := by
  rw [norWf_iff] at h ⊢
  have hb : ∀ e ∈ norBelow a m, e.1 < a ∧ e ∈ m := fun e he => by
    simpa [norBelow, and_comm] using he
  have hf : ∀ e ∈ norFrom (a + n) m, a + n ≤ e.1 ∧ e ∈ m := fun e he => by
    simpa [norFrom, and_comm] using he
  unfold norErase
  refine ⟨?_, fun e he => ?_⟩
  · rw [List.pairwise_append]
    refine ⟨h.1.filter _, h.1.filter _, fun x hx y hy => ?_⟩
    have := (hb x hx).1
    have := (hf y hy).1
    show x.1 < y.1
    omega
  · rcases List.mem_append.1 he with he | he
    · exact h.2 e (hb e he).2
    · exact h.2 e (hf e he).2

/-- A list of entries reads an address as its first entry there, and its appended parts in turn. -/
theorem getD_append (a : Nat) : ∀ (x y : List (Nat × Byte)), (∀ e ∈ x, e.1 ≠ a) →
    Table.getD (0xFF#8) (x ++ y : List (Nat × Byte)) a = Table.getD (0xFF#8) y a
  | [], _, _ => rfl
  | (k, v) :: r, y, h => by
    have : k ≠ a := h (k, v) List.mem_cons_self
    rw [List.cons_append, Table.getD, if_neg this]
    exact getD_append a r y (fun e he => h e (List.mem_cons_of_mem _ he))

theorem getD_append_left (a : Nat) : ∀ (x y : List (Nat × Byte)), (∀ e ∈ y, e.1 ≠ a) →
    Table.getD (0xFF#8) (x ++ y : List (Nat × Byte)) a = Table.getD (0xFF#8) x a
  | [], [], _ => rfl
  | [], (k, v) :: y, h => by
    rw [List.nil_append, Table.getD.eq_2, if_neg (h (k, v) List.mem_cons_self)]
    exact getD_append_left a [] y (fun e he => h e (List.mem_cons_of_mem _ he))
  | (k, v) :: r, y, h => by
    rw [List.cons_append, Table.getD, Table.getD]
    split
    · rfl
    · exact getD_append_left a r y h

/-- Leaving out entries of other addresses changes no reading. -/
theorem getD_filter (a : Nat) (p : Nat × Byte → Bool) : ∀ m : List (Nat × Byte), (∀ e ∈ m, e.1 = a → p e = true) →
    Table.getD (0xFF#8) (m.filter p : List (Nat × Byte)) a = Table.getD (0xFF#8) m a
  | [], _ => rfl
  | (k, v) :: r, h => by
    have ih := getD_filter a p r (fun e he => h e (List.mem_cons_of_mem _ he))
    rw [List.filter_cons]
    split
    · rw [Table.getD, Table.getD, ih]
    · rename_i hp
      have : k ≠ a := fun e => hp (h (k, v) List.mem_cons_self e)
      rw [Table.getD, if_neg this, ih]

/-- The cells of bytes read as the bytes. -/
theorem getD_norCells : ∀ (l : List Byte) (a i : Nat), i < l.length →
    Table.getD (0xFF#8) (norCells a l : List (Nat × Byte)) (a + i) = l.getD i 0xFF#8
  | [], _, _, h => absurd h (by simp)
  | b :: r, a, 0, _ => by
    show Table.getD _ _ a = b
    rw [norCells]
    split
    · rename_i hb
      have := (norCells_spec r (a + 1)).2
      have h0 := getD_append_left a [] (norCells (a + 1) r) (fun e he => by have := (this e he).2.1; omega)
      rw [List.nil_append] at h0
      rw [h0, hb]; rfl
    · rw [Table.getD, if_pos rfl]
  | b :: r, a, i + 1, h => by
    have ih := getD_norCells r (a + 1) i (by simpa using h)
    rw [show a + (i + 1) = a + 1 + i by omega, norCells]
    split
    · rw [ih]; rfl
    · rw [Table.getD, if_neg (by omega), ih]; rfl

/-- A byte that has been written reads as it was written. -/
theorem norByte_norPut_in (a i : Nat) (l : List Byte) (m : List (Nat × Byte)) (h : i < l.length) :
    norByte (norPut a l m) (a + i) = l.getD i 0xFF#8 := by
  unfold norByte norPut
  rw [getD_append_left, getD_append, getD_norCells l a i h]
  · intro e he
    have : e.1 < a ∧ e ∈ m := by simpa [norBelow, and_comm] using he
    omega
  · intro e he
    have : a + l.length ≤ e.1 ∧ e ∈ m := by simpa [norFrom, and_comm] using he
    omega

/-- Every byte outside what is written reads as before. -/
theorem norByte_norPut_out (a x : Nat) (l : List Byte) (m : List (Nat × Byte)) (h : x < a ∨ a + l.length ≤ x) :
    norByte (norPut a l m) x = norByte m x := by
  unfold norByte norPut
  have hc := (norCells_spec l a).2
  rcases h with h | h
  · rw [getD_append_left, getD_append_left, norBelow, getD_filter]
    · intro e _ he; simp [he, h]
    · intro e he; have := (hc e he).2.1; omega
    · intro e he
      have : a + l.length ≤ e.1 ∧ e ∈ m := by simpa [norFrom, and_comm] using he
      omega
  · rw [List.append_assoc, getD_append, getD_append, norFrom, getD_filter]
    · intro e _ he; simp [he, h]
    · intro e he; have := (hc e he).2.2; omega
    · intro e he
      have : e.1 < a ∧ e ∈ m := by simpa [norBelow, and_comm] using he
      omega

/-- An erased byte reads 0xFF; every other byte reads as before. -/
theorem norByte_norErase (a n x : Nat) (m : List (Nat × Byte)) :
    norByte (norErase a n m) x = if a ≤ x ∧ x < a + n then 0xFF#8 else norByte m x := by
  unfold norByte norErase
  have hb : ∀ e ∈ norBelow a m, e.1 < a := fun e he => by
    have : e.1 < a ∧ e ∈ m := by simpa [norBelow, and_comm] using he
    exact this.1
  have hf : ∀ e ∈ norFrom (a + n) m, a + n ≤ e.1 := fun e he => by
    have : a + n ≤ e.1 ∧ e ∈ m := by simpa [norFrom, and_comm] using he
    exact this.1
  split
  · rw [getD_append, ← List.nil_append (norFrom (a + n) m), getD_append_left]
    · rfl
    · intro e he; have := hf e he; omega
    · intro e he; have := hb e he; omega
  · by_cases hx : x < a
    · rw [getD_append_left, norBelow, getD_filter]
      · intro e _ he; simp [he, hx]
      · intro e he; have := hf e he; omega
    · rw [getD_append, norFrom, getD_filter]
      · intro e _ he; simp only [he, decide_eq_true_eq]; omega
      · intro e he; have := hb e he; omega

end Sys2Proof.Laws
end

