-- ==== Sys2Proof/Laws/Keeps.lean ====
section
/-! SUPPORT. What no operation inside a command touches: the queue, the clock, and the canonical form of the NOR flash.
One lemma per shared operation says that it keeps them; a command adds the passage of time. -/

namespace Sys2Proof.Laws

open Sys2Proof Sys2Proof.Machine

set_option linter.unusedTactic false
set_option linter.unreachableTactic false

/-- `s` has the queue, the time and the local counter of `r`, and a NOR flash in canonical form if `r` has. -/
structure Keeps (r s : State) : Prop where
  pending : s.pending = r.pending
  now : s.now = r.now
  localTime : s.grat.localTime = r.grat.localTime
  subTap : s.grat.subTap = r.grat.subTap
  nor : norWf r.nor.mem = true → norWf s.nor.mem = true

theorem Keeps.refl (s : State) : Keeps s s := ⟨rfl, rfl, rfl, rfl, id⟩

/-- A state that shares the queue, the time, the local counter and the memory with `t` keeps what `t` keeps. -/
theorem keeps_mk {r t : State} (free : Nat) (phase : Phase) (supply : Supply) (grat : Grat) (motor : Motor) (seq : Seq) (banks : Table Bank) (chain : Chain) (pulses : List FirePulse) (bias : Bias) (chans : Table Chan) (amb : Table Ambient) (ambEng : AmbientEngine) (survey : Survey) (contour : Contour) (link : Link) (otp : Otp) (sec : Security) (nor : Nor) (legend : Legend) (image : ImageSt) (safety : Safety) (calib : Calib) (thermal : Thermal) (aux : Aux) (near : NearDist) (recd : Recorder) (dma : Dma) (log : Log) (jtag : Jtag)
    (hl : grat.localTime = t.grat.localTime) (hs : grat.subTap = t.grat.subTap) (hm : nor.mem = t.nor.mem)
    (h : Keeps r t) : Keeps r (State.mk t.pending t.now free phase supply grat motor seq banks chain pulses bias chans amb ambEng survey contour link otp sec nor legend image safety calib thermal aux near recd dma log jtag) :=
  ⟨h.pending, h.now, hl.trans h.localTime, hs.trans h.subTap, fun w => (congrArg norWf hm).trans (h.nor w)⟩

theorem keeps_foldl {α : Type} {r : State} (f : State → α → State) (hf : ∀ u x, Keeps r u → Keeps r (f u x)) :
    ∀ (l : List α) (s : State), Keeps r s → Keeps r (l.foldl f s)
  | [], _, h => h
  | x :: l, s, h => keeps_foldl f hf l (f s x) (hf s x h)

theorem keeps_when_ {r : State} (c : Bool) (f : State → State) (s : State) (hf : ∀ u, Keeps r u → Keeps r (f u))
    (h : Keeps r s) : Keeps r (when_ c f s) := by
  unfold when_; split
  · exact hf s h
  · exact h

/-! ## Ops -/

theorem keeps_setBank {o₀ : State} (b : Nat) (v : Bank) (s : State) (h₀ : Keeps o₀ s) : Keeps o₀ (setBank b v s) := by
  dsimp only [setBank]
  with_reducible repeat' (first | assumption | (apply keeps_foldl; intro _ _ _) | apply keeps_when_ | intro _ _ | split | (refine keeps_mk _ _ _ _ _ _ _ _ _ _ _ _ _ _ _ _ _ _ _ _ _ _ _ _ _ _ _ _ _ _ rfl rfl rfl ?_; first | assumption | (apply keeps_foldl; intro _ _ _) | split))

theorem keeps_modBank {o₀ : State} (b : Nat) (f : Bank → Bank) (s : State) (h₀ : Keeps o₀ s) : Keeps o₀ (modBank b f s) := by
  dsimp only [modBank]
  with_reducible repeat' (first | assumption | (apply keeps_foldl; intro _ _ _) | apply keeps_setBank | apply keeps_when_ | intro _ _ | split | (refine keeps_mk _ _ _ _ _ _ _ _ _ _ _ _ _ _ _ _ _ _ _ _ _ _ _ _ _ _ _ _ _ _ rfl rfl rfl ?_; first | assumption | (apply keeps_foldl; intro _ _ _) | apply keeps_setBank | split))

theorem keeps_setChan {o₀ : State} (c : Nat) (v : Chan) (s : State) (h₀ : Keeps o₀ s) : Keeps o₀ (setChan c v s) := by
  dsimp only [setChan]
  with_reducible repeat' (first | assumption | (apply keeps_foldl; intro _ _ _) | apply keeps_when_ | intro _ _ | split | (refine keeps_mk _ _ _ _ _ _ _ _ _ _ _ _ _ _ _ _ _ _ _ _ _ _ _ _ _ _ _ _ _ _ rfl rfl rfl ?_; first | assumption | (apply keeps_foldl; intro _ _ _) | split))

theorem keeps_modChan {o₀ : State} (c : Nat) (f : Chan → Chan) (s : State) (h₀ : Keeps o₀ s) : Keeps o₀ (modChan c f s) := by
  dsimp only [modChan]
  with_reducible repeat' (first | assumption | (apply keeps_foldl; intro _ _ _) | apply keeps_setChan | apply keeps_when_ | intro _ _ | split | (refine keeps_mk _ _ _ _ _ _ _ _ _ _ _ _ _ _ _ _ _ _ _ _ _ _ _ _ _ _ _ _ _ _ rfl rfl rfl ?_; first | assumption | (apply keeps_foldl; intro _ _ _) | apply keeps_setChan | split))

theorem keeps_setAmb {o₀ : State} (c : Nat) (v : Ambient) (s : State) (h₀ : Keeps o₀ s) : Keeps o₀ (setAmb c v s) := by
  dsimp only [setAmb]
  with_reducible repeat' (first | assumption | (apply keeps_foldl; intro _ _ _) | apply keeps_when_ | intro _ _ | split | (refine keeps_mk _ _ _ _ _ _ _ _ _ _ _ _ _ _ _ _ _ _ _ _ _ _ _ _ _ _ _ _ _ _ rfl rfl rfl ?_; first | assumption | (apply keeps_foldl; intro _ _ _) | split))

theorem keeps_setEngine {o₀ : State} (e : Nat) (v : Engine) (s : State) (h₀ : Keeps o₀ s) : Keeps o₀ (setEngine e v s) := by
  dsimp only [setEngine]
  with_reducible repeat' (first | assumption | (apply keeps_foldl; intro _ _ _) | apply keeps_when_ | intro _ _ | split | (refine keeps_mk _ _ _ _ _ _ _ _ _ _ _ _ _ _ _ _ _ _ _ _ _ _ _ _ _ _ _ _ _ _ rfl rfl rfl ?_; first | assumption | (apply keeps_foldl; intro _ _ _) | split))

theorem keeps_modEngine {o₀ : State} (e : Nat) (f : Engine → Engine) (s : State) (h₀ : Keeps o₀ s) : Keeps o₀ (modEngine e f s) := by
  dsimp only [modEngine]
  with_reducible repeat' (first | assumption | (apply keeps_foldl; intro _ _ _) | apply keeps_setEngine | apply keeps_when_ | intro _ _ | split | (refine keeps_mk _ _ _ _ _ _ _ _ _ _ _ _ _ _ _ _ _ _ _ _ _ _ _ _ _ _ _ _ _ _ rfl rfl rfl ?_; first | assumption | (apply keeps_foldl; intro _ _ _) | apply keeps_setEngine | split))

theorem keeps_setCtx {o₀ : State} (x : Nat) (v : Ctx) (s : State) (h₀ : Keeps o₀ s) : Keeps o₀ (setCtx x v s) := by
  dsimp only [setCtx]
  with_reducible repeat' (first | assumption | (apply keeps_foldl; intro _ _ _) | apply keeps_when_ | intro _ _ | split | (refine keeps_mk _ _ _ _ _ _ _ _ _ _ _ _ _ _ _ _ _ _ _ _ _ _ _ _ _ _ _ _ _ _ rfl rfl rfl ?_; first | assumption | (apply keeps_foldl; intro _ _ _) | split))

theorem keeps_modCtx {o₀ : State} (x : Nat) (f : Ctx → Ctx) (s : State) (h₀ : Keeps o₀ s) : Keeps o₀ (modCtx x f s) := by
  dsimp only [modCtx]
  with_reducible repeat' (first | assumption | (apply keeps_foldl; intro _ _ _) | apply keeps_setCtx | apply keeps_when_ | intro _ _ | split | (refine keeps_mk _ _ _ _ _ _ _ _ _ _ _ _ _ _ _ _ _ _ _ _ _ _ _ _ _ _ _ _ _ _ rfl rfl rfl ?_; first | assumption | (apply keeps_foldl; intro _ _ _) | apply keeps_setCtx | split))

theorem keeps_freeCtx {o₀ : State} (x : Nat) (s : State) (h₀ : Keeps o₀ s) : Keeps o₀ (freeCtx x s) := by
  dsimp only [freeCtx]
  with_reducible repeat' (first | assumption | (apply keeps_foldl; intro _ _ _) | apply keeps_when_ | intro _ _ | split | (refine keeps_mk _ _ _ _ _ _ _ _ _ _ _ _ _ _ _ _ _ _ _ _ _ _ _ _ _ _ _ _ _ _ rfl rfl rfl ?_; first | assumption | (apply keeps_foldl; intro _ _ _) | split))

theorem keeps_setUnit {o₀ : State} (u : Nat) (v : Unit_) (s : State) (h₀ : Keeps o₀ s) : Keeps o₀ (setUnit u v s) := by
  dsimp only [setUnit]
  with_reducible repeat' (first | assumption | (apply keeps_foldl; intro _ _ _) | apply keeps_when_ | intro _ _ | split | (refine keeps_mk _ _ _ _ _ _ _ _ _ _ _ _ _ _ _ _ _ _ _ _ _ _ _ _ _ _ _ _ _ _ rfl rfl rfl ?_; first | assumption | (apply keeps_foldl; intro _ _ _) | split))

theorem keeps_setAux {o₀ : State} (n : Nat) (v : AuxIn) (s : State) (h₀ : Keeps o₀ s) : Keeps o₀ (setAux n v s) := by
  dsimp only [setAux]
  with_reducible repeat' (first | assumption | (apply keeps_foldl; intro _ _ _) | apply keeps_when_ | intro _ _ | split | (refine keeps_mk _ _ _ _ _ _ _ _ _ _ _ _ _ _ _ _ _ _ _ _ _ _ _ _ _ _ _ _ _ _ rfl rfl rfl ?_; first | assumption | (apply keeps_foldl; intro _ _ _) | split))

theorem keeps_setMover {o₀ : State} (k : Nat) (v : Mover) (s : State) (h₀ : Keeps o₀ s) : Keeps o₀ (setMover k v s) := by
  dsimp only [setMover]
  with_reducible repeat' (first | assumption | (apply keeps_foldl; intro _ _ _) | apply keeps_when_ | intro _ _ | split | (refine keeps_mk _ _ _ _ _ _ _ _ _ _ _ _ _ _ _ _ _ _ _ _ _ _ _ _ _ _ _ _ _ _ rfl rfl rfl ?_; first | assumption | (apply keeps_foldl; intro _ _ _) | split))

theorem keeps_setBlock {o₀ : State} (b : Nat) (v : Block) (s : State) (h₀ : Keeps o₀ s) : Keeps o₀ (setBlock b v s) := by
  dsimp only [setBlock]
  with_reducible repeat' (first | assumption | (apply keeps_foldl; intro _ _ _) | apply keeps_when_ | intro _ _ | split | (refine keeps_mk _ _ _ _ _ _ _ _ _ _ _ _ _ _ _ _ _ _ _ _ _ _ _ _ _ _ _ _ _ _ rfl rfl rfl ?_; first | assumption | (apply keeps_foldl; intro _ _ _) | split))

theorem keeps_modBlock {o₀ : State} (b : Nat) (f : Block → Block) (s : State) (h₀ : Keeps o₀ s) : Keeps o₀ (modBlock b f s) := by
  dsimp only [modBlock]
  with_reducible repeat' (first | assumption | (apply keeps_foldl; intro _ _ _) | apply keeps_setBlock | apply keeps_when_ | intro _ _ | split | (refine keeps_mk _ _ _ _ _ _ _ _ _ _ _ _ _ _ _ _ _ _ _ _ _ _ _ _ _ _ _ _ _ _ rfl rfl rfl ?_; first | assumption | (apply keeps_foldl; intro _ _ _) | apply keeps_setBlock | split))

theorem keeps_setSide {o₀ : State} (d : Side) (v : SafeCh) (s : State) (h₀ : Keeps o₀ s) : Keeps o₀ (setSide d v s) := by
  dsimp only [setSide]
  with_reducible repeat' (first | assumption | (apply keeps_foldl; intro _ _ _) | apply keeps_when_ | intro _ _ | split | (refine keeps_mk _ _ _ _ _ _ _ _ _ _ _ _ _ _ _ _ _ _ _ _ _ _ _ _ _ _ _ _ _ _ rfl rfl rfl ?_; first | assumption | (apply keeps_foldl; intro _ _ _) | split))

theorem keeps_modSide {o₀ : State} (d : Side) (f : SafeCh → SafeCh) (s : State) (h₀ : Keeps o₀ s) : Keeps o₀ (modSide d f s) := by
  dsimp only [modSide]
  with_reducible repeat' (first | assumption | (apply keeps_foldl; intro _ _ _) | apply keeps_setSide | apply keeps_when_ | intro _ _ | split | (refine keeps_mk _ _ _ _ _ _ _ _ _ _ _ _ _ _ _ _ _ _ _ _ _ _ _ _ _ _ _ _ _ _ rfl rfl rfl ?_; first | assumption | (apply keeps_foldl; intro _ _ _) | apply keeps_setSide | split))

theorem keeps_count {o₀ : State} (c : Counter) (n : Nat) (s : State) (h₀ : Keeps o₀ s) : Keeps o₀ (count c n s) := by
  dsimp only [count]
  with_reducible repeat' (first | assumption | (apply keeps_foldl; intro _ _ _) | apply keeps_when_ | intro _ _ | split | (refine keeps_mk _ _ _ _ _ _ _ _ _ _ _ _ _ _ _ _ _ _ _ _ _ _ _ _ _ _ _ _ _ _ rfl rfl rfl ?_; first | assumption | (apply keeps_foldl; intro _ _ _) | split))

theorem keeps_countSet {o₀ : State} (c : Counter) (v : Nat) (s : State) (h₀ : Keeps o₀ s) : Keeps o₀ (countSet c v s) := by
  dsimp only [countSet]
  with_reducible repeat' (first | assumption | (apply keeps_foldl; intro _ _ _) | apply keeps_when_ | intro _ _ | split | (refine keeps_mk _ _ _ _ _ _ _ _ _ _ _ _ _ _ _ _ _ _ _ _ _ _ _ _ _ _ _ _ _ _ rfl rfl rfl ?_; first | assumption | (apply keeps_foldl; intro _ _ _) | split))

theorem keeps_draw {o₀ : State} (k : Nat) (s : State) (h₀ : Keeps o₀ s) : Keeps o₀ ((draw k s).2) := by
  dsimp only [draw]
  with_reducible repeat' (first | assumption | (apply keeps_foldl; intro _ _ _) | apply keeps_when_ | intro _ _ | split | (refine keeps_mk _ _ _ _ _ _ _ _ _ _ _ _ _ _ _ _ _ _ _ _ _ _ _ _ _ _ _ _ _ _ rfl rfl rfl ?_; first | assumption | (apply keeps_foldl; intro _ _ _) | split))

theorem keeps_draw_eq {o₀ t₀ : State} {a₀ : List Byte} {k : Nat} {s : State} (e₀ : draw k s = (a₀, t₀)) (h₀ : Keeps o₀ s) :
    Keeps o₀ t₀ := by
  have h₁ := keeps_draw (o₀ := o₀) k s h₀
  rw [e₀] at h₁
  exact h₁

/-! ## Events -/

theorem keeps_logEvent {o₀ : State} (cls ev inst arg : Nat) (s : State) (h₀ : Keeps o₀ s) : Keeps o₀ (logEvent cls ev inst arg s) := by
  dsimp only [logEvent]
  with_reducible repeat' (first | assumption | (apply keeps_foldl; intro _ _ _) | apply keeps_count | apply keeps_when_ | intro _ _ | split | (refine keeps_mk _ _ _ _ _ _ _ _ _ _ _ _ _ _ _ _ _ _ _ _ _ _ _ _ _ _ _ _ _ _ rfl rfl rfl ?_; first | assumption | (apply keeps_foldl; intro _ _ _) | apply keeps_count | split))

theorem keeps_watchSafety {o₀ : State} (f : State → State) (s : State) (hf : ∀ u, Keeps o₀ u → Keeps o₀ (f u))
    (h₀ : Keeps o₀ s) : Keeps o₀ (watchSafety f s) := by
  dsimp only [watchSafety]
  split
  · exact hf s h₀
  · apply keeps_logEvent
    exact ⟨(hf s h₀).pending, (hf s h₀).now, (hf s h₀).localTime, (hf s h₀).subTap, (hf s h₀).nor⟩

theorem keeps_setBankState {o₀ : State} (b st : Nat) (s : State) (h₀ : Keeps o₀ s) : Keeps o₀ (setBankState b st s) := by
  dsimp only [setBankState]
  with_reducible repeat' (first | assumption | (apply keeps_foldl; intro _ _ _) | apply keeps_setBank | apply keeps_count | apply keeps_logEvent | apply keeps_when_ | intro _ _ | split | (refine keeps_mk _ _ _ _ _ _ _ _ _ _ _ _ _ _ _ _ _ _ _ _ _ _ _ _ _ _ _ _ _ _ rfl rfl rfl ?_; first | assumption | (apply keeps_foldl; intro _ _ _) | apply keeps_setBank | apply keeps_count | apply keeps_logEvent | split))

theorem keeps_changeEngine {o₀ : State} (e : Nat) (v : Engine) (s : State) (h₀ : Keeps o₀ s) : Keeps o₀ (changeEngine e v s) := by
  dsimp only [changeEngine]
  with_reducible repeat' (first | assumption | (apply keeps_foldl; intro _ _ _) | apply keeps_setEngine | apply keeps_logEvent | apply keeps_when_ | intro _ _ | split | (refine keeps_mk _ _ _ _ _ _ _ _ _ _ _ _ _ _ _ _ _ _ _ _ _ _ _ _ _ _ _ _ _ _ rfl rfl rfl ?_; first | assumption | (apply keeps_foldl; intro _ _ _) | apply keeps_setEngine | apply keeps_logEvent | split))

/-! ## Packets -/

theorem keeps_due1 {o₀ : State} (p : Pkt) (s : State) (h₀ : Keeps o₀ s) : Keeps o₀ (due1 p s) := by
  dsimp only [due1]
  with_reducible repeat' (first | assumption | (apply keeps_foldl; intro _ _ _) | apply keeps_when_ | intro _ _ | split | (refine keeps_mk _ _ _ _ _ _ _ _ _ _ _ _ _ _ _ _ _ _ _ _ _ _ _ _ _ _ _ _ _ _ rfl rfl rfl ?_; first | assumption | (apply keeps_foldl; intro _ _ _) | split))

theorem keeps_due2 {o₀ : State} (p : Pkt) (s : State) (h₀ : Keeps o₀ s) : Keeps o₀ (due2 p s) := by
  dsimp only [due2]
  with_reducible repeat' (first | assumption | (apply keeps_foldl; intro _ _ _) | apply keeps_when_ | intro _ _ | split | (refine keeps_mk _ _ _ _ _ _ _ _ _ _ _ _ _ _ _ _ _ _ _ _ _ _ _ _ _ _ _ _ _ _ rfl rfl rfl ?_; first | assumption | (apply keeps_foldl; intro _ _ _) | split))

theorem keeps_due3 {o₀ : State} (p : Pkt) (s : State) (h₀ : Keeps o₀ s) : Keeps o₀ (due3 p s) := by
  dsimp only [due3]
  with_reducible repeat' (first | assumption | (apply keeps_foldl; intro _ _ _) | apply keeps_when_ | intro _ _ | split | (refine keeps_mk _ _ _ _ _ _ _ _ _ _ _ _ _ _ _ _ _ _ _ _ _ _ _ _ _ _ _ _ _ _ rfl rfl rfl ?_; first | assumption | (apply keeps_foldl; intro _ _ _) | split))

theorem keeps_due4 {o₀ : State} (p : Pkt) (s : State) (h₀ : Keeps o₀ s) : Keeps o₀ (due4 p s) := by
  dsimp only [due4]
  with_reducible repeat' (first | assumption | (apply keeps_foldl; intro _ _ _) | apply keeps_when_ | intro _ _ | split | (refine keeps_mk _ _ _ _ _ _ _ _ _ _ _ _ _ _ _ _ _ _ _ _ _ _ _ _ _ _ _ _ _ _ rfl rfl rfl ?_; first | assumption | (apply keeps_foldl; intro _ _ _) | split))

theorem keeps_due5 {o₀ : State} (p : Pkt) (s : State) (h₀ : Keeps o₀ s) : Keeps o₀ (due5 p s) := by
  dsimp only [due5]
  with_reducible repeat' (first | assumption | (apply keeps_foldl; intro _ _ _) | apply keeps_when_ | intro _ _ | split | (refine keeps_mk _ _ _ _ _ _ _ _ _ _ _ _ _ _ _ _ _ _ _ _ _ _ _ _ _ _ _ _ _ _ rfl rfl rfl ?_; first | assumption | (apply keeps_foldl; intro _ _ _) | split))

theorem keeps_ackMode {o₀ : State} (echo result sheet : Nat) (s : State) (h₀ : Keeps o₀ s) : Keeps o₀ (ackMode echo result sheet s) := by
  dsimp only [ackMode]
  with_reducible repeat' (first | assumption | (apply keeps_foldl; intro _ _ _) | apply keeps_due2 | apply keeps_when_ | intro _ _ | split | (refine keeps_mk _ _ _ _ _ _ _ _ _ _ _ _ _ _ _ _ _ _ _ _ _ _ _ _ _ _ _ _ _ _ rfl rfl rfl ?_; first | assumption | (apply keeps_foldl; intro _ _ _) | apply keeps_due2 | split))

theorem keeps_refuseMode {o₀ : State} (echo result : Nat) (s : State) (h₀ : Keeps o₀ s) : Keeps o₀ (refuseMode echo result s) := by
  dsimp only [refuseMode]
  with_reducible repeat' (first | assumption | (apply keeps_foldl; intro _ _ _) | apply keeps_count | apply keeps_ackMode | apply keeps_when_ | intro _ _ | split | (refine keeps_mk _ _ _ _ _ _ _ _ _ _ _ _ _ _ _ _ _ _ _ _ _ _ _ _ _ _ _ _ _ _ rfl rfl rfl ?_; first | assumption | (apply keeps_foldl; intro _ _ _) | apply keeps_count | apply keeps_ackMode | split))

theorem keeps_discardUp {o₀ : State} (type : Nat) (s : State) (h₀ : Keeps o₀ s) : Keeps o₀ (discardUp type s) := by
  dsimp only [discardUp]
  with_reducible repeat' (first | assumption | (apply keeps_foldl; intro _ _ _) | apply keeps_count | apply keeps_when_ | intro _ _ | split | (refine keeps_mk _ _ _ _ _ _ _ _ _ _ _ _ _ _ _ _ _ _ _ _ _ _ _ _ _ _ _ _ _ _ rfl rfl rfl ?_; first | assumption | (apply keeps_foldl; intro _ _ _) | apply keeps_count | split))

theorem keeps_takeToken {o₀ : State} (s : State) (h₀ : Keeps o₀ s) : Keeps o₀ (takeToken s) := by
  dsimp only [takeToken]
  with_reducible repeat' (first | assumption | (apply keeps_foldl; intro _ _ _) | apply keeps_when_ | intro _ _ | split | (refine keeps_mk _ _ _ _ _ _ _ _ _ _ _ _ _ _ _ _ _ _ _ _ _ _ _ _ _ _ _ _ _ _ rfl rfl rfl ?_; first | assumption | (apply keeps_foldl; intro _ _ _) | split))

theorem keeps_checkTag {o₀ : State} (l : List Byte) (s : State) (h₀ : Keeps o₀ s) : Keeps o₀ ((checkTag l s).2) := by
  dsimp only [checkTag]
  with_reducible repeat' (first | assumption | (apply keeps_foldl; intro _ _ _) | apply keeps_discardUp | apply keeps_count | apply keeps_when_ | intro _ _ | split | (refine keeps_mk _ _ _ _ _ _ _ _ _ _ _ _ _ _ _ _ _ _ _ _ _ _ _ _ _ _ _ _ _ _ rfl rfl rfl ?_; first | assumption | (apply keeps_foldl; intro _ _ _) | apply keeps_discardUp | apply keeps_count | split))

theorem keeps_checkTag_eq {o₀ t₀ : State} {a₀ : Bool} {l : List Byte} {s : State} (e₀ : checkTag l s = (a₀, t₀)) (h₀ : Keeps o₀ s) :
    Keeps o₀ t₀ := by
  have h₁ := keeps_checkTag (o₀ := o₀) l s h₀
  rw [e₀] at h₁
  exact h₁

theorem keeps_receive {o₀ : State} (l : List Byte) (viol : Bool) (s : State) (h₀ : Keeps o₀ s) : Keeps o₀ ((receive l viol s).2) := by
  dsimp only [receive]
  with_reducible repeat' (first | assumption | (apply keeps_foldl; intro _ _ _) | apply keeps_stage | apply keeps_discardUp | apply keeps_count | apply keeps_takeToken | apply keeps_checkTag | refine keeps_checkTag_eq ‹_› ?_ | apply keeps_when_ | intro _ _ | split | (refine keeps_mk _ _ _ _ _ _ _ _ _ _ _ _ _ _ _ _ _ _ _ _ _ _ _ _ _ _ _ _ _ _ rfl rfl rfl ?_; first | assumption | (apply keeps_foldl; intro _ _ _) | apply keeps_stage | apply keeps_discardUp | apply keeps_count | apply keeps_takeToken | apply keeps_checkTag | refine keeps_checkTag_eq ‹_› ?_ | split))

theorem keeps_receive_eq {o₀ t₀ : State} {a₀ : Option UpPkt} {l : List Byte} {viol : Bool} {s : State} (e₀ : receive l viol s = (a₀, t₀)) (h₀ : Keeps o₀ s) :
    Keeps o₀ t₀ := by
  have h₁ := keeps_receive (o₀ := o₀) l viol s h₀
  rw [e₀] at h₁
  exact h₁

theorem keeps_onPacket {o₀ : State} (type : Nat) (codes : List Nat) (rd : Bool) (f : List Byte → State → State) (s : State)
    (hf : ∀ b u, Keeps o₀ u → Keeps o₀ (f b u)) (h₀ : Keeps o₀ s) : Keeps o₀ (onPacket type codes rd f s) := by
  unfold onPacket
  split
  · exact h₀
  · split
    · exact keeps_receive_eq ‹_› h₀
    · exact hf _ _ (keeps_receive_eq ‹_› h₀)

/-! ## Link -/

theorem keeps_modLink {o₀ : State} (f : Link → Link) (s : State) (h₀ : Keeps o₀ s) : Keeps o₀ (modLink f s) := by
  dsimp only [modLink]
  with_reducible repeat' (first | assumption | (apply keeps_foldl; intro _ _ _) | apply keeps_when_ | intro _ _ | split | (refine keeps_mk _ _ _ _ _ _ _ _ _ _ _ _ _ _ _ _ _ _ _ _ _ _ _ _ _ _ _ _ _ _ rfl rfl rfl ?_; first | assumption | (apply keeps_foldl; intro _ _ _) | split))

theorem keeps_linkTransmitStart {o₀ : State} (wait : Nat) (s : State) (h₀ : Keeps o₀ s) : Keeps o₀ (linkTransmitStart wait s) := by
  dsimp only [linkTransmitStart]
  with_reducible repeat' (first | assumption | (apply keeps_foldl; intro _ _ _) | apply keeps_modLink | apply keeps_when_ | intro _ _ | split | (refine keeps_mk _ _ _ _ _ _ _ _ _ _ _ _ _ _ _ _ _ _ _ _ _ _ _ _ _ _ _ _ _ _ rfl rfl rfl ?_; first | assumption | (apply keeps_foldl; intro _ _ _) | apply keeps_modLink | split))

theorem keeps_linkStop {o₀ : State} (s : State) (h₀ : Keeps o₀ s) : Keeps o₀ (linkStop s) := by
  dsimp only [linkStop]
  with_reducible repeat' (first | assumption | (apply keeps_foldl; intro _ _ _) | apply keeps_modLink | apply keeps_when_ | intro _ _ | split | (refine keeps_mk _ _ _ _ _ _ _ _ _ _ _ _ _ _ _ _ _ _ _ _ _ _ _ _ _ _ _ _ _ _ rfl rfl rfl ?_; first | assumption | (apply keeps_foldl; intro _ _ _) | apply keeps_modLink | split))

theorem keeps_linkRetrain {o₀ : State} (lanes : Nat) (s : State) (h₀ : Keeps o₀ s) : Keeps o₀ (linkRetrain lanes s) := by
  dsimp only [linkRetrain]
  with_reducible repeat' (first | assumption | (apply keeps_foldl; intro _ _ _) | apply keeps_count | apply keeps_modLink | apply keeps_when_ | intro _ _ | split | (refine keeps_mk _ _ _ _ _ _ _ _ _ _ _ _ _ _ _ _ _ _ _ _ _ _ _ _ _ _ _ _ _ _ rfl rfl rfl ?_; first | assumption | (apply keeps_foldl; intro _ _ _) | apply keeps_count | apply keeps_modLink | split))

theorem keeps_noteReady {o₀ : State} (s : State) (h₀ : Keeps o₀ s) : Keeps o₀ (noteReady s) := by
  dsimp only [noteReady]
  with_reducible repeat' (first | assumption | (apply keeps_foldl; intro _ _ _) | apply keeps_modLink | apply keeps_when_ | intro _ _ | split | (refine keeps_mk _ _ _ _ _ _ _ _ _ _ _ _ _ _ _ _ _ _ _ _ _ _ _ _ _ _ _ _ _ _ rfl rfl rfl ?_; first | assumption | (apply keeps_foldl; intro _ _ _) | apply keeps_modLink | split))

theorem keeps_linkUp {o₀ : State} (lanes : Nat) (s : State) (h₀ : Keeps o₀ s) : Keeps o₀ (linkUp lanes s) := by
  dsimp only [linkUp]
  with_reducible repeat' (first | assumption | (apply keeps_foldl; intro _ _ _) | apply keeps_noteReady | apply keeps_modLink | apply keeps_when_ | intro _ _ | split | (refine keeps_mk _ _ _ _ _ _ _ _ _ _ _ _ _ _ _ _ _ _ _ _ _ _ _ _ _ _ _ _ _ _ rfl rfl rfl ?_; first | assumption | (apply keeps_foldl; intro _ _ _) | apply keeps_noteReady | apply keeps_modLink | split))

theorem keeps_utsAct {o₀ : State} (st : Nat) (s : State) (h₀ : Keeps o₀ s) : Keeps o₀ (utsAct st s) := by
  dsimp only [utsAct]
  with_reducible repeat' (first | assumption | (apply keeps_foldl; intro _ _ _) | apply keeps_modLink | apply keeps_linkUp | apply keeps_logEvent | apply keeps_linkRetrain | apply keeps_when_ | intro _ _ | split | (refine keeps_mk _ _ _ _ _ _ _ _ _ _ _ _ _ _ _ _ _ _ _ _ _ _ _ _ _ _ _ _ _ _ rfl rfl rfl ?_; first | assumption | (apply keeps_foldl; intro _ _ _) | apply keeps_modLink | apply keeps_linkUp | apply keeps_logEvent | apply keeps_linkRetrain | split))

theorem keeps_riseAtBoundary {o₀ : State} (s : State) (h₀ : Keeps o₀ s) : Keeps o₀ (riseAtBoundary s) := by
  dsimp only [riseAtBoundary]
  with_reducible repeat' (first | assumption | (apply keeps_foldl; intro _ _ _) | apply keeps_modLink | apply keeps_linkRetrain | apply keeps_when_ | intro _ _ | split | (refine keeps_mk _ _ _ _ _ _ _ _ _ _ _ _ _ _ _ _ _ _ _ _ _ _ _ _ _ _ _ _ _ _ rfl rfl rfl ?_; first | assumption | (apply keeps_foldl; intro _ _ _) | apply keeps_modLink | apply keeps_linkRetrain | split))

theorem keeps_endSession {o₀ : State} (s : State) (h₀ : Keeps o₀ s) : Keeps o₀ (endSession s) := by
  dsimp only [endSession]
  with_reducible repeat' (first | assumption | (apply keeps_foldl; intro _ _ _) | apply keeps_when_ | intro _ _ | split | (refine keeps_mk _ _ _ _ _ _ _ _ _ _ _ _ _ _ _ _ _ _ _ _ _ _ _ _ _ _ _ _ _ _ rfl rfl rfl ?_; first | assumption | (apply keeps_foldl; intro _ _ _) | split))

theorem keeps_freePool {o₀ : State} (x : Nat) (s : State) (h₀ : Keeps o₀ s) : Keeps o₀ (freePool x s) := by
  dsimp only [freePool]
  with_reducible repeat' (first | assumption | (apply keeps_foldl; intro _ _ _) | apply keeps_when_ | intro _ _ | split | (refine keeps_mk _ _ _ _ _ _ _ _ _ _ _ _ _ _ _ _ _ _ _ _ _ _ _ _ _ _ _ _ _ _ rfl rfl rfl ?_; first | assumption | (apply keeps_foldl; intro _ _ _) | split))

theorem keeps_discardPending {o₀ : State} (s : State) (h₀ : Keeps o₀ s) : Keeps o₀ (discardPending s) := by
  dsimp only [discardPending]
  with_reducible repeat' (first | assumption | (apply keeps_foldl; intro _ _ _) | apply keeps_freePool | apply keeps_count | apply keeps_modLink | apply keeps_when_ | intro _ _ | split | (refine keeps_mk _ _ _ _ _ _ _ _ _ _ _ _ _ _ _ _ _ _ _ _ _ _ _ _ _ _ _ _ _ _ rfl rfl rfl ?_; first | assumption | (apply keeps_foldl; intro _ _ _) | apply keeps_freePool | apply keeps_count | apply keeps_modLink | split))

theorem keeps_linkDown {o₀ : State} (s : State) (h₀ : Keeps o₀ s) : Keeps o₀ (linkDown s) := by
  dsimp only [linkDown]
  with_reducible repeat' (first | assumption | (apply keeps_foldl; intro _ _ _) | apply keeps_discardPending | apply keeps_endSession | apply keeps_modLink | apply keeps_stage | apply keeps_count | apply keeps_logEvent | apply keeps_when_ | intro _ _ | split | (refine keeps_mk _ _ _ _ _ _ _ _ _ _ _ _ _ _ _ _ _ _ _ _ _ _ _ _ _ _ _ _ _ _ rfl rfl rfl ?_; first | assumption | (apply keeps_foldl; intro _ _ _) | apply keeps_discardPending | apply keeps_endSession | apply keeps_modLink | apply keeps_stage | apply keeps_count | apply keeps_logEvent | split))

theorem keeps_wakeLanes {o₀ : State} (s : State) (h₀ : Keeps o₀ s) : Keeps o₀ (wakeLanes s) := by
  dsimp only [wakeLanes]
  with_reducible repeat' (first | assumption | (apply keeps_foldl; intro _ _ _) | apply keeps_modLink | apply keeps_when_ | intro _ _ | split | (refine keeps_mk _ _ _ _ _ _ _ _ _ _ _ _ _ _ _ _ _ _ _ _ _ _ _ _ _ _ _ _ _ _ rfl rfl rfl ?_; first | assumption | (apply keeps_foldl; intro _ _ _) | apply keeps_modLink | split))

theorem keeps_modSheetOut {o₀ : State} (n : Nat) (f : SheetOut → SheetOut) (s : State) (h₀ : Keeps o₀ s) : Keeps o₀ (modSheetOut n f s) := by
  dsimp only [modSheetOut]
  with_reducible repeat' (first | assumption | (apply keeps_foldl; intro _ _ _) | apply keeps_when_ | intro _ _ | split | (refine keeps_mk _ _ _ _ _ _ _ _ _ _ _ _ _ _ _ _ _ _ _ _ _ _ _ _ _ _ _ _ _ _ rfl rfl rfl ?_; first | assumption | (apply keeps_foldl; intro _ _ _) | split))

theorem keeps_activateSession {o₀ : State} (s : State) (h₀ : Keeps o₀ s) : Keeps o₀ (activateSession s) := by
  dsimp only [activateSession]
  with_reducible repeat' (first | assumption | (apply keeps_foldl; intro _ _ _) | apply keeps_count | apply keeps_logEvent | apply keeps_when_ | intro _ _ | split | (refine keeps_mk _ _ _ _ _ _ _ _ _ _ _ _ _ _ _ _ _ _ _ _ _ _ _ _ _ _ _ _ _ _ rfl rfl rfl ?_; first | assumption | (apply keeps_foldl; intro _ _ _) | apply keeps_count | apply keeps_logEvent | split))

theorem keeps_formPacket {o₀ : State} (p : Pkt) (s : State) (h₀ : Keeps o₀ s) : Keeps o₀ ((formPacket p s).2) := by
  dsimp only [formPacket]
  with_reducible repeat' (first | assumption | (apply keeps_foldl; intro _ _ _) | apply keeps_modSheetOut | apply keeps_when_ | intro _ _ | split | (refine keeps_mk _ _ _ _ _ _ _ _ _ _ _ _ _ _ _ _ _ _ _ _ _ _ _ _ _ _ _ _ _ _ rfl rfl rfl ?_; first | assumption | (apply keeps_foldl; intro _ _ _) | apply keeps_modSheetOut | split))

theorem keeps_formPacket_eq {o₀ t₀ : State} {a₀ : List Byte} {p : Pkt} {s : State} (e₀ : formPacket p s = (a₀, t₀)) (h₀ : Keeps o₀ s) :
    Keeps o₀ t₀ := by
  have h₁ := keeps_formPacket (o₀ := o₀) p s h₀
  rw [e₀] at h₁
  exact h₁

theorem keeps_helloSent {o₀ : State} (p : Pkt) (at_ : Nat) (s : State) (h₀ : Keeps o₀ s) : Keeps o₀ (helloSent p at_ s) := by
  dsimp only [helloSent]
  with_reducible repeat' (first | assumption | (apply keeps_foldl; intro _ _ _) | apply keeps_when_ | intro _ _ | split | (refine keeps_mk _ _ _ _ _ _ _ _ _ _ _ _ _ _ _ _ _ _ _ _ _ _ _ _ _ _ _ _ _ _ rfl rfl rfl ?_; first | assumption | (apply keeps_foldl; intro _ _ _) | split))

theorem keeps_sendPacket {o₀ : State} (p : Pkt) (s : State) (h₀ : Keeps o₀ s) : Keeps o₀ (sendPacket p s) := by
  dsimp only [sendPacket]
  with_reducible repeat' (first | assumption | (apply keeps_foldl; intro _ _ _) | apply keeps_formPacket | refine keeps_formPacket_eq ‹_› ?_ | apply keeps_modLink | apply keeps_activateSession | apply keeps_helloSent | apply keeps_freePool | apply keeps_when_ | intro _ _ | split | (refine keeps_mk _ _ _ _ _ _ _ _ _ _ _ _ _ _ _ _ _ _ _ _ _ _ _ _ _ _ _ _ _ _ rfl rfl rfl ?_; first | assumption | (apply keeps_foldl; intro _ _ _) | apply keeps_formPacket | refine keeps_formPacket_eq ‹_› ?_ | apply keeps_modLink | apply keeps_activateSession | apply keeps_helloSent | apply keeps_freePool | split))

theorem keeps_settleChecker {o₀ : State} (lane errors : Nat) (s : State) (h₀ : Keeps o₀ s) : Keeps o₀ (settleChecker lane errors s) := by
  dsimp only [settleChecker]
  with_reducible repeat' (first | assumption | (apply keeps_foldl; intro _ _ _) | apply keeps_modLink | apply keeps_count | apply keeps_when_ | intro _ _ | split | (refine keeps_mk _ _ _ _ _ _ _ _ _ _ _ _ _ _ _ _ _ _ _ _ _ _ _ _ _ _ _ _ _ _ rfl rfl rfl ?_; first | assumption | (apply keeps_foldl; intro _ _ _) | apply keeps_modLink | apply keeps_count | split))

theorem keeps_settleCheckers {o₀ : State} (s : State) (h₀ : Keeps o₀ s) : Keeps o₀ (settleCheckers s) := by
  dsimp only [settleCheckers]
  with_reducible repeat' (first | assumption | (apply keeps_foldl; intro _ _ _) | apply keeps_settleChecker | apply keeps_when_ | intro _ _ | split | (refine keeps_mk _ _ _ _ _ _ _ _ _ _ _ _ _ _ _ _ _ _ _ _ _ _ _ _ _ _ _ _ _ _ rfl rfl rfl ?_; first | assumption | (apply keeps_foldl; intro _ _ _) | apply keeps_settleChecker | split))

theorem keeps_laneTestEnd {o₀ : State} (s : State) (h₀ : Keeps o₀ s) : Keeps o₀ (laneTestEnd s) := by
  dsimp only [laneTestEnd]
  with_reducible repeat' (first | assumption | (apply keeps_foldl; intro _ _ _) | apply keeps_modLink | apply keeps_linkRetrain | apply keeps_count | apply keeps_when_ | intro _ _ | split | (refine keeps_mk _ _ _ _ _ _ _ _ _ _ _ _ _ _ _ _ _ _ _ _ _ _ _ _ _ _ _ _ _ _ rfl rfl rfl ?_; first | assumption | (apply keeps_foldl; intro _ _ _) | apply keeps_modLink | apply keeps_linkRetrain | apply keeps_count | split))

theorem keeps_endLaneTest {o₀ : State} (s : State) (h₀ : Keeps o₀ s) : Keeps o₀ (endLaneTest s) := by
  dsimp only [endLaneTest]
  with_reducible repeat' (first | assumption | (apply keeps_foldl; intro _ _ _) | apply keeps_modLink | apply keeps_laneTestEnd | apply keeps_settleCheckers | apply keeps_when_ | intro _ _ | split | (refine keeps_mk _ _ _ _ _ _ _ _ _ _ _ _ _ _ _ _ _ _ _ _ _ _ _ _ _ _ _ _ _ _ rfl rfl rfl ?_; first | assumption | (apply keeps_foldl; intro _ _ _) | apply keeps_modLink | apply keeps_laneTestEnd | apply keeps_settleCheckers | split))

/-! ## Window -/

theorem keeps_modChain {o₀ : State} (f : Chain → Chain) (s : State) (h₀ : Keeps o₀ s) : Keeps o₀ (modChain f s) := by
  dsimp only [modChain]
  with_reducible repeat' (first | assumption | (apply keeps_foldl; intro _ _ _) | apply keeps_when_ | intro _ _ | split | (refine keeps_mk _ _ _ _ _ _ _ _ _ _ _ _ _ _ _ _ _ _ _ _ _ _ _ _ _ _ _ _ _ _ rfl rfl rfl ?_; first | assumption | (apply keeps_foldl; intro _ _ _) | split))

theorem keeps_lightDiag {o₀ : State} (s : State) (h₀ : Keeps o₀ s) : Keeps o₀ (lightDiag s) := by
  dsimp only [lightDiag]
  with_reducible repeat' (first | assumption | (apply keeps_foldl; intro _ _ _) | apply keeps_modChain | apply keeps_when_ | intro _ _ | split | (refine keeps_mk _ _ _ _ _ _ _ _ _ _ _ _ _ _ _ _ _ _ _ _ _ _ _ _ _ _ _ _ _ _ rfl rfl rfl ?_; first | assumption | (apply keeps_foldl; intro _ _ _) | apply keeps_modChain | split))

/-! ## SafetyOps -/

theorem keeps_cutPulses {o₀ : State} (s : State) (h₀ : Keeps o₀ s) : Keeps o₀ (cutPulses s) := by
  dsimp only [cutPulses]
  with_reducible repeat' (first | assumption | (apply keeps_foldl; intro _ _ _) | apply keeps_lightDiag | apply keeps_when_ | intro _ _ | split | (refine keeps_mk _ _ _ _ _ _ _ _ _ _ _ _ _ _ _ _ _ _ _ _ _ _ _ _ _ _ _ _ _ _ rfl rfl rfl ?_; first | assumption | (apply keeps_foldl; intro _ _ _) | apply keeps_lightDiag | split))

theorem keeps_unfire {o₀ : State} (x : Shot) (s : State) (h₀ : Keeps o₀ s) : Keeps o₀ (unfire x s) := by
  dsimp only [unfire]
  with_reducible repeat' (first | assumption | (apply keeps_foldl; intro _ _ _) | apply keeps_modBank | apply keeps_when_ | intro _ _ | split | (refine keeps_mk _ _ _ _ _ _ _ _ _ _ _ _ _ _ _ _ _ _ _ _ _ _ _ _ _ _ _ _ _ _ rfl rfl rfl ?_; first | assumption | (apply keeps_foldl; intro _ _ _) | apply keeps_modBank | split))

theorem keeps_dropShots {o₀ : State} (s : State) (h₀ : Keeps o₀ s) : Keeps o₀ (dropShots s) := by
  have step : ∀ l : List Shot, Keeps o₀ (l.foldr unfire s) := fun l => by
    induction l with
    | nil => exact h₀
    | cons x l h => exact keeps_unfire x _ h
  have h := step (s.seq.shots.filter (fun x => decide (s.now < x.fire)))
  exact ⟨h.pending, h.now, h.localTime, h.subTap, h.nor⟩

theorem keeps_stopFiring {o₀ : State} (cause : Nat) (safe : Bool) (s : State) (h₀ : Keeps o₀ s) : Keeps o₀ (stopFiring cause safe s) := by
  dsimp only [stopFiring]
  with_reducible repeat' (first | assumption | (apply keeps_foldl; intro _ _ _) | apply keeps_when_ | intro _ _ | split | (refine keeps_mk _ _ _ _ _ _ _ _ _ _ _ _ _ _ _ _ _ _ _ _ _ _ _ _ _ _ _ _ _ _ rfl rfl rfl ?_; first | assumption | (apply keeps_foldl; intro _ _ _) | split))

theorem keeps_stopForDip {o₀ : State} (s : State) (h₀ : Keeps o₀ s) : Keeps o₀ (stopForDip s) := by
  dsimp only [stopForDip]
  with_reducible repeat' (first | assumption | (apply keeps_foldl; intro _ _ _) | apply keeps_dropShots | apply keeps_cutPulses | apply keeps_when_ | intro _ _ | split | (refine keeps_mk _ _ _ _ _ _ _ _ _ _ _ _ _ _ _ _ _ _ _ _ _ _ _ _ _ _ _ _ _ _ rfl rfl rfl ?_; first | assumption | (apply keeps_foldl; intro _ _ _) | apply keeps_dropShots | apply keeps_cutPulses | split))

theorem keeps_raiseTrigger {o₀ : State} (cause : Nat) (s : State) (h₀ : Keeps o₀ s) : Keeps o₀ (raiseTrigger cause s) := by
  dsimp only [raiseTrigger]
  with_reducible repeat' (first | assumption | (apply keeps_foldl; intro _ _ _) | apply keeps_when_ | intro _ _ | split | (refine keeps_mk _ _ _ _ _ _ _ _ _ _ _ _ _ _ _ _ _ _ _ _ _ _ _ _ _ _ _ _ _ _ rfl rfl rfl ?_; first | assumption | (apply keeps_foldl; intro _ _ _) | split))

theorem keeps_urgentAdd {o₀ : State} (supply : Bool) (s : State) (h₀ : Keeps o₀ s) : Keeps o₀ (urgentAdd supply s) := by
  dsimp only [urgentAdd]
  with_reducible repeat' (first | assumption | (apply keeps_foldl; intro _ _ _) | apply keeps_count | apply keeps_when_ | intro _ _ | split | (refine keeps_mk _ _ _ _ _ _ _ _ _ _ _ _ _ _ _ _ _ _ _ _ _ _ _ _ _ _ _ _ _ _ rfl rfl rfl ?_; first | assumption | (apply keeps_foldl; intro _ _ _) | apply keeps_count | split))

theorem keeps_abandonRun {o₀ : State} (result : Nat) (s : State) (h₀ : Keeps o₀ s) : Keeps o₀ (abandonRun result s) := by
  dsimp only [abandonRun]
  with_reducible repeat' (first | assumption | (apply keeps_foldl; intro _ _ _) | apply keeps_count | apply keeps_logEvent | apply keeps_when_ | intro _ _ | split | (refine keeps_mk _ _ _ _ _ _ _ _ _ _ _ _ _ _ _ _ _ _ _ _ _ _ _ _ _ _ _ _ _ _ rfl rfl rfl ?_; first | assumption | (apply keeps_foldl; intro _ _ _) | apply keeps_count | apply keeps_logEvent | split))

theorem keeps_withdrawPermit {o₀ : State} (d : Side) (s : State) (h₀ : Keeps o₀ s) : Keeps o₀ (withdrawPermit d s) := by
  dsimp only [withdrawPermit]
  with_reducible repeat' (first | assumption | (apply keeps_foldl; intro _ _ _) | apply keeps_abandonRun | apply keeps_stopFiring | apply keeps_modSide | apply keeps_cutPulses | apply keeps_when_ | intro _ _ | split | (refine keeps_mk _ _ _ _ _ _ _ _ _ _ _ _ _ _ _ _ _ _ _ _ _ _ _ _ _ _ _ _ _ _ rfl rfl rfl ?_; first | assumption | (apply keeps_foldl; intro _ _ _) | apply keeps_abandonRun | apply keeps_stopFiring | apply keeps_modSide | apply keeps_cutPulses | split))

theorem keeps_checkPermit {o₀ : State} (d : Side) (s : State) (h₀ : Keeps o₀ s) : Keeps o₀ (checkPermit d s) := by
  dsimp only [checkPermit]
  with_reducible repeat' (first | assumption | (apply keeps_foldl; intro _ _ _) | apply keeps_withdrawPermit | apply keeps_when_ | intro _ _ | split | (refine keeps_mk _ _ _ _ _ _ _ _ _ _ _ _ _ _ _ _ _ _ _ _ _ _ _ _ _ _ _ _ _ _ rfl rfl rfl ?_; first | assumption | (apply keeps_foldl; intro _ _ _) | apply keeps_withdrawPermit | split))

theorem keeps_sequencerSafeStop {o₀ : State} (s : State) (h₀ : Keeps o₀ s) : Keeps o₀ (sequencerSafeStop s) := by
  dsimp only [sequencerSafeStop]
  with_reducible repeat' (first | assumption | (apply keeps_foldl; intro _ _ _) | apply keeps_stopFiring | apply keeps_dropShots | apply keeps_cutPulses | apply keeps_refuseMode | apply keeps_wakeLanes | apply keeps_endLaneTest | apply keeps_abandonRun | apply keeps_urgentAdd | apply keeps_raiseTrigger | apply keeps_count | apply keeps_logEvent | apply keeps_when_ | intro _ _ | split | (refine keeps_mk _ _ _ _ _ _ _ _ _ _ _ _ _ _ _ _ _ _ _ _ _ _ _ _ _ _ _ _ _ _ rfl rfl rfl ?_; first | assumption | (apply keeps_foldl; intro _ _ _) | apply keeps_stopFiring | apply keeps_dropShots | apply keeps_cutPulses | apply keeps_refuseMode | apply keeps_wakeLanes | apply keeps_endLaneTest | apply keeps_abandonRun | apply keeps_urgentAdd | apply keeps_raiseTrigger | apply keeps_count | apply keeps_logEvent | split))

theorem keeps_enterSafeStop {o₀ : State} (d : Side) (code : Nat) (s : State) (h₀ : Keeps o₀ s) : Keeps o₀ (enterSafeStop d code s) := by
  dsimp only [enterSafeStop]
  with_reducible repeat' (first | assumption | (apply keeps_foldl; intro _ _ _) | apply keeps_sequencerSafeStop | apply keeps_modSide | apply keeps_lightDiag | apply keeps_when_ | intro _ _ | split | (refine keeps_mk _ _ _ _ _ _ _ _ _ _ _ _ _ _ _ _ _ _ _ _ _ _ _ _ _ _ _ _ _ _ rfl rfl rfl ?_; first | assumption | (apply keeps_foldl; intro _ _ _) | apply keeps_sequencerSafeStop | apply keeps_modSide | apply keeps_lightDiag | split))

theorem keeps_enterSafeStopBoth {o₀ : State} (code : Nat) (s : State) (h₀ : Keeps o₀ s) : Keeps o₀ (enterSafeStopBoth code s) := by
  dsimp only [enterSafeStopBoth]
  with_reducible repeat' (first | assumption | (apply keeps_foldl; intro _ _ _) | apply keeps_enterSafeStop | apply keeps_when_ | intro _ _ | split | (refine keeps_mk _ _ _ _ _ _ _ _ _ _ _ _ _ _ _ _ _ _ _ _ _ _ _ _ _ _ _ _ _ _ rfl rfl rfl ?_; first | assumption | (apply keeps_foldl; intro _ _ _) | apply keeps_enterSafeStop | split))

/-! ## SafetyChannels -/

theorem keeps_actDemand {o₀ : State} (d : Side) (demand : Nat) (open_ : Bool) (s : State) (h₀ : Keeps o₀ s) : Keeps o₀ (actDemand d demand open_ s) := by
  dsimp only [actDemand]
  with_reducible repeat' (first | assumption | (apply keeps_foldl; intro _ _ _) | apply keeps_enterSafeStop | apply keeps_modSide | apply keeps_checkPermit | apply keeps_when_ | intro _ _ | split | (refine keeps_mk _ _ _ _ _ _ _ _ _ _ _ _ _ _ _ _ _ _ _ _ _ _ _ _ _ _ _ _ _ _ rfl rfl rfl ?_; first | assumption | (apply keeps_foldl; intro _ _ _) | apply keeps_enterSafeStop | apply keeps_modSide | apply keeps_checkPermit | split))

theorem keeps_channelMessage {o₀ : State} (d : Side) (m : List Byte) (s : State) (h₀ : Keeps o₀ s) : Keeps o₀ (channelMessage d m s) := by
  dsimp only [channelMessage]
  with_reducible repeat' (first | assumption | (apply keeps_foldl; intro _ _ _) | apply keeps_modSide | apply keeps_actDemand | apply keeps_when_ | intro _ _ | split | (refine keeps_mk _ _ _ _ _ _ _ _ _ _ _ _ _ _ _ _ _ _ _ _ _ _ _ _ _ _ _ _ _ _ rfl rfl rfl ?_; first | assumption | (apply keeps_foldl; intro _ _ _) | apply keeps_modSide | apply keeps_actDemand | split))

theorem keeps_safetyMessageBody {o₀ : State} (m : List Byte) (s : State) (h₀ : Keeps o₀ s) : Keeps o₀ (safetyMessageBody m s) := by
  dsimp only [safetyMessageBody]
  with_reducible repeat' (first | assumption | (apply keeps_foldl; intro _ _ _) | apply keeps_channelMessage | apply keeps_count | apply keeps_when_ | intro _ _ | split | (refine keeps_mk _ _ _ _ _ _ _ _ _ _ _ _ _ _ _ _ _ _ _ _ _ _ _ _ _ _ _ _ _ _ rfl rfl rfl ?_; first | assumption | (apply keeps_foldl; intro _ _ _) | apply keeps_channelMessage | apply keeps_count | split))

theorem keeps_judgeWord {o₀ : State} (d : Side) (crcOk : Bool) (interval : Nat) (s : State) (h₀ : Keeps o₀ s) : Keeps o₀ (judgeWord d crcOk interval s) := by
  dsimp only [judgeWord]
  with_reducible repeat' (first | assumption | (apply keeps_foldl; intro _ _ _) | apply keeps_modSide | apply keeps_enterSafeStop | apply keeps_when_ | intro _ _ | split | (refine keeps_mk _ _ _ _ _ _ _ _ _ _ _ _ _ _ _ _ _ _ _ _ _ _ _ _ _ _ _ _ _ _ rfl rfl rfl ?_; first | assumption | (apply keeps_foldl; intro _ _ _) | apply keeps_modSide | apply keeps_enterSafeStop | split))

theorem keeps_compareWords {o₀ : State} (s : State) (h₀ : Keeps o₀ s) : Keeps o₀ (compareWords s) := by
  dsimp only [compareWords]
  with_reducible repeat' (first | assumption | (apply keeps_foldl; intro _ _ _) | apply keeps_enterSafeStopBoth | apply keeps_when_ | intro _ _ | split | (refine keeps_mk _ _ _ _ _ _ _ _ _ _ _ _ _ _ _ _ _ _ _ _ _ _ _ _ _ _ _ _ _ _ rfl rfl rfl ?_; first | assumption | (apply keeps_foldl; intro _ _ _) | apply keeps_enterSafeStopBoth | split))

theorem keeps_releaseMessage {o₀ : State} (s : State) (h₀ : Keeps o₀ s) : Keeps o₀ (releaseMessage s) := by
  dsimp only [releaseMessage]
  with_reducible repeat' (first | assumption | (apply keeps_foldl; intro _ _ _) | apply keeps_due1 | apply keeps_when_ | intro _ _ | split | (refine keeps_mk _ _ _ _ _ _ _ _ _ _ _ _ _ _ _ _ _ _ _ _ _ _ _ _ _ _ _ _ _ _ rfl rfl rfl ?_; first | assumption | (apply keeps_foldl; intro _ _ _) | apply keeps_due1 | split))

theorem keeps_removeTorque {o₀ : State} (d : Side) (s : State) (h₀ : Keeps o₀ s) : Keeps o₀ (removeTorque d s) := by
  dsimp only [removeTorque]
  with_reducible repeat' (first | assumption | (apply keeps_foldl; intro _ _ _) | apply keeps_modSide | apply keeps_when_ | intro _ _ | split | (refine keeps_mk _ _ _ _ _ _ _ _ _ _ _ _ _ _ _ _ _ _ _ _ _ _ _ _ _ _ _ _ _ _ rfl rfl rfl ?_; first | assumption | (apply keeps_foldl; intro _ _ _) | apply keeps_modSide | split))

theorem keeps_judgeTorque {o₀ : State} (d : Side) (s : State) (h₀ : Keeps o₀ s) : Keeps o₀ (judgeTorque d s) := by
  dsimp only [judgeTorque]
  with_reducible repeat' (first | assumption | (apply keeps_foldl; intro _ _ _) | apply keeps_removeTorque | apply keeps_when_ | intro _ _ | split | (refine keeps_mk _ _ _ _ _ _ _ _ _ _ _ _ _ _ _ _ _ _ _ _ _ _ _ _ _ _ _ _ _ _ rfl rfl rfl ?_; first | assumption | (apply keeps_foldl; intro _ _ _) | apply keeps_removeTorque | split))

theorem keeps_leaveWindow {o₀ : State} (d : Side) (s : State) (h₀ : Keeps o₀ s) : Keeps o₀ (leaveWindow d s) := by
  dsimp only [leaveWindow]
  with_reducible repeat' (first | assumption | (apply keeps_foldl; intro _ _ _) | apply keeps_modSide | apply keeps_count | apply keeps_checkPermit | apply keeps_when_ | intro _ _ | split | (refine keeps_mk _ _ _ _ _ _ _ _ _ _ _ _ _ _ _ _ _ _ _ _ _ _ _ _ _ _ _ _ _ _ rfl rfl rfl ?_; first | assumption | (apply keeps_foldl; intro _ _ _) | apply keeps_modSide | apply keeps_count | apply keeps_checkPermit | split))

theorem keeps_safetyEdge {o₀ : State} (d : Side) (code : BitVec 3) (s : State) (h₀ : Keeps o₀ s) : Keeps o₀ (safetyEdge d code s) := by
  dsimp only [safetyEdge]
  with_reducible repeat' (first | assumption | (apply keeps_foldl; intro _ _ _) | apply keeps_modSide | apply keeps_leaveWindow | apply keeps_judgeTorque | apply keeps_when_ | intro _ _ | split | (refine keeps_mk _ _ _ _ _ _ _ _ _ _ _ _ _ _ _ _ _ _ _ _ _ _ _ _ _ _ _ _ _ _ rfl rfl rfl ?_; first | assumption | (apply keeps_foldl; intro _ _ _) | apply keeps_modSide | apply keeps_leaveWindow | apply keeps_judgeTorque | split))

theorem keeps_bothAtRest {o₀ : State} (s : State) (h₀ : Keeps o₀ s) : Keeps o₀ (bothAtRest s) := by
  dsimp only [bothAtRest]
  with_reducible repeat' (first | assumption | (apply keeps_foldl; intro _ _ _) | apply keeps_when_ | intro _ _ | split | (refine keeps_mk _ _ _ _ _ _ _ _ _ _ _ _ _ _ _ _ _ _ _ _ _ _ _ _ _ _ _ _ _ _ rfl rfl rfl ?_; first | assumption | (apply keeps_foldl; intro _ _ _) | split))

theorem keeps_gapImplausible {o₀ : State} (d : Side) (s : State) (h₀ : Keeps o₀ s) : Keeps o₀ (gapImplausible d s) := by
  dsimp only [gapImplausible]
  with_reducible repeat' (first | assumption | (apply keeps_foldl; intro _ _ _) | apply keeps_modSide | apply keeps_count | apply keeps_checkPermit | apply keeps_enterSafeStop | apply keeps_when_ | intro _ _ | split | (refine keeps_mk _ _ _ _ _ _ _ _ _ _ _ _ _ _ _ _ _ _ _ _ _ _ _ _ _ _ _ _ _ _ rfl rfl rfl ?_; first | assumption | (apply keeps_foldl; intro _ _ _) | apply keeps_modSide | apply keeps_count | apply keeps_checkPermit | apply keeps_enterSafeStop | split))

theorem keeps_restorePermit {o₀ : State} (d : Side) (s : State) (h₀ : Keeps o₀ s) : Keeps o₀ (restorePermit d s) := by
  dsimp only [restorePermit]
  with_reducible repeat' (first | assumption | (apply keeps_foldl; intro _ _ _) | apply keeps_modSide | apply keeps_withdrawPermit | apply keeps_when_ | intro _ _ | split | (refine keeps_mk _ _ _ _ _ _ _ _ _ _ _ _ _ _ _ _ _ _ _ _ _ _ _ _ _ _ _ _ _ _ rfl rfl rfl ?_; first | assumption | (apply keeps_foldl; intro _ _ _) | apply keeps_modSide | apply keeps_withdrawPermit | split))

theorem keeps_bnMarkerAt {o₀ : State} (d : Side) (s : State) (h₀ : Keeps o₀ s) : Keeps o₀ (bnMarkerAt d s) := by
  dsimp only [bnMarkerAt]
  with_reducible repeat' (first | assumption | (apply keeps_foldl; intro _ _ _) | apply keeps_restorePermit | apply keeps_gapImplausible | apply keeps_modSide | apply keeps_when_ | intro _ _ | split | (refine keeps_mk _ _ _ _ _ _ _ _ _ _ _ _ _ _ _ _ _ _ _ _ _ _ _ _ _ _ _ _ _ _ rfl rfl rfl ?_; first | assumption | (apply keeps_foldl; intro _ _ _) | apply keeps_restorePermit | apply keeps_gapImplausible | apply keeps_modSide | split))

theorem keeps_energyCheck {o₀ : State} (d : Side) (b at_ : Nat) (s : State) (h₀ : Keeps o₀ s) : Keeps o₀ (energyCheck d b at_ s) := by
  dsimp only [energyCheck]
  with_reducible repeat' (first | assumption | (apply keeps_foldl; intro _ _ _) | apply keeps_modSide | apply keeps_count | apply keeps_enterSafeStop | apply keeps_when_ | intro _ _ | split | (refine keeps_mk _ _ _ _ _ _ _ _ _ _ _ _ _ _ _ _ _ _ _ _ _ _ _ _ _ _ _ _ _ _ rfl rfl rfl ?_; first | assumption | (apply keeps_foldl; intro _ _ _) | apply keeps_modSide | apply keeps_count | apply keeps_enterSafeStop | split))

theorem keeps_padPulse {o₀ : State} (d : Side) (b width : Nat) (s : State) (h₀ : Keeps o₀ s) : Keeps o₀ (padPulse d b width s) := by
  dsimp only [padPulse]
  with_reducible repeat' (first | assumption | (apply keeps_foldl; intro _ _ _) | apply keeps_enterSafeStop | apply keeps_gapImplausible | apply keeps_modSide | apply keeps_when_ | intro _ _ | split | (refine keeps_mk _ _ _ _ _ _ _ _ _ _ _ _ _ _ _ _ _ _ _ _ _ _ _ _ _ _ _ _ _ _ rfl rfl rfl ?_; first | assumption | (apply keeps_foldl; intro _ _ _) | apply keeps_enterSafeStop | apply keeps_gapImplausible | apply keeps_modSide | split))

theorem keeps_afterInputs {o₀ : State} (d : Side) (before t : State) (h₀ : Keeps o₀ t) : Keeps o₀ (afterInputs d before t) := by
  dsimp only [afterInputs]
  with_reducible repeat' (first | assumption | (apply keeps_foldl; intro _ _ _) | apply keeps_count | apply keeps_logEvent | apply keeps_enterSafeStop | apply keeps_when_ | intro _ _ | split | (refine keeps_mk _ _ _ _ _ _ _ _ _ _ _ _ _ _ _ _ _ _ _ _ _ _ _ _ _ _ _ _ _ _ rfl rfl rfl ?_; first | assumption | (apply keeps_foldl; intro _ _ _) | apply keeps_count | apply keeps_logEvent | apply keeps_enterSafeStop | split))

theorem keeps_startInputs {o₀ : State} (d : Side) (s : State) (h₀ : Keeps o₀ s) : Keeps o₀ (startInputs d s) := by
  dsimp only [startInputs]
  with_reducible repeat' (first | assumption | (apply keeps_foldl; intro _ _ _) | apply keeps_afterInputs | apply keeps_modSide | apply keeps_when_ | intro _ _ | split | (refine keeps_mk _ _ _ _ _ _ _ _ _ _ _ _ _ _ _ _ _ _ _ _ _ _ _ _ _ _ _ _ _ _ rfl rfl rfl ?_; first | assumption | (apply keeps_foldl; intro _ _ _) | apply keeps_afterInputs | apply keeps_modSide | split))

theorem keeps_soutFails {o₀ : State} (d : Side) (s : State) (h₀ : Keeps o₀ s) : Keeps o₀ (soutFails d s) := by
  dsimp only [soutFails]
  with_reducible repeat' (first | assumption | (apply keeps_foldl; intro _ _ _) | apply keeps_enterSafeStop | apply keeps_modSide | apply keeps_when_ | intro _ _ | split | (refine keeps_mk _ _ _ _ _ _ _ _ _ _ _ _ _ _ _ _ _ _ _ _ _ _ _ _ _ _ _ _ _ _ rfl rfl rfl ?_; first | assumption | (apply keeps_foldl; intro _ _ _) | apply keeps_enterSafeStop | apply keeps_modSide | split))

/-! ## Motor -/

theorem keeps_modMotor {o₀ : State} (f : Motor → Motor) (s : State) (h₀ : Keeps o₀ s) : Keeps o₀ (modMotor f s) := by
  dsimp only [modMotor]
  with_reducible repeat' (first | assumption | (apply keeps_foldl; intro _ _ _) | apply keeps_when_ | intro _ _ | split | (refine keeps_mk _ _ _ _ _ _ _ _ _ _ _ _ _ _ _ _ _ _ _ _ _ _ _ _ _ _ _ _ _ _ rfl rfl rfl ?_; first | assumption | (apply keeps_foldl; intro _ _ _) | split))

theorem keeps_motorFault {o₀ : State} (c : Counter) (s : State) (h₀ : Keeps o₀ s) : Keeps o₀ (motorFault c s) := by
  dsimp only [motorFault]
  with_reducible repeat' (first | assumption | (apply keeps_foldl; intro _ _ _) | apply keeps_count | apply keeps_enterSafeStopBoth | apply keeps_when_ | intro _ _ | split | (refine keeps_mk _ _ _ _ _ _ _ _ _ _ _ _ _ _ _ _ _ _ _ _ _ _ _ _ _ _ _ _ _ _ rfl rfl rfl ?_; first | assumption | (apply keeps_foldl; intro _ _ _) | apply keeps_count | apply keeps_enterSafeStopBoth | split))

theorem keeps_observe {o₀ : State} (code : BitVec 3) (observer : Nat) (s : State) (h₀ : Keeps o₀ s) : Keeps o₀ (observe code observer s) := by
  dsimp only [observe]
  with_reducible repeat' (first | assumption | (apply keeps_foldl; intro _ _ _) | apply keeps_motorFault | apply keeps_modMotor | apply keeps_when_ | intro _ _ | split | (refine keeps_mk _ _ _ _ _ _ _ _ _ _ _ _ _ _ _ _ _ _ _ _ _ _ _ _ _ _ _ _ _ _ rfl rfl rfl ?_; first | assumption | (apply keeps_foldl; intro _ _ _) | apply keeps_motorFault | apply keeps_modMotor | split))

/-! ## Boards -/

theorem keeps_showBankStates {o₀ : State} (s : State) (h₀ : Keeps o₀ s) : Keeps o₀ (showBankStates s) := by
  dsimp only [showBankStates]
  with_reducible repeat' (first | assumption | (apply keeps_foldl; intro _ _ _) | apply keeps_setBankState | apply keeps_when_ | intro _ _ | split | (refine keeps_mk _ _ _ _ _ _ _ _ _ _ _ _ _ _ _ _ _ _ _ _ _ _ _ _ _ _ _ _ _ _ rfl rfl rfl ?_; first | assumption | (apply keeps_foldl; intro _ _ _) | apply keeps_setBankState | split))

theorem keeps_boardHeat {o₀ : State} (s : State) (h₀ : Keeps o₀ s) : Keeps o₀ (boardHeat s) := by
  dsimp only [boardHeat]
  with_reducible repeat' (first | assumption | (apply keeps_foldl; intro _ _ _) | apply keeps_modBank | apply keeps_when_ | intro _ _ | split | (refine keeps_mk _ _ _ _ _ _ _ _ _ _ _ _ _ _ _ _ _ _ _ _ _ _ _ _ _ _ _ _ _ _ rfl rfl rfl ?_; first | assumption | (apply keeps_foldl; intro _ _ _) | apply keeps_modBank | split))

theorem keeps_applyConfirmed {o₀ : State} (s : State) (h₀ : Keeps o₀ s) : Keeps o₀ (applyConfirmed s) := by
  dsimp only [applyConfirmed]
  with_reducible repeat' (first | assumption | (apply keeps_foldl; intro _ _ _) | apply keeps_modBank | apply keeps_when_ | intro _ _ | split | (refine keeps_mk _ _ _ _ _ _ _ _ _ _ _ _ _ _ _ _ _ _ _ _ _ _ _ _ _ _ _ _ _ _ rfl rfl rfl ?_; first | assumption | (apply keeps_foldl; intro _ _ _) | apply keeps_modBank | split))

/-! ## Bias -/

theorem keeps_modBias {o₀ : State} (f : Bias → Bias) (s : State) (h₀ : Keeps o₀ s) : Keeps o₀ (modBias f s) := by
  dsimp only [modBias]
  with_reducible repeat' (first | assumption | (apply keeps_foldl; intro _ _ _) | apply keeps_when_ | intro _ _ | split | (refine keeps_mk _ _ _ _ _ _ _ _ _ _ _ _ _ _ _ _ _ _ _ _ _ _ _ _ _ _ _ _ _ _ rfl rfl rfl ?_; first | assumption | (apply keeps_foldl; intro _ _ _) | split))

theorem keeps_biasRetarget {o₀ : State} (s : State) (h₀ : Keeps o₀ s) : Keeps o₀ (biasRetarget s) := by
  dsimp only [biasRetarget]
  with_reducible repeat' (first | assumption | (apply keeps_foldl; intro _ _ _) | apply keeps_modBias | apply keeps_when_ | intro _ _ | split | (refine keeps_mk _ _ _ _ _ _ _ _ _ _ _ _ _ _ _ _ _ _ _ _ _ _ _ _ _ _ _ _ _ _ rfl rfl rfl ?_; first | assumption | (apply keeps_foldl; intro _ _ _) | apply keeps_modBias | split))

theorem keeps_biasEnable {o₀ : State} (s : State) (h₀ : Keeps o₀ s) : Keeps o₀ (biasEnable s) := by
  dsimp only [biasEnable]
  with_reducible repeat' (first | assumption | (apply keeps_foldl; intro _ _ _) | apply keeps_biasRetarget | apply keeps_modBias | apply keeps_when_ | intro _ _ | split | (refine keeps_mk _ _ _ _ _ _ _ _ _ _ _ _ _ _ _ _ _ _ _ _ _ _ _ _ _ _ _ _ _ _ rfl rfl rfl ?_; first | assumption | (apply keeps_foldl; intro _ _ _) | apply keeps_biasRetarget | apply keeps_modBias | split))

theorem keeps_biasStep {o₀ : State} (s : State) (h₀ : Keeps o₀ s) : Keeps o₀ (biasStep s) := by
  dsimp only [biasStep]
  with_reducible repeat' (first | assumption | (apply keeps_foldl; intro _ _ _) | apply keeps_count | apply keeps_modBias | apply keeps_when_ | intro _ _ | split | (refine keeps_mk _ _ _ _ _ _ _ _ _ _ _ _ _ _ _ _ _ _ _ _ _ _ _ _ _ _ _ _ _ _ rfl rfl rfl ?_; first | assumption | (apply keeps_foldl; intro _ _ _) | apply keeps_count | apply keeps_modBias | split))

theorem keeps_biasReport {o₀ : State} (s : State) (h₀ : Keeps o₀ s) : Keeps o₀ ((biasReport s).2) := by
  dsimp only [biasReport]
  with_reducible repeat' (first | assumption | (apply keeps_foldl; intro _ _ _) | apply keeps_biasStep | apply keeps_modBias | apply keeps_when_ | intro _ _ | split | (refine keeps_mk _ _ _ _ _ _ _ _ _ _ _ _ _ _ _ _ _ _ _ _ _ _ _ _ _ _ _ _ _ _ rfl rfl rfl ?_; first | assumption | (apply keeps_foldl; intro _ _ _) | apply keeps_biasStep | apply keeps_modBias | split))

theorem keeps_biasReport_eq {o₀ t₀ : State} {a₀ : Int} {s : State} (e₀ : biasReport s = (a₀, t₀)) (h₀ : Keeps o₀ s) :
    Keeps o₀ t₀ := by
  have h₁ := keeps_biasReport (o₀ := o₀) s h₀
  rw [e₀] at h₁
  exact h₁

theorem keeps_biasAtReading {o₀ : State} (s : State) (h₀ : Keeps o₀ s) : Keeps o₀ (biasAtReading s) := by
  dsimp only [biasAtReading]
  with_reducible repeat' (first | assumption | (apply keeps_foldl; intro _ _ _) | apply keeps_spinUp | apply keeps_biasStep | apply keeps_when_ | intro _ _ | split | (refine keeps_mk _ _ _ _ _ _ _ _ _ _ _ _ _ _ _ _ _ _ _ _ _ _ _ _ _ _ _ _ _ _ rfl rfl rfl ?_; first | assumption | (apply keeps_foldl; intro _ _ _) | apply keeps_spinUp | apply keeps_biasStep | split))

theorem keeps_biasFault {o₀ : State} (bit_ : Nat) (s : State) (h₀ : Keeps o₀ s) : Keeps o₀ (biasFault bit_ s) := by
  dsimp only [biasFault]
  with_reducible repeat' (first | assumption | (apply keeps_foldl; intro _ _ _) | apply keeps_modBias | apply keeps_logEvent | apply keeps_abandonRun | apply keeps_stopFiring | apply keeps_when_ | intro _ _ | split | (refine keeps_mk _ _ _ _ _ _ _ _ _ _ _ _ _ _ _ _ _ _ _ _ _ _ _ _ _ _ _ _ _ _ rfl rfl rfl ?_; first | assumption | (apply keeps_foldl; intro _ _ _) | apply keeps_modBias | apply keeps_logEvent | apply keeps_abandonRun | apply keeps_stopFiring | split))

/-! ## AmbientFilter -/

theorem keeps_modAmb {o₀ : State} (c : Nat) (f : Ambient → Ambient) (s : State) (h₀ : Keeps o₀ s) : Keeps o₀ (modAmb c f s) := by
  dsimp only [modAmb]
  with_reducible repeat' (first | assumption | (apply keeps_foldl; intro _ _ _) | apply keeps_setAmb | apply keeps_when_ | intro _ _ | split | (refine keeps_mk _ _ _ _ _ _ _ _ _ _ _ _ _ _ _ _ _ _ _ _ _ _ _ _ _ _ _ _ _ _ rfl rfl rfl ?_; first | assumption | (apply keeps_foldl; intro _ _ _) | apply keeps_setAmb | split))

theorem keeps_passPre {o₀ : State} (ch : Nat) (s : State) (h₀ : Keeps o₀ s) : Keeps o₀ (passPre ch s) := by
  dsimp only [passPre]
  with_reducible repeat' (first | assumption | (apply keeps_foldl; intro _ _ _) | apply keeps_count | apply keeps_setChan | apply keeps_when_ | intro _ _ | split | (refine keeps_mk _ _ _ _ _ _ _ _ _ _ _ _ _ _ _ _ _ _ _ _ _ _ _ _ _ _ _ _ _ _ rfl rfl rfl ?_; first | assumption | (apply keeps_foldl; intro _ _ _) | apply keeps_count | apply keeps_setChan | split))

theorem keeps_evaluateChannel {o₀ : State} (c : Nat) (s : State) (h₀ : Keeps o₀ s) : Keeps o₀ (evaluateChannel c s) := by
  dsimp only [evaluateChannel]
  with_reducible repeat' (first | assumption | (apply keeps_foldl; intro _ _ _) | apply keeps_setAmb | apply keeps_setChan | apply keeps_count | apply keeps_when_ | intro _ _ | split | (refine keeps_mk _ _ _ _ _ _ _ _ _ _ _ _ _ _ _ _ _ _ _ _ _ _ _ _ _ _ _ _ _ _ rfl rfl rfl ?_; first | assumption | (apply keeps_foldl; intro _ _ _) | apply keeps_setAmb | apply keeps_setChan | apply keeps_count | split))

theorem keeps_startRound {o₀ : State} (p : Option Nat) (s : State) (h₀ : Keeps o₀ s) : Keeps o₀ (startRound p s) := by
  dsimp only [startRound]
  with_reducible repeat' (first | assumption | (apply keeps_foldl; intro _ _ _) | apply keeps_when_ | intro _ _ | split | (refine keeps_mk _ _ _ _ _ _ _ _ _ _ _ _ _ _ _ _ _ _ _ _ _ _ _ _ _ _ _ _ _ _ rfl rfl rfl ?_; first | assumption | (apply keeps_foldl; intro _ _ _) | split))

theorem keeps_publish {o₀ : State} (s : State) (h₀ : Keeps o₀ s) : Keeps o₀ (publish s) := by
  dsimp only [publish]
  with_reducible repeat' (first | assumption | (apply keeps_foldl; intro _ _ _) | apply keeps_when_ | intro _ _ | split | (refine keeps_mk _ _ _ _ _ _ _ _ _ _ _ _ _ _ _ _ _ _ _ _ _ _ _ _ _ _ _ _ _ _ rfl rfl rfl ?_; first | assumption | (apply keeps_foldl; intro _ _ _) | split))

theorem keeps_ambientPeriodZero {o₀ : State} (s : State) (h₀ : Keeps o₀ s) : Keeps o₀ (ambientPeriodZero s) := by
  dsimp only [ambientPeriodZero]
  with_reducible repeat' (first | assumption | (apply keeps_foldl; intro _ _ _) | apply keeps_setAmb | apply keeps_count | apply keeps_when_ | intro _ _ | split | (refine keeps_mk _ _ _ _ _ _ _ _ _ _ _ _ _ _ _ _ _ _ _ _ _ _ _ _ _ _ _ _ _ _ rfl rfl rfl ?_; first | assumption | (apply keeps_foldl; intro _ _ _) | apply keeps_setAmb | apply keeps_count | split))

theorem keeps_noEndRound {o₀ : State} (s : State) (h₀ : Keeps o₀ s) : Keeps o₀ (noEndRound s) := by
  dsimp only [noEndRound]
  with_reducible repeat' (first | assumption | (apply keeps_foldl; intro _ _ _) | apply keeps_when_ | intro _ _ | split | (refine keeps_mk _ _ _ _ _ _ _ _ _ _ _ _ _ _ _ _ _ _ _ _ _ _ _ _ _ _ _ _ _ _ rfl rfl rfl ?_; first | assumption | (apply keeps_foldl; intro _ _ _) | split))

theorem keeps_ambientBoundary {o₀ : State} (first : Bool) (oldMode newMode : Nat) (dv : Int) (s : State) (h₀ : Keeps o₀ s) : Keeps o₀ (ambientBoundary first oldMode newMode dv s) := by
  dsimp only [ambientBoundary]
  with_reducible repeat' (first | assumption | (apply keeps_foldl; intro _ _ _) | apply keeps_noEndRound | apply keeps_startRound | apply keeps_when_ | intro _ _ | split | (refine keeps_mk _ _ _ _ _ _ _ _ _ _ _ _ _ _ _ _ _ _ _ _ _ _ _ _ _ _ _ _ _ _ rfl rfl rfl ?_; first | assumption | (apply keeps_foldl; intro _ _ _) | apply keeps_noEndRound | apply keeps_startRound | split))

/-! ## Gap -/

theorem keeps_sendFrame {o₀ : State} (s : State) (h₀ : Keeps o₀ s) : Keeps o₀ (sendFrame s) := by
  dsimp only [sendFrame]
  with_reducible repeat' (first | assumption | (apply keeps_foldl; intro _ _ _) | apply keeps_modBank | apply keeps_modChain | apply keeps_count | apply keeps_when_ | intro _ _ | split | (refine keeps_mk _ _ _ _ _ _ _ _ _ _ _ _ _ _ _ _ _ _ _ _ _ _ _ _ _ _ _ _ _ _ rfl rfl rfl ?_; first | assumption | (apply keeps_foldl; intro _ _ _) | apply keeps_modBank | apply keeps_modChain | apply keeps_count | split))

theorem keeps_takeSlot {o₀ : State} (b : Nat) (high rises : List Nat) (firings : List (List (Nat × Nat))) (measured : Option Nat) (s0 : State) (h₀ : Keeps o₀ s0) : Keeps o₀ (takeSlot b high rises firings measured s0) := by
  dsimp only [takeSlot]
  with_reducible repeat' (first | assumption | (apply keeps_foldl; intro _ _ _) | apply keeps_lightDiag | apply keeps_modChan | apply keeps_modBank | apply keeps_modChain | apply keeps_when_ | intro _ _ | split | (refine keeps_mk _ _ _ _ _ _ _ _ _ _ _ _ _ _ _ _ _ _ _ _ _ _ _ _ _ _ _ _ _ _ rfl rfl rfl ?_; first | assumption | (apply keeps_foldl; intro _ _ _) | apply keeps_lightDiag | apply keeps_modChan | apply keeps_modBank | apply keeps_modChain | split))

theorem keeps_closeWindow {o₀ : State} (s : State) (h₀ : Keeps o₀ s) : Keeps o₀ (closeWindow s) := by
  dsimp only [closeWindow]
  with_reducible repeat' (first | assumption | (apply keeps_foldl; intro _ _ _) | apply keeps_modBank | apply keeps_modChain | apply keeps_spinUp | apply keeps_when_ | intro _ _ | split | (refine keeps_mk _ _ _ _ _ _ _ _ _ _ _ _ _ _ _ _ _ _ _ _ _ _ _ _ _ _ _ _ _ _ rfl rfl rfl ?_; first | assumption | (apply keeps_foldl; intro _ _ _) | apply keeps_modBank | apply keeps_modChain | apply keeps_spinUp | split))

/-! ## Receiver -/

theorem keeps_datumCopy {o₀ : State} (ch tap : Nat) (a : Arm) (s : State) (h₀ : Keeps o₀ s) : Keeps o₀ (datumCopy ch tap a s) := by
  dsimp only [datumCopy]
  with_reducible repeat' (first | assumption | (apply keeps_foldl; intro _ _ _) | apply keeps_when_ | intro _ _ | split | (refine keeps_mk _ _ _ _ _ _ _ _ _ _ _ _ _ _ _ _ _ _ _ _ _ _ _ _ _ _ _ _ _ _ rfl rfl rfl ?_; first | assumption | (apply keeps_foldl; intro _ _ _) | split))

theorem keeps_convert {o₀ : State} (ch tap : Nat) (s : State) (h₀ : Keeps o₀ s) : Keeps o₀ (convert ch tap s) := by
  dsimp only [convert]
  with_reducible repeat' (first | assumption | (apply keeps_foldl; intro _ _ _) | apply keeps_count | apply keeps_datumCopy | apply keeps_setChan | apply keeps_when_ | intro _ _ | split | (refine keeps_mk _ _ _ _ _ _ _ _ _ _ _ _ _ _ _ _ _ _ _ _ _ _ _ _ _ _ _ _ _ _ rfl rfl rfl ?_; first | assumption | (apply keeps_foldl; intro _ _ _) | apply keeps_count | apply keeps_datumCopy | apply keeps_setChan | split))

theorem keeps_noteEvent {o₀ : State} (ch : Nat) (s : State) (h₀ : Keeps o₀ s) : Keeps o₀ (noteEvent ch s) := by
  dsimp only [noteEvent]
  with_reducible repeat' (first | assumption | (apply keeps_foldl; intro _ _ _) | apply keeps_modChan | apply keeps_when_ | intro _ _ | split | (refine keeps_mk _ _ _ _ _ _ _ _ _ _ _ _ _ _ _ _ _ _ _ _ _ _ _ _ _ _ _ _ _ _ rfl rfl rfl ?_; first | assumption | (apply keeps_foldl; intro _ _ _) | apply keeps_modChan | split))

theorem keeps_overloadEntry {o₀ : State} (ch : Nat) (s : State) (h₀ : Keeps o₀ s) : Keeps o₀ (overloadEntry ch s) := by
  dsimp only [overloadEntry]
  with_reducible repeat' (first | assumption | (apply keeps_foldl; intro _ _ _) | apply keeps_setChan | apply keeps_count | apply keeps_when_ | intro _ _ | split | (refine keeps_mk _ _ _ _ _ _ _ _ _ _ _ _ _ _ _ _ _ _ _ _ _ _ _ _ _ _ _ _ _ _ rfl rfl rfl ?_; first | assumption | (apply keeps_foldl; intro _ _ _) | apply keeps_setChan | apply keeps_count | split))

theorem keeps_firing {o₀ : State} (ch : Nat) (fired : List (Nat × Nat)) (tap : Nat) (s : State) (h₀ : Keeps o₀ s) : Keeps o₀ (firing ch fired tap s) := by
  dsimp only [firing]
  with_reducible repeat' (first | assumption | (apply keeps_foldl; intro _ _ _) | apply keeps_noteEvent | apply keeps_convert | apply keeps_overloadEntry | apply keeps_when_ | intro _ _ | split | (refine keeps_mk _ _ _ _ _ _ _ _ _ _ _ _ _ _ _ _ _ _ _ _ _ _ _ _ _ _ _ _ _ _ rfl rfl rfl ?_; first | assumption | (apply keeps_foldl; intro _ _ _) | apply keeps_noteEvent | apply keeps_convert | apply keeps_overloadEntry | split))

theorem keeps_windowEnd {o₀ : State} (ch : Nat) (s : State) (h₀ : Keeps o₀ s) : Keeps o₀ (windowEnd ch s) := by
  dsimp only [windowEnd]
  with_reducible repeat' (first | assumption | (apply keeps_foldl; intro _ _ _) | apply keeps_setChan | apply keeps_when_ | intro _ _ | split | (refine keeps_mk _ _ _ _ _ _ _ _ _ _ _ _ _ _ _ _ _ _ _ _ _ _ _ _ _ _ _ _ _ _ rfl rfl rfl ?_; first | assumption | (apply keeps_foldl; intro _ _ _) | apply keeps_setChan | split))

theorem keeps_nearZone {o₀ : State} (b : Nat) (s : State) (h₀ : Keeps o₀ s) : Keeps o₀ (nearZone b s) := by
  dsimp only [nearZone]
  with_reducible repeat' (first | assumption | (apply keeps_foldl; intro _ _ _) | apply keeps_count | apply keeps_modSide | apply keeps_when_ | intro _ _ | split | (refine keeps_mk _ _ _ _ _ _ _ _ _ _ _ _ _ _ _ _ _ _ _ _ _ _ _ _ _ _ _ _ _ _ rfl rfl rfl ?_; first | assumption | (apply keeps_foldl; intro _ _ _) | apply keeps_count | apply keeps_modSide | split))

/-! ## Fire -/

theorem keeps_modSeq {o₀ : State} (f : Seq → Seq) (s : State) (h₀ : Keeps o₀ s) : Keeps o₀ (modSeq f s) := by
  dsimp only [modSeq]
  with_reducible repeat' (first | assumption | (apply keeps_foldl; intro _ _ _) | apply keeps_when_ | intro _ _ | split | (refine keeps_mk _ _ _ _ _ _ _ _ _ _ _ _ _ _ _ _ _ _ _ _ _ _ _ _ _ _ _ _ _ _ rfl rfl rfl ?_; first | assumption | (apply keeps_foldl; intro _ _ _) | split))

theorem keeps_resumeFiring {o₀ : State} (p : Nat) (s : State) (h₀ : Keeps o₀ s) : Keeps o₀ (resumeFiring p s) := by
  dsimp only [resumeFiring]
  with_reducible repeat' (first | assumption | (apply keeps_foldl; intro _ _ _) | apply keeps_modSeq | apply keeps_when_ | intro _ _ | split | (refine keeps_mk _ _ _ _ _ _ _ _ _ _ _ _ _ _ _ _ _ _ _ _ _ _ _ _ _ _ _ _ _ _ rfl rfl rfl ?_; first | assumption | (apply keeps_foldl; intro _ _ _) | apply keeps_modSeq | split))

theorem keeps_skipTest {o₀ : State} (s : State) (e : Nat) (h₀ : Keeps o₀ s) : Keeps o₀ (skipTest s e) := by
  dsimp only [skipTest]
  with_reducible repeat' (first | assumption | (apply keeps_foldl; intro _ _ _) | apply keeps_count | apply keeps_when_ | intro _ _ | split | (refine keeps_mk _ _ _ _ _ _ _ _ _ _ _ _ _ _ _ _ _ _ _ _ _ _ _ _ _ _ _ _ _ _ rfl rfl rfl ?_; first | assumption | (apply keeps_foldl; intro _ _ _) | apply keeps_count | split))

theorem keeps_closeGap {o₀ : State} (s : State) (h₀ : Keeps o₀ s) : Keeps o₀ (closeGap s) := by
  dsimp only [closeGap]
  with_reducible repeat' (first | assumption | (apply keeps_foldl; intro _ _ _) | apply keeps_skipTest | apply keeps_when_ | intro _ _ | split | (refine keeps_mk _ _ _ _ _ _ _ _ _ _ _ _ _ _ _ _ _ _ _ _ _ _ _ _ _ _ _ _ _ _ rfl rfl rfl ?_; first | assumption | (apply keeps_foldl; intro _ _ _) | apply keeps_skipTest | split))

theorem keeps_startPeriod {o₀ : State} (p : Nat) (s : State) (h₀ : Keeps o₀ s) : Keeps o₀ (startPeriod p s) := by
  dsimp only [startPeriod]
  with_reducible repeat' (first | assumption | (apply keeps_foldl; intro _ _ _) | apply keeps_modSeq | apply keeps_closeGap | apply keeps_resumeFiring | apply keeps_publish | apply keeps_ambientPeriodZero | apply keeps_startRound | apply keeps_when_ | intro _ _ | split | (refine keeps_mk _ _ _ _ _ _ _ _ _ _ _ _ _ _ _ _ _ _ _ _ _ _ _ _ _ _ _ _ _ _ rfl rfl rfl ?_; first | assumption | (apply keeps_foldl; intro _ _ _) | apply keeps_modSeq | apply keeps_closeGap | apply keeps_resumeFiring | apply keeps_publish | apply keeps_ambientPeriodZero | apply keeps_startRound | split))

theorem keeps_pointDue {o₀ : State} (c β : Nat) (s : State) (h₀ : Keeps o₀ s) : Keeps o₀ (pointDue c β s) := by
  dsimp only [pointDue]
  with_reducible repeat' (first | assumption | (apply keeps_foldl; intro _ _ _) | apply keeps_modSheetOut | apply keeps_when_ | intro _ _ | split | (refine keeps_mk _ _ _ _ _ _ _ _ _ _ _ _ _ _ _ _ _ _ _ _ _ _ _ _ _ _ _ _ _ _ rfl rfl rfl ?_; first | assumption | (apply keeps_foldl; intro _ _ _) | apply keeps_modSheetOut | split))

theorem keeps_sendMarker {o₀ : State} (kind c β planned openTime : Nat) (s : State) (h₀ : Keeps o₀ s) : Keeps o₀ (sendMarker kind c β planned openTime s) := by
  dsimp only [sendMarker]
  with_reducible repeat' (first | assumption | (apply keeps_foldl; intro _ _ _) | apply keeps_pointDue | apply keeps_modEngine | apply keeps_modCtx | apply keeps_modChan | apply keeps_when_ | intro _ _ | split | (refine keeps_mk _ _ _ _ _ _ _ _ _ _ _ _ _ _ _ _ _ _ _ _ _ _ _ _ _ _ _ _ _ _ rfl rfl rfl ?_; first | assumption | (apply keeps_foldl; intro _ _ _) | apply keeps_pointDue | apply keeps_modEngine | apply keeps_modCtx | apply keeps_modChan | split))

theorem keeps_unlitBank {o₀ : State} (β start : Nat) (s : State) (b : Nat) (h₀ : Keeps o₀ s) : Keeps o₀ (unlitBank β start s b) := by
  dsimp only [unlitBank]
  with_reducible repeat' (first | assumption | (apply keeps_foldl; intro _ _ _) | apply keeps_sendMarker | apply keeps_when_ | intro _ _ | split | (refine keeps_mk _ _ _ _ _ _ _ _ _ _ _ _ _ _ _ _ _ _ _ _ _ _ _ _ _ _ _ _ _ _ rfl rfl rfl ?_; first | assumption | (apply keeps_foldl; intro _ _ _) | apply keeps_sendMarker | split))

theorem keeps_armChan {o₀ : State} (x : Shot) (c : Nat) (s : State) (h₀ : Keeps o₀ s) : Keeps o₀ (armChan x c s) := by
  dsimp only [armChan]
  with_reducible repeat' (first | assumption | (apply keeps_foldl; intro _ _ _) | apply keeps_passPre | apply keeps_setChan | apply keeps_when_ | intro _ _ | split | (refine keeps_mk _ _ _ _ _ _ _ _ _ _ _ _ _ _ _ _ _ _ _ _ _ _ _ _ _ _ _ _ _ _ rfl rfl rfl ?_; first | assumption | (apply keeps_foldl; intro _ _ _) | apply keeps_passPre | apply keeps_setChan | split))

theorem keeps_walkShots {o₀ : State} (b n : Nat) (s : State) (h₀ : Keeps o₀ s) : Keeps o₀ (walkShots b n s) := by
  dsimp only [walkShots]
  with_reducible repeat' (first | assumption | (apply keeps_foldl; intro _ _ _) | apply keeps_when_ | intro _ _ | split | (refine keeps_mk _ _ _ _ _ _ _ _ _ _ _ _ _ _ _ _ _ _ _ _ _ _ _ _ _ _ _ _ _ _ rfl rfl rfl ?_; first | assumption | (apply keeps_foldl; intro _ _ _) | split))

theorem keeps_requestPulse {o₀ : State} (x : Shot) (s : State) (h₀ : Keeps o₀ s) : Keeps o₀ (requestPulse x s) := by
  dsimp only [requestPulse]
  with_reducible repeat' (first | assumption | (apply keeps_foldl; intro _ _ _) | apply keeps_modSeq | apply keeps_modSide | apply keeps_modBank | apply keeps_armChan | apply keeps_walkShots | apply keeps_when_ | intro _ _ | split | (refine keeps_mk _ _ _ _ _ _ _ _ _ _ _ _ _ _ _ _ _ _ _ _ _ _ _ _ _ _ _ _ _ _ rfl rfl rfl ?_; first | assumption | (apply keeps_foldl; intro _ _ _) | apply keeps_modSeq | apply keeps_modSide | apply keeps_modBank | apply keeps_armChan | apply keeps_walkShots | split))

theorem keeps_openPoints {o₀ : State} (x : Shot) (s : State) (h₀ : Keeps o₀ s) : Keeps o₀ (openPoints x s) := by
  dsimp only [openPoints]
  with_reducible repeat' (first | assumption | (apply keeps_foldl; intro _ _ _) | apply keeps_sendMarker | apply keeps_when_ | intro _ _ | split | (refine keeps_mk _ _ _ _ _ _ _ _ _ _ _ _ _ _ _ _ _ _ _ _ _ _ _ _ _ _ _ _ _ _ rfl rfl rfl ?_; first | assumption | (apply keeps_foldl; intro _ _ _) | apply keeps_sendMarker | split))

theorem keeps_fireShot {o₀ : State} (x : Shot) (s : State) (h₀ : Keeps o₀ s) : Keeps o₀ (fireShot x s) := by
  dsimp only [fireShot]
  with_reducible repeat' (first | assumption | (apply keeps_foldl; intro _ _ _) | apply keeps_energyCheck | apply keeps_requestPulse | apply keeps_openPoints | apply keeps_count | apply keeps_when_ | intro _ _ | split | (refine keeps_mk _ _ _ _ _ _ _ _ _ _ _ _ _ _ _ _ _ _ _ _ _ _ _ _ _ _ _ _ _ _ rfl rfl rfl ?_; first | assumption | (apply keeps_foldl; intro _ _ _) | apply keeps_energyCheck | apply keeps_requestPulse | apply keeps_openPoints | apply keeps_count | split))

theorem keeps_advanceDither {o₀ : State} (l : List Shot) (s : State) (h₀ : Keeps o₀ s) : Keeps o₀ (advanceDither l s) := by
  dsimp only [advanceDither]
  with_reducible repeat' (first | assumption | (apply keeps_foldl; intro _ _ _) | apply keeps_modBank | apply keeps_when_ | intro _ _ | split | (refine keeps_mk _ _ _ _ _ _ _ _ _ _ _ _ _ _ _ _ _ _ _ _ _ _ _ _ _ _ _ _ _ _ rfl rfl rfl ?_; first | assumption | (apply keeps_foldl; intro _ _ _) | apply keeps_modBank | split))

theorem keeps_fireSlot {o₀ : State} (p q : Nat) (s : State) (h₀ : Keeps o₀ s) : Keeps o₀ (fireSlot p q s) := by
  dsimp only [fireSlot]
  with_reducible repeat' (first | assumption | (apply keeps_foldl; intro _ _ _) | apply keeps_unlitBank | apply keeps_fireShot | apply keeps_advanceDither | apply keeps_when_ | intro _ _ | split | (refine keeps_mk _ _ _ _ _ _ _ _ _ _ _ _ _ _ _ _ _ _ _ _ _ _ _ _ _ _ _ _ _ _ rfl rfl rfl ?_; first | assumption | (apply keeps_foldl; intro _ _ _) | apply keeps_unlitBank | apply keeps_fireShot | apply keeps_advanceDither | split))

theorem keeps_noteClose {o₀ : State} (cause taken x : Nat) (s : State) (h₀ : Keeps o₀ s) : Keeps o₀ (noteClose cause taken x s) := by
  dsimp only [noteClose]
  with_reducible repeat' (first | assumption | (apply keeps_foldl; intro _ _ _) | apply keeps_setCtx | apply keeps_when_ | intro _ _ | split | (refine keeps_mk _ _ _ _ _ _ _ _ _ _ _ _ _ _ _ _ _ _ _ _ _ _ _ _ _ _ _ _ _ _ rfl rfl rfl ?_; first | assumption | (apply keeps_foldl; intro _ _ _) | apply keeps_setCtx | split))

theorem keeps_closePoint {o₀ : State} (cause taken c β : Nat) (s : State) (h₀ : Keeps o₀ s) : Keeps o₀ (closePoint cause taken c β s) := by
  dsimp only [closePoint]
  with_reducible repeat' (first | assumption | (apply keeps_foldl; intro _ _ _) | apply keeps_modChan | apply keeps_noteClose | apply keeps_when_ | intro _ _ | split | (refine keeps_mk _ _ _ _ _ _ _ _ _ _ _ _ _ _ _ _ _ _ _ _ _ _ _ _ _ _ _ _ _ _ rfl rfl rfl ?_; first | assumption | (apply keeps_foldl; intro _ _ _) | apply keeps_modChan | apply keeps_noteClose | split))

theorem keeps_closeRunning {o₀ : State} (cause c : Nat) (s : State) (h₀ : Keeps o₀ s) : Keeps o₀ (closeRunning cause c s) := by
  dsimp only [closeRunning]
  with_reducible repeat' (first | assumption | (apply keeps_foldl; intro _ _ _) | apply keeps_noteClose | apply keeps_when_ | intro _ _ | split | (refine keeps_mk _ _ _ _ _ _ _ _ _ _ _ _ _ _ _ _ _ _ _ _ _ _ _ _ _ _ _ _ _ _ rfl rfl rfl ?_; first | assumption | (apply keeps_foldl; intro _ _ _) | apply keeps_noteClose | split))

theorem keeps_closeBank {o₀ : State} (cause : Nat) (s : State) (b : Nat) (h₀ : Keeps o₀ s) : Keeps o₀ (closeBank cause s b) := by
  dsimp only [closeBank]
  with_reducible repeat' (first | assumption | (apply keeps_foldl; intro _ _ _) | apply keeps_closePoint | apply keeps_closeRunning | apply keeps_modBank | apply keeps_when_ | intro _ _ | split | (refine keeps_mk _ _ _ _ _ _ _ _ _ _ _ _ _ _ _ _ _ _ _ _ _ _ _ _ _ _ _ _ _ _ rfl rfl rfl ?_; first | assumption | (apply keeps_foldl; intro _ _ _) | apply keeps_closePoint | apply keeps_closeRunning | apply keeps_modBank | split))

theorem keeps_closePending {o₀ : State} (s : State) (h₀ : Keeps o₀ s) : Keeps o₀ (closePending s) := by
  dsimp only [closePending]
  with_reducible repeat' (first | assumption | (apply keeps_foldl; intro _ _ _) | apply keeps_modSeq | apply keeps_closeBank | apply keeps_when_ | intro _ _ | split | (refine keeps_mk _ _ _ _ _ _ _ _ _ _ _ _ _ _ _ _ _ _ _ _ _ _ _ _ _ _ _ _ _ _ rfl rfl rfl ?_; first | assumption | (apply keeps_foldl; intro _ _ _) | apply keeps_modSeq | apply keeps_closeBank | split))

/-! ## Mover -/

theorem keeps_setDesc {o₀ : State} (i : Nat) (d : Desc) (s : State) (h₀ : Keeps o₀ s) : Keeps o₀ (setDesc i d s) := by
  dsimp only [setDesc]
  with_reducible repeat' (first | assumption | (apply keeps_foldl; intro _ _ _) | apply keeps_when_ | intro _ _ | split | (refine keeps_mk _ _ _ _ _ _ _ _ _ _ _ _ _ _ _ _ _ _ _ _ _ _ _ _ _ _ _ _ _ _ rfl rfl rfl ?_; first | assumption | (apply keeps_foldl; intro _ _ _) | split))

theorem keeps_modMover {o₀ : State} (k : Nat) (f : Mover → Mover) (s : State) (h₀ : Keeps o₀ s) : Keeps o₀ (modMover k f s) := by
  dsimp only [modMover]
  with_reducible repeat' (first | assumption | (apply keeps_foldl; intro _ _ _) | apply keeps_setMover | apply keeps_when_ | intro _ _ | split | (refine keeps_mk _ _ _ _ _ _ _ _ _ _ _ _ _ _ _ _ _ _ _ _ _ _ _ _ _ _ _ _ _ _ rfl rfl rfl ?_; first | assumption | (apply keeps_foldl; intro _ _ _) | apply keeps_setMover | split))

theorem keeps_haltMover {o₀ : State} (k : Nat) (write stall : Bool) (addr : Nat) (s : State) (h₀ : Keeps o₀ s) : Keeps o₀ (haltMover k write stall addr s) := by
  dsimp only [haltMover]
  with_reducible repeat' (first | assumption | (apply keeps_foldl; intro _ _ _) | apply keeps_setDesc | apply keeps_setMover | apply keeps_count | apply keeps_logEvent | apply keeps_when_ | intro _ _ | split | (refine keeps_mk _ _ _ _ _ _ _ _ _ _ _ _ _ _ _ _ _ _ _ _ _ _ _ _ _ _ _ _ _ _ rfl rfl rfl ?_; first | assumption | (apply keeps_foldl; intro _ _ _) | apply keeps_setDesc | apply keeps_setMover | apply keeps_count | apply keeps_logEvent | split))

theorem keeps_startMover {o₀ : State} (k i : Nat) (d : Desc) (s : State) (h₀ : Keeps o₀ s) : Keeps o₀ (startMover k i d s) := by
  dsimp only [startMover]
  with_reducible repeat' (first | assumption | (apply keeps_foldl; intro _ _ _) | apply keeps_setDesc | apply keeps_modMover | apply keeps_haltMover | apply keeps_when_ | intro _ _ | split | (refine keeps_mk _ _ _ _ _ _ _ _ _ _ _ _ _ _ _ _ _ _ _ _ _ _ _ _ _ _ _ _ _ _ rfl rfl rfl ?_; first | assumption | (apply keeps_foldl; intro _ _ _) | apply keeps_setDesc | apply keeps_modMover | apply keeps_haltMover | split))

theorem keeps_moveStart {o₀ : State} (k src dst len : Nat) (s : State) (h₀ : Keeps o₀ s) : Keeps o₀ (moveStart k src dst len s) := by
  dsimp only [moveStart]
  with_reducible repeat' (first | assumption | (apply keeps_foldl; intro _ _ _) | apply keeps_startMover | apply keeps_when_ | intro _ _ | split | (refine keeps_mk _ _ _ _ _ _ _ _ _ _ _ _ _ _ _ _ _ _ _ _ _ _ _ _ _ _ _ _ _ _ rfl rfl rfl ?_; first | assumption | (apply keeps_foldl; intro _ _ _) | apply keeps_startMover | split))

theorem keeps_moveIfIdle {o₀ : State} (k : Nat) (d : Desc) (s : State) (h₀ : Keeps o₀ s) : Keeps o₀ (moveIfIdle k d s) := by
  dsimp only [moveIfIdle]
  with_reducible repeat' (first | assumption | (apply keeps_foldl; intro _ _ _) | apply keeps_startMover | apply keeps_when_ | intro _ _ | split | (refine keeps_mk _ _ _ _ _ _ _ _ _ _ _ _ _ _ _ _ _ _ _ _ _ _ _ _ _ _ _ _ _ _ rfl rfl rfl ?_; first | assumption | (apply keeps_foldl; intro _ _ _) | apply keeps_startMover | split))

theorem keeps_moveDone {o₀ : State} (k : Nat) (s : State) (h₀ : Keeps o₀ s) : Keeps o₀ (moveDone k s) := by
  dsimp only [moveDone]
  with_reducible repeat' (first | assumption | (apply keeps_foldl; intro _ _ _) | apply keeps_setDesc | apply keeps_setMover | apply keeps_startMover | apply keeps_when_ | intro _ _ | split | (refine keeps_mk _ _ _ _ _ _ _ _ _ _ _ _ _ _ _ _ _ _ _ _ _ _ _ _ _ _ _ _ _ _ rfl rfl rfl ?_; first | assumption | (apply keeps_foldl; intro _ _ _) | apply keeps_setDesc | apply keeps_setMover | apply keeps_startMover | split))

theorem keeps_moveAbandon {o₀ : State} (k addr : Nat) (s : State) (h₀ : Keeps o₀ s) : Keeps o₀ (moveAbandon k addr s) := by
  dsimp only [moveAbandon]
  with_reducible repeat' (first | assumption | (apply keeps_foldl; intro _ _ _) | apply keeps_setDesc | apply keeps_count | apply keeps_logEvent | apply keeps_setMover | apply keeps_when_ | intro _ _ | split | (refine keeps_mk _ _ _ _ _ _ _ _ _ _ _ _ _ _ _ _ _ _ _ _ _ _ _ _ _ _ _ _ _ _ rfl rfl rfl ?_; first | assumption | (apply keeps_foldl; intro _ _ _) | apply keeps_setDesc | apply keeps_count | apply keeps_logEvent | apply keeps_setMover | split))

/-! ## Survey -/

theorem keeps_modSurvey {o₀ : State} (f : Survey → Survey) (s : State) (h₀ : Keeps o₀ s) : Keeps o₀ (modSurvey f s) := by
  dsimp only [modSurvey]
  with_reducible repeat' (first | assumption | (apply keeps_foldl; intro _ _ _) | apply keeps_when_ | intro _ _ | split | (refine keeps_mk _ _ _ _ _ _ _ _ _ _ _ _ _ _ _ _ _ _ _ _ _ _ _ _ _ _ _ _ _ _ rfl rfl rfl ?_; first | assumption | (apply keeps_foldl; intro _ _ _) | split))

theorem keeps_post {o₀ : State} (c β : Nat) (parity : Bool) (l : List Peak) (s : State) (h₀ : Keeps o₀ s) : Keeps o₀ (post c β parity l s) := by
  dsimp only [post]
  with_reducible repeat' (first | assumption | (apply keeps_foldl; intro _ _ _) | apply keeps_modSurvey | apply keeps_when_ | intro _ _ | split | (refine keeps_mk _ _ _ _ _ _ _ _ _ _ _ _ _ _ _ _ _ _ _ _ _ _ _ _ _ _ _ _ _ _ rfl rfl rfl ?_; first | assumption | (apply keeps_foldl; intro _ _ _) | apply keeps_modSurvey | split))

theorem keeps_queueWork {o₀ : State} (e : Nat) (x : Option Nat) (head : Ctx) (s : State) (h₀ : Keeps o₀ s) : Keeps o₀ (queueWork e x head s) := by
  dsimp only [queueWork]
  with_reducible repeat' (first | assumption | (apply keeps_foldl; intro _ _ _) | apply keeps_modEngine | apply keeps_modSurvey | apply keeps_when_ | intro _ _ | split | (refine keeps_mk _ _ _ _ _ _ _ _ _ _ _ _ _ _ _ _ _ _ _ _ _ _ _ _ _ _ _ _ _ _ rfl rfl rfl ?_; first | assumption | (apply keeps_foldl; intro _ _ _) | apply keeps_modEngine | apply keeps_modSurvey | split))

theorem keeps_pointGone {o₀ : State} (c β : Nat) (parity : Bool) (s : State) (h₀ : Keeps o₀ s) : Keeps o₀ (pointGone c β parity s) := by
  dsimp only [pointGone]
  with_reducible repeat' (first | assumption | (apply keeps_foldl; intro _ _ _) | apply keeps_modSheetOut | apply keeps_when_ | intro _ _ | split | (refine keeps_mk _ _ _ _ _ _ _ _ _ _ _ _ _ _ _ _ _ _ _ _ _ _ _ _ _ _ _ _ _ _ rfl rfl rfl ?_; first | assumption | (apply keeps_foldl; intro _ _ _) | apply keeps_modSheetOut | split))

theorem keeps_freeExtra {o₀ : State} (v : Ctx) (s : State) (h₀ : Keeps o₀ s) : Keeps o₀ (freeExtra v s) := by
  dsimp only [freeExtra]
  with_reducible repeat' (first | assumption | (apply keeps_foldl; intro _ _ _) | apply keeps_freeCtx | apply keeps_when_ | intro _ _ | split | (refine keeps_mk _ _ _ _ _ _ _ _ _ _ _ _ _ _ _ _ _ _ _ _ _ _ _ _ _ _ _ _ _ _ rfl rfl rfl ?_; first | assumption | (apply keeps_foldl; intro _ _ _) | apply keeps_freeCtx | split))

theorem keeps_discardCtx {o₀ : State} (x : Nat) (s : State) (h₀ : Keeps o₀ s) : Keeps o₀ (discardCtx x s) := by
  dsimp only [discardCtx]
  with_reducible repeat' (first | assumption | (apply keeps_foldl; intro _ _ _) | apply keeps_pointGone | apply keeps_post | apply keeps_freeCtx | apply keeps_freeExtra | apply keeps_when_ | intro _ _ | split | (refine keeps_mk _ _ _ _ _ _ _ _ _ _ _ _ _ _ _ _ _ _ _ _ _ _ _ _ _ _ _ _ _ _ rfl rfl rfl ?_; first | assumption | (apply keeps_foldl; intro _ _ _) | apply keeps_pointGone | apply keeps_post | apply keeps_freeCtx | apply keeps_freeExtra | split))

theorem keeps_applyMarker {o₀ : State} (e : Nat) (m : Marker) (s : State) (h₀ : Keeps o₀ s) : Keeps o₀ (applyMarker e m s) := by
  dsimp only [applyMarker]
  with_reducible repeat' (first | assumption | (apply keeps_foldl; intro _ _ _) | apply keeps_modCtx | apply keeps_count | apply keeps_queueWork | apply keeps_post | apply keeps_setCtx | apply keeps_when_ | intro _ _ | split | (refine keeps_mk _ _ _ _ _ _ _ _ _ _ _ _ _ _ _ _ _ _ _ _ _ _ _ _ _ _ _ _ _ _ rfl rfl rfl ?_; first | assumption | (apply keeps_foldl; intro _ _ _) | apply keeps_modCtx | apply keeps_count | apply keeps_queueWork | apply keeps_post | apply keeps_setCtx | split))

theorem keeps_grant {o₀ : State} (e kind : Nat) (f : Nat → Item → State → State) (s : State)
    (hf : ∀ c i u, Keeps o₀ u → Keeps o₀ (f c i u)) (h₀ : Keeps o₀ s) : Keeps o₀ (grant e kind f s) := by
  dsimp only [grant]
  split
  · split
    · exact h₀
    · split
      · exact hf _ _ _ (keeps_setEngine _ _ _ (keeps_modChan _ _ _ h₀))
      · exact h₀
  · exact h₀

theorem keeps_placeExtra {o₀ : State} (x b from_ : Nat) (s : State) (h₀ : Keeps o₀ s) : Keeps o₀ (placeExtra x b from_ s) := by
  dsimp only [placeExtra]
  with_reducible repeat' (first | assumption | (apply keeps_foldl; intro _ _ _) | apply keeps_setCtx | apply keeps_modCtx | apply keeps_count | apply keeps_modSurvey | apply keeps_when_ | intro _ _ | split | (refine keeps_mk _ _ _ _ _ _ _ _ _ _ _ _ _ _ _ _ _ _ _ _ _ _ _ _ _ _ _ _ _ _ rfl rfl rfl ?_; first | assumption | (apply keeps_foldl; intro _ _ _) | apply keeps_setCtx | apply keeps_modCtx | apply keeps_count | apply keeps_modSurvey | split))

theorem keeps_wantWindow {o₀ : State} (x q j : Nat) (s : State) (h₀ : Keeps o₀ s) : Keeps o₀ (wantWindow x q j s) := by
  dsimp only [wantWindow]
  with_reducible repeat' (first | assumption | (apply keeps_foldl; intro _ _ _) | apply keeps_setCtx | apply keeps_placeExtra | apply keeps_when_ | intro _ _ | split | (refine keeps_mk _ _ _ _ _ _ _ _ _ _ _ _ _ _ _ _ _ _ _ _ _ _ _ _ _ _ _ _ _ _ rfl rfl rfl ?_; first | assumption | (apply keeps_foldl; intro _ _ _) | apply keeps_setCtx | apply keeps_placeExtra | split))

theorem keeps_extraUpdate {o₀ : State} (u x q e : Nat) (s : State) (h₀ : Keeps o₀ s) : Keeps o₀ (extraUpdate u x q e s) := by
  dsimp only [extraUpdate]
  with_reducible repeat' (first | assumption | (apply keeps_foldl; intro _ _ _) | apply keeps_modCtx | apply keeps_when_ | intro _ _ | split | (refine keeps_mk _ _ _ _ _ _ _ _ _ _ _ _ _ _ _ _ _ _ _ _ _ _ _ _ _ _ _ _ _ _ rfl rfl rfl ?_; first | assumption | (apply keeps_foldl; intro _ _ _) | apply keeps_modCtx | split))

theorem keeps_applyEvent {o₀ : State} (x : Nat) (i : Item) (s : State) (h₀ : Keeps o₀ s) : Keeps o₀ (applyEvent x i s) := by
  dsimp only [applyEvent]
  with_reducible repeat' (first | assumption | (apply keeps_foldl; intro _ _ _) | apply keeps_extraUpdate | apply keeps_setCtx | apply keeps_modCtx | apply keeps_wantWindow | apply keeps_when_ | intro _ _ | split | (refine keeps_mk _ _ _ _ _ _ _ _ _ _ _ _ _ _ _ _ _ _ _ _ _ _ _ _ _ _ _ _ _ _ rfl rfl rfl ?_; first | assumption | (apply keeps_foldl; intro _ _ _) | apply keeps_extraUpdate | apply keeps_setCtx | apply keeps_modCtx | apply keeps_wantWindow | split))

theorem keeps_applyDrop {o₀ : State} (e x : Nat) (i : Item) (s : State) (h₀ : Keeps o₀ s) : Keeps o₀ (applyDrop e x i s) := by
  dsimp only [applyDrop]
  with_reducible repeat' (first | assumption | (apply keeps_foldl; intro _ _ _) | apply keeps_modCtx | apply keeps_count | apply keeps_modEngine | apply keeps_when_ | intro _ _ | split | (refine keeps_mk _ _ _ _ _ _ _ _ _ _ _ _ _ _ _ _ _ _ _ _ _ _ _ _ _ _ _ _ _ _ rfl rfl rfl ?_; first | assumption | (apply keeps_foldl; intro _ _ _) | apply keeps_modCtx | apply keeps_count | apply keeps_modEngine | split))

theorem keeps_failEngine {o₀ : State} (e cause : Nat) (s : State) (h₀ : Keeps o₀ s) : Keeps o₀ (failEngine e cause s) := by
  dsimp only [failEngine]
  with_reducible repeat' (first | assumption | (apply keeps_foldl; intro _ _ _) | apply keeps_changeEngine | apply keeps_modSurvey | apply keeps_when_ | intro _ _ | split | (refine keeps_mk _ _ _ _ _ _ _ _ _ _ _ _ _ _ _ _ _ _ _ _ _ _ _ _ _ _ _ _ _ _ rfl rfl rfl ?_; first | assumption | (apply keeps_foldl; intro _ _ _) | apply keeps_changeEngine | apply keeps_modSurvey | split))

theorem keeps_storeError {o₀ : State} (x : Nat) (s : State) (h₀ : Keeps o₀ s) : Keeps o₀ (storeError x s) := by
  dsimp only [storeError]
  with_reducible repeat' (first | assumption | (apply keeps_foldl; intro _ _ _) | apply keeps_count | apply keeps_logEvent | apply keeps_when_ | intro _ _ | split | (refine keeps_mk _ _ _ _ _ _ _ _ _ _ _ _ _ _ _ _ _ _ _ _ _ _ _ _ _ _ _ _ _ _ rfl rfl rfl ?_; first | assumption | (apply keeps_foldl; intro _ _ _) | apply keeps_count | apply keeps_logEvent | split))

theorem keeps_engineTest {o₀ : State} (e : Nat) (passed : Bool) (s : State) (h₀ : Keeps o₀ s) : Keeps o₀ (engineTest e passed s) := by
  dsimp only [engineTest]
  with_reducible repeat' (first | assumption | (apply keeps_foldl; intro _ _ _) | apply keeps_modEngine | apply keeps_failEngine | apply keeps_when_ | intro _ _ | split | (refine keeps_mk _ _ _ _ _ _ _ _ _ _ _ _ _ _ _ _ _ _ _ _ _ _ _ _ _ _ _ _ _ _ rfl rfl rfl ?_; first | assumption | (apply keeps_foldl; intro _ _ _) | apply keeps_modEngine | apply keeps_failEngine | split))

theorem keeps_reassign {o₀ : State} (x : Nat) (s : State) (h₀ : Keeps o₀ s) : Keeps o₀ (reassign x s) := by
  dsimp only [reassign]
  with_reducible repeat' (first | assumption | (apply keeps_foldl; intro _ _ _) | apply keeps_setCtx | apply keeps_when_ | intro _ _ | split | (refine keeps_mk _ _ _ _ _ _ _ _ _ _ _ _ _ _ _ _ _ _ _ _ _ _ _ _ _ _ _ _ _ _ rfl rfl rfl ?_; first | assumption | (apply keeps_foldl; intro _ _ _) | apply keeps_setCtx | split))

theorem keeps_substitute {o₀ : State} (f e g : Nat) (s : State) (h₀ : Keeps o₀ s) : Keeps o₀ (substitute f e g s) := by
  dsimp only [substitute]
  with_reducible repeat' (first | assumption | (apply keeps_foldl; intro _ _ _) | apply keeps_setEngine | apply keeps_reassign | apply keeps_changeEngine | apply keeps_count | apply keeps_moveIfIdle | apply keeps_when_ | intro _ _ | split | (refine keeps_mk _ _ _ _ _ _ _ _ _ _ _ _ _ _ _ _ _ _ _ _ _ _ _ _ _ _ _ _ _ _ rfl rfl rfl ?_; first | assumption | (apply keeps_foldl; intro _ _ _) | apply keeps_setEngine | apply keeps_reassign | apply keeps_changeEngine | apply keeps_count | apply keeps_moveIfIdle | split))

theorem keeps_dropMarker {o₀ : State} (f : Nat) (m : Marker) (s : State) (h₀ : Keeps o₀ s) : Keeps o₀ (dropMarker f m s) := by
  dsimp only [dropMarker]
  with_reducible repeat' (first | assumption | (apply keeps_foldl; intro _ _ _) | apply keeps_count | apply keeps_discardCtx | apply keeps_pointGone | apply keeps_when_ | intro _ _ | split | (refine keeps_mk _ _ _ _ _ _ _ _ _ _ _ _ _ _ _ _ _ _ _ _ _ _ _ _ _ _ _ _ _ _ rfl rfl rfl ?_; first | assumption | (apply keeps_foldl; intro _ _ _) | apply keeps_count | apply keeps_discardCtx | apply keeps_pointGone | split))

theorem keeps_loseGroup {o₀ : State} (f g : Nat) (s : State) (h₀ : Keeps o₀ s) : Keeps o₀ (loseGroup f g s) := by
  dsimp only [loseGroup]
  with_reducible repeat' (first | assumption | (apply keeps_foldl; intro _ _ _) | apply keeps_setEngine | apply keeps_dropMarker | apply keeps_count | apply keeps_discardCtx | apply keeps_modChan | apply keeps_abandonRun | apply keeps_modSurvey | apply keeps_when_ | intro _ _ | split | (refine keeps_mk _ _ _ _ _ _ _ _ _ _ _ _ _ _ _ _ _ _ _ _ _ _ _ _ _ _ _ _ _ _ rfl rfl rfl ?_; first | assumption | (apply keeps_foldl; intro _ _ _) | apply keeps_setEngine | apply keeps_dropMarker | apply keeps_count | apply keeps_discardCtx | apply keeps_modChan | apply keeps_abandonRun | apply keeps_modSurvey | split))

theorem keeps_dumpMove {o₀ : State} (s : State) (h₀ : Keeps o₀ s) : Keeps o₀ (dumpMove s) := by
  dsimp only [dumpMove]
  with_reducible repeat' (first | assumption | (apply keeps_foldl; intro _ _ _) | apply keeps_moveIfIdle | apply keeps_when_ | intro _ _ | split | (refine keeps_mk _ _ _ _ _ _ _ _ _ _ _ _ _ _ _ _ _ _ _ _ _ _ _ _ _ _ _ _ _ _ rfl rfl rfl ?_; first | assumption | (apply keeps_foldl; intro _ _ _) | apply keeps_moveIfIdle | split))

theorem keeps_selectDump {o₀ : State} (x : Nat) (s : State) (h₀ : Keeps o₀ s) : Keeps o₀ (selectDump x s) := by
  dsimp only [selectDump]
  with_reducible repeat' (first | assumption | (apply keeps_foldl; intro _ _ _) | apply keeps_count | apply keeps_setCtx | apply keeps_dumpMove | apply keeps_modSurvey | apply keeps_when_ | intro _ _ | split | (refine keeps_mk _ _ _ _ _ _ _ _ _ _ _ _ _ _ _ _ _ _ _ _ _ _ _ _ _ _ _ _ _ _ rfl rfl rfl ?_; first | assumption | (apply keeps_foldl; intro _ _ _) | apply keeps_count | apply keeps_setCtx | apply keeps_dumpMove | apply keeps_modSurvey | split))

theorem keeps_closeCtx {o₀ : State} (e x n : Nat) (i : Item) (ecc : Bool) (s : State) (h₀ : Keeps o₀ s) : Keeps o₀ (closeCtx e x n i ecc s) := by
  dsimp only [closeCtx]
  with_reducible repeat' (first | assumption | (apply keeps_foldl; intro _ _ _) | apply keeps_count | apply keeps_modEngine | apply keeps_storeError | apply keeps_post | apply keeps_setCtx | apply keeps_selectDump | apply keeps_queueWork | apply keeps_discardCtx | apply keeps_failEngine | apply keeps_when_ | intro _ _ | split | (refine keeps_mk _ _ _ _ _ _ _ _ _ _ _ _ _ _ _ _ _ _ _ _ _ _ _ _ _ _ _ _ _ _ rfl rfl rfl ?_; first | assumption | (apply keeps_foldl; intro _ _ _) | apply keeps_count | apply keeps_modEngine | apply keeps_storeError | apply keeps_post | apply keeps_setCtx | apply keeps_selectDump | apply keeps_queueWork | apply keeps_discardCtx | apply keeps_failEngine | split))

theorem keeps_copyDone {o₀ : State} (x : Nat) (s : State) (h₀ : Keeps o₀ s) : Keeps o₀ (copyDone x s) := by
  dsimp only [copyDone]
  with_reducible repeat' (first | assumption | (apply keeps_foldl; intro _ _ _) | apply keeps_freeCtx | apply keeps_freeExtra | apply keeps_setCtx | apply keeps_when_ | intro _ _ | split | (refine keeps_mk _ _ _ _ _ _ _ _ _ _ _ _ _ _ _ _ _ _ _ _ _ _ _ _ _ _ _ _ _ _ rfl rfl rfl ?_; first | assumption | (apply keeps_foldl; intro _ _ _) | apply keeps_freeCtx | apply keeps_freeExtra | apply keeps_setCtx | split))

/-! ## NorOps -/

theorem keeps_modNor {o₀ : State} (f : Nor → Nor) (s : State) (hf : (f s.nor).mem = s.nor.mem) (h₀ : Keeps o₀ s) :
    Keeps o₀ (modNor f s) :=
  ⟨h₀.pending, h₀.now, h₀.localTime, h₀.subTap, fun w => (congrArg norWf hf).trans (h₀.nor w)⟩

theorem keeps_norWrite {o₀ : State} (a : Nat) (l : List Byte) (s : State) (h₀ : Keeps o₀ s) : Keeps o₀ (norWrite a l s) :=
  ⟨h₀.pending, h₀.now, h₀.localTime, h₀.subTap, fun w => norWf_norPut a l _ (h₀.nor w)⟩

theorem keeps_erase {o₀ : State} (a n : Nat) (s : State) (h₀ : Keeps o₀ s) :
    Keeps o₀ (modNor (fun v => { v with mem := norErase a n v.mem }) s) :=
  ⟨h₀.pending, h₀.now, h₀.localTime, h₀.subTap, fun w => norWf_norErase a n _ (h₀.nor w)⟩

theorem keeps_sealPage {o₀ : State} (hdr body : List Byte) (s : State) (h₀ : Keeps o₀ s) : Keeps o₀ ((sealPage hdr body s).2) := by
  dsimp only [sealPage]
  with_reducible repeat' (first | assumption | (apply keeps_foldl; intro _ _ _) | apply keeps_draw | refine keeps_draw_eq ‹_› ?_ | apply keeps_when_ | intro _ _ | split | (refine keeps_mk _ _ _ _ _ _ _ _ _ _ _ _ _ _ _ _ _ _ _ _ _ _ _ _ _ _ _ _ _ _ rfl rfl rfl ?_; first | assumption | (apply keeps_foldl; intro _ _ _) | apply keeps_draw | refine keeps_draw_eq ‹_› ?_ | split))

theorem keeps_sealPage_eq {o₀ t₀ : State} {a₀ : List Byte} {hdr body : List Byte} {s : State} (e₀ : sealPage hdr body s = (a₀, t₀)) (h₀ : Keeps o₀ s) :
    Keeps o₀ t₀ := by
  have h₁ := keeps_sealPage (o₀ := o₀) hdr body s h₀
  rw [e₀] at h₁
  exact h₁

theorem keeps_norStart {o₀ : State} (o : NorOp) (s : State) (h₀ : Keeps o₀ s) : Keeps o₀ (norStart o s) := by
  dsimp only [norStart]
  with_reducible repeat' (first | assumption | (apply keeps_foldl; intro _ _ _) | apply keeps_erase | (apply keeps_modNor _ _ rfl) | apply keeps_when_ | intro _ _ | split | (refine keeps_mk _ _ _ _ _ _ _ _ _ _ _ _ _ _ _ _ _ _ _ _ _ _ _ _ _ _ _ _ _ _ rfl rfl rfl ?_; first | assumption | (apply keeps_foldl; intro _ _ _) | apply keeps_erase | (apply keeps_modNor _ _ rfl) | split))

theorem keeps_norWriteFailed {o₀ : State} (s : State) (h₀ : Keeps o₀ s) : Keeps o₀ (norWriteFailed s) := by
  dsimp only [norWriteFailed]
  with_reducible repeat' (first | assumption | (apply keeps_foldl; intro _ _ _) | apply keeps_erase | (apply keeps_modNor _ _ rfl) | apply keeps_when_ | intro _ _ | split | (refine keeps_mk _ _ _ _ _ _ _ _ _ _ _ _ _ _ _ _ _ _ _ _ _ _ _ _ _ _ _ _ _ _ rfl rfl rfl ?_; first | assumption | (apply keeps_foldl; intro _ _ _) | apply keeps_erase | (apply keeps_modNor _ _ rfl) | split))

theorem keeps_calRecord {o₀ : State} (k : CalSet) (s : State) (h₀ : Keeps o₀ s) : Keeps o₀ ((calRecord k s).2) := by
  dsimp only [calRecord]
  with_reducible repeat' (first | assumption | (apply keeps_foldl; intro _ _ _) | apply keeps_draw | refine keeps_draw_eq ‹_› ?_ | apply keeps_when_ | intro _ _ | split | (refine keeps_mk _ _ _ _ _ _ _ _ _ _ _ _ _ _ _ _ _ _ _ _ _ _ _ _ _ _ _ _ _ _ rfl rfl rfl ?_; first | assumption | (apply keeps_foldl; intro _ _ _) | apply keeps_draw | refine keeps_draw_eq ‹_› ?_ | split))

theorem keeps_calRecord_eq {o₀ t₀ : State} {a₀ : List Byte} {k : CalSet} {s : State} (e₀ : calRecord k s = (a₀, t₀)) (h₀ : Keeps o₀ s) :
    Keeps o₀ t₀ := by
  have h₁ := keeps_calRecord (o₀ := o₀) k s h₀
  rw [e₀] at h₁
  exact h₁

/-! ## RecorderOps -/

theorem keeps_modRec {o₀ : State} (f : Recorder → Recorder) (s : State) (h₀ : Keeps o₀ s) : Keeps o₀ (modRec f s) := by
  dsimp only [modRec]
  with_reducible repeat' (first | assumption | (apply keeps_foldl; intro _ _ _) | apply keeps_when_ | intro _ _ | split | (refine keeps_mk _ _ _ _ _ _ _ _ _ _ _ _ _ _ _ _ _ _ _ _ _ _ _ _ _ _ _ _ _ _ rfl rfl rfl ?_; first | assumption | (apply keeps_foldl; intro _ _ _) | split))

theorem keeps_programHeader {o₀ : State} (b st : Nat) (h : List Byte) (incident : Nat) (s : State) (h₀ : Keeps o₀ s) : Keeps o₀ (programHeader b st h incident s) := by
  dsimp only [programHeader]
  with_reducible repeat' (first | assumption | (apply keeps_foldl; intro _ _ _) | apply keeps_modBlock | apply keeps_when_ | intro _ _ | split | (refine keeps_mk _ _ _ _ _ _ _ _ _ _ _ _ _ _ _ _ _ _ _ _ _ _ _ _ _ _ _ _ _ _ rfl rfl rfl ?_; first | assumption | (apply keeps_foldl; intro _ _ _) | apply keeps_modBlock | split))

theorem keeps_openOn {o₀ : State} (kind b : Nat) (s : State) (h₀ : Keeps o₀ s) : Keeps o₀ (openOn kind b s) := by
  dsimp only [openOn]
  with_reducible repeat' (first | assumption | (apply keeps_foldl; intro _ _ _) | apply keeps_draw | refine keeps_draw_eq ‹_› ?_ | apply keeps_modRec | apply keeps_modBlock | apply keeps_when_ | intro _ _ | split | (refine keeps_mk _ _ _ _ _ _ _ _ _ _ _ _ _ _ _ _ _ _ _ _ _ _ _ _ _ _ _ _ _ _ rfl rfl rfl ?_; first | assumption | (apply keeps_foldl; intro _ _ _) | apply keeps_draw | refine keeps_draw_eq ‹_› ?_ | apply keeps_modRec | apply keeps_modBlock | split))

theorem keeps_dropCopy {o₀ : State} (c : Nat) (s : State) (h₀ : Keeps o₀ s) : Keeps o₀ (dropCopy c s) := by
  dsimp only [dropCopy]
  with_reducible repeat' (first | assumption | (apply keeps_foldl; intro _ _ _) | apply keeps_modBlock | apply keeps_modRec | apply keeps_when_ | intro _ _ | split | (refine keeps_mk _ _ _ _ _ _ _ _ _ _ _ _ _ _ _ _ _ _ _ _ _ _ _ _ _ _ _ _ _ _ rfl rfl rfl ?_; first | assumption | (apply keeps_foldl; intro _ _ _) | apply keeps_modBlock | apply keeps_modRec | split))

theorem keeps_letGo {o₀ : State} (b : Nat) (s : State) (h₀ : Keeps o₀ s) : Keeps o₀ (letGo b s) := by
  dsimp only [letGo]
  with_reducible repeat' (first | assumption | (apply keeps_foldl; intro _ _ _) | apply keeps_modBlock | apply keeps_modRec | apply keeps_dropCopy | apply keeps_when_ | intro _ _ | split | (refine keeps_mk _ _ _ _ _ _ _ _ _ _ _ _ _ _ _ _ _ _ _ _ _ _ _ _ _ _ _ _ _ _ rfl rfl rfl ?_; first | assumption | (apply keeps_foldl; intro _ _ _) | apply keeps_modBlock | apply keeps_modRec | apply keeps_dropCopy | split))

theorem keeps_dropOldest {o₀ : State} (s : State) (h₀ : Keeps o₀ s) : Keeps o₀ (dropOldest s) := by
  dsimp only [dropOldest]
  with_reducible repeat' (first | assumption | (apply keeps_foldl; intro _ _ _) | apply keeps_letGo | apply keeps_modRec | apply keeps_when_ | intro _ _ | split | (refine keeps_mk _ _ _ _ _ _ _ _ _ _ _ _ _ _ _ _ _ _ _ _ _ _ _ _ _ _ _ _ _ _ rfl rfl rfl ?_; first | assumption | (apply keeps_foldl; intro _ _ _) | apply keeps_letGo | apply keeps_modRec | split))

theorem keeps_openIfNeeded {o₀ : State} (s : State) (h₀ : Keeps o₀ s) : Keeps o₀ (openIfNeeded s) := by
  dsimp only [openIfNeeded]
  with_reducible repeat' (first | assumption | (apply keeps_foldl; intro _ _ _) | apply keeps_modRec | apply keeps_dropOldest | apply keeps_openOn | apply keeps_when_ | intro _ _ | split | (refine keeps_mk _ _ _ _ _ _ _ _ _ _ _ _ _ _ _ _ _ _ _ _ _ _ _ _ _ _ _ _ _ _ rfl rfl rfl ?_; first | assumption | (apply keeps_foldl; intro _ _ _) | apply keeps_modRec | apply keeps_dropOldest | apply keeps_openOn | split))

theorem keeps_loadSeg {o₀ : State} (s : State) (h₀ : Keeps o₀ s) : Keeps o₀ (loadSeg s) := by
  dsimp only [loadSeg]
  with_reducible repeat' (first | assumption | (apply keeps_foldl; intro _ _ _) | apply keeps_modRec | apply keeps_when_ | intro _ _ | split | (refine keeps_mk _ _ _ _ _ _ _ _ _ _ _ _ _ _ _ _ _ _ _ _ _ _ _ _ _ _ _ _ _ _ rfl rfl rfl ?_; first | assumption | (apply keeps_foldl; intro _ _ _) | apply keeps_modRec | split))

theorem keeps_drawScalar {o₀ : State} (s : State) (h₀ : Keeps o₀ s) : Keeps o₀ ((drawScalar s).2) := by
  dsimp only [drawScalar]
  with_reducible repeat' (first | assumption | (apply keeps_foldl; intro _ _ _) | apply keeps_draw | refine keeps_draw_eq ‹_› ?_ | apply keeps_when_ | intro _ _ | split | (refine keeps_mk _ _ _ _ _ _ _ _ _ _ _ _ _ _ _ _ _ _ _ _ _ _ _ _ _ _ _ _ _ _ rfl rfl rfl ?_; first | assumption | (apply keeps_foldl; intro _ _ _) | apply keeps_draw | refine keeps_draw_eq ‹_› ?_ | split))

theorem keeps_drawScalar_eq {o₀ t₀ : State} {a₀ : Nat} {s : State} (e₀ : drawScalar s = (a₀, t₀)) (h₀ : Keeps o₀ s) :
    Keeps o₀ t₀ := by
  have h₁ := keeps_drawScalar (o₀ := o₀) s h₀
  rw [e₀] at h₁
  exact h₁

theorem keeps_signDigest {o₀ : State} (digest : List Byte) (s : State) (h₀ : Keeps o₀ s) : Keeps o₀ ((signDigest digest s).2) := by
  dsimp only [signDigest]
  with_reducible repeat' (first | assumption | (apply keeps_foldl; intro _ _ _) | apply keeps_drawScalar | refine keeps_drawScalar_eq ‹_› ?_ | apply keeps_count | apply keeps_when_ | intro _ _ | split | (refine keeps_mk _ _ _ _ _ _ _ _ _ _ _ _ _ _ _ _ _ _ _ _ _ _ _ _ _ _ _ _ _ _ rfl rfl rfl ?_; first | assumption | (apply keeps_foldl; intro _ _ _) | apply keeps_drawScalar | refine keeps_drawScalar_eq ‹_› ?_ | apply keeps_count | split))

theorem keeps_signDigest_eq {o₀ t₀ : State} {a₀ : List Byte} {digest : List Byte} {s : State} (e₀ : signDigest digest s = (a₀, t₀)) (h₀ : Keeps o₀ s) :
    Keeps o₀ t₀ := by
  have h₁ := keeps_signDigest (o₀ := o₀) digest s h₀
  rw [e₀] at h₁
  exact h₁

theorem keeps_signRecord {o₀ : State} (kind cause seq incident : Nat) (i : SegInfo) (body : List Byte) (s : State) (h₀ : Keeps o₀ s) : Keeps o₀ ((signRecord kind cause seq incident i body s).2) := by
  dsimp only [signRecord]
  with_reducible repeat' (first | assumption | (apply keeps_foldl; intro _ _ _) | apply keeps_signDigest | refine keeps_signDigest_eq ‹_› ?_ | apply keeps_modRec | apply keeps_when_ | intro _ _ | split | (refine keeps_mk _ _ _ _ _ _ _ _ _ _ _ _ _ _ _ _ _ _ _ _ _ _ _ _ _ _ _ _ _ _ rfl rfl rfl ?_; first | assumption | (apply keeps_foldl; intro _ _ _) | apply keeps_signDigest | refine keeps_signDigest_eq ‹_› ?_ | apply keeps_modRec | split))

theorem keeps_signRecord_eq {o₀ t₀ : State} {a₀ : List Byte} {kind cause seq incident : Nat} {i : SegInfo} {body : List Byte} {s : State} (e₀ : signRecord kind cause seq incident i body s = (a₀, t₀)) (h₀ : Keeps o₀ s) :
    Keeps o₀ t₀ := by
  have h₁ := keeps_signRecord (o₀ := o₀) kind cause seq incident i body s h₀
  rw [e₀] at h₁
  exact h₁

theorem keeps_modIncident {o₀ : State} (n : Nat) (f : Incident → Incident) (s : State) (h₀ : Keeps o₀ s) : Keeps o₀ (modIncident n f s) := by
  dsimp only [modIncident]
  with_reducible repeat' (first | assumption | (apply keeps_foldl; intro _ _ _) | apply keeps_modRec | apply keeps_when_ | intro _ _ | split | (refine keeps_mk _ _ _ _ _ _ _ _ _ _ _ _ _ _ _ _ _ _ _ _ _ _ _ _ _ _ _ _ _ _ rfl rfl rfl ?_; first | assumption | (apply keeps_foldl; intro _ _ _) | apply keeps_modRec | split))

theorem keeps_placeClosing {o₀ : State} (n b seq : Nat) (i : SegInfo) (s : State) (h₀ : Keeps o₀ s) : Keeps o₀ (placeClosing n b seq i s) := by
  dsimp only [placeClosing]
  with_reducible repeat' (first | assumption | (apply keeps_foldl; intro _ _ _) | apply keeps_signRecord | refine keeps_signRecord_eq ‹_› ?_ | apply keeps_modBlock | apply keeps_modRec | apply keeps_modIncident | apply keeps_when_ | intro _ _ | split | (refine keeps_mk _ _ _ _ _ _ _ _ _ _ _ _ _ _ _ _ _ _ _ _ _ _ _ _ _ _ _ _ _ _ rfl rfl rfl ?_; first | assumption | (apply keeps_foldl; intro _ _ _) | apply keeps_signRecord | refine keeps_signRecord_eq ‹_› ?_ | apply keeps_modBlock | apply keeps_modRec | apply keeps_modIncident | split))

theorem keeps_addSignPage {o₀ : State} (b seq : Nat) (sk : Option (List Byte)) (s : State) (h₀ : Keeps o₀ s) : Keeps o₀ (addSignPage b seq sk s) := by
  dsimp only [addSignPage]
  with_reducible repeat' (first | assumption | (apply keeps_foldl; intro _ _ _) | apply keeps_modBlock | apply keeps_when_ | intro _ _ | split | (refine keeps_mk _ _ _ _ _ _ _ _ _ _ _ _ _ _ _ _ _ _ _ _ _ _ _ _ _ _ _ _ _ _ rfl rfl rfl ?_; first | assumption | (apply keeps_foldl; intro _ _ _) | apply keeps_modBlock | split))

theorem keeps_spoilPage {o₀ : State} (b : Nat) (s : State) (h₀ : Keeps o₀ s) : Keeps o₀ (spoilPage b s) := by
  dsimp only [spoilPage]
  with_reducible repeat' (first | assumption | (apply keeps_foldl; intro _ _ _) | apply keeps_modBlock | apply keeps_when_ | intro _ _ | split | (refine keeps_mk _ _ _ _ _ _ _ _ _ _ _ _ _ _ _ _ _ _ _ _ _ _ _ _ _ _ _ _ _ _ rfl rfl rfl ?_; first | assumption | (apply keeps_foldl; intro _ _ _) | apply keeps_modBlock | split))

theorem keeps_closeSeg {o₀ : State} (s : State) (h₀ : Keeps o₀ s) : Keeps o₀ (closeSeg s) := by
  dsimp only [closeSeg]
  with_reducible repeat' (first | assumption | (apply keeps_foldl; intro _ _ _) | apply keeps_signRecord | refine keeps_signRecord_eq ‹_› ?_ | apply keeps_modBlock | apply keeps_placeClosing | apply keeps_addSignPage | apply keeps_modRec | apply keeps_count | apply keeps_when_ | intro _ _ | split | (refine keeps_mk _ _ _ _ _ _ _ _ _ _ _ _ _ _ _ _ _ _ _ _ _ _ _ _ _ _ _ _ _ _ rfl rfl rfl ?_; first | assumption | (apply keeps_foldl; intro _ _ _) | apply keeps_signRecord | refine keeps_signRecord_eq ‹_› ?_ | apply keeps_modBlock | apply keeps_placeClosing | apply keeps_addSignPage | apply keeps_modRec | apply keeps_count | split))

theorem keeps_logIncident {o₀ : State} (ev : Nat) (i : Incident) (s : State) (h₀ : Keeps o₀ s) : Keeps o₀ (logIncident ev i s) := by
  dsimp only [logIncident]
  with_reducible repeat' (first | assumption | (apply keeps_foldl; intro _ _ _) | apply keeps_logEvent | apply keeps_when_ | intro _ _ | split | (refine keeps_mk _ _ _ _ _ _ _ _ _ _ _ _ _ _ _ _ _ _ _ _ _ _ _ _ _ _ _ _ _ _ rfl rfl rfl ?_; first | assumption | (apply keeps_foldl; intro _ _ _) | apply keeps_logEvent | split))

theorem keeps_journalEntry {o₀ : State} (kind : Nat) (i : Incident) (s : State) (h₀ : Keeps o₀ s) : Keeps o₀ (journalEntry kind i s) := by
  dsimp only [journalEntry]
  with_reducible repeat' (first | assumption | (apply keeps_foldl; intro _ _ _) | apply keeps_sealPage | refine keeps_sealPage_eq ‹_› ?_ | apply keeps_norStart | apply keeps_modRec | apply keeps_when_ | intro _ _ | split | (refine keeps_mk _ _ _ _ _ _ _ _ _ _ _ _ _ _ _ _ _ _ _ _ _ _ _ _ _ _ _ _ _ _ rfl rfl rfl ?_; first | assumption | (apply keeps_foldl; intro _ _ _) | apply keeps_sealPage | refine keeps_sealPage_eq ‹_› ?_ | apply keeps_norStart | apply keeps_modRec | split))

theorem keeps_tableWrite {o₀ : State} (s : State) (h₀ : Keeps o₀ s) : Keeps o₀ (tableWrite s) := by
  dsimp only [tableWrite, tableRecord]
  with_reducible repeat' (first | assumption | (apply keeps_foldl; intro _ _ _) | apply keeps_draw | refine keeps_draw_eq ‹_› ?_ | apply keeps_norStart | apply keeps_modRec | apply keeps_when_ | intro _ _ | split | (refine keeps_mk _ _ _ _ _ _ _ _ _ _ _ _ _ _ _ _ _ _ _ _ _ _ _ _ _ _ _ _ _ _ rfl rfl rfl ?_; first | assumption | (apply keeps_foldl; intro _ _ _) | apply keeps_draw | refine keeps_draw_eq ‹_› ?_ | apply keeps_norStart | apply keeps_modRec | split))

theorem keeps_countSegments {o₀ : State} (n : Nat) (s : State) (h₀ : Keeps o₀ s) : Keeps o₀ (countSegments n s) := by
  dsimp only [countSegments]
  with_reducible repeat' (first | assumption | (apply keeps_foldl; intro _ _ _) | apply keeps_modIncident | apply keeps_when_ | intro _ _ | split | (refine keeps_mk _ _ _ _ _ _ _ _ _ _ _ _ _ _ _ _ _ _ _ _ _ _ _ _ _ _ _ _ _ _ rfl rfl rfl ?_; first | assumption | (apply keeps_foldl; intro _ _ _) | apply keeps_modIncident | split))

theorem keeps_phaseWork {o₀ : State} (s : State) (h₀ : Keeps o₀ s) : Keeps o₀ (phaseWork s) := by
  dsimp only [phaseWork]
  with_reducible repeat' (first | assumption | (apply keeps_foldl; intro _ _ _) | apply keeps_countSegments | apply keeps_journalEntry | apply keeps_modIncident | apply keeps_tableWrite | apply keeps_when_ | intro _ _ | split | (refine keeps_mk _ _ _ _ _ _ _ _ _ _ _ _ _ _ _ _ _ _ _ _ _ _ _ _ _ _ _ _ _ _ rfl rfl rfl ?_; first | assumption | (apply keeps_foldl; intro _ _ _) | apply keeps_countSegments | apply keeps_journalEntry | apply keeps_modIncident | apply keeps_tableWrite | split))

theorem keeps_journalDone {o₀ : State} (kind n : Nat) (s : State) (h₀ : Keeps o₀ s) : Keeps o₀ (journalDone kind n s) := by
  dsimp only [journalDone]
  with_reducible repeat' (first | assumption | (apply keeps_foldl; intro _ _ _) | apply keeps_modIncident | apply keeps_modRec | apply keeps_count | apply keeps_logIncident | apply keeps_when_ | intro _ _ | split | (refine keeps_mk _ _ _ _ _ _ _ _ _ _ _ _ _ _ _ _ _ _ _ _ _ _ _ _ _ _ _ _ _ _ rfl rfl rfl ?_; first | assumption | (apply keeps_foldl; intro _ _ _) | apply keeps_modIncident | apply keeps_modRec | apply keeps_count | apply keeps_logIncident | split))

theorem keeps_releaseIncident {o₀ : State} (i : Incident) (s : State) (h₀ : Keeps o₀ s) : Keeps o₀ (releaseIncident i s) := by
  dsimp only [releaseIncident]
  with_reducible repeat' (first | assumption | (apply keeps_foldl; intro _ _ _) | apply keeps_letGo | apply keeps_modRec | apply keeps_count | apply keeps_logIncident | apply keeps_tableWrite | apply keeps_journalEntry | apply keeps_when_ | intro _ _ | split | (refine keeps_mk _ _ _ _ _ _ _ _ _ _ _ _ _ _ _ _ _ _ _ _ _ _ _ _ _ _ _ _ _ _ rfl rfl rfl ?_; first | assumption | (apply keeps_foldl; intro _ _ _) | apply keeps_letGo | apply keeps_modRec | apply keeps_count | apply keeps_logIncident | apply keeps_tableWrite | apply keeps_journalEntry | split))

theorem keeps_background {o₀ : State} (s : State) (h₀ : Keeps o₀ s) : Keeps o₀ (background s) := by
  dsimp only [background]
  with_reducible repeat' (first | assumption | (apply keeps_foldl; intro _ _ _) | apply keeps_moveStart | apply keeps_modRec | apply keeps_modBlock | apply keeps_erase | apply keeps_when_ | intro _ _ | split | (refine keeps_mk _ _ _ _ _ _ _ _ _ _ _ _ _ _ _ _ _ _ _ _ _ _ _ _ _ _ _ _ _ _ rfl rfl rfl ?_; first | assumption | (apply keeps_foldl; intro _ _ _) | apply keeps_moveStart | apply keeps_modRec | apply keeps_modBlock | apply keeps_erase | split))

theorem keeps_segMove {o₀ : State} (j : NandJob) (s : State) (h₀ : Keeps o₀ s) : Keeps o₀ (segMove j s) := by
  dsimp only [segMove]
  with_reducible repeat' (first | assumption | (apply keeps_foldl; intro _ _ _) | apply keeps_moveStart | apply keeps_when_ | intro _ _ | split | (refine keeps_mk _ _ _ _ _ _ _ _ _ _ _ _ _ _ _ _ _ _ _ _ _ _ _ _ _ _ _ _ _ _ rfl rfl rfl ?_; first | assumption | (apply keeps_foldl; intro _ _ _) | apply keeps_moveStart | split))

theorem keeps_nandNext {o₀ : State} (s : State) (h₀ : Keeps o₀ s) : Keeps o₀ (nandNext s) := by
  dsimp only [nandNext]
  with_reducible repeat' (first | assumption | (apply keeps_foldl; intro _ _ _) | apply keeps_phaseWork | apply keeps_loadSeg | apply keeps_openIfNeeded | apply keeps_background | apply keeps_segMove | apply keeps_modRec | apply keeps_when_ | intro _ _ | split | (refine keeps_mk _ _ _ _ _ _ _ _ _ _ _ _ _ _ _ _ _ _ _ _ _ _ _ _ _ _ _ _ _ _ rfl rfl rfl ?_; first | assumption | (apply keeps_foldl; intro _ _ _) | apply keeps_phaseWork | apply keeps_loadSeg | apply keeps_openIfNeeded | apply keeps_background | apply keeps_segMove | apply keeps_modRec | split))

theorem keeps_stampJob {o₀ : State} (s t : State) (h₀ : Keeps o₀ t) : Keeps o₀ (stampJob s t) := by
  dsimp only [stampJob]
  with_reducible repeat' (first | assumption | (apply keeps_foldl; intro _ _ _) | apply keeps_modRec | apply keeps_when_ | intro _ _ | split | (refine keeps_mk _ _ _ _ _ _ _ _ _ _ _ _ _ _ _ _ _ _ _ _ _ _ _ _ _ _ _ _ _ _ rfl rfl rfl ?_; first | assumption | (apply keeps_foldl; intro _ _ _) | apply keeps_modRec | split))

theorem keeps_nandStart {o₀ : State} (s : State) (h₀ : Keeps o₀ s) : Keeps o₀ (nandStart s) := by
  unfold nandStart
  split
  · exact h₀
  · exact keeps_stampJob _ _ (keeps_nandNext _ h₀)

theorem keeps_countRead {o₀ : State} (l : List Nat) (s : State) (h₀ : Keeps o₀ s) : Keeps o₀ (countRead l s) := by
  dsimp only [countRead]
  with_reducible repeat' (first | assumption | (apply keeps_foldl; intro _ _ _) | apply keeps_count | apply keeps_when_ | intro _ _ | split | (refine keeps_mk _ _ _ _ _ _ _ _ _ _ _ _ _ _ _ _ _ _ _ _ _ _ _ _ _ _ _ _ _ _ rfl rfl rfl ?_; first | assumption | (apply keeps_foldl; intro _ _ _) | apply keeps_count | split))

theorem keeps_wantScrub {o₀ : State} (b : Nat) (s : State) (h₀ : Keeps o₀ s) : Keeps o₀ (wantScrub b s) := by
  dsimp only [wantScrub]
  with_reducible repeat' (first | assumption | (apply keeps_foldl; intro _ _ _) | apply keeps_modRec | apply keeps_when_ | intro _ _ | split | (refine keeps_mk _ _ _ _ _ _ _ _ _ _ _ _ _ _ _ _ _ _ _ _ _ _ _ _ _ _ _ _ _ _ rfl rfl rfl ?_; first | assumption | (apply keeps_foldl; intro _ _ _) | apply keeps_modRec | split))

theorem keeps_noteRead {o₀ : State} (b : Nat) (l : List Nat) (s : State) (h₀ : Keeps o₀ s) : Keeps o₀ (noteRead b l s) := by
  dsimp only [noteRead]
  with_reducible repeat' (first | assumption | (apply keeps_foldl; intro _ _ _) | apply keeps_countRead | apply keeps_modBlock | apply keeps_wantScrub | apply keeps_when_ | intro _ _ | split | (refine keeps_mk _ _ _ _ _ _ _ _ _ _ _ _ _ _ _ _ _ _ _ _ _ _ _ _ _ _ _ _ _ _ rfl rfl rfl ?_; first | assumption | (apply keeps_foldl; intro _ _ _) | apply keeps_countRead | apply keeps_modBlock | apply keeps_wantScrub | split))

theorem keeps_readBack {o₀ : State} (b : Nat) (p : PageResult) (s : State) (h₀ : Keeps o₀ s) : Keeps o₀ (readBack b p s) := by
  dsimp only [readBack]
  with_reducible repeat' (first | assumption | (apply keeps_foldl; intro _ _ _) | apply keeps_noteRead | apply keeps_when_ | intro _ _ | split | (refine keeps_mk _ _ _ _ _ _ _ _ _ _ _ _ _ _ _ _ _ _ _ _ _ _ _ _ _ _ _ _ _ _ rfl rfl rfl ?_; first | assumption | (apply keeps_foldl; intro _ _ _) | apply keeps_noteRead | split))

theorem keeps_pageOk {o₀ : State} (s : State) (h₀ : Keeps o₀ s) : Keeps o₀ (pageOk s) := by
  dsimp only [pageOk]
  with_reducible repeat' (first | assumption | (apply keeps_foldl; intro _ _ _) | apply keeps_modBlock | apply keeps_modRec | apply keeps_when_ | intro _ _ | split | (refine keeps_mk _ _ _ _ _ _ _ _ _ _ _ _ _ _ _ _ _ _ _ _ _ _ _ _ _ _ _ _ _ _ rfl rfl rfl ?_; first | assumption | (apply keeps_foldl; intro _ _ _) | apply keeps_modBlock | apply keeps_modRec | split))

theorem keeps_retireBlock {o₀ : State} (b : Nat) (s : State) (h₀ : Keeps o₀ s) : Keeps o₀ (retireBlock b s) := by
  dsimp only [retireBlock]
  with_reducible repeat' (first | assumption | (apply keeps_foldl; intro _ _ _) | apply keeps_modRec | apply keeps_tableWrite | apply keeps_count | apply keeps_logEvent | apply keeps_when_ | intro _ _ | split | (refine keeps_mk _ _ _ _ _ _ _ _ _ _ _ _ _ _ _ _ _ _ _ _ _ _ _ _ _ _ _ _ _ _ rfl rfl rfl ?_; first | assumption | (apply keeps_foldl; intro _ _ _) | apply keeps_modRec | apply keeps_tableWrite | apply keeps_count | apply keeps_logEvent | split))

theorem keeps_programFailed {o₀ : State} (s : State) (h₀ : Keeps o₀ s) : Keeps o₀ (programFailed s) := by
  dsimp only [programFailed]
  with_reducible repeat' (first | assumption | (apply keeps_foldl; intro _ _ _) | apply keeps_spoilPage | apply keeps_modRec | apply keeps_when_ | intro _ _ | split | (refine keeps_mk _ _ _ _ _ _ _ _ _ _ _ _ _ _ _ _ _ _ _ _ _ _ _ _ _ _ _ _ _ _ rfl rfl rfl ?_; first | assumption | (apply keeps_foldl; intro _ _ _) | apply keeps_spoilPage | apply keeps_modRec | split))

theorem keeps_headerFailed {o₀ : State} (s : State) (h₀ : Keeps o₀ s) : Keeps o₀ (headerFailed s) := by
  dsimp only [headerFailed]
  with_reducible repeat' (first | assumption | (apply keeps_foldl; intro _ _ _) | apply keeps_letGo | apply keeps_modRec | apply keeps_when_ | intro _ _ | split | (refine keeps_mk _ _ _ _ _ _ _ _ _ _ _ _ _ _ _ _ _ _ _ _ _ _ _ _ _ _ _ _ _ _ rfl rfl rfl ?_; first | assumption | (apply keeps_foldl; intro _ _ _) | apply keeps_letGo | apply keeps_modRec | split))

theorem keeps_headerDone {o₀ : State} (p : PageResult) (s : State) (h₀ : Keeps o₀ s) : Keeps o₀ (headerDone p s) := by
  dsimp only [headerDone]
  with_reducible repeat' (first | assumption | (apply keeps_foldl; intro _ _ _) | apply keeps_modRec | apply keeps_readBack | apply keeps_programHeader | apply keeps_headerFailed | apply keeps_retireBlock | apply keeps_when_ | intro _ _ | split | (refine keeps_mk _ _ _ _ _ _ _ _ _ _ _ _ _ _ _ _ _ _ _ _ _ _ _ _ _ _ _ _ _ _ rfl rfl rfl ?_; first | assumption | (apply keeps_foldl; intro _ _ _) | apply keeps_modRec | apply keeps_readBack | apply keeps_programHeader | apply keeps_headerFailed | apply keeps_retireBlock | split))

theorem keeps_programDone {o₀ : State} (p : PageResult) (s : State) (h₀ : Keeps o₀ s) : Keeps o₀ (programDone p s) := by
  dsimp only [programDone]
  with_reducible repeat' (first | assumption | (apply keeps_foldl; intro _ _ _) | apply keeps_modRec | apply keeps_readBack | apply keeps_pageOk | apply keeps_programFailed | apply keeps_retireBlock | apply keeps_when_ | intro _ _ | split | (refine keeps_mk _ _ _ _ _ _ _ _ _ _ _ _ _ _ _ _ _ _ _ _ _ _ _ _ _ _ _ _ _ _ rfl rfl rfl ?_; first | assumption | (apply keeps_foldl; intro _ _ _) | apply keeps_modRec | apply keeps_readBack | apply keeps_pageOk | apply keeps_programFailed | apply keeps_retireBlock | split))

theorem keeps_signDone {o₀ : State} (p : PageResult) (s : State) (h₀ : Keeps o₀ s) : Keeps o₀ (signDone p s) := by
  dsimp only [signDone]
  with_reducible repeat' (first | assumption | (apply keeps_foldl; intro _ _ _) | apply keeps_modRec | apply keeps_readBack | apply keeps_closeSeg | apply keeps_retireBlock | apply keeps_modBlock | apply keeps_spoilPage | apply keeps_when_ | intro _ _ | split | (refine keeps_mk _ _ _ _ _ _ _ _ _ _ _ _ _ _ _ _ _ _ _ _ _ _ _ _ _ _ _ _ _ _ rfl rfl rfl ?_; first | assumption | (apply keeps_foldl; intro _ _ _) | apply keeps_modRec | apply keeps_readBack | apply keeps_closeSeg | apply keeps_retireBlock | apply keeps_modBlock | apply keeps_spoilPage | split))

theorem keeps_endSegJob {o₀ : State} (j : NandJob) (p : PageResult) (s : State) (h₀ : Keeps o₀ s) : Keeps o₀ (endSegJob j p s) := by
  dsimp only [endSegJob]
  with_reducible repeat' (first | assumption | (apply keeps_foldl; intro _ _ _) | apply keeps_headerDone | apply keeps_programDone | apply keeps_signDone | apply keeps_when_ | intro _ _ | split | (refine keeps_mk _ _ _ _ _ _ _ _ _ _ _ _ _ _ _ _ _ _ _ _ _ _ _ _ _ _ _ _ _ _ rfl rfl rfl ?_; first | assumption | (apply keeps_foldl; intro _ _ _) | apply keeps_headerDone | apply keeps_programDone | apply keeps_signDone | split))

theorem keeps_runSeg {o₀ : State} (stop : State → Bool) :
    ∀ (k : Nat) (l : List PageResult) (s : State), Keeps o₀ s → Keeps o₀ (runSeg stop k l s)
  | 0, _, _, h => h
  | k + 1, l, s, h => by
    rw [runSeg]
    split
    · exact h
    · dsimp only
      split
      · exact keeps_loadSeg _ (keeps_openIfNeeded _ h)
      · exact keeps_runSeg stop k _ _ (keeps_endSegJob _ _ _ (keeps_loadSeg _ (keeps_openIfNeeded _ h)))

theorem keeps_finishSeg {o₀ : State} (l : List PageResult) (s : State) (h₀ : Keeps o₀ s) : Keeps o₀ (finishSeg l s) := by
  have h := keeps_loadSeg _ (keeps_openIfNeeded _ h₀)
  unfold finishSeg
  dsimp only
  split
  · exact h
  · exact keeps_runSeg _ _ _ _ h

theorem keeps_finishClosing {o₀ : State} (l : List PageResult) (s : State) (h₀ : Keeps o₀ s) : Keeps o₀ (finishClosing l s) :=
  keeps_runSeg _ _ _ _ h₀

theorem keeps_stage {o₀ : State} (b gap : Body) (s : State) (h₀ : Keeps o₀ s) : Keeps o₀ (stage b gap s) := by
  dsimp only [stage]
  with_reducible repeat' (first | assumption | (apply keeps_foldl; intro _ _ _) | apply keeps_modRec | apply keeps_count | apply keeps_when_ | intro _ _ | split | (refine keeps_mk _ _ _ _ _ _ _ _ _ _ _ _ _ _ _ _ _ _ _ _ _ _ _ _ _ _ _ _ _ _ rfl rfl rfl ?_; first | assumption | (apply keeps_foldl; intro _ _ _) | apply keeps_modRec | apply keeps_count | split))

theorem keeps_formEvents {o₀ : State} (s : State) (h₀ : Keeps o₀ s) : Keeps o₀ (formEvents s) := by
  dsimp only [formEvents]
  with_reducible repeat' (first | assumption | (apply keeps_foldl; intro _ _ _) | apply keeps_stage | apply keeps_modRec | apply keeps_when_ | intro _ _ | split | (refine keeps_mk _ _ _ _ _ _ _ _ _ _ _ _ _ _ _ _ _ _ _ _ _ _ _ _ _ _ _ _ _ _ rfl rfl rfl ?_; first | assumption | (apply keeps_foldl; intro _ _ _) | apply keeps_stage | apply keeps_modRec | split))

theorem keeps_formGaps {o₀ : State} (s : State) (h₀ : Keeps o₀ s) : Keeps o₀ (formGaps s) := by
  dsimp only [formGaps]
  with_reducible repeat' (first | assumption | (apply keeps_foldl; intro _ _ _) | apply keeps_modRec | apply keeps_when_ | intro _ _ | split | (refine keeps_mk _ _ _ _ _ _ _ _ _ _ _ _ _ _ _ _ _ _ _ _ _ _ _ _ _ _ _ _ _ _ rfl rfl rfl ?_; first | assumption | (apply keeps_foldl; intro _ _ _) | apply keeps_modRec | split))

theorem keeps_pauseRing {o₀ : State} (s : State) (h₀ : Keeps o₀ s) : Keeps o₀ (pauseRing s) := by
  dsimp only [pauseRing]
  with_reducible repeat' (first | assumption | (apply keeps_foldl; intro _ _ _) | apply keeps_modRec | apply keeps_formGaps | apply keeps_formEvents | apply keeps_when_ | intro _ _ | split | (refine keeps_mk _ _ _ _ _ _ _ _ _ _ _ _ _ _ _ _ _ _ _ _ _ _ _ _ _ _ _ _ _ _ rfl rfl rfl ?_; first | assumption | (apply keeps_foldl; intro _ _ _) | apply keeps_modRec | apply keeps_formGaps | apply keeps_formEvents | split))

/-! ## Contour -/

theorem keeps_modContour {o₀ : State} (f : Contour → Contour) (s : State) (h₀ : Keeps o₀ s) : Keeps o₀ (modContour f s) := by
  dsimp only [modContour]
  with_reducible repeat' (first | assumption | (apply keeps_foldl; intro _ _ _) | apply keeps_when_ | intro _ _ | split | (refine keeps_mk _ _ _ _ _ _ _ _ _ _ _ _ _ _ _ _ _ _ _ _ _ _ _ _ _ _ _ _ _ _ rfl rfl rfl ?_; first | assumption | (apply keeps_foldl; intro _ _ _) | split))

theorem keeps_takeWork_eq {o₀ s t : State} {w : Work} (e : takeWork s = some (w, t)) (h₀ : Keeps o₀ s) : Keeps o₀ t := by
  unfold takeWork at e
  split at e
  · cases e; exact keeps_modContour _ _ h₀
  · split at e
    · cases e
    · cases e; exact keeps_modEngine _ _ _ h₀

theorem keeps_contourEccError {o₀ : State} (x : Nat) (pool : Bool) (s : State) (h₀ : Keeps o₀ s) : Keeps o₀ (contourEccError x pool s) := by
  dsimp only [contourEccError]
  with_reducible repeat' (first | assumption | (apply keeps_foldl; intro _ _ _) | apply keeps_count | apply keeps_failEngine | apply keeps_storeError | apply keeps_when_ | intro _ _ | split | (refine keeps_mk _ _ _ _ _ _ _ _ _ _ _ _ _ _ _ _ _ _ _ _ _ _ _ _ _ _ _ _ _ _ rfl rfl rfl ?_; first | assumption | (apply keeps_foldl; intro _ _ _) | apply keeps_count | apply keeps_failEngine | apply keeps_storeError | split))

theorem keeps_returnCtx {o₀ : State} (x : Nat) (s : State) (h₀ : Keeps o₀ s) : Keeps o₀ (returnCtx x s) := by
  dsimp only [returnCtx]
  with_reducible repeat' (first | assumption | (apply keeps_foldl; intro _ _ _) | apply keeps_freeCtx | apply keeps_freeExtra | apply keeps_setCtx | apply keeps_when_ | intro _ _ | split | (refine keeps_mk _ _ _ _ _ _ _ _ _ _ _ _ _ _ _ _ _ _ _ _ _ _ _ _ _ _ _ _ _ _ rfl rfl rfl ?_; first | assumption | (apply keeps_foldl; intro _ _ _) | apply keeps_freeCtx | apply keeps_freeExtra | apply keeps_setCtx | split))

theorem keeps_produce {o₀ : State} (unit : Nat) (v : Unit_) (w : Work) (s : State) (h₀ : Keeps o₀ s) : Keeps o₀ (produce unit v w s) := by
  dsimp only [produce]
  with_reducible repeat' (first | assumption | (apply keeps_foldl; intro _ _ _) | apply keeps_count | apply keeps_setUnit | apply keeps_modSheetOut | apply keeps_returnCtx | apply keeps_when_ | intro _ _ | split | (refine keeps_mk _ _ _ _ _ _ _ _ _ _ _ _ _ _ _ _ _ _ _ _ _ _ _ _ _ _ _ _ _ _ rfl rfl rfl ?_; first | assumption | (apply keeps_foldl; intro _ _ _) | apply keeps_count | apply keeps_setUnit | apply keeps_modSheetOut | apply keeps_returnCtx | split))

theorem keeps_failUnit {o₀ : State} (unit how : Nat) (s : State) (h₀ : Keeps o₀ s) : Keeps o₀ (failUnit unit how s) := by
  dsimp only [failUnit]
  with_reducible repeat' (first | assumption | (apply keeps_foldl; intro _ _ _) | apply keeps_setUnit | apply keeps_modContour | apply keeps_count | apply keeps_logEvent | apply keeps_when_ | intro _ _ | split | (refine keeps_mk _ _ _ _ _ _ _ _ _ _ _ _ _ _ _ _ _ _ _ _ _ _ _ _ _ _ _ _ _ _ rfl rfl rfl ?_; first | assumption | (apply keeps_foldl; intro _ _ _) | apply keeps_setUnit | apply keeps_modContour | apply keeps_count | apply keeps_logEvent | split))

theorem keeps_release {o₀ : State} (o : SheetOut) (g β : Nat) (s : State) (h₀ : Keeps o₀ s) : Keeps o₀ (release o g β s) := by
  dsimp only [release]
  with_reducible repeat' (first | assumption | (apply keeps_foldl; intro _ _ _) | apply keeps_modSheetOut | apply keeps_due4 | apply keeps_count | apply keeps_when_ | intro _ _ | split | (refine keeps_mk _ _ _ _ _ _ _ _ _ _ _ _ _ _ _ _ _ _ _ _ _ _ _ _ _ _ _ _ _ _ rfl rfl rfl ?_; first | assumption | (apply keeps_foldl; intro _ _ _) | apply keeps_modSheetOut | apply keeps_due4 | apply keeps_count | split))

theorem keeps_keepForRecorder {o₀ : State} (o : SheetOut) (s : State) (h₀ : Keeps o₀ s) : Keeps o₀ (keepForRecorder o s) := by
  dsimp only [keepForRecorder]
  with_reducible repeat' (first | assumption | (apply keeps_foldl; intro _ _ _) | apply keeps_modRec | apply keeps_when_ | intro _ _ | split | (refine keeps_mk _ _ _ _ _ _ _ _ _ _ _ _ _ _ _ _ _ _ _ _ _ _ _ _ _ _ _ _ _ _ rfl rfl rfl ?_; first | assumption | (apply keeps_foldl; intro _ _ _) | apply keeps_modRec | split))

theorem keeps_trail {o₀ : State} (o : SheetOut) (s : State) (h₀ : Keeps o₀ s) : Keeps o₀ (trail o s) := by
  dsimp only [trail]
  with_reducible repeat' (first | assumption | (apply keeps_foldl; intro _ _ _) | apply keeps_keepForRecorder | apply keeps_due4 | apply keeps_modSheetOut | apply keeps_modContour | apply keeps_when_ | intro _ _ | split | (refine keeps_mk _ _ _ _ _ _ _ _ _ _ _ _ _ _ _ _ _ _ _ _ _ _ _ _ _ _ _ _ _ _ rfl rfl rfl ?_; first | assumption | (apply keeps_foldl; intro _ _ _) | apply keeps_keepForRecorder | apply keeps_due4 | apply keeps_modSheetOut | apply keeps_modContour | split))

/-! ## Calib -/

theorem keeps_modCalib {o₀ : State} (f : Calib → Calib) (s : State) (h₀ : Keeps o₀ s) : Keeps o₀ (modCalib f s) := by
  dsimp only [modCalib]
  with_reducible repeat' (first | assumption | (apply keeps_foldl; intro _ _ _) | apply keeps_when_ | intro _ _ | split | (refine keeps_mk _ _ _ _ _ _ _ _ _ _ _ _ _ _ _ _ _ _ _ _ _ _ _ _ _ _ _ _ _ _ rfl rfl rfl ?_; first | assumption | (apply keeps_foldl; intro _ _ _) | split))

theorem keeps_setRun {o₀ : State} (r : Run) (s : State) (h₀ : Keeps o₀ s) : Keeps o₀ (setRun r s) := by
  dsimp only [setRun]
  with_reducible repeat' (first | assumption | (apply keeps_foldl; intro _ _ _) | apply keeps_modCalib | apply keeps_when_ | intro _ _ | split | (refine keeps_mk _ _ _ _ _ _ _ _ _ _ _ _ _ _ _ _ _ _ _ _ _ _ _ _ _ _ _ _ _ _ rfl rfl rfl ?_; first | assumption | (apply keeps_foldl; intro _ _ _) | apply keeps_modCalib | split))

theorem keeps_endRun {o₀ : State} (result : Nat) (s : State) (h₀ : Keeps o₀ s) : Keeps o₀ (endRun result s) := by
  dsimp only [endRun]
  with_reducible repeat' (first | assumption | (apply keeps_foldl; intro _ _ _) | apply keeps_modCalib | apply keeps_logEvent | apply keeps_when_ | intro _ _ | split | (refine keeps_mk _ _ _ _ _ _ _ _ _ _ _ _ _ _ _ _ _ _ _ _ _ _ _ _ _ _ _ _ _ _ rfl rfl rfl ?_; first | assumption | (apply keeps_foldl; intro _ _ _) | apply keeps_modCalib | apply keeps_logEvent | split))

theorem keeps_rejectRun {o₀ : State} (result : Nat) (s : State) (h₀ : Keeps o₀ s) : Keeps o₀ (rejectRun result s) := by
  dsimp only [rejectRun]
  with_reducible repeat' (first | assumption | (apply keeps_foldl; intro _ _ _) | apply keeps_count | apply keeps_endRun | apply keeps_modCalib | apply keeps_when_ | intro _ _ | split | (refine keeps_mk _ _ _ _ _ _ _ _ _ _ _ _ _ _ _ _ _ _ _ _ _ _ _ _ _ _ _ _ _ _ rfl rfl rfl ?_; first | assumption | (apply keeps_foldl; intro _ _ _) | apply keeps_count | apply keeps_endRun | apply keeps_modCalib | split))

theorem keeps_adoptRun {o₀ : State} (s : State) (h₀ : Keeps o₀ s) : Keeps o₀ (adoptRun s) := by
  dsimp only [adoptRun]
  with_reducible repeat' (first | assumption | (apply keeps_foldl; intro _ _ _) | apply keeps_count | apply keeps_endRun | apply keeps_modCalib | apply keeps_when_ | intro _ _ | split | (refine keeps_mk _ _ _ _ _ _ _ _ _ _ _ _ _ _ _ _ _ _ _ _ _ _ _ _ _ _ _ _ _ _ rfl rfl rfl ?_; first | assumption | (apply keeps_foldl; intro _ _ _) | apply keeps_count | apply keeps_endRun | apply keeps_modCalib | split))

theorem keeps_calWriteFailed {o₀ : State} (s : State) (h₀ : Keeps o₀ s) : Keeps o₀ (calWriteFailed s) := by
  dsimp only [calWriteFailed]
  with_reducible repeat' (first | assumption | (apply keeps_foldl; intro _ _ _) | apply keeps_endRun | apply keeps_norWriteFailed | apply keeps_when_ | intro _ _ | split | (refine keeps_mk _ _ _ _ _ _ _ _ _ _ _ _ _ _ _ _ _ _ _ _ _ _ _ _ _ _ _ _ _ _ rfl rfl rfl ?_; first | assumption | (apply keeps_foldl; intro _ _ _) | apply keeps_endRun | apply keeps_norWriteFailed | split))

theorem keeps_processRun {o₀ : State} (norOk : Bool) (r : Run) (s : State) (h₀ : Keeps o₀ s) : Keeps o₀ (processRun norOk r s) := by
  dsimp only [processRun]
  with_reducible repeat' (first | assumption | (apply keeps_foldl; intro _ _ _) | apply keeps_rejectRun | apply keeps_modCalib | apply keeps_calWriteFailed | apply keeps_calRecord | refine keeps_calRecord_eq ‹_› ?_ | apply keeps_norStart | apply keeps_when_ | intro _ _ | split | (refine keeps_mk _ _ _ _ _ _ _ _ _ _ _ _ _ _ _ _ _ _ _ _ _ _ _ _ _ _ _ _ _ _ rfl rfl rfl ?_; first | assumption | (apply keeps_foldl; intro _ _ _) | apply keeps_rejectRun | apply keeps_modCalib | apply keeps_calWriteFailed | apply keeps_calRecord | refine keeps_calRecord_eq ‹_› ?_ | apply keeps_norStart | split))

theorem keeps_coreSegment {o₀ : State} (length hitTaps : Nat) (hits : List (Nat × List Nat)) (firings : List (Nat × List (List (Nat × Nat)))) (r : Run) (s : State) (h₀ : Keeps o₀ s) : Keeps o₀ (coreSegment length hitTaps hits firings r s) := by
  dsimp only [coreSegment]
  with_reducible repeat' (first | assumption | (apply keeps_foldl; intro _ _ _) | apply keeps_setRun | apply keeps_when_ | intro _ _ | split | (refine keeps_mk _ _ _ _ _ _ _ _ _ _ _ _ _ _ _ _ _ _ _ _ _ _ _ _ _ _ _ _ _ _ rfl rfl rfl ?_; first | assumption | (apply keeps_foldl; intro _ _ _) | apply keeps_setRun | split))

theorem keeps_calChecked {o₀ : State} (x : Nat × Nat) (s : State) (h₀ : Keeps o₀ s) : Keeps o₀ (calChecked x s) := by
  dsimp only [calChecked]
  with_reducible repeat' (first | assumption | (apply keeps_foldl; intro _ _ _) | apply keeps_energyCheck | apply keeps_when_ | intro _ _ | split | (refine keeps_mk _ _ _ _ _ _ _ _ _ _ _ _ _ _ _ _ _ _ _ _ _ _ _ _ _ _ _ _ _ _ rfl rfl rfl ?_; first | assumption | (apply keeps_foldl; intro _ _ _) | apply keeps_energyCheck | split))

theorem keeps_calPads {o₀ : State} (x : Nat × Nat) (s : State) (h₀ : Keeps o₀ s) : Keeps o₀ (calPads x s) := by
  dsimp only [calPads]
  with_reducible repeat' (first | assumption | (apply keeps_foldl; intro _ _ _) | apply keeps_when_ | intro _ _ | split | (refine keeps_mk _ _ _ _ _ _ _ _ _ _ _ _ _ _ _ _ _ _ _ _ _ _ _ _ _ _ _ _ _ _ rfl rfl rfl ?_; first | assumption | (apply keeps_foldl; intro _ _ _) | split))

theorem keeps_calDrive {o₀ : State} (x : Nat × Nat) (s : State) (h₀ : Keeps o₀ s) : Keeps o₀ (calDrive x s) := by
  dsimp only [calDrive]
  with_reducible repeat' (first | assumption | (apply keeps_foldl; intro _ _ _) | apply keeps_modBank | apply keeps_modSide | apply keeps_calPads | apply keeps_calChecked | apply keeps_when_ | intro _ _ | split | (refine keeps_mk _ _ _ _ _ _ _ _ _ _ _ _ _ _ _ _ _ _ _ _ _ _ _ _ _ _ _ _ _ _ rfl rfl rfl ?_; first | assumption | (apply keeps_foldl; intro _ _ _) | apply keeps_modBank | apply keeps_modSide | apply keeps_calPads | apply keeps_calChecked | split))

theorem keeps_calPulses {o₀ : State} : ∀ (l b : List (Nat × Nat)) {s : State}, Keeps o₀ s →
    Keeps o₀ (l.foldl (fun a x => calPulse x a) (b, s)).2
  | [], _, _, h => h
  | x :: l, b, s, h => by
    rw [List.foldl_cons, calPulse]
    exact keeps_calPulses l _ (keeps_calDrive x s h)

theorem keeps_opticalSegment {o₀ : State} (events : List (Nat × List (Nat × Nat × Nat))) (light : List (Nat × Nat))
    (widths : List (Nat × Int)) (s : State) (h₀ : Keeps o₀ s) : Keeps o₀ (opticalSegment events light widths s) := by
  unfold opticalSegment
  have hs : Keeps o₀ { s with pulses := [] } := ⟨h₀.pending, h₀.now, h₀.localTime, h₀.subTap, h₀.nor⟩
  have k := keeps_calPulses (calShots s) [] (keeps_modChain (fun c => { c with opticalTaken := true }) _ hs)
  dsimp only
  revert k
  generalize (calShots s).foldl (fun a x => calPulse x a) _ = u
  intro k
  split
  · exact k
  · split
    · exact k
    · exact keeps_setRun _ _ k

theorem keeps_startRun {o₀ : State} (kind : Nat) (judged : Bool) (s : State) (h₀ : Keeps o₀ s) : Keeps o₀ (startRun kind judged s) := by
  dsimp only [startRun]
  with_reducible repeat' (first | assumption | (apply keeps_foldl; intro _ _ _) | apply keeps_modCalib | apply keeps_count | apply keeps_when_ | intro _ _ | split | (refine keeps_mk _ _ _ _ _ _ _ _ _ _ _ _ _ _ _ _ _ _ _ _ _ _ _ _ _ _ _ _ _ _ rfl rfl rfl ?_; first | assumption | (apply keeps_foldl; intro _ _ _) | apply keeps_modCalib | apply keeps_count | split))

theorem keeps_runBoundary {o₀ : State} (m : Nat) (r : Run) (s : State) (h₀ : Keeps o₀ s) : Keeps o₀ (runBoundary m r s) := by
  unfold runBoundary
  split
  · exact keeps_abandonRun _ _ (keeps_modCalib _ _ h₀)
  · split
    · exact keeps_abandonRun _ _ h₀
    · split
      · exact keeps_abandonRun _ _ h₀
      · split
        · exact keeps_abandonRun _ _ h₀
        · exact keeps_setRun _ _ (keeps_modCalib _ _ h₀)

theorem keeps_runStarts {o₀ : State} (m old : Nat) (s : State) (h₀ : Keeps o₀ s) : Keeps o₀ (runStarts m old s) := by
  dsimp only [runStarts]
  with_reducible repeat' (first | assumption | (apply keeps_foldl; intro _ _ _) | apply keeps_startRun | apply keeps_when_ | intro _ _ | split | (refine keeps_mk _ _ _ _ _ _ _ _ _ _ _ _ _ _ _ _ _ _ _ _ _ _ _ _ _ _ _ _ _ _ rfl rfl rfl ?_; first | assumption | (apply keeps_foldl; intro _ _ _) | apply keeps_startRun | split))

theorem keeps_noteYield {o₀ : State} (s : State) (h₀ : Keeps o₀ s) : Keeps o₀ (noteYield s) := by
  dsimp only [noteYield]
  with_reducible repeat' (first | assumption | (apply keeps_foldl; intro _ _ _) | apply keeps_count | apply keeps_when_ | intro _ _ | split | (refine keeps_mk _ _ _ _ _ _ _ _ _ _ _ _ _ _ _ _ _ _ _ _ _ _ _ _ _ _ _ _ _ _ rfl rfl rfl ?_; first | assumption | (apply keeps_foldl; intro _ _ _) | apply keeps_count | split))

theorem keeps_calibRuns {o₀ : State} (m old : Nat) (s : State) (h₀ : Keeps o₀ s) : Keeps o₀ (calibRuns m old s) := by
  dsimp only [calibRuns]
  with_reducible repeat' (first | assumption | (apply keeps_foldl; intro _ _ _) | apply keeps_noteYield | apply keeps_runStarts | apply keeps_runBoundary | apply keeps_when_ | intro _ _ | split | (refine keeps_mk _ _ _ _ _ _ _ _ _ _ _ _ _ _ _ _ _ _ _ _ _ _ _ _ _ _ _ _ _ _ rfl rfl rfl ?_; first | assumption | (apply keeps_foldl; intro _ _ _) | apply keeps_noteYield | apply keeps_runStarts | apply keeps_runBoundary | split))

theorem keeps_formDerived {o₀ : State} (m : Nat) (s : State) (h₀ : Keeps o₀ s) : Keeps o₀ (formDerived m s) := by
  dsimp only [formDerived]
  with_reducible repeat' (first | assumption | (apply keeps_foldl; intro _ _ _) | apply keeps_count | apply keeps_modCalib | apply keeps_when_ | intro _ _ | split | (refine keeps_mk _ _ _ _ _ _ _ _ _ _ _ _ _ _ _ _ _ _ _ _ _ _ _ _ _ _ _ _ _ _ rfl rfl rfl ?_; first | assumption | (apply keeps_foldl; intro _ _ _) | apply keeps_count | apply keeps_modCalib | split))

theorem keeps_applySet {o₀ : State} (parity : Bool) (s : State) (h₀ : Keeps o₀ s) : Keeps o₀ (applySet parity s) := by
  dsimp only [applySet]
  with_reducible repeat' (first | assumption | (apply keeps_foldl; intro _ _ _) | apply keeps_modCalib | apply keeps_when_ | intro _ _ | split | (refine keeps_mk _ _ _ _ _ _ _ _ _ _ _ _ _ _ _ _ _ _ _ _ _ _ _ _ _ _ _ _ _ _ rfl rfl rfl ?_; first | assumption | (apply keeps_foldl; intro _ _ _) | apply keeps_modCalib | split))

/-! ## AuxSense -/

theorem keeps_modAux {o₀ : State} (f : Aux → Aux) (s : State) (h₀ : Keeps o₀ s) : Keeps o₀ (modAux f s) := by
  dsimp only [modAux]
  with_reducible repeat' (first | assumption | (apply keeps_foldl; intro _ _ _) | apply keeps_when_ | intro _ _ | split | (refine keeps_mk _ _ _ _ _ _ _ _ _ _ _ _ _ _ _ _ _ _ _ _ _ _ _ _ _ _ _ _ _ _ rfl rfl rfl ?_; first | assumption | (apply keeps_foldl; intro _ _ _) | split))

theorem keeps_beginConv {o₀ : State} (at_ : Nat) (c : Conv) (s : State) (h₀ : Keeps o₀ s) : Keeps o₀ (beginConv at_ c s) := by
  dsimp only [beginConv]
  with_reducible repeat' (first | assumption | (apply keeps_foldl; intro _ _ _) | apply keeps_modBias | apply keeps_modAux | apply keeps_when_ | intro _ _ | split | (refine keeps_mk _ _ _ _ _ _ _ _ _ _ _ _ _ _ _ _ _ _ _ _ _ _ _ _ _ _ _ _ _ _ rfl rfl rfl ?_; first | assumption | (apply keeps_foldl; intro _ _ _) | apply keeps_modBias | apply keeps_modAux | split))

theorem keeps_startNext {o₀ : State} (at_ : Nat) (s : State) (h₀ : Keeps o₀ s) : Keeps o₀ (startNext at_ s) := by
  dsimp only [startNext]
  with_reducible repeat' (first | assumption | (apply keeps_foldl; intro _ _ _) | apply keeps_beginConv | apply keeps_modAux | apply keeps_when_ | intro _ _ | split | (refine keeps_mk _ _ _ _ _ _ _ _ _ _ _ _ _ _ _ _ _ _ _ _ _ _ _ _ _ _ _ _ _ _ rfl rfl rfl ?_; first | assumption | (apply keeps_foldl; intro _ _ _) | apply keeps_beginConv | apply keeps_modAux | split))

theorem keeps_pairOne {o₀ : State} (a : Nat) (s : State) (h₀ : Keeps o₀ s) : Keeps o₀ (pairOne a s) := by
  dsimp only [pairOne]
  with_reducible repeat' (first | assumption | (apply keeps_foldl; intro _ _ _) | apply keeps_setAux | apply keeps_count | apply keeps_logEvent | apply keeps_when_ | intro _ _ | split | (refine keeps_mk _ _ _ _ _ _ _ _ _ _ _ _ _ _ _ _ _ _ _ _ _ _ _ _ _ _ _ _ _ _ rfl rfl rfl ?_; first | assumption | (apply keeps_foldl; intro _ _ _) | apply keeps_setAux | apply keeps_count | apply keeps_logEvent | split))

theorem keeps_pairsAfter {o₀ : State} (n : Nat) (s : State) (h₀ : Keeps o₀ s) : Keeps o₀ (pairsAfter n s) := by
  dsimp only [pairsAfter]
  with_reducible repeat' (first | assumption | (apply keeps_foldl; intro _ _ _) | apply keeps_pairOne | apply keeps_when_ | intro _ _ | split | (refine keeps_mk _ _ _ _ _ _ _ _ _ _ _ _ _ _ _ _ _ _ _ _ _ _ _ _ _ _ _ _ _ _ rfl rfl rfl ?_; first | assumption | (apply keeps_foldl; intro _ _ _) | apply keeps_pairOne | split))

theorem keeps_judgeReadback {o₀ : State} (x : Int) (s : State) (h₀ : Keeps o₀ s) : Keeps o₀ (judgeReadback x s) := by
  dsimp only [judgeReadback]
  with_reducible repeat' (first | assumption | (apply keeps_foldl; intro _ _ _) | apply keeps_modBias | apply keeps_biasFault | apply keeps_when_ | intro _ _ | split | (refine keeps_mk _ _ _ _ _ _ _ _ _ _ _ _ _ _ _ _ _ _ _ _ _ _ _ _ _ _ _ _ _ _ rfl rfl rfl ?_; first | assumption | (apply keeps_foldl; intro _ _ _) | apply keeps_modBias | apply keeps_biasFault | split))

theorem keeps_judgePaths {o₀ : State} (first : Nat) (x : Int) (s : State) (h₀ : Keeps o₀ s) : Keeps o₀ (judgePaths first x s) := by
  dsimp only [judgePaths]
  with_reducible repeat' (first | assumption | (apply keeps_foldl; intro _ _ _) | apply keeps_modBias | apply keeps_biasFault | apply keeps_when_ | intro _ _ | split | (refine keeps_mk _ _ _ _ _ _ _ _ _ _ _ _ _ _ _ _ _ _ _ _ _ _ _ _ _ _ _ _ _ _ rfl rfl rfl ?_; first | assumption | (apply keeps_foldl; intro _ _ _) | apply keeps_modBias | apply keeps_biasFault | split))

theorem keeps_biasSample {o₀ : State} (c : Conv) (x : Int) (s : State) (h₀ : Keeps o₀ s) : Keeps o₀ (biasSample c x s) := by
  dsimp only [biasSample]
  with_reducible repeat' (first | assumption | (apply keeps_foldl; intro _ _ _) | apply keeps_modAux | apply keeps_count | apply keeps_judgeReadback | apply keeps_judgePaths | apply keeps_when_ | intro _ _ | split | (refine keeps_mk _ _ _ _ _ _ _ _ _ _ _ _ _ _ _ _ _ _ _ _ _ _ _ _ _ _ _ _ _ _ rfl rfl rfl ?_; first | assumption | (apply keeps_foldl; intro _ _ _) | apply keeps_modAux | apply keeps_count | apply keeps_judgeReadback | apply keeps_judgePaths | split))

theorem keeps_storeSample {o₀ : State} (c : Conv) (x0 : Int) (ov : Bool) (s : State) (h₀ : Keeps o₀ s) : Keeps o₀ (storeSample c x0 ov s) := by
  dsimp only [storeSample]
  with_reducible repeat' (first | assumption | (apply keeps_foldl; intro _ _ _) | apply keeps_setAux | apply keeps_count | apply keeps_modAux | apply keeps_when_ | intro _ _ | split | (refine keeps_mk _ _ _ _ _ _ _ _ _ _ _ _ _ _ _ _ _ _ _ _ _ _ _ _ _ _ _ _ _ _ rfl rfl rfl ?_; first | assumption | (apply keeps_foldl; intro _ _ _) | apply keeps_setAux | apply keeps_count | apply keeps_modAux | split))

theorem keeps_referenceCheck {o₀ : State} (x : Int) (s : State) (h₀ : Keeps o₀ s) : Keeps o₀ (referenceCheck x s) := by
  dsimp only [referenceCheck]
  with_reducible repeat' (first | assumption | (apply keeps_foldl; intro _ _ _) | apply keeps_modAux | apply keeps_count | apply keeps_logEvent | apply keeps_when_ | intro _ _ | split | (refine keeps_mk _ _ _ _ _ _ _ _ _ _ _ _ _ _ _ _ _ _ _ _ _ _ _ _ _ _ _ _ _ _ rfl rfl rfl ?_; first | assumption | (apply keeps_foldl; intro _ _ _) | apply keeps_modAux | apply keeps_count | apply keeps_logEvent | split))

theorem keeps_sampleDone {o₀ : State} (c : Conv) (x : Int) (ov : Bool) (s : State) (h₀ : Keeps o₀ s) : Keeps o₀ (sampleDone c x ov s) := by
  dsimp only [sampleDone]
  with_reducible repeat' (first | assumption | (apply keeps_foldl; intro _ _ _) | apply keeps_referenceCheck | apply keeps_pairsAfter | apply keeps_storeSample | apply keeps_biasSample | apply keeps_logEvent | apply keeps_when_ | intro _ _ | split | (refine keeps_mk _ _ _ _ _ _ _ _ _ _ _ _ _ _ _ _ _ _ _ _ _ _ _ _ _ _ _ _ _ _ rfl rfl rfl ?_; first | assumption | (apply keeps_foldl; intro _ _ _) | apply keeps_referenceCheck | apply keeps_pairsAfter | apply keeps_storeSample | apply keeps_biasSample | apply keeps_logEvent | split))

theorem keeps_convDone {o₀ : State} (c : Conv) (x : Int) (ov : Bool) (s : State) (h₀ : Keeps o₀ s) : Keeps o₀ (convDone c x ov s) := by
  dsimp only [convDone]
  with_reducible repeat' (first | assumption | (apply keeps_foldl; intro _ _ _) | apply keeps_count | apply keeps_modAux | apply keeps_sampleDone | apply keeps_when_ | intro _ _ | split | (refine keeps_mk _ _ _ _ _ _ _ _ _ _ _ _ _ _ _ _ _ _ _ _ _ _ _ _ _ _ _ _ _ _ rfl rfl rfl ?_; first | assumption | (apply keeps_foldl; intro _ _ _) | apply keeps_count | apply keeps_modAux | apply keeps_sampleDone | split))

theorem keeps_modNear {o₀ : State} (f : NearDist → NearDist) (s : State) (h₀ : Keeps o₀ s) : Keeps o₀ (modNear f s) := by
  dsimp only [modNear]
  with_reducible repeat' (first | assumption | (apply keeps_foldl; intro _ _ _) | apply keeps_when_ | intro _ _ | split | (refine keeps_mk _ _ _ _ _ _ _ _ _ _ _ _ _ _ _ _ _ _ _ _ _ _ _ _ _ _ _ _ _ _ rfl rfl rfl ?_; first | assumption | (apply keeps_foldl; intro _ _ _) | split))

theorem keeps_valueReady {o₀ : State} (o : SheetOut) (s : State) (h₀ : Keeps o₀ s) : Keeps o₀ (valueReady o s) := by
  dsimp only [valueReady]
  with_reducible repeat' (first | assumption | (apply keeps_foldl; intro _ _ _) | apply keeps_modSheetOut | apply keeps_modNear | apply keeps_count | apply keeps_when_ | intro _ _ | split | (refine keeps_mk _ _ _ _ _ _ _ _ _ _ _ _ _ _ _ _ _ _ _ _ _ _ _ _ _ _ _ _ _ _ rfl rfl rfl ?_; first | assumption | (apply keeps_foldl; intro _ _ _) | apply keeps_modSheetOut | apply keeps_modNear | apply keeps_count | split))

/-! ## Recorder -/

theorem keeps_mountTable {o₀ : State} (p : NandPart) (second : Option NandPart) (s : State) (h₀ : Keeps o₀ s) : Keeps o₀ (mountTable p second s) := by
  dsimp only [mountTable]
  with_reducible repeat' (first | assumption | (apply keeps_foldl; intro _ _ _) | apply keeps_modRec | apply keeps_tableWrite | apply keeps_when_ | intro _ _ | split | (refine keeps_mk _ _ _ _ _ _ _ _ _ _ _ _ _ _ _ _ _ _ _ _ _ _ _ _ _ _ _ _ _ _ rfl rfl rfl ?_; first | assumption | (apply keeps_foldl; intro _ _ _) | apply keeps_modRec | apply keeps_tableWrite | split))

theorem keeps_mountJournal {o₀ : State} (s : State) (h₀ : Keeps o₀ s) : Keeps o₀ (mountJournal s) := by
  dsimp only [mountJournal]
  with_reducible repeat' (first | assumption | (apply keeps_foldl; intro _ _ _) | apply keeps_modRec | apply keeps_when_ | intro _ _ | split | (refine keeps_mk _ _ _ _ _ _ _ _ _ _ _ _ _ _ _ _ _ _ _ _ _ _ _ _ _ _ _ _ _ _ rfl rfl rfl ?_; first | assumption | (apply keeps_foldl; intro _ _ _) | apply keeps_modRec | split))

theorem keeps_mountHours {o₀ : State} (s : State) (h₀ : Keeps o₀ s) : Keeps o₀ (mountHours s) := by
  dsimp only [mountHours]
  with_reducible repeat' (first | assumption | (apply keeps_foldl; intro _ _ _) | apply keeps_modRec | apply keeps_when_ | intro _ _ | split | (refine keeps_mk _ _ _ _ _ _ _ _ _ _ _ _ _ _ _ _ _ _ _ _ _ _ _ _ _ _ _ _ _ _ rfl rfl rfl ?_; first | assumption | (apply keeps_foldl; intro _ _ _) | apply keeps_modRec | split))

theorem keeps_mountBlock {o₀ : State} (m : MountInput) (highest b : Nat) (s : State) (h₀ : Keeps o₀ s) : Keeps o₀ (mountBlock m highest b s) := by
  dsimp only [mountBlock]
  with_reducible repeat' (first | assumption | (apply keeps_foldl; intro _ _ _) | apply keeps_setBlock | apply keeps_count | apply keeps_when_ | intro _ _ | split | (refine keeps_mk _ _ _ _ _ _ _ _ _ _ _ _ _ _ _ _ _ _ _ _ _ _ _ _ _ _ _ _ _ _ rfl rfl rfl ?_; first | assumption | (apply keeps_foldl; intro _ _ _) | apply keeps_setBlock | apply keeps_count | split))

theorem keeps_claim {o₀ : State} (s : State) (i : Incident) (h₀ : Keeps o₀ s) : Keeps o₀ (claim s i) := by
  dsimp only [claim]
  with_reducible repeat' (first | assumption | (apply keeps_foldl; intro _ _ _) | apply keeps_modBlock | apply keeps_when_ | intro _ _ | split | (refine keeps_mk _ _ _ _ _ _ _ _ _ _ _ _ _ _ _ _ _ _ _ _ _ _ _ _ _ _ _ _ _ _ rfl rfl rfl ?_; first | assumption | (apply keeps_foldl; intro _ _ _) | apply keeps_modBlock | split))

theorem keeps_mountRing {o₀ : State} (s : State) (h₀ : Keeps o₀ s) : Keeps o₀ (mountRing s) := by
  dsimp only [mountRing]
  with_reducible repeat' (first | assumption | (apply keeps_foldl; intro _ _ _) | apply keeps_modBlock | apply keeps_modRec | apply keeps_when_ | intro _ _ | split | (refine keeps_mk _ _ _ _ _ _ _ _ _ _ _ _ _ _ _ _ _ _ _ _ _ _ _ _ _ _ _ _ _ _ rfl rfl rfl ?_; first | assumption | (apply keeps_foldl; intro _ _ _) | apply keeps_modBlock | apply keeps_modRec | split))

theorem keeps_trySign {o₀ : State} (b seq : Nat) (sk : Option (List Byte)) (undo : Block → Block) :
    ∀ (k : Nat) (x : List PageResult × State), Keeps o₀ x.2 → Keeps o₀ (trySign b seq sk undo k x).2
  | 0, _, h => keeps_modBlock _ _ _ h
  | k + 1, (l, s), h => by
    rw [trySign]
    split
    · exact keeps_modBlock _ _ _ h
    · split
      · exact keeps_readBack _ _ _ (keeps_addSignPage _ _ _ _ h)
      · exact keeps_trySign b seq sk undo k _ (keeps_spoilPage _ _ (keeps_retireBlock _ _ (keeps_readBack _ _ _ h)))

theorem keeps_mountOpen {o₀ : State} :
    ∀ (k : Nat) (x : List PageResult × State), Keeps o₀ x.2 → Keeps o₀ (mountOpen k x).2
  | 0, _, h => h
  | k + 1, (l, s), h => by
    rw [mountOpen]
    split
    · exact h
    · dsimp only
      split
      · exact keeps_headerDone _ _ (keeps_openOn _ _ _ h)
      · exact keeps_mountOpen k _ (keeps_headerDone _ _ (keeps_openOn _ _ _ h))

theorem keeps_mountClosure {o₀ : State} (m : MountInput) (b : Nat) (x : List PageResult × State) (h : Keeps o₀ x.2) :
    Keeps o₀ (mountClosure m b x).2 := by
  unfold mountClosure
  extract_lets s v sk body i n t inc
  apply keeps_count
  apply keeps_logEvent
  apply keeps_trySign
  dsimp only
  apply keeps_modBlock
  apply keeps_signRecord
  apply keeps_modRec
  exact ⟨h.pending, h.now, h.localTime, h.subTap, h.nor⟩

theorem keeps_ownSegment {o₀ : State} (i : Incident) (seq : Nat) (x : List PageResult × State) (h : Keeps o₀ x.2) :
    Keeps o₀ (ownSegment i seq x).2 := by
  have hm := keeps_mountOpen (o₀ := o₀) 2 (x.1, modRec (fun r => { r with nextSeq := seq }) x.2)
    (by dsimp only; exact keeps_modRec _ _ h)
  unfold ownSegment
  dsimp only
  split
  · exact hm
  · apply keeps_count
    apply keeps_trySign
    dsimp only
    apply keeps_placeClosing
    apply keeps_modBlock
    apply keeps_modRec
    exact keeps_signRecord _ _ _ _ _ _ _ hm

theorem keeps_closeIncident {o₀ : State} (i : Incident) (last : Option (Nat × Nat)) (x : List PageResult × State)
    (h : Keeps o₀ x.2) : Keeps o₀ (closeIncident i last x).2 := by
  unfold closeIncident
  split
  · exact keeps_ownSegment _ _ _ h
  · dsimp only
    split
    · apply keeps_trySign
      dsimp only
      apply keeps_placeClosing
      exact ⟨h.pending, h.now, h.localTime, h.subTap, h.nor⟩
    · exact keeps_ownSegment _ _ _ h

theorem keeps_rollForward {o₀ : State} (x : List PageResult × State) (i : Incident) (h : Keeps o₀ x.2) :
    Keeps o₀ (rollForward x i).2 := by
  unfold rollForward
  split
  · exact h
  · extract_lets s bs last t
    have hc := keeps_closeIncident (o₀ := o₀) i last (x.1, t) (by dsimp only [t]; exact keeps_modRec _ _ h)
    have hi := keeps_modIncident (o₀ := o₀) i.number (fun i => { i with st := 3, segments := bs.length }) _ hc
    dsimp only
    split
    · exact hi
    · exact keeps_journalEntry _ _ _ (keeps_tableWrite _ hi)


theorem keeps_mountScan {o₀ : State} (m : MountInput) (s : State) (h₀ : Keeps o₀ s) : Keeps o₀ (mountScan m s) := by
  have hp : ∀ {α : Type} (f : List PageResult × State → α → List PageResult × State) (_ : ∀ x a, Keeps o₀ x.2 → Keeps o₀ (f x a).2)
      (l : List α) (x : List PageResult × State), Keeps o₀ x.2 → Keeps o₀ (l.foldl f x).2 := fun f hf l => by
    induction l with
    | nil => exact fun _ h => h
    | cons a l ih => exact fun x h => ih _ (hf x a h)
  unfold mountScan
  extract_lets highest t segs t₁ t₂ x t₃
  have h₁ : Keeps o₀ t := keeps_foldl _ (fun u b h => keeps_mountBlock m highest b u h) _ _ h₀
  have h₂ : Keeps o₀ t₁ := keeps_foldl _ (fun u b h => keeps_modBlock _ _ u h) _ _ h₁
  have h₃ : Keeps o₀ t₂ := keeps_foldl _ (fun u e h => keeps_noteRead _ _ u h) _ _ h₂
  have h₄ : Keeps o₀ x.2 := hp _ (fun x b h => keeps_mountClosure m b x h) _ _ h₃
  have h₅ : Keeps o₀ t₃ := keeps_foldl _ (fun u i h => keeps_claim u i h) _ _ h₄
  exact keeps_mountRing _ (hp _ (fun x i h => keeps_rollForward x i h) _ _ h₅)


theorem keeps_mountOn {o₀ : State} (m : MountInput) (p : NandPart) (second : Option NandPart) (s : State) (h₀ : Keeps o₀ s) : Keeps o₀ (mountOn m p second s) := by
  dsimp only [mountOn]
  with_reducible repeat' (first | assumption | (apply keeps_foldl; intro _ _ _) | apply keeps_modRec | apply keeps_nandStart | apply keeps_mountScan | apply keeps_mountJournal | apply keeps_mountTable | apply keeps_when_ | intro _ _ | split | (refine keeps_mk _ _ _ _ _ _ _ _ _ _ _ _ _ _ _ _ _ _ _ _ _ _ _ _ _ _ _ _ _ _ rfl rfl rfl ?_; first | assumption | (apply keeps_foldl; intro _ _ _) | apply keeps_modRec | apply keeps_nandStart | apply keeps_mountScan | apply keeps_mountJournal | apply keeps_mountTable | split))

theorem keeps_makeRoom {o₀ : State} : ∀ (k : Nat) (s : State), Keeps o₀ s → Keeps o₀ (makeRoom k s).2
  | 0, _, h => h
  | k + 1, s, h => by
    rw [makeRoom]
    split
    · exact h
    · split
      · exact h
      · exact keeps_makeRoom k _ (keeps_releaseIncident _ _ h)

theorem keeps_makeRoom_eq {o₀ t₀ : State} {a₀ : Bool} {k : Nat} {s : State} (e₀ : makeRoom k s = (a₀, t₀)) (h₀ : Keeps o₀ s) :
    Keeps o₀ t₀ := by
  have h₁ := keeps_makeRoom (o₀ := o₀) k s h₀
  rw [e₀] at h₁
  exact h₁

theorem keeps_refuseTrigger {o₀ : State} (cause : Nat) (s : State) (h₀ : Keeps o₀ s) : Keeps o₀ (refuseTrigger cause s) := by
  dsimp only [refuseTrigger]
  with_reducible repeat' (first | assumption | (apply keeps_foldl; intro _ _ _) | apply keeps_count | apply keeps_logEvent | apply keeps_modRec | apply keeps_when_ | intro _ _ | split | (refine keeps_mk _ _ _ _ _ _ _ _ _ _ _ _ _ _ _ _ _ _ _ _ _ _ _ _ _ _ _ _ _ _ rfl rfl rfl ?_; first | assumption | (apply keeps_foldl; intro _ _ _) | apply keeps_count | apply keeps_logEvent | apply keeps_modRec | split))

theorem keeps_openIncident {o₀ : State} (cause at_ local_ : Nat) (time : Int) (s : State) (h₀ : Keeps o₀ s) : Keeps o₀ (openIncident cause at_ local_ time s) := by
  dsimp only [openIncident]
  with_reducible repeat' (first | assumption | (apply keeps_foldl; intro _ _ _) | apply keeps_modBlock | apply keeps_modRec | apply keeps_logIncident | apply keeps_when_ | intro _ _ | split | (refine keeps_mk _ _ _ _ _ _ _ _ _ _ _ _ _ _ _ _ _ _ _ _ _ _ _ _ _ _ _ _ _ _ rfl rfl rfl ?_; first | assumption | (apply keeps_foldl; intro _ _ _) | apply keeps_modBlock | apply keeps_modRec | apply keeps_logIncident | split))

theorem keeps_joinIncident {o₀ : State} (n end_ at_ : Nat) (joined : Bool) (s : State) (h₀ : Keeps o₀ s) : Keeps o₀ (joinIncident n end_ at_ joined s) := by
  dsimp only [joinIncident]
  with_reducible repeat' (first | assumption | (apply keeps_foldl; intro _ _ _) | apply keeps_modIncident | apply keeps_modRec | apply keeps_count | apply keeps_logIncident | apply keeps_when_ | intro _ _ | split | (refine keeps_mk _ _ _ _ _ _ _ _ _ _ _ _ _ _ _ _ _ _ _ _ _ _ _ _ _ _ _ _ _ _ rfl rfl rfl ?_; first | assumption | (apply keeps_foldl; intro _ _ _) | apply keeps_modIncident | apply keeps_modRec | apply keeps_count | apply keeps_logIncident | split))

theorem keeps_actTrigger {o₀ : State} (cause at_ local_ : Nat) (time : Int) (s : State) (h₀ : Keeps o₀ s) : Keeps o₀ (actTrigger cause at_ local_ time s) := by
  dsimp only [actTrigger]
  with_reducible repeat' (first | assumption | (apply keeps_foldl; intro _ _ _) | apply keeps_count | apply keeps_refuseTrigger | apply keeps_joinIncident | apply keeps_makeRoom | refine keeps_makeRoom_eq ‹_› ?_ | apply keeps_openIncident | apply keeps_when_ | intro _ _ | split | (refine keeps_mk _ _ _ _ _ _ _ _ _ _ _ _ _ _ _ _ _ _ _ _ _ _ _ _ _ _ _ _ _ _ rfl rfl rfl ?_; first | assumption | (apply keeps_foldl; intro _ _ _) | apply keeps_count | apply keeps_refuseTrigger | apply keeps_joinIncident | apply keeps_makeRoom | refine keeps_makeRoom_eq ‹_› ?_ | apply keeps_openIncident | split))

theorem keeps_norApply {o₀ : State} (o : NorOp) (s : State) (h₀ : Keeps o₀ s) : Keeps o₀ (norApply o s) := by
  dsimp only [norApply]
  with_reducible repeat' (first | assumption | (apply keeps_foldl; intro _ _ _) | apply keeps_erase | (apply keeps_modNor _ _ rfl) | apply keeps_norWrite | apply keeps_when_ | intro _ _ | split | (refine keeps_mk _ _ _ _ _ _ _ _ _ _ _ _ _ _ _ _ _ _ _ _ _ _ _ _ _ _ _ _ _ _ rfl rfl rfl ?_; first | assumption | (apply keeps_foldl; intro _ _ _) | apply keeps_erase | (apply keeps_modNor _ _ rfl) | apply keeps_norWrite | split))

theorem keeps_indexDone {o₀ : State} (j : NorJob) (s : State) (h₀ : Keeps o₀ s) : Keeps o₀ (indexDone j s) := by
  dsimp only [indexDone]
  with_reducible repeat' (first | assumption | (apply keeps_foldl; intro _ _ _) | apply keeps_journalDone | apply keeps_when_ | intro _ _ | split | (refine keeps_mk _ _ _ _ _ _ _ _ _ _ _ _ _ _ _ _ _ _ _ _ _ _ _ _ _ _ _ _ _ _ rfl rfl rfl ?_; first | assumption | (apply keeps_foldl; intro _ _ _) | apply keeps_journalDone | split))

theorem keeps_finishIndex {o₀ : State} (s : State) (h₀ : Keeps o₀ s) : Keeps o₀ (finishIndex s) := by
  dsimp only [finishIndex]
  with_reducible repeat' (first | assumption | (apply keeps_foldl; intro _ _ _) | apply keeps_indexDone | apply keeps_norApply | apply keeps_erase | (apply keeps_modNor _ _ rfl) | apply keeps_when_ | intro _ _ | split | (refine keeps_mk _ _ _ _ _ _ _ _ _ _ _ _ _ _ _ _ _ _ _ _ _ _ _ _ _ _ _ _ _ _ rfl rfl rfl ?_; first | assumption | (apply keeps_foldl; intro _ _ _) | apply keeps_indexDone | apply keeps_norApply | apply keeps_erase | (apply keeps_modNor _ _ rfl) | split))

theorem keeps_dropSegJob {o₀ : State} (s : State) (h₀ : Keeps o₀ s) : Keeps o₀ (dropSegJob s) := by
  dsimp only [dropSegJob]
  with_reducible repeat' (first | assumption | (apply keeps_foldl; intro _ _ _) | apply keeps_modRec | apply keeps_when_ | intro _ _ | split | (refine keeps_mk _ _ _ _ _ _ _ _ _ _ _ _ _ _ _ _ _ _ _ _ _ _ _ _ _ _ _ _ _ _ rfl rfl rfl ?_; first | assumption | (apply keeps_foldl; intro _ _ _) | apply keeps_modRec | split))

theorem keeps_noteSampled {o₀ : State} (n β : Nat) (s : State) (h₀ : Keeps o₀ s) : Keeps o₀ (noteSampled n β s) := by
  dsimp only [noteSampled]
  with_reducible repeat' (first | assumption | (apply keeps_foldl; intro _ _ _) | apply keeps_modRec | apply keeps_when_ | intro _ _ | split | (refine keeps_mk _ _ _ _ _ _ _ _ _ _ _ _ _ _ _ _ _ _ _ _ _ _ _ _ _ _ _ _ _ _ rfl rfl rfl ?_; first | assumption | (apply keeps_foldl; intro _ _ _) | apply keeps_modRec | split))

theorem keeps_formSheet {o₀ : State} (o : SheetOut) (s : State) (h₀ : Keeps o₀ s) : Keeps o₀ (formSheet o s) := by
  dsimp only [formSheet]
  with_reducible repeat' (first | assumption | (apply keeps_foldl; intro _ _ _) | apply keeps_stage | apply keeps_modRec | apply keeps_when_ | intro _ _ | split | (refine keeps_mk _ _ _ _ _ _ _ _ _ _ _ _ _ _ _ _ _ _ _ _ _ _ _ _ _ _ _ _ _ _ rfl rfl rfl ?_; first | assumption | (apply keeps_foldl; intro _ _ _) | apply keeps_stage | apply keeps_modRec | split))

theorem keeps_formSheets {o₀ : State} : ∀ (l : List SheetOut) (s : State), Keeps o₀ s → Keeps o₀ (formSheets l s)
  | [], _, h => h
  | o :: r, s, h => by
    rw [formSheets]
    split
    · exact keeps_stage _ _ _ (keeps_noteSampled _ _ _ h)
    · split
      · exact keeps_formSheet _ _ h
      · exact keeps_formSheets r s h

theorem keeps_formBlock {o₀ : State} (s : State) (h₀ : Keeps o₀ s) : Keeps o₀ (formBlock s) := by
  dsimp only [formBlock]
  with_reducible repeat' (first | assumption | (apply keeps_foldl; intro _ _ _) | apply keeps_modRec | apply keeps_formEvents | apply keeps_formSheets | apply keeps_when_ | intro _ _ | split | (refine keeps_mk _ _ _ _ _ _ _ _ _ _ _ _ _ _ _ _ _ _ _ _ _ _ _ _ _ _ _ _ _ _ rfl rfl rfl ?_; first | assumption | (apply keeps_foldl; intro _ _ _) | apply keeps_modRec | apply keeps_formEvents | apply keeps_formSheets | split))

theorem keeps_copyProgrammed {o₀ : State} (x : Scrub) (p : PageResult) (s : State) (h₀ : Keeps o₀ s) : Keeps o₀ (copyProgrammed x p s) := by
  dsimp only [copyProgrammed]
  with_reducible repeat' (first | assumption | (apply keeps_foldl; intro _ _ _) | apply keeps_readBack | apply keeps_modRec | apply keeps_dropCopy | apply keeps_retireBlock | apply keeps_modBlock | apply keeps_when_ | intro _ _ | split | (refine keeps_mk _ _ _ _ _ _ _ _ _ _ _ _ _ _ _ _ _ _ _ _ _ _ _ _ _ _ _ _ _ _ rfl rfl rfl ?_; first | assumption | (apply keeps_foldl; intro _ _ _) | apply keeps_readBack | apply keeps_modRec | apply keeps_dropCopy | apply keeps_retireBlock | apply keeps_modBlock | split))

theorem keeps_blockErased {o₀ : State} (b : Nat) (ended : EraseResult) (s : State) (h₀ : Keeps o₀ s) : Keeps o₀ (blockErased b ended s) := by
  dsimp only [blockErased]
  with_reducible repeat' (first | assumption | (apply keeps_foldl; intro _ _ _) | apply keeps_modRec | apply keeps_retireBlock | apply keeps_modBlock | apply keeps_readBack | apply keeps_setBlock | apply keeps_when_ | intro _ _ | split | (refine keeps_mk _ _ _ _ _ _ _ _ _ _ _ _ _ _ _ _ _ _ _ _ _ _ _ _ _ _ _ _ _ _ rfl rfl rfl ?_; first | assumption | (apply keeps_foldl; intro _ _ _) | apply keeps_modRec | apply keeps_retireBlock | apply keeps_modBlock | apply keeps_readBack | apply keeps_setBlock | split))

theorem keeps_stopReadout {o₀ : State} (s : State) (h₀ : Keeps o₀ s) : Keeps o₀ (stopReadout s) := by
  dsimp only [stopReadout]
  with_reducible repeat' (first | assumption | (apply keeps_foldl; intro _ _ _) | apply keeps_modLink | apply keeps_modRec | apply keeps_when_ | intro _ _ | split | (refine keeps_mk _ _ _ _ _ _ _ _ _ _ _ _ _ _ _ _ _ _ _ _ _ _ _ _ _ _ _ _ _ _ rfl rfl rfl ?_; first | assumption | (apply keeps_foldl; intro _ _ _) | apply keeps_modLink | apply keeps_modRec | split))

theorem keeps_readoutGo {o₀ : State} (s : State) (h₀ : Keeps o₀ s) : Keeps o₀ (readoutGo s) := by
  dsimp only [readoutGo]
  with_reducible repeat' (first | assumption | (apply keeps_foldl; intro _ _ _) | apply keeps_due3 | apply keeps_modRec | apply keeps_nandStart | apply keeps_when_ | intro _ _ | split | (refine keeps_mk _ _ _ _ _ _ _ _ _ _ _ _ _ _ _ _ _ _ _ _ _ _ _ _ _ _ _ _ _ _ rfl rfl rfl ?_; first | assumption | (apply keeps_foldl; intro _ _ _) | apply keeps_due3 | apply keeps_modRec | apply keeps_nandStart | split))

theorem keeps_readoutPage {o₀ : State} (b : Nat) (bad : Bool) (s : State) (h₀ : Keeps o₀ s) : Keeps o₀ (readoutPage b bad s) := by
  dsimp only [readoutPage]
  with_reducible repeat' (first | assumption | (apply keeps_foldl; intro _ _ _) | apply keeps_due3 | apply keeps_modRec | apply keeps_readoutGo | apply keeps_when_ | intro _ _ | split | (refine keeps_mk _ _ _ _ _ _ _ _ _ _ _ _ _ _ _ _ _ _ _ _ _ _ _ _ _ _ _ _ _ _ rfl rfl rfl ?_; first | assumption | (apply keeps_foldl; intro _ _ _) | apply keeps_due3 | apply keeps_modRec | apply keeps_readoutGo | split))

theorem keeps_copyRead {o₀ : State} (x : Scrub) (l : List Nat) (s : State) (h₀ : Keeps o₀ s) : Keeps o₀ (copyRead x l s) := by
  dsimp only [copyRead]
  with_reducible repeat' (first | assumption | (apply keeps_foldl; intro _ _ _) | apply keeps_noteRead | apply keeps_modRec | apply keeps_dropCopy | apply keeps_when_ | intro _ _ | split | (refine keeps_mk _ _ _ _ _ _ _ _ _ _ _ _ _ _ _ _ _ _ _ _ _ _ _ _ _ _ _ _ _ _ rfl rfl rfl ?_; first | assumption | (apply keeps_foldl; intro _ _ _) | apply keeps_noteRead | apply keeps_modRec | apply keeps_dropCopy | split))

theorem keeps_pageRead {o₀ : State} (b page : Nat) (l : List Nat) (s : State) (h₀ : Keeps o₀ s) : Keeps o₀ (pageRead b page l s) := by
  dsimp only [pageRead]
  with_reducible repeat' (first | assumption | (apply keeps_foldl; intro _ _ _) | apply keeps_noteRead | apply keeps_modRec | apply keeps_stopReadout | apply keeps_readoutPage | apply keeps_when_ | intro _ _ | split | (refine keeps_mk _ _ _ _ _ _ _ _ _ _ _ _ _ _ _ _ _ _ _ _ _ _ _ _ _ _ _ _ _ _ rfl rfl rfl ?_; first | assumption | (apply keeps_foldl; intro _ _ _) | apply keeps_noteRead | apply keeps_modRec | apply keeps_stopReadout | apply keeps_readoutPage | split))

theorem keeps_scrubbed {o₀ : State} (b c : Nat) (s : State) (h₀ : Keeps o₀ s) : Keeps o₀ (scrubbed b c s) := by
  dsimp only [scrubbed]
  with_reducible repeat' (first | assumption | (apply keeps_foldl; intro _ _ _) | apply keeps_modBlock | apply keeps_letGo | apply keeps_count | apply keeps_modRec | apply keeps_when_ | intro _ _ | split | (refine keeps_mk _ _ _ _ _ _ _ _ _ _ _ _ _ _ _ _ _ _ _ _ _ _ _ _ _ _ _ _ _ _ rfl rfl rfl ?_; first | assumption | (apply keeps_foldl; intro _ _ _) | apply keeps_modBlock | apply keeps_letGo | apply keeps_count | apply keeps_modRec | split))

theorem keeps_copyChecked {o₀ : State} (x : Scrub) (l : List Nat) (s : State) (h₀ : Keeps o₀ s) : Keeps o₀ (copyChecked x l s) := by
  dsimp only [copyChecked]
  with_reducible repeat' (first | assumption | (apply keeps_foldl; intro _ _ _) | apply keeps_noteRead | apply keeps_modRec | apply keeps_dropCopy | apply keeps_retireBlock | apply keeps_scrubbed | apply keeps_when_ | intro _ _ | split | (refine keeps_mk _ _ _ _ _ _ _ _ _ _ _ _ _ _ _ _ _ _ _ _ _ _ _ _ _ _ _ _ _ _ rfl rfl rfl ?_; first | assumption | (apply keeps_foldl; intro _ _ _) | apply keeps_noteRead | apply keeps_modRec | apply keeps_dropCopy | apply keeps_retireBlock | apply keeps_scrubbed | split))

theorem keeps_hoursWrite {o₀ : State} (s : State) (h₀ : Keeps o₀ s) : Keeps o₀ (hoursWrite s) := by
  dsimp only [hoursWrite]
  with_reducible repeat' (first | assumption | (apply keeps_foldl; intro _ _ _) | apply keeps_sealPage | refine keeps_sealPage_eq ‹_› ?_ | apply keeps_norStart | apply keeps_when_ | intro _ _ | split | (refine keeps_mk _ _ _ _ _ _ _ _ _ _ _ _ _ _ _ _ _ _ _ _ _ _ _ _ _ _ _ _ _ _ rfl rfl rfl ?_; first | assumption | (apply keeps_foldl; intro _ _ _) | apply keeps_sealPage | refine keeps_sealPage_eq ‹_› ?_ | apply keeps_norStart | split))

theorem keeps_lifeFigures {o₀ : State} (s : State) (h₀ : Keeps o₀ s) : Keeps o₀ (lifeFigures s) := by
  dsimp only [lifeFigures]
  with_reducible repeat' (first | assumption | (apply keeps_foldl; intro _ _ _) | apply keeps_modRec | apply keeps_when_ | intro _ _ | split | (refine keeps_mk _ _ _ _ _ _ _ _ _ _ _ _ _ _ _ _ _ _ _ _ _ _ _ _ _ _ _ _ _ _ rfl rfl rfl ?_; first | assumption | (apply keeps_foldl; intro _ _ _) | apply keeps_modRec | split))

theorem keeps_ageScrubs {o₀ : State} (s : State) (h₀ : Keeps o₀ s) : Keeps o₀ (ageScrubs s) := by
  dsimp only [ageScrubs]
  with_reducible repeat' (first | assumption | (apply keeps_foldl; intro _ _ _) | apply keeps_wantScrub | apply keeps_when_ | intro _ _ | split | (refine keeps_mk _ _ _ _ _ _ _ _ _ _ _ _ _ _ _ _ _ _ _ _ _ _ _ _ _ _ _ _ _ _ rfl rfl rfl ?_; first | assumption | (apply keeps_foldl; intro _ _ _) | apply keeps_wantScrub | split))

/-! ## Readout -/

theorem keeps_onReadout {o₀ : State} (op : Nat) (codes : List Nat) (rd : Bool) (f : Nat → Nat → Nat → State → State)
    (s : State) (hf : ∀ a b c u, Keeps o₀ u → Keeps o₀ (f a b c u)) (h₀ : Keeps o₀ s) :
    Keeps o₀ (onReadout op codes rd f s) := by
  unfold onReadout
  split
  · exact h₀
  · exact keeps_onPacket _ _ _ _ _ (fun b u hu => hf _ _ _ u hu) h₀

theorem keeps_readoutAnswer {o₀ : State} (echo result arg offset : Nat) (s : State) (h₀ : Keeps o₀ s) : Keeps o₀ (readoutAnswer echo result arg offset s) := by
  dsimp only [readoutAnswer]
  with_reducible repeat' (first | assumption | (apply keeps_foldl; intro _ _ _) | apply keeps_due3 | apply keeps_when_ | intro _ _ | split | (refine keeps_mk _ _ _ _ _ _ _ _ _ _ _ _ _ _ _ _ _ _ _ _ _ _ _ _ _ _ _ _ _ _ rfl rfl rfl ?_; first | assumption | (apply keeps_foldl; intro _ _ _) | apply keeps_due3 | split))

theorem keeps_readoutGate {o₀ : State} (echo arg offset : Nat) (f : State → State) (s : State)
    (hf : ∀ u, Keeps o₀ u → Keeps o₀ (f u)) (h₀ : Keeps o₀ s) : Keeps o₀ (readoutGate echo arg offset f s) := by
  unfold readoutGate
  split
  · exact keeps_readoutAnswer _ _ _ _ _ h₀
  · split
    · exact keeps_readoutAnswer _ _ _ _ _ h₀
    · exact hf s h₀

theorem keeps_snapshotOut {o₀ : State} (whole : Bool) (s : State) (h₀ : Keeps o₀ s) : Keeps o₀ (snapshotOut whole s) := by
  dsimp only [snapshotOut]
  with_reducible repeat' (first | assumption | (apply keeps_foldl; intro _ _ _) | apply keeps_due3 | apply keeps_moveStart | apply keeps_when_ | intro _ _ | split | (refine keeps_mk _ _ _ _ _ _ _ _ _ _ _ _ _ _ _ _ _ _ _ _ _ _ _ _ _ _ _ _ _ _ rfl rfl rfl ?_; first | assumption | (apply keeps_foldl; intro _ _ _) | apply keeps_due3 | apply keeps_moveStart | split))

theorem keeps_skipDump {o₀ : State} (channel : Nat) (s : State) (h₀ : Keeps o₀ s) : Keeps o₀ (skipDump channel s) := by
  dsimp only [skipDump]
  with_reducible repeat' (first | assumption | (apply keeps_foldl; intro _ _ _) | apply keeps_dumpMove | apply keeps_count | apply keeps_copyDone | apply keeps_freePool | apply keeps_modSurvey | apply keeps_when_ | intro _ _ | split | (refine keeps_mk _ _ _ _ _ _ _ _ _ _ _ _ _ _ _ _ _ _ _ _ _ _ _ _ _ _ _ _ _ _ rfl rfl rfl ?_; first | assumption | (apply keeps_foldl; intro _ _ _) | apply keeps_dumpMove | apply keeps_count | apply keeps_copyDone | apply keeps_freePool | apply keeps_modSurvey | split))

theorem keeps_skipPacket {o₀ : State} (channel : Nat) (s : State) (h₀ : Keeps o₀ s) : Keeps o₀ (skipPacket channel s) := by
  dsimp only [skipPacket]
  with_reducible repeat' (first | assumption | (apply keeps_foldl; intro _ _ _) | apply keeps_count | apply keeps_modLink | apply keeps_erase | apply keeps_freePool | apply keeps_when_ | intro _ _ | split | (refine keeps_mk _ _ _ _ _ _ _ _ _ _ _ _ _ _ _ _ _ _ _ _ _ _ _ _ _ _ _ _ _ _ rfl rfl rfl ?_; first | assumption | (apply keeps_foldl; intro _ _ _) | apply keeps_count | apply keeps_modLink | apply keeps_erase | apply keeps_freePool | split))

theorem keeps_abandonUse {o₀ : State} (channel : Nat) (nandFailed : Bool) (s : State) (h₀ : Keeps o₀ s) : Keeps o₀ (abandonUse channel nandFailed s) := by
  dsimp only [abandonUse]
  with_reducible repeat' (first | assumption | (apply keeps_foldl; intro _ _ _) | apply keeps_skipDump | apply keeps_skipPacket | apply keeps_modRec | apply keeps_nandStart | apply keeps_programFailed | apply keeps_retireBlock | apply keeps_headerFailed | apply keeps_dropCopy | apply keeps_readoutAnswer | apply keeps_snapshotOut | apply keeps_when_ | intro _ _ | split | (refine keeps_mk _ _ _ _ _ _ _ _ _ _ _ _ _ _ _ _ _ _ _ _ _ _ _ _ _ _ _ _ _ _ rfl rfl rfl ?_; first | assumption | (apply keeps_foldl; intro _ _ _) | apply keeps_skipDump | apply keeps_skipPacket | apply keeps_modRec | apply keeps_nandStart | apply keeps_programFailed | apply keeps_retireBlock | apply keeps_headerFailed | apply keeps_dropCopy | apply keeps_readoutAnswer | apply keeps_snapshotOut | split))

theorem keeps_norDone {o₀ : State} (j : NorJob) (s : State) (h₀ : Keeps o₀ s) : Keeps o₀ (norDone j s) := by
  dsimp only [norDone]
  with_reducible repeat' (first | assumption | (apply keeps_foldl; intro _ _ _) | apply keeps_adoptRun | apply keeps_nandStart | apply keeps_indexDone | apply keeps_when_ | intro _ _ | split | (refine keeps_mk _ _ _ _ _ _ _ _ _ _ _ _ _ _ _ _ _ _ _ _ _ _ _ _ _ _ _ _ _ _ rfl rfl rfl ?_; first | assumption | (apply keeps_foldl; intro _ _ _) | apply keeps_adoptRun | apply keeps_nandStart | apply keeps_indexDone | split))

theorem keeps_norFailed {o₀ : State} (o : NorOp) (s : State) (h₀ : Keeps o₀ s) : Keeps o₀ (norFailed o s) := by
  dsimp only [norFailed]
  with_reducible repeat' (first | assumption | (apply keeps_foldl; intro _ _ _) | apply keeps_calWriteFailed | apply keeps_modRec | apply keeps_erase | (apply keeps_modNor _ _ rfl) | apply keeps_nandStart | apply keeps_when_ | intro _ _ | split | (refine keeps_mk _ _ _ _ _ _ _ _ _ _ _ _ _ _ _ _ _ _ _ _ _ _ _ _ _ _ _ _ _ _ rfl rfl rfl ?_; first | assumption | (apply keeps_foldl; intro _ _ _) | apply keeps_calWriteFailed | apply keeps_modRec | apply keeps_erase | (apply keeps_modNor _ _ rfl) | apply keeps_nandStart | split))

theorem keeps_afterSend {o₀ : State} (p : Pkt) (s : State) (h₀ : Keeps o₀ s) : Keeps o₀ (afterSend p s) := by
  dsimp only [afterSend]
  with_reducible repeat' (first | assumption | (apply keeps_foldl; intro _ _ _) | apply keeps_moveDone | apply keeps_readoutGo | apply keeps_when_ | intro _ _ | split | (refine keeps_mk _ _ _ _ _ _ _ _ _ _ _ _ _ _ _ _ _ _ _ _ _ _ _ _ _ _ _ _ _ _ rfl rfl rfl ?_; first | assumption | (apply keeps_foldl; intro _ _ _) | apply keeps_moveDone | apply keeps_readoutGo | split))

/-! ## Image -/

theorem keeps_burnFuses {o₀ : State} (h : List Byte) (s : State) (h₀ : Keeps o₀ s) : Keeps o₀ (burnFuses h s) := by
  dsimp only [burnFuses]
  with_reducible repeat' (first | assumption | (apply keeps_foldl; intro _ _ _) | apply keeps_when_ | intro _ _ | split | (refine keeps_mk _ _ _ _ _ _ _ _ _ _ _ _ _ _ _ _ _ _ _ _ _ _ _ _ _ _ _ _ _ _ rfl rfl rfl ?_; first | assumption | (apply keeps_foldl; intro _ _ _) | split))

theorem keeps_loadSeeds {o₀ : State} (n : Nat) (s : State) (h₀ : Keeps o₀ s) : Keeps o₀ (loadSeeds n s) := by
  dsimp only [loadSeeds]
  with_reducible repeat' (first | assumption | (apply keeps_foldl; intro _ _ _) | apply keeps_modBank | apply keeps_startCounter | apply keeps_when_ | intro _ _ | split | (refine keeps_mk _ _ _ _ _ _ _ _ _ _ _ _ _ _ _ _ _ _ _ _ _ _ _ _ _ _ _ _ _ _ rfl rfl rfl ?_; first | assumption | (apply keeps_foldl; intro _ _ _) | apply keeps_modBank | apply keeps_startCounter | split))

theorem keeps_startCounter {o₀ : State} (suits written : Bool) (s : State) (h₀ : Keeps o₀ s) : Keeps o₀ (startCounter suits written s) := by
  dsimp only [startCounter]
  with_reducible repeat' (first | assumption | (apply keeps_foldl; intro _ _ _) | apply keeps_draw | refine keeps_draw_eq ‹_› ?_ | apply keeps_loadSeeds | apply keeps_norWriteFailed | apply keeps_erase | (apply keeps_modNor _ _ rfl) | apply keeps_sealPage | refine keeps_sealPage_eq ‹_› ?_ | apply keeps_norWrite | apply keeps_when_ | intro _ _ | split | (refine keeps_mk _ _ _ _ _ _ _ _ _ _ _ _ _ _ _ _ _ _ _ _ _ _ _ _ _ _ _ _ _ _ rfl rfl rfl ?_; first | assumption | (apply keeps_foldl; intro _ _ _) | apply keeps_draw | refine keeps_draw_eq ‹_› ?_ | apply keeps_loadSeeds | apply keeps_norWriteFailed | apply keeps_erase | (apply keeps_modNor _ _ rfl) | apply keeps_sealPage | refine keeps_sealPage_eq ‹_› ?_ | apply keeps_norWrite | split))

theorem keeps_calForce {o₀ : State} (slot : Nat) (k : CalSet) (s : State) (h₀ : Keeps o₀ s) : Keeps o₀ (calForce slot k s) := by
  dsimp only [calForce]
  with_reducible repeat' (first | assumption | (apply keeps_foldl; intro _ _ _) | apply keeps_when_ | intro _ _ | split | (refine keeps_mk _ _ _ _ _ _ _ _ _ _ _ _ _ _ _ _ _ _ _ _ _ _ _ _ _ _ _ _ _ _ rfl rfl rfl ?_; first | assumption | (apply keeps_foldl; intro _ _ _) | split))

theorem keeps_calRead {o₀ : State} (s : State) (h₀ : Keeps o₀ s) : Keeps o₀ (calRead s) := by
  dsimp only [calRead]
  with_reducible repeat' (first | assumption | (apply keeps_foldl; intro _ _ _) | apply keeps_calForce | apply keeps_when_ | intro _ _ | split | (refine keeps_mk _ _ _ _ _ _ _ _ _ _ _ _ _ _ _ _ _ _ _ _ _ _ _ _ _ _ _ _ _ _ rfl rfl rfl ?_; first | assumption | (apply keeps_foldl; intro _ _ _) | apply keeps_calForce | split))

theorem keeps_loadFailed {o₀ : State} (f : LoadFail) (s : State) (h₀ : Keeps o₀ s) : Keeps o₀ (loadFailed f s) := by
  dsimp only [loadFailed]
  with_reducible repeat' (first | assumption | (apply keeps_foldl; intro _ _ _) | apply keeps_when_ | intro _ _ | split | (refine keeps_mk _ _ _ _ _ _ _ _ _ _ _ _ _ _ _ _ _ _ _ _ _ _ _ _ _ _ _ _ _ _ rfl rfl rfl ?_; first | assumption | (apply keeps_foldl; intro _ _ _) | split))

theorem keeps_escrowPair {o₀ : State} (s : State) (h₀ : Keeps o₀ s) : Keeps o₀ (escrowPair s) := by
  dsimp only [escrowPair]
  with_reducible repeat' (first | assumption | (apply keeps_foldl; intro _ _ _) | apply keeps_drawScalar | refine keeps_drawScalar_eq ‹_› ?_ | apply keeps_when_ | intro _ _ | split | (refine keeps_mk _ _ _ _ _ _ _ _ _ _ _ _ _ _ _ _ _ _ _ _ _ _ _ _ _ _ _ _ _ _ rfl rfl rfl ?_; first | assumption | (apply keeps_foldl; intro _ _ _) | apply keeps_drawScalar | refine keeps_drawScalar_eq ‹_› ?_ | split))

theorem keeps_loadUnits {o₀ : State} (l : Legend) (s : State) (h₀ : Keeps o₀ s) : Keeps o₀ (loadUnits l s) := by
  dsimp only [loadUnits]
  with_reducible repeat' (first | assumption | (apply keeps_foldl; intro _ _ _) | apply keeps_modBank | apply keeps_escrowPair | apply keeps_when_ | intro _ _ | split | (refine keeps_mk _ _ _ _ _ _ _ _ _ _ _ _ _ _ _ _ _ _ _ _ _ _ _ _ _ _ _ _ _ _ rfl rfl rfl ?_; first | assumption | (apply keeps_foldl; intro _ _ _) | apply keeps_modBank | apply keeps_escrowPair | split))

theorem keeps_recordWalk {o₀ : State} (img : List Byte) (s : State) (h₀ : Keeps o₀ s) : Keeps o₀ (recordWalk img s) := by
  unfold recordWalk
  extract_lets h len
  split
  · exact keeps_loadFailed _ _ h₀
  · split
    · exact keeps_loadFailed _ _ h₀
    · extract_lets _ t sb _ u
      have ht : Keeps o₀ t := ⟨h₀.pending, h₀.now, h₀.localTime, h₀.subTap, h₀.nor⟩
      have hu : Keeps o₀ u :=
        keeps_startInputs _ _ (keeps_startInputs _ _ ⟨h₀.pending, h₀.now, h₀.localTime, h₀.subTap, h₀.nor⟩)
      split
      · exact keeps_loadFailed _ _ ht
      · split
        · exact keeps_loadFailed _ _ ht
        · split
          · exact keeps_loadFailed _ _ hu
          · exact keeps_loadUnits _ _ hu

theorem keeps_verifyImage {o₀ : State} (written : Bool) (s : State) (h₀ : Keeps o₀ s) : Keeps o₀ (verifyImage written s) := by
  dsimp only [verifyImage]
  with_reducible repeat' (first | assumption | (apply keeps_foldl; intro _ _ _) | apply keeps_burnFuses | apply keeps_calRead | apply keeps_startCounter | apply keeps_recordWalk | apply keeps_claim | apply keeps_when_ | intro _ _ | split | (refine keeps_mk _ _ _ _ _ _ _ _ _ _ _ _ _ _ _ _ _ _ _ _ _ _ _ _ _ _ _ _ _ _ rfl rfl rfl ?_; first | assumption | (apply keeps_foldl; intro _ _ _) | apply keeps_burnFuses | apply keeps_calRead | apply keeps_startCounter | apply keeps_recordWalk | apply keeps_claim | split))

theorem keeps_spinUp {o₀ : State} (s : State) (h₀ : Keeps o₀ s) : Keeps o₀ (spinUp s) := by
  dsimp only [spinUp]
  with_reducible repeat' (first | assumption | (apply keeps_foldl; intro _ _ _) | apply keeps_motorFault | apply keeps_modSide | apply keeps_biasEnable | apply keeps_when_ | intro _ _ | split | (refine keeps_mk _ _ _ _ _ _ _ _ _ _ _ _ _ _ _ _ _ _ _ _ _ _ _ _ _ _ _ _ _ _ rfl rfl rfl ?_; first | assumption | (apply keeps_foldl; intro _ _ _) | apply keeps_motorFault | apply keeps_modSide | apply keeps_biasEnable | split))

theorem keeps_acceptImage {o₀ : State} (s : State) (h₀ : Keeps o₀ s) : Keeps o₀ (acceptImage s) := by
  dsimp only [acceptImage]
  with_reducible repeat' (first | assumption | (apply keeps_foldl; intro _ _ _) | apply keeps_startNext | apply keeps_spinUp | apply keeps_when_ | intro _ _ | split | (refine keeps_mk _ _ _ _ _ _ _ _ _ _ _ _ _ _ _ _ _ _ _ _ _ _ _ _ _ _ _ _ _ _ rfl rfl rfl ?_; first | assumption | (apply keeps_foldl; intro _ _ _) | apply keeps_startNext | apply keeps_spinUp | split))

/-! ## Modes -/

theorem keeps_latchRequest {o₀ : State} (r : Request) (s : State) (h₀ : Keeps o₀ s) : Keeps o₀ (latchRequest r s) := by
  dsimp only [latchRequest]
  with_reducible repeat' (first | assumption | (apply keeps_foldl; intro _ _ _) | apply keeps_ackMode | apply keeps_modSeq | apply keeps_when_ | intro _ _ | split | (refine keeps_mk _ _ _ _ _ _ _ _ _ _ _ _ _ _ _ _ _ _ _ _ _ _ _ _ _ _ _ _ _ _ rfl rfl rfl ?_; first | assumption | (apply keeps_foldl; intro _ _ _) | apply keeps_ackMode | apply keeps_modSeq | split))

theorem keeps_safeStopExit {o₀ : State} (r : Request) (s : State) (h₀ : Keeps o₀ s) : Keeps o₀ (safeStopExit r s) := by
  dsimp only [safeStopExit]
  with_reducible repeat' (first | assumption | (apply keeps_foldl; intro _ _ _) | apply keeps_ackMode | apply keeps_modSide | apply keeps_spinUp | apply keeps_modSeq | apply keeps_logEvent | apply keeps_when_ | intro _ _ | split | (refine keeps_mk _ _ _ _ _ _ _ _ _ _ _ _ _ _ _ _ _ _ _ _ _ _ _ _ _ _ _ _ _ _ rfl rfl rfl ?_; first | assumption | (apply keeps_foldl; intro _ _ _) | apply keeps_ackMode | apply keeps_modSide | apply keeps_spinUp | apply keeps_modSeq | apply keeps_logEvent | split))

theorem keeps_modeRequest {o₀ : State} (body : List Byte) (s : State) (h₀ : Keeps o₀ s) : Keeps o₀ (modeRequest body s) := by
  dsimp only [modeRequest]
  with_reducible repeat' (first | assumption | (apply keeps_foldl; intro _ _ _) | apply keeps_refuseMode | apply keeps_safeStopExit | apply keeps_latchRequest | apply keeps_when_ | intro _ _ | split | (refine keeps_mk _ _ _ _ _ _ _ _ _ _ _ _ _ _ _ _ _ _ _ _ _ _ _ _ _ _ _ _ _ _ rfl rfl rfl ?_; first | assumption | (apply keeps_foldl; intro _ _ _) | apply keeps_refuseMode | apply keeps_safeStopExit | apply keeps_latchRequest | split))

theorem keeps_ackSampled {o₀ : State} (c : Choice) (s : State) (h₀ : Keeps o₀ s) : Keeps o₀ (ackSampled c s) := by
  dsimp only [ackSampled]
  with_reducible repeat' (first | assumption | (apply keeps_foldl; intro _ _ _) | apply keeps_ackMode | apply keeps_refuseMode | apply keeps_when_ | intro _ _ | split | (refine keeps_mk _ _ _ _ _ _ _ _ _ _ _ _ _ _ _ _ _ _ _ _ _ _ _ _ _ _ _ _ _ _ rfl rfl rfl ?_; first | assumption | (apply keeps_foldl; intro _ _ _) | apply keeps_ackMode | apply keeps_refuseMode | split))

theorem keeps_noteMode {o₀ : State} (old : Nat) (c : Choice) (s : State) (h₀ : Keeps o₀ s) : Keeps o₀ (noteMode old c s) := by
  dsimp only [noteMode]
  with_reducible repeat' (first | assumption | (apply keeps_foldl; intro _ _ _) | apply keeps_count | apply keeps_logEvent | apply keeps_raiseTrigger | apply keeps_when_ | intro _ _ | split | (refine keeps_mk _ _ _ _ _ _ _ _ _ _ _ _ _ _ _ _ _ _ _ _ _ _ _ _ _ _ _ _ _ _ rfl rfl rfl ?_; first | assumption | (apply keeps_foldl; intro _ _ _) | apply keeps_count | apply keeps_logEvent | apply keeps_raiseTrigger | split))

/-! ## Power -/

theorem keeps_lossOfLock {o₀ : State} (s0 : State) (h₀ : Keeps o₀ s0) : Keeps o₀ (lossOfLock s0) := by
  dsimp only [lossOfLock]
  with_reducible repeat' (first | assumption | (apply keeps_foldl; intro _ _ _) | apply keeps_lightDiag | apply keeps_count | apply keeps_logEvent | apply keeps_abandonRun | apply keeps_stopFiring | apply keeps_when_ | intro _ _ | split | (refine keeps_mk _ _ _ _ _ _ _ _ _ _ _ _ _ _ _ _ _ _ _ _ _ _ _ _ _ _ _ _ _ _ rfl rfl rfl ?_; first | assumption | (apply keeps_foldl; intro _ _ _) | apply keeps_lightDiag | apply keeps_count | apply keeps_logEvent | apply keeps_abandonRun | apply keeps_stopFiring | split))

theorem keeps_timeEcho {o₀ : State} (t1 t2 result : Nat) (s : State) (h₀ : Keeps o₀ s) : Keeps o₀ (timeEcho t1 t2 result s) := by
  dsimp only [timeEcho]
  with_reducible repeat' (first | assumption | (apply keeps_foldl; intro _ _ _) | apply keeps_due2 | apply keeps_when_ | intro _ _ | split | (refine keeps_mk _ _ _ _ _ _ _ _ _ _ _ _ _ _ _ _ _ _ _ _ _ _ _ _ _ _ _ _ _ _ rfl rfl rfl ?_; first | assumption | (apply keeps_foldl; intro _ _ _) | apply keeps_due2 | split))

/-- A sample changes the mapping, not the local counter. -/
theorem syncSample_clock (t1 d t2 : Nat) (g : Grat) (now : Nat) :
    (syncSample t1 d t2 g now).2.localTime = g.localTime ∧ (syncSample t1 d t2 g now).2.subTap = g.subTap := by
  unfold syncSample
  extract_lets
  split <;> exact ⟨rfl, rfl⟩

theorem keeps_timeSyncBody {o₀ : State} (n : Nat) (body : List Byte) (s : State) (h₀ : Keeps o₀ s) :
    Keeps o₀ (timeSyncBody n body s) := by
  unfold timeSyncBody
  extract_lets t1 d t2 late r
  split
  · exact keeps_timeEcho _ _ _ _ (keeps_count _ _ _ h₀)
  · apply keeps_timeEcho
    have hc := syncSample_clock t1 d t2 s.grat s.now
    exact ⟨h₀.pending, h₀.now, hc.1.trans h₀.localTime, hc.2.trans h₀.subTap, h₀.nor⟩

theorem keeps_applyStep {o₀ : State} (s : State) (h₀ : Keeps o₀ s) : Keeps o₀ (applyStep s) := by
  dsimp only [applyStep]
  with_reducible repeat' (first | assumption | (apply keeps_foldl; intro _ _ _) | apply keeps_count | apply keeps_logEvent | apply keeps_when_ | intro _ _ | split | (refine keeps_mk _ _ _ _ _ _ _ _ _ _ _ _ _ _ _ _ _ _ _ _ _ _ _ _ _ _ _ _ _ _ rfl rfl rfl ?_; first | assumption | (apply keeps_foldl; intro _ _ _) | apply keeps_count | apply keeps_logEvent | split))

theorem keeps_railsSeen {o₀ : State} (levels : List Nat) (s : State) (h₀ : Keeps o₀ s) : Keeps o₀ (railsSeen levels s) := by
  dsimp only [railsSeen]
  with_reducible repeat' (first | assumption | (apply keeps_foldl; intro _ _ _) | apply keeps_when_ | intro _ _ | split | (refine keeps_mk _ _ _ _ _ _ _ _ _ _ _ _ _ _ _ _ _ _ _ _ _ _ _ _ _ _ _ _ _ _ rfl rfl rfl ?_; first | assumption | (apply keeps_foldl; intro _ _ _) | split))

theorem keeps_dipBegin {o₀ : State} (rail : Nat) (s0 : State) (h₀ : Keeps o₀ s0) : Keeps o₀ (dipBegin rail s0) := by
  dsimp only [dipBegin]
  with_reducible repeat' (first | assumption | (apply keeps_foldl; intro _ _ _) | apply keeps_lightDiag | apply keeps_count | apply keeps_logEvent | apply keeps_abandonRun | apply keeps_stopForDip | apply keeps_when_ | intro _ _ | split | (refine keeps_mk _ _ _ _ _ _ _ _ _ _ _ _ _ _ _ _ _ _ _ _ _ _ _ _ _ _ _ _ _ _ rfl rfl rfl ?_; first | assumption | (apply keeps_foldl; intro _ _ _) | apply keeps_lightDiag | apply keeps_count | apply keeps_logEvent | apply keeps_abandonRun | apply keeps_stopForDip | split))

/-! ## Thermal -/

theorem keeps_modThermal {o₀ : State} (f : Thermal → Thermal) (s : State) (h₀ : Keeps o₀ s) : Keeps o₀ (modThermal f s) := by
  dsimp only [modThermal]
  with_reducible repeat' (first | assumption | (apply keeps_foldl; intro _ _ _) | apply keeps_when_ | intro _ _ | split | (refine keeps_mk _ _ _ _ _ _ _ _ _ _ _ _ _ _ _ _ _ _ _ _ _ _ _ _ _ _ _ _ _ _ rfl rfl rfl ?_; first | assumption | (apply keeps_foldl; intro _ _ _) | split))

theorem keeps_noteFaults {o₀ : State} (l : List Nat) (s : State) (h₀ : Keeps o₀ s) : Keeps o₀ (noteFaults l s) := by
  dsimp only [noteFaults]
  with_reducible repeat' (first | assumption | (apply keeps_foldl; intro _ _ _) | apply keeps_modThermal | apply keeps_count | apply keeps_logEvent | apply keeps_when_ | intro _ _ | split | (refine keeps_mk _ _ _ _ _ _ _ _ _ _ _ _ _ _ _ _ _ _ _ _ _ _ _ _ _ _ _ _ _ _ rfl rfl rfl ?_; first | assumption | (apply keeps_foldl; intro _ _ _) | apply keeps_modThermal | apply keeps_count | apply keeps_logEvent | split))

theorem keeps_reportShutdown {o₀ : State} (now : Bool) (s : State) (h₀ : Keeps o₀ s) : Keeps o₀ (reportShutdown now s) := by
  dsimp only [reportShutdown]
  with_reducible repeat' (first | assumption | (apply keeps_foldl; intro _ _ _) | apply keeps_modThermal | apply keeps_enterSafeStopBoth | apply keeps_when_ | intro _ _ | split | (refine keeps_mk _ _ _ _ _ _ _ _ _ _ _ _ _ _ _ _ _ _ _ _ _ _ _ _ _ _ _ _ _ _ rfl rfl rfl ?_; first | assumption | (apply keeps_foldl; intro _ _ _) | apply keeps_modThermal | apply keeps_enterSafeStopBoth | split))

theorem keeps_judgeTemps {o₀ : State} (l : List (Option Int)) (s : State) (h₀ : Keeps o₀ s) : Keeps o₀ (judgeTemps l s) := by
  dsimp only [judgeTemps]
  with_reducible repeat' (first | assumption | (apply keeps_foldl; intro _ _ _) | apply keeps_reportShutdown | apply keeps_modThermal | apply keeps_logEvent | apply keeps_count | apply keeps_when_ | intro _ _ | split | (refine keeps_mk _ _ _ _ _ _ _ _ _ _ _ _ _ _ _ _ _ _ _ _ _ _ _ _ _ _ _ _ _ _ rfl rfl rfl ?_; first | assumption | (apply keeps_foldl; intro _ _ _) | apply keeps_reportShutdown | apply keeps_modThermal | apply keeps_logEvent | apply keeps_count | split))

theorem keeps_runTemp {o₀ : State} (s : State) (h₀ : Keeps o₀ s) : Keeps o₀ (runTemp s) := by
  dsimp only [runTemp]
  with_reducible repeat' (first | assumption | (apply keeps_foldl; intro _ _ _) | apply keeps_setRun | apply keeps_when_ | intro _ _ | split | (refine keeps_mk _ _ _ _ _ _ _ _ _ _ _ _ _ _ _ _ _ _ _ _ _ _ _ _ _ _ _ _ _ _ rfl rfl rfl ?_; first | assumption | (apply keeps_foldl; intro _ _ _) | apply keeps_setRun | split))

theorem keeps_coastChange {o₀ : State} (s : State) (h₀ : Keeps o₀ s) : Keeps o₀ (coastChange s) := by
  dsimp only [coastChange]
  with_reducible repeat' (first | assumption | (apply keeps_foldl; intro _ _ _) | apply keeps_when_ | intro _ _ | split | (refine keeps_mk _ _ _ _ _ _ _ _ _ _ _ _ _ _ _ _ _ _ _ _ _ _ _ _ _ _ _ _ _ _ rfl rfl rfl ?_; first | assumption | (apply keeps_foldl; intro _ _ _) | split))

theorem keeps_sensorReading {o₀ : State} (l : List (Option Int)) (s : State) (h₀ : Keeps o₀ s) : Keeps o₀ (sensorReading l s) := by
  dsimp only [sensorReading]
  with_reducible repeat' (first | assumption | (apply keeps_foldl; intro _ _ _) | apply keeps_modThermal | apply keeps_judgeTemps | apply keeps_noteFaults | apply keeps_coastChange | apply keeps_runTemp | apply keeps_biasAtReading | apply keeps_biasRetarget | apply keeps_when_ | intro _ _ | split | (refine keeps_mk _ _ _ _ _ _ _ _ _ _ _ _ _ _ _ _ _ _ _ _ _ _ _ _ _ _ _ _ _ _ rfl rfl rfl ?_; first | assumption | (apply keeps_foldl; intro _ _ _) | apply keeps_modThermal | apply keeps_judgeTemps | apply keeps_noteFaults | apply keeps_coastChange | apply keeps_runTemp | apply keeps_biasAtReading | apply keeps_biasRetarget | split))

theorem keeps_throttleStep {o₀ : State} (s : State) (h₀ : Keeps o₀ s) : Keeps o₀ (throttleStep s) := by
  dsimp only [throttleStep]
  with_reducible repeat' (first | assumption | (apply keeps_foldl; intro _ _ _) | apply keeps_modThermal | apply keeps_count | apply keeps_logEvent | apply keeps_when_ | intro _ _ | split | (refine keeps_mk _ _ _ _ _ _ _ _ _ _ _ _ _ _ _ _ _ _ _ _ _ _ _ _ _ _ _ _ _ _ rfl rfl rfl ?_; first | assumption | (apply keeps_foldl; intro _ _ _) | apply keeps_modThermal | apply keeps_count | apply keeps_logEvent | split))

/-! ## SheetForm -/

theorem keeps_formSheetState {o₀ : State} (s : State) (h₀ : Keeps o₀ s) : Keeps o₀ (formSheetState s) := by
  dsimp only [formSheetState]
  with_reducible repeat' (first | assumption | (apply keeps_foldl; intro _ _ _) | apply keeps_modBank | apply keeps_when_ | intro _ _ | split | (refine keeps_mk _ _ _ _ _ _ _ _ _ _ _ _ _ _ _ _ _ _ _ _ _ _ _ _ _ _ _ _ _ _ rfl rfl rfl ?_; first | assumption | (apply keeps_foldl; intro _ _ _) | apply keeps_modBank | split))

theorem keeps_compareCodes {o₀ : State} (d : Side) (s : State) (h₀ : Keeps o₀ s) : Keeps o₀ (compareCodes d s) := by
  dsimp only [compareCodes]
  with_reducible repeat' (first | assumption | (apply keeps_foldl; intro _ _ _) | apply keeps_modSide | apply keeps_enterSafeStop | apply keeps_when_ | intro _ _ | split | (refine keeps_mk _ _ _ _ _ _ _ _ _ _ _ _ _ _ _ _ _ _ _ _ _ _ _ _ _ _ _ _ _ _ rfl rfl rfl ?_; first | assumption | (apply keeps_foldl; intro _ _ _) | apply keeps_modSide | apply keeps_enterSafeStop | split))

/-! ## Boundary -/

theorem keeps_noteStale {o₀ : State} (s : State) (x : Nat) (h₀ : Keeps o₀ s) : Keeps o₀ (noteStale s x) := by
  dsimp only [noteStale]
  with_reducible repeat' (first | assumption | (apply keeps_foldl; intro _ _ _) | apply keeps_count | apply keeps_logEvent | apply keeps_when_ | intro _ _ | split | (refine keeps_mk _ _ _ _ _ _ _ _ _ _ _ _ _ _ _ _ _ _ _ _ _ _ _ _ _ _ _ _ _ _ rfl rfl rfl ?_; first | assumption | (apply keeps_foldl; intro _ _ _) | apply keeps_count | apply keeps_logEvent | split))

theorem keeps_staleBuffers {o₀ : State} (p : Bool) (s : State) (h₀ : Keeps o₀ s) : Keeps o₀ (staleBuffers p s) := by
  dsimp only [staleBuffers]
  with_reducible repeat' (first | assumption | (apply keeps_foldl; intro _ _ _) | apply keeps_noteStale | apply keeps_when_ | intro _ _ | split | (refine keeps_mk _ _ _ _ _ _ _ _ _ _ _ _ _ _ _ _ _ _ _ _ _ _ _ _ _ _ _ _ _ _ rfl rfl rfl ?_; first | assumption | (apply keeps_foldl; intro _ _ _) | apply keeps_noteStale | split))

theorem keeps_staleMarkers {o₀ : State} (p : Bool) (s : State) (h₀ : Keeps o₀ s) : Keeps o₀ (staleMarkers p s) := by
  dsimp only [staleMarkers]
  with_reducible repeat' (first | assumption | (apply keeps_foldl; intro _ _ _) | apply keeps_modSurvey | apply keeps_noteStale | apply keeps_freeCtx | apply keeps_when_ | intro _ _ | split | (refine keeps_mk _ _ _ _ _ _ _ _ _ _ _ _ _ _ _ _ _ _ _ _ _ _ _ _ _ _ _ _ _ _ rfl rfl rfl ?_; first | assumption | (apply keeps_foldl; intro _ _ _) | apply keeps_modSurvey | apply keeps_noteStale | apply keeps_freeCtx | split))

theorem keeps_staleContexts {o₀ : State} (p : Bool) (s : State) (h₀ : Keeps o₀ s) : Keeps o₀ (staleContexts p s) := by
  dsimp only [staleContexts]
  with_reducible repeat' (first | assumption | (apply keeps_foldl; intro _ _ _) | apply keeps_noteStale | apply keeps_discardCtx | apply keeps_when_ | intro _ _ | split | (refine keeps_mk _ _ _ _ _ _ _ _ _ _ _ _ _ _ _ _ _ _ _ _ _ _ _ _ _ _ _ _ _ _ rfl rfl rfl ?_; first | assumption | (apply keeps_foldl; intro _ _ _) | apply keeps_noteStale | apply keeps_discardCtx | split))

theorem keeps_dropWork {o₀ : State} (s : State) (w : Work) (h₀ : Keeps o₀ s) : Keeps o₀ (dropWork s w) := by
  dsimp only [dropWork]
  with_reducible repeat' (first | assumption | (apply keeps_foldl; intro _ _ _) | apply keeps_noteStale | apply keeps_freeCtx | apply keeps_freeExtra | apply keeps_when_ | intro _ _ | split | (refine keeps_mk _ _ _ _ _ _ _ _ _ _ _ _ _ _ _ _ _ _ _ _ _ _ _ _ _ _ _ _ _ _ rfl rfl rfl ?_; first | assumption | (apply keeps_foldl; intro _ _ _) | apply keeps_noteStale | apply keeps_freeCtx | apply keeps_freeExtra | split))

theorem keeps_staleWork {o₀ : State} (p : Bool) (s : State) (h₀ : Keeps o₀ s) : Keeps o₀ (staleWork p s) := by
  dsimp only [staleWork]
  with_reducible repeat' (first | assumption | (apply keeps_foldl; intro _ _ _) | apply keeps_modSurvey | apply keeps_modContour | apply keeps_dropWork | apply keeps_when_ | intro _ _ | split | (refine keeps_mk _ _ _ _ _ _ _ _ _ _ _ _ _ _ _ _ _ _ _ _ _ _ _ _ _ _ _ _ _ _ rfl rfl rfl ?_; first | assumption | (apply keeps_foldl; intro _ _ _) | apply keeps_modSurvey | apply keeps_modContour | apply keeps_dropWork | split))

theorem keeps_staleRecords {o₀ : State} (p : Bool) (s : State) (h₀ : Keeps o₀ s) : Keeps o₀ (staleRecords p s) := by
  dsimp only [staleRecords]
  with_reducible repeat' (first | assumption | (apply keeps_foldl; intro _ _ _) | apply keeps_noteStale | apply keeps_modContour | apply keeps_when_ | intro _ _ | split | (refine keeps_mk _ _ _ _ _ _ _ _ _ _ _ _ _ _ _ _ _ _ _ _ _ _ _ _ _ _ _ _ _ _ rfl rfl rfl ?_; first | assumption | (apply keeps_foldl; intro _ _ _) | apply keeps_noteStale | apply keeps_modContour | split))

theorem keeps_discardStale {o₀ : State} (p : Bool) (s : State) (h₀ : Keeps o₀ s) : Keeps o₀ (discardStale p s) := by
  dsimp only [discardStale]
  with_reducible repeat' (first | assumption | (apply keeps_foldl; intro _ _ _) | apply keeps_staleRecords | apply keeps_staleWork | apply keeps_staleContexts | apply keeps_staleMarkers | apply keeps_staleBuffers | apply keeps_when_ | intro _ _ | split | (refine keeps_mk _ _ _ _ _ _ _ _ _ _ _ _ _ _ _ _ _ _ _ _ _ _ _ _ _ _ _ _ _ _ rfl rfl rfl ?_; first | assumption | (apply keeps_foldl; intro _ _ _) | apply keeps_staleRecords | apply keeps_staleWork | apply keeps_staleContexts | apply keeps_staleMarkers | apply keeps_staleBuffers | split))

theorem keeps_endEngines {o₀ : State} (s : State) (h₀ : Keeps o₀ s) : Keeps o₀ (endEngines s) := by
  dsimp only [endEngines]
  with_reducible repeat' (first | assumption | (apply keeps_foldl; intro _ _ _) | apply keeps_countSet | apply keeps_modSurvey | apply keeps_when_ | intro _ _ | split | (refine keeps_mk _ _ _ _ _ _ _ _ _ _ _ _ _ _ _ _ _ _ _ _ _ _ _ _ _ _ _ _ _ _ rfl rfl rfl ?_; first | assumption | (apply keeps_foldl; intro _ _ _) | apply keeps_countSet | apply keeps_modSurvey | split))

theorem keeps_endSheet {o₀ : State} (s : State) (h₀ : Keeps o₀ s) : Keeps o₀ (endSheet s) := by
  dsimp only [endSheet]
  with_reducible repeat' (first | assumption | (apply keeps_foldl; intro _ _ _) | apply keeps_closePending | apply keeps_closeGap | apply keeps_endEngines | apply keeps_modSide | apply keeps_modContour | apply keeps_when_ | intro _ _ | split | (refine keeps_mk _ _ _ _ _ _ _ _ _ _ _ _ _ _ _ _ _ _ _ _ _ _ _ _ _ _ _ _ _ _ rfl rfl rfl ?_; first | assumption | (apply keeps_foldl; intro _ _ _) | apply keeps_closePending | apply keeps_closeGap | apply keeps_endEngines | apply keeps_modSide | apply keeps_modContour | split))

theorem keeps_stampBn {o₀ : State} (s : State) (h₀ : Keeps o₀ s) : Keeps o₀ (stampBn s) := by
  dsimp only [stampBn]
  with_reducible repeat' (first | assumption | (apply keeps_foldl; intro _ _ _) | apply keeps_modSeq | apply keeps_when_ | intro _ _ | split | (refine keeps_mk _ _ _ _ _ _ _ _ _ _ _ _ _ _ _ _ _ _ _ _ _ _ _ _ _ _ _ _ _ _ rfl rfl rfl ?_; first | assumption | (apply keeps_foldl; intro _ _ _) | apply keeps_modSeq | split))

theorem keeps_newGap {o₀ : State} (s : State) (h₀ : Keeps o₀ s) : Keeps o₀ (newGap s) := by
  dsimp only [newGap]
  with_reducible repeat' (first | assumption | (apply keeps_foldl; intro _ _ _) | apply keeps_modChain | apply keeps_when_ | intro _ _ | split | (refine keeps_mk _ _ _ _ _ _ _ _ _ _ _ _ _ _ _ _ _ _ _ _ _ _ _ _ _ _ _ _ _ _ rfl rfl rfl ?_; first | assumption | (apply keeps_foldl; intro _ _ _) | apply keeps_modChain | split))

theorem keeps_takeChoice {o₀ : State} (c : Choice) (s : State) (h₀ : Keeps o₀ s) : Keeps o₀ (takeChoice c s) := by
  dsimp only [takeChoice]
  with_reducible repeat' (first | assumption | (apply keeps_foldl; intro _ _ _) | apply keeps_stampBn | apply keeps_when_ | intro _ _ | split | (refine keeps_mk _ _ _ _ _ _ _ _ _ _ _ _ _ _ _ _ _ _ _ _ _ _ _ _ _ _ _ _ _ _ rfl rfl rfl ?_; first | assumption | (apply keeps_foldl; intro _ _ _) | apply keeps_stampBn | split))

theorem keeps_exchangeBuffers {o₀ : State} (s : State) (h₀ : Keeps o₀ s) : Keeps o₀ (exchangeBuffers s) := by
  dsimp only [exchangeBuffers]
  with_reducible repeat' (first | assumption | (apply keeps_foldl; intro _ _ _) | apply keeps_modSeq | apply keeps_when_ | intro _ _ | split | (refine keeps_mk _ _ _ _ _ _ _ _ _ _ _ _ _ _ _ _ _ _ _ _ _ _ _ _ _ _ _ _ _ _ rfl rfl rfl ?_; first | assumption | (apply keeps_foldl; intro _ _ _) | apply keeps_modSeq | split))

theorem keeps_openSheet {o₀ : State} (s : State) (h₀ : Keeps o₀ s) : Keeps o₀ (openSheet s) := by
  dsimp only [openSheet]
  with_reducible repeat' (first | assumption | (apply keeps_foldl; intro _ _ _) | apply keeps_modContour | apply keeps_due4 | apply keeps_when_ | intro _ _ | split | (refine keeps_mk _ _ _ _ _ _ _ _ _ _ _ _ _ _ _ _ _ _ _ _ _ _ _ _ _ _ _ _ _ _ rfl rfl rfl ?_; first | assumption | (apply keeps_foldl; intro _ _ _) | apply keeps_modContour | apply keeps_due4 | split))

theorem keeps_linkAtBoundary {o₀ : State} (old : Nat) (s : State) (h₀ : Keeps o₀ s) : Keeps o₀ (linkAtBoundary old s) := by
  dsimp only [linkAtBoundary]
  with_reducible repeat' (first | assumption | (apply keeps_foldl; intro _ _ _) | apply keeps_endLaneTest | apply keeps_modLink | apply keeps_riseAtBoundary | apply keeps_wakeLanes | apply keeps_when_ | intro _ _ | split | (refine keeps_mk _ _ _ _ _ _ _ _ _ _ _ _ _ _ _ _ _ _ _ _ _ _ _ _ _ _ _ _ _ _ rfl rfl rfl ?_; first | assumption | (apply keeps_foldl; intro _ _ _) | apply keeps_endLaneTest | apply keeps_modLink | apply keeps_riseAtBoundary | apply keeps_wakeLanes | split))

theorem keeps_startClkOut {o₀ : State} (s : State) (h₀ : Keeps o₀ s) : Keeps o₀ (startClkOut s) := by
  dsimp only [startClkOut]
  with_reducible repeat' (first | assumption | (apply keeps_foldl; intro _ _ _) | apply keeps_when_ | intro _ _ | split | (refine keeps_mk _ _ _ _ _ _ _ _ _ _ _ _ _ _ _ _ _ _ _ _ _ _ _ _ _ _ _ _ _ _ rfl rfl rfl ?_; first | assumption | (apply keeps_foldl; intro _ _ _) | split))

theorem keeps_recorderAtBoundary {o₀ : State} (old : Nat) (s : State) (h₀ : Keeps o₀ s) : Keeps o₀ (recorderAtBoundary old s) := by
  dsimp only [recorderAtBoundary]
  with_reducible repeat' (first | assumption | (apply keeps_foldl; intro _ _ _) | apply keeps_pauseRing | apply keeps_nandStart | apply keeps_stopReadout | apply keeps_when_ | intro _ _ | split | (refine keeps_mk _ _ _ _ _ _ _ _ _ _ _ _ _ _ _ _ _ _ _ _ _ _ _ _ _ _ _ _ _ _ rfl rfl rfl ?_; first | assumption | (apply keeps_foldl; intro _ _ _) | apply keeps_pauseRing | apply keeps_nandStart | apply keeps_stopReadout | split))

theorem keeps_banksAtBoundary {o₀ : State} (s : State) (h₀ : Keeps o₀ s) : Keeps o₀ (banksAtBoundary s) := by
  dsimp only [banksAtBoundary]
  with_reducible repeat' (first | assumption | (apply keeps_foldl; intro _ _ _) | apply keeps_showBankStates | apply keeps_applyConfirmed | apply keeps_boardHeat | apply keeps_newGap | apply keeps_when_ | intro _ _ | split | (refine keeps_mk _ _ _ _ _ _ _ _ _ _ _ _ _ _ _ _ _ _ _ _ _ _ _ _ _ _ _ _ _ _ rfl rfl rfl ?_; first | assumption | (apply keeps_foldl; intro _ _ _) | apply keeps_showBankStates | apply keeps_applyConfirmed | apply keeps_boardHeat | apply keeps_newGap | split))

theorem keeps_biasAtBoundary {o₀ : State} (first : Bool) (old : Nat) (s : State) (h₀ : Keeps o₀ s) : Keeps o₀ (biasAtBoundary first old s) := by
  dsimp only [biasAtBoundary]
  with_reducible repeat' (first | assumption | (apply keeps_foldl; intro _ _ _) | apply keeps_biasReport | refine keeps_biasReport_eq ‹_› ?_ | apply keeps_ambientBoundary | apply keeps_when_ | intro _ _ | split | (refine keeps_mk _ _ _ _ _ _ _ _ _ _ _ _ _ _ _ _ _ _ _ _ _ _ _ _ _ _ _ _ _ _ rfl rfl rfl ?_; first | assumption | (apply keeps_foldl; intro _ _ _) | apply keeps_biasReport | refine keeps_biasReport_eq ‹_› ?_ | apply keeps_ambientBoundary | split))

theorem keeps_sheetBoundary {o₀ : State} (s : State) (h₀ : Keeps o₀ s) : Keeps o₀ (sheetBoundary s) := by
  dsimp only [sheetBoundary]
  with_reducible repeat' (first | assumption | (apply keeps_foldl; intro _ _ _) | apply keeps_spinUp | apply keeps_applyStep | apply keeps_endSheet | apply keeps_takeChoice | apply keeps_count | apply keeps_ackSampled | apply keeps_noteMode | apply keeps_discardStale | apply keeps_banksAtBoundary | apply keeps_throttleStep | apply keeps_applySet | apply keeps_formDerived | apply keeps_calibRuns | apply keeps_biasAtBoundary | apply keeps_modSeq | apply keeps_exchangeBuffers | apply keeps_formSheetState | apply keeps_openSheet | apply keeps_linkAtBoundary | apply keeps_startClkOut | apply keeps_recorderAtBoundary | apply keeps_compareCodes | apply keeps_checkPermit | apply keeps_when_ | intro _ _ | split | (refine keeps_mk _ _ _ _ _ _ _ _ _ _ _ _ _ _ _ _ _ _ _ _ _ _ _ _ _ _ _ _ _ _ rfl rfl rfl ?_; first | assumption | (apply keeps_foldl; intro _ _ _) | apply keeps_spinUp | apply keeps_applyStep | apply keeps_endSheet | apply keeps_takeChoice | apply keeps_count | apply keeps_ackSampled | apply keeps_noteMode | apply keeps_discardStale | apply keeps_banksAtBoundary | apply keeps_throttleStep | apply keeps_applySet | apply keeps_formDerived | apply keeps_calibRuns | apply keeps_biasAtBoundary | apply keeps_modSeq | apply keeps_exchangeBuffers | apply keeps_formSheetState | apply keeps_openSheet | apply keeps_linkAtBoundary | apply keeps_startClkOut | apply keeps_recorderAtBoundary | apply keeps_compareCodes | apply keeps_checkPermit | split))

theorem keeps_timingBoundary {o₀ : State} (s : State) (h₀ : Keeps o₀ s) : Keeps o₀ (timingBoundary s) := by
  dsimp only [timingBoundary]
  with_reducible repeat' (first | assumption | (apply keeps_foldl; intro _ _ _) | apply keeps_modSide | apply keeps_closeGap | apply keeps_modSeq | apply keeps_stampBn | apply keeps_banksAtBoundary | apply keeps_applySet | apply keeps_riseAtBoundary | apply keeps_calibRuns | apply keeps_modBias | apply keeps_when_ | intro _ _ | split | (refine keeps_mk _ _ _ _ _ _ _ _ _ _ _ _ _ _ _ _ _ _ _ _ _ _ _ _ _ _ _ _ _ _ rfl rfl rfl ?_; first | assumption | (apply keeps_foldl; intro _ _ _) | apply keeps_modSide | apply keeps_closeGap | apply keeps_modSeq | apply keeps_stampBn | apply keeps_banksAtBoundary | apply keeps_applySet | apply keeps_riseAtBoundary | apply keeps_calibRuns | apply keeps_modBias | split))

theorem keeps_stopBoundary {o₀ : State} (s : State) (h₀ : Keeps o₀ s) : Keeps o₀ (stopBoundary s) := by
  dsimp only [stopBoundary]
  with_reducible repeat' (first | assumption | (apply keeps_foldl; intro _ _ _) | apply keeps_closeGap | apply keeps_modSide | apply keeps_riseAtBoundary | apply keeps_banksAtBoundary | apply keeps_modSeq | apply keeps_stampBn | apply keeps_when_ | intro _ _ | split | (refine keeps_mk _ _ _ _ _ _ _ _ _ _ _ _ _ _ _ _ _ _ _ _ _ _ _ _ _ _ _ _ _ _ rfl rfl rfl ?_; first | assumption | (apply keeps_foldl; intro _ _ _) | apply keeps_closeGap | apply keeps_modSide | apply keeps_riseAtBoundary | apply keeps_banksAtBoundary | apply keeps_modSeq | apply keeps_stampBn | split))

/-! ## Sessions -/

theorem keeps_modSec {o₀ : State} (f : Security → Security) (s : State) (h₀ : Keeps o₀ s) : Keeps o₀ (modSec f s) := by
  dsimp only [modSec]
  with_reducible repeat' (first | assumption | (apply keeps_foldl; intro _ _ _) | apply keeps_when_ | intro _ _ | split | (refine keeps_mk _ _ _ _ _ _ _ _ _ _ _ _ _ _ _ _ _ _ _ _ _ _ _ _ _ _ _ _ _ _ rfl rfl rfl ?_; first | assumption | (apply keeps_foldl; intro _ _ _) | split))

theorem keeps_refuseSession {o₀ : State} (reason : Nat) (s : State) (h₀ : Keeps o₀ s) : Keeps o₀ (refuseSession reason s) := by
  dsimp only [refuseSession]
  with_reducible repeat' (first | assumption | (apply keeps_foldl; intro _ _ _) | apply keeps_due3 | apply keeps_modSec | apply keeps_count | apply keeps_logEvent | apply keeps_when_ | intro _ _ | split | (refine keeps_mk _ _ _ _ _ _ _ _ _ _ _ _ _ _ _ _ _ _ _ _ _ _ _ _ _ _ _ _ _ _ rfl rfl rfl ?_; first | assumption | (apply keeps_foldl; intro _ _ _) | apply keeps_due3 | apply keeps_modSec | apply keeps_count | apply keeps_logEvent | split))

theorem keeps_deviceHello {o₀ : State} (body : List Byte) (s : State) (h₀ : Keeps o₀ s) : Keeps o₀ (deviceHello body s) := by
  dsimp only [deviceHello]
  with_reducible repeat' (first | assumption | (apply keeps_foldl; intro _ _ _) | apply keeps_draw | refine keeps_draw_eq ‹_› ?_ | apply keeps_drawScalar | refine keeps_drawScalar_eq ‹_› ?_ | apply keeps_signDigest | refine keeps_signDigest_eq ‹_› ?_ | apply keeps_due3 | apply keeps_modSec | apply keeps_when_ | intro _ _ | split | (refine keeps_mk _ _ _ _ _ _ _ _ _ _ _ _ _ _ _ _ _ _ _ _ _ _ _ _ _ _ _ _ _ _ rfl rfl rfl ?_; first | assumption | (apply keeps_foldl; intro _ _ _) | apply keeps_draw | refine keeps_draw_eq ‹_› ?_ | apply keeps_drawScalar | refine keeps_drawScalar_eq ‹_› ?_ | apply keeps_signDigest | refine keeps_signDigest_eq ‹_› ?_ | apply keeps_due3 | apply keeps_modSec | split))

theorem keeps_hostHello {o₀ : State} (body : List Byte) (s : State) (h₀ : Keeps o₀ s) : Keeps o₀ (hostHello body s) := by
  dsimp only [hostHello]
  with_reducible repeat' (first | assumption | (apply keeps_foldl; intro _ _ _) | apply keeps_deviceHello | apply keeps_refuseSession | apply keeps_when_ | intro _ _ | split | (refine keeps_mk _ _ _ _ _ _ _ _ _ _ _ _ _ _ _ _ _ _ _ _ _ _ _ _ _ _ _ _ _ _ rfl rfl rfl ?_; first | assumption | (apply keeps_foldl; intro _ _ _) | apply keeps_deviceHello | apply keeps_refuseSession | split))

theorem keeps_establish {o₀ : State} (h : Hello) (z : Nat) (s : State) (h₀ : Keeps o₀ s) : Keeps o₀ (establish h z s) := by
  dsimp only [establish]
  with_reducible repeat' (first | assumption | (apply keeps_foldl; intro _ _ _) | apply keeps_due3 | apply keeps_modSec | apply keeps_when_ | intro _ _ | split | (refine keeps_mk _ _ _ _ _ _ _ _ _ _ _ _ _ _ _ _ _ _ _ _ _ _ _ _ _ _ _ _ _ _ rfl rfl rfl ?_; first | assumption | (apply keeps_foldl; intro _ _ _) | apply keeps_due3 | apply keeps_modSec | split))

theorem keeps_hostFinish {o₀ : State} (body : List Byte) (s : State) (h₀ : Keeps o₀ s) : Keeps o₀ (hostFinish body s) := by
  dsimp only [hostFinish]
  with_reducible repeat' (first | assumption | (apply keeps_foldl; intro _ _ _) | apply keeps_refuseSession | apply keeps_establish | apply keeps_when_ | intro _ _ | split | (refine keeps_mk _ _ _ _ _ _ _ _ _ _ _ _ _ _ _ _ _ _ _ _ _ _ _ _ _ _ _ _ _ _ rfl rfl rfl ?_; first | assumption | (apply keeps_foldl; intro _ _ _) | apply keeps_refuseSession | apply keeps_establish | split))

theorem keeps_closeSession {o₀ : State} (s : State) (h₀ : Keeps o₀ s) : Keeps o₀ (closeSession s) := by
  dsimp only [closeSession]
  with_reducible repeat' (first | assumption | (apply keeps_foldl; intro _ _ _) | apply keeps_freePool | apply keeps_modLink | apply keeps_modContour | apply keeps_modSec | apply keeps_modRec | apply keeps_when_ | intro _ _ | split | (refine keeps_mk _ _ _ _ _ _ _ _ _ _ _ _ _ _ _ _ _ _ _ _ _ _ _ _ _ _ _ _ _ _ rfl rfl rfl ?_; first | assumption | (apply keeps_foldl; intro _ _ _) | apply keeps_freePool | apply keeps_modLink | apply keeps_modContour | apply keeps_modSec | apply keeps_modRec | split))

/-! ## Status -/

theorem keeps_statusRefused {o₀ : State} (w0 result : Nat) (s : State) (h₀ : Keeps o₀ s) : Keeps o₀ (statusRefused w0 result s) := by
  dsimp only [statusRefused]
  with_reducible repeat' (first | assumption | (apply keeps_foldl; intro _ _ _) | apply keeps_due3 | apply keeps_when_ | intro _ _ | split | (refine keeps_mk _ _ _ _ _ _ _ _ _ _ _ _ _ _ _ _ _ _ _ _ _ _ _ _ _ _ _ _ _ _ rfl rfl rfl ?_; first | assumption | (apply keeps_foldl; intro _ _ _) | apply keeps_due3 | split))

theorem keeps_statusQuery {o₀ : State} (body : List Byte) (s : State) (h₀ : Keeps o₀ s) : Keeps o₀ (statusQuery body s) := by
  dsimp only [statusQuery]
  with_reducible repeat' (first | assumption | (apply keeps_foldl; intro _ _ _) | apply keeps_statusRefused | apply keeps_moveStart | apply keeps_when_ | intro _ _ | split | (refine keeps_mk _ _ _ _ _ _ _ _ _ _ _ _ _ _ _ _ _ _ _ _ _ _ _ _ _ _ _ _ _ _ rfl rfl rfl ?_; first | assumption | (apply keeps_foldl; intro _ _ _) | apply keeps_statusRefused | apply keeps_moveStart | split))

theorem keeps_logWrite {o₀ : State} (e : Nat × Nat) (r : List (Nat × Nat)) (s : State) (h₀ : Keeps o₀ s) : Keeps o₀ (logWrite e r s) := by
  dsimp only [logWrite]
  with_reducible repeat' (first | assumption | (apply keeps_foldl; intro _ _ _) | apply keeps_count | apply keeps_modRec | apply keeps_when_ | intro _ _ | split | (refine keeps_mk _ _ _ _ _ _ _ _ _ _ _ _ _ _ _ _ _ _ _ _ _ _ _ _ _ _ _ _ _ _ rfl rfl rfl ?_; first | assumption | (apply keeps_foldl; intro _ _ _) | apply keeps_count | apply keeps_modRec | split))

theorem keeps_jtagRun {o₀ : State} (n : Nat) (s : State) (h₀ : Keeps o₀ s) : Keeps o₀ (jtagRun n s) := by
  dsimp only [jtagRun]
  with_reducible repeat' (first | assumption | (apply keeps_foldl; intro _ _ _) | apply keeps_when_ | intro _ _ | split | (refine keeps_mk _ _ _ _ _ _ _ _ _ _ _ _ _ _ _ _ _ _ _ _ _ _ _ _ _ _ _ _ _ _ rfl rfl rfl ?_; first | assumption | (apply keeps_foldl; intro _ _ _) | split))

end Sys2Proof.Laws
end

