-- ==== Sys2Proof/Laws/PerInstr.lean ====
section
/-! SUPPORT. The family "Units", a statement per command: a well-formed command names only parts the device has. -/

namespace Sys2Proof.Laws.Units

open Sys2Proof

/-- The numbers a command names, each with the count of the parts of its kind. -/
def named : Instr → List (Nat × Nat)
  | .lockDeclared _ band loop => [(band.slow.length, 6), (band.measured, 65536), (loop.control, 65536)]
  | .diagnosticSlot _ bank _ _ firings _ => (bank, 32) :: (firings.length, 49) :: firings.flatMap (fun l => l.map (fun f => (f.1, 16)))
  | .engineSelfTest _ e _ _ | .markerApply _ e | .dropItem _ e | .contextClose _ e _ | .grantTimeout _ e | .engineFailure _ e => [(e, 68)]
  | .eventItem _ reads => [(reads.engine, 68)]
  | .contourSelfTest _ u _ _ | .contourStart _ u _ | .contourRecord _ u | .contourWatchdog _ u => [(u, 16)]
  | .ambientEvaluation _ c | .rangeWindowEnd _ c | .recoveryEnd _ c | .holdingRegisterFlush _ c => [(c, 1536)]
  | .coincidenceEvent _ c fired tap => (c, 1536) :: (tap, 20) :: fired.map (fun f => (f.1, 16))
  | .nearZoneLine _ c fired => (c, 1536) :: fired.map (fun f => (f.1, 16))
  | .pointPacketRelease _ g => [(g, 64)]
  | .laneTestEnd _ errors => errors.map (fun c => (c.1, 5))
  | .firePadPulse _ _ bank _ => [(bank, 32)]
  | .gateTest _ a b => [(a.length, 33), (b.length, 33)]
  | .discrepancyTimeout _ _ input => [(input, 2)]
  | .sensorReading _ l => [(l.length, 17)]
  | .dipBegin _ f | .resetLevelFall _ f => [(f.levels.length, 7)]
  | .supplyReturnLevel rise => [(rise.levels.length, 7)]
  | .samplePreload _ c | .extest _ c => [(c.levels.length, 132), (c.shifted.length, 132)]
  | .descriptorComplete _ k | .channelHalt _ k _ => [(k, 16)]
  | .jtagStatusRead _ addr words => [(addr, 1024), (words, 65)]
  | .checkerSync _ seen => [(seen.lane, 5)]
  | .checkerSyncLoss _ lane _ _ => [(lane, 5)]
  | _ => []

/-- A well-formed command names only parts the device has. -/
def Statement (i : Instr) : Prop := i.wellFormed = true → ∀ e ∈ named i, e.1 < e.2

theorem one {a n : Nat} (h : decide (a < n) = true) : ∀ e ∈ [(a, n)], e.1 < e.2 := by
  intro e he
  simp only [List.mem_singleton] at he
  subst he
  exact of_decide_eq_true h

theorem all_below {α : Type} (n : Nat) (l : List (Nat × α)) (h : l.all (fun f => decide (f.1 < n)) = true) :
    ∀ e ∈ l.map (fun f => (f.1, n)), e.1 < e.2 := by
  intro e he
  obtain ⟨f, hf, rfl⟩ := List.mem_map.1 he
  exact of_decide_eq_true (List.all_eq_true.1 h f hf)

theorem all_lists_below {α : Type} (n : Nat) (l : List (List (Nat × α)))
    (h : l.all (fun x => x.all (fun f => decide (f.1 < n))) = true) :
    ∀ e ∈ l.flatMap (fun x => x.map (fun f => (f.1, n))), e.1 < e.2 := by
  intro e he
  obtain ⟨x, hx, hf⟩ := List.mem_flatMap.1 he
  exact all_below n x (List.all_eq_true.1 h x hx) e hf

theorem cons_of {p : Nat × Nat} {l : List (Nat × Nat)} (h : p.1 < p.2) (r : ∀ e ∈ l, e.1 < e.2) :
    ∀ e ∈ p :: l, e.1 < e.2 := by
  intro e he
  rcases List.mem_cons.1 he with rfl | he
  · exact h
  · exact r e he

theorem both {x y : Bool} (h : (x && y) = true) : x = true ∧ y = true := by
  simpa using h

theorem exact_length {a n : Nat} (h : decide (a = n) = true) : a < n + 1 := by
  rw [of_decide_eq_true h]
  exact Nat.lt_succ_self n

theorem powerOnReset (dt : Nat) (coreLowest : Nat) : Statement (.powerOnReset dt coreLowest) := fun _ _ h => nomatch h
theorem nresetLow (dt : Nat) (low : Nat) : Statement (.nresetLow dt low) := fun _ _ h => nomatch h
theorem resetRelease (dt : Nat) (strapA : Byte) (strapB : Byte) (ref : RefEdges) : Statement (.resetRelease dt strapA strapB ref) :=
  fun _ _ h => nomatch h
theorem crystalStartupDone (dt : Nat) (edges : Nat) : Statement (.crystalStartupDone dt edges) := fun _ _ h => nomatch h
theorem referenceDetectRetry (dt : Nat) (ref : RefEdges) : Statement (.referenceDetectRetry dt ref) :=
  fun _ _ h => nomatch h
theorem lockDeclared (dt : Nat) (band : BandSearch) (loop : LoopState) : Statement (.lockDeclared dt band loop) :=
  fun h => cons_of (exact_length (both (both h).1).1) (cons_of (of_decide_eq_true (both (both h).1).2) (one (both h).2))
theorem imageVerify (dt : Nat) (nor : Option NorPart) : Statement (.imageVerify dt nor) := fun _ _ h => nomatch h
theorem imageAccept (dt : Nat) : Statement (.imageAccept dt) := fun _ _ h => nomatch h
theorem recorderMount (mount : MountInput) (ce0 : Option NandPart) (ce1 : Option NandPart) : Statement (.recorderMount mount ce0 ce1) :=
  fun _ _ h => nomatch h
theorem hallEdge (dt : Nat) (code : BitVec 3) (observer : Nat) : Statement (.hallEdge dt code observer) :=
  fun _ _ h => nomatch h
theorem hallInvalid (dt : Nat) (code : BitVec 3) : Statement (.hallInvalid dt code) := fun _ _ h => nomatch h
theorem stallTimeout (dt : Nat) : Statement (.stallTimeout dt) := fun _ _ h => nomatch h
theorem overcurrent (dt : Nat) : Statement (.overcurrent dt) := fun _ _ h => nomatch h
theorem timingOnlyBoundary (dt : Nat) : Statement (.timingOnlyBoundary dt) := fun _ _ h => nomatch h
theorem sheetBoundary (dt : Nat) : Statement (.sheetBoundary dt) := fun _ _ h => nomatch h
theorem traverseFrame (dt : Nat) : Statement (.traverseFrame dt) := fun _ _ h => nomatch h
theorem diagnosticSlot (dt : Nat) (bank : Nat) (high : List Nat) (rises : List Nat) (firings : List (List (Nat × Nat))) (measured : Option Nat) : Statement (.diagnosticSlot dt bank high rises firings measured) :=
  fun h => cons_of (of_decide_eq_true (both (both h).1).1)
    (cons_of (exact_length (both (both h).1).2) (all_lists_below 16 _ (both h).2))
theorem diagnosticWindowClose (dt : Nat) : Statement (.diagnosticWindowClose dt) := fun _ _ h => nomatch h
theorem engineSelfTest (dt : Nat) (engine : Nat) (ran : Bool) (passed : Bool) : Statement (.engineSelfTest dt engine ran passed) :=
  one
theorem contourSelfTest (dt : Nat) (unit : Nat) (ran : Bool) (passed : Bool) : Statement (.contourSelfTest dt unit ran passed) :=
  one
theorem coreSegment (dt : Nat) (hitTaps : Nat) (hits : List (Nat × List Nat)) (firings : List (Nat × List (List (Nat × Nat)))) : Statement (.coreSegment dt hitTaps hits firings) :=
  fun _ _ h => nomatch h
theorem opticalSegment (dt : Nat) (events : List (Nat × List (Nat × Nat × Nat))) (light : List (Nat × Nat)) (widths : List (Nat × Int)) : Statement (.opticalSegment dt events light widths) :=
  fun _ _ h => nomatch h
theorem calibrationProcessing (dt : Nat) (norOk : Bool) : Statement (.calibrationProcessing dt norOk) :=
  fun _ _ h => nomatch h
theorem calibrationAbandon (dt : Nat) : Statement (.calibrationAbandon dt) := fun _ _ h => nomatch h
theorem datumEdgePair (dt : Nat) (edges : Nat × Nat) : Statement (.datumEdgePair dt edges) := fun _ _ h => nomatch h
theorem bearingPeriodStart (dt : Nat) : Statement (.bearingPeriodStart dt) := fun _ _ h => nomatch h
theorem ambientEvaluation (dt : Nat) (channel : Nat) : Statement (.ambientEvaluation dt channel) := one
theorem shotSlot (dt : Nat) : Statement (.shotSlot dt) := fun _ _ h => nomatch h
theorem rangeWindowEnd (dt : Nat) (channel : Nat) : Statement (.rangeWindowEnd dt channel) := one
theorem coincidenceEvent (dt : Nat) (channel : Nat) (fired : List (Nat × Nat)) (tap : Nat) : Statement (.coincidenceEvent dt channel fired tap) :=
  fun h => cons_of (of_decide_eq_true (both (both h).1).1) (cons_of (of_decide_eq_true (both h).2) (all_below 16 _ (both (both h).1).2))
theorem recoveryEnd (dt : Nat) (channel : Nat) : Statement (.recoveryEnd dt channel) := one
theorem nearZoneLine (dt : Nat) (channel : Nat) (fired : List (Nat × Nat)) : Statement (.nearZoneLine dt channel fired) :=
  fun h => cons_of (of_decide_eq_true (both h).1) (all_below 16 _ (both h).2)
theorem holdingRegisterFlush (dt : Nat) (channel : Nat) : Statement (.holdingRegisterFlush dt channel) := one
theorem markerApply (dt : Nat) (engine : Nat) : Statement (.markerApply dt engine) := one
theorem eventItem (dt : Nat) (reads : ItemReads) : Statement (.eventItem dt reads) := one
theorem dropItem (dt : Nat) (engine : Nat) : Statement (.dropItem dt engine) := one
theorem contextClose (dt : Nat) (engine : Nat) (reads : SliceReads) : Statement (.contextClose dt engine reads) := one
theorem closeCommand (dt : Nat) : Statement (.closeCommand dt) := fun _ _ h => nomatch h
theorem grantTimeout (dt : Nat) (engine : Nat) : Statement (.grantTimeout dt engine) := one
theorem engineFailure (dt : Nat) (engine : Nat) : Statement (.engineFailure dt engine) := one
theorem spareSubstitution (dt : Nat) : Statement (.spareSubstitution dt) := fun _ _ h => nomatch h
theorem contourStart (dt : Nat) (unit : Nat) (reads : PointReads) : Statement (.contourStart dt unit reads) := one
theorem contourRecord (dt : Nat) (unit : Nat) : Statement (.contourRecord dt unit) := one
theorem contourWatchdog (dt : Nat) (unit : Nat) : Statement (.contourWatchdog dt unit) := one
theorem pointPacketRelease (dt : Nat) (group : Nat) : Statement (.pointPacketRelease dt group) := one
theorem sheetTrailer (dt : Nat) : Statement (.sheetTrailer dt) := fun _ _ h => nomatch h
theorem safeStopTrailer (dt : Nat) : Statement (.safeStopTrailer dt) := fun _ _ h => nomatch h
theorem dumpCopy (dt : Nat) : Statement (.dumpCopy dt) := fun _ _ h => nomatch h
theorem packetTransmit (dt : Nat) : Statement (.packetTransmit dt) := fun _ _ h => nomatch h
theorem alignmentMarker (dt : Nat) : Statement (.alignmentMarker dt) := fun _ _ h => nomatch h
theorem downstreamSleep (dt : Nat) : Statement (.downstreamSleep dt) := fun _ _ h => nomatch h
theorem upstreamStage (dt : Nat) (seen : StageInput) : Statement (.upstreamStage dt seen) := fun _ _ h => nomatch h
theorem upstreamStageTimeout (dt : Nat) : Statement (.upstreamStageTimeout dt) := fun _ _ h => nomatch h
theorem symbolLockLoss (run : CodeRun) : Statement (.symbolLockLoss run) := fun _ _ h => nomatch h
theorem lossOfSignal (seen : SignalDetect) : Statement (.lossOfSignal seen) := fun _ _ h => nomatch h
theorem uts (dt : Nat) (st : Byte) : Statement (.uts dt st) := fun _ _ h => nomatch h
theorem trainingTimeout (dt : Nat) : Statement (.trainingTimeout dt) := fun _ _ h => nomatch h
theorem widthRise (dt : Nat) : Statement (.widthRise dt) := fun _ _ h => nomatch h
theorem linkDown (dt : Nat) : Statement (.linkDown dt) := fun _ _ h => nomatch h
theorem upstreamSleep (dt : Nat) (slpSets : Nat) : Statement (.upstreamSleep dt slpSets) := fun _ _ h => nomatch h
theorem laneTestStart (dt : Nat) : Statement (.laneTestStart dt) := fun _ _ h => nomatch h
theorem laneTestEnd (dt : Nat) (errors : List (Nat × Nat)) : Statement (.laneTestEnd dt errors) :=
  fun h => all_below 5 _ h
theorem timeSync (dt : Nat) (codes : List Nat) (rd : Bool) : Statement (.timeSync dt codes rd) := fun _ _ h => nomatch h
theorem syncStale (dt : Nat) : Statement (.syncStale dt) := fun _ _ h => nomatch h
theorem modeRequest (dt : Nat) (codes : List Nat) (rd : Bool) : Statement (.modeRequest dt codes rd) :=
  fun _ _ h => nomatch h
theorem statusQuery (dt : Nat) (codes : List Nat) (rd : Bool) : Statement (.statusQuery dt codes rd) :=
  fun _ _ h => nomatch h
theorem hostHello (dt : Nat) (codes : List Nat) (rd : Bool) : Statement (.hostHello dt codes rd) :=
  fun _ _ h => nomatch h
theorem hostFinish (dt : Nat) (codes : List Nat) (rd : Bool) : Statement (.hostFinish dt codes rd) :=
  fun _ _ h => nomatch h
theorem hostFinishTimeout (dt : Nat) : Statement (.hostFinishTimeout dt) := fun _ _ h => nomatch h
theorem hostClose (dt : Nat) (codes : List Nat) (rd : Bool) : Statement (.hostClose dt codes rd) :=
  fun _ _ h => nomatch h
theorem listIncidents (dt : Nat) (codes : List Nat) (rd : Bool) : Statement (.listIncidents dt codes rd) :=
  fun _ _ h => nomatch h
theorem readRecord (dt : Nat) (codes : List Nat) (rd : Bool) : Statement (.readRecord dt codes rd) :=
  fun _ _ h => nomatch h
theorem releaseIncident (dt : Nat) (codes : List Nat) (rd : Bool) : Statement (.releaseIncident dt codes rd) :=
  fun _ _ h => nomatch h
theorem mark (dt : Nat) (codes : List Nat) (rd : Bool) : Statement (.mark dt codes rd) := fun _ _ h => nomatch h
theorem abortRead (dt : Nat) (codes : List Nat) (rd : Bool) : Statement (.abortRead dt codes rd) :=
  fun _ _ h => nomatch h
theorem safetyMessage (dt : Nat) (codes : List Nat) (rd : Bool) : Statement (.safetyMessage dt codes rd) :=
  fun _ _ h => nomatch h
theorem connectionExpiry (dt : Nat) (side : Side) : Statement (.connectionExpiry dt side) := fun _ _ h => nomatch h
theorem safetyExchange (dt : Nat) (crcOkA : Bool) (crcOkB : Bool) (intervalA : Nat) (intervalB : Nat) : Statement (.safetyExchange dt crcOkA crcOkB intervalA intervalB) :=
  fun _ _ h => nomatch h
theorem exchangeTimeout (dt : Nat) (side : Side) : Statement (.exchangeTimeout dt side) := fun _ _ h => nomatch h
theorem noticeLine (dt : Nat) (side : Side) : Statement (.noticeLine dt side) := fun _ _ h => nomatch h
theorem safetyHallEdge (dt : Nat) (side : Side) (code : BitVec 3) : Statement (.safetyHallEdge dt side code) :=
  fun _ _ h => nomatch h
theorem speedWindowTimeout (dt : Nat) (side : Side) : Statement (.speedWindowTimeout dt side) := fun _ _ h => nomatch h
theorem bnMarker (dt : Nat) (side : Side) : Statement (.bnMarker dt side) := fun _ _ h => nomatch h
theorem firePadPulse (dt : Nat) (side : Side) (bank : Nat) (width : Nat) : Statement (.firePadPulse dt side bank width) :=
  one
theorem gateTest (dt : Nat) (seenA : List (Bool × Bool × Bool)) (seenB : List (Bool × Bool × Bool)) : Statement (.gateTest dt seenA seenB) :=
  fun h => cons_of (exact_length (both h).1) (cons_of (exact_length (both h).2) nofun)
theorem torqueRemoval (dt : Nat) (side : Side) : Statement (.torqueRemoval dt side) := fun _ _ h => nomatch h
theorem standstill (dt : Nat) (side : Side) : Statement (.standstill dt side) := fun _ _ h => nomatch h
theorem sinSample (dt : Nat) (side : Side) (a0 : Bool) (b0 : Bool) (a1 : Bool) (b1 : Bool) : Statement (.sinSample dt side a0 b0 a1 b1) :=
  fun _ _ h => nomatch h
theorem discrepancyTimeout (dt : Nat) (side : Side) (input : Nat) : Statement (.discrepancyTimeout dt side input) := one
theorem soutReadback (dt : Nat) (side : Side) (level : Bool) : Statement (.soutReadback dt side level) :=
  fun _ _ h => nomatch h
theorem soutTestPulse (dt : Nat) (side : Side) : Statement (.soutTestPulse dt side) := fun _ _ h => nomatch h
theorem soutTestSample (dt : Nat) (side : Side) (level : Bool) : Statement (.soutTestSample dt side level) :=
  fun _ _ h => nomatch h
theorem safetySensorRead (dt : Nat) (side : Side) (reading : Option Int) : Statement (.safetySensorRead dt side reading) :=
  fun _ _ h => nomatch h
theorem sensorReading (dt : Nat) (readings : List (Option Int)) : Statement (.sensorReading dt readings) :=
  fun h => cons_of (exact_length h) nofun
theorem biasOvervoltage (dt : Nat) : Statement (.biasOvervoltage dt) := fun _ _ h => nomatch h
theorem biasReadback (dt : Nat) : Statement (.biasReadback dt) := fun _ _ h => nomatch h
theorem auxConversionDone (dt : Nat) (vin : Int) (vref : Nat) (overvoltage : Bool) : Statement (.auxConversionDone dt vin vref overvoltage) :=
  fun _ _ h => nomatch h
theorem urgentRequest (dt : Nat) (supply : Bool) : Statement (.urgentRequest dt supply) := fun _ _ h => nomatch h
theorem neardistValueReady (dt : Nat) : Statement (.neardistValueReady dt) := fun _ _ h => nomatch h
theorem neardistPeriod (dt : Nat) : Statement (.neardistPeriod dt) := fun _ _ h => nomatch h
theorem neardistNoDataTimeout (dt : Nat) : Statement (.neardistNoDataTimeout dt) := fun _ _ h => nomatch h
theorem referenceLoss (dt : Nat) : Statement (.referenceLoss dt) := fun _ _ h => nomatch h
theorem referenceReturn (dt : Nat) (edges : Nat) (ppm : Int) : Statement (.referenceReturn dt edges ppm) :=
  fun _ _ h => nomatch h
theorem lossOfLock (seen : LockMonitor) : Statement (.lossOfLock seen) := fun _ _ h => nomatch h
theorem outputsReturn (dt : Nat) : Statement (.outputsReturn dt) := fun _ _ h => nomatch h
theorem linkPllHoldExpiry (dt : Nat) : Statement (.linkPllHoldExpiry dt) := fun _ _ h => nomatch h
theorem localCounterWrap : Statement .localCounterWrap := fun _ _ h => nomatch h
theorem syncInEdge (dt : Nat) (rising : Bool) : Statement (.syncInEdge dt rising) := fun _ _ h => nomatch h
theorem dipBegin (dt : Nat) (fall : RailFall) : Statement (.dipBegin dt fall) := fun h => cons_of (exact_length h) nofun
theorem dipEnd (dt : Nat) : Statement (.dipEnd dt) := fun _ _ h => nomatch h
theorem dipHoldRelease (dt : Nat) : Statement (.dipHoldRelease dt) := fun _ _ h => nomatch h
theorem resetLevelFall (dt : Nat) (fall : RailFall) : Statement (.resetLevelFall dt fall) :=
  fun h => cons_of (exact_length h) nofun
theorem processorWatchdog (dt : Nat) : Statement (.processorWatchdog dt) := fun _ _ h => nomatch h
theorem crashTrigger (dt : Nat) (high : Nat) (low : Nat) : Statement (.crashTrigger dt high low) :=
  fun _ _ h => nomatch h
theorem incidentTrigger (dt : Nat) : Statement (.incidentTrigger dt) := fun _ _ h => nomatch h
theorem commitPhase1 (run : PageRun) : Statement (.commitPhase1 run) := fun _ _ h => nomatch h
theorem postTriggerEnd (dt : Nat) : Statement (.postTriggerEnd dt) := fun _ _ h => nomatch h
theorem commitPhase2 (run : PageRun) : Statement (.commitPhase2 run) := fun _ _ h => nomatch h
theorem bodyBlockForm (dt : Nat) : Statement (.bodyBlockForm dt) := fun _ _ h => nomatch h
theorem segmentClose (run : PageRun) : Statement (.segmentClose run) := fun _ _ h => nomatch h
theorem nandProgramDone (dt : Nat) (ok : Bool) (bitErrors : List Nat) : Statement (.nandProgramDone dt ok bitErrors) :=
  fun _ _ h => nomatch h
theorem nandEraseDone (dt : Nat) (ended : EraseResult) : Statement (.nandEraseDone dt ended) := fun _ _ h => nomatch h
theorem nandReadDone (dt : Nat) (bitErrors : List Nat) : Statement (.nandReadDone dt bitErrors) :=
  fun _ _ h => nomatch h
theorem scrub (dt : Nat) (readBack : List Nat) : Statement (.scrub dt readBack) := fun _ _ h => nomatch h
theorem poweredHour (dt : Nat) : Statement (.poweredHour dt) := fun _ _ h => nomatch h
theorem descriptorComplete (dt : Nat) (channel : Nat) : Statement (.descriptorComplete dt channel) := one
theorem channelHalt (dt : Nat) (channel : Nat) (info : HaltInfo) : Statement (.channelHalt dt channel info) := one
theorem eventLogWrite (dt : Nat) : Statement (.eventLogWrite dt) := fun _ _ h => nomatch h
theorem statusPageAdvance (dt : Nat) : Statement (.statusPageAdvance dt) := fun _ _ h => nomatch h
theorem bypass (dt : Nat) : Statement (.bypass dt) := fun _ _ h => nomatch h
theorem idcode (dt : Nat) : Statement (.idcode dt) := fun _ _ h => nomatch h
theorem samplePreload (dt : Nat) (scan : BoundaryScan) : Statement (.samplePreload dt scan) :=
  fun h => cons_of (exact_length (both h).1) (cons_of (exact_length (both h).2) nofun)
theorem extest (dt : Nat) (scan : BoundaryScan) : Statement (.extest dt scan) :=
  fun h => cons_of (exact_length (both h).1) (cons_of (exact_length (both h).2) nofun)
theorem jtagStatusRead (dt : Nat) (addr : Nat) (words : Nat) : Statement (.jtagStatusRead dt addr words) :=
  fun h => cons_of (of_decide_eq_true h).1 (cons_of (Nat.lt_succ_of_le (of_decide_eq_true h).2.2) nofun)
theorem speedBelowWindow (dt : Nat) (side : Side) : Statement (.speedBelowWindow dt side) := fun _ _ h => nomatch h
theorem bnMarkerMissing (dt : Nat) (side : Side) : Statement (.bnMarkerMissing dt side) := fun _ _ h => nomatch h
theorem safetySelfTestFailure (dt : Nat) (side : Side) : Statement (.safetySelfTestFailure dt side) :=
  fun _ _ h => nomatch h
theorem soutTestPulseEnd (dt : Nat) (side : Side) : Statement (.soutTestPulseEnd dt side) := fun _ _ h => nomatch h
theorem checkerSync (dt : Nat) (seen : LaneBits) : Statement (.checkerSync dt seen) := one
theorem checkerSyncLoss (dt : Nat) (lane : Nat) (errors : Nat) (wrong : List Nat) : Statement (.checkerSyncLoss dt lane errors wrong) :=
  one
theorem upstreamPacketDiscard (dt : Nat) (codes : List Nat) (rd : Bool) : Statement (.upstreamPacketDiscard dt codes rd) :=
  fun _ _ h => nomatch h
theorem nandResponseTimeout (dt : Nat) : Statement (.nandResponseTimeout dt) := fun _ _ h => nomatch h
theorem norPageProgramDone (dt : Nat) (ok : Bool) : Statement (.norPageProgramDone dt ok) := fun _ _ h => nomatch h
theorem norSectorEraseDone (dt : Nat) (ok : Bool) : Statement (.norSectorEraseDone dt ok) := fun _ _ h => nomatch h
theorem supplyReturnLevel (rise : RailRise) : Statement (.supplyReturnLevel rise) :=
  fun h => cons_of (exact_length h) nofun

end Sys2Proof.Laws.Units
end

