-- ==== Sys2Proof/Laws/Receive.lean ====
section
/-! SUPPORT. What the checks of the receiver may change, and a command on an accepted packet. -/

namespace Sys2Proof.Machine

open Sys2Proof

theorem discardUp_eq (type : Nat) (s : State) : discardUp type s = { s with log := (discardUp type s).log } := by
  unfold discardUp
  split <;> rfl

/-- A tagged packet of an establishment is counted, twice over where it would have needed a session. -/
theorem duringTag_eq (c : Bool) (type : Nat) (s : State) :
    when_ c (discardUp type) (count .taggedDuring 1 s) =
      { s with log := (when_ c (discardUp type) (count .taggedDuring 1 s)).log } := by
  cases c
  · rfl
  · exact (discardUp_eq _ _).trans rfl

theorem checkTag_eq (l : List Byte) (s : State) :
    (checkTag l s).2 = { s with sec := (checkTag l s).2.sec, log := (checkTag l s).2.log } := by
  unfold checkTag
  simp only []
  repeat' split
  all_goals first | rfl | exact discardUp_eq _ _ | (rw [discardUp_eq]) | (rw [duringTag_eq])

/-- The receiver's checks change the link, the session's counter and the counters of discarded packets only. -/
theorem receive_eq (l : List Byte) (v : Bool) (s : State) :
    (receive l v s).2 = { s with
      link := (receive l v s).2.link, sec := (receive l v s).2.sec, log := (receive l v s).2.log } := by
  unfold receive
  split
  · rfl
  · split
    · exact (discardUp_eq _ _).trans (by rw [discardUp_eq])
    · split
      · rfl
      · simp only []
        split
        · rename_i u hu
          have h := checkTag_eq l { takeToken s with link := { (takeToken s).link with seqUp := rxSeq l } }
          rw [hu] at h
          simp only at h
          rw [h]
          rfl
        · rename_i u hu
          have h := checkTag_eq l { takeToken s with link := { (takeToken s).link with seqUp := rxSeq l } }
          rw [hu] at h
          simp only at h
          rw [h]
          rfl

/-- A command on a packet that the checks accept acts on its body. -/
theorem onPacket_accepted {type : Nat} {codes : List Nat} {rd : Bool} {body : List Byte} {f : List Byte → State → State} {s u : State}
    (ht : rxType (rxBytes s codes rd) = type)
    (h : receive (rxBytes s codes rd) (rxViol s codes rd) s = (some { type := type, body := body }, u)) :
    onPacket type codes rd f s = f body u := by
  simp [onPacket, ht, h]

end Sys2Proof.Machine
end

