-- ==== Sys2Proof/Laws/Shared.lean ====
section
/-! SUPPORT. What the shared operations do, said once. -/

namespace Sys2Proof.Machine

open Sys2Proof

/-- Stopping fire counts nothing. -/
@[simp] theorem counterOf_stopFiring (e : Counter) (c : Nat) (b : Bool) (s : State) :
    counterOf (stopFiring c b s) e = counterOf s e := rfl

/-- Firing is stopped, and the first cause is kept. -/
theorem stopFiring_seq (c : Nat) (b : Bool) (s : State) :
    (stopFiring c b s).seq = { s.seq with stop := stopDue c b s.seq, stopped := true } := rfl

/-- After an abandonment no run is in progress. -/
@[simp] theorem abandonRun_run (r : Nat) (s : State) : (abandonRun r s).calib.run = none := by
  unfold abandonRun
  split
  · assumption
  · simp

/-- An abandonment counts nothing but itself and an overwritten log entry. -/
theorem counterOf_abandonRun (e : Counter) (r : Nat) (s : State) (h : counterKey e ≠ counterKey .runsAbandoned)
    (h2 : counterKey e ≠ counterKey .logOverwrites) : counterOf (abandonRun r s) e = counterOf s e := by
  unfold abandonRun
  split
  · rfl
  · rw [counterOf_count_ne _ _ _ _ h, counterOf_logEvent _ _ _ _ _ _ h2]; rfl

/-- A fully raised trigger waits with its cause and its instant once the image is accepted. -/
theorem raiseTrigger_triggers (c : Nat) (s : State) (h : s.image.accepted = true) :
    (raiseTrigger c s).recd.triggers = s.recd.triggers ++ [(c, s.now, s.grat.localTime, vehicleNow s)] := by
  simp [raiseTrigger, h]

/-- Triggers count nothing until the recorder acts on them. -/
@[simp] theorem counterOf_raiseTrigger (e : Counter) (c : Nat) (s : State) :
    counterOf (raiseTrigger c s) e = counterOf s e := by
  unfold raiseTrigger; split <;> rfl

/-- An urgent request counts nothing but its refusal. -/
theorem counterOf_urgentAdd (e : Counter) (b : Bool) (s : State) (h : counterKey e ≠ counterKey .urgentRefused) :
    counterOf (urgentAdd b s) e = counterOf s e := by
  unfold urgentAdd
  split
  · rfl
  · split
    · exact counterOf_count_ne _ _ _ _ h
    · rfl

/-- A pending packet counts nothing. -/
@[simp] theorem counterOf_due2 (e : Counter) (p : Pkt) (s : State) : counterOf (due2 p s) e = counterOf s e := by
  unfold due2; split <;> rfl
@[simp] theorem counterOf_due3 (e : Counter) (p : Pkt) (s : State) : counterOf (due3 p s) e = counterOf s e := by
  unfold due3; split <;> rfl

/-- Watching the safety status changes what the effect changes, and the log and the pending message besides. -/
theorem watchSafety_eq (f : State → State) (s : State) :
    watchSafety f s = f s ∨
    watchSafety f s = logEvent 2 1 0 (safetyWord (f s)) { f s with safety := { (f s).safety with msgDue := true } } := by
  unfold watchSafety
  simp only
  split
  · exact .inl rfl
  · exact .inr rfl

end Sys2Proof.Machine
end

