-- ==== Sys2Proof/Laws/Symbols.lean ====
section
/-! SUPPORT. The 8b/10b code reads back what it writes, and a packet on one lane reads back as its bytes. -/

namespace Sys2Proof.Machine

open Sys2Proof

theorem decode_encode_all : ∀ rd : Bool, ∀ n : Fin 256,
    decodeSym rd (encodeSym rd (.d (BitVec.ofFin n))).1 = some (.d (BitVec.ofFin n)) := by decide +kernel

/-- A data byte reads back in the disparity it was written in. -/
theorem decode_encode_data (rd : Bool) (b : Byte) : decodeSym rd (encodeSym rd (.d b)).1 = some (.d b) :=
  decode_encode_all rd b.toFin

/-- So does every control symbol that Table 9.2 lists. -/
theorem decode_encode_control : ∀ rd : Bool, ∀ b ∈ listedControls,
    decodeSym rd (encodeSym rd (.k b)).1 = some (.k b) := by decide +kernel

/-- The data bytes of a packet, whatever follows them. -/
theorem rxRead_data (l : List Byte) (tail : List Sym) (pos : Nat) (rd : Bool) (hp : pos < 4) :
    ∃ rd', rxRead .body pos rd (encodeSyms rd (l.map Sym.d ++ tail)) =
      { rxRead .body ((pos + l.length) % 4) rd' (encodeSyms rd' tail) with
        data := l ++ (rxRead .body ((pos + l.length) % 4) rd' (encodeSyms rd' tail)).data } := by
  induction l generalizing pos rd with
  | nil => exact ⟨rd, by simp [Nat.mod_eq_of_lt hp]⟩
  | cons b l ih =>
    obtain ⟨rd', h⟩ := ih ((pos + 1) % 4) (encodeSym rd (.d b)).2 (Nat.mod_lt _ (by decide))
    refine ⟨rd', ?_⟩
    have e : ((pos + 1) % 4 + l.length) % 4 = (pos + (b :: l).length) % 4 := by simp only [List.length_cons]; omega
    have p : placeAfter .body pos (some (.d b)) = .body := by simp [placeAfter]
    rw [e] at h
    simp only [List.map_cons, List.cons_append, encodeSyms, rxRead, decode_encode_data, p, h]
    simp [rxNote]

/-- The end of a packet, filled to its word. -/
theorem rxRead_end : ∀ rd : Bool, ∀ pos : Fin 4,
    rxRead .body pos rd (encodeSyms rd (packetEnd :: List.replicate (3 - pos.val) padSym)) =
      ({ ended := 1 } : RxRun) := by decide +kernel

/-- One lane carries the bytes of a packet in order. -/
theorem laneBytes_one (l : List Byte) : laneBytes 1 0 l = l.map Sym.d := by
  apply List.ext_getElem?
  intro i
  by_cases h : i < l.length <;> simp [laneBytes, h]

theorem packetSyms_one (l : List Byte) :
    packetSyms 1 0 l = packetStart :: (l.map Sym.d ++ (packetEnd :: List.replicate (3 - (1 + l.length) % 4) padSym)) := by
  have e : (4 - (packetStart :: (l.map Sym.d ++ [packetEnd])).length % 4) % 4 = 3 - (1 + l.length) % 4 := by
    simp only [List.length_cons, List.length_append, List.length_map, List.length_nil]; omega
  simp only [packetSyms, fillWord, laneBytes_one, List.cons_append, e]
  simp

/-- A packet on one lane reads back as its bytes, with no violation and one end. -/
theorem rxWords_packet (rd : Bool) (l : List Byte) :
    rxWords rd (encodeSyms rd (packetSyms 1 0 l)) = { data := l, ended := 1 } := by
  obtain ⟨rd', h⟩ := rxRead_data l (packetEnd :: List.replicate (3 - (1 + l.length) % 4) padSym) 1
    (encodeSym rd packetStart).2 (by decide)
  have e := rxRead_end rd' ⟨(1 + l.length) % 4, Nat.mod_lt _ (by decide)⟩
  rw [rxWords, packetSyms_one]
  simp only [encodeSyms, rxRead]
  have d : ∀ v, decodeSym v (encodeSym v packetStart).1 = some packetStart := by decide +kernel
  have p : placeAfter .between 0 (some packetStart) = .body := by decide +kernel
  simp only [d, p]
  rw [show (0 + 1) % 4 = 1 from rfl, h, e]
  simp [rxNote, packetStart, belongs, b2n]

/-- What the receiver makes of a packet sent on an upright pair. -/
theorem rx_packet (rd : Bool) (l : List Byte) (s : State) (h : s.link.inverted = false) :
    rxBytes s (encodeSyms rd (packetSyms 1 0 l)) rd = l ∧ rxViol s (encodeSyms rd (packetSyms 1 0 l)) rd = false := by
  have d : ∀ v, decodeSym v (encodeSym v packetStart).1 = some packetStart := by decide +kernel
  have w : decodeSym rd ((encodeSyms rd (packetSyms 1 0 l)).headD 0) = some packetStart := by
    rw [packetSyms_one]
    exact d rd
  constructor
  · simp [rxBytes, rxCodes, h, rxWords_packet]
  · simpa [rxViol, wholePacket, rxCodes, h, rxWords_packet] using w

end Sys2Proof.Machine
end

