-- ==== Sys2Proof/Tests/Slice0.lean ====
section
/-! SUPPORT. Own tests: ill-formed commands are refused; worked examples of the spec; and `w_…`: for the statement of that
name with hypotheses, a state and operands that meet them, clause by clause. -/

namespace Sys2Proof.Tests

open Sys2Proof Sys2Proof.Machine Sys2Proof.Safety

set_option maxRecDepth 20000
set_option Elab.async false

/-! ## States -/

def r0 : State := State.reset

/-- In Start, before an image is judged. -/
def inStart : State := { r0 with phase := .start }

/-- In a mode with its sheet open, in the facet gap. -/
def inMode (m : Nat) : State := { r0 with phase := .mode, seq := { r0.seq with mode := m, sheetOpen := true } }

/-- In spin-up. -/
def spinning : State := { r0 with phase := .spinUp }

def a0 : SafeCh := {}

/-- Safety channel A replaced. -/
def withA (c : SafeCh) (s : State) : State := setSide .a c s

/-- The link trained, a receiver at stage 8 with tokens. -/
def linkUp (s : State) : State := { s with link := { s.link with stage := 8, downDeclared := false, tokens := 8 } }

/-! ## Ill-formed commands -/

theorem test_ranges_lock : Instr.wellFormed (.lockDeclared 0 ⟨[true], 0⟩ ⟨0, []⟩) = false ∧
    Instr.wellFormed (.lockDeclared 0 ⟨List.replicate 5 true, 65536⟩ ⟨0, []⟩) = false ∧
    Instr.wellFormed (.lockDeclared 0 ⟨List.replicate 5 true, 0⟩ ⟨65536, []⟩) = false ∧
    Instr.wellFormed (.lockDeclared 0 ⟨List.replicate 5 true, 65535⟩ ⟨65535, []⟩) = true := by
  decide +kernel

theorem test_ranges_slot : Instr.wellFormed (.diagnosticSlot 0 32 [] [] (List.replicate 48 []) none) = false ∧
    Instr.wellFormed (.diagnosticSlot 0 31 [] [] (List.replicate 47 []) none) = false ∧
    Instr.wellFormed (.diagnosticSlot 0 31 [] [] (List.replicate 48 [(16, 0)]) none) = false ∧
    Instr.wellFormed (.diagnosticSlot 0 31 [] [] (List.replicate 48 [(15, 0)]) none) = true := by decide +kernel

theorem test_ranges_engine : Instr.wellFormed (.engineSelfTest 0 68 true true) = false ∧
    Instr.wellFormed (.markerApply 0 68) = false ∧ Instr.wellFormed (.eventItem 0 ⟨68, 0⟩) = false ∧
    Instr.wellFormed (.dropItem 0 68) = false ∧ Instr.wellFormed (.contextClose 0 68 ⟨false, 0⟩) = false ∧
    Instr.wellFormed (.grantTimeout 0 68) = false ∧ Instr.wellFormed (.engineFailure 0 68) = false ∧
    Instr.wellFormed (.engineFailure 0 67) = true := by decide +kernel

theorem test_ranges_contour : Instr.wellFormed (.contourSelfTest 0 16 true true) = false ∧
    Instr.wellFormed (.contourStart 0 16 ⟨none, 0⟩) = false ∧ Instr.wellFormed (.contourRecord 0 16) = false ∧
    Instr.wellFormed (.contourWatchdog 0 16) = false ∧ Instr.wellFormed (.contourRecord 0 15) = true := by decide +kernel

theorem test_ranges_channel : Instr.wellFormed (.ambientEvaluation 0 1536) = false ∧
    Instr.wellFormed (.rangeWindowEnd 0 1536) = false ∧ Instr.wellFormed (.coincidenceEvent 0 1536 [] 0) = false ∧
    Instr.wellFormed (.coincidenceEvent 0 0 [(16, 0)] 0) = false ∧ Instr.wellFormed (.coincidenceEvent 0 0 [] 20) = false ∧
    Instr.wellFormed (.recoveryEnd 0 1536) = false ∧ Instr.wellFormed (.nearZoneLine 0 1536 []) = false ∧
    Instr.wellFormed (.nearZoneLine 0 0 [(16, 0)]) = false ∧ Instr.wellFormed (.holdingRegisterFlush 0 1536) = false ∧
    Instr.wellFormed (.coincidenceEvent 0 1535 [(15, 0)] 19) = true := by decide +kernel

theorem test_ranges_link : Instr.wellFormed (.pointPacketRelease 0 64) = false ∧
    Instr.wellFormed (.laneTestEnd 0 [(5, 0)]) = false ∧ Instr.wellFormed (.checkerSync 0 ⟨5, []⟩) = false ∧
    Instr.wellFormed (.checkerSyncLoss 0 5 0 []) = false ∧ Instr.wellFormed (.laneTestEnd 0 [(4, 0)]) = true := by
  decide +kernel

theorem test_ranges_safety : Instr.wellFormed (.firePadPulse 0 .a 32 0) = false ∧
    Instr.wellFormed (.gateTest 0 [] (List.replicate 32 (true, true, true))) = false ∧
    Instr.wellFormed (.gateTest 0 (List.replicate 32 (true, true, true)) []) = false ∧
    Instr.wellFormed (.discrepancyTimeout 0 .a 2) = false ∧ Instr.wellFormed (.discrepancyTimeout 0 .a 1) = true := by
  decide +kernel

theorem test_ranges_rest : Instr.wellFormed (.sensorReading 0 []) = false ∧
    Instr.wellFormed (.dipBegin 0 ⟨List.replicate 5 0, 0⟩) = false ∧ Instr.wellFormed (.dipBegin 0 ⟨List.replicate 6 0, 0⟩) = true ∧
    Instr.wellFormed (.resetLevelFall 0 ⟨[], 0⟩) = false ∧ Instr.wellFormed (.supplyReturnLevel ⟨0, List.replicate 7 0⟩) = false ∧
    Instr.wellFormed (.extest 0 ⟨List.replicate 131 true, []⟩) = false ∧
    Instr.wellFormed (.samplePreload 0 ⟨List.replicate 131 true, List.replicate 131 true⟩) = true ∧
    Instr.wellFormed (.descriptorComplete 0 16) = false ∧
    Instr.wellFormed (.channelHalt 0 16 ⟨false, false, 0, false⟩) = false ∧
    Instr.wellFormed (.jtagStatusRead 0 1024 1) = false ∧ Instr.wellFormed (.jtagStatusRead 0 0 0) = false ∧
    Instr.wellFormed (.jtagStatusRead 0 0 65) = false ∧ Instr.wellFormed (.jtagStatusRead 0 1023 64) = true := by
  decide +kernel

/-- Every boundary cell has a ball of its own (R453). -/
theorem test_boundary_cells : boundaryBalls.length = 131 ∧ boundaryBalls.Nodup := by decide +kernel

/-- An ill-formed command stops by name. -/
theorem test_ill_formed_stops : exec (.contourRecord 0 16) inStart = .fault .noSuchUnit := by rfl


/-! ## Queue, reset, clock -/

theorem w_StepRunsFront : { r0 with pending := [.imageAccept 5] }.pending = [.imageAccept 5] ∧ r0.pending = [] := by
  decide +kernel

theorem w_WellFormedCommandsComplete : Instr.wellFormed (.pointPacketRelease 0 63) = true ∧
    Instr.wellFormed (.pointPacketRelease 0 64) = false := by decide +kernel

theorem w_QueueKeptTimeForward : exec (.imageAccept 7) inStart = .next (advance 7 inStart) := by rfl

theorem w_EveryStepKeepsInv : ClockInRange r0 ∧ norWf r0.nor.mem = true ∧
    step { r0 with pending := [.imageAccept 7] } = .next (advance 7 r0) := by
  refine ⟨by unfold ClockInRange; decide +kernel, by decide +kernel, by rfl⟩

theorem w_FusesNeverClear : step { r0 with pending := [.dumpCopy 7] } = .next (advance 7 r0) := by rfl

/-- Rails at their nominal voltages but for rail `r`, at `v` uV. -/
def railsWith (r v : Nat) : List Nat := (railTable.map (·.1)).set r v

theorem w_ResetKeepsOnlyWhatPersists : us 2 + ns 200 ≤ 70400 ∧ 63999 < us 2 ∧ inStart.phase ≠ .reset ∧
    (∀ x ∈ [(0, 399999), (0, 400000), (5, 0)], (railsWith x.1 x.2).length = 6 ∧ RailBelow 2 x.1 (railsWith x.1 x.2)) ∧
    ns 50 ≤ (RailFall.mk (railsWith 5 0) (ns 50)).lasts := by
  unfold RailBelow
  decide +kernel

theorem w_ReferenceIsSoughtAtRelease :
    (r0.supply.por = true ∧ r0.supply.returning = none) ∧
    (let s := { r0 with supply := { r0.supply with returning := some 0 } }
     s.supply.por = true ∧ s.supply.returning = some 0 ∧ 0 + ms 1 ≤ s.now + ms 1) ∧
    (let s := { r0 with supply := { r0.supply with por := false } }
     s.phase = .reset ∧ s.supply.por = false ∧ s.supply.jtagHold = false) ∧
    ¬(inStart.phase = .reset ∧ inStart.supply.por = false ∧ inStart.supply.jtagHold = false) ∧
    (let s := { inStart with grat := { r0.grat with crystalWait := true } }
     s.grat.crystalWait = true ∧ s.grat.detectAt + ms 2 ≤ s.now + ms 2) ∧
    (let s := { inStart with grat := { r0.grat with st := .noReference } }
     s.phase ≠ .reset ∧ s.grat.st = .noReference ∧ s.grat.crystalWait = false ∧ s.grat.detectAt + ms 100 ≤ s.now + ms 100) ∧
    r0.now + 0 < r0.grat.detectAt + ms 2 := by decide +kernel

/-- Locked, having locked before, with the outputs running. -/
def locked : State :=
  { inStart with grat := { r0.grat with st := .locked, everLocked := true, outputs := true, startOsc := false } }
/-- Relocking. -/
def relocking : State := { inStart with grat := { r0.grat with st := .relocking, everLocked := true } }

theorem w_LockAndLossOfLock :
    (256 ≤ (List.replicate 256 (200 : Int)).length ∧ ∀ e ∈ (List.replicate 256 (-200 : Int)).take 256, e.natAbs ≤ 200) ∧
    ¬(256 ≤ (List.replicate 256 (201 : Int)).length ∧ ∀ e ∈ (List.replicate 256 (201 : Int)).take 256, e.natAbs ≤ 200) ∧
    (4 ≤ [1001, 1001, 1001, (-1001 : Int)].length ∧ ∀ e ∈ [1001, 1001, 1001, (-1001 : Int)].take 4, 1000 < e.natAbs) ∧
    (500 < (-501 : Int).natAbs ∧ 200 < (201 : Int).natAbs ∧ ¬500 < (500 : Int).natAbs ∧ ¬200 < (200 : Int).natAbs) ∧
    ([true, true, true, true, true].length = 5 ∧ 65535 < 65536 ∧ inStart.grat.st = .searching ∧ inStart.phase ≠ .reset ∧
      inStart.grat.crystalWait = false ∧ inStart.grat.everLocked = false) ∧
    (locked.grat.st = .locked ∧ locked.grat.pulling = false ∧ (500 : Int).natAbs ≤ 500 ∧ (200 : Int).natAbs ≤ 200) ∧
    (relocking.grat.st = .relocking ∧ relocking.grat.pulling = false ∧ relocking.grat.lockedAt = none) ∧
    (let s := { relocking with grat := { relocking.grat with pulling := true } }
     s.grat.st = .relocking ∧ s.grat.pulling = true) ∧
    (∀ restart, let s := { relocking with grat := { relocking.grat with lockedAt := some 0 }
                                          link := { relocking.link with restart := restart } }
      s.grat.st = .relocking ∧ s.grat.lockedAt = some 0 ∧ 0 + ms 1 ≤ s.now + ms 1 ∧ s.link.restart = restart) ∧
    (let s := { relocking with grat := { relocking.grat with pllHold := some 0 } }
     s.grat.st = .relocking ∧ s.grat.pllHold = some 0 ∧ 0 + ms 2 ≤ s.now + ms 2) := by
  refine ⟨by decide +kernel, by decide +kernel, by decide +kernel, by decide +kernel, by decide +kernel, by decide +kernel,
    by decide +kernel, by decide +kernel, ?_, by decide +kernel⟩
  intro restart
  cases restart <;> decide +kernel

theorem w_ReferenceLossAndReturn :
    let s := { inStart with grat := { r0.grat with st := .coasting, freq := 1 } }
    locked.grat.st = .locked ∧ s.grat.st = .coasting ∧ classifyEdges 224 ≠ some s.grat.freq ∧
      classifyEdges 225 = some s.grat.freq ∧ classifyEdges 275 = some s.grat.freq ∧ (-500 : Int) ≤ -500 ∧
      (500 : Int) ≤ 500 ∧ (501 : Int) > 500 := by decide +kernel

/-- A fall of rail `r` below its warning level, the others staying above theirs. -/
def falling (r lasts : Nat) : RailFall := ⟨railsWith r ((railTable.getD r (0, [])).2.getD 0 0 - railError r - 1), lasts⟩

theorem w_SupplyDips :
    (∀ r ∈ [0, 5], (falling r (ns 50)).levels.length = 6 ∧ ns 50 ≤ (falling r (ns 50)).lasts ∧
      RailBelow 0 r (falling r (ns 50)).levels ∧ (∀ q, q < 6 → RailAbove 2 q (falling r (ns 50)).levels) ∧
      ∀ q, q < r → RailAbove 0 q (falling r (ns 50)).levels) ∧
    (falling 0 (ns 50 - 1)).lasts < ns 50 ∧
    (inStart.phase ≠ .reset ∧ inStart.supply.dip = false) ∧
    (let s := { inStart with supply := { inStart.supply with dip := true } }
     s.phase ≠ .reset ∧ s.supply.dip = true ∧ s.supply.returning = none) ∧
    ((railTable.map (·.1)).length = 6 ∧ (∀ r, r < 6 → RailAbove 1 r (railTable.map (·.1))) ∧ r0.supply.por = true ∧
      r0.supply.returning = none) ∧
    (let s := { inStart with supply := { inStart.supply with dip := true, returning := some 0 } }
     s.supply.dip = true ∧ s.supply.returning = some 0 ∧ 0 + ms 1 ≤ s.now + ms 1) ∧
    (let s := { inMode 5 with seq := { (inMode 5).seq with dipHold := true } }
     s.seq.dipHold = true ∧ s.supply.dip = false ∧ s.supply.lastDipEnd + sec 10 ≤ s.now + sec 10) := by
  unfold RailBelow RailAbove
  decide +kernel

/-! ## Packets -/

/-- The codes of an untagged packet as the upstream lane carries it: K27.7, the bytes, K29.7, filled to a word. -/
def upPkt (type : Nat) (body : List Byte) : List Nat :=
  encodeSyms false (packetSyms 1 0 (withCrc (header type body.length 1 false ++ body)))

/-- What a packet that the checks accept leaves. -/
def afterRx (codes : List Nat) (s : State) : State :=
  (receive (rxBytes (advance 0 s) codes false) (rxViol (advance 0 s) codes false) (advance 0 s)).2

theorem received {type : Nat} {codes : List Nat} {body : List Byte} {s : State}
    (ht : rxType (rxBytes (advance 0 s) codes false) = type)
    (h : (receive (rxBytes (advance 0 s) codes false) (rxViol (advance 0 s) codes false) (advance 0 s)).1 =
      some { type := type, body := body }) :
    Received type codes false body (advance 0 s) (afterRx codes s) := ⟨ht, Prod.ext h rfl⟩

theorem w_VehicleTime_first : ∃ codes body u, Received 0x81 codes false body (advance 0 (linkUp locked)) u ∧
    (∀ p, u.grat.prevT1 = some p → p < leAt body 0 8) ∧ (u.grat.prevSample = none ∨ 1000000 < 0) := by
  refine ⟨upPkt 0x81 (zeros 16), zeros 16, _, received (by decide +kernel) (by decide +kernel), ?_, .inl ?_⟩
  · intro p hp
    rw [afterRx, receive_eq] at hp
    cases (show (none : Option Nat) = some p from hp)
  · rw [afterRx, receive_eq]
    decide +kernel

theorem w_VehicleTime_rest :
    (let s := { locked with grat := { locked.grat with sync := 1 } }
     s.grat.sync = 1 ∧ s.grat.lastSync + sec 10 ≤ s.now + sec 10) ∧
    (let s := { locked with grat := { locked.grat with localTime := 2 ^ 64 - 1, subTap := 19 } }
     s.grat.everLocked = true ∧ s.grat.startOsc = false ∧ s.grat.localTime < 2 ^ 64 ∧ s.grat.subTap < 20) ∧
    (let s := { locked with grat := { locked.grat with localTime := 2 ^ 64 - 1, startOsc := true, oscPhase := 79999999 } }
     s.grat.everLocked = true ∧ s.grat.startOsc = true ∧ s.grat.localTime < 2 ^ 64 ∧ s.grat.oscPhase < 80000000) := by
  decide +kernel

theorem w_VehicleTime_again : ∃ codes body u,
    Received 0x81 codes false body (advance 0 (linkUp { locked with grat := { locked.grat with prevT1 := some 0 } })) u ∧
    u.grat.prevT1 = some 0 ∧ leAt body 0 8 ≤ 0 := by
  refine ⟨upPkt 0x81 (zeros 16), zeros 16, _, received (by decide +kernel) (by decide +kernel), ?_, by decide +kernel⟩
  rw [afterRx, receive_eq]
  decide +kernel

theorem w_VehicleTime_slewed : ∃ codes body u,
    Received 0x81 codes false body (advance 0 (linkUp { inStart with grat := { r0.grat with prevSample := some (0, 0) } })) u ∧
    u.grat.prevT1 = none ∧ u.grat.prevSample ≠ none ∧
    (((leAt body 0 8 + leAt body 12 4 : Nat) : Int) -
      vehicleAt u.grat (stampT2 (rxBytes (advance 0 (linkUp { inStart with grat := { r0.grat with prevSample := some (0, 0) } })) codes false).length u)).natAbs ≤ 1000000 := by
  refine ⟨upPkt 0x81 (zeros 16), zeros 16, _, received (by decide +kernel) (by decide +kernel), ?_⟩
  rw [afterRx, receive_eq]
  decide +kernel

/-! ## The bearing clock: its phase at an edge is a free value, so the instants below are found, not written -/

/-- The rotor turning: a Hall edge at 0, 10^8 taps after the one before. -/
def turning (s : State) : State :=
  { s with motor := { s.motor with lastEdge := some 0, interval := 100000000, settled := true } }

/-- B_n comes, however the free phase lies. -/
theorem boundary_comes (s : State) (h : s.motor.lastEdge = some 0) (hi : s.motor.interval = 100000000)
    (hp : s.legend.scan.poles / s.legend.scan.facets = 1) (hg : 0 < s.legend.scan.gap) (hb : s.seq.bn = 0)
    (hn : s.now = 0) :
    ∃ dt, boundaryReached (advance dt s) = true ∧ clockBn (advance dt s) = dt ∧ us 1 < dt := by
  have hT : clockFacet s = 600000000 := by simp [clockFacet, facetTime, hi, hp]
  obtain ⟨off, ho, hoff⟩ : ∃ off, off < 600000000 ∧
      toBoundary s s.motor.cycle s.motor.hall s.motor.interval % 600000000 = off := ⟨_, Nat.mod_lt _ (by decide), rfl⟩
  refine ⟨600000000 + off, ?_⟩
  have hf : clockFacet (advance (600000000 + off) s) = 600000000 := by simpa [clockFacet, facetTime] using hT
  have hc : clockSince (advance (600000000 + off) s) = some 0 := by
    have f : facetTime (advance (600000000 + off) s) 100000000 = 600000000 := by simp [facetTime, hp]
    have g : toBoundary (advance (600000000 + off) s) s.motor.cycle s.motor.hall 100000000 % 600000000 = off := by
      rw [← hi, ← hoff]; simp [toBoundary, edgePhase, facetTime]
    simp [clockSince, h, hi, sinceGap, f, g, hn]
    omega
  refine ⟨?_, ?_, ?_⟩
  · simp [boundaryReached, hc, hf, hb, hn, hg]; omega
  · simp [clockBn, hc, hn]
  · simp [us]; omega

/-- So does every slot of the sheet, two facets on at the latest. -/
theorem slot_comes (s : State) (h : s.motor.lastEdge = some 0) (hi : s.motor.interval = 100000000)
    (hp : s.legend.scan.poles / s.legend.scan.facets = 1) (hg : s.legend.scan.gap = 360) (hb : s.seq.bn = 0)
    (hn : s.now = 0) (m : ModeTable) (p q : Nat) (hx : p * m.q + q ≤ max (periods m) 1 * max m.q 1) :
    ∃ dt, slotReached (advance dt s) m p q = true ∧ us 32 ≤ dt := by
  obtain ⟨off, ho, hoff⟩ : ∃ off, off < 600000000 ∧
      toBoundary s s.motor.cycle s.motor.hall s.motor.interval % 600000000 = off := ⟨_, Nat.mod_lt _ (by decide), rfl⟩
  refine ⟨1200000000 + off, ?_, le_trans (by decide) (Nat.le_add_right _ _)⟩
  have hf : clockFacet (advance (1200000000 + off) s) = 600000000 := by simp [clockFacet, facetTime, hi, hp]
  have hc : clockSince (advance (1200000000 + off) s) = some 0 := by
    have f : facetTime (advance (1200000000 + off) s) 100000000 = 600000000 := by simp [facetTime, hp]
    have g : toBoundary (advance (1200000000 + off) s) s.motor.cycle s.motor.hall 100000000 % 600000000 = off := by
      rw [← hi, ← hoff]; simp [toBoundary, edgePhase, facetTime]
    simp [clockSince, h, hi, sinceGap, f, g, hn]
    omega
  have k : 0 < max (periods m) 1 * max m.q 1 := Nat.mul_pos (by omega) (by omega)
  have e : (2 * 600000000 * (360 * (max (periods m) 1 * max m.q 1) + (p * m.q + q) * (10000 - 360)) +
      10000 * (max (periods m) 1 * max m.q 1)) / (2 * 10000 * (max (periods m) 1 * max m.q 1)) ≤ 600000000 := by
    generalize max (periods m) 1 * max m.q 1 = n at k hx
    generalize p * m.q + q = x at hx
    rw [← Nat.lt_succ_iff, Nat.div_lt_iff_lt_mul (by omega)]
    omega
  have b : sheetBn (advance (1200000000 + off) s) ≤ off := by
    simp [sheetBn, clockBn, hc, hf, hb, hn]
    omega
  have lg : (advance (1200000000 + off) s).legend.scan.gap = 360 := by simpa using hg
  have a : slotAt (advance (1200000000 + off) s) m p q ≤ sheetBn (advance (1200000000 + off) s) + 600000000 := by
    simp only [slotAt, hf, lg]
    exact Nat.add_le_add_left e _
  rw [slotReached, hc]
  simp [hn]
  omega
/-! ## Link -/

/-- A link with these fields. -/
def linked (l : Link) : State := { inStart with link := l }

/-- The codes of one ordered set. -/
def setOf (b c d : Sym) : List Nat := encodeSyms false [comma, b, c, d]

def idle : List Nat := setOf d215 d215 d215

theorem w_ReceiverStages_stages :
    (∀ n, n < 9 → upTested (linked { stage := n }) = false) ∧
    (let read := List.replicate 3 idle
     3 ≤ read.length ∧ ∀ w ∈ read.drop (read.length - 3), readAny (w.getD 0 0) = some comma) ∧
    (lastFour d102 (List.replicate 4 (setOf d102 d102 d102)) = true ∧ (linked { stage := 4 }).link.corrected = false) ∧
    lastFour d215 (List.replicate 4 idle) = true ∧
    (let read := List.replicate 8 idle
     8 ≤ read.length ∧ ∀ w ∈ read.drop (read.length - 8), isIdlOrUts w = true) ∧
    isIdlOrUts (setOf (.k 0x5C) (.d 0x18) d215) = true := by decide +kernel

theorem w_ReceiverStages_losses :
    (let s := linked { stage := 8, stageAt := 0 }
     2 ≤ s.link.stage ∧ s.link.confirmed = false ∧ s.link.stageAt + stageTimeout s.link.stage ≤ s.now + us 50) ∧
    (let s := linked { stage := 4 }
     let codes := List.replicate 8 0
     upTested s = false ∧ 4 ≤ s.link.stage ∧ codes.length ≤ 256 ∧ 8 ≤ (rxAfter (rxCodes s []) (rxCodes s codes)).violations) ∧
    (let s := linked { stage := 8 }
     let codes := encodeSyms false [comma, comma, comma, d215]
     upTested s = false ∧ codes.length ≤ 256 ∧ 2 ≤ (rxAfter (rxCodes s []) (rxCodes s codes)).offWord) ∧
    2 ≤ (linked { stage := 2 }).link.stage := by decide +kernel

theorem w_TrainingAndWidth :
    (let s := linked { stage := 8, st := (0xF8, 2), down := .training }
     s.link.stage = 8 ∧ upTested s = false ∧ (if s.link.st.1 = (0xF8#8).toNat then s.link.st.2 + 1 else 1) < 4) ∧
    (let s := linked { stage := 8, st := (0xF8, 3), acted := 0xF8 }
     s.link.stage = 8 ∧ s.link.acted = (0xF8#8).toNat) ∧
    (let s := linked { stage := 8, st := (0xF8, 3), down := .training, trainAt := us 200 }
     s.link.stage = 8 ∧ s.link.down = .training ∧ downNow (advance 0 s) ≠ .training) ∧
    (let s := linked { stage := 8, st := (0x18, 3), down := .training, intended := 15 }
     s.link.stage = 8 ∧ s.link.st.1 = (0x18#8).toNat ∧ 3 ≤ s.link.st.2 ∧ s.link.acted ≠ (0x18#8).toNat ∧
       s.link.down = .training ∧ downNow (advance 0 s) = .training ∧ (0x18#8).toNat / 8 % 2 = 1 ∧
       (0x18#8).toNat / 16 &&& s.link.intended ≠ 0) ∧
    (let s := linked { stage := 8, st := (0x70, 3), down := .data, active := 15 }
     s.link.stage = 8 ∧ s.link.st.1 = (0x70#8).toNat ∧ 3 ≤ s.link.st.2 ∧ s.link.acted ≠ (0x70#8).toNat ∧
       s.link.down = .data ∧ s.link.active &&& ((0x70#8).toNat / 16) ≠ 0 ∧
       s.link.active &&& ((0x70#8).toNat / 16) ≠ s.link.active) ∧
    (let s := linked { stage := 8, st := (0x70, 3), down := .asleep, active := 8 }
     s.link.acted ≠ (0x70#8).toNat ∧ s.link.down = .asleep ∧ s.link.active &&& ((0x70#8).toNat / 16) = 0) ∧
    (let s := linked { down := .training, trainAt := 0 }
     s.link.down = .training ∧ s.link.trainAt + ms 20 ≤ s.now + ms 20 ∧ s.now + 0 < s.link.trainAt + ms 20) ∧
    (linked { rising := some (15, 0) }).link.rising = some (15, 0) := by decide +kernel

theorem w_LinkDownDiscardsPending :
    (let s := linked { stage := 3, downDeclared := false, upAsleep := false, leftAt := 0 }
     s.link.downDeclared = false ∧ s.link.stage ≠ 8 ∧ s.link.upAsleep = false ∧
       upTested s = false ∧ s.link.leftAt + ms 1 ≤ s.now + ms 1) ∧
    (let s := linked { stage := 8, downDeclared := false, active := 0, down := .training, zeroAt := 0 }
     s.link.downDeclared = false ∧ linkWidth s = 0 ∧ s.link.down ≠ .test ∧ s.link.zeroAt + ms 1 ≤ s.now + ms 1) ∧
    (linked { downDeclared := true }).link.downDeclared = true := by decide +kernel

/-- A session refusal. -/
def refusal : Pkt := pkt 0x12 (zeros 8)

/-- A session whose keys are zeros. -/
def k1 : Session := { number := 1, kDown := zeros 32, kUp := zeros 32, ctrDown := 0, ctrUp := none }

theorem w_PacketsLeaveInOrder_next :
    (let s := linked { down := .data, active := 15, q1 := [refusal] }
     s.link.down = .data ∧ s.link.active ≠ 0 ∧ s.link.busyUntil ≤ s.now + 0 ∧ s.recd.readout = none ∧ s.link.q1 = refusal :: []) ∧
    (let s := linked { down := .asleep, active := 15, q2 := [refusal] }
     s.link.down = .asleep ∧ s.link.active ≠ 0 ∧ s.link.q1 = [] ∧ s.link.q2 = refusal :: []) ∧
    (let s := { linked { down := .data, active := 15, q4 := [refusal] } with sec := { r0.sec with session := some k1 } }
     s.link.active ≠ 0 ∧ s.link.busyUntil ≤ s.now + 0 ∧ s.link.q1 = [] ∧ s.link.q2 = [] ∧ s.link.q3 = [] ∧
       streamMayGo (advance 0 s) refusal = true ∧ s.link.q4 = refusal :: []) ∧
    (let s := { linked { down := .data, active := 8, q5 := [refusal] } with sec := { r0.sec with session := some k1 } }
     s.link.down = .data ∧ s.link.active ≠ 0 ∧ s.link.busyUntil ≤ s.now + 0 ∧ s.link.q1 = [] ∧ s.link.q2 = [] ∧
       s.link.q3 = [] ∧ s.link.q4 = [] ∧ s.sec.session ≠ none ∧ s.link.q5 = refusal :: []) ∧
    (let s := linked {}
     s.link.q1 = [] ∧ s.link.q2 = [] ∧ s.link.q3 = [] ∧ s.link.q4 = [] ∧ s.link.q5 = []) ∧
    inStart.now + 0 < (linked { busyUntil := 1 }).link.busyUntil := by decide +kernel

theorem w_PacketsLeaveInOrder_idle :
    (let s := linked { down := .data, active := 15, amAt := 0 }
     s.link.down = .data ∧ s.link.active ≠ 0 ∧ s.link.busyUntil ≤ s.now + symTaps 16384 ∧
       s.link.amAt + symTaps 16384 ≤ s.now + symTaps 16384) ∧
    (let s := linked { down := .data, idle := true }
     s.link.down = .data ∧ s.link.idle = true ∧ (∀ o ∈ s.contour.sheets, o.session = none) ∧ s.link.q1 = [] ∧
       s.link.q2 = [] ∧ s.link.q3 = [] ∧ s.link.q4 = [] ∧ s.link.q5 = [] ∧ s.link.busyUntil ≤ s.now + us 100 ∧
       s.link.busyUntil + us 100 ≤ s.now + us 100) ∧
    trailerSent { sent := some { bytes := header 0x03 24 0 false, lanes := 4 } } = true ∧
    (let s := linked { stage := 8, tokens := 1 }
     s.link.stage = 8 ∧ s.link.plan = 0 ∧ (refilled (advance 0 s)).1 ≠ 0 ∧
       rxWellFormed (rxBytes s [] false) (rxViol s [] false) = false) := by decide +kernel

/-- The bits of PRBS7 from an all-ones start, the newest first: enough for a checker to gain sync. -/
def prbs7 : List Bool :=
  (List.range 64).foldl (fun l _ => prbsPredict 0 l :: l) (List.replicate (prbsTaps 0).1 true)

theorem w_LaneTests :
    (let s := { inMode 6 with link := { (linkUp r0).link with testDue := true, down := .data } }
     s.link.testDue = true ∧ s.phase = .mode ∧ s.seq.mode = 6 ∧ linkReady s = true ∧ s.link.q1 = [] ∧ s.link.q2 = [] ∧
       s.link.q3 = [] ∧ s.link.q4 = [] ∧ s.link.q5 = [] ∧ s.link.busyUntil ≤ s.now + 0) ∧
    (let s := { inMode 6 with link := { r0.link with plan := 1, checkers := [(3, { sync := true })] },
                              legend := { r0.legend with plans := [(1, { loopback := true, lanes := 31, patUp := 0 })] } }
     checkerGains (planNow s).patUp prbs7 = true ∧ 3 < 5 ∧ checkerUsed s 3 = true ∧ (Table.getD {} s.link.checkers 3).sync = true ∧ s.link.plan ≠ 0 ∧
       4 < 5 ∧ checkerUsed s 4 = true ∧ (Table.getD {} s.link.checkers 4).sync = false ∧
       s.link.testAt + sec (planNow s).duration ≤ s.now + sec (planNow s).duration) ∧
    (∀ down ∈ [Down.test, .data], ∀ tested ∈ [0, 3],
     let s := { inMode 6 with link := { r0.link with plan := 1, tested := tested, down := down },
                              legend := { r0.legend with plans := [(1, { lanes := 16 })] } }
     s.link.plan ≠ 0 ∧ s.link.down = down ∧ s.link.tested = tested ∧
       s.link.testAt + sec (planNow s).duration ≤ s.now + sec (planNow s).duration) ∧
    (64 ≤ (List.range 64).length ∧
      (List.range 64).getLastD 0 < (List.range 64).getD ((List.range 64).length - 64) 0 + 1024) ∧
    [0].length < 64 ∧ (∀ c ∈ [(4, 0)], c.1 < 5) := by decide +kernel

theorem w_HallAndCameraEdges :
    (inStart.phase ≠ .reset ∧ (1#3) ≠ 0 ∧ (1#3) ≠ 7 ∧ inStart.motor.disagree < 2) ∧
    (let s := { inStart with image := { r0.image with accepted := true },
                             legend := { r0.legend with scan := { r0.legend.scan with sync := true } } }
     s.image.accepted = true ∧ s.legend.scan.sync = true ∧ true = !s.legend.scan.edgeFalling) := by decide +kernel

/-- Spinning under torque. -/
def torqued : State :=
  setSide .b { a0 with motEn := true } (setSide .a { a0 with motEn := true }
    { spinning with motor := { r0.motor with torque := true, rampStart := some 0, lastEdge := some 0 } })

theorem w_MotorFaultsStopTheDevice :
    torqued.phase ≠ .reset ∧ torqueOn torqued = true ∧ ((0#3) = 0 ∨ (0#3) = 7) ∧ stalled (advance (sec 60) torqued) = true := by
  decide +kernel

/-- The third disagreement: the observer stands half a turn from the sector, whatever the sector. -/
theorem w_MotorFaultsStopTheDevice_position :
    let s := { torqued with motor := { torqued.motor with disagree := 2 } }
    let observer := 600 * (Config.hallSector (1#3).toNat % 6) + 1800
    s.phase ≠ .reset ∧ (1#3) ≠ 0 ∧ (1#3) ≠ 7 ∧ s.motor.disagree = 2 ∧ s.motor.lastEdge = some 0 ∧ 0 < s.now + 1 ∧
      s.now + 1 - 0 < 2 * hallSetpoint s ∧
      10 * s.legend.scan.observerTol < angleDiff observer (600 * (Config.hallSector (1#3).toNat % 6)) := by
  refine ⟨by decide +kernel, by decide, by decide, rfl, rfl, by decide +kernel, by decide +kernel, ?_⟩
  have h : Config.hallSector (1#3).toNat % 6 < 6 := Nat.mod_lt _ (by decide)
  show 10 * 30 < _
  generalize Config.hallSector (1#3).toNat % 6 = k at h
  interval_cases k <;> decide

/-! ## Sheets and modes -/

/-- Spinning, settled, two windows run. -/
def ready : State :=
  let s := turning spinning
  { s with seq := { s.seq with startWindows := 2 } }

/-- In a mode, at the end of its sweep: a table of one period and one slot. -/
def swept (m : Nat) : State :=
  let s := turning (inMode m)
  { s with legend := { s.legend with modes := (List.range 7).map (fun i => (i, { nb := 1, q := 1, d := 1 })) }
           seq := { s.seq with period := some 0, slot := 1 } }

def request (m : Nat) (s : State) : Request := { identity := 0, mode := m, plan := 0, arrival := s.now, echo := 0 }

theorem w_BoundariesOpenSheets :
    (∃ dt, boundaryReached (advance dt (swept 5)) = true ∧ sheetOpens (swept 5) = true) ∧
    (∃ dt, boundaryReached (advance dt ready) = true ∧ sheetOpens ready = true) ∧
    (let s := { ready with seq := { ready.seq with startWindows := 1 } }
     ∃ dt, boundaryReached (advance dt s) = true ∧ s.phase = .spinUp ∧ s.motor.settled = true ∧ sheetOpens s = false ∧
       s.motor.settledAt ≤ clockBn (advance dt s)) ∧
    (let s := withA { a0 with standstill := false } { turning (inMode 5) with phase := .safeStop }
     ∃ dt, s.phase = .safeStop ∧ stopGapDue (advance dt s) = true) ∧
    boundaryReached (advance 0 inStart) = false := by
  refine ⟨?_, ?_, ?_, ?_, by decide +kernel⟩
  · obtain ⟨dt, h, _⟩ := boundary_comes (swept 5) rfl rfl (by decide) (by decide) rfl rfl
    exact ⟨dt, h, by decide +kernel⟩
  · obtain ⟨dt, h, _⟩ := boundary_comes ready rfl rfl (by decide) (by decide) rfl rfl
    exact ⟨dt, h, by decide +kernel⟩
  · obtain ⟨dt, h, _⟩ := boundary_comes { ready with seq := { ready.seq with startWindows := 1 } } rfl rfl (by decide)
      (by decide) rfl rfl
    exact ⟨dt, h, rfl, rfl, by decide +kernel, Nat.zero_le _⟩
  · obtain ⟨dt, h, _⟩ := boundary_comes (withA { a0 with standstill := false } { turning (inMode 5) with phase := .safeStop }) rfl rfl (by decide) (by decide) rfl rfl
    refine ⟨dt, rfl, ?_⟩
    unfold stopGapDue
    rw [h]
    simp [turning, inMode, r0, State.reset, withA, setSide]

/-- One table entry, power 9 in every bearing with 6 shots, for bank 0 in Scan. -/
def oneBank : State :=
  { inMode 1 with legend := { r0.legend with
      fire := [(1, [(0, field 5 38 20 + field 8 30 9 + field 6 24 6 + field 12 12 1199)])], modes := [(1, { banks := 3 })],
      boards := [{ banks := [0, 1, 255, 255, 255, 255, 255, 255] }] } }

/-- What the conditional clauses on throttle and codes ask of the sheet state that a boundary forms. -/
theorem w_BoundariesOpenSheets_codes :
    (let s := { oneBank with thermal := { r0.thermal with tj := some 480, sinceStep := 19 } }
     s.thermal.tj = some 480 ∧ s.legend.scan.rs ≤ s.thermal.sinceStep + 1) ∧
    (let s := { oneBank with thermal := { r0.thermal with sinceStep := 18 } }
     s.thermal.sinceStep + 1 < s.legend.scan.rs) ∧
    (let v := sheetState (formSheetState oneBank)
     let c := fun b => tableCodeOf (fireTable oneBank 1) (modeTable oneBank 1) v.cap b
     bit 0 v.banks = true ∧ c 0 = some 9 ∧ bit 1 v.banks = true ∧ c 1 = none ∧ (bankOf oneBank 0).fired = false) ∧
    (let s := modBank 0 (fun v => { v with fired := true, tableCode := some 5, rampCode := 7 }) oneBank
     (bankOf s 0).fired = true ∧ (bankOf s 0).tableCode ≠ some 9) := by decide +kernel

/-- The end of a sweep with other sequencer fields. -/
def sweptWith (m : Nat) (f : Seq → Seq) : State := { swept m with seq := f (swept m).seq }

theorem w_ModeOfTheComingSheet_holds :
    (let s := sweptWith 1 (fun q => { q with biasHoldDue := true })
     ∃ dt, boundaryReached (advance dt s) = true ∧ sheetOpens s = true ∧ s.seq.biasHoldDue = true ∧
       s.seq.biasHold = false) ∧
    (let s := sweptWith 1 (fun q => { q with dipHoldDue := true })
     ∃ dt, boundaryReached (advance dt s) = true ∧ sheetOpens s = true ∧ s.seq.dipHoldDue = true ∧
       s.seq.dipHold = false) := by
  constructor
  · obtain ⟨dt, h, _⟩ := boundary_comes (sweptWith 1 (fun q => { q with biasHoldDue := true })) rfl rfl (by decide)
      (by decide) rfl rfl
    exact ⟨dt, h, by decide +kernel⟩
  · obtain ⟨dt, h, _⟩ := boundary_comes (sweptWith 1 (fun q => { q with dipHoldDue := true })) rfl rfl (by decide)
      (by decide) rfl rfl
    exact ⟨dt, h, by decide +kernel⟩

theorem w_ModeOfTheComingSheet_request :
    let s := sweptWith 5 (fun q => { q with latch := some (request 1 r0) })
    ∃ dt, boundaryReached (advance dt s) = true ∧ sheetOpens s = true ∧ s.phase = .mode ∧ s.seq.mode ≠ 6 ∧
      s.seq.biasHoldDue = false ∧ s.seq.dipHoldDue = false ∧ s.seq.biasHold = false ∧ s.seq.dipHold = false ∧
      s.seq.latch = some (request 1 r0) ∧ (request 1 r0).arrival + us 1 < clockBn (advance dt s) ∧
      ((request 1 r0).mode = 6 → depotKey s = true) ∧ transitionAllowed s.seq.mode (request 1 r0).mode = true := by
  obtain ⟨dt, h, c, d⟩ := boundary_comes (sweptWith 5 (fun q => { q with latch := some (request 1 r0) })) rfl rfl
    (by decide) (by decide) rfl rfl
  refine ⟨dt, h, by decide +kernel, rfl, by decide +kernel, rfl, rfl, rfl, rfl, rfl, ?_, by decide +kernel, by decide +kernel⟩
  rw [c]
  simpa [request, r0, State.reset] using d

theorem w_ModeOfTheComingSheet_rest :
    (∃ dt, boundaryReached (advance dt (swept 4)) = true ∧ sheetOpens (swept 4) = true ∧ (swept 4).phase = .mode ∧
      (swept 4).seq.mode ≠ 0 ∧ (swept 4).seq.mode ≠ 6 ∧ (swept 4).seq.biasHoldDue = false ∧
      (swept 4).seq.dipHoldDue = false ∧ (swept 4).seq.returnDue = false ∧ (swept 4).seq.latch = none) ∧
    (∃ dt, boundaryReached (advance dt ready) = true ∧ sheetOpens ready = true ∧ ready.phase = .spinUp ∧
      ready.seq.biasHoldDue = false ∧ ready.seq.dipHoldDue = false ∧ ready.seq.biasHold = false ∧
      ready.seq.dipHold = false ∧ ready.seq.latch = none) := by
  constructor
  · obtain ⟨dt, h, _⟩ := boundary_comes (swept 4) rfl rfl (by decide) (by decide) rfl rfl
    exact ⟨dt, h, by decide +kernel⟩
  · obtain ⟨dt, h, _⟩ := boundary_comes ready rfl rfl (by decide) (by decide) rfl rfl
    exact ⟨dt, h, by decide +kernel⟩

theorem w_ModeOfTheComingSheet_return :
    (let s := sweptWith 5 (fun q => { q with returnDue := true, returnMode := 1 })
     ∃ dt, boundaryReached (advance dt s) = true ∧ sheetOpens s = true ∧ s.phase = .mode ∧ s.seq.mode ≠ 0 ∧ s.seq.mode ≠ 6 ∧
       s.seq.biasHoldDue = false ∧ s.seq.dipHoldDue = false ∧ s.seq.biasHold = false ∧ s.seq.dipHold = false ∧
       s.seq.latch = none ∧ s.seq.returnDue = true ∧ s.seq.returnMode ≠ 0) ∧
    (let s := sweptWith 6 (fun q => { q with keyWithdrawn := some 0 })
     ∃ dt, boundaryReached (advance dt s) = true ∧ sheetOpens s = true ∧ s.phase = .mode ∧ s.seq.mode = 6 ∧
       s.seq.keyWithdrawn = some 0 ∧ 0 + us 1 < clockBn (advance dt s)) := by
  constructor
  · obtain ⟨dt, h, _⟩ := boundary_comes (sweptWith 5 (fun q => { q with returnDue := true, returnMode := 1 })) rfl rfl
      (by decide) (by decide) rfl rfl
    exact ⟨dt, h, by decide +kernel⟩
  · obtain ⟨dt, h, c, d⟩ := boundary_comes (sweptWith 6 (fun q => { q with keyWithdrawn := some 0 })) rfl rfl
      (by decide) (by decide) rfl rfl
    exact ⟨dt, h, by decide +kernel, rfl, by decide +kernel, rfl, by rw [c]; simpa using d⟩

/-- Header and body of a tagged packet of sequence 0. -/
def tagHead (type : Nat) (body : List Byte) : List Byte := header type (body.length + 16) 0 true ++ body
def tagPkt (type : Nat) (body : List Byte) : List Byte :=
  withCrc (tagHead type body ++ packetTag k1.kUp k1.number true false 0 (tagHead type body))

/-- A tagged packet under session k1 as its first packet is accepted whatever its tag is worth. -/
theorem tagPkt_ok (type : Nat) (body : List Byte) (hb : body.length + 16 < 65536)
    (ht : (packetTag k1.kUp k1.number true false 0 (tagHead type body)).length = 16)
    (hh : rxType (tagHead type body) = type ∧ rxVersion (tagHead type body) = 1 ∧
      rxLength (tagHead type body) = body.length + 16 ∧ rxSeq (tagHead type body) = 0 ∧
      rxTagged (tagHead type body) = true) (hm : mayTag type = true) (hu : upLength type = some body.length)
    (s : State) (hs : s.link.stage = 8) (hp : s.link.plan = 0) (hr : (refilled s).1 ≠ 0)
    (hk : s.sec.session = some k1) (hl : establishing s = false) :
    (receive (tagPkt type body) false s).1 = some { type := type, body := body } ∧ rxType (tagPkt type body) = type := by
  obtain ⟨h1, h2, h3, h4, h5⟩ := hh
  have lh : (tagHead type body).length = body.length + 8 := by simp [tagHead, header, leBytes_length]; omega
  generalize hT : packetTag k1.kUp k1.number true false 0 (tagHead type body) = T at ht
  have e : tagPkt type body = tagHead type body ++ T ++ leBytes 4 (crc32 (tagHead type body ++ T)) := by
    simp [tagPkt, withCrc, hT]
  have f (o n : Nat) (h : o + n ≤ 8) : leAt (tagPkt type body) o n = leAt (tagHead type body) o n := by
    unfold leAt
    rw [e, List.append_assoc, slice_front _ _ _ _ (by omega)]
  have len : (tagPkt type body).length = body.length + 28 := by
    rw [e]; simp [lh, ht, leBytes_length]
  have g1 : rxType (tagPkt type body) = type := (f 0 1 (by omega)).trans h1
  have g2 : rxVersion (tagPkt type body) = 1 := (f 1 1 (by omega)).trans h2
  have g3 : rxLength (tagPkt type body) = body.length + 16 := (f 2 2 (by omega)).trans h3
  have g4 : rxSeq (tagPkt type body) = 0 := (f 4 2 (by omega)).trans h4
  have g5 : rxTagged (tagPkt type body) = true := by
    rw [← h5]; unfold rxTagged; rw [f 7 1 (by omega)]
  have tk : (tagPkt type body).take (body.length + 24) = tagHead type body ++ T := by
    rw [e, List.take_append_of_le_length (by simp [lh, ht])]
    exact List.take_of_length_le (by simp [lh, ht])
  have tk2 : (tagPkt type body).take (body.length + 8) = tagHead type body := by
    rw [e, List.append_assoc, ← lh]; simp
  have c1 : leAt (tagPkt type body) (body.length + 24) 4 = crc32 (tagHead type body ++ T) := by
    have : body.length + 24 = (tagHead type body ++ T).length := by simp [lh, ht]
    unfold leAt
    rw [e, this]
    simp only [slice, List.drop_left']
    rw [List.take_of_length_le (by simp [leBytes_length]), leNat_leBytes]
    exact Nat.mod_eq_of_lt (BitVec.isLt _)
  have sl : slice (tagPkt type body) (body.length + 8) 16 = T := by
    rw [e, ← lh, ← ht]; exact slice_at _ _ _
  have sb : slice (tagPkt type body) 8 body.length = body := by
    have hd : (header type (body.length + 16) 0 true).length = 8 := by simp [header, leBytes_length]
    have : tagPkt type body = header type (body.length + 16) 0 true ++ body ++ (T ++ leBytes 4 (crc32 (tagHead type body ++ T))) := by
      rw [e]; simp [tagHead]
    rw [this, ← hd]; exact slice_at _ _ _
  have w : rxWellFormed (tagPkt type body) false = true := by
    simp [rxWellFormed, g1, g2, g3, g5, hu, hm, len, c1, tk]
  have tok : rxTagOk k1 (tagPkt type body) = true := by
    simp [rxTagOk, g4, len, k1, rxCounter, rxDistance, sl, tk2]
    rw [← hT]; rfl
  refine ⟨?_, g1⟩
  have hc (t : State) (a : t.sec.session = some k1) (b : establishing t = false) : (checkTag (tagPkt type body) t).1 = true := by
    simp [checkTag, g1, hm, a, b, g5, tok]
  have up : upTested s = false := by simp [upTested, hp]
  unfold receive
  rw [if_neg (by simp [hs, up]), if_neg hr, if_neg (by simp [w])]
  simp only []
  split
  · rename_i x u hx
    have := hc { takeToken s with link := { (takeToken s).link with seqUp := rxSeq (tagPkt type body) } } hk hl
    rw [hx] at this; cases this
  · simp [g1, hu, sb]

/-- The link up under session `k1`. -/
def secured (s : State) : State := let t := linkUp s; { t with sec := { t.sec with session := some k1 } }

def modeBody (m plan : Nat) : List Byte := wordsLe [field 3 53 m + field 3 50 plan]

/-- A packet as the upstream lane carries it. -/
def upCodes (l : List Byte) : List Nat := encodeSyms false (packetSyms 1 0 l)

/-- A tagged packet of session `k1` is received, its first. -/
theorem receivedTagged (type : Nat) (body : List Byte) (hb : body.length + 16 < 65536)
    (ht : (packetTag k1.kUp k1.number true false 0 (tagHead type body)).length = 16)
    (hh : rxType (tagHead type body) = type ∧ rxVersion (tagHead type body) = 1 ∧
      rxLength (tagHead type body) = body.length + 16 ∧ rxSeq (tagHead type body) = 0 ∧
      rxTagged (tagHead type body) = true) (hm : mayTag type = true) (hu : upLength type = some body.length)
    (s : State) (hs : s.link.stage = 8) (hp : s.link.plan = 0) (hi : s.link.inverted = false)
    (hr : (refilled (advance 0 s)).1 ≠ 0) (hk : s.sec.session = some k1) (hl : establishing s = false) :
    Received type (upCodes (tagPkt type body)) false body (advance 0 s) (afterRx (upCodes (tagPkt type body)) s) := by
  have h := tagPkt_ok type body hb ht hh hm hu (advance 0 s) (by simpa using hs) (by simpa using hp) hr (by simpa using hk)
    (by simpa [establishing] using hl)
  obtain ⟨r, v⟩ := rx_packet false (tagPkt type body) (advance 0 s) (by simpa using hi)
  exact received (by rw [upCodes, r]; exact h.2) (by rw [upCodes, r, v]; exact h.1)

theorem receivedMode (m plan : Nat) (hb : (modeBody m plan).length = 8)
    (ht : (packetTag k1.kUp k1.number true false 0 (tagHead 0x82 (modeBody m plan))).length = 16)
    (hh : rxType (tagHead 0x82 (modeBody m plan)) = 0x82 ∧ rxVersion (tagHead 0x82 (modeBody m plan)) = 1 ∧
      rxLength (tagHead 0x82 (modeBody m plan)) = (modeBody m plan).length + 16 ∧
      rxSeq (tagHead 0x82 (modeBody m plan)) = 0 ∧ rxTagged (tagHead 0x82 (modeBody m plan)) = true)
    (s : State) (hs : s.link.stage = 8) (hp : s.link.plan = 0) (hi : s.link.inverted = false)
    (hr : (refilled (advance 0 s)).1 ≠ 0) (hk : s.sec.session = some k1) (hl : establishing s = false) :
    Received 0x82 (upCodes (tagPkt 0x82 (modeBody m plan))) false (modeBody m plan) (advance 0 s)
      (afterRx (upCodes (tagPkt 0x82 (modeBody m plan))) s) :=
  receivedTagged 0x82 _ (by omega) ht hh rfl (by rw [hb]; rfl) s hs hp hi hr hk hl

/-- Declared Scan, Idle; device in Safe stop, settled causes, at standstill. -/
def declared (s : State) : State := { s with legend := { s.legend with modes := [(1, {}), (5, {})] } }
def halted : State :=
  setSide .b { a0 with stopped := true } (setSide .a { a0 with stopped := true } { declared r0 with phase := .safeStop })

theorem w_ModeRequests_undeclared : ∃ codes body u, Received 0x82 codes false body (advance 0 (secured inStart)) u ∧
    requestable u (bits 55 53 (leAt body 0 8)) = false := by
  have h := receivedMode 1 0 (by decide +kernel) (by decide +kernel) (by decide +kernel) (secured inStart) rfl rfl rfl
    (by decide +kernel) rfl rfl
  refine ⟨_, _, _, h, ?_⟩
  rw [afterRx, receive_eq]
  decide +kernel

theorem w_ModeRequests_latched : ∃ codes body u, Received 0x82 codes false body (advance 0 (secured (declared { inMode 5 with seq := { (inMode 5).seq with latch := some (request 1 r0) } }))) u ∧
    requestable u (bits 55 53 (leAt body 0 8)) = true ∧
    (bits 55 53 (leAt body 0 8) = 6 → bits 52 50 (leAt body 0 8) = 0) ∧ u.phase ≠ .safeStop ∧ u.seq.latch ≠ none := by
  have h := receivedMode 1 0 (by decide +kernel) (by decide +kernel) (by decide +kernel)
    (secured (declared { inMode 5 with seq := { (inMode 5).seq with latch := some (request 1 r0) } })) rfl rfl rfl
    (by decide +kernel) rfl rfl
  refine ⟨_, _, _, h, ?_⟩
  rw [afterRx, receive_eq]
  decide +kernel

theorem w_ModeRequests_exit : ∃ codes body u, Received 0x82 codes false body (advance 0 (secured halted)) u ∧
    requestable u (bits 55 53 (leAt body 0 8)) = true ∧ u.phase = .safeStop ∧ bits 55 53 (leAt body 0 8) = 5 ∧
    exitReady u = true := by
  have h := receivedMode 5 0 (by decide +kernel) (by decide +kernel) (by decide +kernel) (secured halted) rfl rfl rfl
    (by decide +kernel) rfl rfl
  refine ⟨_, _, _, h, ?_⟩
  rw [afterRx, receive_eq]
  decide +kernel

theorem w_ModeRequests_held : ∃ codes body u, Received 0x82 codes false body (advance 0 (secured halted)) u ∧
    requestable u (bits 55 53 (leAt body 0 8)) = true ∧ u.phase = .safeStop ∧ bits 55 53 (leAt body 0 8) ≠ 5 ∧
    (bits 55 53 (leAt body 0 8) = 6 → bits 52 50 (leAt body 0 8) = 0) := by
  have h := receivedMode 1 0 (by decide +kernel) (by decide +kernel) (by decide +kernel) (secured halted) rfl rfl rfl
    (by decide +kernel) rfl rfl
  refine ⟨_, _, _, h, ?_⟩
  rw [afterRx, receive_eq]
  decide +kernel

theorem w_ModeRequests_plan : ∃ codes body u,
    Received 0x82 codes false body (advance 0 (secured { inMode 5 with legend := { r0.legend with modes := [(6, {})] } })) u ∧
    requestable u (bits 55 53 (leAt body 0 8)) = true ∧ bits 55 53 (leAt body 0 8) = 6 ∧ bits 52 50 (leAt body 0 8) ≠ 0 ∧
    tableHas u.legend.plans (bits 52 50 (leAt body 0 8)) = false := by
  have h := receivedMode 6 3 (by decide +kernel) (by decide +kernel) (by decide +kernel)
    (secured { inMode 5 with legend := { r0.legend with modes := [(6, {})] } }) rfl rfl rfl (by decide +kernel) rfl rfl
  refine ⟨_, _, _, h, ?_⟩
  rw [afterRx, receive_eq]
  decide +kernel

theorem w_ModeRequests_idleHeld : ∃ codes body u,
    Received 0x82 codes false body (advance 0 (secured (setSide .a { a0 with stopped := true, causes := [8], standstill := false } halted))) u ∧
    requestable u (bits 55 53 (leAt body 0 8)) = true ∧ u.phase = .safeStop ∧ bits 55 53 (leAt body 0 8) = 5 ∧
    exitReady u = false := by
  have h := receivedMode 5 0 (by decide +kernel) (by decide +kernel) (by decide +kernel)
    (secured (setSide .a { a0 with stopped := true, causes := [8], standstill := false } halted)) rfl rfl rfl
    (by decide +kernel) rfl rfl
  refine ⟨_, _, _, h, ?_⟩
  rw [afterRx, receive_eq]
  decide +kernel
/-! ## Safety -/

/-- `s` with channel A holding `c`. -/
def chA (c : SafeCh) : State := withA c { inMode 1 with now := sec 100 }

theorem w_ChannelTriggersStopTheDevice :
    (inStart.phase ≠ .reset ∧ (sideOf inStart .a).lastWord + us 1250 ≤ inStart.now + us 1250) ∧
    (let s := setSide .b { a0 with notice := true } inStart
     s.phase ≠ .reset ∧ (sideOf s (otherSide .a)).notice = true ∧ (sideOf s .a).stopped = false) ∧
    (let s := chA { a0 with outSince := some 0, entered := true }
     s.phase ≠ .reset ∧ (sideOf s .a).outSince = some 0 ∧ (sideOf s .a).entered = true ∧ 0 + sec 5 ≤ s.now + 0) ∧
    (let s := chA { a0 with hotOwn := 1 }
     s.phase ≠ .reset ∧ (sideOf s .a).ownFault = false ∧ (∀ x, (sideOf s .a).sensorAt = some x → x + ms 1 ≤ s.now + 0) ∧
       (540 : Int) ≤ 600 ∧ (600 : Int) ≤ 600 ∧
       1 ≤ (sideOf s .a).hotOwn ∧ (-220 : Int) < 540 ∧ ∀ v, s.thermal.tj = some v → v < 540) ∧
    (let s := chA { a0 with hotOwn := 1, sensorAt := some (sec 100 - ms 1) }
     (sideOf s .a).sensorAt = some (sec 100 - ms 1) ∧ sec 100 - ms 1 + ms 1 ≤ s.now + 0) ∧
    (let s := chA { a0 with sout := true, soutRun := 1, testSample := some (sec 100) }
     s.phase ≠ .reset ∧ false ≠ (sideOf s .a).sout ∧ 1 ≤ (sideOf s .a).soutRun ∧
       (sideOf s .a).testSample = some (sec 100) ∧ sec 100 ≤ s.now + 0) ∧
    ((List.replicate 32 (false, false, true)).length = 32 ∧ spinning.phase = .spinUp ∧
      spinning.safety.gateTested = false ∧ beforeFrames spinning = true ∧ (List.replicate 32 (false, false, true)).all gateOk = true ∧
      (List.replicate 32 (true, false, true)).all gateOk = false) := by decide +kernel

theorem w_StandstillAfterOneSecond :
    (let s := chA { a0 with torqueOff := some 0, standstill := false, lastEdge := some (sec 99) }
     (sideOf s .a).torqueOff = some 0 ∧ (sideOf s .a).standstill = false ∧
       max 0 ((sideOf s .a).lastEdge.getD 0) + sec 1 ≤ s.now + 0 ∧ (sideOf s (otherSide .a)).standstill = true) ∧
    (let s := setSide .b { a0 with standstill := false }
        (chA { a0 with torqueOff := some (sec 100), standstill := false })
     (sideOf s .a).torqueOff = some (sec 100) ∧ (sideOf s .a).standstill = false ∧
       (sideOf s (otherSide .a)).standstill = false ∧
       s.now + (sec 1 - 1) < max (sec 100) ((sideOf s .a).lastEdge.getD 0) + sec 1) := by decide +kernel

theorem w_SpeedWindow :
    (sideOf (chA a0) .a).lastEdge = none ∧
    (let s := chA { a0 with lastEdge := some 0, inWindow := true }
     s.phase ≠ .reset ∧ (1#3) ≠ 0 ∧ (1#3) ≠ 7 ∧ (sideOf s .a).lastEdge = some 0 ∧ 0 < s.now + 0 ∧
       rateWithin s (s.now + 0 - 0) 95 105 = false ∧ (sideOf s .a).inWindow = true) ∧
    (let s := { chA { a0 with lastEdge := some 0, regain := 15 } with now := hallSetpoint r0 }
     rateWithin s (s.now + 0 - 0) 96 104 = true ∧ 15 ≤ (sideOf s .a).regain) ∧
    (let s := chA { a0 with lastEdge := some 0, inWindow := true, entered := true }
     (sideOf s .a).lastEdge = some 0 ∧ (sideOf s .a).inWindow = true ∧
       100 * hallSetpoint s < 95 * (s.now + 0 - 0) ∧ (sideOf s .a).entered = true) ∧
    (let s := chA { a0 with entry := some (sec 99, 1), stopped := true, motEn := true }
     (sideOf s .a).entry = some (sec 99, 1) ∧ (sideOf s .a).stopped = true ∧ (sideOf s .a).motEn = true ∧
       chanSpeed (advance 0 s) (sideOf s .a) < 1 / 50) := by decide +kernel

/-- A channel with Hall edges at the setpoint. -/
def chTurning : SafeCh := { a0 with lastEdge := some 0, interval := hallSetpoint r0, hall := 1 }
def turned (now : Nat) : State := { withA chTurning (inMode 1) with now := now }

/-- Time from the edge to B_n. -/
def untilBn : Nat := toBoundary r0 chTurning.cycle chTurning.hall chTurning.interval

theorem toBoundary_legend (s t : State) (h : s.legend = t.legend) : toBoundary s = toBoundary t := by
  funext a b c
  simp only [toBoundary, edgePhase, facetTime, h]

theorem facetTime_legend (s t : State) (h : s.legend = t.legend) : facetTime s = facetTime t := by
  funext a
  simp only [facetTime, h]

theorem predicted_of {s : State} {c : SafeCh} {e : Nat} (hl : c.lastEdge = some e) (hi : c.interval ≠ 0)
    (h1 : e + toBoundary s c.cycle c.hall c.interval ≤ s.now)
    (h2 : s.now - (e + toBoundary s c.cycle c.hall c.interval) + facetTime s c.interval / 2 < facetTime s c.interval) :
    predictedBn s c = some (e + toBoundary s c.cycle c.hall c.interval) := by
  simp only [predictedBn, hl, if_neg hi, if_pos h1, Nat.div_eq_of_lt h2, Nat.zero_mul, Nat.add_zero]

theorem predicted_turned (s : State) (c : SafeCh) (hs : s.legend = r0.legend) (hn : s.now = 0) (hl : c.lastEdge = some 0)
    (hi : c.interval = hallSetpoint r0) (hc : c.cycle = chTurning.cycle) (hh : c.hall = 1) (k : Nat) (hk : k < 10000000) :
    predictedBn (advance (untilBn + k) s) c = some untilBn := by
  have b : 0 + toBoundary (advance (untilBn + k) s) c.cycle c.hall c.interval = untilBn := by
    rw [Nat.zero_add, toBoundary_legend (advance (untilBn + k) s) r0 (by simp [hs]), hi, hc, hh, untilBn]; rfl
  have n : (advance (untilBn + k) s).now = untilBn + k := by rw [advance_now, hn]; exact Nat.zero_add _
  have t : 100000000 < facetTime r0 (hallSetpoint r0) := by decide +kernel
  have f : facetTime (advance (untilBn + k) s) c.interval = facetTime r0 (hallSetpoint r0) := by
    rw [facetTime_legend (advance (untilBn + k) s) r0 (by simp [hs]), hi]
  have h : c.interval ≠ 0 := by rw [hi]; decide +kernel
  rw [predicted_of (e := 0) hl h (by rw [b, n]; omega) (by rw [b, n, f]; omega), b]

theorem begun_none (s : State) (p : Nat) (h : (sideOf s .a).gapBn = none) : gapBegun (advance 0 s) (sideOf s .a) p = false := by
  simp [gapBegun, h]

theorem w_PermitAtMarker :
    (turned 0).phase = .mode ∧
    (predictedBn (advance (untilBn + 0) (turned 0)) (sideOf (turned 0) .a) = some untilBn ∧
      (untilBn ≤ (turned 0).now + (untilBn + 0) + gapTolerance (turned 0) ∧
        (turned 0).now + (untilBn + 0) ≤ untilBn + gapTolerance (turned 0)) ∧
      gapBegun (advance (untilBn + 0) (turned 0)) (sideOf (turned 0) .a) untilBn = false) ∧
    (predictedBn (advance (untilBn + 8000001) (turned 0)) (sideOf (turned 0) .a) = some untilBn ∧
      untilBn + gapTolerance (turned 0) < (turned 0).now + (untilBn + 8000001) ∧
      untilBn + gapTolerance (turned 0) ≤ (turned 0).now + (untilBn + 8000001)) ∧
    (let s := { withA { chTurning with gapBad := true, badGaps := 2 } (inMode 1) with now := 0 }
     (sideOf s .a).gapBad = true ∧ 2 ≤ (sideOf s .a).badGaps) ∧
    gapBegun (turned 0) { chTurning with gapBn := some untilBn } untilBn = true ∧
    (let s := { turned 0 with phase := .spinUp, motor := { r0.motor with settled := true } }
     s.phase = .spinUp ∧ s.motor.settled = true ∧ s.motor.settledAt ≤ untilBn) := by
  have z : (turned 0).now = 0 := rfl
  have g : gapTolerance (turned 0) = 8000000 := by decide +kernel
  have f : 0 < facetTime (turned 0) (hallSetpoint r0) := by decide +kernel
  refine ⟨rfl, ⟨predicted_turned (turned 0) (sideOf (turned 0) .a) rfl rfl rfl rfl rfl rfl 0 (by omega), ?_, rfl⟩, ⟨predicted_turned (turned 0) (sideOf (turned 0) .a) rfl rfl rfl rfl rfl rfl 8000001 (by omega), ?_, ?_⟩, by decide +kernel, ?_, rfl, rfl, Nat.zero_le _⟩
  · rw [z, g]; omega
  · rw [z, g]; omega
  · rw [z, g]; omega
  · simp [gapBegun, chTurning, f]

/-- Channel A turning, tested and in its window, without a permit. -/
def asserting : State := { withA { chTurning with tested := true, inWindow := true, gapBad := false } (inMode 1) with now := 0 }

theorem marker_raises (s : State) (dt : Nat) (hr : s.phase = .mode)
    (hp : predictedBn (advance dt s) (sideOf s .a) = some (s.now + dt)) (hg : (sideOf s .a).gapBn = none)
    (hk : permitHolds (advance dt s) (beginGap (s.now + dt) (sideOf s .a)) = true) :
    ∃ t, exec (.bnMarker dt .a) s = .next t ∧ (sideOf t .a).permit = true := by
  have e : sideOf (advance dt s) .a = sideOf s .a := by simp [sideOf]
  have r : exec (.bnMarker dt .a) s = .next (watchSafety (bnMarkerAt .a) (advance dt s)) := by
    simp [exec, execBnMarker, hr]
    rfl
  refine ⟨_, r, ?_⟩
  have w : ∀ (f : State → State) (x : State), (sideOf (watchSafety f x) .a).permit = (sideOf (f x) .a).permit := by
    intro f x
    rcases watchSafety_eq f x with h | h <;> rw [h]
    simp [sideOf]
  rw [w]
  have q : sideOf (modSide .a (beginGap (s.now + dt)) (advance dt s)) .a = beginGap (s.now + dt) (sideOf s .a) := by
    simp [modSide, setSide, sideOf]
  have k2 : permitHolds (modSide .a (beginGap (s.now + dt)) (advance dt s)) (beginGap (s.now + dt) (sideOf s .a)) = true := hk
  unfold bnMarkerAt
  simp only [e, hp]
  rw [if_pos ⟨by rw [advance_now]; omega, by rw [advance_now]; omega⟩, if_neg (by simp [gapBegun, hg])]
  unfold restorePermit
  rw [q, k2]
  simp [modSide, setSide, sideOf]

/-- A marker at its instant raises the permit. -/
theorem w_PermitAtMarker_raised : ∃ dt t, exec (.bnMarker dt .a) asserting = .next t ∧ (sideOf asserting .a).permit = false ∧
    (sideOf t .a).permit = true := by
  have hp := predicted_turned asserting (sideOf asserting .a) rfl rfl rfl rfl rfl rfl 0 (by omega)
  have z : asserting.now = 0 := rfl
  have hq : predictedBn (advance untilBn asserting) (sideOf asserting .a) = some (asserting.now + untilBn) := by
    rw [Nat.add_zero] at hp
    rw [z, Nat.zero_add]
    exact hp
  clear hp
  have a : asserting.phase = .mode := rfl
  have g : (sideOf asserting .a).gapBn = none := rfl
  have k : permitHolds (advance untilBn asserting) (beginGap (asserting.now + untilBn) (sideOf asserting .a)) = true := by
    decide +kernel
  obtain ⟨t, h, p⟩ := marker_raises asserting untilBn a hq g k
  exact ⟨untilBn, t, h, rfl, p⟩

def safeMsg (kind demand : Nat) : List Byte :=
  let b := leBytes 1 (16 * kind) ++ leBytes 1 r0.legend.safety.expectation ++ leBytes 2 1 ++ leBytes 4 0 ++ zeros 7 ++
    leBytes 1 (64 * demand) ++ zeros 12
  b ++ leBytes 4 (crc32c b)

/-- Both channels on the host layer. -/
def hosted : State :=
  let s := linkUp inStart
  setSide .b { a0 with straps := 0xFF } (setSide .a { a0 with straps := 0xFF } s)

/-- Both connections open or closed, after a message with sequence number 0. -/
def opened (o : Bool) : State :=
  let f : SafeCh → SafeCh := fun c => { c with connOpen := o, everOpen := true, lastSeq := 0 }
  modSide .b f (modSide .a f hosted)

/-- Messages of each kind and demand are accepted by both channels, on a closed connection and on an open one. -/
theorem w_SafetyMessages_accepted : ∀ kind < 2, ∀ demand < 3, ∀ open_, ∃ codes m u,
    Received 0x83 codes false m (advance 0 (opened open_)) u ∧
    (channelAccepts u u.safety.a m = true ∧ u.safety.a.connOpen = open_) ∧
    (channelAccepts u u.safety.b m = true ∧ u.safety.b.connOpen = open_) ∧ hostKind m = kind + 1 ∧
    hostDemand m = demand ∧ u.phase ≠ .reset := by
  have h : ∀ kind < 2, ∀ demand < 3, ∀ open_,
      let s := opened open_
      let codes := upPkt 0x83 (safeMsg (kind + 1) demand)
      rxType (rxBytes (advance 0 s) codes false) = 0x83 ∧
      (receive (rxBytes (advance 0 s) codes false) (rxViol (advance 0 s) codes false) (advance 0 s)).1 =
        some { type := 0x83, body := safeMsg (kind + 1) demand } := by decide +kernel
  intro kind hk demand hd open_
  obtain ⟨h1, h2⟩ := h kind hk demand hd open_
  refine ⟨_, safeMsg (kind + 1) demand, _, received h1 h2, ?_⟩
  rw [afterRx, receive_eq]
  clear h1 h2 h
  revert kind demand open_
  decide +kernel

theorem w_SafetyMessages_dropped : ∃ codes m u, Received 0x83 codes false m (advance 0 hosted) u ∧
    channelAccepts u u.safety.a m = false ∧ channelAccepts u u.safety.b m = false := by
  refine ⟨upPkt 0x83 (zeros 32), zeros 32, _, received (by decide +kernel) (by decide +kernel), ?_⟩
  rw [afterRx, receive_eq]
  decide +kernel

/-- One channel alone refuses a message: its last sequence number is the message's. -/
theorem w_SafetyMessages_alone : ∃ codes m u, Received 0x83 codes false m (advance 0 (modSide .b (fun c => { c with connOpen := true, everOpen := true, lastSeq := 1 }) hosted)) u ∧
    channelAccepts u u.safety.a m = true ∧ channelAccepts u u.safety.b m = false := by
  refine ⟨upPkt 0x83 (safeMsg 1 1), safeMsg 1 1, _, received (by decide +kernel) (by decide +kernel), ?_⟩
  rw [afterRx, receive_eq]
  decide +kernel

theorem w_SafetyMessagesAndExchange_rest :
    (let s := chA { a0 with straps := 0xFF, connOpen := true, lastMsg := 0 }
     (sideOf s .a).connOpen = true ∧ hostLayerUsed (sideOf s .a) = true ∧
       (sideOf s .a).lastMsg + ms s.legend.safety.expectation ≤ s.now + 0) ∧
    (inStart.phase ≠ .reset ∧ 970 ≤ 1000 ∧ 1000 ≤ 1030 ∧ exchangeDiffers (advance 0 inStart) = false ∧ verdictDiffers inStart = false ∧
      inputDiffers inStart = false ∧ permitDiffers inStart = false) := by decide +kernel

theorem w_InputsAndTestPulse :
    inStart.phase ≠ .reset ∧
    (let s := chA { a0 with straps := 0x20, in1 := { a0.in1 with st := .pendingUp, since := 0 } }
     depotUsed (sideOf s .a) = true ∧ (sideOf s .a).in1.st = .pendingUp ∧
       (sideOf s .a).in1.since + ms s.legend.safety.disc1 ≤ s.now + 0 ∧ (sideOf s (otherSide .a)).in1.st ≠ .discrepancy) ∧
    (let s := chA { a0 with straps := 0x40, in0 := { a0.in0 with st := .pendingDown, since := 0, started := true } }
     coverUsed (sideOf s .a) = true ∧ (sideOf s .a).in0.st = .pendingDown ∧ (sideOf s .a).in0.started = true ∧ s.phase ≠ .reset ∧
       (sideOf s .a).in0.since + ms s.legend.safety.disc0 ≤ s.now + 0 ∧ (sideOf s (otherSide .a)).in0.st ≠ .discrepancy) ∧
    (let s := chA { a0 with straps := 0x80 }
     coverUsed (sideOf s .a) = false ∧ depotUsed (sideOf s .a) = false) ∧
    (let s := chA { a0 with sout := true, lastTest := some (sec 99) }
     s.phase ≠ .reset ∧ testDue .a (advance 0 s) = true ∧ (sideOf s .a).sout = true) ∧
    (let s := chA { a0 with sout := false }
     testDue .a (advance 0 s) = true ∧ (sideOf s .a).sout = false) ∧
    (let s := chA { a0 with testPulse := some 0 }
     (sideOf s .a).testPulse = some 0 ∧ 0 + us 300 ≤ s.now + 0) := by decide +kernel

theorem w_NoPulseWithoutBothPermits :
    step { inMode 1 with pulses := [⟨5, 0, ns 2, none⟩], pending := [.dumpCopy 7] } =
      .next (advance 7 { inMode 1 with pulses := [⟨5, 0, ns 2, none⟩] }) ∧ ∃ x, x ∈ (advance 7 { inMode 1 with pulses := [⟨5, 0, ns 2, none⟩] }).pulses :=
  ⟨by rfl, ⟨5, 0, ns 2, none⟩, by simp⟩

theorem w_PadPulses :
    (let s := { chA { chTurning with permit := true, gapBn := some (sec 100) } with now := sec 100 }
     5 < 32 ∧ ns 3 < ns 20 ∧ s.phase ≠ .reset ∧ bankPermit (sideOf s .a) 5 = true ∧
       pulseImplausible (advance 0 s) (sideOf s .a) (ns 3) = false) ∧
    (31 < 32 ∧ bankPermit (sideOf inStart .a) 31 = false) := by decide +kernel

/-! ## Firing and the receiver -/

/-- The rotor turning at the first slot of a sheet. -/
def atFirst : State :=
  let s := turning (inMode 1)
  { s with seq := { s.seq with period := some 0 } }

theorem w_PeriodsAndSlots :
    (∃ dt, let s := turning (inMode 1)
      s.phase = .mode ∧ s.seq.sheetOpen = true ∧ nextPeriod (periods (tableNow s)) s.seq.period = some 0 ∧
      s.seq.period = none ∧ slotReached (advance dt s) (tableNow s) 0 0 = true) ∧
    (let s := { inMode 1 with seq := { (inMode 1).seq with period := some (periods {} - 1) } }
     s.phase = .mode ∧ s.seq.sheetOpen = true ∧ nextPeriod (periods (tableNow s)) s.seq.period = none) ∧
    slotReached (advance 0 (inMode 1)) (tableNow (inMode 1)) 0 0 = false ∧
    (∃ dt, atFirst.phase = .mode ∧ atFirst.seq.sheetOpen = true ∧ atFirst.seq.period = some 0 ∧
      atFirst.seq.slot < (tableNow atFirst).q ∧ slotReached (advance dt atFirst) (tableNow atFirst) 0 atFirst.seq.slot = true) ∧
    mayFire { atFirst with supply := { atFirst.supply with dip := true } } = false := by
  refine ⟨?_, by decide +kernel, by decide +kernel, ?_, by decide +kernel⟩
  · obtain ⟨dt, h, _⟩ := slot_comes (turning (inMode 1)) rfl rfl (by decide) rfl rfl rfl (tableNow (turning (inMode 1))) 0 0 (by omega)
    exact ⟨dt, rfl, rfl, by decide +kernel, rfl, h⟩
  · obtain ⟨dt, h, _⟩ := slot_comes atFirst rfl rfl (by decide) rfl rfl rfl (tableNow atFirst) 0 0 (by omega)
    exact ⟨dt, rfl, rfl, rfl, by decide +kernel, h⟩

/-- Period `p` comes next, with a round whose outputs are out, and a restart due. -/
def rounds (p : Option Nat) (due : Nat) : State :=
  let s := turning (inMode 1)
  { s with seq := { s.seq with period := p, slot := 6 }
           ambEng := { s.ambEng with unpublished := true, due := due }
           amb := [(1535, { output := some (1, true), estimate := 2 })] }

theorem w_PeriodsAndSlots_rounds :
    (∀ due < 4, ∃ dt, let s := rounds none due
      s.phase = .mode ∧ s.seq.sheetOpen = true ∧ nextPeriod (periods (tableNow s)) s.seq.period = some 0 ∧ s.seq.period = none ∧
      slotReached (advance dt s) (tableNow s) 0 0 = true ∧ s.ambEng.unpublished = true ∧
      s.ambEng.roundStart + us 32 ≤ s.now + dt ∧ (ambOf s 1535).output = some (1, true) ∧ s.ambEng.due = due ∧
      1535 ∉ s.ambEng.dueChans ∧ s.ambEng.presetDue = false) ∧
    ∃ dt, let s := rounds (some 3) 0
      nextPeriod (periods (tableNow s)) s.seq.period = some 4 ∧ (tableNow s).q ≤ s.seq.slot ∧
      slotReached (advance dt s) (tableNow s) 4 0 = true ∧ 4 ≤ 4 ∧ 4 % 4 = 0 ∧ 4 ≠ 0 ∧ s.ambEng.unpublished = true ∧
      s.ambEng.roundStart + us 32 ≤ s.now + dt ∧ (ambOf s 1535).output = some (1, true) := by
  have z (p : Option Nat) (due : Nat) : (rounds p due).now = 0 ∧ (rounds p due).ambEng.roundStart = 0 := ⟨rfl, rfl⟩
  constructor
  · intro due h
    obtain ⟨dt, h, m⟩ := slot_comes (rounds none due) rfl rfl (show r0.legend.scan.poles / r0.legend.scan.facets = 1 by decide) rfl rfl rfl (tableNow (rounds none due)) 0 0 (by omega)
    refine ⟨dt, rfl, rfl, rfl, rfl, h, rfl, ?_, rfl, rfl, List.not_mem_nil, rfl⟩
    rw [(z none due).1, (z none due).2]
    omega
  · obtain ⟨dt, h, m⟩ := slot_comes (rounds (some 3) 0) rfl rfl (by decide) rfl rfl rfl (tableNow (rounds (some 3) 0)) 4 0 (by decide +kernel)
    refine ⟨dt, by decide +kernel, by decide +kernel, h, by omega, rfl, by omega, rfl, ?_, rfl⟩
    rw [(z (some 3) 0).1, (z (some 3) 0).2]
    omega

/-- Bank 0 enabled and permitted, with four shots at bearing 0 in the fire table and limits that no pulse reaches. -/
def lit : State :=
  let s := turning (inMode 1)
  let l : SafetyBlock := { r0.legend.safety with energy := [(0, { e1 := 65535, eSp := 65535, eCell := 65535, e1s := 65535 })] }
  setSide .b { a0 with permit := true } (setSide .a { a0 with permit := true }
    { s with legend := { s.legend with safety := l }
             seq := { s.seq with period := some 0, reg0 := { mode := 1, banks := 1 }, buf0 := (1, [(0, field 6 24 4)]) } })

theorem lit_limits (d : Side) (dt at_ : Nat) :
    overLimit (advance dt lit) (sideOf lit d) 0 (pulseEnergy lit (sideOf lit d) 0) at_ = false := by
  have n : (advance dt lit).pulses = [] := by simp; rfl
  have k : ∀ d, (sideOf lit d).energy = [] := fun d => by cases d <;> rfl
  have w : pulseEnergy lit (sideOf lit d) 0 ≤ limSp lit 0 ∧ pulseEnergy lit (sideOf lit d) 0 ≤ limCell lit 0 ∧
      pulseEnergy lit (sideOf lit d) 0 ≤ lim1s lit 0 := by cases d <;> decide +kernel
  have l1 : limSp (advance dt lit) 0 = limSp lit 0 := by simp [limSp, energyRec]
  have l2 : limCell (advance dt lit) 0 = limCell lit 0 := by simp [limCell, energyRec]
  have l3 : lim1s (advance dt lit) 0 = lim1s lit 0 := by simp [lim1s, energyRec]
  unfold overLimit
  simp only [k, pulsesAhead, n, l1, l2, l3]
  simp [Table.getD, cellSum]
  omega

theorem w_PeriodsAndSlots_fires : ∃ dt,
    lit.phase = .mode ∧ lit.seq.sheetOpen = true ∧ lit.seq.period = some 0 ∧ lit.seq.slot < (tableNow lit).q ∧
    slotReached (advance dt lit) (tableNow lit) 0 lit.seq.slot = true ∧ mayFire lit = true ∧
    (∀ d b x, b < 32 → assigned (advance dt lit) 0 lit.seq.slot b = some x →
      overLimit (advance dt lit) (sideOf lit d) b (pulseEnergy lit (sideOf lit d) b) x.fire = false) ∧
    ∃ x, assigned (advance dt lit) 0 lit.seq.slot 0 = some x ∧ padsPass lit 0 = true ∧ x.q = 0 := by
  obtain ⟨dt, h, _⟩ := slot_comes lit rfl rfl (by decide) rfl rfl rfl (tableNow lit) 0 0 (by omega)
  have t : tableNow (advance dt lit) = tableNow lit := by simp [tableNow, sheetState, regOf, parityNow, modeTable]
  have c : sheetState (advance dt lit) = sheetState lit := by simp [sheetState, regOf, parityNow]
  have f : activeTable (advance dt lit) = activeTable lit := by simp [activeTable]
  have g : bearingOf (tableNow lit) 0 0 = some 0 := by decide +kernel
  have o : lit.seq.slot = 0 := rfl
  refine ⟨dt, rfl, rfl, rfl, by decide +kernel, h, by decide +kernel, ?_, ?_⟩
  · intro d b x hb hx
    have z : b = 0 := by
      rw [o, assigned, t, g] at hx
      simp only [c] at hx
      split at hx
      · rename_i w
        have v : ∀ b < 32, bit b (sheetState lit).banks = true → b = 0 := by decide +kernel
        exact v b hb (Bool.and_eq_true_iff.1 w).1
      · cases hx
    subst z
    exact lit_limits d dt x.fire
  · have s : (bit 0 (sheetState lit).banks && decide (0 < shotsAt (activeTable lit) (tableNow lit) (sheetState lit).cap 0 0)) = true := by
      decide +kernel
    rw [o, assigned, t, g]
    simp only [c, f]
    rw [if_pos s]
    exact ⟨_, rfl, by decide +kernel, rfl⟩

/-- A stop that is due with bearing 9 of bank 0 open in channel 0, and the last window of its bearing 8 still running. -/
def closing : State :=
  { inMode 1 with
    seq := { (inMode 1).seq with stop := some ⟨3, false⟩, reg0 := { mode := 1, groups := 1 } }
    banks := [(0, { opened := [(9, 3)] })]
    chans := [(0, { arm := some { fire := 0, coarse := 0, fine := 0, stop := us 2, tag := 8#64 <<< 32, shot := 0, last := true,
                                  closing := [], converted := 0, noCtx := false, preDone := true } })]
    survey := { r0.survey with ctxs := [(7, { closeCmd := some (2, 3) }), (8, { ph := .marked }), (9, { ph := .opened })] } }

theorem w_CloseCommandsClearTheBanks :
    (closing.seq.stop = some ⟨3, false⟩ ∧ (ctxOf closing 7).closeCmd ≠ none ∧ (ctxOf closing 8).closeCmd = none) ∧
    ((9, 3) ∈ (bankOf closing 0).opened ∧ 0 ∈ bankChans closing 0 ∧ 9 ∉ (chanOf closing 0).noCtx ∧ ctxNumber 0 9 = 9 ∧
      (ctxOf closing 9).ph = .opened ∧ (ctxOf closing 9).closeCmd = none ∧
      ∀ e ∈ (bankOf closing 0).opened, e.1 % 10 = 9 % 10 → e = (9, 3)) ∧
    (∃ a ∈ (chanOf closing 0).arm, a.last = true ∧ a.noCtx = false ∧ tagCtx a.tag = 8 ∧ (ctxOf closing 8).ph = .marked) ∧
    inStart.seq.stop = none :=
  ⟨by decide +kernel, by decide +kernel, ⟨_, rfl, by decide +kernel⟩, by decide +kernel⟩

def arm0 : Arm :=
  { fire := 0, coarse := 0, fine := 0, stop := us 2, tag := 0, shot := 0, last := false, closing := [], converted := 7,
    noCtx := false, preDone := false }

/-- Channel 0 armed at the present instant, with its buffer. -/
def armedChan (l : List Item) : State :=
  { inMode 1 with chans := [(0, { buffer := l, arm := some arm0 })], grat := { r0.grat with outputs := true } }

theorem w_EventsAreConvertedOrTallied :
    gateDeclares (passPre 0 (advance 0 (armedChan []))) 0 [] = false ∧
    overloads (passPre 0 (advance 0 (armedChan []))) 0 [] = false ∧
    (∀ full, let u := passPre 0 (advance 0 (armedChan (if full then List.replicate 8 ⟨0, 0, 0⟩ else [])))
      let c := chanOf u 0
      0 < 1536 ∧ 3 < 20 ∧ (∀ f ∈ [(14, 0), (15, 0)], f.1 < 16) ∧ gateDeclares u 0 [(14, 0), (15, 0)] = true ∧
      overloads u 0 [(14, 0), (15, 0)] = false ∧
      (∃ a ∈ [{ arm0 with preDone := true }], c.arm = some a ∧ a.noCtx = false ∧ a.converted < 8 ∧ a.fire ≤ u.now ∧ u.now < a.stop ∧
        eventOf u 0 3 a = 0 ∧ 0 < (ns (modeTable u u.seq.mode).w : Nat)) ∧
      u.grat.outputs = true ∧ hasRoom (flush (inRecovery u c) u.now c) = !full) := by
  refine ⟨by decide +kernel, by decide +kernel, ?_⟩
  intro full
  cases full <;>
    exact ⟨by decide +kernel, by decide +kernel, by decide +kernel, by decide +kernel, by decide +kernel,
      ⟨{ arm0 with preDone := true }, by decide +kernel⟩, by decide +kernel, by decide +kernel⟩

/-- A ninth event of a shot, and one of a shot without a context. -/
theorem w_EventsAreConvertedOrTallied_left : ∀ a ∈ [{ arm0 with converted := 8 }, { arm0 with noCtx := true }],
    let s := { armedChan [] with chans := [(0, { arm := some a })] }
    let u := passPre 0 (advance 0 s)
    gateDeclares u 0 [(14, 0), (15, 0)] = true ∧ overloads u 0 [(14, 0), (15, 0)] = false ∧
    (chanOf u 0).arm = some { a with preDone := true } ∧ s.grat.outputs = true ∧ a.fire ≤ u.now ∧ u.now < a.stop ∧
    eventOf u 0 3 { a with preDone := true } = 0 ∧ 0 < (ns (modeTable u u.seq.mode).w : Nat) ∧ (8 ≤ a.converted ↔ a.noCtx = false) := by
  decide +kernel

/-- A reading of channel 0 in a round that started at period `p`: `win` pre-windows with 3 events each. -/
def reading0 (v : Ambient) (p : Option Nat) (win : Nat) : State :=
  { inMode 1 with legend := { r0.legend with fir := firDefault }
                  ambEng := { r0.ambEng with round := some p, roundNo := 1 }, amb := [(0, v)]
                  chans := [(0, { ambSum := 3 * win, ambWin := win })] }
def filtering : Ambient := { restarting := false, counts := { s := 6, a := 6 }, windows := { s := 2, a := 2 } }

theorem w_ReceiverCommands_filter :
    (∀ p ∈ [some 12, some 16, none], ∀ preset ∈ [1, 3], ∀ win ∈ [0, 4],
      let v := { filtering with preset := preset, windows := if win = 0 then {} else { s := 2, a := 2 } }
      let s := reading0 v p win
      s.ambEng.round = some p ∧ (ambOf s 0).seen < s.ambEng.roundNo ∧ s.ambEng.roundStart + ns (500 * (0 % 64)) ≤ s.now + 0 ∧
      ((chanOf (passPre 0 (advance 0 s)) 0).ambWin : Rat) = win ∧ v.restarting = false ∧ v.waiting = false ∧
      (match p with | none => true | some q => decide (q % decimation v.preset = 0)) = decide (p ≠ some 12) ∧
      (0 < (pathFeed win v.windows).s ↔ win = 4)) ∧
    ({ filtering with waiting := true }.waiting = true ∧ 3 ≤ ({ filtering with held := 3 } : Ambient).held) := by
  decide +kernel

/-- The filter's value of its first full block is above zero. -/
theorem w_ReceiverCommands_value :
    0 < firValue ((reading0 filtering none 4).legend.fir.getD 1 []) (pathEnd (blockReadings 1) (pathFeed 4 filtering.windows)) := by
  have c : ((reading0 filtering none 4).legend.fir.getD 1 []).headD 0 > 0 := by decide +kernel
  obtain ⟨k, l, h⟩ : ∃ k l, (reading0 filtering none 4).legend.fir.getD 1 [] = k :: l := List.exists_cons_of_ne_nil (by decide +kernel)
  rw [h] at c ⊢
  have p : 0 < k := c
  have q : (0 : Rat) < k := by exact_mod_cast p
  simp [firValue, pathEnd, pathFeed, filtering, blockReadings, decimation]
  linarith

theorem w_ReceiverCommands_restart :
    (∀ q ∈ [15, 16], ∀ win ∈ [0, 4],
      let v := { filtering with restarting := true, restartAt := some 0 }
      let s := reading0 v (some q) win
      s.ambEng.round = some (some q) ∧ v.restarting = true ∧ (16 ≤ restartPeriods q v ↔ q = 16) ∧
      (modeTable s s.seq.mode).preset ≠ 3 ∧ (0 < v.settle.2 + (win : Rat) ↔ win = 4)) ∧
    (reading0 { filtering with restarting := true } none 4).ambEng.round = some none := by decide +kernel

theorem w_ReceiverCommands :
    (let s := { armedChan [] with now := us 2 }
     ∃ a, (chanOf (passPre 0 (advance 0 s)) 0).arm = some a ∧ a.stop ≤ s.now + 0) ∧
    (let s := { inMode 1 with now := us 2, chans := [(1535, { recovery := some (us 2) })] }
     1535 < 1536 ∧ (chanOf s 1535).recovery = some (us 2) ∧ us 2 ≤ s.now + 0) ∧
    ((chanOf r0 0).buffer.length ≤ 8 ∧ (chanOf r0 0).hold.length ≤ 10) ∧
    (let s := { inMode 1 with ambEng := { r0.ambEng with round := some none, roundNo := 1 } }
     ∃ p, s.ambEng.round = some p ∧ (ambOf s 64).seen < s.ambEng.roundNo ∧
       s.ambEng.roundStart + ns (500 * (64 % 64)) ≤ s.now + 0) ∧
    (let s := armedChan []
     let fired := (List.range 12).map (fun k => (k, 21))
     (∀ f ∈ fired, f.1 < 16) ∧ (chanOf s 0).arm ≠ none ∧ nearRaised s 0 fired = true) := by
  refine ⟨⟨{ arm0 with preDone := true }, by decide +kernel⟩, by decide +kernel, by decide +kernel, ⟨none, by decide +kernel⟩, by decide +kernel⟩

/-! ## Survey engines -/

/-- Engine 0 serves group 0; channel 0's buffer begins with `i`; context `x` holds `v`. -/
def serving (i : Item) (x : Nat) (v : Ctx) : State :=
  { inMode 1 with
    chans := [(0, { buffer := [i] })]
    survey := { r0.survey with engines := [(0, { group := some 0 })], ctxs := [(x, v)] } }

/-- An item of context 5, bearing 9, parity 1, with time `t`. -/
def item (kind t : Nat) : Item :=
  ⟨kind, BitVec.ofNat 64 (field 16 46 t + field 14 32 5 + field 1 23 1 + field 12 11 9), 0⟩
def openCtx : Ctx := { ph := .opened, bearing := 9, parity := true, planned := 4 }

theorem w_StrayItemsTouchNothing :
    ∀ kind < 3, let s := serving (item kind 0) 5 { openCtx with bearing := 10 }
      engineWorks (engineOf s 0) = true ∧ (engineOf s 0).markers = [] ∧ nextGrant s 0 = some (0, item kind 0) ∧
      (ctxOf s (tagCtx (item kind 0).word)).bearing ≠ itemBearing (item kind 0) ∧ (item kind 0).kind = kind := by
  decide +kernel

theorem w_EventItemAddsToItsBin :
    let s := serving (item 0 65535) 5 openCtx
    engineWorks (engineOf s 0) = true ∧ (engineOf s 0).markers = [] ∧ nextGrant s 0 = some (0, item 0 65535) ∧
    (item 0 65535).kind = 0 ∧ itemValid s (item 0 65535) = true ∧
    (∀ y, (ctxOf s (tagCtx (item 0 65535).word)).extra = some y → 15360 ≤ y) ∧ tagCtx (item 0 65535).word = 5 ∧
    itemTime (item 0 65535) / 64 = 1023 := by
  refine ⟨by decide +kernel, by decide +kernel, by decide +kernel, by decide +kernel, by decide +kernel, ?_,
    by decide +kernel, by decide +kernel⟩
  intro y h
  cases (show (none : Option Nat) = some y from h)

def marker (kind : Nat) : Marker :=
  { kind := kind, ctx := 5, channel := 0, bearing := 9, parity := true, mode := 1, planned := 4, openTime := 0,
    estimate := 0, settled := true, restarting := false, reassigned := false }

theorem w_MarkersAreApplied : ∀ kind < 4,
    let s := { inMode 1 with survey := { r0.survey with engines := [(67, { st := 2, group := some 63, markers := [marker kind] })] } }
    engineWorks (engineOf s 67) = true ∧ (engineOf s 67).markers = marker kind :: [] ∧ (marker kind).kind = kind := by
  decide +kernel

/-- An open marker whose background fits, and one whose background does not. -/
theorem w_MarkersAreApplied_background :
    (((marker 0).planned * 2 ^ 0 : Nat) * (marker 0).estimate / 50 : Rat) ≤ 65535 / 4096 ∧
    (65535 / 4096 : Rat) < ((32 : Nat) * 2 ^ 0 : Nat) * ({ marker 0 with estimate := 34 } : Marker).estimate / 50 := by
  norm_num [marker]

/-- An event item of shot `q` and time `t`, granted to the context `v` with bin 100 at 1. -/
def shotItem (q t : Nat) : Item := ⟨0, BitVec.ofNat 64 (field 16 46 t + field 14 32 5 + field 5 27 q + field 1 23 1 + field 12 11 9), 0⟩
def tracked : Ctx := { openCtx with planned := 8, coarse := [(100, 1)] }
def peak (bin value : Nat) : Peak := { valid := true, bin := bin, value := value }
def win (z : Nat) : Win := { valid := true, z := z, from_ := 2 }
def tracking (q t : Nat) (v : Ctx) : State := serving (shotItem q t) 5 v

/-- What every witness of EVENT_ITEM needs. -/
def Granted (q t : Nat) (v : Ctx) : Prop :=
  engineWorks (engineOf (tracking q t v) 0) = true ∧ (engineOf (tracking q t v) 0).markers = [] ∧
  nextGrant (tracking q t v) 0 = some (0, shotItem q t) ∧ (shotItem q t).kind = 0 ∧ itemValid (tracking q t v) (shotItem q t) = true ∧
  tagCtx (shotItem q t).word = 5 ∧ ctxOf (tracking q t v) 5 = v ∧ itemShot (shotItem q t) = q ∧ itemTime (shotItem q t) = t ∧
  (modeTable (tracking q t v) v.mode).n0 = 2 ∧ 2 ^ (modeTable (tracking q t v) v.mode).scale = 1

/-- Peaks: below n_0; at an entry's bin; beside an entry below and above the bin's value; a free entry; four entries, the least
below and not below the value. -/
theorem w_MarkersAreApplied_peaks :
    (Granted 1 64 tracked ∧ 64 / 64 < 2) ∧ min 4095 (Table.getD 0 tracked.coarse 100 + 1) = 2 ∧
    (∀ l ∈ [[peak 100 1, {}, {}, {}], [peak 99 1, {}, {}, {}], [peak 101 5, {}, {}, {}], [{}, {}, {}, {}],
        [peak 10 1, peak 20 2, peak 30 3, peak 40 4], [peak 10 2, peak 20 2, peak 30 3, peak 40 4]],
      Granted 1 6400 { tracked with peaks := l }) ∧
    ((peakAt [peak 100 1, {}, {}, {}] 0).valid = true ∧ (peakAt [peak 100 1, {}, {}, {}] 0).bin = 6400 / 64) ∧
    (∀ p ∈ [peak 99 1, peak 101 5], p.bin + 1 = 100 ∨ 100 + 1 = p.bin) ∧ (peak 99 1).value < 2 ∧ 2 ≤ (peak 101 5).value ∧
    (peak 10 1).value < 2 ∧ ¬(peak 10 2).value < 2 := by
  unfold Granted
  decide +kernel

/-- Windows: the first placement; an event after it inside a window; a new peak's own window, the lowest free one, one in a
re-zoom context, and none free. -/
theorem w_MarkersAreApplied_windows :
    Granted 2 6400 { tracked with peaks := [peak 100 1, {}, {}, {}] } ∧
    (let v := { tracked with placed := 2, wins := [win 3190, {}, {}, {}] }
     Granted 3 6400 v ∧ 2 * (v.wins.getD 0 {}).z ≤ 6400 ∧ 6400 ≤ 2 * (v.wins.getD 0 {}).z + 63 ∧ (v.wins.getD 0 {}).from_ ≤ 3) ∧
    (∀ w ∈ [[{}, {}, {}, {}], [win 10, {}, {}, {}], [win 10, win 50, win 90, win 130]],
      let v := { tracked with placed := 2, wins := w }
      Granted 3 6400 v ∧ 3 + 2 ≤ v.planned ∧ (∀ x ∈ v.wins, covers x 100 = false) ∧ v.extra = none ∧ v.extras < 4 ∧
        (∀ j < 4, (peakAt v.peaks j).valid = false) ∧ 0 < v.wins.length) ∧
    freeRezoom (tracking 3 6400 tracked) = some 15360 := by
  unfold Granted
  decide +kernel

/-- A pool with no free context. -/
theorem w_MarkersAreApplied_full :
    let s := tracking 3 6400 { tracked with placed := 2, wins := [win 10, win 50, win 90, win 130] }
    freeRezoom { s with survey := { s.survey with ctxs := s.survey.ctxs ++ (List.range 256).map (fun k => (15360 + k, openCtx)) } }
      = none := by decide +kernel

/-- The foreign count: the second of two events of one shot 96 units apart, and one that is not. -/
theorem w_MarkersAreApplied_foreign :
    (∀ prev ∈ [some (2, 6304, true), some (2, 6200, true), some (1, 6304, true), none],
      Granted 2 6400 { tracked with coarse := [], placed := 2, prev := prev }) ∧
    6304 + 96 ≤ 6400 ∧ 6400 ≤ 6304 + 128 ∧ 6200 + 128 < 6400 := by
  unfold Granted
  decide +kernel

theorem w_DropsAndCloses :
    (let s := serving (item 1 3) 5 openCtx
     engineWorks (engineOf s 0) = true ∧ (engineOf s 0).markers = [] ∧ nextGrant s 0 = some (0, item 1 3) ∧
       itemValid s (item 1 3) = true ∧ (item 1 3).kind = 1) ∧
    (let s := serving (item 2 3) 5 { openCtx with applied := 1, dropped := 2 }
     nextGrant s 0 = some (0, item 2 3) ∧ itemValid s (item 2 3) = true ∧ (item 2 3).kind = 2 ∧
       (ctxOf s (tagCtx (item 2 3).word)).closeCmd = none ∧
       (ctxOf s (tagCtx (item 2 3).word)).applied + (ctxOf s (tagCtx (item 2 3).word)).dropped = itemTime (item 2 3)) ∧
    (∀ taken ∈ [1, 2], let s := serving (item 2 3) 5 { openCtx with closeCmd := some (3, taken) }
     nextGrant s 0 = some (0, item 2 3) ∧ itemValid s (item 2 3) = true ∧
       (ctxOf s (tagCtx (item 2 3).word)).closeCmd = some (3, taken) ∧
       (taken = 2 ↔ (ctxOf s (tagCtx (item 2 3).word)).planned ≤ 2 * taken)) := by decide +kernel

theorem w_EnginesFailAndAreReplaced :
    (let s := serving (item 0 0) 5 openCtx
     engineWorks (engineOf s 0) = true ∧ grantWithheld (advance (us 2 + 1) s) 0 = true) ∧
    (let s := inMode 1
     testMayRun (advance (us 1) s) 0 = true ∧ engineWorks (engineOf s 0) = true) ∧
    (let s := { inMode 1 with survey := { r0.survey with engines := [(0, { st := 3, group := some 0 }), (64, { st := 1 })]
                                                         failures := [0] } }
     s.survey.failures = 0 :: [] ∧ (engineOf s 0).group = some 0 ∧ idleSpare s = some 64) ∧
    (let s := { inMode 1 with survey := { r0.survey with engines := [(0, { st := 3, group := some 0 }),
                                                                     (64, { st := 3 }), (65, { st := 3 }), (66, { st := 3 }), (67, { st := 3 })]
                                                         failures := [0] } }
     s.survey.failures = 0 :: [] ∧ (engineOf s 0).group = some 0 ∧ idleSpare s = none) := by decide +kernel

/-- Engine 0 has failed with a marker waiting and a context of its group 0 open; spare 64 is idle, or no spare is. -/
def losing (spare : Nat) (l : List Marker) : State :=
  { inMode 1 with survey := { r0.survey with
      engines := [(0, { st := 3, group := some 0, markers := l }), (64, { st := spare }), (65, { st := 3 }), (66, { st := 3 }), (67, { st := 3 })]
      ctxs := [(5, tracked)], failures := [0] } }

theorem w_EnginesFailAndAreReplaced_contexts :
    ((losing 1 [marker 0]).survey.failures = 0 :: [] ∧ idleSpare (losing 1 [marker 0]) = some 64 ∧ 64 ≠ 0 ∧
      (engineOf (losing 1 [marker 0]) 0).group = some 0 ∧ (ctxOf (losing 1 [marker 0]) 5).ph = .opened ∧ 5 < 240 * 0 + 240) ∧
    (idleSpare (losing 3 []) = none ∧ (engineOf (losing 3 []) 0).group = some 0 ∧ (engineOf (losing 3 []) 0).markers = [] ∧
      counterOf (losing 3 []) (.discardedContexts 0) < 2 ^ 32 ∧ (ctxOf (losing 3 []) 5).ph = .opened) := by decide +kernel

theorem w_EnginesFailAndAreReplaced_pool (x y : Nat) : (ctxOf (losing 3 []) x).extra = some y → 15360 ≤ y := by
  intro h
  have z : (ctxOf (losing 3 []) x).extra = none := by
    have e : (losing 3 []).survey.ctxs = [(5, tracked)] := rfl
    unfold ctxOf Table.getD
    rw [e]
    by_cases k : x = 5
    · subst k; rfl
    · have k2 : 5 ≠ x := fun h => k h.symm
      simp [Table.getD, k2]
  rw [z] at h
  cases h

/-! ## Contour units, packetiser, gap -/

def work : Work := { ctx := none, head := {}, order := 3 }

theorem w_ContourUnitsServeTheOldest :
    (let s := { inMode 1 with contour := { r0.contour with again := [work] } }
     (unitOf s 15).failed = false ∧ (unitOf s 15).item = none ∧ s.contour.again = work :: []) ∧
    (let s := { inMode 1 with survey := { r0.survey with engines := [(67, { closed := [work] })] } }
     s.contour.again = [] ∧ oldestQueue s = some (67, work)) ∧
    (let s := { inMode 1 with contour := { r0.contour with units := [(15, { item := some work })] } }
     (unitOf s 15).failed = false ∧ (unitOf s 15).item = some work ∧ classified s (unitOf s 15) work = false ∧
       ownWorkFrom (advance (us 10 + 1) s) (unitOf s 15) work = some 0 ∧ 0 + us 10 < s.now + (us 10 + 1)) ∧
    (let w := { work with ctx := some 5, head := { bearing := 1, channel := 1 } }
     let s := { inMode 1 with contour := { r0.contour with units := [(15, { item := some w })] }
                              survey := { r0.survey with ctxs := [(5, { ph := .queued, cause := 1 })] }
                              seq := { r0.seq with reg0 := { r0.seq.reg0 with groups := 2 ^ 64 - 1 } } }
     (unitOf s 15).item = some w ∧ (unitOf s 15).failed = false ∧ classified s (unitOf s 15) w = true ∧
       allPosted s w.head = false ∧ (ctxOf s 5).copies = 0 ∧
       allPosted { s with survey := { s.survey with lost := List.range 64 } } w.head = true) ∧
    (inGap (inMode 1) = true ∧ (unitOf (inMode 1) 15).failed = false ∧ (unitOf (inMode 1) 15).item = none ∧
      (unitOf (inMode 1) 15).freed + us 1 ≤ (inMode 1).now + us 1) := by
  decide +kernel

/-- A sheet on its way out. -/
def sheetOut : SheetOut :=
  { sheet := 1, parity := true, mode := 1, state := {}, bn := 0, head := [], due := [], waiting := [], packets := 0,
    records := 0, dropped := 0, cutRecords := 0, session := some 1, aad := [], ended := true, trailed := false, nearest := [],
    delivered := [], released := [], valueDone := false }
def record : Record :=
  { offset := 0, primary := 0, planned := 4, taken := 4, flags := {}, bearing := 7, channel := 0, echoes := [] }

/-- Unit 15 holds the context 5 of a point with one peak of 40 at bin 100 over no background, its neighbours lost; the sheet is
out.  With `bare` the read has failed. -/
def measuring (bare : Bool) : State :=
  let w := { work with ctx := some 5, head := { bearing := 7, channel := 0 } }
  { inMode 1 with
    contour := { r0.contour with units := [(15, { item := some w, ecc := bare })], sheets := [{ sheetOut with sheet := 0, due := [(0, 7, 0)] }] }
    survey := { r0.survey with lost := List.range 64
                               ctxs := [(5, { ph := .queued, cause := 1, bearing := 7, planned := 4, taken := 4, mode := 1, threshold := 3,
                                              coarse := [(100, 40)], peaks := [peak 100 40, {}, {}, {}] })] } }

theorem w_ContourUnitsServeTheOldest_records : ∀ bare, ∃ w,
    (unitOf (measuring bare) 15).failed = false ∧ (unitOf (measuring bare) 15).item = some w ∧ w.ctx = some 5 ∧
    (classified (measuring bare) (unitOf (measuring bare) 15) w = false ∨ allPosted (measuring bare) w.head = true) ∧
    (ctxOf (measuring bare) 5).copies = 0 ∧ (ctxOf (measuring bare) 5).cause ≠ 4 ∧ (unitOf (measuring bare) 15).ecc = bare ∧
    (sheetOutOf (measuring bare) (sheetOfParity (measuring bare) (ctxOf (measuring bare) 5).parity)).isSome = true := by
  intro bare
  cases bare <;> exact ⟨_, rfl, rfl, rfl, by decide +kernel⟩

theorem w_PacketiserReleasesInOrder :
    (∀ session ∈ [none, some 1], let o := { sheetOut with waiting := [(63, 7, record)], session := session }
     let s := linkUp { inMode 1 with contour := { r0.contour with sheets := [o] } }
     s.contour.sheets = o :: [] ∧ o.trailed = false ∧ releasable o 63 = some 7 ∧ s.link.downDeclared = false ∧
       bit 63 o.state.cut = false ∧ bufferFits s (pktBytes (streamPkt 0x02 o.sheet (pointBody o 63 7 (recordsAt o 63 7)))) = true) ∧
    (sheetOut.due = [] ∧ sheetOut.waiting = [] ∧ sheetOut.ended = true ∧ halted.phase = .safeStop ∧ noneOpen halted = true) ∧
    (let s := { inMode 1 with link := { r0.link with downDeclared := false }, sec := { r0.sec with session := some k1 }
                              survey := { r0.survey with dumpQueue := [(5, 0, 1, 0)] } }
     s.survey.dumpQueue = (5, 0, 1, 0) :: [] ∧ portTaken s = false ∧ s.link.downDeclared = false ∧ s.sec.session ≠ none ∧
       portTaken { s with contour := { s.contour with again := [work] } } = true) ∧
    r0.sec.session = none := by decide +kernel

/-- Bank 31 on a board of its own, with both permits, its frame sent and the window open. -/
def boarded : State :=
  let s := { inMode 1 with legend := { r0.legend with boards := [{ banks := [31] }] } }
  setSide .b { a0 with permit := true } (setSide .a { a0 with permit := true }
    { s with motor := { s.motor with interval := 100000000 }, grat := { s.grat with outputs := true }
             chain := { s.chain with window := true, frameAt := some 0, frame := [0] }
             banks := [(31, { enable := true, windowOutcome := some 4, base := 3, last := 1, run := 1 })] })

theorem w_GapDiagnostics :
    (inGap (inMode 1) = true ∧ (inMode 1).chain.sent = false ∧ (inMode 1).seq.bn + us 50 ≤ (inMode 1).now + us 50 ∧
      lineFree (advance (us 50) (inMode 1)) = true) ∧
    (31 < 32 ∧ (List.replicate 48 [(15, 0)]).length = 48 ∧ (∀ l ∈ List.replicate 48 [(15, 0)], ∀ f ∈ l, f.1 < 16) ∧
      inGap boarded = true ∧ boarded.chain.window = true ∧
      ((windowOrder boarded).drop boarded.chain.visited.length).head? = some 31 ∧
      slotEnd (advance (us 300) boarded) ≤ boarded.now + us 300 ∧ slotFits (advance (us 300) boarded) = true ∧
      padsPass boarded 31 = true ∧ dipInSlot (advance (us 300) boarded) = false ∧
      boardOf boarded 31 ∉ boarded.chain.muxLost ∧ boarded.grat.outputs = true) ∧
    (∀ o ∈ [1, 2, 4, 5],
      let s := { boarded with banks := [(31, { enable := true, windowOutcome := some o, base := 3, last := o, run := 1 })]
                              chain := { boarded.chain with visited := [31] } }
      windowEnds (advance (us 300) s) = true ∧ (bankOf s 31).windowOutcome = some o ∧ 31 ∉ slotsLeft s ∧
      (bankOf s 31).last = o ∧ 1 ≤ (bankOf s 31).run ∧ (bankOf s 31).base ≠ o) ∧
    (let s := setSide .a { a0 with permit := false } boarded; padsPass s 31 = false) ∧
    (∀ width ∈ [ns 39, ns 40],
      let u := advance (us 300) boarded
      let s := { boarded with chain := { boarded.chain with slotLit := true }
                              pulses := [{ bank := 31, at_ := padEdge u 31 (diagFire u), width := width, code := none }] }
      s.chain.slotLit = true ∧ (slotCut 31 none (advance (us 300) s) ≠ none ↔ width = ns 39)) ∧
    dipInSlot (advance (us 300) { boarded with supply := { boarded.supply with dip := true } }) = true := by decide +kernel

/-! ## Calibration -/

def run0 : Run := { kind := 0, judged := true, taSum := 0 }
/-- In mode `m`'s gap, 100 us after the close of its window, a run in hand; bank 31 on its board, with both permits. -/
def running (m : Nat) (r : Run) : State :=
  setSide .b { a0 with permit := true } (setSide .a { a0 with permit := true }
    { inMode m with
      now := us 100, motor := { r0.motor with interval := 15000000 }, seq := { (inMode m).seq with bn := us 90 }
      chain := { r0.chain with sent := true, closed := some 0 }, calib := { r0.calib with run := some r }
      legend := { r0.legend with boards := [{ banks := [31] }] } })

def refRun : Run := { run0 with step := 5, refOk := true }

theorem w_CalibrationSegments :
    (∀ step ∈ [2, 3], let s := running 1 { run0 with step := step }
     s.calib.run = some { run0 with step := step } ∧ coreDue (advance 0 s) = true ∧
       runWorks s { run0 with step := step } = true) ∧
    (let s := running 1 refRun
     let u := advance 0 s
     s.calib.run = some refRun ∧ opticalDue u = true ∧ bothPermits s = true ∧ refWorks u refRun = true ∧
       s.safety.a.nearVeto = [] ∧ s.safety.b.nearVeto = [] ∧ calShots u ≠ [] ∧ s.bias.stepped = false ∧
       bothPermits { s with bias := { s.bias with stepped := true } } = true ∧
       (∀ n < (calShots u).length, ∀ x ∈ (calShots u)[n]?, ∀ d ∈ [Side.a, Side.b],
         overLimit { u with pulses := (((calShots u).take n).filter (fun x => padsPass u x.1)).map (fun x =>
             { bank := x.1, at_ := padEdge u x.1 (calFire u x.1 x.2), width := ns 2, code := some (diagCode u x.1) }) }
           (sideOf u d) x.1 (pulseEnergy u (sideOf u d) x.1) (calFire u x.1 x.2) = false)) ∧
    (∀ n ∈ [0, 1023], let r := { run0 with kind := 4, step := 1, pairs := List.replicate n 0 }
     (running 4 r).calib.run = some r ∧ r.kind = 4 ∧ r.step = 1 ∧ r.pairs.length = n) := by decide +kernel

theorem w_CalibrationJudgement :
    (∀ kind ∈ [0, 4], let r := { run0 with kind := kind, step := 7, judged := decide (kind = 4) }
     let s := running 1 r
     s.calib.run = some r ∧ r.step = 7 ∧ s.calib.candidate = none ∧ s.nor.present = true ∧
       judgeRun (advance 0 s) r (candidateOf (advance 0 s) r) = (if kind = 4 then 6 else 0)) ∧
    (let r := { run0 with gapTime := ms 200 }
     (running 1 r).calib.run = some r ∧ r.kind ≠ 4 ∧ ms 200 ≤ gapTime (advance 0 (running 1 r)) r) := by decide +kernel

/-! ## Sensors, bias, auxiliary inputs, distance -/

theorem w_SensorReadings :
    (List.replicate 16 (some 540)).length = 16 ∧ inStart.phase ≠ .reset ∧
    (let s := { inStart with thermal := { r0.thermal with hot := 1 } }
     s.thermal.shutdown = false ∧ 1 ≤ s.thermal.hot ∧ s.grat.st ≠ .coasting ∧ s.thermal.lastRead = none) ∧
    (∀ fast ∈ [none, some 0], let s := { inStart with thermal := { r0.thermal with lastRead := some 0, fast := fast } }
     let period := if fast.isSome then ms 1 else ms 10
     s.thermal.lastRead = some 0 ∧ 0 + (if s.thermal.fast.isSome then ms 1 else ms 10) ≤ s.now + period ∧
       s.now + (period - 1) < 0 + (if s.thermal.fast.isSome then ms 1 else ms 10)) := by decide +kernel

theorem w_BiasFaultsAndUrgentRequests :
    (inStart.phase = .start ∧ inStart.bias.fault = 0 ∧ (inMode 1).phase = .mode) ∧
    (let s := { inMode 1 with bias := { r0.bias with on := true } }
     s.phase ≠ .reset ∧ s.bias.fault = 0 ∧ readbackDue (advance (ms 100) s) = true ∧ s.aux.urgent.length < 4) ∧
    (∀ l ∈ [[], [false, false, false], [false, false, false, false], [true]],
     let s := { inMode 1 with aux := { r0.aux with urgent := l } }
     s.phase ≠ .reset ∧ (true ∈ s.aux.urgent ↔ l = [true]) ∧ (s.aux.urgent.length < 4 ↔ l.length ≠ 4)) := by decide +kernel

def conv (input range : Nat) : Conv :=
  { input := input, range := range, urgent := false, again := false, bias := false, exc := false, begun := 0, settle := 0, integrate := 0 }
def converting (c : Conv) : State := { inMode 1 with aux := { r0.aux with cur := some c } }

theorem w_AuxiliaryConversions_beyond :
    (let c := conv 3 2
     let s := converting c
     s.aux.cur = some c ∧ convEnd c ≤ s.now + us 20 ∧ c.input < 16 ∧ (auxEntry s c.input).range = 0 ∧ c.range < 3 ∧ s.aux.refFault = false ∧
       overRange (convCode 2000000 500 c.range) = true ∧ s.aux.serving = [] ∧ s.aux.urgent = []) := by decide +kernel

theorem w_AuxiliaryConversions :
    (let c := conv 12 3
     let s := converting c
     s.aux.cur = some c ∧ convEnd c ≤ s.now + us 20 ∧ 3 ≤ c.range ∧ c.input < 17 ∧ s.aux.repeat_ = none ∧
       (auxEntry s c.input).range = 0 ∧ s.aux.refFault = false) ∧
    (converting (conv 17 3)).aux.cur = some (conv 17 3) ∧
    (let s := { converting (conv 3 3) with aux := { (converting (conv 3 3)).aux with serving := [conv 4 3] } }
     s.aux.serving = conv 4 3 :: []) ∧
    (∀ q, let s := { converting (conv 3 3) with aux := { (converting (conv 3 3)).aux with urgent := [q] } }
     s.aux.serving = [] ∧ s.aux.urgent = q :: []) := by decide +kernel

/-- One zone over everything; one bearing, lit by bank 0. -/
def zone : Zone := { enable := true, lastRow := 95, lastCol := 15, lastBe := 3 }
def distant (nearest : Table Nat) (zones : List Zone) : State :=
  { inMode 1 with
    legend := { r0.legend with dist := [(1, { zones := zones })], modes := [(1, { nb := 1 })], fire := [(1, [(0, field 6 24 4)])] }
    contour := { r0.contour with sheets := [{ sheetOut with nearest := nearest }] } }

theorem w_DistanceOutput_values : ∀ zones ∈ [[], [{}]], ∀ nearest ∈ [[], [(0, 7)]],
    let s := distant nearest zones
    let o := { sheetOut with nearest := nearest }
    readySheet s = some o ∧ distOf s o.mode = some { zones := zones } ∧
    (∀ z ∈ zones, zoneBlind s o z 0 = false) := by decide +kernel

theorem w_DistanceOutput_blind :
    let s := distant [] [zone]
    readySheet s = some sheetOut ∧ distOf s sheetOut.mode = some { zones := [zone] } ∧ ([zone])[0]? = some zone ∧
    zoneBlind s sheetOut zone 0 = true := by decide +kernel

theorem w_DistanceOutput_output :
    (∀ freq, ∀ out ∈ [Near.clear, .noData, .object 1 0],
      let s := { inMode 1 with legend := { r0.legend with dist := [(1, { freq := freq })] }, near := { r0.near with next := out } }
      s.phase ≠ .reset ∧ nearEdge (advance 0 s) ≤ s.now + 0 ∧ (distInForce s).freq = freq ∧ nearShown s = out) ∧
    (0 : Rat) < 1000 ∧
    (let s := { inMode 1 with near := { r0.near with lastValue := 0 }, now := 3 * sheetTaps r0 }
     s.phase ≠ .reset ∧ s.near.lastValue + 3 * sheetTaps (advance 0 s) ≤ s.now + 0) := by decide +kernel

/-! ## Image -/

/-- `s` with `l` in the NOR flash from `a` on. -/
def flashed (l : List Byte) (a : Nat) (s : State) : State :=
  { s with nor := { s.nor with mem := l.zipIdx.map (fun e => (a + e.2, e.1)) } }

theorem norBytes_zipIdx (a : Nat) : ∀ (l : List Byte) (k : Nat),
    norBytes l.length (a + k) ((l.zipIdx k).map (fun e => (a + e.2, e.1))) = l
  | [], _ => rfl
  | v :: r, k => by
    rw [List.zipIdx_cons, List.map_cons, List.length_cons, norBytes, if_pos rfl, Nat.add_assoc, norBytes_zipIdx a r (k + 1)]

theorem norRead_flashed (l : List Byte) (a : Nat) (s : State) : norRead (flashed l a s) a l.length = l := by
  have f : norFrom a (flashed l a s).nor.mem = l.zipIdx.map (fun e => (a + e.2, e.1)) := by
    unfold norFrom flashed
    rw [List.filter_eq_self]
    simp
    intro b v h e _
    omega
  unfold norRead
  rw [f]
  exact norBytes_zipIdx a l 0

/-- A sealed page of the start counter, under the key given. -/
def startRec (k : List Byte) : List Byte :=
  zeros 12 ++ zeros 8 ++ gcmCrypt k (zeros 12) (zeros 8) ++ gcmTag k (zeros 12) (zeros 8) (gcmCrypt k (zeros 12) (zeros 8))

theorem page_opens {k iv hdr C T : List Byte} (i : iv.length = 12) (h : hdr.length = 8) (c : C.length = 8)
    (t : T.length = 16) (g : gcmTag k iv hdr C = T) : ∃ e, openPage k 8 8 (iv ++ hdr ++ C ++ T) = some e := by
  have s1 : (iv ++ hdr ++ C ++ T).take 12 = iv := by rw [List.append_assoc, List.append_assoc, List.take_append_of_le_length (by omega), List.take_of_length_le (by omega)]
  have s2 : slice (iv ++ hdr ++ C ++ T) 12 8 = hdr := by have e := slice_at iv hdr (C ++ T); rw [i, h, ← List.append_assoc] at e; exact e
  have s3 : slice (iv ++ hdr ++ C ++ T) (12 + 8) 8 = C := by
    rw [show 12 + 8 = (iv ++ hdr).length by simp [i, h], ← c]; exact slice_at _ _ _
  have s4 : slice (iv ++ hdr ++ C ++ T) (12 + 8 + 8) 16 = T := by
    have e := slice_at (iv ++ hdr ++ C) T []
    rwa [List.append_nil, t, show (iv ++ hdr ++ C).length = 12 + 8 + 8 by simp [i, h, c]] at e
  have o : gcmOpen k iv hdr C T = some (gcmCrypt k iv C) := if_pos g
  clear g
  generalize gcmCrypt k iv C = D at o
  refine ⟨(hdr, D), ?_⟩
  generalize iv ++ hdr ++ C ++ T = l at s1 s2 s3 s4
  generalize hF : gcmOpen = F at o
  unfold openPage
  simp only [s1, s2, s3, s4, hF, o]

/-- The state whose key is unwrapped. -/
def keyed : State := { inStart with sec := { inStart.sec with d := unwrapKey inStart.otp } }

theorem startRec_len : (startRec (kNor keyed)).length = 44 ∧ (startRec (kNor keyed)).all (· == 0xFF#8) = false ∧
    (gcmCrypt (kNor keyed) (zeros 12) (zeros 8)).length = 8 ∧
    (gcmTag (kNor keyed) (zeros 12) (zeros 8) (gcmCrypt (kNor keyed) (zeros 12) (zeros 8))).length = 16 ∧
    inStart.otp.wrapped.length = 32 := by decide +kernel

theorem startRec_opens : ∃ e, openPage (kNor keyed) 8 8 (startRec (kNor keyed)) = some e := by
  unfold startRec
  exact page_opens (by decide +kernel) (by decide +kernel) startRec_len.2.2.1 startRec_len.2.2.2.1 (by exact Eq.refl _)

theorem norRead_flashed' (l : List Byte) (a : Nat) (f : Security → Security) :
    norRead { flashed l a inStart with sec := f (flashed l a inStart).sec } a l.length = l := norRead_flashed l a inStart

theorem kNor_flashed (l : List Byte) (a : Nat) :
    kNor { flashed l a inStart with sec := { (flashed l a inStart).sec with d := unwrapKey (flashed l a inStart).otp } } =
      kNor keyed := rfl

theorem w_ImageVerification_starts :
    let s := flashed (startRec (kNor keyed)) 0x430000 inStart
    startRecords { s with sec := { s.sec with d := unwrapKey s.otp } } ≠ [] := by
  obtain ⟨e, h⟩ := startRec_opens
  obtain ⟨n, a, _⟩ := startRec_len
  intro s
  have r := norRead_flashed' (startRec (kNor keyed)) 0x430000 (fun q => { q with d := unwrapKey s.otp })
  have g := kNor_flashed (startRec (kNor keyed)) 0x430000
  rw [n] at r
  refine List.ne_nil_of_mem (a := (0, leAt e.2 0 8)) (List.mem_filterMap.2 ⟨0, by decide, ?_⟩)
  simp only [Nat.mul_zero, Nat.add_zero]
  rw [r, a, g, h]
  rfl

/-- The wrapped key that the fuses hold unwraps. -/
theorem unwraps : unwrapKey inStart.otp ≠ none := by
  have o : gcmOpen (kPuf inStart.otp.helper) inStart.otp.wrapIv [] inStart.otp.wrapped inStart.otp.wrapTag =
    some (gcmCrypt (kPuf inStart.otp.helper) inStart.otp.wrapIv inStart.otp.wrapped) := if_pos (Eq.refl _)
  unfold unwrapKey
  rw [if_pos startRec_len.2.2.2.2, o]
  exact Option.some_ne_none _

/-! Doubles of the base point, so that a multiple of it is a sum over them. -/

def doubles0 : List (Nat × Nat) :=
  [(0x6b17d1f2e12c4247f8bce6e563a440f277037d812deb33a0f4a13945d898c296, 0x4fe342e2fe1a7f9b8ee7eb4a7c0f9e162bce33576b315ececbb6406837bf51f5),
   (0x7cf27b188d034f7e8a52380304b51ac3c08969e277f21b35a60b48fc47669978, 0x7775510db8ed040293d9ac69f7430dbba7dade63ce982299e04b79d227873d1),
   (0xe2534a3532d08fbba02dde659ee62bd0031fe2db785596ef509302446b030852, 0xe0f1575a4c633cc719dfee5fda862d764efc96c3f30ee0055c42c23f184ed8c6),
   (0x62d9779dbee9b0534042742d3ab54cadc1d238980fce97dbb4dd9dc1db6fb393, 0xad5accbd91e9d8244ff15d771167cee0a2ed51f6bbe76a78da540a6a0f09957e),
   (0x76a94d138a6b41858b821c629836315fcd28392eff6ca038a5eb4787e1277c6e, 0xa985fe61341f260e6cb0a1b5e11e87208599a0040fc78baa0e9ddd724b8c5110),
   (0x2377c7d690a242ca6c45074e8ea5beefaa557fd5b68371d9d1475bd52a7ed0e1, 0x47a13fb98413a4393f8d90e9bf901b7e6658a6cdecf46716e7c067b1ddb8d2b2),
   (0xa0643fb8fcc14def67a6a5eb1bf8e9125b35edc7338d816aa4110a6b90ee785, 0x553438324a9e7955c520dacda2920e700da10d00e7012ed7bac0d100861f9cc2),
   (0xae3f7dba0bde8b6ad7ce2f8eede4b762c556dea678f859626a9e6235a674c4f6, 0x1c0549fc0a69995a24b8c213249db9a97940500d085f8a5c1ee0553e711f4b53),
   (0x34a2d4a3b009165987ffd1528603ed61190d0b710d6a564c2db2e35f12d0441b, 0xbeaaed6a53a1e3c22bca71046e777fc0e7d766b9deddd81db424e7845e93b146),
   (0x4c490528be759e4e8897bbd818d459aa416b9ae0b3c5dfc3469cea39f3f98de, 0x30e50b46405cc74fade84c66242a8107471d9d7b4a4605eeebd949434e8d6e96),
   (0x16949b7287d4f481897299b9eb6fe80ccdc5849ae1d527e280e76bb98e61ca07, 0xe7a4146d770ededebdf997b75b6012094d2d6ac6fedf983aa09c2be7a0420427),
   (0xb01a67f716475f72886a8f4749b86176281b195ff46f925ae1404a861abe45c0, 0x7c521bbf5a3956e2acd56b13164ef99472fc676341b62c7fc72f0dbe0090106c),
   (0xe716aed2cf069e4d997789672e6d6bd2508676f2f4fd0a64f077e8daa245573f, 0x353663e694fc72ab5912b06687b9a851d13d0df2fa07c9b3505fc26b469218d1),
   (0x5a57c3e3548207ef2f4541cf25b5e81b6b2e5d2fcec451f4b5113c2b357174b3, 0x77c7b303e69224601b1165729f3443328886700134bb92888cf5959383437e3),
   (0x5ce96505eef7208cd10920adecfb86ad1a87a974797e4fc58937f00facb006ff, 0xd16b6ebd381f5ad5ec56d1f22fde7bc3669d20bebd955c2b818dcda107152613),
   (0x71a5bd27c625ca1b4b2a3a4635b1043363a5b8311d31a91915261b05d0b79fbc, 0xc5bf524d066741ffb39452ca1a02f2efc76b6051ebaa32d0c2e37ccc8f277f6b),
   (0xa018366f4e91e90d8e5c643340e586b4714ab749c9052a0503e8465c6eade3c4, 0xe2bbec1714110b167c6ce578349d8369d5f7284e44614f37f45c42026b26e8d0),
   (0xcd7ce65d707da2a69ea25487ea254c45eb7d5adffe1ce3eefebccee647a9112d, 0x85e04a4b4c966f9789b9016aa5ee6708a190aa498bee60a5ffbabe0d3a92b3af),
   (0xf5f0aea099634718e67d4c73705ae59e8af0bc36c998bef6c88ad96c3212f1a, 0xf8a8b2b7c8593c955886aadd4ba16b784f5ed40dde29af7c755d7b1e7712b09a),
   (0x471ad0a8d57f5939f15f0d870ae25c9091428bf4e1e6e9172435158cfc4471bb, 0x2234ca62778e8e392a367ab48094d138b0d7e9ff7f23982c454318fa49693a0c),
   (0xec73885141fe54ffef6a0b570cd98d530e431c1aad5fcfe8f7dcecb7d96dff1, 0xd6224f4e87ae875d91acc4ef580652511d5264ce87ed78aa9ec841ac7c7b552c),
   (0x477778364e6e1cde059a0e2532c8f0c69ba12b3112fb6dcfb183b5399660b7c9, 0x2dd89d00b8389e317373efb6a7c89e8a5e0604c1f142ebcf5c205fa39918c3df),
   (0x353d458d3491b5a8c73d989017e14dd22ec38faf35f45d260fd8013b26d69d8e, 0x9c7d37bf4f5bde243130fde40c040a8a825dfc12fb71a9a8842b9d0020f32b82),
   (0xddad6bf0172e2240d57180ff0b1ba76e28e6bf035dc617ccaf0d4e79e330c098, 0xb1371e6935a21897530a4736125addafa333bad2db9d1403e5a994d63b67b58),
   (0xf8f5dccf4c6a93d7a4a54daafaa3449aa87a8069875405d43725c5dce392d805, 0xe58176cf66d63054389d3e336461327351f3da64a52143ba026619516cda02fa),
   (0xa118b0f24bc45d9c9b317fe248af581ffd42d88478182a90aca7f0b2ac51d8a6, 0x698b53fd0f7e1798df7b25ae09464d6a81922408e376967d8621b55d5c87b030),
   (0xfcc8ca2e4e502d2ede9ec29566d715ea7bd24be788828675fa42e8729cf5250e, 0x30b57bcceef8bd04f6b9880a8b34da5c9046bc05c03b2120602e0fbf730fd4a2),
   (0x24bbe05bfa35ddc0ee9a4b43cf2e4e3af349f675d2af3c3d2318aa0489a95e03, 0xd49405ee090a22cf17182d4dd2760faad40aa52e375aa14987df45ed8d793c4d),
   (0x6d28b6bffd4daf313f85eaad8e4d71b91ca631161f99218f984a23176f922dbd, 0xaf39d905141dd2fa40fbe1a61ccb4a1c4c24e9f0b84da29944abff02a0ef3cff),
   (0xd131e661dd93d815e613947f2d302f2f50ea585cafb752509789404fc4fb240a, 0x34342c8461a95da2e79b4c37f48f4fd47423d4ebcdeacdf422f60e1402501a57),
   (0xafff5af92c807615712e02810be246a2d0434584477fe2e867e5fdd7b8087dde, 0x659f6ea22cd060c2099a747ee10a2a22aacf175292ddabe7178346acd44eb3a2),
   (0x8437a7cab8f3e67c05b8000a73853a82e89dfdb368bc666999fb69a100371f53, 0x968fd75882812a40735483f43819bb8e10e124fedbfbe259248872d7879cbbab)]
def doubles1 : List (Nat × Nat) :=
  [(0x7fe36b40af22af8921656b32262c71da1ab919365c65dfb63a5a9e22185a5943, 0xe697d45825b636249f09f40407dca6f174b3d5867b8af212d50d152c699ca101),
   (0x61779471478643436554caa343adfa5aa1dd10b8a60e47c0336dd1e7c68278c2, 0x4ecee7d5a568791f03bff005c8986473327969992317a1a69d03ecb2efabd2cf),
   (0x521cf0cd89729d1a193d8758abf96019f7221aba0101b56baeab93965a7d9344, 0xd60220dacbf9e9bac583fe0ed386371b7a1341ca5a95fba14529f28196b7064a),
   (0x176c11c1328ed07b562fc9efce42700bbd4bbdec1543d1a70b3184a32b3fce8c, 0xd17f8dae934b8a3589592180b7de3b7e5c5d842a5bb51ab16ea68436a3c9f19f),
   (0x6965b6384d7061e685371fe7ff26519e76bba9dda2aea7817aff4fe1fdde3445, 0xd1bcdae39c482511325e496638732dbef47ce6051a5f99d97cc4389e18855113),
   (0x9ba1e12f974ac9f39ba834fcb184097148526336679189f10375c0c6edee30ee, 0x3d2f132311bea6c277c3eea86a877be62067ebb8c7d4f388a96b83b67b43c5e),
   (0xc90ea1fbe9020055485b544d9567e8635a1658f6d17c5b108afbc67f51c57125, 0x5aca66c710ede6b19667af636e660b1b6a3d07d6de19a69c669a504defb8d94),
   (0xa88b8f77c8962303d3a1bb4a48c105b9cf25089f822df8fc1bf1f2dab3cd7fe, 0x15b63b6905525ac21d4d29d246caa9900c491c0994d7154c6a3bd234f1661fd1),
   (0xfbc341c8c669d7632ca9f0d41bc43dc1efe47b273b95775258fca6c4d9aefbd, 0xbd8022632f360e3fe4014b1d4957d3d3950b069e200a9ff1ed3b6ea9d3e71ca0),
   (0x829019319d8f776a2dcb6c352620546c54dbeefa7c1e27f7f3a6db8a73e44b54, 0xe6a26e713ea8fa1d65888d6eac1dd9a09f47a0a1011354846803f5e4fe5fe6ac),
   (0xc48dbfa12299cf2a444cd57db517ac92b41ca518e198a281a5e743ceea394a20, 0xbc83cba00e1380ba64ff2e411bdbd6cd9440b125991bb5e24a0580dbea77a75b),
   (0x987f256d58cff9373be71969fc3a9301e8f9257ae57fdc00cd013f88b049e7cd, 0x8e92695694ec505ce860ebd60007e39e47b4605207aaffdbb7254bbc6efa35d6),
   (0x6608c243773c85dcbc666b9ba97323b234a8bfe70a2e3338c6e3197aa3fe67b2, 0xa1a916bec521c168846f640da746e03fc22b159f40c543081923fe5ce5b47a28),
   (0x70c1fd6918000aa99979bc856e976e5358bc6e018be062865fc1209b0378bc7f, 0xf7daabc20d5bc522aaedf6f122428543f5a9f32f61e1cb0d6d68171ca6aeb856),
   (0x30ac8e52250d76b2c0733fdeacec50aafe32c900bfb0192cbc63b9f4e77e03c2, 0xd694b530c099785e69aa6584002e77a06704ba32cd8786dca11914fed1dc3f83),
   (0x5bb99589230a0df5ef5a97ae7339621236bba6c05ecdb6af2d86a63c3e689186, 0x189e83e977ed31595724d461a33c413e92643ed05bc1dcc4edfb310d1be3a018),
   (0xd8de765227b7873763de93c34d8b561cf73a835fbb8e9c71c2ebaf8017e55104, 0x2fd29465be13f2d15c4c628ad1dcf924c2f73fce1940db1b2a02ef80e52e08cd),
   (0xd03eb26a9a38b79b6020f71756a0a320e9227bab9467b68f06eb9409f722a81b, 0x50c5fcb02c21a3e76ce057045262d4129dff1a286df208f595e25f86d8a85767),
   (0xfe4091010eb8cda72d3ad94e07c7976fff6986d6f1790dd7e834110d03f61c13, 0x81759c1da40403239486faf093b0b79f986fbdb99e1d973c3d3cecdbda0b3ae),
   (0xc90e300839dd58951e80957063154403cb4e6644c774364813d00c248fa8ee41, 0x62f504176d19e73c9c0710c6538403625045534717accd6e47a63667c3d7c1ae),
   (0x54ccc9415026d73f20a845b72a58e5b18bd27f198542a0beeea6bc92071e5c83, 0x1c433f45b45145323a8f8715dad2bf22929e0bcc5d8ee496cfd08ef7140916a1),
   (0x29e34b1bed8aa8149d841014dcfbe83383fd5b1e946f64b2831bb80c01287c25, 0xea4397df95eeb3a3c1417cdfccd96b25cf3a198b6e15a4391d23ad1d75a7e46e),
   (0xd2a076367c5ba19eea5b5f1d3c001919876f31533ab62409f3d5be3a53a3a383, 0x79aa09b893b7fcc06643a0f5bb9dce305981aeff3f598bce65f2abb22e7e0640),
   (0xc56dd686b0fd846a66dceb631977d5bad505671ae1abb34a7748532d4fa43529, 0xf2acaa85f3f1b263555d2c60a76b8c11619e467816fb7eee59ededacf9a521f6),
   (0xc5440c597814a47d9f6cc7d1513d7f38e40cd02e32847f01c30fb77122d32936, 0xd27ee9ba383e1fa72edc1e1d23ecf4acd8a6d28631e41e5d9a42fa3747cabfd4),
   (0xd07e95892daa15afff3e42d52f5bab12f165803dfbd492c0cbe1a18d2c2e32b9, 0x774e4d6506724528731f0769f893ef4e23ed98f15228e81e5e78ad6a2c1a4f5c),
   (0x437f6e07b86fd8fc3a06ae0295829d324275a149e19d957c7601aeeef79f7b91, 0x5fe8d37ca889f13abf38b8289b15d63c589a77119139683364b6ace375270033),
   (0xcecdff7a5cab844f79ca1e2a6483ee28b80a7c8a3447db8fa969ecfec51cd9c7, 0x9323e54d2286800892af68819c7d0f6b0d09d06b645e5a3feb76eac729389632),
   (0x241c567a4227f1c506c79b97a6badca61c37101cb8971583bf9f4172b066fd48, 0x40a62d93d4302d4b9363817c043203a48ea87138aea366057f7d2c6792857b08),
   (0x4ea220c78bed1c8d609077a9243b173ca518b52ea200446642ae5b50783dfb7c, 0xc644dd2f1ec88d3a27417d9d954c829828c2a2b452324480e5d9e6e88415e13e),
   (0x9c8651ced75ae94eeb27e145f21c1935558dd9397551ce0d0f02e89487d70d2e, 0x9532e363ad04e53e3bb36e293a2454c8f3ed01a82d75cf129cd3da9320f35d28),
   (0x298a401a6ee92414a708fbc0a52e5a71e93e7ca26bc0ec3617a4f678c5d62af3, 0x18f9a3aa04fe0466e40985ffc80c90df4866e6b9604ed6ef94763ef0af0a3d96)]
def doubles2 : List (Nat × Nat) :=
  [(0xfa822bc2811aaa58492592e326e25de29493baaad651f7e90e75cb48e14db63, 0xbff44ae8f5dba80d6f4ad4bcb3df188b34b1a65050fe82f5e41124545f462ee7),
   (0x31a8747df8dc746e4c13d030696080153fe448a57324591794a16baa05f57b5, 0x883a2c64fda8d58660e8aa6c1e387a321431c18c42b8def21827ee579c0343fd),
   (0xa7163c2b9b973c17f9571975c0d5934a4eccac6096513cca015e2e65580b2322, 0x308a9a797af31fa563389991545a6b7ab841a4f4e09952d73933b2232197ffe9),
   (0x1bffab8c03ab8279811b3923ef4b991f02a50c382db2670c6cb04a6a5c42a280, 0x2982b620ceb1d098332ac758529f1aaa982a369aa9d24fb6c9c742364ddb9261),
   (0x54bc18d7a99899547ddc6988d7ee1b3f2b481ab443da43ff68f41305b76a6987, 0x4b2c8c1211e6eaf37391b851ba73e2fd52eb8ed4bb73b119fe457cd05b9aae49),
   (0x1f380071781dff16f33d8173a6fb4d96ba770f18355cca4cb2a64c6196260250, 0xb1521ec4ba6c681da33705176ca2cf621b8567660590d693b1519b2e6b011955),
   (0x99eba192aadb019f41e0be2b789273a058e6ea55222034f3ea6d95d177ae84da, 0xfc4dc4cde1efbfd9f4f806644530184db630d866d7108d108da39dbe02155cac),
   (0x6d50856433968435fc5945ce21621e089d4e993b7604a5fa896bf7c7f7f96003, 0xccf57357e968c6e7c6bc5d8aa2c7eef9d6c0d6dc8263a0d90271ccaaac7e969c),
   (0x1d35c9699761e3f285f248239267756f5194b85279f96b7c60aafad170aae231, 0xc7226cb62df608231d660ab622ebf810edf58aa4729a66f15867063accd6ac71),
   (0x6f2b065a7800cdd89910e1c2a6397ab4d9c9823c2b473903501a327426432d92, 0xacfeb77e5e7a2e4eb1472cf700826c5093bf02de33dbecb6d2d1c4963e17c9f),
   (0x870ac12ba3dd777468991da7fdadd0af2f3352569662876be3065e088a6edbf5, 0x7543728b999a76998de7efd769d05a67d03c64022e5f297e1906d2dcf02f8ce3),
   (0xdbec13e6da0d5592a0bf5fef8034db346a9e8c749fdbf0f07aa6e46350c06af3, 0xf859978fd619e5f8c0e57348b745e4d442243a3264edb6647caf0f7cb6d243ed),
   (0x55d9a959844b5aef388ff0f7aa02f29acbf5ca9aa567e0e65572aea8750e4f5f, 0x69cb7f9aa5dad203766d574fbcc8ec524c9810c633ad1b15c858eb76bca97db0),
   (0x8c76689ba78a166138f9434c2f72e662f517323e3f09b5d30758cb4d57c6f8fb, 0xcd3172990a409d3a288489b0c63d6dcdf0b11fc3136bc05f7dc5b39a9bcf2306),
   (0x3fb5909a93dfe46af0c6a4169281bf8746543768ce5e12441ee45f92ed69f1d5, 0x549991ac0be8809f704a4e3a3bdf775425d35688fd0562b013d4fefe99a56cc5),
   (0xc34ace1ce5dd90408ae227e16feaf2537feabb0cbeed3e03506f1270bde7bc7f, 0xe1ef3b3a009857e2e623b8be80166f12d6554299bd55a442aeb63980697806c4),
   (0x6e29f959be28c47fae5abca185755c08346924376f5412c1d4d3d2de4351964c, 0x34565d9f500f32f65052ec6cc184246def640c527a0bfb63118824bd563fd88f),
   (0x8efa0f79b5909a0b10cfa381496e68943b09f0776ed90cad61e0f0efe5e84da4, 0x242418e7934cd6139fa46f1c5daafd1479957c4897816035fde19f42596969d3),
   (0xd0d4af73cb8fdb30b9d6d6d0f360db2f1f8973e31eb3f3974acaf2c0023ac4ce, 0xed90f8c8f15d7ddcbbe9ccee3e52953061850b1c863aae77e3df0360a47dd6b9),
   (0x829b8dd0ed5452e8a6d6f71b65b85f9038d1d60251256eace399da6192397d42, 0xd300ec543fccf46d99e73c8a896241af5c5adc4263ad1a5d91b71631e3df5612),
   (0xff046a9eb2bfeed9c00f2ef0796f458ec141c259a845631128a7d4110cb71280, 0x432f55acc0953a170a01eddbdd4cfcc9012b6e6ebd28487a7ec3271f5ec33919),
   (0x5890c0f334ddc2b08fabbccc41287df4011745f856de35acb2bd41c7b0b3da07, 0xcc9eac788b1d9c045e4604fa4f79272655a279ce3e2a8166623d0ae88d3813e0),
   (0x6eec95670d54650cc14b66dd02436893ffdc67942d666817fdc73e83bf780c2c, 0x14bb5350997732c2fc281de065ea010579ab66153a07ff89089ec1a1edbfcd32),
   (0xa0e2410cd09c01a1b79470f6ad3da82908f69591eeb51bd853d6d6e9019fc555, 0x1e29648c71bfded42ac3b57ba5b2fe898bbaf19f6b667930cf340818c1ac6d8d),
   (0xe486c7dffeabb058c1f9aa2349ee7eff8b2c7e63cf570cc5c7d0b24cc5852e50, 0x51fd75ed5606a12e9ee88a5c9f51e05a694463d63392ebd866ba3cadaecf107d),
   (0x69a16e245a5fcb8821ff1441906276e963ad9e86c339d0ea74502ca378692e20, 0xa7c968cd891afc0106f01e9a4cddba10113d28620f7da894996e69a9b3116c8f),
   (0xdcad8b2a7eefb2c721190e12fa0e745a7a39f95bc79b0d1747bde79706bc8d71, 0x8bf1287ab91faf9b2211993ce07c0fa32726c4077b717b56470cfe2ea297fcf2),
   (0xd9f8b3771d318bc54dca9848228c57c413fea55aad0e2f87d7273629aa99ad56, 0x7aad641f0d22377c6551557fb70a4a3995de59a31f63cb4d4e919385f5c61b9),
   (0xf41d7f4bb5e50430cfe08cf8b5e2ee0ab63b9998a43d1fc584b6b8ec2b519178, 0xe6a669bebd9af8d6f1046de3faa82347ab49acc36919e1f9a7a1665dca6a3551),
   (0x3b2369ff19ddd591f85bc3da3881ec450d80e91bd6616f3d2a937e108f089b4b, 0x5df102ecb29a762c2d22213dd27d78763970e7b02723e7c1f065556f67f00f4f),
   (0xeca3eef00455b406c7661093249bff8f997cd06e999c1020bb180bc7b8352aa1, 0x9e6bc281e78c25b8f6b863f37ca79007a8359b399b78ed2385f3ad39ecc12ea3),
   (0x5c97699d44b7daffcba214b7fb45ea98468f41ce1b0dad7bfd94a8b61a93d03f, 0x4737a353a4cb0fb1238ff9a6ca28f2ec20680f327453615967499ca90e6f2ba7)]
def doubles3 : List (Nat × Nat) :=
  [(0x4a5b506612a677a657880b3a18a2e902e9a521b074ca0141a84aa9397512218e, 0xeb13461ceac089f1c42604fbe1627d40626db15419e26d9d0beada7a4c4f3840),
   (0xcc8fe9ecccdaf543521473143eb337c5da74be4d8455b67c1b68edccbf8d5842, 0xc2a5d01cd9f2fc3f75cec6140b91fb775df1592d458677c8567e1ac9487100c7),
   (0x11c881390823d8ce8006b50f37e8626171b0b96cbc1184de23f389be0c37da54, 0x82f5ca516726bda3a42aaf13caf61ae4b3e32b21384d2adf567c651408ee3df5),
   (0x9c7a4efa52a32680676e37e7fc8b8d71cb4cb3a72a5c98ea355c95a1fd698f73, 0xa2c4a71ab2150c7b16c424c1d0ade69b94b07cd5ea879e7c122443bd120cf142),
   (0x2eb3910bde2ab995012c29df8bbe0f5032c3b2574328e5f76628d837008e2df0, 0x3f29c02337474b3a77d37d348da4999f9540d120ecf65f490910cc4ed274eaae),
   (0xd32e851a25c965c2fba2f5bdf8f0482610ec719690525db1fe39d9aca1dc428e, 0x6bec05a1fcc5d64e45cc6d22a98a834031f58d904694f768b551d5b501cfe158),
   (0xe644041c2ed2cff4f54d0746449c0331c681312779800dbf71fc28e6e42f662d, 0xbc79ffb9de665acf4ba0050d00c7b4d052e1678f917fd7c06711c11d66e6d591),
   (0xa626c3f311cb5315b59f52272ca6064b4c287dfb6f6e6aaddd030872b7314c65, 0xbb882a6b990ec04cd949b781e9efc624ee365bd68035523ab6607db5a63f1919),
   (0x7ef2ee3c5c792a0c0fef6335224d9428a7d2c98f6743333ec739a5ea3ecca7e0, 0xafb6862730acc011a4f67f51d5e609db81b21450dfbd3d20302b22dd552ac094),
   (0x646472486e68db193539def6986c76b5e880be50c09223c6db02c92ab896d0f, 0xf1f4ee22fe7063bbf2b3f5cef9047cfedb1b895dc63b4f9090d74508a4f528ea),
   (0xd42e1f15292fc712ea713544ff03fd17beb467e384d570b699c584da8d5825e, 0xadda2b0a21f69acb2c1f17a55a85ca7e0c4cb2ec4b4340cbed1808977a8946b3),
   (0x44dc4d9e945c7db20e19d0c28f9ae7518c3b0da6f68440e7f9c18a469ad780b2, 0xdbeb918745c2f9c9f8fd19dc683f5f95b47775e1c2cec39d91437413ab93b11e),
   (0xe51416421640aeb57802554eb5fa77aa9cb53529975e04a6701f090ec49e853, 0xcf331cea65905469278eb4a53a91030df568394190c9ee36336e3d1376405cb2),
   (0x8525d0b3ef76314283d8640f8db563d543e17e0a2710f1a2bf7fbadb5ab7aa65, 0xe63a7e111f91fd606cc431c1e676976d0dfccc1923f092af9be830fdde8648c),
   (0x1b3e00b320971112b39e7d7665bc22d4d8432893c3d8180f29dd16ed044c1b21, 0x9b442543faf3e2d2f11325d9c0df76844fff41a9f0b6a9e98de24014b7f594c7),
   (0x778468f5252b48e4899db93959f2e87626ddc475bbfa75b7c828bbee5ab90065, 0x43341ab10eb39ca06f65136a7f01e2e927bbcaef00acdaafc8f76aa2f2d79ff1),
   (0x224a02299eecc99a0634a786f116445779c3bb5b5501d267f0699bf9e2f2b734, 0xfa41a8d29b6d22b4149a08ad871d7fff07b704b673c7afd0840f585491ec7fdf),
   (0xafd35b35bea5bda1760f78b8af6b2261e310d10e196e11dea8df3dae1991e607, 0x3555f48e204e99496d8ee266b81ec93bab7d9872155af415e0b73bc4308126f),
   (0xe5ceac4035eb4955a0c7cc97b56175d505174da42f93e68f7e16cc51f0b9a00a, 0x660cb9301fcd56b9854a459c3396d1e48ceddb7586fe794f157ff80e67984a57),
   (0xe415c462be679028ec64fd2a2b75f9c944995a27d329c764f556db22343750b, 0xc3056e7177f984e227bca21077f8cddc6ef691a45ff7ec06a6097c15becd56cc),
   (0x4a89a61457374b4ccdb5d111b56493fe167d5ee4d1041ce2ea6065ad7789b84d, 0x45b04e87ed480d5c08c2ea979fe677e6a72e280634711999ef9b7d7f018e3ea8),
   (0x55b66e6dc586296f8aa4bba0ae54ddc73bdbbc488e7cdb0820049d0364e11f7e, 0x9043a91f1dd1419bc386cc04cca223ebccfe610621b594f904bddc671c77d076),
   (0xdb3ebc91cdcb79a8ab1d0013a1821a0b06614d6a97448f012046400ecc4bb506, 0xa95a64538a676683af1a685e85539258b21826f5e8f7d202cbdd181f49b3e60a),
   (0xded37dd152738517b92174e3aa64a3bfddfa9e91c66ab7024f5c2279ade5d1b1, 0xb14e3c5a84e78c402b3caab3824544b8f43b076d5912844881cc777712c778bb),
   (0xe5e892363a31885cedc2f995f36d1f90ba82337d0b1fc80d3438c84a72bd05a0, 0x77439de4da1b87d21301eb01e79b5c3eca73995b9cd099aec936de2be1a69f5d),
   (0xc827ed763ffec8d144d95fecd3177c78fe6784fa0f696a510c665cf973b4df41, 0x1e4c4475f2da5ed560e17d7b66ef3cd3bfe9a6106c0047b32e5b6a2380f91f4a),
   (0xb511001491b7465725ed93eeb3c1587d8998961b956e7dc2405904b346340d60, 0x9c3981f431fe4c4672ab899ef769f9788fb582b11859479168cd6178653ecaa6),
   (0x60aacaeec40e84091cb2f03148e4774ec12883ed0e4c688fc193d479678e27d3, 0x9677dffcc5def66dda54f7c803de04ee46d400783a680f4bff7c610228c4d2de),
   (0xe4107e431e221f5071e7474104fa90a45312f0c21fb084de21579992fab5c2cf, 0x1e5f11e6cf701c9a3948c668741c2b323c7892dcff7b2410d028403f2b955c2b),
   (0x2d5295db41e6f839a757f11164d63319a0654d2666872435510f99b4549e7a36, 0xf98acf28068072323af16cac763b38c6ea7b44f99730ba3bddb68195ce32eb67),
   (0x3877152e0bbff37eff26ec4601bffcda32242bc07eb98697cfed817743a29747, 0xcc70a7f9014bc61abe16116cb99d37309fbd1f6ecffee641ba573e25f24d4637),
   (0x437a6a6e40d04569a67834270a8e16495e3bffbd135ea79f59469a0606bba654, 0xc2911e15587f2492ab24825ff34dc5a014a7c3761938d4103755406037a7c0f3)]
def doubles4 : List (Nat × Nat) :=
  [(0x447d739beedb5e67fb982fd588c6766efc35ff7dc297eac357c84fc9d789bd85, 0x2d4825ab834131eee12e9d953a4aaff73d349b95a7fae5000c7e33c972e25b32),
   (0xa263919b4945a1d447501f2a3c0804c3802f779ea7f6803aeb0421211a6b665e, 0x873200bd2aed20fc2e9d3c9de60d60c5ac3f83df4c00efe29ee4040030bcdcfb),
   (0x2890d721e57e196118e63add579547f0acad16e63be0aea8f6f1d3ac4d771f0c, 0x69b5b8159ddc032aaf77e1d1416752ec7dc0e7f77ef540690a5728ecb5890d78),
   (0x7b8b8867dd4d9c6f81690628033de305d4e3ff5e71da17814f5822efac7e9e44, 0x8bc6273e511680b42246073c7dd5adb564057e6dbbd723650767022aa8cd12c3),
   (0x9022e314949ccf3e8937542b8cdec18ea2f8d5618688ce241ebd8bac137de736, 0x2fae5e4f2904a39466d0bb045226ce087f49366c44ea7657f4ef5c0844c42ecc),
   (0xa77663f5fcdf189cc2731f7801b1133ee130a96964396297872e52cf757a603c, 0x4e139cbdaddafc58dae982fa5476a35a8ab86c568cbace48d91745804ca8e468),
   (0x1a7098d2db889a1112911d2965f2870ea93d696bf79b5582e83e2130461dffe4, 0x39d474f5ee8b69fae5a42c936f76f32768682783de26b553f3ba5eed161315da),
   (0xffd92260ea330bb7ac43ff1f15417fe91a078f4b263234f284100f6f2472c9ae, 0xcf4b93b0ba2111475999633225711e5f263d2e9c868b8a34a0cec1d866d03ae4),
   (0x73baff0419eda72389386cf2b5156deddc34c10619515eb5741145c144cd3397, 0x1e97de634977ac5f6a00d1e8c18f825e779ef92cf826134941ef2a139adcb8e4),
   (0x6fb5456391ba430536ca35ada0f4871e140b55dc318d93bcacc1fd7cdfd83618, 0xf663d87766c6b8a3ed3b68c52109daba2f1e6499aae5d33e3f39f5cb02430626),
   (0xd554ded0b2862113a145c7ebdf98e4b942d91e70b46ef479357bdb041cbd9a71, 0x74b8f94b6c36708eff0f7ad45ac393145f29fea9a7a61c99a43a4a8b3c8cc32e),
   (0xb889d78bcf05f1c763c4e454296251719f61776622130485de82817f3be28c8a, 0xbabb0b07fa511b9b182be4a975c700eadff631e5782fb8c33037fe51eafdf89e),
   (0x9cf646b91a4c25bbc974446c2976fb982683bec78b098cb30e2e5fb31fa4e33c, 0x37b0624dc1f65a891e408e258b821f319e205827ebc1603219c45e060e0d4563),
   (0xfe251903a452329835917f8d5547844f6cae5469245e15f58c496939c224ef48, 0x4fac9cac97ca9be0d836b9405a1b36a0455aaaa1c321e408ae6960a05136dfa7),
   (0xcc411e541368f9f2e2c3b6c3f6131016cec29f6bbdd3e7a5bccf5cb64d405a74, 0xfecb812fac774584571527fc350186d0be4fc2009f16fb0d645be6b618d1bddb),
   (0x8c6c923cf1a4351cca356ef3efc35de10898022a45c4a1b196282910aee1337b, 0xa1256fc84d40ff6a5efbb2319eaa8e84845362c1c6ddfa2acb451d5cd9c84abe),
   (0xf81f5be38b8ca534e8a5c7938d18df9e0d238966f74e1a6b826fadc0523b716d, 0xdc7f49329c1f06df1d56d29d380e0328660758503a878330464002f512632401),
   (0x7459e772c29c4c3f158ea76280d631820e4e1a713bd0572546e0c52790789539, 0x892bc7f5183444eaec7e8e858a2ec1a9383af5e04f7db3913cdf5a471439d97f),
   (0x2e1c7c383d7f8492c604c9f87d2efd3f345e4fd95b8881c4f4727e8c8ef2dfe7, 0xc629dc2b09f0be266d9f4529ff7ea8f1c2d747d667b0c5bd3f85cca2c55e5f2a),
   (0x8c86799b36e7d519e63138a90228dc28022fc19d8429b019acebe833f2f21873, 0x5c0c2c12a5a3e85d61ce9fe475a272d15dbf4306e861f0ec8905b7d7e5159140),
   (0x85685474d77e08482397f463e53cde1d022eca56c3915c978ed9c7e787354b7a, 0x20b50eb50bf587b6eebc913b2a6f728706a891dc1fd6fdbd8954402bd16e04c6),
   (0x80ecab9f02b4cc6c691ec77b5af1694c45faf0843c5344c1186c5ae0464345e7, 0xf424148aca6d55c6fb5fc8f83e19fc8432e500ca5bccdbb497a3de52e042e3ef),
   (0xe15d0f2321cecf4433f1c0b1843eff4f5d139a212f6bc03d2540306574362bd4, 0x9a84cbe2707ec22ec1bfe039308be32623ed4bf8a4468269be6accdaafb46fb8),
   (0xe7a38889ddb5553d58f94187dc6d34dc5b4273b92840cc66d376b93b369f9c65, 0x5437b5bab121917208e37b26192145bd58a22b94187d1ab73b1be4e0aca7ee5c),
   (0x1136b759c12b3b11b319e52d6bf9597d9e3607554615622addc6dc1b12378c16, 0x7dec0fcf45168fdd09f0abc60fe9ecb29614aa28e751cce379f59bd0b3488127),
   (0x11f1f5738159984d086f8c11b6445072d95c410a18d0145fd0e6dafff34d3977, 0xab98c1b579c0b985cb829f87d3a748c7937e953f3dc6820614bc90ea00154b71),
   (0x934c89b9aa1cdc489b8018b75e7d2586953b9a779a2e613fbe840ca84d6a6a96, 0x856af4ffbccaf40a4516d6d6b31b2e9d107d2df0e2e4ca9febef148533d838ed),
   (0x4d00885c9a9df2158f5832665cda09c3a8030f018d3a3511febf5ea4acc506c8, 0x3f853c3a9671c7f214c0474409fe88a145d17acaa56ce133d4fa660e1835aa2c),
   (0xd2bf28ba7c2a51a90f573a82589f18e07e50ab01786df709c762ef1943e832a, 0xcac3f4313bd00ac7087a10a94b4e7ed27ec9db96055144648263af15b20d37c),
   (0x84feedc3620ebad8fbe9218bf89db7610b63f06c8f9b6856fe43bd70a38305bd, 0xf199bbd5a9c7c1654a3f5b5c17da39482568e12ddb32c53bfff41ff86073bba9),
   (0x5d890886cb475bd421501871dfd7fdeb3c399f34f03e03f0582554a2a1faaf83, 0x970938bd84a2f69a46b14def6cb0616d755b7179214633d2498413ff2ce31fba),
   (0xa6e1c5814699e69cf5d74845410e16291bc3cafc1640d35e0604c5b8bdff8874, 0xc25ae34dfa827e624b1e0a9ef5a2efdb789999f3812b2141885d8ef93076daf)]
def doubles5 : List (Nat × Nat) :=
  [(0x8a535f566ec73617f5622df4373713269e4c35874afdf43aaee9c75df7f82f2a, 0x455c08468b08bd737e02819085a92bfcde533864c8c7669c5f9a0ac223094b7),
   (0x4eafa17a88814d84d36e2c6048bdfa175799c8f19419149be8b043c401cd7f36, 0xa47974d851ec201fee45531527efc47b5036a58cad4543d2c778c64a0b2d1c43),
   (0xc6122fc44fbfdb25cda9e496cdf1c58971dc987a8febc765cc319d54b96214fb, 0xea205bec8343ac419031c9868877f91f08a6e48c1e271f8a3702bd8fb7adfff7),
   (0xb6d94022c181213724b4042c13019fda6f4fffddee86b987e97be9ed0e9d6b84, 0x93ff3f41629287238634478884d77ad3c23273eaec4f382ae1bcaa0fbca7cb21),
   (0xad6090dfdcb41a019af7cd273da8a366b7a3030e99e53d5e9c837f4fe476c81d, 0x77b5d1dd48f4c91eaccd75c2cc5bd8a8393fdc364f3048df818abc84ee6705dd),
   (0x7e4573da81bc84dc2626f6ca66f6a11f227f1d7586bd4cb5ad180dc0caed764b, 0x8cbbeffd96069f25f1bb9fc93651b20b2fedf3c7d11e7fb49c83115f17c2f2f7),
   (0xaf13583cbf65021f7977aac8fc30c25f1a9c655f50187a3db5252b56c3f0e03e, 0xf8fe31f81a9b57b3dbf60be46d83d6f8ca20edffa3e1dc84bb2f5bfc575ccb22),
   (0xda2535f6cda744d628e91651abe7add0b2a3a6939881b969142fbc118fc3fcb9, 0xe756083c27486df224454c68510dcdd3ed8df5246a0960d978086193902a869f),
   (0xb6e06c516305bbc4e466557075b929fcde1adf89f510a848a52f2c3693c4a205, 0xbdb4277c21b323f5c5e1f126e79ed73b63f99419a82a9f87537f4d865db36d05),
   (0xa61727a4f5f8ddbfe55703a07bee1e8daf3674c6d797eb1329f315f9fcdcfc44, 0x3fd9e4f9b02696ade692d5a2bbae158c1b9010462f080f393b82a7f0ef3d60e),
   (0x27708f23e8bdb74f8c89f34b7cbf6a9e324a7181c96b10c893fa154a553faea4, 0x575f186149caa4a4300225d66cc2c973fc6d68b3d1965bd1b21ade75d0802d2f),
   (0x7cee417faa66dc6109bfe97cab77ae6cb0844aecb2da65107fb5bf4597445fb2, 0x3040efebe1e5b9f596d871e7f9cf0bb3a667e8569ed0e31f4fffcd61a8223a26),
   (0x45a511c97f608bf76dbc4189d991ece618c452b1b42a627f3cd5f4e4a9aa52df, 0x73be0ec773ea9b6d3fe3337fcb625ad25a919b27d22955ce7b52bd12125ec16c),
   (0x4cd2a0bab6ace28a2bf7ca0444ab1b75020688b6b3a0e5f213cc521bf003e44a, 0x6adf08c371d224056d1310756218d126bde2e7d1c97ea5d64993eca97b19c38d),
   (0x7451fe377b24776b323357a021c84544edc4e459a0829db27ad039a2f521ba40, 0x16396435fcc70940d69002198464eade36b09eb9985d5439d0a61cd3e518dcf9),
   (0x58fdc0dfe5dcaa324a33a3bb84ef35ee9d08bab256a19046c47a8cbab3f4576, 0x90ee3b9e9ea9e0e7c3df9b4606b8871e1e801392607577593a45e3e1a0110e9e),
   (0x20e118564880c79cb927e3501cf2a53f030b86e3cecac60728cf1ab99076f57b, 0xff67b352ac437ef731bdc3e3fb6de9979fe0dc9b40e1b71e8583bedbada7afe6),
   (0x4eed0b4dfbb5c3073fefe10d9289d72b62df6c0f0ba0405b9e849544d4c20855, 0xace0fb288a56693a1941d3287fc115c81136ccd32d34fe3f4c087a3f8bdffd1f),
   (0x42e0437c7aca84f70a45b1168ed12d20feb99f12e6a12de783d637e60524722b, 0x2de1da0901d920eebafd84ccc9b4ea3edbea2a6daf54265a766939c81fea76c6),
   (0x70d96ccc51afb00c499ea8fc2ef48c949a7cbf2445cc228c6f24fc37bcec904, 0x9b915ef5ff0abc21fc61582d55f0e97753bdec7b34681bacf62f4db2a3ab316f),
   (0x5c9cc4f8723a027b0318ec7fdfd7dac93fdd478e694fd54add1452e899273a8f, 0x84efe07a1dfed259a827589d3708af964f003675a11acab5addaca695ce80d6e),
   (0xe3ea757deb82767a824a072e4c20a4b8bd467275c0f80d40f2e4327bcfc91de, 0x13f2bf92ffae215623f2abf6056aaab3bfaf0850149c5383145e8c5df582f54c),
   (0x9a6cabe1f8c78b4f154a04034f63c34af6bada2932f50e57c5f483aaa556ed7a, 0xed9f5029fad500451de544fb7d555740feb87eafd12207162521483ea054a72e),
   (0xed19a56a1b59cf5cd880f08099a2e4dcf318de811d6a8871bcc2887a735a8087, 0xcfbe683e6c3b56b630254512ab54afe1a98cfd5aae96da46e56ca0873a9fe557),
   (0xbaffd4ebf8a8b5ab46ac18444f3dcde3351a3a75556c6c4ae7dd9ab328523eb3, 0xfa93dc5dbc95e83003a8eb3795ac09c24511ccfbf48b6ee1978300cd5acf387),
   (0xcafb6c8657874a09751a418ae4eb8eeee9817b137d07f1eeae03ad0f9d2157ff, 0x2adafb1ed5c5c67a01a1cbb99ab4e2e09c6ab445913b9e0e16cec08173ce8988),
   (0x894890b2fad37ccb9a879a27cf8ea9a337d28a48a4bf795c4700eb8ce51b2cf9, 0xd46800ff7c5b301188a0abfdfd48e438498e7116a3bc2ecb0d187ac835979d3b),
   (0x463d8e29e481aacda1697678f8b8c55ba26e2a1e94139936bcff60267e460d62, 0x400f734b7ae2a66ef1fd6c6724f852968f9eac14da469b0a226650888c11217f),
   (0x6ad2a098fced766ed22a34d257e4c96479f0b1a76db3c5f835208d8ba111101, 0x2d5b8b1c58f85e3559a4c01bb9eb62a0de429d82b70e89aec1a7ba9d5fb37ef4),
   (0xf657e9015f9855a5eb9acb6ebfe5941a08fe3cda3b36a5dc2b1f0bd0f65bb830, 0x8077a8bb3bcaac496dc83cd25da0e7ffc2abba9cf2c8e35ac3b9a74d87b193fb),
   (0xe46eabc9f8e2f20cf0ef002c94979625855719520ec5a6e7db47ffceeb3fa150, 0x2532cfc894c18963adb002810c09fc3a50f68cc24c227e4bb934894c4a0b139f),
   (0x107a4485aa07fe2e14bb5af4516750f0e06a970759acdc147724967e5833c4be, 0x6ea22142b8e4d7cd813794ec48e680074d3a4fc91d760c4a6566ec48c87c80dc)]
def doubles6 : List (Nat × Nat) :=
  [(0xa6d39677a78492762736ff8344315fc596439591a3c6b94a6cf20ffb313728be, 0x674f84749b0b881666b8babd2d27ecdf824a920c2284059bf2bab833c357f5f4),
   (0x3f06dcd2ce62e80d4a661caa2d2a108675f3b0caaeeadd251583948c5974bb08, 0x8bc2550ce1922db985807be931d9b2e831606905e88f53e89655da995083c99),
   (0xec61ff29918a1d05e0c05b31527e97b7eb3228b94bdc794c1c101b8fd5c7c27c, 0x2fa1d3dc1b257a1d0960f82c7759298fe3c46c47690233dadf01167d9ddfe51),
   (0x9a79bfbfe71e347f4d6c6698316797e2f5ac2a3900f5abf0c409332de46e2050, 0xe98b4de6d316e200b6f671f3b224efa9ca94faccb6dfde317a3f4781926250d2),
   (0xac25da80089cf4e033d4db5710ff5936fd683b4d0dab013e6eef62ff4514c6fd, 0xebc69d985cb44c7b883da9312a1b338c810983e8243bf37a60b5397705830541),
   (0xb467cd65660c13b84aec42b5296bc037c1e6b5ea71a0d289b456511069962f3c, 0xdc91b9bc4d36ffeabb3f5d2a011664ac3cb212df6cbda472f75584cb22877596),
   (0x92f9a6f93fa37761979280de26da6cde08533abeef2160f4919b1597b43c7e8d, 0xbf618d715147afe8ed41d3a6f5e542df7309284ecea312897746055552bf1285),
   (0x5ce4fd836044baf3a1623065bce83b11fd7516a5b209d887d79a7081afaefc6a, 0x61042108aa50f3681e31bc1ea832c7144abfbd4ab9e4acce38606dfbbf9db9a6),
   (0x285250edc3bcfcd9027bba12176d343a26035672d5b4a81155d4e37a2fd20bae, 0x7866c086f4ad7ea83f7284ad1046c1716e9b1a2cf1eff323f9de455a54e0ab97),
   (0xdbc091d89944b44eb651d0cc325161c03840e563817c6662f0f2efdb220ca9a7, 0x92d80eaae8567952d57926d1e4aa5fc6367309fe96192c84d20588316c8e76b),
   (0x9018baa11e938f23b322489c6ee06d88ad3a6dd5f518e8d7d6be4fd07ef7d72d, 0xc9c382d871f9c6c9e8c147f743bf00b74eb56d8002736aeb1267044fc036ce68),
   (0xedd513bbfef3fb2463336038135004a3dd2f1e9bff60a8a607596c1f536ba602, 0x257b598c3bb3f7a97c592ca290f0188b61854d442da5dcac3b8086f945dbf993),
   (0xc472c1062ed0366f818debc07ef8890e1fc5147dd0dc267c171f3a2a3e07e4f1, 0x41820e01945f70e96432ab5a84d667d885f3b7b1e22b5d8a571c683d86b0daa9),
   (0x454e27cbfa01cbe542cddf6fba29971ef8c49096987f88efc0512999fa863437, 0x134a4b214cf01e9e9e7e5f8f2f81017c6b8d88d5c651b986179b00e551a6bbe6),
   (0xecfef25fbc3698c06226d5629c51fffb94130623c2c03173828179c8084a599, 0x8132b98bf295f2c0b2471c839f9a7982ee9d57df992f62b23dcb4c13d520e922),
   (0xf11f5d1ddcbbe3469ec2c0fecc2f9b18075969944b3b7edb644630ba41330c21, 0xd20045d6570278c2b3e3750f788716610caf2cbd5792771554e06c7749ee7ae0),
   (0x55d5398d1666432b557582c99ad534580101fb06a050e62c320f09c3839bb85f, 0x576e229049ff8e2d059c6a9e8ebaa72ad90d6a7f1833d9e1f7f631184fed936f),
   (0x419a4f03ae7617ccfd23639585d56f8d28b1eb93fff3c118f642e95b4f491155, 0x237c2d343a6e835b2e334b1484804545c7ab4a22074c68894b91ba6ad489bbc7),
   (0xa2157eb3dadf2828372304ad31abf75ec3e61dae0b35d0fcc0841ba9e49e8f34, 0x817697da70df31d0fb42577ccfbe5a2064bbba35b187f4e1a8e983289eebef3),
   (0xdc386db7f409d9e0fb28652a88c376d227fce62d1df14515d4eb281c2d5c502e, 0x526c6376cf20188ae7e69c459d7ad72b372c3db3cc760b7b23b47a257bfc1e4f),
   (0x884286463ca0872694febab24bfc3383cc268940efec85ecc62dbc9c32513926, 0xf778429c01c2dd5a69660db365d81207ce0eb122ebdbc15a0ee4282aafb8a54d),
   (0x789bbeb0199b2c38b48c9ad4808a2e9f0f3d27b94cd4417f005791ea7c2ae635, 0x14357e6199189bc68680b79f62f1217a7fef5a9c2ca1550fb781dfecbfe96db6),
   (0x87c1d99c5ead72de2cbc4a513a0a9bbd5156b3fd89b84639b1f11f16f529b1cc, 0x7e1654c6985d0bcdb8617a6ca55ef683bb0d0eb2c5b275e3cf26978dd5a94d6c),
   (0x2800043ada0982e22ddb6c3ddc7f43d53719a8b66bb19be6f0f679f10b79847d, 0xf99174667e82909b6c0796584a4dc3ba87058dbb8513ae9fe5b0083908d9eda),
   (0xb4958c4e21de21d47fb60c55edb925559eaa8520a5ed115e3e0b5d5ad4441fbb, 0xfcd6e7bf996640efe5c041fbc38cb7e12db9f6132d4638414c7e3c9f4add7118),
   (0xa41e9e9ed5876481e77ceb19f84df2582cdd704dbc1a71c7fc4da1176bd00b59, 0x50dc31723b30f2b6da4e1ed1efc739b85cd253563dd4359fe8dd28cdcf2e6f15),
   (0xc02a0f2e94cc35ac2c5f09a87d6886df32a6d94ebf58e793ab0c96ef401403f9, 0x8ebaa8a18e491aae0f716d457c5cd473abb913066000adb521f59639a7ed80b0),
   (0xb8d550a10d9265571a765de14913e26b9a6c22e3eca47658a69173875f7a8d33, 0xded908e0ed161c307d1790c97073e188541c3aaf586f670d1777b77bfec3abee),
   (0xd0e0919688e932b64134bf13b346027cd8a7fd0b7d761d04ac24e6436e12e1df, 0x69c9a59fe7d1452b4eb60b691dbf867544cc4bd9846b8df6a6544db9fd28fbe),
   (0x49c696ad84a3a2cc66d8c6be3c064abe8f7137ddf287be11e27b29cc18dac2d8, 0xfb7cbedae854b6df578962c7088dde4b4d0fec2acfc3e019ba5cf21de3a6aee8),
   (0xe7fe1a77506aebc71c42027371d3ac4795f5bbf94bf153888eb8b6730050f080, 0x6a87c46d10e65daf1de51e7893cb5838f8edfb37676496a848c989da99e9e32b),
   (0x9e02fb86b5061741069f16f419b123085a47fd7bfa47b09505ec3921fa72672f, 0xd622305feea9f183265ab8ce550b0c1e11741a026ed5c3deb24f5d49f4b7502d)]
def doubles7 : List (Nat × Nat) :=
  [(0x68f6b8542783dfeeeb5b06e70ce08ffefd75f3fa01876bd86a703f10e895df07, 0xcbe1feba92e40ce6fbc8044dfda45028cf5293d2f310bf7f90c76f8a78712655),
   (0xe1b40c548c1c0d5ff3cf09cd0e55e541666623f172e992589d10531d80c15fc7, 0x1ea8aaac3f384ff9f47d811207f4708f00924520de9bb62417ca84682a318024),
   (0x963e315dba2a02df4201bba7bc72a37ef1e49c2570989e56a25b597e831eba7e, 0x5c02ba13c84a3935a2a3cb7c52167e11869d0ae5c0d5f13c3dfa4b328e7c79c0),
   (0x6fa2d990059943937be369478640da20b3e960fd626f217c6c38ba21348560a9, 0x9eba0cc3915ac7e83754a352a6985c3afe39cdabc551c5eeb9609377bae52757),
   (0x7f9460a23d474b66c3b41d1793b353d6646bd35404739e0dd34dab1767ea1f34, 0xd0d516778fb0618769f1f2bf8f076661c6ff815124e34ffc58bec2cacd9063ec),
   (0x2292b0887db3c979f796a57e0321efc800d59722771bc762e45a0052b8c5bdb, 0x10b668847507e38270cf0501cf4185f634c8f01116662d894bcfe7b5207256f2),
   (0xf6a16b6054bf7ac1e01efce48208425eeaf7deb95dae05a07bcffb0d1840a484, 0x716c92116b36d29159cf3e324c399409acdc817c6fe7ae3587dc4e6e638f9111),
   (0x948f395d3e8454456a3efdd5ad2652c1bc7c0ed17ff78b361617acdcdbc10ba4, 0x98ba0006d11ae9b572a41300a1b5a9ef5a63d297ffd0987c1a6b40ca6da2be0f),
   (0x9c39cb60a33d563d2958f49f1b6ee94582f2d7a846967f0dcec9b4d78e6d8483, 0xf097bf1ee493e51003d196b7bca16546bbade52f3dbe436894b3356f6b2c50fb),
   (0xcbc809ae94d7802f33e8a4eb3b323ed141067a6336fe96a71363784b6c7f27bf, 0xbd9cbb0e18115c85d7aaceb5dfdcdb0507ad4dd8903daa9aecc69d63caa30fa6),
   (0x8bfbee24c6e5261837151ef349506cf4822c3c1cb43b223bbe5cc18760a81cad, 0xd75127caa3409b590cfd289fe71be1518d9fc8ecacfd23766986b9515ff0013e),
   (0xb8181bc6badbe124c07879421041e8f176b07b2bd63afc5cc21115782fb33b93, 0xbb012f5118cce7cadeef104be967dd75f9acc5b14bf627dc911a5e167a54ead6),
   (0x3d9285261122993897566e7430181e25e2fd65f1b1b173747dda97c55c38d4e4, 0xd32ca0a5d468eab53ff057035c2869eacc0ab138197abc7f6faaef00c0ccf0d3),
   (0x5551c1b53b0878eae3fedcfbd314c30f0d23b7fe32845dc2d9de4a8bd4904297, 0x2faaf850def03ffa2dc6f85e00e65a5cf2be7383db6967a6ddbdec1a85153809),
   (0x6a9cb41f4e7d95cd6bf7491e6ef96a09274b136a6beb56c9b1488fe58e2058c2, 0xedd93d45ec97a96602b907a608a21208050886aa9aa7f367ea95ab2bc86b1495),
   (0xdab5fc7fe5706d90b6ac29ed3f203add378c76b944d45159245cdfd17a53cbf5, 0x97f6cc216d0557b45039598fd8b4919787b15173c166c997bf8c1d4b3052fb1a),
   (0xf50b99b7468810b73a5a7dcf08bd17915c08966a2ecc1e07606304b1a44e8de3, 0xe2b5061e55f18f0c8789973a2dedcebbe975f18d21721e854a3f3ba6db7f3588),
   (0x2a148954227198c9b09c743020a46e97d83321fba27ad800a9103a2d60dc749c, 0xaa215a188974e422ea3c2440a37608c4bef92dcdc39b6f01f2e1f28ff0fa3cf2),
   (0xa5a4878f4cc4453cc7a3ec58a642c871ebb7d208e87bdcc1e0cc372dd962abc, 0xf7148b2288b0dc574d72b14df29030175832a64c8e50a9fae85daabc9e2cc3fa),
   (0xf5e3efcb5a92f1b320feb9fbdd6c93fcceceaf38ed9768e793925b40128aa5cd, 0x76cfa2899bf3de054e51e2dfeb07bd2b84e0a6f4b110cec9ab2799c7ceaa0fb4),
   (0x42531823ff5ed0b0d77f4880da0b0e07400f246c3cdaa859e1994056037cfb4, 0xc90e8bccfae00f7e628ca4d0c8661faceea3e4f534ec5dd400b7325ed8775d23),
   (0xb0d7a6dbed426d40dbaa6c128d47df6637385a1378241662fd6e1483e66b5a8b, 0xf652634815abf316fd1c0d687ef4a316239b77371572068bf6c4fb12cc550ae3),
   (0x40bf36bdea2de0a4542cb5c539a534c68723275964aa5eb9c1a74b282375988, 0xe8b5b2b681dad75337d16867767ee3c5977abe33ae04f7f080d2a3d4793301cb),
   (0x3754e99f0786e2e13d70139bfcd5ce698be44e3392eb68e10e789e3ff0cdb59d, 0x24c2f87496addcbe012f3c27206480db61019b6f632734f04239c0ffeb6a8499),
   (0x9bbf06dad9ab5905e05471ce16d5222c89c2caa39f26267ac0747129885fbd44, 0x1bcc7fa84de120a36755daf30a6f47e8c0d4bddc15036ed2a3447dfa7a1d3e88),
   (0xf8ef49b4bbedf4164adaab192fbfb78c90599d29a4c5181f3ce59840d8490005, 0x979e67a7ee97216402bbd77665a4b73a58f2128837deee671a462e83bd62afde),
   (0xbe63ab41d2c743f01b3a9b22d66d9101fe44d4fc2e04eba7eddeea19f87b338b, 0x1f125f145e22f4758d3021bbb90b353b7053cb7e45930daf9d212f2591b00a85),
   (0xfc1d6f42b05d00e6aeda82df286eb6e2578042f6caebe72144342466113bd81e, 0x6d2cdf43ac02382a93d74bd97fd76ce63976b531546dc8dc41e3d4415d7ee1ea),
   (0xb12fadf52943dfa54943fccb3b7893e796357686c10319e31ead3233444c0448, 0x2e2459599b0f4ace96f8f6677b2a6a71d05e70332fc4df296575e76b369de57),
   (0x6054b2225e75b6a4be2df29f6cea3b793bf2d82d8d98b36858627e5e8b47e27b, 0x6e7106f3b190d8edb0760cd1f574e0f81d789cf5afad1987001829e764ae4b62),
   (0x1ee7fc202708cfeb0c2bf930bf33a68ad086d4ce99a11e38d93ca698eb99805, 0x9655cef01b024882124be02ef3455711811836ea35be799b09fd5f4e10eeccaf),
   (0x77b20a912e6b23135066e911891524bc4efe3560e3e92350b52dec8f375f2b54, 0xa3dc291825cea3f7f7b10bfcdd038a72df623da1e850e0f1caa801fcd6cc67ff)]
def doubles : List (Nat × Nat) :=
  doubles0 ++ doubles1 ++ doubles2 ++ doubles3 ++ doubles4 ++ doubles5 ++ doubles6 ++ doubles7

/-- Each entry is the double of the one before it, `p` the first. -/
def doubling : (Nat × Nat) → List (Nat × Nat) → Bool
  | _, [] => true
  | p, q :: r => decide (some q = some p) && (match ecAdd (some q) (some q) with | none => r.isEmpty | some d => doubling d r)

/-- The multiple as a sum over the table. -/
def sumBits : List (Nat × Nat) → Nat → Option (Nat × Nat) → Option (Nat × Nat)
  | [], _, acc => acc
  | q :: r, e, acc => sumBits r (e / 2) (if e % 2 = 1 then ecAdd acc (some q) else acc)

theorem sumBits_eq : ∀ (l : List (Nat × Nat)) (p : Nat × Nat) (e : Nat) (acc : Option (Nat × Nat)), doubling p l = true →
    ecMulBits l.length e (some p) acc = sumBits l e acc
  | [], _, _, _, _ => rfl
  | q :: r, p, e, acc, h => by
    unfold doubling at h
    simp only [Bool.and_eq_true, decide_eq_true_eq, Option.some.injEq] at h
    obtain ⟨rfl, h⟩ := h
    simp only [List.length_cons, ecMulBits, sumBits]
    cases a : ecAdd (some q) (some q) with
    | none =>
      rw [a] at h
      have n : r = [] := List.isEmpty_iff.1 h
      subst n
      rfl
    | some d => rw [a] at h; exact sumBits_eq r d _ _ h

theorem doubles_of_g : doubling p256G doubles = true ∧ doubles.length = 256 := by decide +kernel

theorem ecMul_g (k : Nat) : ecMul k p256G = sumBits doubles k none := by
  have e := sumBits_eq doubles p256G k none doubles_of_g.1
  rwa [doubles_of_g.2] at e

/-- The verification, with both multiples taken of the base point. -/
def verifyG (digest : List Byte) (r s : Nat) : Bool :=
  if r = 0 ∨ r ≥ p256N ∨ s = 0 ∨ s ≥ p256N then false
  else
    let w := invMod p256N s
    match ecAdd (sumBits doubles (beNat digest * w % p256N) none) (sumBits doubles (r * w % p256N) none) with
    | none => false
    | some (x, _) => x % p256N = r

theorem verify_g (digest : List Byte) (r s : Nat) (h : verifyG digest r s = true) :
    ecdsaVerify p256G digest r s = true := by
  unfold verifyG at h
  unfold ecdsaVerify
  simp only [ecMul_g]
  split at h
  · cases h
  · rename_i n
    rw [if_neg (by
      have o : ecOn p256G = true := by decide +kernel
      simp only [o]
      simp only [not_or] at n
      simp [n.1, n.2.1, n.2.2.1, n.2.2.2])]
    exact h

/-- An image signed under the base point passes if all but the signature is right and the signature verifies. -/
theorem image_passes (s : State) (img : List Byte)
    (a : leAt (img.take 256) 0 4 = 0x444E474C ∧ headerOk (img.take 256) = true ∧ leAt (img.take 256) 12 4 = familyCode ∧
      keyAccepted s (keyHash (img.take 256)) = true ∧ pairAt (img.take 256) 40 = p256G ∧
      versionFuses s ≤ leAt (img.take 256) 21 1 ∧
      (patchBodies (leAt (img.take 256) 22 2) (slice img 256 (leAt (img.take 256) 8 4 - 320))).all patchOk = true)
    (v : verifyG (sha256 (img.take (leAt (img.take 256) 8 4 - 64)))
      (leAt (slice img (leAt (img.take 256) 8 4 - 64) 64) 0 32) (leAt (slice img (leAt (img.take 256) 8 4 - 64) 64) 32 32) = true) :
    imageResult s img = 0 := by
  obtain ⟨a1, a2, a3, a4, a5, a6, a7⟩ := a
  have o : ecOn p256G = true := by decide +kernel
  have g : signedBy p256G (img.take (leAt (img.take 256) 8 4 - 64)) (slice img (leAt (img.take 256) 8 4 - 64) 64) = true :=
    verify_g _ _ _ v
  unfold imageResult
  simp only [a1, a2, a3, a4, a5, a7, g, o]
  simp
  omega

/-! Calibration slots. -/

theorem norBytes_zipIdx_append (a : Nat) (r : List (Nat × Byte)) : ∀ (l : List Byte) (k : Nat),
    norBytes l.length (a + k) ((l.zipIdx k).map (fun e => (a + e.2, e.1)) ++ r) = l
  | [], _ => by simp [norBytes]
  | v :: x, k => by
    rw [List.zipIdx_cons, List.map_cons, List.length_cons, List.cons_append, norBytes, if_pos rfl, Nat.add_assoc,
      norBytes_zipIdx_append a r x (k + 1)]

theorem aesBlock_length (rk : List (List Byte)) (b : List Byte) (h : (rk.getD 14 []).length = 16) :
    (aesBlock rk b).length = 16 := by
  unfold aesBlock
  simp only
  generalize List.foldl _ _ _ = s
  rw [xorBytes, List.length_zipWith, h]
  simp [aesShiftRows]

theorem gcmTag_length (k iv h C : List Byte) (w : ((aesRoundKeys k).getD 14 []).length = 16) : (gcmTag k iv h C).length = 16 := by
  unfold gcmTag
  simp only
  rw [xorBytes, List.length_zipWith, aesBlock_length _ _ w]
  simp [beBytes]

/-- Header, zero ciphertext and tag of a calibration slot, under the key given. -/
def calHead : List Byte := zeros 16 ++ leBytes 8 (Config.dieIdentity % 2 ^ 64) ++ zeros 40
/-- The body of a calibration slot. -/
def calBody : List Byte := List.replicate 41352 0
theorem calBody_length : calBody.length = 41352 := List.length_replicate ..
def calFront (k : List Byte) : List Byte :=
  calHead ++ calBody ++ gcmTag k (slice calHead 48 8 ++ slice calHead 60 4) calHead (calBody)
/-- The slot with its check value, off by `d`. -/
def calBytes (k : List Byte) (d : Nat) : List Byte := calFront k ++ leBytes 4 ((crc32 (calFront k) + d) % 2 ^ 32)

theorem calHead_length : calHead.length = 64 := by simp [calHead, zeros]

theorem nKey : ((aesRoundKeys (kNor keyed)).getD 14 []).length = 16 := by decide +kernel

theorem calFront_length : (calFront (kNor keyed)).length = 41432 := by
  unfold calFront
  rw [List.length_append, List.length_append, calHead_length, calBody_length, gcmTag_length _ _ _ _ nKey]

theorem calBytes_length (d : Nat) : (calBytes (kNor keyed) d).length = 41436 := by unfold calBytes; rw [List.length_append, calFront_length, leBytes_length]

/-- Both calibration slots hold the bytes. -/
def slotted (d : Nat) : State :=
  let l := calBytes (kNor keyed) d
  let m := fun a => l.zipIdx.map (fun e => (a + e.2, e.1))
  { inStart with nor := { inStart.nor with mem := m 0x400000 ++ m 0x410000 } }

theorem slot_reads (d i : Nat) (h : i < 2) (f : Security → Security) :
    norRead { slotted d with sec := f (slotted d).sec } (calAddr i) 41436 = calBytes (kNor keyed) d := by
  have e : norBytes 41436 (calAddr i) (norFrom (calAddr i) (slotted d).nor.mem) = calBytes (kNor keyed) d := by
    unfold slotted
    simp only
    have n := calBytes_length d
    generalize calBytes (kNor keyed) d = l at n
    rw [← n]
    have k (a b : Nat) (h : b ≤ a) : (l.zipIdx.map (fun e => (a + e.2, e.1))).filter (fun e => decide (b ≤ e.1)) =
        l.zipIdx.map (fun e => (a + e.2, e.1)) := by
      rw [List.filter_eq_self]
      simp
      intro x y _ _ _
      omega
    have z : (l.zipIdx.map (fun e => (0x400000 + e.2, e.1))).filter (fun e => decide (0x410000 ≤ e.1)) = [] := by
      rw [List.filter_eq_nil_iff]
      simp
      intro _ _ _ _ m
      have := List.snd_lt_of_mem_zipIdx m
      omega
    unfold norFrom
    rw [List.filter_append]
    obtain rfl | rfl : i = 0 ∨ i = 1 := by omega
    · rw [show calAddr 0 = 0x400000 from rfl, k _ _ (Nat.le_refl _), k _ _ (by omega)]
      exact norBytes_zipIdx_append _ _ l 0
    · rw [show calAddr 1 = 0x410000 from rfl, z, k _ _ (Nat.le_refl _), List.nil_append]
      have w := norBytes_zipIdx_append 0x410000 [] l 0
      rwa [List.append_nil] at w
  exact e

theorem crc32_lt (l : List Byte) : crc32 l < 2 ^ 32 := BitVec.isLt _

theorem calBytes_crc (d : Nat) : leAt (calBytes (kNor keyed) d) 41432 4 = (crc32 (calFront (kNor keyed)) + d) % 2 ^ 32 ∧
    (calBytes (kNor keyed) d).take 41432 = calFront (kNor keyed) := by
  have n := calFront_length
  unfold calBytes
  generalize calFront (kNor keyed) = p at n
  constructor
  · have e := slice_at p (leBytes 4 ((crc32 p + d) % 2 ^ 32)) []
    rw [List.append_nil, n, leBytes_length] at e
    unfold leAt
    rw [e, leNat_leBytes]
    exact Nat.mod_eq_of_lt (Nat.mod_lt _ (by decide))
  · rw [List.take_append_of_le_length (by omega), List.take_of_length_le (by omega)]

theorem parts (h B T R : List Byte) (n : h.length = 64) (z : B.length = 41352) (t : T.length = 16) :
    (h ++ B ++ T ++ R).take 64 = h ∧ slice (h ++ B ++ T ++ R) 64 41352 = B ∧ slice (h ++ B ++ T ++ R) 41416 16 = T := by
  have e := slice_at h B (T ++ R)
  have f := slice_at (h ++ B) T R
  rw [n, z, ← List.append_assoc] at e
  rw [List.length_append, n, z, t] at f
  refine ⟨?_, e, f⟩
  rw [List.append_assoc, List.append_assoc, List.take_append_of_le_length (by omega), List.take_of_length_le (by omega)]

theorem calHead_die : leAt calHead 16 8 = Config.dieIdentity % 2 ^ 64 := by
  unfold calHead leAt
  have e := slice_at (zeros 16) (leBytes 8 (Config.dieIdentity % 2 ^ 64)) (zeros 40)
  rw [leBytes_length, show (zeros 16).length = 16 from rfl] at e
  rw [e, leNat_leBytes]
  exact Nat.mod_mod _ _

theorem calBytes_parts (d : Nat) : (calBytes (kNor keyed) d).take 64 = calHead ∧ slice (calBytes (kNor keyed) d) 64 41352 = calBody ∧
    slice (calBytes (kNor keyed) d) 41416 16 =
      gcmTag (kNor keyed) (slice calHead 48 8 ++ slice calHead 60 4) calHead calBody :=
  parts calHead calBody _ _ calHead_length calBody_length (gcmTag_length _ _ _ _ nKey)

theorem w_ImageVerification_slots (i : Nat) (h : i < 2) :
    let s := slotted 0
    let v := { s with sec := { s.sec with d := unwrapKey s.otp } }
    calSlot v i = some (calParse calHead (gcmCrypt (kNor keyed) (slice calHead 48 8 ++ slice calHead 60 4) calBody)) := by
  intro s v
  have r : norRead v (calAddr i) 41436 = calBytes (kNor keyed) 0 := slot_reads 0 i h (fun q => { q with d := unwrapKey s.otp })
  have k : kNor v = kNor keyed := rfl
  obtain ⟨c1, c2⟩ := calBytes_crc 0
  obtain ⟨p1, p2, p3⟩ := calBytes_parts 0
  have o : gcmOpen (kNor keyed) (slice calHead 48 8 ++ slice calHead 60 4) calHead calBody
      (gcmTag (kNor keyed) (slice calHead 48 8 ++ slice calHead 60 4) calHead calBody) =
      some (gcmCrypt (kNor keyed) (slice calHead 48 8 ++ slice calHead 60 4) calBody) := if_pos rfl
  rw [Nat.add_zero, Nat.mod_eq_of_lt (crc32_lt _)] at c1
  unfold calSlot
  simp only [r, k]
  generalize calBytes (kNor keyed) 0 = l at *
  rw [p1, p2, p3, c1, c2, calHead_die, o, if_neg (by simp)]

theorem w_ImageVerification_noSlot (i : Nat) (h : i < 2) :
    let s := slotted 1
    let v := { s with sec := { s.sec with d := unwrapKey s.otp } }
    calSlot v i = none := by
  intro s v
  have r : norRead v (calAddr i) 41436 = calBytes (kNor keyed) 1 := slot_reads 1 i h (fun q => { q with d := unwrapKey s.otp })
  obtain ⟨c1, c2⟩ := calBytes_crc 1
  unfold calSlot
  simp only [r]
  have l := crc32_lt (calFront (kNor keyed))
  generalize calBytes (kNor keyed) 1 = b at *
  rw [c1, c2, if_pos (Or.inl _)]
  omega

/-- An image of 512 bytes under version 3, signed with the key of which the public half is the base point. -/
def image : List Byte :=
  leBytes 4 0x444E474C ++ leBytes 2 1 ++ leBytes 2 256 ++ leBytes 4 512 ++ leBytes 4 0x44581536 ++ zeros 5 ++ leBytes 1 3 ++
    leBytes 2 1 ++ zeros 16 ++ leBytes 32 p256G.1 ++ leBytes 32 p256G.2 ++ zeros 344 ++
    leBytes 32 17611591551394103526348166819472991346437344487394483771310531299395461896210 ++
    leBytes 32 36896047757020904482568147292140361854023776188030950338196366722260611108201

theorem image_read : imageBytes (flashed image 0 inStart) = image := by
  have n : clampN 512 4194304 (leAt (norRead (flashed image 0 inStart) 8 4) 0 4) = image.length := by decide +kernel
  unfold imageBytes
  rw [n]
  exact norRead_flashed image 0 inStart

theorem w_ImageVerification :
    inStart.phase = .start ∧ inStart.image.judged = false ∧ unwrapKey inStart.otp ≠ none ∧
    norSuits (some { sfdpMiB := some 8, maxMhz := 133, dual := true, quad := true, counterOk := true }) = true ∧ norSuits none = false ∧
    imageResult inStart (imageBytes inStart) ≠ 0 ∧ inStart.otp.claimed = false ∧
    (let s := { inStart with otp := { inStart.otp with wrapped := [] } }
     s.phase = .start ∧ s.image.judged = false ∧ unwrapKey s.otp = none) ∧
    { inStart with image := { r0.image with judged := true } }.image.judged = true :=
  ⟨by decide +kernel, by decide +kernel, unwraps, by decide +kernel⟩

/-- The walk of an image that is in the flash: its failure, or its records and what is missing. -/
def walked (img : List Byte) : Except LoadFail (List Rec) :=
  walkRecs (leAt (img.take 256) 22 2 + 1) (slice img 256 (leAt (img.take 256) 8 4 - 320)) [] 0 (leAt (img.take 256) 22 2)
def walkFail (img : List Byte) : Option LoadFail := match walked img with | .error e => some e | .ok _ => none
def walkMissing (img : List Byte) : Option (Option (Nat × Nat)) :=
  match walked img with | .error _ => none | .ok rs => some (missingRec rs)

theorem w_ImageVerification_accepted : imageResult (flashed image 0 inStart) (imageBytes (flashed image 0 inStart)) = 0 := by
  rw [image_read]
  exact image_passes _ _ (by decide +kernel) (by decide +kernel)

/-- An image of one version with `n` records in it, signed by the same key: each signature is made with the nonce 1. -/
def imageOf (n sig : Nat) (recs : List Byte) : List Byte :=
  leBytes 4 0x444E474C ++ leBytes 2 1 ++ leBytes 2 256 ++ leBytes 4 (320 + recs.length) ++ leBytes 4 0x44581536 ++ zeros 5 ++
    leBytes 1 3 ++ leBytes 2 n ++ zeros 16 ++ leBytes 32 p256G.1 ++ leBytes 32 p256G.2 ++ zeros 152 ++ recs ++
    leBytes 32 p256G.1 ++ leBytes 32 sig

/-- A record in the image. -/
def recBytes (type inst : Nat) (b : List Byte) : List Byte :=
  leBytes 4 b.length ++ zeros 2 ++ leBytes 1 inst ++ leBytes 1 type ++ b

theorem image_reads (img : List Byte)
    (n : clampN 512 4194304 (leAt (norRead (flashed img 0 inStart) 8 4) 0 4) = img.length) :
    imageBytes (flashed img 0 inStart) = img := by
  unfold imageBytes
  rw [n]
  exact norRead_flashed img 0 inStart

def filler : List Byte := recBytes 0 0 (zeros 184)
def unlisted : List Byte := imageOf 2 97725806775868059812002608600129420606179763735329397033122922711203012613148 (recBytes 0x40 9 [] ++ filler)
def twice : List Byte := imageOf 3 96939823801366322153193238418348129515063539769098312156700534672578370641505 (recBytes 13 0 (zeros 8) ++ recBytes 13 0 (zeros 8) ++ filler)
def bare : List Byte := imageOf 1 6975017107733461958885685360150847895959050042699778011853414688675340891923 filler

/-- Errors 3, 4 and 5 of the walk, and an image without the required records. -/
theorem w_ImageVerification_walks :
    walkFail image = some (3, 0, 0) ∧ walkFail unlisted = some (4, 0x40, 9) ∧ walkFail twice = some (5, 13, 0) ∧
    walkMissing bare = some (some (1, 0)) := by decide +kernel

theorem unlisted_good : imageResult (flashed unlisted 0 inStart) unlisted = 0 :=
  image_passes _ _ (by decide +kernel) (by decide +kernel)
theorem twice_good : imageResult (flashed twice 0 inStart) twice = 0 :=
  image_passes _ _ (by decide +kernel) (by decide +kernel)
theorem bare_good : imageResult (flashed bare 0 inStart) bare = 0 :=
  image_passes _ _ (by decide +kernel) (by decide +kernel)

/-- Every required record, with the bias record and the safety block given. -/
def complete (bias block : List Byte) : List Byte :=
  recBytes 1 0 (zeros 32) ++ recBytes 2 0 bias ++ recBytes 3 0 (zeros 16) ++ recBytes 4 0 (zeros 520) ++
    recBytes 5 5 (zeros 40) ++ recBytes 32 0 block
/-- V_lo 22 V, V_hi 28 V, V_min 22 V, V_max 28 V, V_ov 28.5 V. -/
def biasBody : List Byte :=
  wordsLe [field 6 58 30 + field 12 46 2200 + field 12 34 2800 + field 12 22 2200 + field 12 10 2800,
    field 12 52 2850 + field 4 48 2 + field 5 43 4 + field 9 34 300 + field 8 26 255]
/-- Profile 0, with its check value. -/
def blockBody : List Byte :=
  leBytes 8 (3496030651 + 2 ^ 48) ++ leBytes 8 (7 * 2 ^ 32 + 300 * 2 ^ 23 + 300 * 2 ^ 14 + 20 * 2 ^ 7) ++ leBytes 8 (20 * 2 ^ 58) ++
    (List.replicate 32 (leBytes 8 0x0001000100010001)).flatten
def conflicting : List Byte := imageOf 6 94287758875012087285477997153360333359575962857529808504378508156166829315776 (complete (zeros 16) (zeros 280))
def unproven : List Byte := imageOf 6 57324507133594918570050222760148407681894435742085983856777404198233074196928 (complete biasBody (zeros 280))
def whole : List Byte := imageOf 6 1500032176612432030916958034978780780566454375349467942161046392710347086636 (complete biasBody blockBody)

/-- The conditions of the last three load results, and of a load: bias conflict, safety block, profile. -/
def checksOf (img : List Byte) : Option (Bool × Bool × Nat) :=
  match walked img with
  | .error _ => none
  | .ok rs =>
    let l := legendOf rs (leAt (img.take 256) 24 8) (leAt (img.take 256) 21 1)
    if (missingRec rs).isSome then none
    else some (decide (l.bias.vHi ≤ l.bias.vLo ∨ l.bias.vMax ≤ l.bias.vMin ∨ l.bias.vOv < l.bias.vMax + 200),
      safetyOk ((recOf rs 32 0).getD []), l.safety.profile)

theorem w_ImageVerification_loads :
    (checksOf conflicting).map (·.1) = some true ∧ (checksOf unproven).map (fun c => (c.1, c.2.1)) = some (false, false) ∧
    checksOf whole = some (false, true, 0) ∧ inStart.safety.a.straps = 0 ∧ inStart.safety.b.straps = 0 ∧
    hosted.safety.a.straps ≠ 0 := by decide +kernel

theorem conflicting_good : imageResult (flashed conflicting 0 inStart) conflicting = 0 :=
  image_passes _ _ (by decide +kernel) (by decide +kernel)
theorem unproven_good : imageResult (flashed unproven 0 inStart) unproven = 0 :=
  image_passes _ _ (by decide +kernel) (by decide +kernel)
theorem whole_good : imageResult (flashed whole 0 inStart) whole = 0 :=
  image_passes _ _ (by decide +kernel) (by decide +kernel)

/-- Those images are what the verification reads. -/
theorem w_ImageVerification_read : ∀ img ∈ [unlisted, twice, bare, conflicting, unproven, whole],
    clampN 512 4194304 (leAt (norRead (flashed img 0 inStart) 8 4) 0 4) = img.length := by decide +kernel

theorem w_ImageAcceptance :
    (let s := { inStart with image := { r0.image with loaded := true }, grat := { r0.grat with everLocked := true } }
     s.phase = .start ∧ s.image.loaded = true ∧ s.grat.everLocked = true ∧ s.image.accepted = false ∧ s.bias.fault = 0 ∧ s.bias.on = false) ∧
    (let s := { inStart with bias := { r0.bias with fault := 1 } }; s.phase = .start ∧ s.image.loaded = false ∧ s.bias.fault ≠ 0) := by
  decide +kernel

/-! ## Sessions -/

/-- Accepted image, key 3 in the record, link up. -/
def hostable : State :=
  { linkUp inStart with image := { r0.image with accepted := true }, legend := { r0.legend with keys := [(3, p256G)] } }
def helloBody : List Byte := zeros 7 ++ leBytes 1 3 ++ zeros 32 ++ leBytes 32 p256G.1 ++ leBytes 32 p256G.2

theorem w_SessionEstablishment_hello : ∃ codes body u, Received 0x90 codes false body (advance 0 hostable) u ∧
    helloReason (leAt body 7 1) (leAt body 40 32, leAt body 72 32) u = 0 := by
  refine ⟨upPkt 0x90 helloBody, helloBody, _, received (by decide +kernel) (by decide +kernel), ?_⟩
  rw [afterRx, receive_eq]
  decide +kernel

/-- Seven refusals within 60 s. -/
def refused : State := { hostable with sec := { hostable.sec with refusals := List.replicate 7 0, blockedUntil := none } }

theorem w_SessionEstablishment_refused : ∃ codes body u, Received 0x90 codes false body (advance 0 refused) u ∧
    helloReason (leAt body 7 1) (leAt body 40 32, leAt body 72 32) u = 3 ∧ u.sec.refusals = 0 :: List.replicate 6 0 ∧
    u.image.accepted = true ∧ (∀ y ∈ 0 :: List.replicate 6 0, u.now < y + sec 60) := by
  refine ⟨upPkt 0x90 (zeros 7 ++ leBytes 1 3 ++ zeros 96), zeros 7 ++ leBytes 1 3 ++ zeros 96, _, received (by decide +kernel) (by decide +kernel), ?_⟩
  have e : (receive (rxBytes (advance 0 refused) (upPkt 0x90 (zeros 7 ++ leBytes 1 3 ++ zeros 96)) false) (rxViol (advance 0 refused) (upPkt 0x90 (zeros 7 ++ leBytes 1 3 ++ zeros 96)) false) (advance 0 refused)).2.sec = refused.sec := by
    decide +kernel
  rw [afterRx, receive_eq, e]
  decide +kernel

/-- An establishment in hand.  The signature below is made of the digest of one zero byte, which is the abscissa of the sum
of this key and the base point. -/
def hello : Hello :=
  { key := 3, hostNonce := zeros 32, hostPub := p256G, devNonce := zeros 32, eph := 1, th := [0], sig := [], session := 1, at_ := some 0 }
def finishable : State :=
  let s := linkUp inStart
  { s with
    legend := { r0.legend with keys := [(3, (59104891866741151669848437372454386843634553171942944615206954977327891083528,
      15083253582140971575089032949062607538996626055316986808790414936184028298729))] }
    sec := { s.sec with hello := some hello } }
def finishBody : List Byte :=
  leBytes 32 49846369543417741186729467304575255505141344055555831574636310663216789168157 ++
    leBytes 32 49846369543417741186729467304575255505141344055555831574636310663216789168157

theorem w_SessionEstablishment_finish : ∃ codes body u, Received 0x91 codes false body (advance 0 finishable) u ∧
    u.sec.hello = some hello ∧ (∀ y, hello.at_ = some y → u.now ≤ y + ms 100) ∧
    ecdsaVerify (Table.getD (0, 0) u.legend.keys hello.key) (sha256 (hello.th ++ hello.sig)) (leAt body 0 32) (leAt body 32 32)
      = true ∧ (ecdh hello.eph hello.hostPub).isSome = true := by
  refine ⟨upPkt 0x91 finishBody, finishBody, _, received (by decide +kernel) (by decide +kernel), ?_⟩
  have e : (receive (rxBytes (advance 0 finishable) (upPkt 0x91 finishBody) false) (rxViol (advance 0 finishable) (upPkt 0x91 finishBody) false) (advance 0 finishable)).2.sec = finishable.sec := by
    decide +kernel
  rw [afterRx, receive_eq, e]
  refine ⟨by decide +kernel, ?_, by decide +kernel⟩
  intro y h
  have z : y = 0 := (Option.some.inj h).symm
  rw [z]
  exact Nat.zero_le _

theorem w_SessionEstablishment_failed : ∃ codes body u, Received 0x91 codes false body (advance 0 finishable) u ∧ u.sec.hello = some hello ∧
    ecdsaVerify (Table.getD (0, 0) u.legend.keys hello.key) (sha256 (hello.th ++ hello.sig)) (leAt body 0 32) (leAt body 32 32)
      = false := by
  refine ⟨upPkt 0x91 (zeros 64), zeros 64, _, received (by decide +kernel) (by decide +kernel), ?_⟩
  have e : (receive (rxBytes (advance 0 finishable) (upPkt 0x91 (zeros 64)) false) (rxViol (advance 0 finishable) (upPkt 0x91 (zeros 64)) false) (advance 0 finishable)).2.sec = finishable.sec := by
    decide +kernel
  rw [afterRx, receive_eq, e]
  decide +kernel

theorem w_SessionEstablishment_unasked : ∃ codes body u, Received 0x91 codes false body (advance 0 (linkUp inStart)) u ∧ u.sec.hello = none := by
  refine ⟨upPkt 0x91 (zeros 64), zeros 64, _, received (by decide +kernel) (by decide +kernel), ?_⟩
  have e : (receive (rxBytes (advance 0 (linkUp inStart)) (upPkt 0x91 (zeros 64)) false) (rxViol (advance 0 (linkUp inStart)) (upPkt 0x91 (zeros 64)) false) (advance 0 (linkUp inStart))).2.sec = r0.sec := by
    decide +kernel
  rw [afterRx, receive_eq, e]
  decide +kernel

theorem w_SessionEstablishment_close : ∀ n ∈ [1, 2], ∃ codes body u, Received 0x92 codes false body (advance 0 (secured inStart)) u ∧ u.sec.session = some k1 ∧
    leAt body 4 4 = n := by
  intro n h
  refine ⟨upPkt 0x92 (zeros 4 ++ leBytes 4 n), zeros 4 ++ leBytes 4 n, afterRx (upPkt 0x92 (zeros 4 ++ leBytes 4 n)) (secured inStart), ?_⟩
  simp only [List.mem_cons, List.not_mem_nil, or_false] at h
  rcases h with rfl | rfl <;>
    exact ⟨received (by decide +kernel) (by decide +kernel), by decide +kernel, by decide +kernel⟩

theorem w_SessionEstablishment_force :
    let p := pkt 0x11 (zeros 8)
    let s := { linked { down := .data, active := 15, q3 := [p] } with sec := { r0.sec with next := some k1 } }
    laneFree (advance 0 s) = true ∧ (∃ l, takeDue (advance 0 s) = some (p, l)) ∧ p.type = 0x11 ∧ p.stream = none ∧
      p.tagged = false ∧ s.sec.next = some k1 :=
  ⟨by decide +kernel, ⟨_, rfl⟩, rfl, rfl, rfl, rfl⟩

theorem w_SessionEstablishment_timeout :
    finishable.sec.hello = some hello ∧ hello.at_ = some 0 ∧ 0 + ms 100 ≤ finishable.now + ms 100 ∧
    finishable.now + (ms 100 - 1) < 0 + ms 100 ∧ { hello with at_ := none }.at_ = none := by decide +kernel

/-- A seventh refusal is held when a badly signed finish comes. -/
def lastFinish : State :=
  { finishable with sec := { finishable.sec with refusals := List.replicate 7 0, blockedUntil := none } }

theorem w_SessionEstablishment_eighth : ∃ codes body u, Received 0x91 codes false body (advance 0 lastFinish) u ∧
    u.sec.hello = some hello ∧ u.sec.refusals = 0 :: List.replicate 6 0 ∧ (∀ y ∈ 0 :: List.replicate 6 0, u.now < y + sec 60) ∧
    ecdsaVerify (Table.getD (0, 0) u.legend.keys hello.key) (sha256 (hello.th ++ hello.sig)) (leAt body 0 32) (leAt body 32 32)
      = false := by
  refine ⟨upPkt 0x91 (zeros 64), zeros 64, _, received (by decide +kernel) (by decide +kernel), ?_⟩
  have e : (receive (rxBytes (advance 0 lastFinish) (upPkt 0x91 (zeros 64)) false) (rxViol (advance 0 lastFinish) (upPkt 0x91 (zeros 64)) false) (advance 0 lastFinish)).2.sec = lastFinish.sec := by
    decide +kernel
  rw [afterRx, receive_eq, e]
  decide +kernel

/-- The device hello leaves: its body names the establishment's session. -/
theorem w_SessionEstablishment_hello_sent :
    let p := pkt 0x10 (zeros 4 ++ leBytes 4 1 ++ zeros 8)
    let s := { linked { down := .data, active := 15, q3 := [p] } with sec := { r0.sec with hello := some hello } }
    laneFree (advance 0 s) = true ∧ (∃ l, takeDue (advance 0 s) = some (p, l)) ∧ p.type = 0x10 ∧ p.stream = none ∧
      p.tagged = false ∧ s.sec.hello = some hello ∧ hello.session = leAt p.body 4 4 :=
  ⟨by decide +kernel, ⟨_, rfl⟩, rfl, rfl, rfl, rfl, by decide +kernel⟩

/-! ## Status, log, JTAG -/

def statusBody (len addr : Nat) : List Byte := wordsLe [field 10 46 addr + field 7 39 len]

theorem w_StatusQuery : ∀ len ∈ [0, 1, 64, 65], ∀ busy, ∃ codes body u, Received 0x84 codes false body (advance 0 { linkUp inStart with dma := { r0.dma with snapshots := if busy then List.replicate 8 (0, []) else [] } }) u ∧
    bits 45 39 (leAt body 0 8) = len ∧ (busy = true ↔ 8 ≤ queriesPending u) ∧ linkTakes u = true := by
  intro len h busy
  refine ⟨upPkt 0x84 (statusBody len 1000), statusBody len 1000, afterRx (upPkt 0x84 (statusBody len 1000))
    { linkUp inStart with dma := { r0.dma with snapshots := if busy then List.replicate 8 (0, []) else [] } }, ?_⟩
  simp only [List.mem_cons, List.not_mem_nil, or_false] at h
  rcases h with rfl | rfl | rfl | rfl <;> cases busy <;>
    exact ⟨received (by decide +kernel) (by decide +kernel), by decide +kernel, by decide +kernel, by decide +kernel⟩

theorem w_StatusAndEventLog :
    (let s := { r0 with log := { r0.log with queue := List.replicate 63 (0, 0) } }; s.log.queue.length < 64) ∧
    (let s := { r0 with log := { r0.log with queue := List.replicate 64 (0, 0) } }; 64 ≤ s.log.queue.length) ∧
    (∀ n ∈ [1023, 1024], let s := { r0 with log := { r0.log with queue := [(0, 0)], ring := List.replicate n (0, 0), lastWrite := some 0 } }
     s.log.queue = (0, 0) :: [] ∧ s.log.lastWrite = some 0 ∧ 0 + us 10 ≤ s.now + us 10 ∧ s.now + (us 10 - 1) < 0 + us 10 ∧
       s.log.ring.length = n) ∧
    (∀ n ∈ [15999999, 16000000], let s := { inStart with grat := { inStart.grat with localTime := n } }
      s.phase ≠ .reset ∧ (s.log.pageAt ≤ (advance 0 s).grat.localTime ↔ n = 16000000)) ∧
    counterSaturates .logOverwrites = true ∧ counterSaturates .requestsRefused = true := by
  decide +kernel

theorem w_JtagPort : 1023 < 1024 ∧ 1 ≤ 64 ∧ 64 ≤ 64 ∧ (inMode 6).phase = .mode ∧ (inMode 6).seq.mode = 6 ∧
    (inMode 5).seq.mode ≠ 6 ∧ 0 < 64 ∧ 1023 + 0 < 1024 ∧ r0.supply.jtagHold = false ∧
    { r0 with supply := { r0.supply with jtagHold := true } }.supply.jtagHold = true ∧
    (let scan : BoundaryScan := { levels := List.replicate 131 true, shifted := List.replicate 131 false }
     scan.levels.length = 131 ∧ scan.shifted.length = 131) ∧
    (∃ p ∈ boundaryBalls, inputBall p = true) ∧ (∃ p ∈ boundaryBalls, observeOnly p = true) ∧
    (∃ p ∈ boundaryBalls, observeOnly p = false ∧ inputBall p = false) := by decide +kernel

/-- Every rail at its nominal voltage: no ball is without its rail. -/
def powered : State := { r0 with supply := { r0.supply with levels := [750000, 850000, 900000, 1200000, 1800000, 3300000] } }

theorem w_JtagPort_rails (p : Ball) (h : p ∈ boundaryBalls) : railAbsent powered (ballRail p) = false := by
  have r : ∀ p ∈ boundaryBalls, ballRail p < 6 := by decide +kernel
  have u : ∀ n k, k < 6 → railUnder n 2 k (powered.supply.levels.getD k 0) = false := by
    intro n k h
    interval_cases k <;> simp [railUnder, railTable, powered, clampI] <;> omega
  have z : ∀ k < 6, powered.supply.levels.getD k 0 ≠ 0 := by decide +kernel
  unfold railAbsent
  simp only [u powered.free _ (r p h)]
  simpa using z _ (r p h)


/-! ## Readout -/

theorem checkTag_down (l : List Byte) (s : State) : (checkTag l s).2.link = s.link := by
  rw [checkTag_eq]

theorem receive_down (l : List Byte) (v : Bool) (s : State) :
    (receive l v s).2.link.downDeclared = s.link.downDeclared := by
  unfold receive
  split
  · rfl
  · split
    · rw [discardUp_eq]
    · split
      · rfl
      · simp only []
        split <;> rename_i u hu <;>
          exact (congrArg (fun x => x.2.link.downDeclared) hu.symm).trans
            (congrArg Link.downDeclared (checkTag_down l { takeToken s with link := { (takeToken s).link with seqUp := rxSeq l } }))

theorem receive_q3 (l : List Byte) (v : Bool) (s : State) : (receive l v s).2.link.q3 = s.link.q3 := by
  unfold receive
  split
  · rfl
  · split
    · rw [discardUp_eq]
    · split
      · rfl
      · simp only []
        split <;> rename_i u hu <;>
          exact (congrArg (fun x => x.2.link.q3) hu.symm).trans
            (congrArg Link.q3 (checkTag_down l { takeToken s with link := { (takeToken s).link with seqUp := rxSeq l } }))

def queryBody (op arg off : Nat) : List Byte := wordsLe [field 4 52 op, arg, field 32 32 off]

theorem tagPkt_leAt (type : Nat) (body : List Byte) (o n : Nat) (h : o + n ≤ (tagHead type body).length) :
    leAt (tagPkt type body) o n = leAt (tagHead type body) o n := by
  unfold leAt tagPkt withCrc
  rw [List.append_assoc, slice_front _ _ _ _ h]

/-- A query packet is accepted by a link that is up under session `k1` in a device that has not locked. -/
theorem queryPkt_ok (op arg off : Nat) (hb : (queryBody op arg off).length = 24)
    (ht : (packetTag k1.kUp k1.number true false 0 (tagHead 0x98 (queryBody op arg off))).length = 16)
    (hh : rxType (tagHead 0x98 (queryBody op arg off)) = 0x98 ∧ rxVersion (tagHead 0x98 (queryBody op arg off)) = 1 ∧
      rxLength (tagHead 0x98 (queryBody op arg off)) = (queryBody op arg off).length + 16 ∧
      rxSeq (tagHead 0x98 (queryBody op arg off)) = 0 ∧ rxTagged (tagHead 0x98 (queryBody op arg off)) = true)
    (ho : rxOperation (tagHead 0x98 (queryBody op arg off)) = op ∧ (tagHead 0x98 (queryBody op arg off)).length = 32)
    (s : State) (hs : s.link.stage = 8) (hp : s.link.plan = 0) (hi : s.link.inverted = false)
    (hr : (refilled (advance 0 s)).1 ≠ 0) (hk : s.sec.session = some k1) (hl : establishing s = false)
    (hd : s.link.downDeclared = false) :
    Received 0x98 (upCodes (tagPkt 0x98 (queryBody op arg off))) false (queryBody op arg off) (advance 0 s)
      (afterRx (upCodes (tagPkt 0x98 (queryBody op arg off))) s) ∧
    linkTakes (afterRx (upCodes (tagPkt 0x98 (queryBody op arg off))) s) = true ∧
    rxOperation (rxBytes (advance 0 s) (upCodes (tagPkt 0x98 (queryBody op arg off))) false) = op := by
  refine ⟨receivedTagged 0x98 _ (by omega) ht hh rfl (by rw [hb]; rfl) s hs hp hi hr hk hl, ?_, ?_⟩
  · unfold linkTakes afterRx
    rw [receive_down]
    simpa using hd
  · rw [upCodes, (rx_packet false _ _ (by simpa using hi)).1]
    refine Eq.trans ?_ ho.1
    unfold rxOperation
    rw [tagPkt_leAt _ _ _ _ (by omega)]

/-- What a witness of ReadoutQueries says: an accepted query of operation `op` leaves a state with `P`. -/
def QueryMeets (op : Nat) (body : List Byte) (s : State) (P : State → Prop) : Prop :=
  ∃ codes u, Received 0x98 codes false body (advance 0 s) u ∧ linkTakes u = true ∧
    rxOperation (rxBytes (advance 0 s) codes false) = op ∧ P u

/-- In Depot, with these blocks and incidents. -/
def depot (recd : Recorder) (accepted : Bool) : State :=
  { inMode 6 with recd := recd, image := { r0.image with accepted := accepted } }
def incident (st : Nat) : Incident :=
  { number := 7, first := 0, last := 0, time := 0, local_ := 0, cause := 1, st := st, joined := 0, segments := 0 }
/-- A block whose record has sequence 7 and 256 bytes. -/
def signed : Block := { st := 1, sign := zeros 8 ++ leBytes 8 7 ++ zeros 240 }

theorem query_facts : ∀ op < 5,
    (queryBody op 7 0).length = 24 ∧
    (packetTag k1.kUp k1.number true false 0 (tagHead 0x98 (queryBody op 7 0))).length = 16 ∧
    (rxType (tagHead 0x98 (queryBody op 7 0)) = 0x98 ∧ rxVersion (tagHead 0x98 (queryBody op 7 0)) = 1 ∧
      rxLength (tagHead 0x98 (queryBody op 7 0)) = (queryBody op 7 0).length + 16 ∧
      rxSeq (tagHead 0x98 (queryBody op 7 0)) = 0 ∧ rxTagged (tagHead 0x98 (queryBody op 7 0)) = true) ∧
    (rxOperation (tagHead 0x98 (queryBody op 7 0)) = op ∧ (tagHead 0x98 (queryBody op 7 0)).length = 32) := by
  decide +kernel

theorem w_ReadoutQueries_outside : ∀ op < 5,
    QueryMeets op (queryBody op 7 0) (secured inStart) (fun u => inDepot u = false) := by
  intro op h
  obtain ⟨f1, f2, f3, f4⟩ := query_facts op h
  have h := queryPkt_ok op 7 0 f1 f2 f3 f4 (secured inStart) rfl rfl rfl (by decide +kernel) rfl rfl rfl
  refine ⟨_, _, h.1, h.2.1, h.2.2, ?_⟩
  rw [afterRx, receive_eq]
  rfl

theorem w_ReadoutQueries_depot (recd : Recorder) (accepted : Bool)
    (hr : (refilled (advance 0 (secured (depot recd accepted)))).1 ≠ 0) : ∀ op < 5,
    QueryMeets op (queryBody op 7 0) (secured (depot recd accepted))
      (fun u => inDepot u = true ∧ u.recd = recd ∧ u.image.accepted = accepted) := by
  intro op h
  obtain ⟨f1, f2, f3, f4⟩ := query_facts op h
  have h := queryPkt_ok op 7 0 f1 f2 f3 f4 (secured (depot recd accepted)) rfl rfl rfl hr rfl rfl rfl
  refine ⟨_, _, h.1, h.2.1, h.2.2, ?_⟩
  rw [afterRx, receive_eq]
  exact ⟨rfl, rfl, rfl⟩

/-- The recorders with which the clauses of ReadoutQueries are met in Depot. -/
theorem w_ReadoutQueries_clauses :
    (∀ accepted, (refilled (advance 0 (secured (depot {} accepted)))).1 ≠ 0) ∧
    ({ readout := some { echo := 0, seq := 0, offset := 0 } } : Recorder).readout ≠ none ∧ ({} : Recorder).readout = none ∧
    findRecord (depot {} true) 7 = none ∧ findRecord (depot { blocks := [(5, signed)] } true) 7 = some (5, false) ∧
    (recordAt (blockOf (depot { blocks := [(5, signed)] } true) 5) false).length = 256 ∧
    incidentOf (depot { incidents := [incident 2] } true) 7 = some (incident 2) ∧ 2 ≤ (incident 2).st ∧
    incidentOf (depot { incidents := [incident 1] } true) 7 = some (incident 1) ∧ (incident 1).st < 2 := by decide +kernel

/-- A list or a read runs, its next data packet in the queue or its successor due: in Depot, and outside. -/
def reading (mode : Nat) (q3 : List Pkt) (r : Readout) : State :=
  let s := secured (inMode mode)
  { s with recd := { r0.recd with readout := some r }, link := { s.link with down := .data, active := 15, busyUntil := 0, q1 := [], q2 := [], q3 := q3, q4 := [], q5 := [] } }
/-- A readout packet with no data: a release's answer. -/
def answer : Pkt := readoutPkt 0 1 7 0 []

theorem w_ReadoutQueries_packets :
    (let s := reading 1 [] { echo := 0, seq := 7, offset := 0 }
     laneFree (advance 0 s) = true ∧ s.recd.readout ≠ none ∧ inDepot s = false) ∧
    (∀ r ∈ [({ echo := 0, seq := 7, offset := 0, data := zeros 8 } : Readout), { echo := 0, seq := 7, offset := 0, last := true }],
     let s := reading 6 [answer] r
     laneFree (advance 0 s) = true ∧ (takeDue (advance 0 s)).map (·.1) = some answer ∧ answer.type = 0x18 ∧
       s.recd.readout = some r ∧ inDepot s = true ∧ linkTakes s = true ∧ s.sec.session ≠ none ∧
       (takeDue (advance 0 s)).map (fun x => x.2.q3.any isReadData) = some false ∧ (r.data = [] ↔ r.last = true)) := by
  decide +kernel

/-- With data of a readout still in the queue, a list waits for it. -/
theorem w_ReadoutQueries_waiting (recd : Recorder) (q : List Pkt)
    (hr : (refilled (advance 0 { secured (depot recd true) with link := { (secured (depot recd true)).link with q3 := q } })).1 ≠ 0) :
    QueryMeets 0 (queryBody 0 7 0) { secured (depot recd true) with link := { (secured (depot recd true)).link with q3 := q } }
      (fun u => inDepot u = true ∧ u.recd = recd ∧ u.link.q3 = q) := by
  obtain ⟨f1, f2, f3, f4⟩ := query_facts 0 (by omega)
  have h := queryPkt_ok 0 7 0 f1 f2 f3 f4 { secured (depot recd true) with link := { (secured (depot recd true)).link with q3 := q } }
    rfl rfl rfl hr rfl rfl rfl
  refine ⟨_, _, h.1, h.2.1, h.2.2, ?_⟩
  rw [afterRx, receive_eq]
  exact ⟨rfl, rfl, by rw [receive_q3]; rfl⟩

theorem w_ReadoutQueries_queues : ∀ q ∈ [[], [readoutPkt 0 0 7 0 (zeros 8)]],
    (let s := secured (depot {} true)
     (refilled (advance 0 { s with link := { s.link with q3 := q } })).1 ≠ 0) ∧
    (q.any isReadData = true ↔ q ≠ []) ∧ (List.flatMap incidentBytes [incident 2]).drop 0 ≠ [] := by decide +kernel
/-! ## Recorder, movement engine, NOR flash -/

/-- A part that suits. -/
def part : NandPart :=
  { onfi := 402, width := 8, vccqMv := 1800, pageKiB := 16, spareBytes := 2048, pagesPerBlock := 64, blocks := 1024, tReadUs := 100, tBersUs := 10000, tProgUs := 700,
    sdrMode := 5, nvDdr2 := 8, paramOk := true, endurance := 3000, factoryBad := [] }
/-- In Scan with recorder `r`. -/
def recording (r : Recorder) : State := { inMode 1 with recd := r, image := { r0.image with accepted := true } }

theorem w_RecorderTriggers :
    (10 ≤ 10 ∧ (recording {}).image.accepted = true ∧ r0.image.accepted = false ∧ (recording {}).supply.dip = false ∧
      { r0 with supply := { r0.supply with dip := true } }.supply.dip = true) ∧
    (∀ st ∈ [1, 2, 3], ∀ phase2, let s := recording { st := st, phase2 := phase2, triggers := [(1, 5, 6, 7)] }
      s.recd.triggers = (1, 5, 6, 7) :: [] ∧ s.recd.st = st ∧ s.recd.phase2 = phase2) ∧
    (let s := recording { st := 3, triggers := [(1, 5, 6, 7)], open_ := some (1, 9, false) }
     3 ≤ s.recd.st ∧ s.recd.phase2 = false ∧ s.recd.open_ = some (1, 9, false)) ∧
    (let s := recording { st := 3, part := some part, triggers := [(1, 5, 6, 7)] }
     3 ≤ s.recd.st ∧ s.recd.phase2 = false ∧ s.recd.open_ = none ∧ exceedsLimits s = false) ∧
    (∀ e ∈ [0, 1], let s := recording { open_ := some (1, e, false) }
      s.recd.open_ = some (1, e, false) ∧ (e ≤ s.now + 0 ↔ e = 0)) ∧
    ((recording {}).recd.st = 2 ∧ partSuits part = true ∧ partSuits { part with endurance := 0 } = false ∧
      r0.legend.secondCe = false ∧ { r0.legend with secondCe := true }.secondCe = true) := by decide +kernel

def segment : OpenSeg :=
  { block := 5, seq := 1, kind := 0, taken := [], ending := true,
    info := { firstSheet := 0, lastSheet := 0, firstTime := 0, lastTime := 0, step := false, slew := false, sync := 0 } }

/-- A block with a storage header, a data page and a signature, and its scrub copy. -/
def scrubbed (x : Scrub) : State :=
  recording { st := 3, part := some part, job := some .copy, scrubbing := some x,
              blocks := [(5, { st := 1, header := zeros 96, body := zeros 8, pages := [(zeros 8, zeros 8)] }),
                         (6, { st := 0, pages := if x.page < 2 then [] else [(zeros 8, zeros 8)] })] }

theorem w_NandOperations :
    (∀ j ∈ [NandJob.header, .program, .sign],
     let s := recording { st := 3, part := some part, job := some j, seg := some segment }
     s.recd.job = some j ∧ s.recd.seg = some segment ∧ uncorrectable [72] = false ∧ uncorrectable [73] = true) ∧
    ((recording { job := some (.erase 5) }).recd.job = some (.erase 5) ∧ programmed { ok := true, errors := [72] } = true ∧
      programmed { ok := true, errors := [73] } = false) ∧
    (let s := recording { job := some (.read 5 6), blocks := [(5, { reads := 49999 })] }
     s.recd.job = some (.read 5 6) ∧ (∃ k ∈ [49], 48 < k) ∧ 50000 ≤ (blockOf s 5).reads + 1 ∧ inDepot s = false ∧
       s.recd.scrubbing = none) := by decide +kernel

theorem w_NandOperations_reads :
    (let s := reading 6 [] { echo := 0, seq := 7, offset := 0 }
     let t := { s with recd := { s.recd with job := some (.read 5 1), blocks := [(5, { signed with st := 1 })] } }
     readDue t = some (.read 5 1) ∧ findRecord t 7 = some (5, false) ∧ t.link.q3.any isReadData = false ∧
       linkTakes t = true ∧ t.sec.session ≠ none ∧
       slice (recordAt (blockOf t 5) false) 0 (pageEnd t (blockOf t 5) false 0 - 0) ≠ []) := by decide +kernel

theorem w_NandOperations_scrubs :
    (∀ step ∈ [ScrubStep.read, .program, .check], ∀ page ∈ [1, 2],
     let x : Scrub := { source := 5, copy := 6, page := page, step := step }
     let s := scrubbed x
     s.recd.job = some .copy ∧ s.recd.scrubbing = some x ∧ x.source ≠ x.copy ∧ s.recd.ring.head? ≠ some x.source ∧
       (x.page < 1 + (blockOf s x.copy).pages.length ↔ page = 0)) ∧
    (let s := scrubbed { source := 5, copy := 6, page := 1, step := .check }
     let t := modBlock 6 (fun v => { v with pages := [(zeros 8, zeros 8)] }) s
     t.recd.scrubbing = s.recd.scrubbing ∧ 1 < 1 + (blockOf t 6).pages.length) := by decide +kernel

theorem w_NandOperations_blocks :
    (let s := recording { st := 3, part := some part, events := [(1, 2)] }
     s.recd.st = 3 ∧ recordingNow s = true ∧ s.recd.gaps = [] ∧ s.recd.events ≠ [] ∧
       stagedBytes s + 8 + 16 * s.recd.events.length ≤ 524288) ∧
    (let s := { recording { st := 3, part := some part } with contour := { r0.contour with sheets := [sheetOut] } }
     s.recd.st = 3 ∧ recordingNow s = true ∧ s.recd.gaps = [] ∧ s.recd.events = [] ∧ recordedSheets s = sheetOut :: [] ∧
       bearingDue s sheetOut = some 11 ∧ stageFits (bearingBlock sheetOut 11) s = true) ∧
    (let s := recording { st := 3, part := some part, seg := some segment }
     s.recd.st = 3 ∧ s.supply.dip = false ∧ s.recd.seg = some segment ∧ segment.ending = true ∧ 0 < pageBytes s ∧
       segBuffered segment ≤ dataPages s * pageBytes s ∧
       ∀ p ∈ ({ dt := 0, pages := [{ ok := true, errors := [72] }] } : PageRun).pages, programmed p = true) ∧
    ((recording { st := 2 }).image.accepted = true ∧ (recording { st := 3 }).recd.job = none ∧
     (let s := recording { st := 3, job := some .sign }
      3 ≤ s.recd.st ∧ s.recd.job ≠ none ∧ s.now + (ms 100 - 1) < s.recd.jobAt + ms 100 ∧
        s.recd.jobAt + ms 100 ≤ s.now + ms 100)) := by decide +kernel

/-- A staging memory that is full: 524,288 bytes wait. -/
def fullBody : Body := { kind := 3, bytes := List.replicate 524288 0, sheet := 0, time := 0, step := false, slew := false, sync := 0 }

theorem w_NandOperations_full (s : State) (h : s.recd.staging = [fullBody]) :
    524288 < stagedBytes s + 8 + 16 * s.recd.events.length ∧ stageFits (bearingBlock sheetOut 11) s = false := by
  have n : fullBody.bytes.length = 524288 := List.length_replicate ..
  have m : 0 < (bearingBlock sheetOut 11).bytes.length := by decide +kernel
  have b : 524288 ≤ stagedBytes s := by
    simp [stagedBytes, bodiesBytes, h, n]
    omega
  constructor
  · omega
  · unfold stageFits
    simp
    omega

theorem w_CommitPhases :
    (let s := recording { phase1 := true, incidents := [incident 0] }
     s.recd.phase1 = true ∧ s.recd.phase2 = false ∧ s.supply.dip = false ∧ s.nor.present = true ∧ s.recd.closing = [] ∧
       s.recd.seg = none ∧ s.nor.jobs = [] ∧ s.recd.incidents ≠ []) ∧
    (let s := recording { phase2 := true, incidents := [incident 1] }
     s.recd.phase2 = true ∧ s.recd.phase1 = false ∧ s.supply.dip = false ∧ s.nor.present = true ∧ s.recd.closing = [] ∧
       s.recd.seg = none ∧ s.nor.jobs = [] ∧ s.recd.incidents ≠ []) ∧
    { r0 with supply := { r0.supply with dip := true } }.supply.dip = true ∧
    { r0 with nor := { r0.nor with present := false } }.nor.present = false ∧
    (∀ st ∈ [2, 3], let s := { recording { st := st } with sec := { r0.sec with d := some 1 } }
      s.sec.d ≠ none ∧ s.recd.st = st ∧ s.now + (sec 3600 - 1) < s.recd.hourAt + sec 3600 ∧
        s.recd.hourAt + sec 3600 ≤ s.now + sec 3600) := by decide +kernel

/-- Channel `k` runs descriptor `k`. -/
def moving (k : Nat) (v : Mover) (d : Desc) : State :=
  { linkUp (inMode 1) with dma := { r0.dma with movers := [(k, v)], descs := [(k, d)], snapshots := [(0, zeros 8)] } }

/-- A descriptor within its spaces. -/
def span (next : Nat) : Desc := { len := 1, next := next }

theorem w_MovementChannels :
    (∀ st ∈ [1, 3], let s := moving 15 { st := st, desc := 15 } (span 1024)
      (moverOf s 15).st = st ∧ 15 ≠ 12 ∧ 1024 ≤ (descOf s (moverOf s 15).desc).next ∧
        descValid (descOf s (moverOf s 15).desc) = true) ∧
    (let s := moving 15 { st := 1, desc := 15 } {}
     (moverOf s 15).st = 1 ∧ descValid (descOf s (moverOf s 15).desc) = false) ∧
    (let s := moving 0 { st := 1, desc := 0 } (span 1023)
     (moverOf s 0).st = 1 ∧ (descOf s (moverOf s 0).desc).next < 1024 ∧
       (descOf s (moverOf s 0).desc).next ≠ (moverOf s 0).desc ∧ descValid (descOf s (moverOf s 0).desc) = true) ∧
    (let s := moving 12 { st := 1, desc := 12 } (span 1024)
     (moverOf s 12).st = 1 ∧ s.dma.snapshots = (0, zeros 8) :: [] ∧ linkTakes s = true ∧
       descValid (descOf s (moverOf s 12).desc) = true) ∧
    (∀ k ∈ [7, 10, 11, 12, 13, 15], ∀ d ∈ [span 1024, {}],
     let s := moving k { st := 3, desc := k, addr := 5 } d
     (moverOf s k).st = 3 ∧ (moverOf s k).addr = (2 ^ 48 + 5) % 2 ^ 48 ∧
       (descValid (descOf s (moverOf s k).desc) = true ↔ d = span 1024)) := by
  decide +kernel

/-- What each channel's abandonment acts on: a dump waiting for its copy, a dump packet, a page program, a scrub's copy, a
readout. -/
theorem w_MovementChannels_uses :
    (let s := { moving 3 { st := 3, desc := 3, addr := 5 } (span 1024) with survey := { r0.survey with dumpQueue := [(5, 7, 1, 0)] } }
     s.survey.dumpQueue = (5, 7, 1, 0) :: [] ∧ 7 % 4 = 3) ∧
    (let p : Pkt := { pkt 0x05 [] with pool := some 7 }
     let s := moving 7 { st := 3, desc := 7, addr := 5 } (span 1024)
     { s with link := { s.link with q5 := [p] } }.link.q5.find? (fun p => decide (dumpChannel p = some 7)) = some p) ∧
    (let s := recording { job := some .program, seg := some segment }; s.recd.job = some .program ∧ s.recd.seg = some segment) ∧
    (let s := scrubbed { source := 5, copy := 6 }; s.recd.scrubbing = some { source := 5, copy := 6 } ∧ 5 ≠ 6) ∧
    (reading 6 [] { echo := 0, seq := 7, offset := 0 }).recd.readout ≠ none := by decide +kernel

def job (erasing : Bool) (addr n : Nat) : NorOp := { job := .calSlot 0, erasing := erasing, addr := addr, left := zeros n }

theorem w_NorOperations :
    (∀ n ∈ [1, 2], let s := { inStart with nor := { r0.nor with jobs := [job false 255 n] }, calib := { r0.calib with candidate := some {} } }
     s.nor.jobs = job false 255 n :: [] ∧ (job false 255 n).erasing = false ∧ (job false 255 n).left ≠ [] ∧ s.nor.present = true ∧
       (256 - (job false 255 n).addr % 256 < (job false 255 n).left.length ↔ n = 2) ∧ s.calib.candidate = some {}) ∧
    (∀ n ∈ [0, 1], let s := { inStart with nor := { r0.nor with jobs := [job true 65536 n] } }
     s.nor.jobs = job true 65536 n :: [] ∧ (job true 65536 n).erasing = true ∧ s.nor.present = true ∧
       ((job true 65536 n).left = [] ↔ n = 0)) ∧
    (let o : NorOp := { job := .table 1, erasing := false, addr := 0x450000, left := zeros 1 }
     let s := { inStart with nor := { r0.nor with jobs := [o] } }
     s.nor.jobs = o :: [] ∧ o.job = .table s.recd.tableSlot ∧ o.left ≠ []) ∧
    { inStart with nor := { r0.nor with present := false } }.nor.present = false := by decide +kernel


/-- R393: x generates GF(2^14) under the polynomial the rule gives, which is the minimal one of alpha. -/
theorem test_bch_field : minimalPoly 1 = 0x402B ∧ gfPower 16383 = 1 ∧ gfPower 5461 ≠ 1 ∧ gfPower 381 ≠ 1 ∧ gfPower 129 ≠ 1 := by
  decide +kernel
/-! ## Worked examples of the spec -/

/-- 02, Example — the shots of bearing 100 in Drive: 40 µs periods; slot 2 of period 102 serves bearing 100. -/
theorem test_drive_periods : periodTaps r0 {} = us 40 ∧ bearingOf {} 102 2 = some 100 ∧ bearingOf {} 105 5 = some 100 ∧
    bearingOf {} 102 5 = some 97 ∧ bearingOf {} 2 5 = none := by decide +kernel

/-- 04, Example — die warming by 4 °C: 23.575 V is code 1,075 and 23.675 V is code 1,143. -/
theorem test_bias_duty : dutyOf r0 23575000 = 1075 ∧ dutyOf r0 23675000 = 1143 := by decide +kernel

/-- 06, Example — tracking and placement for one Drive point. -/
theorem test_tracking :
    let bins := [40, 250, 700, 250, 251, 980]
    let x := (bins.map (· * 64)).zipIdx.foldl (fun x e => (eventTrack 1 2 e.1 (eventBins 1 (if e.2 < 3 then 0 else 1) e.1 x)).1) ({} : Ctx)
    let y := (eventTrack 1 2 16031 (eventBins 1 2 16031 x)).1
    (peakAt x.peaks 0).bin = 250 ∧ (peakAt x.peaks 0).value = 2 ∧ (peakAt x.peaks 1).valid = false ∧
    (peakAt y.peaks 0).value = 3 ∧ ((y.wins.getD 0 {}).z, (y.wins.getD 0 {}).from_) = (8008, 2) ∧
    Table.getD 0 y.coarse 250 = 3 ∧ Table.getD 0 y.fine 7 = 1 := by decide +kernel

/-- 08, the record of channel 768 with one slot. -/
theorem test_record_head :
    recordHead { offset := 112, primary := 0, planned := 6, taken := 0, flags := { unlit := true }, bearing := 0, channel := 768,
                 echoes := [] } = 0x0700600400000300 := by decide +kernel

/-- 11, Example — W0 of the Drive mode table. -/
theorem test_mode_table : let m := modeOf (wordsLe [0x4B019A001420F440])
    [m.nb, m.q, m.d, m.w, m.stagger, m.shotMin, m.nc, m.k, m.tau] = [1200, 6, 6, 2048, 500, 4, 15, 2, 4] := by decide +kernel

/-- 12, the ramp from code 0 to 24 at k = 1 and k = 8. -/
theorem test_ramp : rampCode 0 24 1 8 = 3 ∧ rampCode 0 24 8 8 = 24 := by decide +kernel

/-- 15, R372: the nominal reference code. -/
theorem test_reference_code : convCode 1250000000 2500000000 3 = 256000 ∧ refBad 256000 = false ∧ refBad 237036 = true := by
  decide +kernel

/-- 15, Example — a Platform door-edge zone: 3.412 m shows as 2,365 µs of high time, or as a period of 1,181 µs. -/
theorem test_door_edge :
    (∀ freq, let s := { inMode 3 with legend := { r0.legend with dist := [(3, { freq := freq })] }
                                      near := { r0.near with next := .object 3412 0 } }
      ∃ t, exec (.neardistPeriod 0) s = .next t ∧ (t.near.high, t.near.period) = if freq then (590, 1181) else (2365, 10000)) := by
  intro freq
  cases freq <;> exact ⟨_, rfl, by decide +kernel⟩

/-- 16, R396 and R398: j of the Drive defaults and of 2,400 bearings at 30 sheets/s; the ring of the default 12 s. -/
theorem test_recorder_sizes : decimationJ r0 1 = 0 ∧
    decimationJ { r0 with legend := { r0.legend with modes := [(1, { nb := 2400 })], scan := { r0.legend.scan with rs := 30 } } } 1 = 2 ∧
    ringLimit (recording { part := some { part with pagesPerBlock := 256 } }) = 25 := by decide +kernel

/-- Known answers: CRC-32 and CRC-32C of "123456789", SHA-256 of "abc" (FIPS 180-4). -/
theorem test_known_answers : crc32 (ascii "123456789") = 0xCBF43926 ∧ crc32c (ascii "123456789") = 0xE3069283 ∧
    beNat (sha256 (ascii "abc")) = 0xba7816bf8f01cfea414140de5dae2223b00361a396177a9cb410ff61f20015ad := by decide +kernel

end Sys2Proof.Tests
end

section
/-! What contexts, engines and mode tables read after the shared updates of the survey. -/

namespace Sys2Proof.Laws

open Sys2Proof Sys2Proof.Machine

/-! ## Contexts -/

theorem ctxOf_congr {s t : State} (h : t.survey.ctxs = s.survey.ctxs) (x : Nat) : ctxOf t x = ctxOf s x := by
  unfold ctxOf; rw [h]

@[simp] theorem ctxOf_setCtx_self (x : Nat) (v : Ctx) (s : State) : ctxOf (setCtx x v s) x = v :=
  Table.getD_put_self _ _ _ _
theorem ctxOf_setCtx_ne {x y : Nat} (h : y ≠ x) (v : Ctx) (s : State) : ctxOf (setCtx x v s) y = ctxOf s y :=
  Table.getD_put_ne _ _ _ _ h _
@[simp] theorem ctxOf_modCtx_self (x : Nat) (f : Ctx → Ctx) (s : State) : ctxOf (modCtx x f s) x = f (ctxOf s x) :=
  ctxOf_setCtx_self _ _ _
theorem ctxOf_modCtx_ne {x y : Nat} (h : y ≠ x) (f : Ctx → Ctx) (s : State) : ctxOf (modCtx x f s) y = ctxOf s y :=
  ctxOf_setCtx_ne h _ _
@[simp] theorem ctxOf_setEngine (x e : Nat) (v : Engine) (s : State) : ctxOf (setEngine e v s) x = ctxOf s x := rfl
@[simp] theorem ctxOf_modChan (x c : Nat) (f : Chan → Chan) (s : State) : ctxOf (modChan c f s) x = ctxOf s x := rfl
@[simp] theorem ctxOf_count (x : Nat) (c : Counter) (n : Nat) (s : State) : ctxOf (count c n s) x = ctxOf s x := rfl
@[simp] theorem ctxOf_advance (x dt : Nat) (s : State) : ctxOf (advance dt s) x = ctxOf s x :=
  ctxOf_congr (by rw [advance_survey]) x
@[simp] theorem ctxOf_post (x c β : Nat) (p : Bool) (l : List Peak) (s : State) : ctxOf (post c β p l s) x = ctxOf s x := rfl
@[simp] theorem ctxOf_queueWork (y e : Nat) (x : Option Nat) (head : Ctx) (s : State) :
    ctxOf (queueWork e x head s) y = ctxOf s y := rfl

/-- Survey fields beside the contexts do not change what a context reads. -/
theorem ctxOf_modSurvey {f : Survey → Survey} {s : State} (h : (f s.survey).ctxs = s.survey.ctxs) (x : Nat) :
    ctxOf (modSurvey f s) x = ctxOf s x := ctxOf_congr h x

/-! ## Engines -/

@[simp] theorem engineOf_setEngine_self (e : Nat) (v : Engine) (s : State) : engineOf (setEngine e v s) e = v :=
  Table.getD_put_self _ _ _ _
@[simp] theorem engineOf_modEngine_self (e : Nat) (f : Engine → Engine) (s : State) :
    engineOf (modEngine e f s) e = f (engineOf s e) := engineOf_setEngine_self _ _ _
@[simp] theorem engineOf_advance (e dt : Nat) (s : State) : engineOf (advance dt s) e = engineOf s e := by
  simp [engineOf]
@[simp] theorem engineOf_setCtx (e x : Nat) (v : Ctx) (s : State) : engineOf (setCtx x v s) e = engineOf s e := rfl
@[simp] theorem engineOf_modCtx (e x : Nat) (f : Ctx → Ctx) (s : State) : engineOf (modCtx x f s) e = engineOf s e := rfl
@[simp] theorem engineOf_count (e : Nat) (c : Counter) (n : Nat) (s : State) : engineOf (count c n s) e = engineOf s e := rfl
@[simp] theorem engineOf_post (e c β : Nat) (p : Bool) (l : List Peak) (s : State) :
    engineOf (post c β p l s) e = engineOf s e := rfl

/-- A queued item waits behind the engine's other closed items (R150). -/
theorem engineOf_queueWork_self (e : Nat) (x : Option Nat) (head : Ctx) (s : State) :
    engineOf (queueWork e x head s) e = { engineOf s e with
      closed := (engineOf s e).closed ++ [⟨x, { head with coarse := [], fine := [] }, s.survey.order⟩] } :=
  engineOf_modEngine_self _ _ _

/-! ## Mode tables and channels -/

theorem modeTable_congr {s t : State} (h : t.legend = s.legend) (m : Nat) : modeTable t m = modeTable s m := by
  unfold modeTable; rw [h]

@[simp] theorem modeTable_advance (m dt : Nat) (s : State) : modeTable (advance dt s) m = modeTable s m :=
  modeTable_congr (advance_legend dt s) m
@[simp] theorem modeTable_setEngine (m e : Nat) (v : Engine) (s : State) : modeTable (setEngine e v s) m = modeTable s m := rfl
@[simp] theorem modeTable_modChan (m c : Nat) (f : Chan → Chan) (s : State) : modeTable (modChan c f s) m = modeTable s m := rfl

@[simp] theorem chanOf_advance (c dt : Nat) (s : State) : chanOf (advance dt s) c = chanOf s c := by
  simp [chanOf]

/-- Time grants nothing (R127). -/
@[simp] theorem nextGrant_advance (e dt : Nat) (s : State) : nextGrant (advance dt s) e = nextGrant s e := by
  simp [nextGrant]

theorem itemValid_congr {s t : State} (i : Item) (h : ctxOf t (tagCtx i.word) = ctxOf s (tagCtx i.word)) :
    itemValid t i = itemValid s i := by
  unfold itemValid; rw [h]

/-- The pool is searched by the phases of its contexts alone (R130). -/
theorem freeRezoom_congr {s t : State} (h : ∀ y, 15360 ≤ y → (ctxOf t y).ph = (ctxOf s y).ph) :
    freeRezoom t = freeRezoom s := by
  unfold freeRezoom
  simp only [List.find?_map]
  congr 2
  funext k
  simp [h]

end Sys2Proof.Laws
end

section
/-! The peak tracker, case by case (R139). -/

namespace Sys2Proof.Proofs

open Sys2Proof Sys2Proof.Machine

/-! ## Searches of the four entries -/

theorem peaksWhere_eq_nil {p : Peak → Bool} {l : List Peak} (h : ∀ j, j < 4 → ¬p (peakAt l j) = true) :
    peaksWhere p l = [] := by
  simpa [peaksWhere] using h

/-- The first entry that satisfies `p` heads the list of them. -/
theorem peaksWhere_eq_cons {p : Peak → Bool} {l : List Peak} {j : Nat} (hj : j < 4) (h : p (peakAt l j) = true)
    (hlt : ∀ k, k < j → ¬p (peakAt l k) = true) : ∃ r, peaksWhere p l = j :: r := by
  have hd : (peaksWhere p l).head? = some j := by
    rw [peaksWhere, List.head?_filter, List.find?_range_eq_some]
    exact ⟨h, List.mem_range.2 hj, fun k hk => by simp [hlt k hk]⟩
  exact List.head?_eq_some_iff.1 hd

theorem mem_peaksWhere {p : Peak → Bool} {l : List Peak} {j : Nat} :
    j ∈ peaksWhere p l ↔ j < 4 ∧ p (peakAt l j) = true := by
  simp [peaksWhere]

theorem leastBy_mem {key : Nat → Nat} {k : Nat} : ∀ {l : List Nat}, leastBy key l = some k → k ∈ l
  | [], h => by simp [leastBy] at h
  | j :: r, h => by
    unfold leastBy at h
    split at h
    · simp_all
    · next k' hk' =>
      split at h
      · cases h; exact List.mem_cons_of_mem _ (leastBy_mem hk')
      · simp_all

/-- The one entry whose key is below every other's is the least. -/
theorem leastBy_eq_some {key : Nat → Nat} {j : Nat} :
    ∀ {l : List Nat}, j ∈ l → (∀ k ∈ l, k ≠ j → key j < key k) → leastBy key l = some j
  | a :: r, hj, hmin => by
    unfold leastBy
    by_cases ha : a = j
    · subst ha
      split
      · rfl
      · next k hk =>
        have hle : ¬key k < key a := by
          by_cases hka : k = a
          · simp [hka]
          · have := hmin k (List.mem_cons_of_mem _ (leastBy_mem hk)) hka; omega
        simp [hle]
    · have hr : leastBy key r = some j :=
        leastBy_eq_some ((List.mem_cons.1 hj).resolve_left (Ne.symm ha)) fun k hk => hmin k (List.mem_cons_of_mem _ hk)
      simp [hr, hmin a List.mem_cons_self ha]

/-! ## The cases of `track` -/

theorem peakAt_set_self {l : List Peak} {j : Nat} {p : Peak} (h : j < l.length) : peakAt (l.set j p) j = p := by
  simp [peakAt, h]

theorem peakAt_set_ne {l : List Peak} {j k : Nat} {p : Peak} (h : k ≠ j) : peakAt (l.set j p) k = peakAt l k := by
  simp [peakAt, List.getElem?_set_ne (Ne.symm h)]

/-- A valid entry is one of the list. -/
theorem lt_length_of_valid {l : List Peak} {j : Nat} (h : (peakAt l j).valid = true) : j < l.length := by
  by_contra hn
  simp [peakAt, List.getElem?_eq_none (Nat.le_of_not_lt hn)] at h

variable {n v j : Nat} {l : List Peak}

/-- A valid entry at bin `n`. -/
def StandsAt (n : Nat) (p : Peak) : Prop := p.valid = true ∧ p.bin = n

/-- A valid entry one bin from `n`. -/
def StandsBeside (n : Nat) (p : Peak) : Prop := p.valid = true ∧ (p.bin + 1 = n ∨ n + 1 = p.bin)

theorem standsAt_iff {n : Nat} {p : Peak} : StandsAt n p ↔ (p.valid && decide (p.bin = n)) = true := by
  simp [StandsAt]

theorem standsBeside_iff {n : Nat} {p : Peak} : StandsBeside n p ↔ (p.valid && adjacent p.bin n) = true := by
  simp [StandsBeside, adjacent]

theorem track_here (hj : j < 4) (hh : StandsAt n (peakAt l j)) (hlt : ∀ k, k < j → ¬StandsAt n (peakAt l k)) :
    track n v l = (l.set j { peakAt l j with value := v }, none) := by
  obtain ⟨r, hr⟩ := peaksWhere_eq_cons (p := fun p => p.valid && decide (p.bin = n)) hj (standsAt_iff.1 hh)
    fun k hk => mt standsAt_iff.2 (hlt k hk)
  simp [track, hr]

/-- Where no entry stands at the bin, the tracker goes on to the neighbours. -/
theorem peaksWhere_here_nil (hn : ∀ j, j < 4 → ¬StandsAt n (peakAt l j)) :
    peaksWhere (fun p => p.valid && decide (p.bin = n)) l = [] :=
  peaksWhere_eq_nil fun k hk => mt standsAt_iff.2 (hn k hk)

/-- The neighbour that stands at the lower bin is the one compared. -/
theorem leastBy_beside (hj : j < 4) (hb : StandsBeside n (peakAt l j))
    (hlow : ∀ k, k < 4 → k ≠ j → StandsBeside n (peakAt l k) → (peakAt l j).bin < (peakAt l k).bin) :
    leastBy (fun j => (peakAt l j).bin) (peaksWhere (fun p => p.valid && adjacent p.bin n) l) = some j := by
  refine leastBy_eq_some (mem_peaksWhere.2 ⟨hj, standsBeside_iff.1 hb⟩) fun k hk hne => ?_
  obtain ⟨hk4, hkb⟩ := mem_peaksWhere.1 hk
  exact hlow k hk4 hne (standsBeside_iff.2 hkb)

theorem track_beside_le (hj : j < 4) (hn : ∀ j, j < 4 → ¬StandsAt n (peakAt l j))
    (hb : StandsBeside n (peakAt l j))
    (hlow : ∀ k, k < 4 → k ≠ j → StandsBeside n (peakAt l k) → (peakAt l j).bin < (peakAt l k).bin)
    (hv : v ≤ (peakAt l j).value) : track n v l = (l, none) := by
  simp [track, peaksWhere_here_nil hn, leastBy_beside hj hb hlow, Nat.not_lt.2 hv]

/-- The only neighbour moves to the bin, and no second one is left to merge with. -/
theorem moveEntry_alone (hv : (peakAt l j).valid = true)
    (hb : ∀ k, k < 4 → k ≠ j → ¬StandsBeside n (peakAt l k)) :
    moveEntry n v j l = (l.set j { valid := true, bin := n, value := v }, some j) := by
  have hnil : peaksWhere (fun p => p.valid && adjacent p.bin n) (l.set j { valid := true, bin := n, value := v }) = [] := by
    refine peaksWhere_eq_nil fun k hk => ?_
    by_cases hkj : k = j
    · subst hkj; simp [peakAt_set_self (lt_length_of_valid hv), adjacent]
    · rw [peakAt_set_ne hkj]; exact mt standsBeside_iff.2 (hb k hk hkj)
  simp [moveEntry, hnil]

theorem track_beside_lt (hj : j < 4) (hn : ∀ j, j < 4 → ¬StandsAt n (peakAt l j))
    (hb : StandsBeside n (peakAt l j))
    (halone : ∀ k, k < 4 → k ≠ j → ¬StandsBeside n (peakAt l k))
    (hv : (peakAt l j).value < v) : track n v l = (l.set j { valid := true, bin := n, value := v }, some j) := by
  have hleast := leastBy_beside hj hb fun k hk hne h => absurd h (halone k hk hne)
  simp [track, peaksWhere_here_nil hn, hleast, hv, moveEntry_alone hb.1 halone]

/-- Where no entry stands beside the bin either, no entry is compared. -/
theorem leastBy_beside_none (hb : ∀ j, j < 4 → ¬StandsBeside n (peakAt l j)) :
    leastBy (fun j => (peakAt l j).bin) (peaksWhere (fun p => p.valid && adjacent p.bin n) l) = none := by
  have hnil : peaksWhere (fun p => p.valid && adjacent p.bin n) l = [] :=
    peaksWhere_eq_nil fun k hk => mt standsBeside_iff.2 (hb k hk)
  simp [hnil, leastBy]

theorem track_free (hj : j < 4) (hn : ∀ j, j < 4 → ¬StandsAt n (peakAt l j))
    (hb : ∀ j, j < 4 → ¬StandsBeside n (peakAt l j))
    (hf : (peakAt l j).valid = false) (hlt : ∀ k, k < j → (peakAt l k).valid = true) :
    track n v l = (l.set j { valid := true, bin := n, value := v }, some j) := by
  obtain ⟨r, hr⟩ := peaksWhere_eq_cons (p := fun p => !p.valid) (l := l) hj (by simp [hf]) fun k hk => by simp [hlt k hk]
  simp [track, peaksWhere_here_nil hn, leastBy_beside_none hb, hr]

/-- Of four taken entries the one with the least value, and of equals the highest bin, gives way to a higher value. -/
theorem track_full_fst (hj : j < 4) (hn : ∀ j, j < 4 → ¬StandsAt n (peakAt l j))
    (hb : ∀ j, j < 4 → ¬StandsBeside n (peakAt l j))
    (hall : ∀ k, k < 4 → (peakAt l k).valid = true ∧ (peakAt l k).bin < 1024 ∧
      (k ≠ j → (peakAt l j).value < (peakAt l k).value ∨
        ((peakAt l j).value = (peakAt l k).value ∧ (peakAt l k).bin < (peakAt l j).bin))) :
    (track n v l).1 = if (peakAt l j).value < v then l.set j { valid := true, bin := n, value := v } else l := by
  have hfree : peaksWhere (fun p => !p.valid) l = [] := peaksWhere_eq_nil fun k hk => by simp [(hall k hk).1]
  have hleast : leastBy (fun j => (peakAt l j).value * 1024 + (1023 - (peakAt l j).bin)) [0, 1, 2, 3] = some j := by
    refine leastBy_eq_some (by simp; omega) fun k hk hne => ?_
    have hk4 : k < 4 := by simp at hk; omega
    obtain ⟨-, hkbin, hkey⟩ := hall k hk4
    obtain ⟨-, hjbin, -⟩ := hall j hj
    have := hkey hne
    omega
  simp only [track, peaksWhere_here_nil hn, leastBy_beside_none hb, hfree, hleast]
  split <;> rfl

end Sys2Proof.Proofs
end

section
/-! An event on its own context: foreign count, placement, bins (R138, R140, R141, R180). -/

namespace Sys2Proof.Proofs

open Sys2Proof Sys2Proof.Machine

/-! ## The foreign count -/

theorem foreignCheck_prev (q e : Nat) (v : Ctx) :
    (foreignCheck q e v).prev = some (q, e, zeroBefore v q (e / 64)) := rfl

/-- An earlier event of the same shot, 96 to 128 units before, with both bins zero before the shot. -/
theorem foreignCheck_foreign_hit {q e e0 : Nat} {v : Ctx} (hp : v.prev = some (q, e0, true)) (hq : 2 ≤ q)
    (h96 : e0 + 96 ≤ e) (h128 : e ≤ e0 + 128) (hz : Table.getD 0 v.coarse (e / 64) = 0 ∨ e / 64 ∈ v.fresh) :
    (foreignCheck q e v).foreign = min 65535 (v.foreign + 1) := by
  have hzero : zeroBefore v q (e / 64) = true := by simpa [zeroBefore, hp] using hz
  simp [foreignCheck, hp, hq, h96, h128, hzero]

theorem zeroBefore_eq_false {q n : Nat} {v : Ctx} (h : Table.getD 0 v.coarse n ≠ 0) (hf : n ∉ v.fresh) :
    zeroBefore v q n = false := by
  unfold zeroBefore
  split <;> simp [h, hf]

theorem foreignCheck_foreign_miss {q e : Nat} {v : Ctx}
    (h : q < 2 ∨ v.prev = none ∨ (Table.getD 0 v.coarse (e / 64) ≠ 0 ∧ e / 64 ∉ v.fresh) ∨
      ∃ q0 e0 z, v.prev = some (q0, e0, z) ∧ (q0 ≠ q ∨ z = false ∨ e < e0 + 96 ∨ e0 + 128 < e)) :
    (foreignCheck q e v).foreign = v.foreign := by
  unfold foreignCheck
  rcases h with hq | hp | ⟨hc, hf⟩ | ⟨q0, e0, z, hp, hmiss⟩
  · have hq : ¬2 ≤ q := by omega
    cases v.prev <;> simp [hq]
  · simp [hp]
  · cases v.prev <;> simp [zeroBefore_eq_false hc hf]
  · rcases hmiss with hne | rfl | hlow | hhigh
    · simp [hp, hne]
    · simp [hp]
    · have hlow : ¬e0 + 96 ≤ e := by omega
      simp [hp, hlow]
    · have hhigh : ¬e ≤ e0 + 128 := by omega
      simp [hp, hhigh]

/-! ## Placement -/

/-- One entry's part of the first placement. -/
def placeStep (q : Nat) (x y : Ctx) (j : Nat) : Ctx :=
  if (peakAt x.peaks j).valid then placeIn x (peakAt x.peaks j).bin q j y else y

theorem placePrimary_eq (q : Nat) (x : Ctx) :
    placePrimary q x = { (List.range 4).foldl (placeStep q x) x with placed := q } := rfl

theorem placeStep_frame (q : Nat) (x y : Ctx) (j : Nat) : placeStep q x y j = { y with wins := (placeStep q x y j).wins } := by
  unfold placeStep
  split <;> rfl

theorem foldl_placeStep_frame (q : Nat) (x : Ctx) :
    ∀ (l : List Nat) (y : Ctx), l.foldl (placeStep q x) y = { y with wins := (l.foldl (placeStep q x) y).wins }
  | [], _ => rfl
  | j :: l, y => by
    have h := foldl_placeStep_frame q x l (placeStep q x y j)
    rw [placeStep_frame q x y j] at h
    rw [List.foldl_cons, placeStep_frame q x y j, h]

theorem getD_set_self {j : Nat} {l : List Win} {w : Win} (h : j < l.length) : (l.set j w).getD j {} = w := by
  simp [h]

theorem getD_set_ne {j k : Nat} {l : List Win} {w : Win} (h : k ≠ j) : (l.set j w).getD k {} = l.getD k {} := by
  simp [List.getElem?_set_ne (Ne.symm h)]

theorem placeStep_wins_ne {q j k : Nat} {x y : Ctx} (h : k ≠ j) :
    (placeStep q x y j).wins.getD k {} = y.wins.getD k {} := by
  unfold placeStep placeIn
  split
  · exact getD_set_ne h
  · rfl

theorem placeStep_wins_length (q j : Nat) (x y : Ctx) : (placeStep q x y j).wins.length = y.wins.length := by
  unfold placeStep placeIn
  split
  · exact List.length_set
  · rfl

theorem placeStep_wins_self {q j : Nat} {x y : Ctx} (hv : (peakAt x.peaks j).valid = true) (hj : j < y.wins.length) :
    (placeStep q x y j).wins.getD j {} =
      { valid := true, z := windowStart x (peakAt x.peaks j).bin, from_ := q } := by
  rw [placeStep, if_pos hv, placeIn, getD_set_self hj]

/-- A window keeps what a placement gave it through the placements that follow. -/
theorem foldl_placeStep_wins {q j : Nat} {x : Ctx} (hv : (peakAt x.peaks j).valid = true) :
    ∀ {l : List Nat} {y : Ctx}, j < y.wins.length →
      (j ∈ l ∨ y.wins.getD j {} = { valid := true, z := windowStart x (peakAt x.peaks j).bin, from_ := q }) →
      (l.foldl (placeStep q x) y).wins.getD j {} =
        { valid := true, z := windowStart x (peakAt x.peaks j).bin, from_ := q }
  | [], _, _, h => h.resolve_left List.not_mem_nil
  | k :: l, y, hj, h => by
    refine foldl_placeStep_wins hv (y := placeStep q x y k) (by rwa [placeStep_wins_length]) ?_
    by_cases hk : j = k
    · subst hk; exact .inr (placeStep_wins_self hv hj)
    · rw [placeStep_wins_ne hk]
      exact h.imp_left fun hm => (List.mem_cons.1 hm).resolve_left hk

/-- The first placement gives every valid entry its window (R140). -/
theorem placePrimary_wins {q j : Nat} {x : Ctx} (hj : j < 4) (hl : j < x.wins.length) (hv : (peakAt x.peaks j).valid = true) :
    (placePrimary q x).wins.getD j {} = { valid := true, z := windowStart x (peakAt x.peaks j).bin, from_ := q } :=
  foldl_placeStep_wins hv hl (.inl (List.mem_range.2 hj))

theorem placePrimary_frame (q : Nat) (x : Ctx) :
    placePrimary q x = { x with wins := (placePrimary q x).wins, placed := q } := by
  rw [placePrimary_eq, foldl_placeStep_frame]

/-! ## Fine bins -/

theorem mem_windowHits {x : Ctx} {q e j : Nat} :
    j ∈ windowHits x q e ↔ j < 4 ∧ (x.wins.getD j {}).valid = true ∧ (x.wins.getD j {}).from_ ≤ q ∧
      2 * (x.wins.getD j {}).z ≤ e ∧ e ≤ 2 * (x.wins.getD j {}).z + 63 := by
  simp [windowHits]

/-- Offset of event time `e` in window `j`, in fine bins. -/
def fineOffset (e : Nat) (x : Ctx) (j : Nat) : Nat := (e - 2 * (x.wins.getD j {}).z) / 2

theorem fineAdd_fine (u e : Nat) (x : Ctx) (j k : Nat) :
    Table.getD 0 (fineAdd u e x j).fine k =
      if k = 32 * j + fineOffset e x j then min 4095 (Table.getD 0 x.fine k + u) else Table.getD 0 x.fine k := by
  unfold fineAdd fineOffset
  split
  · next h => subst h; simp
  · next h => exact Table.getD_put_ne _ _ _ _ h _

theorem foldl_fineAdd_frame (u e : Nat) : ∀ (l : List Nat) (x : Ctx), l.foldl (fineAdd u e) x =
    { x with fine := (l.foldl (fineAdd u e) x).fine, blocks := (l.foldl (fineAdd u e) x).blocks }
  | [], _ => rfl
  | j :: l, x => by
    have h := foldl_fineAdd_frame u e l (fineAdd u e x j)
    rw [List.foldl_cons, h]
    rfl

/-- Windows that each hold the event gain it in one fine bin of their own. -/
theorem foldl_fineAdd_fine {u e j f : Nat} (hf : f < 32) : ∀ {l : List Nat} {x : Ctx}, l.Nodup →
    (∀ k ∈ l, fineOffset e x k < 32) →
    Table.getD 0 (l.foldl (fineAdd u e) x).fine (32 * j + f) =
      if j ∈ l ∧ fineOffset e x j = f then min 4095 (Table.getD 0 x.fine (32 * j + f) + u)
      else Table.getD 0 x.fine (32 * j + f)
  | [], _, _, _ => by simp
  | k :: l, x, hnd, hlt => by
    obtain ⟨hkl, hnd⟩ := List.nodup_cons.1 hnd
    have hk : fineOffset e x k < 32 := hlt k List.mem_cons_self
    have hoff : ∀ i, fineOffset e (fineAdd u e x k) i = fineOffset e x i := fun _ => rfl
    have ih := foldl_fineAdd_fine (u := u) (j := j) hf (x := fineAdd u e x k) hnd
      fun i hi => hlt i (List.mem_cons_of_mem _ hi)
    rw [List.foldl_cons, ih, hoff, fineAdd_fine]
    by_cases hjk : j = k
    · subst hjk
      have : f = fineOffset e x j ↔ fineOffset e x j = f := eq_comm
      simp [hkl, this]
    · have : ¬32 * j + f = 32 * k + fineOffset e x k := by omega
      simp [hjk, this]

theorem fineUpdate_frame (u q e : Nat) (x : Ctx) :
    fineUpdate u q e x = { x with fine := (fineUpdate u q e x).fine, blocks := (fineUpdate u q e x).blocks } :=
  foldl_fineAdd_frame u e _ x

/-- The fine bins after an event (R141). -/
theorem fineUpdate_fine {u q e j f : Nat} {x : Ctx} (hj : j < 4) (hf : f < 32) :
    Table.getD 0 (fineUpdate u q e x).fine (32 * j + f) =
      if (x.wins.getD j {}).valid = true ∧ (x.wins.getD j {}).from_ ≤ q ∧ 2 * (x.wins.getD j {}).z ≤ e ∧
          e ≤ 2 * (x.wins.getD j {}).z + 63 ∧ (e - 2 * (x.wins.getD j {}).z) / 2 = f
        then min 4095 (Table.getD 0 x.fine (32 * j + f) + u) else Table.getD 0 x.fine (32 * j + f) := by
  have hoff : ∀ k ∈ windowHits x q e, fineOffset e x k < 32 := by
    intro k hk
    obtain ⟨-, -, -, -, hle⟩ := mem_windowHits.1 hk
    unfold fineOffset; omega
  have hnd : (windowHits x q e).Nodup := List.nodup_range.filter _
  rw [fineUpdate, foldl_fineAdd_fine hf hnd hoff]
  simp only [mem_windowHits, hj, true_and, and_assoc, fineOffset]

/-! ## The event's part on the context's bins -/

/-- The context once the foreign count is taken and the windows are placed where they are due. -/
def eventPlaced (q e : Nat) (v : Ctx) : Ctx :=
  if 2 ≤ q ∧ v.placed = 0 then placePrimary q (foreignCheck q e v) else foreignCheck q e v

/-- The height that the event's coarse bin reaches (R138). -/
def reached (u e : Nat) (v : Ctx) : Nat := min 4095 (Table.getD 0 v.coarse (e / 64) + u)

theorem eventPlaced_first {q e : Nat} {v : Ctx} (hq : 2 ≤ q) (hp : v.placed = 0) :
    eventPlaced q e v = placePrimary q (foreignCheck q e v) := if_pos ⟨hq, hp⟩

theorem eventPlaced_later {q e : Nat} {v : Ctx} (h : v.placed ≠ 0 ∨ q < 2) :
    eventPlaced q e v = foreignCheck q e v := if_neg fun ⟨hq, hp⟩ => by omega

theorem eventPlaced_frame (q e : Nat) (v : Ctx) : eventPlaced q e v =
    { foreignCheck q e v with wins := (eventPlaced q e v).wins, placed := (eventPlaced q e v).placed } := by
  unfold eventPlaced
  split
  · exact placePrimary_frame q _
  · rfl

/-- Neither placement nor the foreign count touches the coarse bins. -/
theorem eventPlaced_coarse (q e : Nat) (v : Ctx) : (eventPlaced q e v).coarse = v.coarse := by
  rw [eventPlaced_frame]; rfl

/-- What an event leaves of its context before the tracker (R138, R140, R141, R180). -/
theorem eventBins_frame (u q e : Nat) (v : Ctx) : eventBins u q e v =
    { eventPlaced q e v with
      coarse := Table.put v.coarse (e / 64) (reached u e v), fine := (eventBins u q e v).fine
      blocks := (eventBins u q e v).blocks, applied := (eventBins u q e v).applied
      flags := (eventBins u q e v).flags } := by
  have h : eventBins u q e v =
      { fineUpdate u q e { eventPlaced q e v with
          coarse := Table.put (eventPlaced q e v).coarse (e / 64)
            (min 4095 (Table.getD 0 (eventPlaced q e v).coarse (e / 64) + u))
          blocks := coarseBlocks (e / 64) (eventPlaced q e v).blocks } with
        applied := (eventBins u q e v).applied, flags := (eventBins u q e v).flags } := rfl
  rw [fineUpdate_frame, eventPlaced_coarse] at h
  rw [h]
  rfl

/-- Each window that holds the event, placed by the event itself or before it, gains u in one fine bin (R141). -/
theorem eventBins_fine {u q e j f : Nat} {v : Ctx} (hj : j < 4) (hf : f < 32) :
    Table.getD 0 (eventBins u q e v).fine (32 * j + f) =
      (let w := (eventPlaced q e v).wins.getD j {}
       if w.valid = true ∧ w.from_ ≤ q ∧ 2 * w.z ≤ e ∧ e ≤ 2 * w.z + 63 ∧ (e - 2 * w.z) / 2 = f
        then min 4095 (Table.getD 0 (eventPlaced q e v).fine (32 * j + f) + u)
        else Table.getD 0 (eventPlaced q e v).fine (32 * j + f)) :=
  fineUpdate_fine (x := { eventPlaced q e v with
    coarse := Table.put (eventPlaced q e v).coarse (e / 64) (min 4095 (Table.getD 0 (eventPlaced q e v).coarse (e / 64) + u))
    blocks := coarseBlocks (e / 64) (eventPlaced q e v).blocks }) hj hf

end Sys2Proof.Proofs
end

section
/-! An event item on the context store: the tracker, the re-zoom context, and the window an entry asks for (R139 to R143). -/

namespace Sys2Proof.Proofs

open Sys2Proof Sys2Proof.Machine Sys2Proof.Laws

/-! ## The overload flag that an item carries -/

theorem takeOverload_frame (i : Item) (v : Ctx) : takeOverload i v = { v with flags := (takeOverload i v).flags } := by
  unfold takeOverload
  split <;> rfl

@[simp] theorem takeOverload_mode (i : Item) (v : Ctx) : (takeOverload i v).mode = v.mode := by rw [takeOverload_frame]
@[simp] theorem takeOverload_planned (i : Item) (v : Ctx) : (takeOverload i v).planned = v.planned := by rw [takeOverload_frame]
@[simp] theorem takeOverload_placed (i : Item) (v : Ctx) : (takeOverload i v).placed = v.placed := by rw [takeOverload_frame]
@[simp] theorem takeOverload_foreign (i : Item) (v : Ctx) : (takeOverload i v).foreign = v.foreign := by rw [takeOverload_frame]
@[simp] theorem takeOverload_peaks (i : Item) (v : Ctx) : (takeOverload i v).peaks = v.peaks := by rw [takeOverload_frame]
@[simp] theorem takeOverload_wins (i : Item) (v : Ctx) : (takeOverload i v).wins = v.wins := by rw [takeOverload_frame]
@[simp] theorem takeOverload_extra (i : Item) (v : Ctx) : (takeOverload i v).extra = v.extra := by rw [takeOverload_frame]
@[simp] theorem takeOverload_extras (i : Item) (v : Ctx) : (takeOverload i v).extras = v.extras := by rw [takeOverload_frame]
@[simp] theorem takeOverload_coarse (i : Item) (v : Ctx) : (takeOverload i v).coarse = v.coarse := by rw [takeOverload_frame]
@[simp] theorem takeOverload_fine (i : Item) (v : Ctx) : (takeOverload i v).fine = v.fine := by rw [takeOverload_frame]
@[simp] theorem takeOverload_prev (i : Item) (v : Ctx) : (takeOverload i v).prev = v.prev := by rw [takeOverload_frame]
@[simp] theorem takeOverload_fresh (i : Item) (v : Ctx) : (takeOverload i v).fresh = v.fresh := by rw [takeOverload_frame]
@[simp] theorem reached_takeOverload (u e : Nat) (i : Item) (v : Ctx) : reached u e (takeOverload i v) = reached u e v := by
  simp [reached]
@[simp] theorem zeroBefore_takeOverload (i : Item) (v : Ctx) (q n : Nat) :
    zeroBefore (takeOverload i v) q n = zeroBefore v q n := by
  simp [zeroBefore]

/-- A window's start depends on the coarse bins alone (R140). -/
theorem windowStart_congr {v w : Ctx} (h : v.coarse = w.coarse) (b : Nat) : windowStart v b = windowStart w b := by
  have hc : coarseAt v = coarseAt w := by funext n; rw [coarseAt, coarseAt, h]
  unfold windowStart peakOffset
  rw [hc]

/-! ## The context after the tracker -/

/-- What an event item makes of its context, and the entry that may want a window. -/
def eventCtx (u n0 : Nat) (i : Item) (v : Ctx) : Ctx × Option Nat :=
  eventTrack u n0 (itemTime i) (eventBins u (itemShot i) (itemTime i) (takeOverload i v))

variable {u n0 : Nat} {i : Item} {v : Ctx}

theorem eventTrack_frame (u n0 e : Nat) (v : Ctx) :
    (eventTrack u n0 e v).1 = { v with peaks := (eventTrack u n0 e v).1.peaks } := by
  by_cases h : n0 ≤ e / 64 ∧ 2 * u ≤ Table.getD 0 v.coarse (e / 64) <;> simp [eventTrack, h]

theorem eventCtx_frame (u n0 : Nat) (i : Item) (v : Ctx) : (eventCtx u n0 i v).1 =
    { eventPlaced (itemShot i) (itemTime i) (takeOverload i v) with
      coarse := Table.put v.coarse (itemTime i / 64) (reached u (itemTime i) v)
      fine := (eventBins u (itemShot i) (itemTime i) (takeOverload i v)).fine, peaks := (eventCtx u n0 i v).1.peaks
      blocks := (eventCtx u n0 i v).1.blocks, applied := (eventCtx u n0 i v).1.applied
      flags := (eventCtx u n0 i v).1.flags } := by
  rw [eventCtx, eventTrack_frame, eventBins_frame]
  simp

theorem eventCtx_placed : (eventCtx u n0 i v).1.placed = (eventPlaced (itemShot i) (itemTime i) (takeOverload i v)).placed := by
  rw [eventCtx_frame]

theorem eventCtx_wins : (eventCtx u n0 i v).1.wins = (eventPlaced (itemShot i) (itemTime i) (takeOverload i v)).wins := by
  rw [eventCtx_frame]

theorem eventCtx_foreign :
    (eventCtx u n0 i v).1.foreign = (foreignCheck (itemShot i) (itemTime i) (takeOverload i v)).foreign := by
  rw [eventCtx_frame, eventPlaced_frame]

theorem eventCtx_prev :
    (eventCtx u n0 i v).1.prev = some (itemShot i, itemTime i, zeroBefore v (itemShot i) (itemTime i / 64)) := by
  rw [eventCtx_frame, eventPlaced_frame]
  simp [foreignCheck_prev]

theorem eventCtx_planned : (eventCtx u n0 i v).1.planned = v.planned := by
  rw [eventCtx_frame, eventPlaced_frame]
  exact takeOverload_planned i v

theorem eventCtx_extra : (eventCtx u n0 i v).1.extra = v.extra := by
  rw [eventCtx_frame, eventPlaced_frame]
  exact takeOverload_extra i v

theorem eventCtx_extras : (eventCtx u n0 i v).1.extras = v.extras := by
  rw [eventCtx_frame, eventPlaced_frame]
  exact takeOverload_extras i v

theorem eventBins_coarse_reached (u q e : Nat) (v : Ctx) :
    Table.getD 0 (eventBins u q e v).coarse (e / 64) = reached u e v := by
  rw [eventBins_frame]
  exact Table.getD_put_self _ _ _ _

theorem eventBins_peaks (u q e : Nat) (v : Ctx) : (eventBins u q e v).peaks = v.peaks := by
  rw [eventBins_frame, eventPlaced_frame]
  rfl

/-- Below n_0, and below 2 u, nothing is tracked (R139). -/
theorem eventCtx_low (h : itemTime i / 64 < n0 ∨ reached u (itemTime i) v < 2 * u) :
    (eventCtx u n0 i v).1.peaks = v.peaks := by
  have h : ¬(n0 ≤ itemTime i / 64 ∧ 2 * u ≤ reached u (itemTime i) v) := by omega
  simp [eventCtx, eventTrack, eventBins_coarse_reached, h, eventBins_peaks]

theorem eventCtx_high (hn : n0 ≤ itemTime i / 64) (hu : 2 * u ≤ reached u (itemTime i) v) :
    (eventCtx u n0 i v).1.peaks = (track (itemTime i / 64) (reached u (itemTime i) v) v.peaks).1 ∧
    (eventCtx u n0 i v).2 = (track (itemTime i / 64) (reached u (itemTime i) v) v.peaks).2 := by
  simp [eventCtx, eventTrack, eventBins_coarse_reached, hn, hu, eventBins_peaks]

/-- From shot 2 on, the first event places a window for every valid entry (R140). -/
theorem eventCtx_first (hq : 2 ≤ itemShot i) (hp : v.placed = 0) :
    (eventCtx u n0 i v).1.placed = itemShot i ∧
    ∀ j, j < 4 → j < v.wins.length → (peakAt v.peaks j).valid = true → (eventCtx u n0 i v).1.wins.getD j {} =
      { valid := true, z := windowStart v (peakAt v.peaks j).bin, from_ := itemShot i } := by
  rw [eventCtx_placed, eventCtx_wins, eventPlaced_first hq (by simpa using hp)]
  refine ⟨rfl, fun j hj hl hv => ?_⟩
  have hpeaks : (foreignCheck (itemShot i) (itemTime i) (takeOverload i v)).peaks = v.peaks := takeOverload_peaks i v
  have hwins : (foreignCheck (itemShot i) (itemTime i) (takeOverload i v)).wins = v.wins := takeOverload_wins i v
  have hcoarse : (foreignCheck (itemShot i) (itemTime i) (takeOverload i v)).coarse = v.coarse := takeOverload_coarse i v
  rw [placePrimary_wins hj (by rwa [hwins]) (by rwa [hpeaks]), hpeaks, windowStart_congr hcoarse]

/-- Any other event leaves the windows. -/
theorem eventCtx_later (h : v.placed ≠ 0 ∨ itemShot i < 2) :
    (eventCtx u n0 i v).1.placed = v.placed ∧ (eventCtx u n0 i v).1.wins = v.wins := by
  rw [eventCtx_placed, eventCtx_wins, eventPlaced_later (by simpa using h)]
  exact ⟨takeOverload_placed i v, takeOverload_wins i v⟩

theorem eventCtx_fine (h : v.placed ≠ 0 ∨ itemShot i < 2) {j f : Nat} (hj : j < 4) (hf : f < 32) :
    Table.getD 0 (eventCtx u n0 i v).1.fine (32 * j + f) =
      if (v.wins.getD j {}).valid = true ∧ (v.wins.getD j {}).from_ ≤ itemShot i ∧
          2 * (v.wins.getD j {}).z ≤ itemTime i ∧ itemTime i ≤ 2 * (v.wins.getD j {}).z + 63 ∧
          (itemTime i - 2 * (v.wins.getD j {}).z) / 2 = f
        then min 4095 (Table.getD 0 v.fine (32 * j + f) + u) else Table.getD 0 v.fine (32 * j + f) := by
  have hwins : (foreignCheck (itemShot i) (itemTime i) (takeOverload i v)).wins = v.wins := takeOverload_wins i v
  have hfine : (foreignCheck (itemShot i) (itemTime i) (takeOverload i v)).fine = v.fine := takeOverload_fine i v
  rw [eventCtx_frame]
  refine (eventBins_fine hj hf).trans ?_
  rw [eventPlaced_later (by simpa using h), hwins, hfine]

end Sys2Proof.Proofs
end

section
/-! What may still come to a context after the tracker: flags and windows (R134, R142, R143). -/

namespace Sys2Proof.Proofs

open Sys2Proof Sys2Proof.Machine Sys2Proof.Laws

/-- `w` is `v` but for flags, their write-through and windows, and every window that `v` has placed stands. -/
structure WindowsAdded (v w : Ctx) : Prop where
  frame : w = { v with flags := w.flags, kept := w.kept, wins := w.wins, extra := w.extra, extras := w.extras }
  stands : ∀ j, (v.wins.getD j {}).valid = true → w.wins.getD j {} = v.wins.getD j {}

namespace WindowsAdded

variable {v w z : Ctx}

theorem refl (v : Ctx) : WindowsAdded v v := ⟨rfl, fun _ _ => rfl⟩

theorem trans (h1 : WindowsAdded v w) (h2 : WindowsAdded w z) : WindowsAdded v z := by
  refine ⟨?_, fun j hj => ?_⟩
  · rw [h2.frame, h1.frame]
  · have hw : w.wins.getD j {} = v.wins.getD j {} := h1.stands j hj
    rw [h2.stands j (by rw [hw, hj]), hw]

theorem placed (h : WindowsAdded v w) : w.placed = v.placed := by rw [h.frame]
theorem planned (h : WindowsAdded v w) : w.planned = v.planned := by rw [h.frame]
theorem peaks (h : WindowsAdded v w) : w.peaks = v.peaks := by rw [h.frame]
theorem coarse (h : WindowsAdded v w) : w.coarse = v.coarse := by rw [h.frame]
theorem fine (h : WindowsAdded v w) : w.fine = v.fine := by rw [h.frame]
theorem foreign (h : WindowsAdded v w) : w.foreign = v.foreign := by rw [h.frame]
theorem prev (h : WindowsAdded v w) : w.prev = v.prev := by rw [h.frame]

end WindowsAdded

/-! ## Write-through -/

theorem writeThrough_frame (old : Flags) (v : Ctx) : writeThrough old v = { v with kept := (writeThrough old v).kept } := by
  unfold writeThrough
  split <;> rfl

theorem windowsAdded_writeThrough (old : Flags) (v : Ctx) : WindowsAdded v (writeThrough old v) := by
  rw [writeThrough_frame]
  exact ⟨rfl, fun _ _ => rfl⟩

/-! ## The re-zoom context's share of an event -/

variable {u q e x n : Nat} {s : State}

theorem extraUpdate_none (h : (ctxOf s x).extra = none) : extraUpdate u x q e s = s := by
  simp [extraUpdate, h]

/-- The context itself takes the saturation flag at most. -/
theorem ctxOf_extraUpdate_self (hx : (ctxOf s x).extra ≠ some x) :
    ctxOf (extraUpdate u x q e s) x = { ctxOf s x with flags := (ctxOf (extraUpdate u x q e s) x).flags } := by
  unfold extraUpdate
  cases hy : (ctxOf s x).extra with
  | none => rfl
  | some y =>
    have hxy : x ≠ y := fun h => hx (h ▸ hy)
    dsimp only
    split
    · rw [ctxOf_modCtx_self, ctxOf_modCtx_ne hxy]
    · rw [ctxOf_modCtx_ne hxy]

theorem modCtx_wins {f : Ctx → Ctx} (hf : ∀ v, (f v).wins = v.wins) (k y : Nat) (s : State) :
    (ctxOf (modCtx k f s) y).wins = (ctxOf s y).wins := by
  by_cases h : y = k
  · subst h; rw [ctxOf_modCtx_self, hf]
  · rw [ctxOf_modCtx_ne h]

/-- No window of any context moves. -/
theorem extraUpdate_wins (u x q e y : Nat) (s : State) : (ctxOf (extraUpdate u x q e s) y).wins = (ctxOf s y).wins := by
  have hfine : ∀ v, (fineUpdate u q e v).wins = v.wins := fun v => by rw [fineUpdate_frame]
  unfold extraUpdate
  split
  · rfl
  · dsimp only
    split
    · refine (modCtx_wins ?_ _ _ _).trans (modCtx_wins hfine _ _ _)
      exact fun _ => rfl
    · exact modCtx_wins hfine _ _ _

/-! ## The primary window that an entry takes -/

theorem freePrimary_own {v : Ctx} {j : Nat} (h : (v.wins.getD j {}).valid = false) : freePrimary v j = some j := by
  simp only [freePrimary, h]; rfl

theorem freePrimary_taken {v : Ctx} {j : Nat} (h : (v.wins.getD j {}).valid = true) :
    freePrimary v j = (List.range 4).find? fun i => !(v.wins.getD i {}).valid := by
  simp only [freePrimary, h]; rfl

theorem freePrimary_lowest {v : Ctx} {j k : Nat} (hj : (v.wins.getD j {}).valid = true) (hk : k < 4)
    (hf : (v.wins.getD k {}).valid = false) (hlt : ∀ l, l < k → (v.wins.getD l {}).valid = true) :
    freePrimary v j = some k := by
  rw [freePrimary_taken hj, List.find?_range_eq_some]
  exact ⟨by rw [hf]; rfl, List.mem_range.2 hk, fun l hl => by rw [hlt l hl]; rfl⟩

theorem freePrimary_none {v : Ctx} {j : Nat} (hj : j < 4) (h : ∀ k, k < 4 → (v.wins.getD k {}).valid = true) :
    freePrimary v j = none := by
  rw [freePrimary_taken (h j hj), List.find?_range_eq_none]
  intro k hk
  rw [h k hk]; rfl

theorem freePrimary_congr {v w : Ctx} (h : v.wins = w.wins) (j : Nat) : freePrimary v j = freePrimary w j := by
  rw [freePrimary, freePrimary, h]

/-- Only a window that is not in use is taken. -/
theorem freePrimary_not_valid {v : Ctx} {j k : Nat} (h : freePrimary v j = some k) : (v.wins.getD k {}).valid = false := by
  by_cases hj : (v.wins.getD j {}).valid = true
  · rw [freePrimary_taken hj, List.find?_range_eq_some] at h
    simpa using h.1
  · have hj : (v.wins.getD j {}).valid = false := by simpa using hj
    rw [freePrimary_own hj] at h
    cases h; exact hj

theorem windowsAdded_placeIn {v : Ctx} {b from_ k : Nat} (hk : (v.wins.getD k {}).valid = false) :
    WindowsAdded v (placeIn v b from_ k v) := by
  refine ⟨rfl, fun j hj => getD_set_ne ?_⟩
  rintro rfl
  rw [hk] at hj; cases hj

/-! ## A window in a re-zoom context -/

theorem freeRezoom_ge {y : Nat} (h : freeRezoom s = some y) : 15360 ≤ y := by
  obtain ⟨k, -, rfl⟩ := List.mem_map.1 (List.mem_of_find?_eq_some h)
  omega

theorem windowsAdded_placeExtra (b from_ : Nat) : WindowsAdded (ctxOf s x) (ctxOf (placeExtra x b from_ s) x) := by
  unfold placeExtra
  dsimp only
  split
  · rw [ctxOf_setCtx_self]; exact ⟨rfl, fun _ _ => rfl⟩
  · split
    · exact WindowsAdded.refl _
    · rw [ctxOf_modSurvey rfl, ctxOf_setCtx_self]
      exact ⟨rfl, fun _ _ => rfl⟩

/-! ## The window that an entry asks for -/

/-- A window of the point, its own or one in its re-zoom context, meets coarse bin `n`. -/
def Covered (s : State) (v : Ctx) (n : Nat) : Prop :=
  (∃ w ∈ v.wins, covers w n = true) ∨ ∃ y, v.extra = some y ∧ ∃ w ∈ (ctxOf s y).wins, covers w n = true

/-- Windows of the point's re-zoom context. -/
def extraWins (s : State) (v : Ctx) : List Win :=
  match v.extra with
  | none => []
  | some y => (ctxOf s y).wins

theorem any_covers_iff {v : Ctx} : (v.wins ++ extraWins s v).any (fun w => covers w n) = true ↔ Covered s v n := by
  unfold Covered extraWins
  cases v.extra <;> simp

theorem wantWindow_eq (x q j : Nat) (s : State) : wantWindow x q j s =
    if (ctxOf s x).placed = 0 ∨ (ctxOf s x).planned < q + 2 ∨
        ((ctxOf s x).wins ++ extraWins s (ctxOf s x)).any (fun w => covers w (peakAt (ctxOf s x).peaks j).bin) then s
    else
      match freePrimary (ctxOf s x) j with
      | some k => setCtx x (placeIn (ctxOf s x) (peakAt (ctxOf s x).peaks j).bin (q + 1) k (ctxOf s x)) s
      | none => if (ctxOf s x).extras < 4 then placeExtra x (peakAt (ctxOf s x).peaks j).bin (q + 1) s else s := rfl

/-- A window asked for is added, and none that stands is lost. -/
theorem windowsAdded_wantWindow (q j : Nat) : WindowsAdded (ctxOf s x) (ctxOf (wantWindow x q j s) x) := by
  rw [wantWindow_eq]
  split
  · exact WindowsAdded.refl _
  · split
    · next k hk =>
      rw [ctxOf_setCtx_self]
      exact windowsAdded_placeIn (freePrimary_not_valid hk)
    · split
      · exact windowsAdded_placeExtra _ _
      · exact WindowsAdded.refl _

/-- Placement has begun, shot `q + 1` is not the last, and no window meets the entry's bin: the entry may have one. -/
structure MayHaveWindow (s : State) (v : Ctx) (q n : Nat) : Prop where
  placed : v.placed ≠ 0
  shots : q + 2 ≤ v.planned
  bare : ¬Covered s v n

theorem wantWindow_primary {j k : Nat} (h : MayHaveWindow s (ctxOf s x) q (peakAt (ctxOf s x).peaks j).bin)
    (hk : freePrimary (ctxOf s x) j = some k) :
    wantWindow x q j s = setCtx x (placeIn (ctxOf s x) (peakAt (ctxOf s x).peaks j).bin (q + 1) k (ctxOf s x)) s := by
  obtain ⟨hp, hs, hb⟩ := h
  rw [wantWindow_eq, if_neg (by rw [any_covers_iff]; simp [hp, hb]; omega), hk]

theorem wantWindow_extra {j : Nat} (h : MayHaveWindow s (ctxOf s x) q (peakAt (ctxOf s x).peaks j).bin)
    (hk : freePrimary (ctxOf s x) j = none) (he : (ctxOf s x).extras < 4) :
    wantWindow x q j s = placeExtra x (peakAt (ctxOf s x).peaks j).bin (q + 1) s := by
  obtain ⟨hp, hs, hb⟩ := h
  rw [wantWindow_eq, if_neg (by rw [any_covers_iff]; simp [hp, hb]; omega), hk]
  exact if_pos he

end Sys2Proof.Proofs
end

section
/-! EVENT_ITEM: the context and the store after a valid event item (R138 to R143, R180). -/

namespace Sys2Proof.Proofs

open Sys2Proof Sys2Proof.Machine Sys2Proof.Laws

/-! ## A granted item -/

/-- The state in which an item of channel `c` that engine `e` grants is applied. -/
def granted (dt e c : Nat) (s : State) : State :=
  setEngine e { engineOf s e with rr := c % 24, served := s.now + dt }
    (modChan c (fun h => { h with buffer := h.buffer.drop 1 }) (advance dt s))

@[simp] theorem ctxOf_granted (dt e c x : Nat) (s : State) : ctxOf (granted dt e c s) x = ctxOf s x := by simp [granted]
@[simp] theorem modeTable_granted (dt e c m : Nat) (s : State) : modeTable (granted dt e c s) m = modeTable s m := by
  simp [granted]
@[simp] theorem freeRezoom_granted (dt e c : Nat) (s : State) : freeRezoom (granted dt e c s) = freeRezoom s :=
  freeRezoom_congr fun y _ => by rw [ctxOf_granted]
@[simp] theorem counterOf_granted (dt e c : Nat) (k : Counter) (s : State) : counterOf (granted dt e c s) k = counterOf s k :=
  counterOf_advance k dt s

/-- An engine that works and has no marker waiting grants the next item (R127, R135). -/
theorem grant_advance {dt e kind c : Nat} {f : Nat → Item → State → State} {i : Item} {s : State}
    (hw : engineWorks (engineOf s e) = true) (hm : (engineOf s e).markers = []) (hg : nextGrant s e = some (c, i))
    (hk : i.kind = kind) : grant e kind f (advance dt s) = f c i (granted dt e c s) := by
  simp [grant, granted, hw, hm, hg, hk]

/-- A valid event item is applied and counted (R138, R151). -/
theorem exec_eventItem {dt e c corrected : Nat} {i : Item} {s : State} (he : e < 68)
    (hw : engineWorks (engineOf s e) = true) (hm : (engineOf s e).markers = []) (hg : nextGrant s e = some (c, i))
    (hk : i.kind = 0) (hv : itemValid s i = true) :
    exec (.eventItem dt ⟨e, corrected⟩) s = .next (count (.eventsApplied e) 1 (count (.correctableEcc e) corrected
      (applyEvent (tagCtx i.word) i (granted dt e c s)))) := by
  have h : exec (.eventItem dt ⟨e, corrected⟩) s = execEventItem dt ⟨e, corrected⟩ s := rfl
  have hv : itemValid (granted dt e c s) i = true := by rwa [itemValid_congr i (ctxOf_granted _ _ _ _ _)]
  simp [h, execEventItem, need, he, grant_advance hw hm hg hk, hv]

/-! ## The event on the store -/

/-- The unit u that an event adds in the mode of context `x` (R138). -/
def eventUnit (x : Nat) (s : State) : Nat := 2 ^ (modeTable s (ctxOf s x).mode).scale

/-- The height that the event's coarse bin reaches in context `x`. -/
def eventHeight (x : Nat) (i : Item) (s : State) : Nat := reached (eventUnit x s) (itemTime i) (ctxOf s x)

/-- The context of an event after the tracker, and the entry that may want a window, in the mode of the context. -/
def trackedCtx (x : Nat) (i : Item) (s : State) : Ctx × Option Nat :=
  eventCtx (eventUnit x s) (modeTable s (ctxOf s x).mode).n0 i (ctxOf s x)

/-- The store once the context and its re-zoom context hold the event. -/
def eventStored (x : Nat) (i : Item) (s : State) : State :=
  extraUpdate (eventUnit x s) x (itemShot i) (itemTime i) (setCtx x (trackedCtx x i s).1 s)

/-- The store once an entry has asked for its window. -/
def eventWindowed (x : Nat) (i : Item) (s : State) : State :=
  match (trackedCtx x i s).2 with
  | none => eventStored x i s
  | some j => wantWindow x (itemShot i) j (eventStored x i s)

theorem applyEvent_eq (x : Nat) (i : Item) (s : State) :
    applyEvent x i s = modCtx x (writeThrough (ctxOf s x).flags) (eventWindowed x i s) := by
  unfold applyEvent eventWindowed eventStored trackedCtx eventUnit
  rw [← takeOverload_mode i (ctxOf s x)]
  rfl

theorem eventWindowed_some {x j : Nat} {i : Item} {s : State} (h : (trackedCtx x i s).2 = some j) :
    eventWindowed x i s = wantWindow x (itemShot i) j (eventStored x i s) := by
  simp [eventWindowed, h]

variable {x : Nat} {i : Item} {s : State}

theorem trackedCtx_extra (x : Nat) (i : Item) (s : State) : (trackedCtx x i s).1.extra = (ctxOf s x).extra := eventCtx_extra

theorem ctxOf_eventStored (hx : (ctxOf s x).extra ≠ some x) :
    ctxOf (eventStored x i s) x = { (trackedCtx x i s).1 with flags := (ctxOf (eventStored x i s) x).flags } := by
  have h : (ctxOf (setCtx x (trackedCtx x i s).1 s) x).extra ≠ some x := by rwa [ctxOf_setCtx_self, trackedCtx_extra]
  have hself := ctxOf_extraUpdate_self (u := eventUnit x s) (q := itemShot i) (e := itemTime i) h
  rwa [ctxOf_setCtx_self] at hself

theorem windowsAdded_eventStored (hx : (ctxOf s x).extra ≠ some x) :
    WindowsAdded (trackedCtx x i s).1 (ctxOf (eventStored x i s) x) := by
  rw [ctxOf_eventStored hx]
  exact ⟨rfl, fun _ _ => rfl⟩

theorem windowsAdded_eventWindowed (hx : (ctxOf s x).extra ≠ some x) :
    WindowsAdded (trackedCtx x i s).1 (ctxOf (eventWindowed x i s) x) := by
  unfold eventWindowed
  split
  · exact windowsAdded_eventStored hx
  · exact (windowsAdded_eventStored hx).trans (windowsAdded_wantWindow _ _)

/-- What is left of an event once its context has been tracked is windows and flags. -/
theorem windowsAdded_applyEvent (hx : (ctxOf s x).extra ≠ some x) :
    WindowsAdded (trackedCtx x i s).1 (ctxOf (applyEvent x i s) x) := by
  rw [applyEvent_eq, ctxOf_modCtx_self]
  exact (windowsAdded_eventWindowed hx).trans (windowsAdded_writeThrough _ _)

end Sys2Proof.Proofs
end

section
/-! A new entry's window (R142): its own or the lowest free one, one in a re-zoom context, or none. -/

namespace Sys2Proof.Proofs

open Sys2Proof Sys2Proof.Machine Sys2Proof.Laws

variable {x y j k : Nat} {i : Item} {s : State}

/-! ## A re-zoom context from the pool -/

theorem placeExtra_skipped {b from_ : Nat} (he : (ctxOf s x).extra = none) (hf : freeRezoom s = none) :
    placeExtra x b from_ s = count .rezoomSkipped 1 s := by
  simp [placeExtra, he, hf]

/-- The store once pool context `y` holds the first extra window of context `x`. -/
def rezoomed (x y b from_ : Nat) (s : State) : State :=
  setCtx x { ctxOf s x with extra := some y, extras := 1 } (setCtx y (placeIn (ctxOf s x) b from_ 0
    { ph := .opened, channel := (ctxOf s x).channel, bearing := (ctxOf s x).bearing }) s)

theorem placeExtra_rezoomed {b from_ : Nat} (he : (ctxOf s x).extra = none) (hf : freeRezoom s = some y) :
    placeExtra x b from_ s = modSurvey (fun u => { u with
      highWater := (max u.highWater.1 (rezoomUsed (rezoomed x y b from_ s)), u.highWater.2) }) (rezoomed x y b from_ s) := by
  simp [placeExtra, rezoomed, he, hf]

theorem placeExtra_free {b from_ : Nat} (he : (ctxOf s x).extra = none) (hf : freeRezoom s = some y) (hyx : y ≠ x) :
    ctxOf (placeExtra x b from_ s) x = { ctxOf s x with extra := some y, extras := 1 } ∧
    (ctxOf (placeExtra x b from_ s) y).wins.getD 0 {} = { valid := true, z := windowStart (ctxOf s x) b, from_ := from_ } := by
  rw [placeExtra_rezoomed he hf, ctxOf_modSurvey rfl, ctxOf_modSurvey rfl, rezoomed, ctxOf_setCtx_self,
    ctxOf_setCtx_ne hyx, ctxOf_setCtx_self]
  exact ⟨rfl, rfl⟩

/-! ## An event that gives the free entry `j` a bin which no window meets -/

/-- Placement has begun, the event is tracked, no entry stands at or beside its bin, no window meets it, shot `q + 1` is not
the last, and `j` is the lowest free entry. -/
structure NewPeak (x : Nat) (i : Item) (j : Nat) (s : State) : Prop where
  apart : (ctxOf s x).extra ≠ some x
  placed : (ctxOf s x).placed ≠ 0
  far : (modeTable s (ctxOf s x).mode).n0 ≤ itemTime i / 64
  high : 2 * eventUnit x s ≤ eventHeight x i s
  shots : itemShot i + 2 ≤ (ctxOf s x).planned
  bare : ¬Covered s (ctxOf s x) (itemTime i / 64)
  alone : ∀ j, j < 4 → ¬StandsAt (itemTime i / 64) (peakAt (ctxOf s x).peaks j) ∧
    ¬StandsBeside (itemTime i / 64) (peakAt (ctxOf s x).peaks j)
  entry : j < 4
  listed : j < (ctxOf s x).peaks.length
  free : (peakAt (ctxOf s x).peaks j).valid = false
  lowest : ∀ k, k < j → (peakAt (ctxOf s x).peaks k).valid = true

namespace NewPeak

theorem track_eq (h : NewPeak x i j s) (v : Nat) : track (itemTime i / 64) v (ctxOf s x).peaks =
    ((ctxOf s x).peaks.set j { valid := true, bin := itemTime i / 64, value := v }, some j) :=
  track_free h.entry (fun k hk => (h.alone k hk).1) (fun k hk => (h.alone k hk).2) h.free h.lowest

theorem trackedCtx_snd (h : NewPeak x i j s) : (trackedCtx x i s).2 = some j := by
  rw [trackedCtx, (eventCtx_high h.far h.high).2, h.track_eq]

theorem stored_bin (h : NewPeak x i j s) : (peakAt (ctxOf (eventStored x i s) x).peaks j).bin = itemTime i / 64 := by
  rw [(windowsAdded_eventStored h.apart).peaks, trackedCtx, (eventCtx_high h.far h.high).1, h.track_eq,
    peakAt_set_self h.listed]

theorem stored_wins (h : NewPeak x i j s) : (ctxOf (eventStored x i s) x).wins = (ctxOf s x).wins := by
  rw [ctxOf_eventStored h.apart]
  exact (eventCtx_later (.inl h.placed)).2

theorem stored_extra (h : NewPeak x i j s) : (ctxOf (eventStored x i s) x).extra = (ctxOf s x).extra := by
  rw [ctxOf_eventStored h.apart]
  exact eventCtx_extra

theorem stored_extras (h : NewPeak x i j s) : (ctxOf (eventStored x i s) x).extras = (ctxOf s x).extras := by
  rw [ctxOf_eventStored h.apart]
  exact eventCtx_extras

/-- The event's own bins cover nothing: the windows are those of before. -/
theorem stored_bare (h : NewPeak x i j s) : ¬Covered (eventStored x i s) (ctxOf (eventStored x i s) x) (itemTime i / 64) := by
  have hwins : ∀ y, (ctxOf s x).extra = some y → (ctxOf (eventStored x i s) y).wins = (ctxOf s y).wins := by
    intro y hy
    have hyx : y ≠ x := fun e => h.apart (e ▸ hy)
    rw [eventStored, extraUpdate_wins, ctxOf_setCtx_ne hyx]
  rintro (hc | ⟨y, hy, hc⟩)
  · exact h.bare (.inl (by rwa [h.stored_wins] at hc))
  · rw [h.stored_extra] at hy
    exact h.bare (.inr ⟨y, hy, by rwa [hwins y hy] at hc⟩)

theorem mayHaveWindow (h : NewPeak x i j s) : MayHaveWindow (eventStored x i s) (ctxOf (eventStored x i s) x) (itemShot i)
    (peakAt (ctxOf (eventStored x i s) x).peaks j).bin where
  placed := by
    rw [(windowsAdded_eventStored h.apart).placed, trackedCtx, (eventCtx_later (.inl h.placed)).1]
    exact h.placed
  shots := by
    rw [(windowsAdded_eventStored h.apart).planned, trackedCtx, eventCtx_planned]
    exact h.shots
  bare := by
    rw [h.stored_bin]
    exact h.stored_bare

/-- The coarse bins are final before the window is placed. -/
theorem windowStart_stored (h : NewPeak x i j s) (b : Nat) :
    windowStart (ctxOf (eventStored x i s) x) b = windowStart (ctxOf (applyEvent x i s) x) b :=
  windowStart_congr
    ((windowsAdded_eventStored h.apart).coarse.trans (windowsAdded_applyEvent h.apart).coarse.symm) b

/-- A free primary window goes to the entry from the next shot on. -/
theorem applyEvent_primary (h : NewPeak x i j s) (hk : freePrimary (ctxOf s x) j = some k) (hl : k < (ctxOf s x).wins.length) :
    (ctxOf (applyEvent x i s) x).wins.getD k {} =
      { valid := true, z := windowStart (ctxOf (applyEvent x i s) x) (itemTime i / 64), from_ := itemShot i + 1 } := by
  have hk : freePrimary (ctxOf (eventStored x i s) x) j = some k := by rwa [freePrimary_congr h.stored_wins]
  have hw := wantWindow_primary h.mayHaveWindow hk
  rw [← h.windowStart_stored, applyEvent_eq, eventWindowed_some h.trackedCtx_snd, hw, ctxOf_modCtx_self, ctxOf_setCtx_self,
    writeThrough_frame, h.stored_bin, placeIn, getD_set_self (by rwa [h.stored_wins])]

/-- With all four windows placed, the entry asks the pool. -/
theorem applyEvent_extra (h : NewPeak x i j s) (hk : freePrimary (ctxOf s x) j = none) (he : (ctxOf s x).extras < 4) :
    applyEvent x i s = modCtx x (writeThrough (ctxOf s x).flags)
      (placeExtra x (itemTime i / 64) (itemShot i + 1) (eventStored x i s)) := by
  have hk : freePrimary (ctxOf (eventStored x i s) x) j = none := by rwa [freePrimary_congr h.stored_wins]
  rw [applyEvent_eq, eventWindowed_some h.trackedCtx_snd,
    wantWindow_extra h.mayHaveWindow hk (by rwa [h.stored_extras]), h.stored_bin]

/-- A context with no re-zoom context leaves the pool as it was until it asks. -/
theorem freeRezoom_stored (hx : x < 15360) (he : (ctxOf s x).extra = none) : freeRezoom (eventStored x i s) = freeRezoom s := by
  have h : (ctxOf (setCtx x (trackedCtx x i s).1 s) x).extra = none := by rwa [ctxOf_setCtx_self, trackedCtx_extra]
  rw [eventStored, extraUpdate_none h]
  exact freeRezoom_congr fun y hy => by rw [ctxOf_setCtx_ne (by omega)]

theorem applyEvent_rezoom (h : NewPeak x i j s) (hx : x < 15360) (hk : freePrimary (ctxOf s x) j = none)
    (hn : (ctxOf s x).extras < 4) (he : (ctxOf s x).extra = none) (hf : freeRezoom s = some y) :
    (ctxOf (applyEvent x i s) x).extra = some y ∧ (ctxOf (applyEvent x i s) x).extras = 1 ∧
    (ctxOf (applyEvent x i s) y).wins.getD 0 {} =
      { valid := true, z := windowStart (ctxOf (applyEvent x i s) x) (itemTime i / 64), from_ := itemShot i + 1 } := by
  have hyx : y ≠ x := by have := freeRezoom_ge hf; omega
  obtain ⟨hself, hwin⟩ := placeExtra_free (b := itemTime i / 64) (from_ := itemShot i + 1) (h.stored_extra.trans he)
    ((freeRezoom_stored hx he).trans hf) hyx
  rw [← h.windowStart_stored, h.applyEvent_extra hk hn, ctxOf_modCtx_self, ctxOf_modCtx_ne hyx, hself, writeThrough_frame]
  exact ⟨rfl, rfl, hwin⟩

theorem applyEvent_skipped (h : NewPeak x i j s) (hx : x < 15360) (hk : freePrimary (ctxOf s x) j = none)
    (hn : (ctxOf s x).extras < 4) (he : (ctxOf s x).extra = none) (hf : freeRezoom s = none) :
    (ctxOf (applyEvent x i s) x).extra = none ∧
    counterOf (applyEvent x i s) .rezoomSkipped = counterNext .rezoomSkipped (counterOf s .rezoomSkipped) 1 := by
  have hstored : eventStored x i s = setCtx x (trackedCtx x i s).1 s :=
    extraUpdate_none (by rwa [ctxOf_setCtx_self, trackedCtx_extra])
  rw [h.applyEvent_extra hk hn,
    placeExtra_skipped (h.stored_extra.trans he) ((freeRezoom_stored hx he).trans hf), ctxOf_modCtx_self, writeThrough_frame]
  refine ⟨h.stored_extra.trans he, ?_⟩
  rw [hstored]
  exact counterOf_count _ _ _

end NewPeak

end Sys2Proof.Proofs
end

section
/-! MARKER_APPLY: what each kind of marker leaves (R136, R137, R150). -/

namespace Sys2Proof.Proofs

open Sys2Proof Sys2Proof.Machine Sys2Proof.Laws

/-! ## Background and threshold (R171) -/

theorem backgroundCode_of_le {b : Rat} (h : b ≤ 65535 / 4096) : backgroundCode b = (roundRat (b * 4096)).toNat :=
  if_neg (not_lt.2 h)

theorem backgroundCode_of_lt {b : Rat} (h : 65535 / 4096 < b) : backgroundCode b = 65535 := if_pos h

theorem thresholdOf_of_le {m : ModeTable} {b : Rat} (h : b ≤ 65535 / 4096) : thresholdOf m b =
    min 4095 (max (m.tMin * 2 ^ m.scale) (ceilSqrt ((m.kappa * m.kappa * 2 ^ m.scale : Nat) * b / 256))) :=
  if_neg (not_lt.2 h)

theorem thresholdOf_of_lt {m : ModeTable} {b : Rat} (h : 65535 / 4096 < b) : thresholdOf m b = 4095 := if_pos h

/-! ## Markers by their kind -/

variable {e : Nat} {m : Marker} {s : State}

theorem exec_markerApply (dt : Nat) {r : List Marker} (he : e < 68) (hw : engineWorks (engineOf s e) = true)
    (hm : (engineOf s e).markers = m :: r) :
    exec (.markerApply dt e) s =
      .next (applyMarker e m (setEngine e { engineOf s e with markers := r } (advance dt s))) := by
  have h : exec (.markerApply dt e) s = execMarkerApply dt e s := rfl
  simp [h, execMarkerApply, need, he, hm, hw]

theorem applyMarker_unlit (h : m.kind = 1) : applyMarker e m s =
    queueWork e (some m.ctx) (bareHeader m 4 { unlit := true }) (post m.channel m.bearing m.parity []
      (setCtx m.ctx { bareHeader m 4 { unlit := true } with ph := .queued } s)) := by
  simp [applyMarker, h]

theorem applyMarker_noContext (h : 2 ≤ m.kind) : applyMarker e m s =
    queueWork e none (bareHeader m 0 { pileUp := true, unlit := decide (m.kind = 3) })
      (post m.channel m.bearing m.parity [] s) := by
  have h0 : m.kind ≠ 0 := by omega
  have h1 : m.kind ≠ 1 := by omega
  simp [applyMarker, h0, h1]

/-- An open marker opens its context; a background beyond the header's field is counted besides (R171). -/
theorem applyMarker_open (h : m.kind = 0) :
    applyMarker e m s = modCtx m.ctx (openedCtx s m) s ∨
    applyMarker e m s = count .bgSaturations 1 (modCtx m.ctx (openedCtx s m) s) := by
  unfold applyMarker
  simp only [h, if_true]
  split
  · exact .inr rfl
  · exact .inl rfl

theorem ctxOf_applyMarker_open (h : m.kind = 0) : ctxOf (applyMarker e m s) m.ctx = openedCtx s m (ctxOf s m.ctx) := by
  obtain h | h := applyMarker_open (e := e) (s := s) h <;> simp [h]

theorem engineOf_applyMarker_open (h : m.kind = 0) : engineOf (applyMarker e m s) e = engineOf s e := by
  obtain h | h := applyMarker_open (e := e) (s := s) h <;> simp [h]

theorem bgSaturations_applyMarker_open (h : m.kind = 0)
    (hb : 65535 / 4096 < backgroundOf (modeTable s m.mode) m.planned m.estimate) :
    counterOf (applyMarker e m s) .bgSaturations = counterNext .bgSaturations (counterOf s .bgSaturations) 1 := by
  simp only [applyMarker, h, hb, if_true, counterOf_count]
  rfl

/-- A marker changes the survey and the log alone. -/
theorem applyMarker_frame (e : Nat) (m : Marker) (s : State) :
    applyMarker e m s = { s with survey := (applyMarker e m s).survey, log := (applyMarker e m s).log } := by
  unfold applyMarker
  split
  · split <;> rfl
  · split <;> rfl

/-- A marker taken from its engine's queue changes the survey and the log alone. -/
theorem applyMarker_setEngine_frame (v : Engine) : applyMarker e m (setEngine e v s) =
    { s with survey := (applyMarker e m (setEngine e v s)).survey, log := (applyMarker e m (setEngine e v s)).log } :=
  applyMarker_frame e m (setEngine e v s)

/-- A marker with no context opens and closes none (R150). -/
theorem ctxs_applyMarker_noContext (h : 2 ≤ m.kind) (v : Engine) :
    (applyMarker e m (setEngine e v s)).survey.ctxs = s.survey.ctxs := by
  rw [applyMarker_noContext h]
  rfl

/-- No kind of marker takes another marker from the engine. -/
theorem markers_applyMarker (e : Nat) (m : Marker) (s : State) :
    (engineOf (applyMarker e m s) e).markers = (engineOf s e).markers := by
  rcases (by omega : m.kind = 0 ∨ m.kind = 1 ∨ 2 ≤ m.kind) with h | h | h
  · rw [engineOf_applyMarker_open h]
  · simp [applyMarker_unlit h, engineOf_queueWork_self]
  · simp [applyMarker_noContext h, engineOf_queueWork_self]

end Sys2Proof.Proofs
end

section
/-! Markers and events on the context store, settled (R136 to R143, R150, R171, R180). -/

namespace Sys2Proof.Proofs

open Sys2Proof Sys2Proof.Machine Sys2Proof.Laws

/-! ## The context after an event item -/

section

variable {x : Nat} {i : Item} {s : State} (hx : (ctxOf s x).extra ≠ some x)
include hx

theorem applyEvent_peaks_low (h : itemTime i / 64 < (modeTable s (ctxOf s x).mode).n0 ∨ eventHeight x i s < 2 * eventUnit x s) :
    (ctxOf (applyEvent x i s) x).peaks = (ctxOf s x).peaks :=
  (windowsAdded_applyEvent hx).peaks.trans (eventCtx_low h)

theorem applyEvent_peaks_track (hn : (modeTable s (ctxOf s x).mode).n0 ≤ itemTime i / 64)
    (hu : 2 * eventUnit x s ≤ eventHeight x i s) :
    (ctxOf (applyEvent x i s) x).peaks = (track (itemTime i / 64) (eventHeight x i s) (ctxOf s x).peaks).1 :=
  (windowsAdded_applyEvent hx).peaks.trans (eventCtx_high hn hu).1

theorem applyEvent_placed_first (hq : 2 ≤ itemShot i) (hp : (ctxOf s x).placed = 0) :
    (ctxOf (applyEvent x i s) x).placed = itemShot i :=
  (windowsAdded_applyEvent hx).placed.trans (eventCtx_first hq hp).1

theorem applyEvent_wins_first (hq : 2 ≤ itemShot i) (hp : (ctxOf s x).placed = 0) {j : Nat}
    (hj : j < 4) (hl : j < (ctxOf s x).wins.length) (hv : (peakAt (ctxOf s x).peaks j).valid = true) :
    (ctxOf (applyEvent x i s) x).wins.getD j {} =
      { valid := true, z := windowStart (ctxOf s x) (peakAt (ctxOf s x).peaks j).bin, from_ := itemShot i } := by
  have h : (trackedCtx x i s).1.wins.getD j {} = _ := (eventCtx_first hq hp).2 j hj hl hv
  rw [(windowsAdded_applyEvent hx).stands j (by rw [h]), h]

theorem applyEvent_placed_later (h : (ctxOf s x).placed ≠ 0 ∨ itemShot i < 2) :
    (ctxOf (applyEvent x i s) x).placed = (ctxOf s x).placed :=
  (windowsAdded_applyEvent hx).placed.trans (eventCtx_later h).1

theorem applyEvent_wins_later (h : (ctxOf s x).placed ≠ 0 ∨ itemShot i < 2) {j : Nat}
    (hv : ((ctxOf s x).wins.getD j {}).valid = true) :
    (ctxOf (applyEvent x i s) x).wins.getD j {} = (ctxOf s x).wins.getD j {} := by
  have hw : (trackedCtx x i s).1.wins = (ctxOf s x).wins := (eventCtx_later h).2
  rw [(windowsAdded_applyEvent hx).stands j (by rwa [hw]), hw]

theorem applyEvent_fine_later (h : (ctxOf s x).placed ≠ 0 ∨ itemShot i < 2) {j f : Nat}
    (hj : j < 4) (hf : f < 32) : Table.getD 0 (ctxOf (applyEvent x i s) x).fine (32 * j + f) =
      if ((ctxOf s x).wins.getD j {}).valid = true ∧ ((ctxOf s x).wins.getD j {}).from_ ≤ itemShot i ∧
          2 * ((ctxOf s x).wins.getD j {}).z ≤ itemTime i ∧ itemTime i ≤ 2 * ((ctxOf s x).wins.getD j {}).z + 63 ∧
          (itemTime i - 2 * ((ctxOf s x).wins.getD j {}).z) / 2 = f
        then min 4095 (Table.getD 0 (ctxOf s x).fine (32 * j + f) + eventUnit x s)
        else Table.getD 0 (ctxOf s x).fine (32 * j + f) := by
  rw [(windowsAdded_applyEvent hx).fine]
  exact eventCtx_fine h hj hf

theorem applyEvent_foreign : (ctxOf (applyEvent x i s) x).foreign =
    (foreignCheck (itemShot i) (itemTime i) (takeOverload i (ctxOf s x))).foreign :=
  (windowsAdded_applyEvent hx).foreign.trans eventCtx_foreign

theorem applyEvent_foreign_hit {e0 : Nat} (hp : (ctxOf s x).prev = some (itemShot i, e0, true))
    (hq : 2 ≤ itemShot i) (h96 : e0 + 96 ≤ itemTime i) (h128 : itemTime i ≤ e0 + 128)
    (hz : Table.getD 0 (ctxOf s x).coarse (itemTime i / 64) = 0 ∨ itemTime i / 64 ∈ (ctxOf s x).fresh) :
    (ctxOf (applyEvent x i s) x).foreign = min 65535 ((ctxOf s x).foreign + 1) := by
  rw [applyEvent_foreign hx, foreignCheck_foreign_hit (by simpa using hp) hq h96 h128 (by simpa using hz), takeOverload_foreign]

theorem applyEvent_foreign_miss (h : itemShot i < 2 ∨ (ctxOf s x).prev = none ∨
      (Table.getD 0 (ctxOf s x).coarse (itemTime i / 64) ≠ 0 ∧ itemTime i / 64 ∉ (ctxOf s x).fresh) ∨
      ∃ q0 e0 z, (ctxOf s x).prev = some (q0, e0, z) ∧
        (q0 ≠ itemShot i ∨ z = false ∨ itemTime i < e0 + 96 ∨ e0 + 128 < itemTime i)) :
    (ctxOf (applyEvent x i s) x).foreign = (ctxOf s x).foreign := by
  have hmiss := foreignCheck_foreign_miss (q := itemShot i) (e := itemTime i) (v := takeOverload i (ctxOf s x))
    (by simpa only [takeOverload_prev, takeOverload_coarse, takeOverload_fresh] using h)
  rw [applyEvent_foreign hx, hmiss, takeOverload_foreign]

theorem applyEvent_prev : (ctxOf (applyEvent x i s) x).prev =
    some (itemShot i, itemTime i, zeroBefore (ctxOf s x) (itemShot i) (itemTime i / 64)) :=
  (windowsAdded_applyEvent hx).prev.trans eventCtx_prev

end

/-- The counts of an applied item are not the pool's. -/
theorem rezoomSkipped_count (e n m : Nat) (s : State) :
    counterOf (count (.eventsApplied e) n (count (.correctableEcc e) m s)) .rezoomSkipped = counterOf s .rezoomSkipped := by
  have h : counterKey .rezoomSkipped ≠ counterKey (.eventsApplied e) := by simp only [counterKey]; omega
  have h' : counterKey .rezoomSkipped ≠ counterKey (.correctableEcc e) := by simp only [counterKey]; omega
  rw [counterOf_count_ne _ _ _ _ h, counterOf_count_ne _ _ _ _ h']

/-- Settles O38: a marker by its kind, an event by the cases of the tracker, the placement and the foreign count. -/
theorem markersAreApplied : Obligations.MarkersAreApplied := by
  unfold Obligations.MarkersAreApplied
  constructor
  case left =>
    intro dt e m r s he hw hm
    refine ⟨_, exec_markerApply dt he hw hm, ?markers, ?opened, ?unlit, ?bare, ?frame⟩
    case markers => rw [markers_applyMarker, engineOf_setEngine_self]
    case opened =>
      intro hk
      rw [ctxOf_applyMarker_open hk, engineOf_applyMarker_open hk, engineOf_setEngine_self, ← modeTable_advance _ dt s,
        ← counterOf_advance _ dt s]
      refine ⟨rfl, rfl, rfl, rfl, rfl, rfl, rfl, rfl, rfl, fun hb => ?_, fun hb => ?_, rfl, rfl, rfl, rfl, rfl, rfl, rfl, rfl,
        rfl, rfl, rfl, rfl, rfl, rfl, rfl⟩
      · exact ⟨backgroundCode_of_le hb, thresholdOf_of_le hb⟩
      · exact ⟨backgroundCode_of_lt hb, thresholdOf_of_lt hb, bgSaturations_applyMarker_open hk hb⟩
    case unlit =>
      intro hk
      rw [applyMarker_unlit hk, ctxOf_queueWork, ctxOf_post, ctxOf_setCtx_self, engineOf_queueWork_self, engineOf_post,
        engineOf_setCtx, engineOf_setEngine_self]
      exact ⟨rfl, rfl, rfl, rfl, rfl, _, rfl, rfl⟩
    case bare =>
      intro hk
      refine ⟨by rw [ctxs_applyMarker_noContext hk, advance_survey], ?_⟩
      rw [applyMarker_noContext hk, engineOf_queueWork_self, engineOf_post, engineOf_setEngine_self]
      exact ⟨_, rfl, rfl, rfl, rfl, rfl, rfl⟩
    case frame => exact applyMarker_setEngine_frame ..
  case right =>
    intro dt e c corrected i s he hw hm hg hk hv hpool hextra
    have hx : (ctxOf (granted dt e c s) (tagCtx i.word)).extra ≠ some (tagCtx i.word) := by
      rw [ctxOf_granted]
      exact fun h => absurd (hextra _ h) (by omega)
    rw [exec_eventItem he hw hm hg hk hv]
    simp only [← ctxOf_granted dt e c _ s, ← modeTable_granted dt e c _ s, ← freeRezoom_granted dt e c s,
      ← counterOf_granted dt e c _ s]
    refine ⟨_, rfl, ?_⟩
    generalize granted dt e c s = g at hx ⊢
    simp only [ctxOf_count, rezoomSkipped_count]
    refine ⟨applyEvent_peaks_low hx, ?peaks, ?first, ?later, ?window, ?hit, applyEvent_foreign_miss hx, applyEvent_prev hx⟩
    case peaks =>
      intro hn hu
      have htrack := applyEvent_peaks_track hx hn hu
      refine ⟨fun j hj hh hlt => ?here, fun hnone => ⟨fun j hj hb hlow => ?beside, fun hb => ?apart⟩⟩
      case here => exact htrack.trans (congrArg Prod.fst (track_here hj hh hlt))
      case beside =>
        exact ⟨fun hv => htrack.trans (congrArg Prod.fst (track_beside_le hj hnone hb hlow hv)),
          fun hv halone => htrack.trans (congrArg Prod.fst (track_beside_lt hj hnone hb halone hv))⟩
      case apart =>
        exact ⟨fun j hj hf hlt => htrack.trans (congrArg Prod.fst (track_free hj hnone hb hf hlt)),
          fun j hj hall => htrack.trans (track_full_fst hj hnone hb hall)⟩
    case first =>
      exact fun hq hp => ⟨applyEvent_placed_first hx hq hp, fun j hj hl hv => applyEvent_wins_first hx hq hp hj hl hv⟩
    case later =>
      exact fun h => ⟨applyEvent_placed_later hx h, fun j _ hv => applyEvent_wins_later hx h hv,
        fun j f hj hf => applyEvent_fine_later hx h hj hf⟩
    case window =>
      intro hp hn hu hq hbare halone j hj hl hf hlt
      have hnew : NewPeak (tagCtx i.word) i j g := ⟨hx, hp, hn, hu, hq, hbare, halone, hj, hl, hf, hlt⟩
      refine ⟨fun hw hlen => ?_, fun k hk hlen hw hfree hlow => ?_, fun hfull hlow hex => ⟨fun y hy => ?_, fun hy => ?_⟩⟩
      · exact hnew.applyEvent_primary (freePrimary_own hw) hlen
      · exact hnew.applyEvent_primary (freePrimary_lowest hw hk hfree hlow) hlen
      · exact hnew.applyEvent_rezoom hpool (freePrimary_none hj hfull) hlow hex hy
      · exact hnew.applyEvent_skipped hpool (freePrimary_none hj hfull) hlow hex hy
    case hit =>
      exact fun e0 hprev hq h96 h128 hz => applyEvent_foreign_hit hx hprev hq h96 h128 hz

end Sys2Proof.Proofs
end

section
/-! What the FIRE pads depend on, and the operations that leave it as it is (R15, R45, R309). -/

namespace Sys2Proof.Proofs

open Sys2Proof Sys2Proof.Machine Sys2Proof.Laws

/-- What one safety channel says to the pads: its permit, and the banks it holds back. -/
structure PadGate where
  permit : Bool
  held : List Nat

/-- The instant, the running period, the pulses at the pads, and the two channels that gate them. -/
structure PadView where
  now : Nat
  period : Option Nat
  pulses : List FirePulse
  a : PadGate
  b : PadGate

/-- A channel's permit and the banks of its veto; with `near`, those of its near-zone veto as well (R309, R315). -/
def gateOf (near : Bool) (c : SafeCh) : PadGate := ⟨c.permit, c.veto ++ if near then c.nearVeto else []⟩

/-- What the pads depend on in a state. -/
def padView (near : Bool) (s : State) : PadView :=
  ⟨s.now, s.seq.period, s.pulses, gateOf near s.safety.a, gateOf near s.safety.b⟩

variable {near : Bool}

/-! ## Ways to build a state -/

/-- An update beside the instant and the pulses leaves the view where period and gates stay. -/
@[simp] theorem padView_with (t : State) (pending : List Instr) (free : Nat) (phase : Phase) (supply : Supply) (grat : Grat)
    (motor : Motor) (seq : Seq) (banks : Table Bank) (chain : Chain) (bias : Bias) (chans : Table Chan) (amb : Table Ambient)
    (ambEng : AmbientEngine) (survey : Survey) (contour : Contour) (link : Link) (otp : Otp) (sec : Security) (nor : Nor)
    (legend : Legend) (image : ImageSt) (safety : Safety) (calib : Calib) (thermal : Thermal) (aux : Aux) (near_ : NearDist)
    (recd : Recorder) (dma : Dma) (log : Log) (jtag : Jtag) (hp : seq.period = t.seq.period)
    (ha : gateOf near safety.a = gateOf near t.safety.a) (hb : gateOf near safety.b = gateOf near t.safety.b) :
    padView near ⟨pending, t.now, free, phase, supply, grat, motor, seq, banks, chain, t.pulses, bias, chans, amb, ambEng, survey,
      contour, link, otp, sec, nor, legend, image, safety, calib, thermal, aux, near_, recd, dma, log, jtag⟩ = padView near t := by
  simp [padView, hp, ha, hb]

@[simp] theorem padView_ite (c : Prop) [Decidable c] (s t : State) :
    padView near (if c then s else t) = if c then padView near s else padView near t := apply_ite ..

@[simp] theorem padView_when_ {f : State → State} (hf : ∀ u, padView near (f u) = padView near u) (c : Bool) (s : State) :
    padView near (when_ c f s) = padView near s := by
  cases c
  · rfl
  · exact hf s

@[simp] theorem padView_foldl {α : Type} {f : State → α → State} (hf : ∀ u x, padView near (f u x) = padView near u)
    (l : List α) (s : State) : padView near (l.foldl f s) = padView near s := by
  induction l generalizing s with
  | nil => rfl
  | cons x l ih => exact (ih _).trans (hf s x)

/-- The same for a fold that carries something beside the state. -/
@[simp] theorem padView_foldl_snd {α β : Type} {f : β × State → α → β × State}
    (hf : ∀ x a, padView near (f x a).2 = padView near x.2) (l : List α) (x : β × State) :
    padView near (l.foldl f x).2 = padView near x.2 := by
  induction l generalizing x with
  | nil => rfl
  | cons a l ih => exact (ih _).trans (hf x a)

@[simp] theorem padView_foldr {α : Type} {f : α → State → State} (hf : ∀ u x, padView near (f x u) = padView near u)
    (l : List α) (s : State) : padView near (l.foldr f s) = padView near s := by
  induction l with
  | nil => rfl
  | cons x l ih => exact (hf _ x).trans ih

@[simp] theorem padView_setSide {v : SafeCh} {d : Side} {s : State} (h : gateOf near v = gateOf near (sideOf s d)) :
    padView near (setSide d v s) = padView near s := by
  cases d <;> simp_all [setSide, padView, sideOf]

@[simp] theorem padView_modSide {f : SafeCh → SafeCh} {d : Side} {s : State}
    (h : gateOf near (f (sideOf s d)) = gateOf near (sideOf s d)) : padView near (modSide d f s) = padView near s :=
  padView_setSide h

/-! ## Single parts of the state -/

@[simp] theorem padView_setBank (b : Nat) (v : Bank) (s : State) :
    padView near (setBank b v s) = padView near s := by
  simp [setBank]

@[simp] theorem padView_modBank (b : Nat) (f : Bank → Bank) (s : State) :
    padView near (modBank b f s) = padView near s := by
  simp [modBank]

@[simp] theorem padView_setChan (c : Nat) (v : Chan) (s : State) :
    padView near (setChan c v s) = padView near s := by
  simp [setChan]

@[simp] theorem padView_modChan (c : Nat) (f : Chan → Chan) (s : State) :
    padView near (modChan c f s) = padView near s := by
  simp [modChan]

@[simp] theorem padView_setAmb (c : Nat) (v : Ambient) (s : State) :
    padView near (setAmb c v s) = padView near s := by
  simp [setAmb]

@[simp] theorem padView_setEngine (e : Nat) (v : Engine) (s : State) :
    padView near (setEngine e v s) = padView near s := by
  simp [setEngine]

@[simp] theorem padView_modEngine (e : Nat) (f : Engine → Engine) (s : State) :
    padView near (modEngine e f s) = padView near s := by
  simp [modEngine]

@[simp] theorem padView_setCtx (x : Nat) (v : Ctx) (s : State) :
    padView near (setCtx x v s) = padView near s := by
  simp [setCtx]

@[simp] theorem padView_modCtx (x : Nat) (f : Ctx → Ctx) (s : State) :
    padView near (modCtx x f s) = padView near s := by
  simp [modCtx]

@[simp] theorem padView_freeCtx (x : Nat) (s : State) :
    padView near (freeCtx x s) = padView near s := by
  simp [freeCtx]

@[simp] theorem padView_setUnit (u : Nat) (v : Unit_) (s : State) :
    padView near (setUnit u v s) = padView near s := by
  simp [setUnit]

@[simp] theorem padView_setAux (n : Nat) (v : AuxIn) (s : State) :
    padView near (setAux n v s) = padView near s := by
  simp [setAux]

@[simp] theorem padView_setMover (k : Nat) (v : Mover) (s : State) :
    padView near (setMover k v s) = padView near s := by
  simp [setMover]

@[simp] theorem padView_setBlock (b : Nat) (v : Block) (s : State) :
    padView near (setBlock b v s) = padView near s := by
  simp [setBlock]

@[simp] theorem padView_modBlock (b : Nat) (f : Block → Block) (s : State) :
    padView near (modBlock b f s) = padView near s := by
  simp [modBlock]

@[simp] theorem padView_count (c : Counter) (n : Nat) (s : State) :
    padView near (count c n s) = padView near s := by
  simp [count]

@[simp] theorem padView_countSet (c : Counter) (v : Nat) (s : State) :
    padView near (countSet c v s) = padView near s := by
  simp [countSet]

@[simp] theorem padView_draw (n : Nat) (s : State) : padView near (draw n s).2 = padView near s := by
  simp [draw]

@[simp] theorem padView_logEvent (cls ev inst arg : Nat) (s : State) :
    padView near (logEvent cls ev inst arg s) = padView near s := by
  simp [logEvent]

/-- The watch over the safety status adds a log entry and a pending message. -/
@[simp] theorem padView_watchSafety (f : State → State) (s : State) : padView near (watchSafety f s) = padView near (f s) := by
  obtain h | h := watchSafety_eq f s <;> simp [h]

@[simp] theorem padView_setBankState (b st : Nat) (s : State) :
    padView near (setBankState b st s) = padView near s := by
  simp [setBankState]

@[simp] theorem padView_changeEngine (e : Nat) (v : Engine) (s : State) :
    padView near (changeEngine e v s) = padView near s := by
  simp [changeEngine]

@[simp] theorem padView_due1 (p : Pkt) (s : State) :
    padView near (due1 p s) = padView near s := by
  simp [due1]

@[simp] theorem padView_due2 (p : Pkt) (s : State) :
    padView near (due2 p s) = padView near s := by
  simp [due2]

@[simp] theorem padView_due3 (p : Pkt) (s : State) :
    padView near (due3 p s) = padView near s := by
  simp [due3]

@[simp] theorem padView_due4 (p : Pkt) (s : State) :
    padView near (due4 p s) = padView near s := by
  simp [due4]

@[simp] theorem padView_due5 (p : Pkt) (s : State) :
    padView near (due5 p s) = padView near s := by
  simp [due5]

@[simp] theorem padView_ackMode (echo result sheet : Nat) (s : State) :
    padView near (ackMode echo result sheet s) = padView near s := by
  simp [ackMode]

@[simp] theorem padView_refuseMode (echo result : Nat) (s : State) :
    padView near (refuseMode echo result s) = padView near s := by
  simp [refuseMode]

/-! ## Packets and the link -/

@[simp] theorem padView_discardUp (type : Nat) (s : State) :
    padView near (discardUp type s) = padView near s := by
  simp [discardUp]

@[simp] theorem padView_takeToken (s : State) :
    padView near (takeToken s) = padView near s := by
  simp [takeToken]

@[simp] theorem padView_checkTag (l : List Byte) (s : State) :
    padView near (checkTag l s).2 = padView near s := by
  simp only [checkTag]
  (repeat' split) <;> simp

@[simp] theorem padView_receive (l : List Byte) (viol : Bool) (s : State) :
    padView near (receive l viol s).2 = padView near s := by
  have ht (u : State) := padView_checkTag (near := near) l u
  simp only [receive]
  split
  · rfl
  · split
    · simp
    · split
      · simp
      · have h := ht { takeToken s with link := { (takeToken s).link with seqUp := rxSeq l } }
        split <;> simp_all

@[simp] theorem padView_onPacket {f : List Byte → State → State} (hf : ∀ b u, padView near (f b u) = padView near u) (type : Nat)
    (codes : List Nat) (rd : Bool) (s : State) : padView near (onPacket type codes rd f s) = padView near s := by
  have hr := padView_receive (near := near) (rxBytes s codes rd) (rxViol s codes rd) s
  unfold onPacket
  split
  · rfl
  · split <;> simp_all

@[simp] theorem padView_modLink (f : Link → Link) (s : State) :
    padView near (modLink f s) = padView near s := by
  simp [modLink]

@[simp] theorem padView_linkTransmitStart (wait : Nat) (s : State) :
    padView near (linkTransmitStart wait s) = padView near s := by
  simp [linkTransmitStart]

@[simp] theorem padView_linkStop (s : State) :
    padView near (linkStop s) = padView near s := by
  simp [linkStop]

@[simp] theorem padView_linkRetrain (lanes : Nat) (s : State) :
    padView near (linkRetrain lanes s) = padView near s := by
  simp [linkRetrain]

@[simp] theorem padView_noteReady (s : State) :
    padView near (noteReady s) = padView near s := by
  simp [noteReady]

@[simp] theorem padView_linkUp (lanes : Nat) (s : State) :
    padView near (linkUp lanes s) = padView near s := by
  simp [linkUp]

@[simp] theorem padView_utsAct (st : Nat) (s : State) :
    padView near (utsAct st s) = padView near s := by
  unfold utsAct
  split <;> simp

@[simp] theorem padView_riseAtBoundary (s : State) :
    padView near (riseAtBoundary s) = padView near s := by
  simp [riseAtBoundary]

@[simp] theorem padView_endSession (s : State) :
    padView near (endSession s) = padView near s := by
  simp [endSession]

@[simp] theorem padView_freePool (x : Nat) (s : State) :
    padView near (freePool x s) = padView near s := by
  simp [freePool]

@[simp] theorem padView_discardPending (s : State) :
    padView near (discardPending s) = padView near s := by
  simp [discardPending]
  exact padView_foldl (fun u p => by split <;> simp) _ _

@[simp] theorem padView_linkDown (s : State) :
    padView near (linkDown s) = padView near s := by
  simp [linkDown]

@[simp] theorem padView_wakeLanes (s : State) :
    padView near (wakeLanes s) = padView near s := by
  simp [wakeLanes]

@[simp] theorem padView_modSheetOut (n : Nat) (f : SheetOut → SheetOut) (s : State) :
    padView near (modSheetOut n f s) = padView near s := by
  simp [modSheetOut]

@[simp] theorem padView_activateSession (s : State) :
    padView near (activateSession s) = padView near s := by
  unfold activateSession
  split <;> simp

@[simp] theorem padView_formPacket (p : Pkt) (s : State) :
    padView near (formPacket p s).2 = padView near s := by
  simp only [formPacket]
  (repeat' split) <;> simp

@[simp] theorem padView_helloSent (p : Pkt) (at_ : Nat) (s : State) :
    padView near (helloSent p at_ s) = padView near s := by
  unfold helloSent
  split <;> simp

@[simp] theorem padView_sendPacket (p : Pkt) (s : State) :
    padView near (sendPacket p s) = padView near s := by
  simp only [sendPacket]
  split <;> simp

@[simp] theorem padView_settleChecker (lane errors : Nat) (s : State) :
    padView near (settleChecker lane errors s) = padView near s := by
  simp [settleChecker]

@[simp] theorem padView_settleCheckers (s : State) :
    padView near (settleCheckers s) = padView near s := by
  simp [settleCheckers]

@[simp] theorem padView_laneTestEnd (s : State) :
    padView near (laneTestEnd s) = padView near s := by
  simp [laneTestEnd]

@[simp] theorem padView_endLaneTest (s : State) :
    padView near (endLaneTest s) = padView near s := by
  simp [endLaneTest]

/-! ## Stops, motor and bias -/

@[simp] theorem padView_modChain (f : Chain → Chain) (s : State) :
    padView near (modChain f s) = padView near s := by
  simp [modChain]

@[simp] theorem padView_unfire (x : Shot) (s : State) :
    padView near (unfire x s) = padView near s := by
  simp [unfire]

@[simp] theorem padView_dropShots (s : State) :
    padView near (dropShots s) = padView near s := by
  simp [dropShots]

@[simp] theorem padView_stopFiring (cause : Nat) (safe : Bool) (s : State) :
    padView near (stopFiring cause safe s) = padView near s := by
  simp [stopFiring]

@[simp] theorem padView_raiseTrigger (cause : Nat) (s : State) :
    padView near (raiseTrigger cause s) = padView near s := by
  simp [raiseTrigger]

@[simp] theorem padView_urgentAdd (supply : Bool) (s : State) :
    padView near (urgentAdd supply s) = padView near s := by
  simp [urgentAdd]

@[simp] theorem padView_abandonRun (result : Nat) (s : State) :
    padView near (abandonRun result s) = padView near s := by
  unfold abandonRun
  split <;> simp

@[simp] theorem padView_releaseMessage (s : State) :
    padView near (releaseMessage s) = padView near s := by
  simp [releaseMessage]

@[simp] theorem padView_removeTorque (d : Side) (s : State) :
    padView near (removeTorque d s) = padView near s := padView_modSide rfl

@[simp] theorem padView_judgeTorque (d : Side) (s : State) :
    padView near (judgeTorque d s) = padView near s := by
  simp [judgeTorque]

@[simp] theorem padView_bothAtRest (s : State) :
    padView near (bothAtRest s) = padView near s := by
  simp [bothAtRest]

@[simp] theorem padView_modMotor (f : Motor → Motor) (s : State) :
    padView near (modMotor f s) = padView near s := by
  simp [modMotor]

@[simp] theorem padView_showBankStates (s : State) :
    padView near (showBankStates s) = padView near s := by
  simp [showBankStates]

@[simp] theorem padView_boardHeat (s : State) :
    padView near (boardHeat s) = padView near s := by
  simp [boardHeat]

@[simp] theorem padView_applyConfirmed (s : State) :
    padView near (applyConfirmed s) = padView near s :=
  padView_foldl (fun u b => by split <;> simp) _ _

@[simp] theorem padView_modBias (f : Bias → Bias) (s : State) :
    padView near (modBias f s) = padView near s := by
  simp [modBias]

@[simp] theorem padView_biasRetarget (s : State) :
    padView near (biasRetarget s) = padView near s := by
  unfold biasRetarget
  split <;> simp

@[simp] theorem padView_biasEnable (s : State) :
    padView near (biasEnable s) = padView near s := by
  simp [biasEnable]

@[simp] theorem padView_biasStep (s : State) :
    padView near (biasStep s) = padView near s := by
  simp [biasStep]

@[simp] theorem padView_biasReport (s : State) :
    padView near (biasReport s).2 = padView near s := by
  simp only [biasReport]
  split <;> simp

@[simp] theorem padView_biasAtReading (s : State) :
    padView near (biasAtReading s) = padView near s := by
  simp [biasAtReading]

@[simp] theorem padView_biasFault (bit_ : Nat) (s : State) :
    padView near (biasFault bit_ s) = padView near s := by
  simp only [biasFault]
  (repeat' split) <;> simp [↓padView_with]

/-! ## Ambient estimate -/

@[simp] theorem padView_passPre (ch : Nat) (s : State) :
    padView near (passPre ch s) = padView near s := by
  simp only [passPre]
  split <;> simp

@[simp] theorem padView_evaluateChannel (c : Nat) (s : State) :
    padView near (evaluateChannel c s) = padView near s := by
  unfold evaluateChannel
  split <;> simp

@[simp] theorem padView_startRound (p : Option Nat) (s : State) :
    padView near (startRound p s) = padView near s := by
  simp [startRound]

@[simp] theorem padView_publish (s : State) :
    padView near (publish s) = padView near s := by
  simp [publish]

@[simp] theorem padView_ambientPeriodZero (s : State) :
    padView near (ambientPeriodZero s) = padView near s := by
  simp [ambientPeriodZero]

@[simp] theorem padView_noEndRound (s : State) :
    padView near (noEndRound s) = padView near s := by
  simp [noEndRound]

@[simp] theorem padView_ambientBoundary (first : Bool) (oldMode newMode : Nat) (dv : Int) (s : State) :
    padView near (ambientBoundary first oldMode newMode dv s) = padView near s := by
  simp [ambientBoundary]

end Sys2Proof.Proofs
end

section
/-! What the FIRE pads depend on stays through the work of the NOR flash and of the recorder. -/

namespace Sys2Proof.Proofs

open Sys2Proof Sys2Proof.Machine Sys2Proof.Laws

variable {near : Bool}

@[simp] theorem padView_setDesc (i : Nat) (d : Desc) (s : State) :
    padView near (setDesc i d s) = padView near s := by
  simp [setDesc]

@[simp] theorem padView_modMover (k : Nat) (f : Mover → Mover) (s : State) :
    padView near (modMover k f s) = padView near s := by
  simp [modMover]

@[simp] theorem padView_haltMover (k : Nat) (write stall : Bool) (addr : Nat) (s : State) :
    padView near (haltMover k write stall addr s) = padView near s := by
  simp [haltMover]

@[simp] theorem padView_startMover (k i : Nat) (d : Desc) (s : State) :
    padView near (startMover k i d s) = padView near s := by
  simp [startMover]

@[simp] theorem padView_moveStart (k src dst len : Nat) (s : State) :
    padView near (moveStart k src dst len s) = padView near s := by
  simp [moveStart]

@[simp] theorem padView_moveIfIdle (k : Nat) (d : Desc) (s : State) :
    padView near (moveIfIdle k d s) = padView near s := by
  simp [moveIfIdle]

@[simp] theorem padView_moveDone (k : Nat) (s : State) :
    padView near (moveDone k s) = padView near s := by
  simp [moveDone]

@[simp] theorem padView_moveAbandon (k addr : Nat) (s : State) :
    padView near (moveAbandon k addr s) = padView near s := by
  simp [moveAbandon]

@[simp] theorem padView_modNor (f : Nor → Nor) (s : State) :
    padView near (modNor f s) = padView near s := by
  simp [modNor]

@[simp] theorem padView_norWrite (a : Nat) (l : List Byte) (s : State) :
    padView near (norWrite a l s) = padView near s := by
  simp [norWrite]

@[simp] theorem padView_sealPage (hdr body : List Byte) (s : State) :
    padView near (sealPage hdr body s).2 = padView near s := by
  simp [sealPage]

@[simp] theorem padView_norStart (o : NorOp) (s : State) :
    padView near (norStart o s) = padView near s := by
  simp [norStart]

@[simp] theorem padView_norWriteFailed (s : State) :
    padView near (norWriteFailed s) = padView near s := by
  simp [norWriteFailed]

@[simp] theorem padView_calRecord (k : CalSet) (s : State) :
    padView near (calRecord k s).2 = padView near s := by
  simp [calRecord]

@[simp] theorem padView_modRec (f : Recorder → Recorder) (s : State) :
    padView near (modRec f s) = padView near s := by
  simp [modRec]

@[simp] theorem padView_programHeader (b st : Nat) (h : List Byte) (incident : Nat) (s : State) :
    padView near (programHeader b st h incident s) = padView near s := by
  simp [programHeader]

@[simp] theorem padView_openOn (kind b : Nat) (s : State) :
    padView near (openOn kind b s) = padView near s := by
  simp [openOn]

@[simp] theorem padView_dropCopy (c : Nat) (s : State) :
    padView near (dropCopy c s) = padView near s := by
  simp [dropCopy]

@[simp] theorem padView_letGo (b : Nat) (s : State) :
    padView near (letGo b s) = padView near s := by
  simp only [letGo]
  split <;> simp

@[simp] theorem padView_dropOldest (s : State) :
    padView near (dropOldest s) = padView near s := by
  unfold dropOldest
  split <;> simp

@[simp] theorem padView_openIfNeeded (s : State) :
    padView near (openIfNeeded s) = padView near s := by
  simp only [openIfNeeded]
  (repeat' split) <;> simp

@[simp] theorem padView_loadSeg (s : State) :
    padView near (loadSeg s) = padView near s := by
  unfold loadSeg
  split <;> simp

@[simp] theorem padView_drawScalar (s : State) :
    padView near (drawScalar s).2 = padView near s := by
  simp [drawScalar]

@[simp] theorem padView_signDigest (digest : List Byte) (s : State) :
    padView near (signDigest digest s).2 = padView near s := by
  simp [signDigest]

@[simp] theorem padView_signRecord (kind cause seq incident : Nat) (i : SegInfo) (body : List Byte) (s : State) :
    padView near (signRecord kind cause seq incident i body s).2 = padView near s := by
  simp [signRecord]

@[simp] theorem padView_modIncident (n : Nat) (f : Incident → Incident) (s : State) :
    padView near (modIncident n f s) = padView near s := by
  simp [modIncident]

@[simp] theorem padView_placeClosing (n b seq : Nat) (i : SegInfo) (s : State) :
    padView near (placeClosing n b seq i s) = padView near s := by
  unfold placeClosing
  split <;> simp

@[simp] theorem padView_addSignPage (b seq : Nat) (sk : Option (List Byte)) (s : State) :
    padView near (addSignPage b seq sk s) = padView near s := by
  simp [addSignPage]

@[simp] theorem padView_spoilPage (b : Nat) (s : State) :
    padView near (spoilPage b s) = padView near s := by
  simp [spoilPage]

@[simp] theorem padView_closeSeg (s : State) :
    padView near (closeSeg s) = padView near s := by
  unfold closeSeg
  split <;> simp

@[simp] theorem padView_logIncident (ev : Nat) (i : Incident) (s : State) :
    padView near (logIncident ev i s) = padView near s := by
  simp [logIncident]

@[simp] theorem padView_journalEntry (kind : Nat) (i : Incident) (s : State) :
    padView near (journalEntry kind i s) = padView near s := by
  simp [journalEntry]

@[simp] theorem padView_tableRecord (s : State) :
    padView near (tableRecord s).2 = padView near s := by
  simp [tableRecord]

@[simp] theorem padView_tableWrite (s : State) :
    padView near (tableWrite s) = padView near s := by
  simp [tableWrite]

@[simp] theorem padView_countSegments (n : Nat) (s : State) :
    padView near (countSegments n s) = padView near s := by
  simp [countSegments]

@[simp] theorem padView_phaseWork (s : State) :
    padView near (phaseWork s) = padView near s := by
  simp only [phaseWork]
  (repeat' split) <;> simp

@[simp] theorem padView_journalDone (kind n : Nat) (s : State) :
    padView near (journalDone kind n s) = padView near s := by
  simp only [journalDone]
  (repeat' split) <;> simp

@[simp] theorem padView_releaseIncident (i : Incident) (s : State) :
    padView near (releaseIncident i s) = padView near s := by
  simp [releaseIncident]

@[simp] theorem padView_background (s : State) :
    padView near (background s) = padView near s := by
  simp only [background]
  (repeat' split) <;> simp

@[simp] theorem padView_segMove (j : NandJob) (s : State) :
    padView near (segMove j s) = padView near s := by
  unfold segMove
  split <;> simp

@[simp] theorem padView_nandNext (s : State) :
    padView near (nandNext s) = padView near s := by
  simp only [nandNext]
  split <;> simp

@[simp] theorem padView_stampJob (s t : State) : padView near (stampJob s t) = padView near t := by
  simp [stampJob]

@[simp] theorem padView_nandStart (s : State) :
    padView near (nandStart s) = padView near s := by
  simp [nandStart]

@[simp] theorem padView_countRead (l : List Nat) (s : State) :
    padView near (countRead l s) = padView near s := by
  simp [countRead]

@[simp] theorem padView_wantScrub (b : Nat) (s : State) :
    padView near (wantScrub b s) = padView near s := by
  simp [wantScrub]

@[simp] theorem padView_noteRead (b : Nat) (l : List Nat) (s : State) :
    padView near (noteRead b l s) = padView near s := by
  simp [noteRead]

@[simp] theorem padView_readBack (b : Nat) (p : PageResult) (s : State) :
    padView near (readBack b p s) = padView near s := by
  simp [readBack]

@[simp] theorem padView_pageOk (s : State) :
    padView near (pageOk s) = padView near s := by
  unfold pageOk
  split <;> simp

@[simp] theorem padView_retireBlock (b : Nat) (s : State) :
    padView near (retireBlock b s) = padView near s := by
  simp [retireBlock]

@[simp] theorem padView_programFailed (s : State) :
    padView near (programFailed s) = padView near s := by
  unfold programFailed
  split <;> simp

@[simp] theorem padView_headerFailed (s : State) :
    padView near (headerFailed s) = padView near s := by
  unfold headerFailed
  split <;> simp

@[simp] theorem padView_headerDone (p : PageResult) (s : State) :
    padView near (headerDone p s) = padView near s := by
  unfold headerDone
  split <;> simp

@[simp] theorem padView_programDone (p : PageResult) (s : State) :
    padView near (programDone p s) = padView near s := by
  unfold programDone
  split <;> simp

@[simp] theorem padView_signDone (p : PageResult) (s : State) :
    padView near (signDone p s) = padView near s := by
  unfold signDone
  split <;> simp

@[simp] theorem padView_endSegJob (j : NandJob) (p : PageResult) (s : State) :
    padView near (endSegJob j p s) = padView near s := by
  unfold endSegJob
  split <;> simp

@[simp] theorem padView_runSeg (stop : State → Bool) (n : Nat) (l : List PageResult) (s : State) :
    padView near (runSeg stop n l s) = padView near s := by
  induction n generalizing l s with
  | zero => simp [runSeg]
  | succ n ih =>
    simp only [runSeg]
    split
    · rfl
    · split <;> simp [ih]

@[simp] theorem padView_finishSeg (l : List PageResult) (s : State) :
    padView near (finishSeg l s) = padView near s := by
  simp only [finishSeg]
  split <;> simp

@[simp] theorem padView_finishClosing (l : List PageResult) (s : State) :
    padView near (finishClosing l s) = padView near s := by
  simp [finishClosing]

@[simp] theorem padView_stage (b gap : Body) (s : State) :
    padView near (stage b gap s) = padView near s := by
  simp [stage]

@[simp] theorem padView_formEvents (s : State) :
    padView near (formEvents s) = padView near s := by
  simp [formEvents]

@[simp] theorem padView_formGaps (s : State) :
    padView near (formGaps s) = padView near s := by
  simp [formGaps]

@[simp] theorem padView_pauseRing (s : State) :
    padView near (pauseRing s) = padView near s := by
  simp [pauseRing]

@[simp] theorem padView_sendFrame (s : State) :
    padView near (sendFrame s) = padView near s := by
  simp [sendFrame]

@[simp] theorem padView_closeWindow (s : State) :
    padView near (closeWindow s) = padView near s := by
  simp [closeWindow]

end Sys2Proof.Proofs
end

section
/-! What the FIRE pads depend on stays through the receiver, the survey, the contour units and calibration. -/

namespace Sys2Proof.Proofs

open Sys2Proof Sys2Proof.Machine Sys2Proof.Laws

variable {near : Bool}

@[simp] theorem padView_datumCopy (ch tap : Nat) (a : Arm) (s : State) :
    padView near (datumCopy ch tap a s) = padView near s := by
  unfold datumCopy
  split <;> simp

@[simp] theorem padView_convert (ch tap : Nat) (s : State) :
    padView near (convert ch tap s) = padView near s := by
  simp only [convert]
  split <;> simp

@[simp] theorem padView_noteEvent (ch : Nat) (s : State) :
    padView near (noteEvent ch s) = padView near s := by
  simp [noteEvent]

@[simp] theorem padView_overloadEntry (ch : Nat) (s : State) :
    padView near (overloadEntry ch s) = padView near s := by
  simp [overloadEntry]

@[simp] theorem padView_firing (ch : Nat) (fired : List (Nat × Nat)) (tap : Nat) (s : State) :
    padView near (firing ch fired tap s) = padView near s := by
  simp [firing]

@[simp] theorem padView_windowEnd (ch : Nat) (s : State) :
    padView near (windowEnd ch s) = padView near s := by
  simp only [windowEnd]
  split <;> simp

/-! ## Schedule -/

@[simp] theorem padView_modSeq {f : Seq → Seq} {s : State} (h : (f s.seq).period = s.seq.period) :
    padView near (modSeq f s) = padView near s := by
  simp [modSeq, h]

@[simp] theorem padView_resumeFiring (p : Nat) (s : State) : padView near (resumeFiring p s) = padView near s := by
  unfold resumeFiring
  extract_lets q s₁
  have h₁ : padView near s₁ = padView near s := padView_modSeq rfl
  split
  · exact (padView_modSeq rfl).trans h₁
  · exact h₁

@[simp] theorem padView_skipTest (s : State) (e : Nat) :
    padView near (skipTest s e) = padView near s := by
  simp [skipTest]

@[simp] theorem padView_closeGap (s : State) :
    padView near (closeGap s) = padView near s := by
  simp [closeGap]

@[simp] theorem padView_pointDue (c β : Nat) (s : State) :
    padView near (pointDue c β s) = padView near s := by
  simp [pointDue]

@[simp] theorem padView_sendMarker (kind c β planned openTime : Nat) (s : State) :
    padView near (sendMarker kind c β planned openTime s) = padView near s := by
  simp [sendMarker]

@[simp] theorem padView_unlitBank (β start : Nat) (s : State) (b : Nat) :
    padView near (unlitBank β start s b) = padView near s := by
  simp [unlitBank]

@[simp] theorem padView_armChan (x : Shot) (c : Nat) (s : State) :
    padView near (armChan x c s) = padView near s := by
  simp [armChan]

@[simp] theorem padView_walkShots (b n : Nat) (s : State) :
    padView near (walkShots b n s) = padView near s := by
  unfold walkShots
  split <;> simp

@[simp] theorem padView_openPoints (x : Shot) (s : State) :
    padView near (openPoints x s) = padView near s := by
  simp [openPoints]

@[simp] theorem padView_advanceDither (l : List Shot) (s : State) :
    padView near (advanceDither l s) = padView near s := by
  simp [advanceDither]

@[simp] theorem padView_noteClose (cause taken x : Nat) (s : State) :
    padView near (noteClose cause taken x s) = padView near s := by
  simp [noteClose]

@[simp] theorem padView_closePoint (cause taken c β : Nat) (s : State) :
    padView near (closePoint cause taken c β s) = padView near s := by
  simp [closePoint]

@[simp] theorem padView_closeRunning (cause c : Nat) (s : State) :
    padView near (closeRunning cause c s) = padView near s := by
  simp only [closeRunning]
  (repeat' split) <;> simp

@[simp] theorem padView_closeBank (cause : Nat) (s : State) (b : Nat) :
    padView near (closeBank cause s b) = padView near s := by
  simp [closeBank]

@[simp] theorem padView_closePending (s : State) :
    padView near (closePending s) = padView near s := by
  unfold closePending
  split <;> simp

/-! ## Survey and its contexts -/

@[simp] theorem padView_modSurvey (f : Survey → Survey) (s : State) :
    padView near (modSurvey f s) = padView near s := by
  simp [modSurvey]

@[simp] theorem padView_post (c β : Nat) (parity : Bool) (l : List Peak) (s : State) :
    padView near (post c β parity l s) = padView near s := by
  simp [post]

@[simp] theorem padView_queueWork (e : Nat) (x : Option Nat) (head : Ctx) (s : State) :
    padView near (queueWork e x head s) = padView near s := by
  simp [queueWork]

@[simp] theorem padView_pointGone (c β : Nat) (parity : Bool) (s : State) :
    padView near (pointGone c β parity s) = padView near s := by
  simp [pointGone]

@[simp] theorem padView_freeExtra (v : Ctx) (s : State) :
    padView near (freeExtra v s) = padView near s := by
  unfold freeExtra
  split <;> simp

@[simp] theorem padView_discardCtx (x : Nat) (s : State) :
    padView near (discardCtx x s) = padView near s := by
  simp [discardCtx]

@[simp] theorem padView_applyMarker (e : Nat) (m : Marker) (s : State) :
    padView near (applyMarker e m s) = padView near s := by
  simp [applyMarker]

@[simp] theorem padView_grant {f : Nat → Item → State → State} (hf : ∀ c i u, padView near (f c i u) = padView near u)
    (e kind : Nat) (s : State) : padView near (grant e kind f s) = padView near s := by
  simp only [grant]
  split
  · split <;> simp [hf]
  · rfl

@[simp] theorem padView_placeExtra (x b from_ : Nat) (s : State) :
    padView near (placeExtra x b from_ s) = padView near s := by
  simp only [placeExtra]
  (repeat' split) <;> simp

@[simp] theorem padView_wantWindow (x q j : Nat) (s : State) :
    padView near (wantWindow x q j s) = padView near s := by
  simp only [wantWindow]
  (repeat' split) <;> simp

@[simp] theorem padView_extraUpdate (u x q e : Nat) (s : State) :
    padView near (extraUpdate u x q e s) = padView near s := by
  unfold extraUpdate
  split <;> simp

@[simp] theorem padView_applyEvent (x : Nat) (i : Item) (s : State) :
    padView near (applyEvent x i s) = padView near s := by
  simp only [applyEvent]
  split <;> simp

@[simp] theorem padView_applyDrop (e x : Nat) (i : Item) (s : State) :
    padView near (applyDrop e x i s) = padView near s := by
  simp [applyDrop]

@[simp] theorem padView_failEngine (e cause : Nat) (s : State) :
    padView near (failEngine e cause s) = padView near s := by
  simp [failEngine]

@[simp] theorem padView_storeError (x : Nat) (s : State) :
    padView near (storeError x s) = padView near s := by
  simp [storeError]

@[simp] theorem padView_engineTest (e : Nat) (passed : Bool) (s : State) :
    padView near (engineTest e passed s) = padView near s := by
  simp [engineTest]

@[simp] theorem padView_reassign (x : Nat) (s : State) :
    padView near (reassign x s) = padView near s := by
  simp [reassign]

@[simp] theorem padView_substitute (f e g : Nat) (s : State) :
    padView near (substitute f e g s) = padView near s := by
  simp [substitute]

@[simp] theorem padView_dropMarker (f : Nat) (m : Marker) (s : State) :
    padView near (dropMarker f m s) = padView near s := by
  simp [dropMarker]

@[simp] theorem padView_loseGroup (f g : Nat) (s : State) :
    padView near (loseGroup f g s) = padView near s := by
  simp [loseGroup]

@[simp] theorem padView_dumpMove (s : State) :
    padView near (dumpMove s) = padView near s := by
  unfold dumpMove
  split <;> simp

@[simp] theorem padView_selectDump (x : Nat) (s : State) :
    padView near (selectDump x s) = padView near s := by
  simp [selectDump]

@[simp] theorem padView_closeCtx (e x n : Nat) (i : Item) (ecc : Bool) (s : State) :
    padView near (closeCtx e x n i ecc s) = padView near s := by
  simp [closeCtx]

@[simp] theorem padView_copyDone (x : Nat) (s : State) :
    padView near (copyDone x s) = padView near s := by
  simp [copyDone]

/-! ## Contour units -/

@[simp] theorem padView_modContour (f : Contour → Contour) (s : State) :
    padView near (modContour f s) = padView near s := by
  simp [modContour]

@[simp] theorem padView_contourEccError (x : Nat) (pool : Bool) (s : State) :
    padView near (contourEccError x pool s) = padView near s := by
  simp [contourEccError]

@[simp] theorem padView_returnCtx (x : Nat) (s : State) :
    padView near (returnCtx x s) = padView near s := by
  simp [returnCtx]

@[simp] theorem padView_produce (unit : Nat) (v : Unit_) (w : Work) (s : State) :
    padView near (produce unit v w s) = padView near s := by
  unfold produce
  split <;> simp

@[simp] theorem padView_failUnit (unit how : Nat) (s : State) :
    padView near (failUnit unit how s) = padView near s := by
  simp only [failUnit]
  split <;> simp

@[simp] theorem padView_release (o : SheetOut) (g β : Nat) (s : State) :
    padView near (release o g β s) = padView near s := by
  simp [release]

@[simp] theorem padView_keepForRecorder (o : SheetOut) (s : State) :
    padView near (keepForRecorder o s) = padView near s := by
  simp [keepForRecorder]

@[simp] theorem padView_trail (o : SheetOut) (s : State) :
    padView near (trail o s) = padView near s := by
  simp [trail]

/-! ## Calibration -/

@[simp] theorem padView_modCalib (f : Calib → Calib) (s : State) :
    padView near (modCalib f s) = padView near s := by
  simp [modCalib]

@[simp] theorem padView_setRun (r : Run) (s : State) :
    padView near (setRun r s) = padView near s := by
  simp [setRun]

@[simp] theorem padView_endRun (result : Nat) (s : State) :
    padView near (endRun result s) = padView near s := by
  simp [endRun]

@[simp] theorem padView_rejectRun (result : Nat) (s : State) :
    padView near (rejectRun result s) = padView near s := by
  simp [rejectRun]

@[simp] theorem padView_adoptRun (s : State) :
    padView near (adoptRun s) = padView near s := by
  unfold adoptRun
  split <;> simp

@[simp] theorem padView_calWriteFailed (s : State) :
    padView near (calWriteFailed s) = padView near s := by
  simp [calWriteFailed]

@[simp] theorem padView_processRun (norOk : Bool) (r : Run) (s : State) :
    padView near (processRun norOk r s) = padView near s := by
  simp [processRun]

@[simp] theorem padView_coreSegment (length hitTaps : Nat) (hits : List (Nat × List Nat))
    (firings : List (Nat × List (List (Nat × Nat)))) (r : Run) (s : State) :
    padView near (coreSegment length hitTaps hits firings r s) = padView near s := padView_setRun ..

@[simp] theorem padView_startRun (kind : Nat) (judged : Bool) (s : State) :
    padView near (startRun kind judged s) = padView near s := by
  simp [startRun]

@[simp] theorem padView_runBoundary (m : Nat) (r : Run) (s : State) :
    padView near (runBoundary m r s) = padView near s := by
  simp [runBoundary]

@[simp] theorem padView_runStarts (m old : Nat) (s : State) :
    padView near (runStarts m old s) = padView near s := by
  simp only [runStarts]
  (repeat' split) <;> simp

@[simp] theorem padView_noteYield (s : State) :
    padView near (noteYield s) = padView near s := by
  unfold noteYield
  split <;> simp

@[simp] theorem padView_calibRuns (m old : Nat) (s : State) :
    padView near (calibRuns m old s) = padView near s := by
  unfold calibRuns
  split <;> simp

@[simp] theorem padView_formDerived (m : Nat) (s : State) :
    padView near (formDerived m s) = padView near s := by
  unfold formDerived
  split <;> simp

@[simp] theorem padView_applySet (parity : Bool) (s : State) :
    padView near (applySet parity s) = padView near s := by
  unfold applySet
  split <;> simp

/-! ## Auxiliary inputs and near distance -/

@[simp] theorem padView_modAux (f : Aux → Aux) (s : State) :
    padView near (modAux f s) = padView near s := by
  simp [modAux]

@[simp] theorem padView_beginConv (at_ : Nat) (c : Conv) (s : State) :
    padView near (beginConv at_ c s) = padView near s := by
  simp [beginConv]

@[simp] theorem padView_startNext (at_ : Nat) (s : State) :
    padView near (startNext at_ s) = padView near s := by
  simp only [startNext]
  (repeat' split) <;> simp

@[simp] theorem padView_pairOne (a : Nat) (s : State) :
    padView near (pairOne a s) = padView near s := by
  simp only [pairOne]
  split <;> simp

@[simp] theorem padView_pairsAfter (n : Nat) (s : State) :
    padView near (pairsAfter n s) = padView near s := by
  simp [pairsAfter]

@[simp] theorem padView_judgeReadback (x : Int) (s : State) :
    padView near (judgeReadback x s) = padView near s := by
  simp [judgeReadback]

@[simp] theorem padView_judgePaths (first : Nat) (x : Int) (s : State) :
    padView near (judgePaths first x s) = padView near s := by
  simp [judgePaths]

@[simp] theorem padView_biasSample (c : Conv) (x : Int) (s : State) :
    padView near (biasSample c x s) = padView near s := by
  simp only [biasSample]
  (repeat' split) <;> simp

@[simp] theorem padView_storeSample (c : Conv) (x0 : Int) (ov : Bool) (s : State) :
    padView near (storeSample c x0 ov s) = padView near s := by
  simp [storeSample]

@[simp] theorem padView_referenceCheck (x : Int) (s : State) :
    padView near (referenceCheck x s) = padView near s := by
  simp [referenceCheck]

@[simp] theorem padView_sampleDone (c : Conv) (x : Int) (ov : Bool) (s : State) :
    padView near (sampleDone c x ov s) = padView near s := by
  simp [sampleDone]

@[simp] theorem padView_convDone (c : Conv) (x : Int) (ov : Bool) (s : State) :
    padView near (convDone c x ov s) = padView near s := by
  simp [convDone]

@[simp] theorem padView_modNear (f : NearDist → NearDist) (s : State) :
    padView near (modNear f s) = padView near s := by
  simp [modNear]

@[simp] theorem padView_valueReady (o : SheetOut) (s : State) :
    padView near (valueReady o s) = padView near s := by
  unfold valueReady
  split <;> simp

end Sys2Proof.Proofs
end

section
/-! What the FIRE pads depend on stays through incidents, the image, the boundary's quiet part and the sessions. -/

namespace Sys2Proof.Proofs

open Sys2Proof Sys2Proof.Machine Sys2Proof.Laws

variable {near : Bool}

@[simp] theorem padView_mountTable (p : NandPart) (second : Option NandPart) (s : State) :
    padView near (mountTable p second s) = padView near s := by
  unfold mountTable
  split <;> simp

@[simp] theorem padView_mountJournal (s : State) : padView near (mountJournal s) = padView near s := by
  unfold mountJournal
  extract_lets
  split
  · exact padView_modRec ..
  · exact (padView_modRec ..).trans (padView_modRec ..)

@[simp] theorem padView_mountHours (s : State) :
    padView near (mountHours s) = padView near s := by
  simp [mountHours]

@[simp] theorem padView_mountBlock (m : MountInput) (highest b : Nat) (s : State) :
    padView near (mountBlock m highest b s) = padView near s := by
  unfold mountBlock
  split <;> simp

@[simp] theorem padView_trySign (b seq : Nat) (sk : Option (List Byte)) (undo : Block → Block) (n : Nat)
    (x : List PageResult × State) : padView near (trySign b seq sk undo n x).2 = padView near x.2 := by
  induction n generalizing x with
  | zero => simp [trySign]
  | succ n ih =>
    simp only [trySign]
    split
    · simp
    · split <;> simp [ih]

@[simp] theorem padView_mountClosure (m : MountInput) (b : Nat) (x : List PageResult × State) :
    padView near (mountClosure m b x).2 = padView near x.2 := by
  simp [mountClosure]

@[simp] theorem padView_claim (s : State) (i : Incident) :
    padView near (claim s i) = padView near s := by
  simp [claim]

@[simp] theorem padView_mountOpen (n : Nat) (x : List PageResult × State) :
    padView near (mountOpen n x).2 = padView near x.2 := by
  induction n generalizing x with
  | zero => simp [mountOpen]
  | succ n ih =>
    simp only [mountOpen]
    split
    · rfl
    · split <;> simp [ih]

@[simp] theorem padView_ownSegment (i : Incident) (seq : Nat) (x : List PageResult × State) :
    padView near (ownSegment i seq x).2 = padView near x.2 := by
  simp only [ownSegment]
  split <;> simp

@[simp] theorem padView_closeIncident (i : Incident) (last : Option (Nat × Nat)) (x : List PageResult × State) :
    padView near (closeIncident i last x).2 = padView near x.2 := by
  simp only [closeIncident]
  (repeat' split) <;> simp

@[simp] theorem padView_rollForward (x : List PageResult × State) (i : Incident) :
    padView near (rollForward x i).2 = padView near x.2 := by
  simp only [rollForward]
  (repeat' split) <;> simp

@[simp] theorem padView_mountRing (s : State) :
    padView near (mountRing s) = padView near s := by
  simp [mountRing]

@[simp] theorem padView_mountScan (m : MountInput) (s : State) : padView near (mountScan m s) = padView near s := by
  unfold mountScan
  extract_lets highest t segs t₁ t₂ x t₃
  have h₃ : padView near t₃ = padView near s := by
    simp [t₃, x, t₂, t₁, t]
  rw [padView_mountRing, ← h₃]
  exact padView_foldl_snd padView_rollForward _ (x.1, t₃)

@[simp] theorem padView_mountOn (m : MountInput) (p : NandPart) (second : Option NandPart) (s : State) :
    padView near (mountOn m p second s) = padView near s := by
  simp [mountOn]

@[simp] theorem padView_makeRoom (n : Nat) (s : State) : padView near (makeRoom n s).2 = padView near s := by
  induction n generalizing s with
  | zero => simp [makeRoom]
  | succ n ih =>
    simp only [makeRoom]
    split
    · rfl
    · split <;> simp [ih]

@[simp] theorem padView_refuseTrigger (cause : Nat) (s : State) :
    padView near (refuseTrigger cause s) = padView near s := by
  simp [refuseTrigger]

@[simp] theorem padView_openIncident (cause at_ local_ : Nat) (time : Int) (s : State) :
    padView near (openIncident cause at_ local_ time s) = padView near s := by
  simp [openIncident]

@[simp] theorem padView_joinIncident (n end_ at_ : Nat) (joined : Bool) (s : State) :
    padView near (joinIncident n end_ at_ joined s) = padView near s := by
  simp only [joinIncident]
  split <;> simp

@[simp] theorem padView_actTrigger (cause at_ local_ : Nat) (time : Int) (s : State) :
    padView near (actTrigger cause at_ local_ time s) = padView near s := by
  have hr (u : State) := padView_makeRoom (near := near) 32 u
  simp only [actTrigger]
  split
  · simp
  · split
    · simp
    · have h := hr (count .triggers 1 s)
      split <;> simp_all

@[simp] theorem padView_norApply (o : NorOp) (s : State) :
    padView near (norApply o s) = padView near s := by
  simp [norApply]

@[simp] theorem padView_indexDone (j : NorJob) (s : State) :
    padView near (indexDone j s) = padView near s := by
  unfold indexDone
  split <;> simp

@[simp] theorem padView_finishIndex (s : State) :
    padView near (finishIndex s) = padView near s := by
  simp [finishIndex]

@[simp] theorem padView_dropSegJob (s : State) :
    padView near (dropSegJob s) = padView near s := by
  simp [dropSegJob]

@[simp] theorem padView_noteSampled (n β : Nat) (s : State) :
    padView near (noteSampled n β s) = padView near s := by
  simp [noteSampled]

@[simp] theorem padView_formSheet (o : SheetOut) (s : State) :
    padView near (formSheet o s) = padView near s := by
  simp [formSheet]

@[simp] theorem padView_formSheets (l : List SheetOut) (s : State) : padView near (formSheets l s) = padView near s := by
  induction l with
  | nil => rfl
  | cons o l ih =>
    simp only [formSheets]
    split <;> simp [ih]

@[simp] theorem padView_formBlock (s : State) :
    padView near (formBlock s) = padView near s := by
  unfold formBlock
  split <;> simp

@[simp] theorem padView_copyProgrammed (x : Scrub) (p : PageResult) (s : State) :
    padView near (copyProgrammed x p s) = padView near s := by
  simp [copyProgrammed]

@[simp] theorem padView_blockErased (b : Nat) (ended : EraseResult) (s : State) :
    padView near (blockErased b ended s) = padView near s := by
  simp [blockErased]

@[simp] theorem padView_stopReadout (s : State) :
    padView near (stopReadout s) = padView near s := by
  simp [stopReadout]

@[simp] theorem padView_readoutGo (s : State) :
    padView near (readoutGo s) = padView near s := by
  unfold readoutGo
  split <;> simp

@[simp] theorem padView_readoutPage (b : Nat) (bad : Bool) (s : State) :
    padView near (readoutPage b bad s) = padView near s := by
  simp only [readoutPage]
  (repeat' split) <;> simp

@[simp] theorem padView_copyRead (x : Scrub) (l : List Nat) (s : State) :
    padView near (copyRead x l s) = padView near s := by
  simp [copyRead]

@[simp] theorem padView_pageRead (b page : Nat) (l : List Nat) (s : State) :
    padView near (pageRead b page l s) = padView near s := by
  simp [pageRead]

@[simp] theorem padView_scrubbed (b c : Nat) (s : State) :
    padView near (scrubbed b c s) = padView near s := by
  simp [scrubbed]

@[simp] theorem padView_copyChecked (x : Scrub) (l : List Nat) (s : State) :
    padView near (copyChecked x l s) = padView near s := by
  simp [copyChecked]

@[simp] theorem padView_hoursWrite (s : State) :
    padView near (hoursWrite s) = padView near s := by
  simp [hoursWrite]

@[simp] theorem padView_lifeFigures (s : State) :
    padView near (lifeFigures s) = padView near s := by
  simp [lifeFigures]

@[simp] theorem padView_ageScrubs (s : State) :
    padView near (ageScrubs s) = padView near s := by
  simp [ageScrubs]

@[simp] theorem padView_onReadout {f : Nat → Nat → Nat → State → State}
    (hf : ∀ a b c u, padView near (f a b c u) = padView near u) (op : Nat) (codes : List Nat) (rd : Bool) (s : State) :
    padView near (onReadout op codes rd f s) = padView near s := by
  simp [onReadout, hf]

@[simp] theorem padView_readoutAnswer (echo result arg offset : Nat) (s : State) :
    padView near (readoutAnswer echo result arg offset s) = padView near s := by
  simp [readoutAnswer]

@[simp] theorem padView_readoutGate {f : State → State} (hf : ∀ u, padView near (f u) = padView near u) (echo arg offset : Nat)
    (s : State) : padView near (readoutGate echo arg offset f s) = padView near s := by
  simp [readoutGate, hf]

@[simp] theorem padView_snapshotOut (whole : Bool) (s : State) :
    padView near (snapshotOut whole s) = padView near s := by
  simp only [snapshotOut]
  (repeat' split) <;> simp

@[simp] theorem padView_skipDump (channel : Nat) (s : State) :
    padView near (skipDump channel s) = padView near s := by
  unfold skipDump
  split <;> simp

@[simp] theorem padView_skipPacket (channel : Nat) (s : State) :
    padView near (skipPacket channel s) = padView near s := by
  simp only [skipPacket]
  (repeat' split) <;> simp

@[simp] theorem padView_abandonUse (channel : Nat) (nandFailed : Bool) (s : State) :
    padView near (abandonUse channel nandFailed s) = padView near s := by
  simp only [abandonUse]
  (repeat' split) <;> simp

@[simp] theorem padView_norDone (j : NorJob) (s : State) :
    padView near (norDone j s) = padView near s := by
  unfold norDone
  split <;> simp

@[simp] theorem padView_norFailed (o : NorOp) (s : State) :
    padView near (norFailed o s) = padView near s := by
  unfold norFailed
  split <;> simp

@[simp] theorem padView_afterSend (p : Pkt) (s : State) :
    padView near (afterSend p s) = padView near s := by
  unfold afterSend
  split <;> simp

/-! ## Image and requests -/

@[simp] theorem padView_burnFuses (h : List Byte) (s : State) :
    padView near (burnFuses h s) = padView near s := by
  simp [burnFuses]

@[simp] theorem padView_loadSeeds (n : Nat) (s : State) :
    padView near (loadSeeds n s) = padView near s := by
  simp [loadSeeds]

@[simp] theorem padView_startCounter (suits written : Bool) (s : State) :
    padView near (startCounter suits written s) = padView near s := by
  simp [startCounter]

@[simp] theorem padView_calForce (slot : Nat) (k : CalSet) (s : State) :
    padView near (calForce slot k s) = padView near s := by
  simp [calForce]

@[simp] theorem padView_calRead (s : State) :
    padView near (calRead s) = padView near s := by
  unfold calRead
  split <;> simp

@[simp] theorem padView_loadFailed (f : LoadFail) (s : State) :
    padView near (loadFailed f s) = padView near s := by
  simp [loadFailed]

@[simp] theorem padView_escrowPair (s : State) :
    padView near (escrowPair s) = padView near s := by
  simp only [escrowPair]
  (repeat' split) <;> simp

@[simp] theorem padView_loadUnits (l : Legend) (s : State) :
    padView near (loadUnits l s) = padView near s := by
  simp [loadUnits]

@[simp] theorem padView_latchRequest (r : Request) (s : State) :
    padView near (latchRequest r s) = padView near s := by
  unfold latchRequest
  split <;> simp

@[simp] theorem padView_ackSampled (c : Choice) (s : State) :
    padView near (ackSampled c s) = padView near s := by
  unfold ackSampled
  split <;> simp

@[simp] theorem padView_noteMode (old : Nat) (c : Choice) (s : State) :
    padView near (noteMode old c s) = padView near s := by
  simp [noteMode]

@[simp] theorem padView_firstLock (band control : Nat) (s : State) :
    padView near (firstLock band control s) = padView near s := by
  simp [firstLock]

@[simp] theorem padView_timeEcho (t1 t2 result : Nat) (s : State) :
    padView near (timeEcho t1 t2 result s) = padView near s := by
  simp [timeEcho]

@[simp] theorem padView_timeSyncBody (n : Nat) (body : List Byte) (s : State) :
    padView near (timeSyncBody n body s) = padView near s := by
  simp [timeSyncBody]

@[simp] theorem padView_applyStep (s : State) :
    padView near (applyStep s) = padView near s := by
  unfold applyStep
  split <;> simp

@[simp] theorem padView_railsSeen (levels : List Nat) (s : State) :
    padView near (railsSeen levels s) = padView near s := by
  simp [railsSeen]

/-! ## Temperature and the sheet boundary -/

@[simp] theorem padView_modThermal (f : Thermal → Thermal) (s : State) :
    padView near (modThermal f s) = padView near s := by
  simp [modThermal]

@[simp] theorem padView_noteFaults (l : List Nat) (s : State) :
    padView near (noteFaults l s) = padView near s := by
  simp [noteFaults]

@[simp] theorem padView_runTemp (s : State) :
    padView near (runTemp s) = padView near s := by
  unfold runTemp
  split <;> simp

@[simp] theorem padView_coastChange (s : State) :
    padView near (coastChange s) = padView near s := by
  simp [coastChange]

@[simp] theorem padView_throttleStep (s : State) :
    padView near (throttleStep s) = padView near s := by
  simp [throttleStep]

@[simp] theorem padView_formSheetState (s : State) : padView near (formSheetState s) = padView near s := by
  have hp (p : Bool) (v : SheetState) (q : Seq) : (setReg p v q).period = q.period := by cases p <;> rfl
  unfold formSheetState
  extract_lets m lim cap l t
  have ht : padView near t = padView near s := padView_foldl (fun u b => padView_modBank ..) _ _
  rw [← ht]
  exact padView_with (t := t) (hp := hp _ _ _) (ha := rfl) (hb := rfl) ..

@[simp] theorem padView_noteStale (s : State) (x : Nat) :
    padView near (noteStale s x) = padView near s := by
  simp [noteStale]

@[simp] theorem padView_staleBuffers (p : Bool) (s : State) :
    padView near (staleBuffers p s) = padView near s := by
  simp [staleBuffers]

@[simp] theorem padView_staleMarkers (p : Bool) (s : State) :
    padView near (staleMarkers p s) = padView near s := by
  simp [staleMarkers]

@[simp] theorem padView_staleContexts (p : Bool) (s : State) :
    padView near (staleContexts p s) = padView near s := by
  simp [staleContexts]

@[simp] theorem padView_dropWork (s : State) (w : Work) :
    padView near (dropWork s w) = padView near s := by
  unfold dropWork
  split <;> simp

@[simp] theorem padView_staleWork (p : Bool) (s : State) :
    padView near (staleWork p s) = padView near s := by
  simp [staleWork]

@[simp] theorem padView_staleRecords (p : Bool) (s : State) :
    padView near (staleRecords p s) = padView near s := by
  simp [staleRecords]

@[simp] theorem padView_discardStale (p : Bool) (s : State) :
    padView near (discardStale p s) = padView near s := by
  simp [discardStale]

@[simp] theorem padView_endEngines (s : State) :
    padView near (endEngines s) = padView near s := by
  simp [endEngines]

@[simp] theorem padView_endSheet (s : State) : padView near (endSheet s) = padView near s := by
  simp only [endSheet, padView_endEngines, padView_ite, padView_modContour]
  rw [padView_modSide rfl, padView_modSide rfl, padView_modSide rfl, padView_modSide rfl]
  simp

@[simp] theorem padView_newGap (s : State) :
    padView near (newGap s) = padView near s := by
  simp [newGap]

@[simp] theorem padView_exchangeBuffers (s : State) : padView near (exchangeBuffers s) = padView near s :=
  padView_modSeq (by split <;> rfl)

@[simp] theorem padView_openSheet (s : State) :
    padView near (openSheet s) = padView near s := by
  simp [openSheet]

@[simp] theorem padView_linkAtBoundary (old : Nat) (s : State) :
    padView near (linkAtBoundary old s) = padView near s := by
  simp [linkAtBoundary]

@[simp] theorem padView_startClkOut (s : State) :
    padView near (startClkOut s) = padView near s := by
  simp [startClkOut]

@[simp] theorem padView_recorderAtBoundary (old : Nat) (s : State) :
    padView near (recorderAtBoundary old s) = padView near s := by
  simp [recorderAtBoundary]

@[simp] theorem padView_banksAtBoundary (s : State) :
    padView near (banksAtBoundary s) = padView near s := by
  simp [banksAtBoundary]

@[simp] theorem padView_biasAtBoundary (first : Bool) (old : Nat) (s : State) :
    padView near (biasAtBoundary first old s) = padView near s := by
  simp [biasAtBoundary]

/-! ## Sessions -/

@[simp] theorem padView_modSec (f : Security → Security) (s : State) :
    padView near (modSec f s) = padView near s := by
  simp [modSec]

@[simp] theorem padView_refuseSession (reason : Nat) (s : State) :
    padView near (refuseSession reason s) = padView near s := by
  simp [refuseSession]

@[simp] theorem padView_deviceHello (body : List Byte) (s : State) :
    padView near (deviceHello body s) = padView near s := by
  simp [deviceHello]

@[simp] theorem padView_hostHello (body : List Byte) (s : State) :
    padView near (hostHello body s) = padView near s := by
  unfold hostHello
  split <;> simp

@[simp] theorem padView_establish (h : Hello) (z : Nat) (s : State) :
    padView near (establish h z s) = padView near s := by
  simp [establish]

@[simp] theorem padView_hostFinish (body : List Byte) (s : State) :
    padView near (hostFinish body s) = padView near s := by
  simp only [hostFinish]
  (repeat' split) <;> simp

@[simp] theorem padView_closeSession (s : State) :
    padView near (closeSession s) = padView near s := by
  simp [closeSession]
  exact padView_foldl (fun u p => by split <;> simp) _ _

@[simp] theorem padView_statusRefused (w0 result : Nat) (s : State) :
    padView near (statusRefused w0 result s) = padView near s := by
  simp [statusRefused]

@[simp] theorem padView_statusQuery (body : List Byte) (s : State) :
    padView near (statusQuery body s) = padView near s := by
  simp [statusQuery]

@[simp] theorem padView_logWrite (e : Nat × Nat) (r : List (Nat × Nat)) (s : State) :
    padView near (logWrite e r s) = padView near s := by
  simp [logWrite]

end Sys2Proof.Proofs
end

section
/-! Commands that drive nothing: the pulses at the pads stay. -/

namespace Sys2Proof.Proofs

open Sys2Proof Sys2Proof.Machine Sys2Proof.Laws

variable {near : Bool}

/-- Where the command completes, the pulses at the pads are those before it. -/
def KeepsPads (s : State) (o : Out) : Prop := ∀ t, o = .next t → t.pulses = s.pulses

theorem keepsPads_next {s t : State} {dt : Nat} (h : padView true t = padView true (advance dt s)) : KeepsPads s (.next t) := by
  rintro _ ⟨⟩
  exact (congrArg PadView.pulses h).trans (advance_pulses dt s)

theorem keepsPads_need {s t : State} {dt : Nat} {c : Bool} (h : padView true t = padView true (advance dt s)) :
    KeepsPads s (need c t) := by
  unfold need
  split
  · exact keepsPads_next h
  · rintro _ ⟨⟩

theorem keepsPads_execUpstreamStage (dt : Nat) (seen : StageInput) (s : State) :
    KeepsPads s (execUpstreamStage dt seen s) :=
  keepsPads_next (dt := dt) (by simp)

theorem keepsPads_execUpstreamStageTimeout (dt : Nat) (s : State) :
    KeepsPads s (execUpstreamStageTimeout dt s) :=
  keepsPads_next (dt := dt) (by simp)

theorem keepsPads_execSymbolLockLoss (run : CodeRun) (s : State) :
    KeepsPads s (execSymbolLockLoss run s) :=
  keepsPads_next (dt := run.dt) (by simp)

theorem keepsPads_execLossOfSignal (seen : SignalDetect) (s : State) :
    KeepsPads s (execLossOfSignal seen s) :=
  keepsPads_next (dt := seen.dt) (by simp)

theorem keepsPads_execUpstreamSleep (dt slpSets : Nat) (s : State) :
    KeepsPads s (execUpstreamSleep dt slpSets s) :=
  keepsPads_next (dt := dt) (by simp)

theorem keepsPads_execUts (dt : Nat) (st : Byte) (s : State) : KeepsPads s (execUts dt st s) :=
  keepsPads_next (dt := dt) (padView_when_ (fun u => by simp only []; split <;> simp) ..)

theorem keepsPads_execTrainingTimeout (dt : Nat) (s : State) :
    KeepsPads s (execTrainingTimeout dt s) :=
  keepsPads_next (dt := dt) (by simp)

theorem keepsPads_execWidthRise (dt : Nat) (s : State) :
    KeepsPads s (execWidthRise dt s) :=
  keepsPads_next (dt := dt) (by split <;> simp)

theorem keepsPads_execLinkDown (dt : Nat) (s : State) :
    KeepsPads s (execLinkDown dt s) :=
  keepsPads_next (dt := dt) (by simp)

theorem keepsPads_execDownstreamSleep (dt : Nat) (s : State) :
    KeepsPads s (execDownstreamSleep dt s) :=
  keepsPads_next (dt := dt) (by simp)

theorem keepsPads_execAlignmentMarker (dt : Nat) (s : State) :
    KeepsPads s (execAlignmentMarker dt s) :=
  keepsPads_next (dt := dt) (by simp)

theorem keepsPads_execLaneTestStart (dt : Nat) (s : State) :
    KeepsPads s (execLaneTestStart dt s) :=
  keepsPads_next (dt := dt) (by simp)

theorem keepsPads_execLaneTestEnd (dt : Nat) (errors : List (Nat × Nat)) (s : State) :
    KeepsPads s (execLaneTestEnd dt errors s) :=
  keepsPads_need (dt := dt) (by simp)

theorem keepsPads_execCheckerSync (dt : Nat) (seen : LaneBits) (s : State) :
    KeepsPads s (execCheckerSync dt seen s) :=
  keepsPads_need (dt := dt) (by simp)

theorem keepsPads_execCheckerSyncLoss (dt lane errors : Nat) (wrong : List Nat) (s : State) :
    KeepsPads s (execCheckerSyncLoss dt lane errors wrong s) :=
  keepsPads_need (dt := dt) (by simp)

theorem keepsPads_execUpstreamPacketDiscard (dt : Nat) (codes : List Nat) (rd : Bool) (s : State) :
    KeepsPads s (execUpstreamPacketDiscard dt codes rd s) := by
  have hr (u : State) := padView_receive (near := true) (rxBytes u codes rd) (rxViol u codes rd) u
  refine keepsPads_next (dt := dt) ?_
  have h := hr (advance dt s)
  split <;> simp_all

theorem keepsPads_execTorqueRemoval (dt : Nat) (d : Side) (s : State) :
    KeepsPads s (execTorqueRemoval dt d s) :=
  keepsPads_next (dt := dt) (by simp)

theorem keepsPads_execStandstill (dt : Nat) (d : Side) (s : State) : KeepsPads s (execStandstill dt d s) := by
  refine keepsPads_next (dt := dt) ((padView_watchSafety ..).trans ?_)
  simp only []
  split
  · rfl
  · split
    · exact (padView_bothAtRest _).trans (padView_modSide rfl)
    · rfl

theorem keepsPads_execSoutTestPulse (dt : Nat) (d : Side) (s : State) : KeepsPads s (execSoutTestPulse dt d s) :=
  keepsPads_next (dt := dt) (padView_when_ (fun _ => padView_modSide (by simp only []; split <;> rfl)) ..)

theorem keepsPads_execSoutTestPulseEnd (dt : Nat) (d : Side) (s : State) : KeepsPads s (execSoutTestPulseEnd dt d s) :=
  keepsPads_next (dt := dt) (padView_when_ (fun _ => padView_modSide rfl) ..)

theorem keepsPads_execSyncInEdge (dt : Nat) (rising : Bool) (s : State) :
    KeepsPads s (execSyncInEdge dt rising s) :=
  keepsPads_next (dt := dt) (by simp)

theorem keepsPads_execBiasOvervoltage (dt : Nat) (s : State) :
    KeepsPads s (execBiasOvervoltage dt s) :=
  keepsPads_next (dt := dt) (by simp)

theorem keepsPads_execBiasReadback (dt : Nat) (s : State) :
    KeepsPads s (execBiasReadback dt s) :=
  keepsPads_next (dt := dt) (by simp)

theorem keepsPads_execUrgentRequest (dt : Nat) (supply : Bool) (s : State) :
    KeepsPads s (execUrgentRequest dt supply s) :=
  keepsPads_next (dt := dt) (by simp)

theorem keepsPads_execAmbientEvaluation (dt channel : Nat) (s : State) :
    KeepsPads s (execAmbientEvaluation dt channel s) :=
  keepsPads_need (dt := dt) (by simp)

theorem keepsPads_execTraverseFrame (dt : Nat) (s : State) :
    KeepsPads s (execTraverseFrame dt s) :=
  keepsPads_next (dt := dt) (by simp)

theorem keepsPads_execDiagnosticWindowClose (dt : Nat) (s : State) :
    KeepsPads s (execDiagnosticWindowClose dt s) :=
  keepsPads_next (dt := dt) (by simp)

theorem keepsPads_execCoincidenceEvent (dt channel : Nat) (fired : List (Nat × Nat)) (tap : Nat) (s : State) :
    KeepsPads s (execCoincidenceEvent dt channel fired tap s) :=
  keepsPads_need (dt := dt) (by simp)

theorem keepsPads_execRangeWindowEnd (dt channel : Nat) (s : State) :
    KeepsPads s (execRangeWindowEnd dt channel s) :=
  keepsPads_need (dt := dt) (by simp)

theorem keepsPads_execRecoveryEnd (dt channel : Nat) (s : State) :
    KeepsPads s (execRecoveryEnd dt channel s) :=
  keepsPads_need (dt := dt) (by
    simp only []
    split <;> simp)

theorem keepsPads_execHoldingRegisterFlush (dt channel : Nat) (s : State) :
    KeepsPads s (execHoldingRegisterFlush dt channel s) :=
  keepsPads_need (dt := dt) (by simp)

theorem keepsPads_execCloseCommand (dt : Nat) (s : State) :
    KeepsPads s (execCloseCommand dt s) :=
  keepsPads_next (dt := dt) (by simp)

theorem keepsPads_execMarkerApply (dt engine : Nat) (s : State) :
    KeepsPads s (execMarkerApply dt engine s) :=
  keepsPads_need (dt := dt) (by
    simp only []
    split <;> simp)

theorem keepsPads_execEventItem (dt : Nat) (reads : ItemReads) (s : State) :
    KeepsPads s (execEventItem dt reads s) :=
  keepsPads_need (dt := dt) (by simp)

theorem keepsPads_execDropItem (dt engine : Nat) (s : State) :
    KeepsPads s (execDropItem dt engine s) :=
  keepsPads_need (dt := dt) (by simp)

theorem keepsPads_execGrantTimeout (dt engine : Nat) (s : State) :
    KeepsPads s (execGrantTimeout dt engine s) :=
  keepsPads_need (dt := dt) (by simp)

theorem keepsPads_execEngineFailure (dt engine : Nat) (s : State) :
    KeepsPads s (execEngineFailure dt engine s) :=
  keepsPads_need (dt := dt) (by simp)

theorem keepsPads_execEngineSelfTest (dt engine : Nat) (ran passed : Bool) (s : State) :
    KeepsPads s (execEngineSelfTest dt engine ran passed s) :=
  keepsPads_need (dt := dt) (by simp)

theorem keepsPads_execSpareSubstitution (dt : Nat) (s : State) :
    KeepsPads s (execSpareSubstitution dt s) :=
  keepsPads_next (dt := dt) (by
    simp only []
    (repeat' split) <;> simp)

theorem keepsPads_execContextClose (dt engine : Nat) (reads : SliceReads) (s : State) :
    KeepsPads s (execContextClose dt engine reads s) :=
  keepsPads_need (dt := dt) (by simp)

theorem keepsPads_execDumpCopy (dt : Nat) (s : State) :
    KeepsPads s (execDumpCopy dt s) :=
  keepsPads_next (dt := dt) (by split <;> simp)

theorem padView_takeWork {w : Work} {s t : State} (h : takeWork s = some (w, t)) : padView near t = padView near s := by
  unfold takeWork at h
  split at h
  · cases h
    exact padView_modContour ..
  · split at h <;> cases h
    exact padView_modEngine ..

theorem keepsPads_execContourStart (dt unit : Nat) (reads : PointReads) (s : State) :
    KeepsPads s (execContourStart dt unit reads s) := by
  refine keepsPads_need (dt := dt) ?_
  simp only []
  split
  · rfl
  · split
    · rfl
    · next w u₀ hw =>
      rw [← padView_takeWork hw]
      (repeat' split) <;> simp

theorem keepsPads_execContourRecord (dt unit : Nat) (s : State) :
    KeepsPads s (execContourRecord dt unit s) :=
  keepsPads_need (dt := dt) (by
    simp only []
    split <;> simp)

theorem keepsPads_execContourWatchdog (dt unit : Nat) (s : State) :
    KeepsPads s (execContourWatchdog dt unit s) :=
  keepsPads_need (dt := dt) (by
    simp only []
    (repeat' split) <;> simp)

theorem keepsPads_execContourSelfTest (dt unit : Nat) (ran passed : Bool) (s : State) :
    KeepsPads s (execContourSelfTest dt unit ran passed s) :=
  keepsPads_need (dt := dt) (by simp)

theorem keepsPads_execPointPacketRelease (dt group : Nat) (s : State) :
    KeepsPads s (execPointPacketRelease dt group s) :=
  keepsPads_need (dt := dt) (by
    simp only []
    (repeat' split) <;> simp)

theorem keepsPads_execSheetTrailer (dt : Nat) (s : State) :
    KeepsPads s (execSheetTrailer dt s) :=
  keepsPads_next (dt := dt) (by split <;> simp)

theorem keepsPads_execSafeStopTrailer (dt : Nat) (s : State) :
    KeepsPads s (execSafeStopTrailer dt s) :=
  keepsPads_next (dt := dt) (by split <;> simp)

theorem keepsPads_execCalibrationProcessing (dt : Nat) (norOk : Bool) (s : State) :
    KeepsPads s (execCalibrationProcessing dt norOk s) :=
  keepsPads_next (dt := dt) (by split <;> simp)

theorem keepsPads_execCoreSegment (dt hitTaps : Nat) (hits : List (Nat × List Nat))
    (firings : List (Nat × List (List (Nat × Nat)))) (s : State) : KeepsPads s (execCoreSegment dt hitTaps hits firings s) := by
  refine keepsPads_next (dt := dt) ?_
  split
  · rfl
  · split
    · exact (padView_coreSegment ..).trans (padView_modChain ..)
    · rfl

theorem keepsPads_execDatumEdgePair (dt : Nat) (edges : Nat × Nat) (s : State) :
    KeepsPads s (execDatumEdgePair dt edges s) :=
  keepsPads_next (dt := dt) (by split <;> simp)

theorem keepsPads_execCalibrationAbandon (dt : Nat) (s : State) :
    KeepsPads s (execCalibrationAbandon dt s) :=
  keepsPads_next (dt := dt) (by split <;> simp)

theorem keepsPads_execAuxConversionDone (dt : Nat) (vin : Int) (vref : Nat) (overvoltage : Bool) (s : State) :
    KeepsPads s (execAuxConversionDone dt vin vref overvoltage s) :=
  keepsPads_next (dt := dt) (by split <;> simp)

theorem keepsPads_execNeardistValueReady (dt : Nat) (s : State) :
    KeepsPads s (execNeardistValueReady dt s) :=
  keepsPads_next (dt := dt) (by split <;> simp)

theorem keepsPads_execNeardistNoDataTimeout (dt : Nat) (s : State) :
    KeepsPads s (execNeardistNoDataTimeout dt s) :=
  keepsPads_next (dt := dt) (by simp)

theorem keepsPads_execRecorderMount (mount : MountInput) (ce0 ce1 : Option NandPart) (s : State) :
    KeepsPads s (execRecorderMount mount ce0 ce1 s) :=
  keepsPads_next (dt := mount.dt) (by split <;> simp)

theorem keepsPads_execNandResponseTimeout (dt : Nat) (s : State) :
    KeepsPads s (execNandResponseTimeout dt s) :=
  keepsPads_next (dt := dt) (by simp)

theorem keepsPads_execCrashTrigger (dt high low : Nat) (s : State) :
    KeepsPads s (execCrashTrigger dt high low s) :=
  keepsPads_next (dt := dt) (by simp)

theorem keepsPads_execIncidentTrigger (dt : Nat) (s : State) :
    KeepsPads s (execIncidentTrigger dt s) :=
  keepsPads_next (dt := dt) (by split <;> simp)

theorem keepsPads_execPostTriggerEnd (dt : Nat) (s : State) :
    KeepsPads s (execPostTriggerEnd dt s) :=
  keepsPads_next (dt := dt) (by split <;> simp)

theorem keepsPads_execCommitPhase1 (run : PageRun) (s : State) :
    KeepsPads s (execCommitPhase1 run s) :=
  keepsPads_next (dt := run.dt) (by simp)

theorem keepsPads_execCommitPhase2 (run : PageRun) (s : State) :
    KeepsPads s (execCommitPhase2 run s) :=
  keepsPads_next (dt := run.dt) (by simp)

theorem keepsPads_execSegmentClose (run : PageRun) (s : State) : KeepsPads s (execSegmentClose run s) := by
  refine keepsPads_next (dt := run.dt) (padView_when_ (fun u => ?_) ..)
  simp only []
  split <;> simp

theorem keepsPads_execBodyBlockForm (dt : Nat) (s : State) :
    KeepsPads s (execBodyBlockForm dt s) :=
  keepsPads_next (dt := dt) (by simp)

theorem keepsPads_execNandProgramDone (dt : Nat) (ok : Bool) (bitErrors : List Nat) (s : State) :
    KeepsPads s (execNandProgramDone dt ok bitErrors s) :=
  keepsPads_next (dt := dt) (by split <;> simp)

theorem keepsPads_execNandEraseDone (dt : Nat) (ended : EraseResult) (s : State) :
    KeepsPads s (execNandEraseDone dt ended s) :=
  keepsPads_next (dt := dt) (by split <;> simp)

theorem keepsPads_execNandReadDone (dt : Nat) (bitErrors : List Nat) (s : State) :
    KeepsPads s (execNandReadDone dt bitErrors s) :=
  keepsPads_next (dt := dt) (by
    (repeat' split) <;> simp)

theorem keepsPads_execScrub (dt : Nat) (readBack : List Nat) (s : State) :
    KeepsPads s (execScrub dt readBack s) :=
  keepsPads_next (dt := dt) (by split <;> simp)

theorem keepsPads_execPoweredHour (dt : Nat) (s : State) :
    KeepsPads s (execPoweredHour dt s) :=
  keepsPads_next (dt := dt) (by simp)

theorem keepsPads_execListIncidents (dt : Nat) (codes : List Nat) (rd : Bool) (s : State) :
    KeepsPads s (execListIncidents dt codes rd s) :=
  keepsPads_next (dt := dt) (by simp)

theorem keepsPads_execReadRecord (dt : Nat) (codes : List Nat) (rd : Bool) (s : State) :
    KeepsPads s (execReadRecord dt codes rd s) := by
  refine keepsPads_next (dt := dt) (padView_onReadout (fun a b c u => padView_readoutGate (fun u => ?_) ..) ..)
  split <;> simp

theorem keepsPads_execReleaseIncident (dt : Nat) (codes : List Nat) (rd : Bool) (s : State) :
    KeepsPads s (execReleaseIncident dt codes rd s) := by
  refine keepsPads_next (dt := dt) (padView_onReadout (fun a b c u => padView_readoutGate (fun u => ?_) ..) ..)
  split <;> simp

theorem keepsPads_execMark (dt : Nat) (codes : List Nat) (rd : Bool) (s : State) :
    KeepsPads s (execMark dt codes rd s) :=
  keepsPads_next (dt := dt) (by simp)

theorem keepsPads_execAbortRead (dt : Nat) (codes : List Nat) (rd : Bool) (s : State) :
    KeepsPads s (execAbortRead dt codes rd s) :=
  keepsPads_next (dt := dt) (by simp)

theorem keepsPads_execDescriptorComplete (dt channel : Nat) (s : State) :
    KeepsPads s (execDescriptorComplete dt channel s) :=
  keepsPads_need (dt := dt) (by simp)

theorem keepsPads_execChannelHalt (dt channel : Nat) (info : HaltInfo) (s : State) :
    KeepsPads s (execChannelHalt dt channel info s) :=
  keepsPads_need (dt := dt) (by simp)

theorem keepsPads_execPacketTransmit (dt : Nat) (s : State) :
    KeepsPads s (execPacketTransmit dt s) :=
  keepsPads_next (dt := dt) (by
    simp only []
    (repeat' split) <;> simp)

theorem keepsPads_execNorPageProgramDone (dt : Nat) (ok : Bool) (s : State) :
    KeepsPads s (execNorPageProgramDone dt ok s) :=
  keepsPads_next (dt := dt) (by split <;> simp)

theorem keepsPads_execNorSectorEraseDone (dt : Nat) (ok : Bool) (s : State) :
    KeepsPads s (execNorSectorEraseDone dt ok s) :=
  keepsPads_next (dt := dt) (by split <;> simp)

theorem keepsPads_execPowerOnReset (dt coreLowest : Nat) (s : State) :
    KeepsPads s (execPowerOnReset dt coreLowest s) :=
  keepsPads_next (dt := dt) (by
    simp only []
    (repeat' split) <;> simp [↓padView_with])

theorem keepsPads_execResetRelease (dt : Nat) (strapA strapB : Byte) (ref : RefEdges) (s : State) :
    KeepsPads s (execResetRelease dt strapA strapB ref s) :=
  keepsPads_next (dt := dt) (padView_when_ (fun u => by rfl) ..)

theorem keepsPads_execCrystalStartupDone (dt edges : Nat) (s : State) :
    KeepsPads s (execCrystalStartupDone dt edges s) :=
  keepsPads_next (dt := dt) (by split <;> simp)

theorem keepsPads_execReferenceDetectRetry (dt : Nat) (ref : RefEdges) (s : State) :
    KeepsPads s (execReferenceDetectRetry dt ref s) :=
  keepsPads_next (dt := dt) (by simp)

theorem keepsPads_execLockDeclared (dt : Nat) (band : BandSearch) (loop : LoopState) (s : State) :
    KeepsPads s (execLockDeclared dt band loop s) :=
  keepsPads_need (dt := dt) (by
    simp only []
    (repeat' split) <;> simp [↓padView_with])

theorem keepsPads_execReferenceLoss (dt : Nat) (s : State) :
    KeepsPads s (execReferenceLoss dt s) :=
  keepsPads_next (dt := dt) (by simp)

theorem keepsPads_execOutputsReturn (dt : Nat) (s : State) : KeepsPads s (execOutputsReturn dt s) := by
  refine keepsPads_next (dt := dt) ?_
  simp only []
  split
  · split
    · split
      · exact (padView_linkTransmitStart ..).trans rfl
      · rfl
    · rfl
  · rfl

theorem keepsPads_execLinkPllHoldExpiry (dt : Nat) (s : State) :
    KeepsPads s (execLinkPllHoldExpiry dt s) :=
  keepsPads_next (dt := dt) (by split <;> simp)

theorem keepsPads_execLocalCounterWrap (s : State) : KeepsPads s (execLocalCounterWrap s) := by
  rintro _ ⟨⟩
  cases h : s.grat.everLocked <;> simp [when_]

theorem keepsPads_execSyncStale (dt : Nat) (s : State) :
    KeepsPads s (execSyncStale dt s) :=
  keepsPads_next (dt := dt) (by simp)

theorem keepsPads_execTimeSync (dt : Nat) (codes : List Nat) (rd : Bool) (s : State) :
    KeepsPads s (execTimeSync dt codes rd s) :=
  keepsPads_next (dt := dt) (by simp)

theorem keepsPads_execDipEnd (dt : Nat) (s : State) :
    KeepsPads s (execDipEnd dt s) :=
  keepsPads_next (dt := dt) (by
    simp only []
    (repeat' split) <;> simp [↓padView_with])

theorem keepsPads_execDipHoldRelease (dt : Nat) (s : State) :
    KeepsPads s (execDipHoldRelease dt s) :=
  keepsPads_next (dt := dt) (by simp)

theorem keepsPads_execHostHello (dt : Nat) (codes : List Nat) (rd : Bool) (s : State) :
    KeepsPads s (execHostHello dt codes rd s) :=
  keepsPads_next (dt := dt) (by simp)

theorem keepsPads_execHostFinish (dt : Nat) (codes : List Nat) (rd : Bool) (s : State) :
    KeepsPads s (execHostFinish dt codes rd s) :=
  keepsPads_next (dt := dt) (by simp)

theorem keepsPads_execHostFinishTimeout (dt : Nat) (s : State) :
    KeepsPads s (execHostFinishTimeout dt s) :=
  keepsPads_next (dt := dt) (by split <;> simp)

theorem keepsPads_execHostClose (dt : Nat) (codes : List Nat) (rd : Bool) (s : State) :
    KeepsPads s (execHostClose dt codes rd s) := by
  refine keepsPads_next (dt := dt) (padView_onPacket (fun b u => ?_) ..)
  split <;> simp

theorem keepsPads_execStatusQuery (dt : Nat) (codes : List Nat) (rd : Bool) (s : State) :
    KeepsPads s (execStatusQuery dt codes rd s) :=
  keepsPads_next (dt := dt) (by simp)

theorem keepsPads_execEventLogWrite (dt : Nat) (s : State) :
    KeepsPads s (execEventLogWrite dt s) :=
  keepsPads_next (dt := dt) (by
    (repeat' split) <;> simp)

theorem keepsPads_execStatusPageAdvance (dt : Nat) (s : State) :
    KeepsPads s (execStatusPageAdvance dt s) :=
  keepsPads_next (dt := dt) (by simp)

theorem keepsPads_execJtagStatusRead (dt addr words : Nat) (s : State) :
    KeepsPads s (execJtagStatusRead dt addr words s) :=
  keepsPads_need (dt := dt) (by
    simp only []
    (repeat' split) <;> simp [↓padView_with])

end Sys2Proof.Proofs
end

section
/-! What may stand at the pads, kept through the operations that drive, cut or gate pulses (R15, R55, R309, R315). -/

namespace Sys2Proof.Proofs

open Sys2Proof Sys2Proof.Machine Sys2Proof.Laws

/-- What may stand at the pads at an instant: a pulse that may stand there may end there now (R55).  In a sweep `spent` lists
the banks whose near-zone veto a pulse of the running command has cleared (R315). -/
structure Guard where
  now : Nat
  spent : Option (List Nat)
  ok : FirePulse → Prop
  cut : ∀ x, ok x → x.at_ < now → ok { x with width := min x.width (now - x.at_) }

/-- The pads pass a pulse of a bank. -/
def PadView.Passes (v : PadView) (b : Nat) : Prop := v.a.permit = true ∧ v.b.permit = true ∧ b ∉ v.a.held ∧ b ∉ v.b.held

/-- Every pulse at the pads may stand there, and so may every pulse of a bank that passes them from now on.  No diagnostic pulse
falls due in a sweep. -/
structure Held (g : Guard) (v : PadView) : Prop where
  now : v.now = g.now
  driven : ∀ x ∈ v.pulses, g.ok x
  passing : ∀ b, b ∉ g.spent.getD [] → v.Passes b → ∀ x : FirePulse, x.bank = b → g.ok x
  gap : g.spent = none ∨ v.period ≠ none

/-- A channel permits no bank that it did not permit. -/
def PadGate.Narrows (p q : PadGate) : Prop := (p.permit = true → q.permit = true) ∧ q.held ⊆ p.held

variable {g : Guard} {near : Bool} {s t : State}

theorem Held.of_view (h : Held g (padView near s)) (e : padView near t = padView near s) : Held g (padView near t) := e ▸ h

/-! ## Diagnostic pulses, cuts and gates -/

theorem passes_of_padsPass {b : Nat} (h : padsPass s b = true) : (padView near s).Passes b := by
  cases near <;> simp_all [padsPass, bankPermit, PadView.Passes, padView, gateOf]

theorem period_of_diagDue (h : diagDue s = true) : s.seq.period = none := by
  simp_all [diagDue, inGap]

theorem held_lightDiag (h : Held g (padView near s)) : Held g (padView near (lightDiag s)) := by
  unfold lightDiag
  split
  case isFalse => exact h
  case isTrue hdue =>
    split
    · exact h
    · next b _ =>
      simp only []
      split
      · next hpass =>
        have hb : padsPass s b = true := by simp_all
        have hspent : g.spent = none := h.gap.resolve_right fun hp => hp (period_of_diagDue hdue)
        refine ⟨h.now, fun x hx => ?_, h.passing, .inl hspent⟩
        obtain rfl : x = diagPulse s b := List.mem_singleton.1 hx
        exact h.passing b (by simp [hspent]) (passes_of_padsPass hb) _ rfl
      · simpa using h

theorem held_cutPulses (h : Held g (padView near s)) : Held g (padView near (cutPulses s)) := by
  obtain ⟨hn, hd, hp, hg⟩ := held_lightDiag h
  refine ⟨hn, fun x hx => ?_, hp, hg⟩
  obtain ⟨y, hy, hcut⟩ := List.mem_filterMap.1 hx
  have hn : (lightDiag s).now = g.now := hn
  rw [hn] at hcut
  split at hcut
  · cases hcut
  · next hlt =>
    obtain rfl := Option.some.inj hcut
    exact g.cut y (hd y hy) (Nat.lt_of_not_le hlt)

theorem held_setSide {v : SafeCh} {d : Side} (hn : (gateOf near v).Narrows (gateOf near (sideOf s d)))
    (h : Held g (padView near s)) : Held g (padView near (setSide d v s)) := by
  obtain ⟨hpermit, hheld⟩ := hn
  cases d
  · refine ⟨h.now, h.driven, fun b hb hpass => h.passing b hb ?_, h.gap⟩
    obtain ⟨ha, hb, hva, hvb⟩ := hpass
    exact ⟨hpermit ha, hb, fun hm => hva (hheld hm), hvb⟩
  · refine ⟨h.now, h.driven, fun b hb hpass => h.passing b hb ?_, h.gap⟩
    obtain ⟨ha, hb, hva, hvb⟩ := hpass
    exact ⟨ha, hpermit hb, hva, fun hm => hvb (hheld hm)⟩

theorem held_modSide {f : SafeCh → SafeCh} {d : Side} (hn : (gateOf near (f (sideOf s d))).Narrows (gateOf near (sideOf s d)))
    (h : Held g (padView near s)) : Held g (padView near (modSide d f s)) := held_setSide hn h

theorem narrows_stopChannel (u : State) (code : Nat) (c : SafeCh) :
    (gateOf near (stopChannel u code c)).Narrows (gateOf near c) := by
  unfold stopChannel
  split
  · exact ⟨id, List.Subset.refl _⟩
  · exact ⟨nofun, List.Subset.refl _⟩

theorem held_when_ {c : Bool} {f : State → State} (hf : ∀ u, Held g (padView near u) → Held g (padView near (f u)))
    (h : Held g (padView near s)) : Held g (padView near (when_ c f s)) := by
  cases c
  · exact h
  · exact hf s h

/-! ## Stops -/

theorem held_stopForDip (h : Held g (padView near s)) : Held g (padView near (stopForDip s)) :=
  ((held_cutPulses h).of_view (padView_dropShots _)).of_view rfl

theorem held_withdrawPermit (d : Side) (h : Held g (padView near s)) : Held g (padView near (withdrawPermit d s)) := by
  unfold withdrawPermit
  split
  · rw [padView_abandonRun, padView_stopFiring]
    exact held_modSide ⟨nofun, List.Subset.refl _⟩ (held_cutPulses h)
  · exact h

theorem held_checkPermit (d : Side) (h : Held g (padView near s)) : Held g (padView near (checkPermit d s)) := by
  unfold checkPermit
  split
  · exact h
  · exact held_withdrawPermit d h

theorem held_sequencerSafeStop (h : Held g (padView near s)) : Held g (padView near (sequencerSafeStop s)) := by
  have hc := held_cutPulses h
  unfold sequencerSafeStop
  generalize cutPulses s = u at hc
  split
  · exact h
  · extract_lets t _ t₁ t₂ _ _ t₃
    have ht : Held g (padView near t) := (hc.of_view (padView_dropShots _)).of_view (padView_stopFiring ..)
    have h₁ : Held g (padView near t₁) := by
      dsimp only [t₁]
      split
      · exact ht
      · exact (ht.of_view rfl).of_view (padView_refuseMode ..)
    have h₂ : Held g (padView near t₂) := h₁.of_view (by simp [t₂])
    have h₃ : Held g (padView near t₃) := h₂.of_view rfl
    exact h₃.of_view (by simp)

theorem held_enterSafeStop (d : Side) (code : Nat) (h : Held g (padView near s)) :
    Held g (padView near (enterSafeStop d code s)) := by
  unfold enterSafeStop
  split
  · exact h
  · exact held_sequencerSafeStop (held_modSide (narrows_stopChannel ..) (held_lightDiag h))

theorem held_enterSafeStopBoth (code : Nat) (h : Held g (padView near s)) : Held g (padView near (enterSafeStopBoth code s)) :=
  held_enterSafeStop _ _ (held_enterSafeStop _ _ h)

/-! ## Safety channels -/

theorem held_actDemand (d : Side) (demand : Nat) (open_ : Bool) (h : Held g (padView near s)) :
    Held g (padView near (actDemand d demand open_ s)) := by
  unfold actDemand
  split
  · exact held_enterSafeStop _ _ (h.of_view (padView_modSide rfl))
  · split
    · exact held_checkPermit _ (h.of_view (padView_modSide rfl))
    · exact h


theorem held_channelMessage (d : Side) (m : List Byte) (h : Held g (padView near s)) :
    Held g (padView near (channelMessage d m s)) := by
  unfold channelMessage
  simp only []
  split
  · exact held_actDemand _ _ _ (h.of_view (padView_modSide rfl))
  · exact h

theorem held_safetyMessageBody (m : List Byte) (h : Held g (padView near s)) : Held g (padView near (safetyMessageBody m s)) := by
  have hm := held_channelMessage .b m (held_channelMessage .a m h)
  unfold safetyMessageBody
  simp only []
  split <;> exact hm.of_view (by simp [↓padView_with])

theorem held_judgeWord (d : Side) (crcOk : Bool) (interval : Nat) (h : Held g (padView near s)) :
    Held g (padView near (judgeWord d crcOk interval s)) := by
  have hm (f : SafeCh → SafeCh) (hf : gateOf near (f (sideOf s d)) = gateOf near (sideOf s d)) := h.of_view (padView_modSide hf)
  unfold judgeWord
  simp only []
  split
  · exact held_enterSafeStop _ _ (hm _ rfl)
  · exact hm _ rfl

theorem held_compareWords (h : Held g (padView near s)) : Held g (padView near (compareWords s)) := by
  unfold compareWords
  simp only []
  split
  · exact held_enterSafeStopBoth _ (h.of_view rfl)
  · exact h.of_view rfl

theorem held_leaveWindow (d : Side) (h : Held g (padView near s)) : Held g (padView near (leaveWindow d s)) := by
  unfold leaveWindow
  simp only []
  split
  · refine held_checkPermit _ ?_
    split
    · exact h.of_view ((padView_count ..).trans (padView_modSide rfl))
    · exact h.of_view (padView_modSide rfl)
  · exact h

theorem held_safetyEdge (d : Side) (code : BitVec 3) (h : Held g (padView near s)) :
    Held g (padView near (safetyEdge d code s)) := by
  unfold safetyEdge
  extract_lets c interval t u
  have ht : Held g (padView near t) := h.of_view (padView_modSide rfl)
  have hu : Held g (padView near u) := by
    dsimp only [u]
    split
    · exact held_leaveWindow _ ht
    · split
      · exact ht.of_view (padView_modSide rfl)
      · exact ht
  exact hu.of_view (padView_judgeTorque ..)

theorem held_gapImplausible (d : Side) (h : Held g (padView near s)) : Held g (padView near (gapImplausible d s)) := by
  unfold gapImplausible
  extract_lets c t u v
  have hu : Held g (padView near u) := by
    dsimp only [u]
    split
    · exact h.of_view ((padView_count ..).trans (padView_modSide rfl))
    · exact h.of_view (padView_modSide rfl)
  split
  · exact h
  · split
    · exact held_enterSafeStop _ _ (held_checkPermit _ hu)
    · exact held_checkPermit _ hu

/-- A veto that the energy check adds holds its bank back besides those held before (R314). -/
theorem held_energyCheck (d : Side) (b at_ : Nat) (h : Held g (padView near s)) :
    Held g (padView near (energyCheck d b at_ s)) := by
  unfold energyCheck
  extract_lets c t u
  have ht : Held g (padView near t) := by
    refine held_modSide ⟨id, fun x hx => ?_⟩ h
    simp only [gateOf, List.mem_append] at hx ⊢
    split <;> simp_all
    tauto
  have hu : Held g (padView near u) := by
    dsimp only [u]
    split
    · exact ht.of_view (padView_count ..)
    · exact ht
  split
  · exact held_enterSafeStop _ _ (hu.of_view rfl)
  · exact h

theorem held_padPulse (d : Side) (b width : Nat) (h : Held g (padView near s)) :
    Held g (padView near (padPulse d b width s)) := by
  unfold padPulse
  extract_lets c t u
  have ht : Held g (padView near t) := by
    dsimp only [t]
    split
    · exact h
    · exact held_enterSafeStop _ _ h
  have hu : Held g (padView near u) := by
    dsimp only [u]
    split
    · exact held_gapImplausible _ ht
    · exact ht
  split
  · exact hu.of_view (padView_modSide rfl)
  · exact hu

theorem held_afterInputs (d : Side) (before : State) (h : Held g (padView near s)) :
    Held g (padView near (afterInputs d before s)) := by
  unfold afterInputs
  extract_lets u c v
  have hu : Held g (padView near u) := h.of_view (padView_foldl (fun w i => by split <;> simp) ..)
  have hv : Held g (padView near v) := by
    dsimp only [v]
    split
    · split
      · exact hu
      · exact held_enterSafeStop _ _ hu
    · exact hu
  split
  · exact hv.of_view rfl
  · exact hv

theorem held_startInputs (d : Side) (h : Held g (padView near s)) : Held g (padView near (startInputs d s)) :=
  held_afterInputs _ _ (h.of_view (padView_modSide rfl))

theorem held_soutFails (d : Side) (h : Held g (padView near s)) : Held g (padView near (soutFails d s)) :=
  held_enterSafeStop _ _ (h.of_view (padView_modSide rfl))

/-- A near-zone veto holds its bank back besides those held before (R315). -/
theorem held_nearZone (b : Nat) (h : Held g (padView near s)) : Held g (padView near (nearZone b s)) := by
  have narrows (c : SafeCh) : (gateOf near (setNearVeto b c)).Narrows (gateOf near c) := by
    refine ⟨id, fun x hx => ?_⟩
    cases near <;> simp_all [gateOf, setNearVeto]
    split <;> simp_all
    tauto
  unfold nearZone
  split
  · exact h
  · exact (held_modSide (narrows _) (held_modSide (narrows _) h)).of_view (padView_count ..)

/-! ## Motor, supplies and temperature -/

theorem held_motorFault (c : Counter) (h : Held g (padView near s)) : Held g (padView near (motorFault c s)) :=
  held_enterSafeStopBoth _ (h.of_view rfl)

theorem held_observe (code : BitVec 3) (observer : Nat) (h : Held g (padView near s)) :
    Held g (padView near (observe code observer s)) := by
  have hm (f : Motor → Motor) := h.of_view (padView_modMotor f s)
  unfold observe
  split
  · split
    · split
      · exact held_motorFault _ (hm _)
      · exact hm _
    · exact hm _
  · exact hm _

theorem held_lossOfLock (h : Held g (padView near s)) : Held g (padView near (lossOfLock s)) := by
  have hl := held_lightDiag h
  unfold lossOfLock
  generalize lightDiag s = u at hl
  exact hl.of_view (by simp [↓padView_with])

theorem held_dipBegin (rail : Nat) (h : Held g (padView near s)) : Held g (padView near (dipBegin rail s)) := by
  have hl := held_lightDiag h
  unfold dipBegin
  generalize lightDiag s = u at hl
  refine (held_stopForDip ?_).of_view (padView_abandonRun ..)
  split <;> exact hl.of_view (by simp [↓padView_with])

theorem held_reportShutdown (now : Bool) (h : Held g (padView near s)) : Held g (padView near (reportShutdown now s)) := by
  have hm (f : Thermal → Thermal) := h.of_view (padView_modThermal f s)
  unfold reportShutdown
  simp only []
  split
  · exact held_enterSafeStopBoth _ (hm _)
  · exact hm _

theorem held_judgeTemps (l : List (Option Int)) (h : Held g (padView near s)) : Held g (padView near (judgeTemps l s)) := by
  unfold judgeTemps
  simp only []
  split <;> exact held_reportShutdown _ (h.of_view (by simp))

theorem held_sensorReading (l : List (Option Int)) (h : Held g (padView near s)) :
    Held g (padView near (sensorReading l s)) := by
  unfold sensorReading
  extract_lets ts t t₁
  have h₁ : Held g (padView near t₁) := held_judgeTemps l (h.of_view (by simp [t]))
  exact h₁.of_view (by simp)

/-! ## Boundaries and periods -/

theorem held_compareCodes (d : Side) (h : Held g (padView near s)) : Held g (padView near (compareCodes d s)) := by
  have hm (v : SheetState) : Held g (padView near (modSide d (formOwn s v) s)) := h.of_view (padView_modSide rfl)
  unfold compareCodes
  simp only []
  split
  · exact held_enterSafeStop _ _ (hm _)
  · exact hm _

/-- Outside a sweep's slots the running period may change. -/
theorem Held.of_period (h : Held g (padView near s)) (hg : g.spent = none) (p : Option Nat)
    (e : padView near t = { padView near s with period := p }) : Held g (padView near t) := by
  rw [e]
  exact ⟨h.now, h.driven, h.passing, .inl hg⟩

theorem held_stampBn (h : Held g (padView near s)) (hg : g.spent = none) : Held g (padView near (stampBn s)) :=
  h.of_period hg none rfl

theorem held_takeChoice (c : Choice) (h : Held g (padView near s)) (hg : g.spent = none) :
    Held g (padView near (takeChoice c s)) := held_stampBn (h.of_view rfl) hg

theorem held_spinUp (h : Held g (padView near s)) (hg : g.spent = none) : Held g (padView near (spinUp s)) := by
  unfold spinUp
  extract_lets go t
  have ht : Held g (padView near t) := h.of_view ((padView_modSide rfl).trans (padView_modSide rfl))
  exact (ht.of_period hg none rfl).of_view (padView_biasEnable _)

theorem held_acceptImage (h : Held g (padView near s)) (hg : g.spent = none) : Held g (padView near (acceptImage s)) := by
  unfold acceptImage
  simp only []
  refine Held.of_view (s := if _ then _ else _) ?_ (padView_startNext ..)
  split
  · exact held_spinUp (h.of_view rfl) hg
  · exact h.of_view rfl

theorem held_startPeriod (p : Nat) (h : Held g (padView near s)) : Held g (padView near (startPeriod p s)) := by
  unfold startPeriod
  extract_lets t t₁ t₂
  have hs : Held g (padView near (if p = 0 then closeGap s else s)) := h.of_view (by split <;> simp)
  have ht : Held g (padView near t) := ⟨hs.now, hs.driven, hs.passing, .inr nofun⟩
  have h₁ : Held g (padView near t₁) := (ht.of_view (padView_publish ..)).of_view (padView_resumeFiring ..)
  have h₂ : Held g (padView near t₂) := by
    dsimp only [t₂]
    split
    · exact h₁.of_view (padView_ambientPeriodZero ..)
    · exact h₁
  split
  · split
    · exact h₂.of_view (padView_startRound ..)
    · exact h₂
  · exact ht

theorem held_sheetBoundary (h : Held g (padView near s)) (hg : g.spent = none) : Held g (padView near (sheetBoundary s)) := by
  unfold sheetBoundary
  refine held_checkPermit _ (held_checkPermit _ (held_compareCodes _ (held_compareCodes _ ?_)))
  have hc := held_takeChoice (chooseMode s) (h.of_view (t := applyStep (endSheet s)) (by simp)) hg
  exact hc.of_view (by simp)

theorem held_timingBoundary (h : Held g (padView near s)) (hg : g.spent = none) : Held g (padView near (timingBoundary s)) := by
  unfold timingBoundary
  extract_lets bins t t₁ t₂
  have ht : Held g (padView near t) :=
    ((h.of_view (padView_closeGap _)).of_view (padView_modSide rfl)).of_view (padView_modSide rfl)
  have h₁ : Held g (padView near t₁) := (held_stampBn ht hg).of_view (padView_modSeq rfl)
  have h₂ : Held g (padView near t₂) := h₁.of_view (by simp [t₂])
  exact h₂.of_view (by simp)

theorem held_stopBoundary (h : Held g (padView near s)) (hg : g.spent = none) : Held g (padView near (stopBoundary s)) := by
  unfold stopBoundary
  extract_lets m t t₁
  have ht : Held g (padView near t) := h.of_view (padView_closeGap ..)
  have h₁ : Held g (padView near t₁) := by
    dsimp only [t₁]
    split <;> exact (ht.of_view (padView_modSide rfl)).of_view (padView_modSide rfl)
  have h₂ : Held g (padView near (stampBn t₁)) := held_stampBn h₁ hg
  exact h₂.of_view (by simp)

/-! ## Image -/

theorem held_recordWalk (img : List Byte) (h : Held g (padView near s)) : Held g (padView near (recordWalk img s)) := by
  unfold recordWalk
  extract_lets hd len
  split
  · exact h.of_view (padView_loadFailed ..)
  · split
    · exact h.of_view (padView_loadFailed ..)
    · extract_lets _ t sb _ u
      have ht : Held g (padView near t) := h.of_view rfl
      have hu : Held g (padView near u) := held_startInputs _ (held_startInputs _ (ht.of_view rfl))
      split
      · exact ht.of_view (padView_loadFailed ..)
      · split
        · exact ht.of_view (padView_loadFailed ..)
        · split
          · exact hu.of_view (padView_loadFailed ..)
          · exact hu.of_view (padView_loadUnits ..)

theorem held_verifyImage (written : Bool) (h : Held g (padView near s)) : Held g (padView near (verifyImage written s)) := by
  unfold verifyImage
  extract_lets img r _ t t₁ t₂
  have h₂ : Held g (padView near t₂) := h.of_view (by simp [t₂, t₁, t])
  clear_value t₂
  split
  · exact held_recordWalk _ (h₂.of_view rfl)
  · exact h₂

end Sys2Proof.Proofs
end

section
/-! What may stand at the pads, kept through resets, the gap's slots and the pulses of a sweep and of a calibration segment. -/

namespace Sys2Proof.Proofs

open Sys2Proof Sys2Proof.Machine Sys2Proof.Laws

variable {g : Guard} {near : Bool} {s t : State}

theorem held_watchSafety {f : State → State} (h : Held g (padView near (f s))) : Held g (padView near (watchSafety f s)) :=
  h.of_view (padView_watchSafety f s)

theorem held_onPacket {f : List Byte → State → State} (hf : ∀ m u, Held g (padView near u) → Held g (padView near (f m u)))
    (type : Nat) (codes : List Nat) (rd : Bool) (h : Held g (padView near s)) :
    Held g (padView near (onPacket type codes rd f s)) := by
  unfold onPacket
  split
  · exact h
  · have hr := h.of_view (padView_receive (rxBytes s codes rd) (rxViol s codes rd) s)
    split <;> simp_all

/-! ## Gap slots, resets and requests -/

theorem held_takeSlot (b : Nat) (high rises : List Nat) (firings : List (List (Nat × Nat))) (measured : Option Nat)
    (h : Held g (padView near s)) : Held g (padView near (takeSlot b high rises firings measured s)) := by
  have hl := held_lightDiag h
  unfold takeSlot
  generalize lightDiag s = u at hl
  extract_lets k cut refl taken light _ o t t₁
  have ht : padView near t = padView near u := by
    dsimp only [t]
    split
    · exact padView_foldl (fun _ _ => padView_modChan ..) ..
    · rfl
  exact hl.of_view ((padView_modChain ..).trans ((padView_modBank ..).trans ht))

/-- A device in reset drives no pulse and permits none (R427). -/
theorem held_resetDevice (cause : Nat) (por low hold : Bool) (h : Held g (padView near s)) (hg : g.spent = none) :
    Held g (padView near (resetDevice cause por low hold s)) :=
  ⟨h.now, nofun, fun _ _ hpass => (nomatch hpass.1), .inl hg⟩

theorem held_railsAt (levels : List Nat) (h : Held g (padView near s)) (hg : g.spent = none) :
    Held g (padView near (railsAt levels s)) := by
  have ht : Held g (padView near (railsSeen levels s)) := h.of_view (padView_railsSeen ..)
  unfold railsAt
  simp only []
  split
  · exact held_resetDevice _ _ _ _ (ht.of_view rfl) hg
  · split
    · exact ht
    · split
      · exact ht
      · exact held_dipBegin _ ht

theorem held_railsFall (fall : RailFall) (h : Held g (padView near s)) (hg : g.spent = none) :
    Held g (padView near (railsFall fall s)) := by
  unfold railsFall
  split
  · exact h
  · exact held_railsAt _ h hg

theorem held_jtagHold (n : Nat) (scan : BoundaryScan) (h : Held g (padView near s)) (hg : g.spent = none) :
    Held g (padView near (jtagHold n scan s)) := by
  unfold jtagHold
  extract_lets t _ u
  have ht : Held g (padView near t) := by
    dsimp only [t]
    split
    · exact h
    · exact held_resetDevice _ _ _ _ h hg
  exact ht.of_view rfl

theorem held_safeStopExit (r : Request) (h : Held g (padView near s)) (hg : g.spent = none) :
    Held g (padView near (safeStopExit r s)) := by
  unfold safeStopExit
  extract_lets t t₁ _ t₂ t₃
  have h₂ : Held g (padView near t₂) :=
    (((h.of_view (padView_ackMode ..)).of_view (padView_modSide rfl)).of_view (padView_modSide rfl)).of_view rfl
  have h₃ : Held g (padView near t₃) := held_spinUp (h₂.of_view (padView_modSeq rfl)) hg
  exact h₃.of_view (padView_logEvent ..)

theorem held_modeRequest (m : List Byte) (h : Held g (padView near s)) (hg : g.spent = none) :
    Held g (padView near (modeRequest m s)) := by
  have refused (result : Nat) := h.of_view (padView_refuseMode (requestOf m s).echo result s)
  unfold modeRequest
  simp only []
  split
  · exact refused _
  · split
    · exact refused _
    · split
      · split
        · exact held_safeStopExit _ h hg
        · exact refused _
      · exact h.of_view (padView_latchRequest ..)

/-- A permit that a B_N marker raises drives nothing by itself: the pulses at the pads are those before it. -/
theorem driven_restorePermit (d : Side) (h : Held g (padView near s)) : ∀ x ∈ (restorePermit d s).pulses, g.ok x := by
  unfold restorePermit
  split
  · cases d <;> exact h.driven
  · exact (held_withdrawPermit d h).driven

theorem driven_bnMarkerAt (d : Side) (h : Held g (padView near s)) : ∀ x ∈ (bnMarkerAt d s).pulses, g.ok x := by
  have begun (p : Nat) : Held g (padView near (modSide d (beginGap p) s)) := h.of_view (padView_modSide rfl)
  unfold bnMarkerAt
  simp only []
  split
  · exact driven_restorePermit d (held_gapImplausible d (begun _))
  · refine driven_restorePermit (near := near) d ?_
    split <;> split
    · exact h
    · exact begun _
    · exact held_gapImplausible d h
    · exact held_gapImplausible d (begun _)

/-! ## The pulses of a sweep -/

/-- In a sweep, with one bank more whose near-zone veto a pulse has cleared. -/
def Guard.spend (g : Guard) (b : Nat) : Guard := { g with spent := some (b :: g.spent.getD []) }

theorem Held.spend {v : PadView} (h : Held g v) (hp : v.period ≠ none) (b : Nat) : Held (g.spend b) v :=
  ⟨h.now, h.driven, fun c hc => h.passing c fun hm => hc (.tail _ hm), .inr hp⟩

theorem Held.sweep {v : PadView} (h : Held g v) (hg : g.spent = none) (hp : v.period ≠ none) :
    Held { g with spent := some [] } v :=
  ⟨h.now, h.driven, fun b _ => h.passing b (by simp [hg]), .inr hp⟩

theorem Held.of_subset {l : List FirePulse} (h : Held g (padView near s)) (hl : l ⊆ s.pulses)
    (e : padView near t = { padView near s with pulses := l }) : Held g (padView near t) := by
  rw [e]
  exact ⟨h.now, fun x hx => h.driven x (hl hx), h.passing, h.gap⟩

/-- A pulse of a bank that is not spent passes the pads only where it may stand. -/
theorem Held.drive {x : FirePulse} {l : List FirePulse} (h : Held g (padView near s)) (hx : x.bank ∉ g.spent.getD [])
    (hl : l = s.pulses ++ [x]) (hpass : padsPass s x.bank = true) (e : padView near t = { padView near s with pulses := l }) :
    Held g (padView near t) := by
  rw [e]
  refine ⟨h.now, fun y hy => ?_, h.passing, h.gap⟩
  rcases List.mem_append.1 (hl ▸ hy) with hy | hy
  · exact h.driven y hy
  · obtain rfl := List.mem_singleton.1 hy
    exact h.passing _ hx (passes_of_padsPass hpass) _ rfl

/-- Clearing the near-zone veto of a spent bank lets nothing more pass. -/
theorem held_clearNear {b : Nat} (d : Side) (hb : b ∈ g.spent.getD []) (h : Held g (padView near s)) :
    Held g (padView near (modSide d (clearNear b) s)) := by
  have keep (c : SafeCh) (k : Nat) (hk : k ≠ b) (hc : k ∉ (gateOf near (clearNear b c)).held) :
      k ∉ (gateOf near c).held := by
    cases near <;> simp_all [gateOf, clearNear]
  have ne (k : Nat) (hk : k ∉ g.spent.getD []) : k ≠ b := fun e => hk (e ▸ hb)
  cases d
  · refine ⟨h.now, h.driven, fun k hk hpass => h.passing k hk ?_, h.gap⟩
    obtain ⟨pa, pb, va, vb⟩ := hpass
    exact ⟨pa, pb, keep _ _ (ne k hk) va, vb⟩
  · refine ⟨h.now, h.driven, fun k hk hpass => h.passing k hk ?_, h.gap⟩
    obtain ⟨pa, pb, va, vb⟩ := hpass
    exact ⟨pa, pb, va, keep _ _ (ne k hk) vb⟩

theorem held_requestPulse (x : Shot) (hp : s.seq.period ≠ none) (hx : x.bank ∉ g.spent.getD [])
    (h : Held g (padView near s)) : Held (g.spend x.bank) (padView near (requestPulse x s)) := by
  unfold requestPulse
  extract_lets b t t₁ t₂
  have ht : Held g (padView near t) := by
    dsimp only [t]
    split
    · next hpass => exact h.drive (t := { s with pulses := _ }) hx rfl hpass rfl
    · exact h
  have hper : t.seq.period ≠ none := by
    dsimp only [t]
    split <;> exact hp
  have h₁ : Held (g.spend b) (padView near t₁) :=
    (held_clearNear .b (.head _) (held_clearNear .a (.head _) (ht.spend hper b))).of_view (padView_modSeq rfl)
  have h₂ : Held (g.spend b) (padView near t₂) := h₁.of_view (padView_modBank ..)
  exact h₂.of_view (by simp)

/-- In a sweep a shot drives a pulse of its own bank alone, past that bank's vetoes (R45, R315). -/
theorem held_fireShot (x : Shot) (hg : g.spent ≠ none) (hx : x.bank ∉ g.spent.getD []) (h : Held g (padView near s)) :
    Held (g.spend x.bank) (padView near (fireShot x s)) := by
  have hold {u : State} (hu : Held g (padView near u)) : Held (g.spend x.bank) (padView near u) :=
    hu.spend (hu.gap.resolve_left hg) _
  have pulse {u : State} (hu : Held g (padView near u)) : Held (g.spend x.bank) (padView near (requestPulse x u)) :=
    held_requestPulse x (hu.gap.resolve_left hg) hx hu
  have checked := held_energyCheck .b x.bank x.fire (held_energyCheck .a x.bank x.fire h)
  unfold fireShot
  extract_lets opened t t₁
  have ht : Held g (padView near t) := by
    dsimp only [t]
    split
    · exact checked
    · exact h
  split
  · split
    · exact pulse (ht.of_view (padView_openPoints ..))
    · exact hold (ht.of_view (padView_count ..))
  · split
    · split
      · exact pulse checked
      · exact hold checked
    · exact hold h

/-- Shots of distinct banks: no bank's veto is cleared before its own pulse. -/
theorem driven_fireShots (l : List Shot) (hg : g.spent ≠ none) (hl : (l.map Shot.bank).Nodup)
    (hs : ∀ x ∈ l, x.bank ∉ g.spent.getD []) (h : Held g (padView near s)) :
    ∀ y ∈ (l.foldl (fun t x => fireShot x t) s).pulses, g.ok y := by
  induction l generalizing g s with
  | nil => exact h.driven
  | cons x l ih =>
    obtain ⟨hx, hl⟩ := List.nodup_cons.1 hl
    refine ih (g := g.spend x.bank) nofun hl (fun y hy hm => ?_) (held_fireShot x hg (hs x (.head _)) h)
    rcases List.mem_cons.1 hm with e | hm
    · exact hx (e ▸ List.mem_map_of_mem hy)
    · exact hs y (.tail _ hy) hm

theorem insertBy_perm {α : Type} (before : α → α → Bool) (x : α) (l : List α) : (insertBy before x l).Perm (x :: l) := by
  induction l with
  | nil => exact .refl _
  | cons y r ih =>
    unfold insertBy
    split
    · exact .refl _
    · exact (ih.cons y).trans (.swap x y r)

theorem foldl_insertBy_perm {α : Type} (before : α → α → Bool) (l a : List α) :
    (l.foldl (fun a x => insertBy before x a) a).Perm (l ++ a) := by
  induction l generalizing a with
  | nil => exact .refl _
  | cons x l ih => exact (ih _).trans (((insertBy_perm before x a).append_left l).trans List.perm_middle)

theorem sortBy_perm {α : Type} (before : α → α → Bool) (l : List α) : (sortBy before l).Perm l := by
  simpa [sortBy] using foldl_insertBy_perm before l []

theorem bank_of_assigned {p q b : Nat} {x : Shot} (h : assigned s p q b = some x) : x.bank = b := by
  unfold assigned at h
  split at h
  · cases h
  · simp only [] at h
    split at h
    · obtain rfl := Option.some.inj h
      rfl
    · cases h

/-- The shots of a slot are of distinct banks. -/
theorem nodup_slotShots (s : State) (p q : Nat) : ((inOrder (slotShots s p q)).map Shot.bank).Nodup := by
  refine ((sortBy_perm _ _).map Shot.bank).nodup_iff.2 ?_
  unfold slotShots
  generalize hr : List.range 32 = l
  have hn : l.Nodup := hr ▸ List.nodup_range
  clear hr
  induction l with
  | nil => exact List.nodup_nil
  | cons b l ih =>
    obtain ⟨hb, hl⟩ := List.nodup_cons.1 hn
    rw [List.filterMap_cons]
    split
    · exact ih hl
    · next x hx =>
      refine List.nodup_cons.2 ⟨fun hm => hb ?_, ih hl⟩
      obtain ⟨y, hy, e⟩ := List.mem_map.1 hm
      obtain ⟨c, hc, hcy⟩ := List.mem_filterMap.1 hy
      rwa [← bank_of_assigned hx, ← e, bank_of_assigned hcy]

theorem driven_fireSlot (p q : Nat) (hp : s.seq.period ≠ none) (hg : g.spent = none) (h : Held g (padView near s)) :
    ∀ y ∈ (fireSlot p q s).pulses, g.ok y := by
  have hs : Held { g with spent := some [] } (padView near s) := h.sweep hg hp
  unfold fireSlot
  extract_lets l s₁ _
  have h₁ : Held { g with spent := some [] } (padView near s₁) := hs.of_view (by dsimp only [s₁]; split <;> simp)
  refine driven_fireShots (near := near) (g := { g with spent := some [] }) l nofun (nodup_slotShots s p q) (fun _ _ => nofun) ?_
  exact (h₁.of_subset (List.filter_subset_self _) rfl).of_view (padView_advanceDither ..)

/-! ## The pulses of a calibration segment -/

theorem gateOf_clearNear (b : Nat) (c : SafeCh) : gateOf false (clearNear b c) = gateOf false c := rfl

theorem held_calPads (x : Nat × Nat) (hg : g.spent = none) (h : Held g (padView near s)) :
    Held g (padView near (calPads x s)) := by
  unfold calPads
  split
  · next hpass => exact h.drive (by simp [hg]) rfl hpass rfl
  · exact h

theorem held_calDrive (x : Nat × Nat) (hg : g.spent = none) (h : Held g (padView false s)) :
    Held g (padView false (calDrive x s)) := by
  have hc := held_calPads x hg (held_energyCheck .b x.1 (calFire s x.1 x.2) (held_energyCheck .a x.1 (calFire s x.1 x.2) h))
  exact ((hc.of_view (padView_modSide (gateOf_clearNear ..))).of_view (padView_modSide (gateOf_clearNear ..))).of_view
    (padView_modBank ..)

theorem calPulse_snd (x : Nat × Nat) (a : List (Nat × Nat) × State) : (calPulse x a).2 = calDrive x a.2 := by simp [calPulse]

theorem held_calPulses (hg : g.spent = none) (l : List (Nat × Nat)) (a : List (Nat × Nat) × State)
    (h : Held g (padView false a.2)) : Held g (padView false (l.foldl (fun a x => calPulse x a) a).2) := by
  induction l generalizing a with
  | nil => exact h
  | cons x l ih =>
    have hx : Held g (padView false (calPulse x a).2) := calPulse_snd x a ▸ held_calDrive x hg h
    rw [List.foldl_cons]
    exact ih _ hx

theorem held_opticalSegment (events : List (Nat × List (Nat × Nat × Nat))) (light : List (Nat × Nat)) (widths : List (Nat × Int))
    (hg : g.spent = none) (h : Held g (padView false s)) :
    Held g (padView false (opticalSegment events light widths s)) := by
  have h₀ : Held g (padView false (modChain (fun c => { c with opticalTaken := true }) { s with pulses := [] })) :=
    (h.of_subset (t := { s with pulses := [] }) (List.nil_subset _) rfl).of_view (padView_modChain ..)
  unfold opticalSegment
  extract_lets u
  have hu : Held g (padView false u.2) := held_calPulses hg (calShots s) ([], _) h₀
  clear_value u
  split
  · exact hu
  · split
    · exact hu
    · exact hu.of_view (padView_setRun ..)

end Sys2Proof.Proofs
end

section
/-! What each command may leave at the pads. -/

namespace Sys2Proof.Proofs

open Sys2Proof Sys2Proof.Machine Sys2Proof.Laws

variable {near : Bool} {s t : State} {n : Nat}

/-- A pulse that stood at the pads before the command, whole or longer, or one of a bank that the pads passed. -/
def MayStand (near : Bool) (s : State) (x : FirePulse) : Prop :=
  (∃ y ∈ s.pulses, y.bank = x.bank ∧ y.at_ = x.at_ ∧ x.width ≤ y.width) ∨ (padView near s).Passes x.bank

theorem MayStand.shorten {x : FirePulse} (h : MayStand near s x) (w : Nat) :
    MayStand near s { x with width := min x.width w } := by
  rcases h with ⟨y, hy, hb, ha, hw⟩ | h
  · exact .inl ⟨y, hy, hb, ha, (Nat.min_le_left ..).trans hw⟩
  · exact .inr h

/-- What may stand at the pads at the instant `n` of a command that runs in `s`. -/
def startGuard (near : Bool) (s : State) (n : Nat) : Guard := ⟨n, none, MayStand near s, fun _ h _ => h.shorten _⟩

/-- What the command may leave at the pads, where it completes. -/
def Drives (P : FirePulse → Prop) (o : Out) : Prop := ∀ t, o = .next t → ∀ x ∈ t.pulses, P x

theorem held_advance (near : Bool) (dt : Nat) (s : State) :
    Held (startGuard near s (s.now + dt)) (padView near (advance dt s)) := by
  refine ⟨advance_now dt s, fun x hx => .inl ⟨x, ?_, rfl, rfl, le_rfl⟩, ?_, .inl rfl⟩
  · simpa [padView] using hx
  · rintro b - hpass x rfl
    exact .inr (by simpa [PadView.Passes, padView] using hpass)

theorem drives_next (h : Held (startGuard near s n) (padView near t)) : Drives (MayStand near s) (.next t) := by
  rintro _ ⟨⟩
  exact h.driven

theorem drives_need {c : Bool} (h : Held (startGuard near s n) (padView near t)) : Drives (MayStand near s) (need c t) := by
  unfold need
  split
  · exact drives_next h
  · rintro _ ⟨⟩

theorem KeepsPads.drives {o : Out} (h : KeepsPads s o) : Drives (MayStand true s) o :=
  fun t ht x hx => .inl ⟨x, h t ht ▸ hx, rfl, rfl, le_rfl⟩

/-! ## Safety channels -/

theorem drives_execSafetyMessage (dt : Nat) (codes : List Nat) (rd : Bool) (s : State) :
    Drives (MayStand true s) (execSafetyMessage dt codes rd s) :=
  drives_next (held_watchSafety (held_onPacket (fun m _ => held_safetyMessageBody m) _ _ _ (held_advance ..)))

theorem drives_execConnectionExpiry (dt : Nat) (d : Side) (s : State) :
    Drives (MayStand true s) (execConnectionExpiry dt d s) := by
  refine drives_next (held_watchSafety (held_when_ (fun t ht => ?_) (held_advance true dt s)))
  have hu := held_checkPermit d (ht.of_view (t := modSide d (fun c => { c with connOpen := false, demand := 0 }) t)
    (padView_modSide rfl))
  simp only []
  split
  · exact hu.of_view ((padView_count ..).trans (padView_logEvent ..))
  · exact hu

theorem drives_execSafetyExchange (dt : Nat) (a b : Bool) (ia ib : Nat) (s : State) :
    Drives (MayStand true s) (execSafetyExchange dt a b ia ib s) := by
  refine drives_next (held_when_ (fun t ht => ?_) (held_advance true dt s))
  refine Held.of_view (held_watchSafety ?_) (padView_releaseMessage _)
  exact held_compareWords (held_judgeWord _ _ _ (held_judgeWord _ _ _ (((ht.of_view (padView_count ..)).of_view
    (padView_modSide rfl)).of_view (padView_modSide rfl))))

theorem drives_execExchangeTimeout (dt : Nat) (d : Side) (s : State) :
    Drives (MayStand true s) (execExchangeTimeout dt d s) :=
  drives_next (held_watchSafety (held_when_ (fun _ ht => held_enterSafeStop _ _ ht) (held_advance ..)))

theorem drives_execNoticeLine (dt : Nat) (d : Side) (s : State) : Drives (MayStand true s) (execNoticeLine dt d s) := by
  refine drives_next (held_watchSafety ?_) (n := s.now + dt)
  simp only []
  split
  · exact held_enterSafeStop _ _ (held_advance ..)
  · exact held_advance ..

theorem drives_execSafetyHallEdge (dt : Nat) (d : Side) (code : BitVec 3) (s : State) :
    Drives (MayStand true s) (execSafetyHallEdge dt d code s) :=
  drives_next (held_watchSafety (held_when_ (fun _ ht => held_safetyEdge _ _ ht) (held_advance ..)))

theorem drives_execSpeedBelowWindow (dt : Nat) (d : Side) (s : State) :
    Drives (MayStand true s) (execSpeedBelowWindow dt d s) :=
  drives_next (held_watchSafety (held_when_ (fun _ => held_leaveWindow _) (held_advance ..)))

theorem drives_execSpeedWindowTimeout (dt : Nat) (d : Side) (s : State) :
    Drives (MayStand true s) (execSpeedWindowTimeout dt d s) :=
  drives_next (held_watchSafety (held_when_ (fun _ ht => held_enterSafeStop _ _ ht) (held_advance ..)))

theorem drives_execBnMarker (dt : Nat) (d : Side) (s : State) : Drives (MayStand true s) (execBnMarker dt d s) := by
  rintro _ ⟨⟩
  have hv : ∀ f : State → State, (watchSafety f (advance dt s)).pulses = (f (advance dt s)).pulses :=
    fun f => congrArg PadView.pulses (padView_watchSafety (near := true) f _)
  rw [hv]
  unfold when_
  split
  · exact driven_bnMarkerAt d (held_advance true dt s)
  · exact (held_advance true dt s).driven

theorem drives_execBnMarkerMissing (dt : Nat) (d : Side) (s : State) :
    Drives (MayStand true s) (execBnMarkerMissing dt d s) := by
  refine drives_next (held_watchSafety (held_when_ (fun t ht => ?_) (held_advance true dt s)))
  split
  · exact ht
  · split
    · exact held_gapImplausible d (ht.of_view (padView_modSide rfl))
    · exact ht

theorem drives_execFirePadPulse (dt : Nat) (d : Side) (bank width : Nat) (s : State) :
    Drives (MayStand true s) (execFirePadPulse dt d bank width s) :=
  drives_need (held_watchSafety (held_when_ (fun _ ht => held_padPulse _ _ _ ht) (held_advance ..)))

theorem drives_execSinSample (dt : Nat) (d : Side) (a0 b0 a1 b1 : Bool) (s : State) :
    Drives (MayStand true s) (execSinSample dt d a0 b0 a1 b1 s) :=
  drives_next (held_watchSafety (held_when_ (fun _ ht => held_afterInputs _ _ (ht.of_view (padView_modSide rfl)))
    (held_advance ..)))

theorem drives_execDiscrepancyTimeout (dt : Nat) (d : Side) (input : Nat) (s : State) :
    Drives (MayStand true s) (execDiscrepancyTimeout dt d input s) := by
  refine drives_need (held_watchSafety (held_afterInputs _ _ ((held_advance true dt s).of_view (padView_modSide ?_))))
  split
  · split <;> rfl
  · split <;> rfl

theorem drives_execSoutReadback (dt : Nat) (d : Side) (level : Bool) (s : State) :
    Drives (MayStand true s) (execSoutReadback dt d level s) := by
  refine drives_next (held_watchSafety (held_when_ (fun t ht => ?_) (held_advance true dt s)))
  extract_lets u
  have hu : Held _ (padView true u) := ht.of_view (padView_modSide rfl)
  split
  · exact held_soutFails _ hu
  · exact hu

theorem drives_execSoutTestSample (dt : Nat) (d : Side) (level : Bool) (s : State) :
    Drives (MayStand true s) (execSoutTestSample dt d level s) := by
  refine drives_next (held_watchSafety (held_when_ (fun t ht => ?_) (held_advance true dt s)))
  extract_lets u
  have hu : Held _ (padView true u) := ht.of_view (padView_modSide rfl)
  split
  · exact held_soutFails _ hu
  · exact hu

theorem drives_execSafetySensorRead (dt : Nat) (d : Side) (raw : Option Int) (s : State) :
    Drives (MayStand true s) (execSafetySensorRead dt d raw s) := by
  refine drives_next (held_watchSafety (held_when_ (fun t ht => ?_) (held_advance true dt s)))
  extract_lets reading u
  have hu : Held _ (padView true u) := ht.of_view (padView_modSide rfl)
  split
  · exact held_enterSafeStop _ _ hu
  · exact hu

theorem drives_execSafetySelfTestFailure (dt : Nat) (d : Side) (s : State) :
    Drives (MayStand true s) (execSafetySelfTestFailure dt d s) :=
  drives_next (held_watchSafety (held_enterSafeStop _ _ (held_advance ..)))

theorem drives_execNearZoneLine (dt channel : Nat) (fired : List (Nat × Nat)) (s : State) :
    Drives (MayStand true s) (execNearZoneLine dt channel fired s) :=
  drives_need (held_when_ (fun _ => held_nearZone _) (held_advance ..))

/-! ## Motor, supplies, reset and reference -/

theorem drives_execHallEdge (dt : Nat) (code : BitVec 3) (observer : Nat) (s : State) :
    Drives (MayStand true s) (execHallEdge dt code observer s) :=
  drives_next (held_watchSafety (held_when_ (fun _ ht => held_observe _ _ (ht.of_view rfl)) (held_advance ..)))

theorem drives_execHallInvalid (dt : Nat) (code : BitVec 3) (s : State) :
    Drives (MayStand true s) (execHallInvalid dt code s) :=
  drives_next (held_watchSafety (held_when_ (fun _ ht =>
    ((held_motorFault .hallInvalid ht).of_view (padView_removeTorque ..)).of_view (padView_removeTorque ..)) (held_advance ..)))

theorem drives_execStallTimeout (dt : Nat) (s : State) : Drives (MayStand true s) (execStallTimeout dt s) :=
  drives_next (held_watchSafety (held_when_ (fun _ => held_motorFault _) (held_advance ..)))

theorem drives_execOvercurrent (dt : Nat) (s : State) : Drives (MayStand true s) (execOvercurrent dt s) :=
  drives_next (held_watchSafety (held_when_ (fun _ => held_motorFault _) (held_advance ..)))

theorem drives_execSensorReading (dt : Nat) (readings : List (Option Int)) (s : State) :
    Drives (MayStand true s) (execSensorReading dt readings s) :=
  drives_need (held_watchSafety (held_when_ (fun _ ht => held_sensorReading _ (ht.of_view (padView_modThermal ..)))
    (held_advance ..)))

theorem drives_execLossOfLock (seen : LockMonitor) (s : State) : Drives (MayStand true s) (execLossOfLock seen s) :=
  drives_next (held_when_ (fun _ => held_lossOfLock) (held_advance ..))

theorem drives_execReferenceReturn (dt edges : Nat) (ppm : Int) (s : State) :
    Drives (MayStand true s) (execReferenceReturn dt edges ppm s) := by
  refine drives_next (held_when_ (fun t ht => ?_) (held_advance true dt s))
  split
  · exact ht.of_view ((padView_count ..).trans (padView_logEvent ..))
  · split
    · exact held_lossOfLock ht
    · exact ht.of_view rfl

theorem drives_execDipBegin (dt : Nat) (fall : RailFall) (s : State) : Drives (MayStand true s) (execDipBegin dt fall s) :=
  drives_need (held_railsFall _ (held_advance ..) rfl)

theorem drives_execResetLevelFall (dt : Nat) (fall : RailFall) (s : State) :
    Drives (MayStand true s) (execResetLevelFall dt fall s) :=
  drives_need (held_railsFall _ (held_advance ..) rfl)

theorem drives_execSupplyReturnLevel (rise : RailRise) (s : State) :
    Drives (MayStand true s) (execSupplyReturnLevel rise s) :=
  drives_need (held_railsAt _ (held_advance ..) rfl)

theorem drives_execNresetLow (dt low : Nat) (s : State) : Drives (MayStand true s) (execNresetLow dt low s) := by
  have ht : Held _ (padView true { advance dt s with free := (advance dt s).free + 1 }) := (held_advance true dt s).of_view rfl
  refine drives_next ?_ (n := s.now + dt)
  split
  · exact held_resetDevice _ _ _ _ ht rfl
  · exact ht

theorem drives_execProcessorWatchdog (dt : Nat) (s : State) : Drives (MayStand true s) (execProcessorWatchdog dt s) :=
  drives_next (held_when_ (fun _ ht => held_resetDevice _ _ _ _ ht rfl) (held_advance ..))

theorem drives_execBypass (dt : Nat) (s : State) : Drives (MayStand true s) (execBypass dt s) :=
  drives_next ((held_advance true dt s).of_view rfl)

theorem drives_execIdcode (dt : Nat) (s : State) : Drives (MayStand true s) (execIdcode dt s) :=
  drives_next ((held_advance true dt s).of_view rfl)

theorem drives_execSamplePreload (dt : Nat) (scan : BoundaryScan) (s : State) :
    Drives (MayStand true s) (execSamplePreload dt scan s) :=
  drives_need (held_jtagHold _ _ (held_advance ..) rfl)

theorem drives_execExtest (dt : Nat) (scan : BoundaryScan) (s : State) : Drives (MayStand true s) (execExtest dt scan s) :=
  drives_need (held_jtagHold _ _ (held_advance ..) rfl)

/-! ## Image, requests and the schedule -/

theorem drives_execImageVerify (dt : Nat) (nor : Option NorPart) (s : State) :
    Drives (MayStand true s) (execImageVerify dt nor s) := by
  refine drives_next (held_when_ (fun t ht => held_watchSafety ?_) (held_advance true dt s))
  extract_lets suits _ _ u
  have hu : Held _ (padView true u) := ht.of_view rfl
  split
  · exact hu
  · split
    · exact held_verifyImage _ hu
    · exact hu.of_view (padView_startCounter ..)

theorem drives_execImageAccept (dt : Nat) (s : State) : Drives (MayStand true s) (execImageAccept dt s) :=
  drives_next (held_when_ (fun _ ht => held_watchSafety (held_acceptImage ht rfl)) (held_advance ..))

theorem drives_execModeRequest (dt : Nat) (codes : List Nat) (rd : Bool) (s : State) :
    Drives (MayStand true s) (execModeRequest dt codes rd s) :=
  drives_next (held_watchSafety (held_onPacket (fun m _ hu => held_modeRequest m hu rfl) _ _ _ (held_advance ..)))

theorem drives_execNeardistPeriod (dt : Nat) (s : State) : Drives (MayStand true s) (execNeardistPeriod dt s) :=
  drives_next (held_when_ (fun _ ht => ht.of_view (padView_modNear ..)) (held_advance ..))

theorem drives_execSheetBoundary (dt : Nat) (s : State) : Drives (MayStand true s) (execSheetBoundary dt s) := by
  refine drives_next (held_watchSafety ?_) (n := s.now + dt)
  split
  · exact held_sheetBoundary (held_advance ..) rfl
  · exact held_advance ..

theorem drives_execTimingOnlyBoundary (dt : Nat) (s : State) :
    Drives (MayStand true s) (execTimingOnlyBoundary dt s) := by
  refine drives_next ?_ (n := s.now + dt)
  split
  · exact held_timingBoundary (held_advance ..) rfl
  · split
    · exact held_stopBoundary (held_advance ..) rfl
    · exact held_advance ..

theorem drives_execBearingPeriodStart (dt : Nat) (s : State) : Drives (MayStand true s) (execBearingPeriodStart dt s) := by
  refine drives_next ?_ (n := s.now + dt)
  split
  · exact held_advance ..
  · exact held_startPeriod _ (held_advance ..)

theorem drives_execDiagnosticSlot (dt bank : Nat) (high rises : List Nat) (firings : List (List (Nat × Nat)))
    (measured : Option Nat) (s : State) : Drives (MayStand true s) (execDiagnosticSlot dt bank high rises firings measured s) :=
  drives_need (held_when_ (fun _ ht => held_takeSlot _ _ _ _ _ ht) (held_advance ..))

/-! ## The commands that drive -/

theorem period_of_slotDue {p q : Nat} (h : slotDue s = some (p, q)) : s.seq.period = some p := by
  unfold slotDue at h
  split at h
  · cases h
  · next r hr =>
    split at h
    · obtain ⟨rfl, -⟩ := Prod.mk.inj (Option.some.inj h)
      exact hr
    · cases h

theorem drives_execShotSlot (dt : Nat) (s : State) : Drives (MayStand true s) (execShotSlot dt s) := by
  rintro _ ⟨⟩
  have hv : ∀ f : State → State, (watchSafety f (advance dt s)).pulses = (f (advance dt s)).pulses :=
    fun f => congrArg PadView.pulses (padView_watchSafety (near := true) f _)
  rw [hv]
  split
  · exact (held_advance true dt s).driven
  · next p q hdue =>
    exact driven_fireSlot p q (by rw [period_of_slotDue hdue]; nofun) rfl (held_advance true dt s)

theorem drives_execOpticalSegment (dt : Nat) (events : List (Nat × List (Nat × Nat × Nat))) (light : List (Nat × Nat))
    (widths : List (Nat × Int)) (s : State) : Drives (MayStand false s) (execOpticalSegment dt events light widths s) := by
  refine drives_next ?_ (n := s.now + dt)
  split
  · exact held_advance ..
  · split
    · exact held_watchSafety (held_opticalSegment _ _ _ rfl (held_advance ..))
    · exact held_advance ..

/-- In a Start before the first Traverse frame, with the gate test not yet taken (R317). -/
def TestDue (s : State) : Prop := s.phase = .spinUp ∧ s.safety.gateTested = false ∧ beforeFrames s = true

/-- What may stand at the pads at the instant `n` of a gate test in `s`: a test pulse does not end at the instant it is driven. -/
def gateTestGuard (s : State) (n : Nat) : Guard where
  now := n
  spent := none
  ok x := (x.at_ = n ∧ TestDue s ∧ x.width = ns 2) ∨ MayStand true s x
  cut _ h hlt := h.elim (fun h => absurd h.1 (Nat.ne_of_lt hlt)) fun h => .inr (h.shorten _)

theorem held_gateTest (a b : List (Bool × Bool × Bool)) (hdue : TestDue s) (h : Held (gateTestGuard s n) (padView true t)) :
    let u := { t with
      safety := { t.safety with gateTested := true }
      pulses := (List.range 32).map (fun b => { bank := b, at_ := t.now, width := ns 2, code := none }) }
    let u := if a.all gateOk then u else enterSafeStop .a 13 u
    Held (gateTestGuard s n) (padView true (if b.all gateOk then u else enterSafeStop .b 13 u)) := by
  extract_lets _ u u₁
  have hu : Held (gateTestGuard s n) (padView true u) := by
    refine ⟨h.now, fun x hx => .inl ?_, h.passing, h.gap⟩
    obtain ⟨k, -, rfl⟩ := List.mem_map.1 hx
    exact ⟨h.now, hdue, rfl⟩
  have hu₁ : Held (gateTestGuard s n) (padView true u₁) := by
    dsimp only [u₁]
    split
    · exact hu
    · exact held_enterSafeStop _ _ hu
  split
  · exact hu₁
  · exact held_enterSafeStop _ _ hu₁

theorem drives_execGateTest (dt : Nat) (a b : List (Bool × Bool × Bool)) (s : State) :
    Drives (fun x => (TestDue s ∧ x.width = ns 2) ∨ MayStand true s x) (execGateTest dt a b s) := by
  have h := held_advance true dt s
  have hs : Held (gateTestGuard s (s.now + dt)) (padView true (advance dt s)) :=
    ⟨h.now, fun x hx => .inr (h.driven x hx), fun k hk hpass x hx => .inr (h.passing k hk hpass x hx), .inl rfl⟩
  have left (u : State) (hu : Held (gateTestGuard s (s.now + dt)) (padView true u)) (x : FirePulse) (hx : x ∈ u.pulses) :=
    (hu.driven x hx).imp_left And.right
  unfold execGateTest need
  split
  · rintro _ ⟨⟩
    refine left _ (held_watchSafety ?_)
    unfold when_
    split
    · next hdue => exact held_gateTest a b (by simp_all [TestDue]) hs
    · exact hs
  · rintro _ ⟨⟩

end Sys2Proof.Proofs
end

section
/-! No pulse reaches the FIRE pads without both permits. -/

namespace Sys2Proof.Proofs

open Sys2Proof Sys2Proof.Machine Sys2Proof.Laws

variable {s t : State}

/-- Beside the gate test and the optical segment every command drives only what both channels let through. -/
theorem drives_exec {i : Instr} (hg : ∀ dt a b, i ≠ .gateTest dt a b) (ho : ∀ dt e l w, i ≠ .opticalSegment dt e l w)
    (s : State) : Drives (MayStand true s) (exec i s) := by
  cases i with
  | gateTest dt a b => exact absurd rfl (hg dt a b)
  | opticalSegment dt e l w => exact absurd rfl (ho dt e l w)
  | powerOnReset _ _ => exact (keepsPads_execPowerOnReset _ _ _).drives
  | nresetLow _ _ => exact drives_execNresetLow _ _ _
  | resetRelease _ _ _ _ => exact (keepsPads_execResetRelease _ _ _ _ _).drives
  | crystalStartupDone _ _ => exact (keepsPads_execCrystalStartupDone _ _ _).drives
  | referenceDetectRetry _ _ => exact (keepsPads_execReferenceDetectRetry _ _ _).drives
  | lockDeclared _ _ _ => exact (keepsPads_execLockDeclared _ _ _ _).drives
  | imageVerify _ _ => exact drives_execImageVerify _ _ _
  | imageAccept _ => exact drives_execImageAccept _ _
  | recorderMount _ _ _ => exact (keepsPads_execRecorderMount _ _ _ _).drives
  | hallEdge _ _ _ => exact drives_execHallEdge _ _ _ _
  | hallInvalid _ _ => exact drives_execHallInvalid _ _ _
  | stallTimeout _ => exact drives_execStallTimeout _ _
  | overcurrent _ => exact drives_execOvercurrent _ _
  | timingOnlyBoundary _ => exact drives_execTimingOnlyBoundary _ _
  | sheetBoundary _ => exact drives_execSheetBoundary _ _
  | traverseFrame _ => exact (keepsPads_execTraverseFrame _ _).drives
  | diagnosticSlot _ _ _ _ _ _ => exact drives_execDiagnosticSlot _ _ _ _ _ _ _
  | diagnosticWindowClose _ => exact (keepsPads_execDiagnosticWindowClose _ _).drives
  | engineSelfTest _ _ _ _ => exact (keepsPads_execEngineSelfTest _ _ _ _ _).drives
  | contourSelfTest _ _ _ _ => exact (keepsPads_execContourSelfTest _ _ _ _ _).drives
  | coreSegment _ _ _ _ => exact (keepsPads_execCoreSegment _ _ _ _ _).drives
  | calibrationProcessing _ _ => exact (keepsPads_execCalibrationProcessing _ _ _).drives
  | calibrationAbandon _ => exact (keepsPads_execCalibrationAbandon _ _).drives
  | datumEdgePair _ _ => exact (keepsPads_execDatumEdgePair _ _ _).drives
  | bearingPeriodStart _ => exact drives_execBearingPeriodStart _ _
  | ambientEvaluation _ _ => exact (keepsPads_execAmbientEvaluation _ _ _).drives
  | shotSlot _ => exact drives_execShotSlot _ _
  | rangeWindowEnd _ _ => exact (keepsPads_execRangeWindowEnd _ _ _).drives
  | coincidenceEvent _ _ _ _ => exact (keepsPads_execCoincidenceEvent _ _ _ _ _).drives
  | recoveryEnd _ _ => exact (keepsPads_execRecoveryEnd _ _ _).drives
  | nearZoneLine _ _ _ => exact drives_execNearZoneLine _ _ _ _
  | holdingRegisterFlush _ _ => exact (keepsPads_execHoldingRegisterFlush _ _ _).drives
  | markerApply _ _ => exact (keepsPads_execMarkerApply _ _ _).drives
  | eventItem _ _ => exact (keepsPads_execEventItem _ _ _).drives
  | dropItem _ _ => exact (keepsPads_execDropItem _ _ _).drives
  | contextClose _ _ _ => exact (keepsPads_execContextClose _ _ _ _).drives
  | closeCommand _ => exact (keepsPads_execCloseCommand _ _).drives
  | grantTimeout _ _ => exact (keepsPads_execGrantTimeout _ _ _).drives
  | engineFailure _ _ => exact (keepsPads_execEngineFailure _ _ _).drives
  | spareSubstitution _ => exact (keepsPads_execSpareSubstitution _ _).drives
  | contourStart _ _ _ => exact (keepsPads_execContourStart _ _ _ _).drives
  | contourRecord _ _ => exact (keepsPads_execContourRecord _ _ _).drives
  | contourWatchdog _ _ => exact (keepsPads_execContourWatchdog _ _ _).drives
  | pointPacketRelease _ _ => exact (keepsPads_execPointPacketRelease _ _ _).drives
  | sheetTrailer _ => exact (keepsPads_execSheetTrailer _ _).drives
  | safeStopTrailer _ => exact (keepsPads_execSafeStopTrailer _ _).drives
  | dumpCopy _ => exact (keepsPads_execDumpCopy _ _).drives
  | packetTransmit _ => exact (keepsPads_execPacketTransmit _ _).drives
  | alignmentMarker _ => exact (keepsPads_execAlignmentMarker _ _).drives
  | downstreamSleep _ => exact (keepsPads_execDownstreamSleep _ _).drives
  | upstreamStage _ _ => exact (keepsPads_execUpstreamStage _ _ _).drives
  | upstreamStageTimeout _ => exact (keepsPads_execUpstreamStageTimeout _ _).drives
  | symbolLockLoss _ => exact (keepsPads_execSymbolLockLoss _ _).drives
  | lossOfSignal _ => exact (keepsPads_execLossOfSignal _ _).drives
  | uts _ _ => exact (keepsPads_execUts _ _ _).drives
  | trainingTimeout _ => exact (keepsPads_execTrainingTimeout _ _).drives
  | widthRise _ => exact (keepsPads_execWidthRise _ _).drives
  | linkDown _ => exact (keepsPads_execLinkDown _ _).drives
  | upstreamSleep _ _ => exact (keepsPads_execUpstreamSleep _ _ _).drives
  | laneTestStart _ => exact (keepsPads_execLaneTestStart _ _).drives
  | laneTestEnd _ _ => exact (keepsPads_execLaneTestEnd _ _ _).drives
  | timeSync _ _ _ => exact (keepsPads_execTimeSync _ _ _ _).drives
  | syncStale _ => exact (keepsPads_execSyncStale _ _).drives
  | modeRequest _ _ _ => exact drives_execModeRequest _ _ _ _
  | statusQuery _ _ _ => exact (keepsPads_execStatusQuery _ _ _ _).drives
  | hostHello _ _ _ => exact (keepsPads_execHostHello _ _ _ _).drives
  | hostFinish _ _ _ => exact (keepsPads_execHostFinish _ _ _ _).drives
  | hostFinishTimeout _ => exact (keepsPads_execHostFinishTimeout _ _).drives
  | hostClose _ _ _ => exact (keepsPads_execHostClose _ _ _ _).drives
  | listIncidents _ _ _ => exact (keepsPads_execListIncidents _ _ _ _).drives
  | readRecord _ _ _ => exact (keepsPads_execReadRecord _ _ _ _).drives
  | releaseIncident _ _ _ => exact (keepsPads_execReleaseIncident _ _ _ _).drives
  | mark _ _ _ => exact (keepsPads_execMark _ _ _ _).drives
  | abortRead _ _ _ => exact (keepsPads_execAbortRead _ _ _ _).drives
  | safetyMessage _ _ _ => exact drives_execSafetyMessage _ _ _ _
  | connectionExpiry _ _ => exact drives_execConnectionExpiry _ _ _
  | safetyExchange _ _ _ _ _ => exact drives_execSafetyExchange _ _ _ _ _ _
  | exchangeTimeout _ _ => exact drives_execExchangeTimeout _ _ _
  | noticeLine _ _ => exact drives_execNoticeLine _ _ _
  | safetyHallEdge _ _ _ => exact drives_execSafetyHallEdge _ _ _ _
  | speedWindowTimeout _ _ => exact drives_execSpeedWindowTimeout _ _ _
  | bnMarker _ _ => exact drives_execBnMarker _ _ _
  | firePadPulse _ _ _ _ => exact drives_execFirePadPulse _ _ _ _ _
  | torqueRemoval _ _ => exact (keepsPads_execTorqueRemoval _ _ _).drives
  | standstill _ _ => exact (keepsPads_execStandstill _ _ _).drives
  | sinSample _ _ _ _ _ _ => exact drives_execSinSample _ _ _ _ _ _ _
  | discrepancyTimeout _ _ _ => exact drives_execDiscrepancyTimeout _ _ _ _
  | soutReadback _ _ _ => exact drives_execSoutReadback _ _ _ _
  | soutTestPulse _ _ => exact (keepsPads_execSoutTestPulse _ _ _).drives
  | soutTestSample _ _ _ => exact drives_execSoutTestSample _ _ _ _
  | safetySensorRead _ _ _ => exact drives_execSafetySensorRead _ _ _ _
  | sensorReading _ _ => exact drives_execSensorReading _ _ _
  | biasOvervoltage _ => exact (keepsPads_execBiasOvervoltage _ _).drives
  | biasReadback _ => exact (keepsPads_execBiasReadback _ _).drives
  | auxConversionDone _ _ _ _ => exact (keepsPads_execAuxConversionDone _ _ _ _ _).drives
  | urgentRequest _ _ => exact (keepsPads_execUrgentRequest _ _ _).drives
  | neardistValueReady _ => exact (keepsPads_execNeardistValueReady _ _).drives
  | neardistPeriod _ => exact drives_execNeardistPeriod _ _
  | neardistNoDataTimeout _ => exact (keepsPads_execNeardistNoDataTimeout _ _).drives
  | referenceLoss _ => exact (keepsPads_execReferenceLoss _ _).drives
  | referenceReturn _ _ _ => exact drives_execReferenceReturn _ _ _ _
  | lossOfLock _ => exact drives_execLossOfLock _ _
  | outputsReturn _ => exact (keepsPads_execOutputsReturn _ _).drives
  | linkPllHoldExpiry _ => exact (keepsPads_execLinkPllHoldExpiry _ _).drives
  | localCounterWrap => exact (keepsPads_execLocalCounterWrap _).drives
  | syncInEdge _ _ => exact (keepsPads_execSyncInEdge _ _ _).drives
  | dipBegin _ _ => exact drives_execDipBegin _ _ _
  | dipEnd _ => exact (keepsPads_execDipEnd _ _).drives
  | dipHoldRelease _ => exact (keepsPads_execDipHoldRelease _ _).drives
  | resetLevelFall _ _ => exact drives_execResetLevelFall _ _ _
  | processorWatchdog _ => exact drives_execProcessorWatchdog _ _
  | crashTrigger _ _ _ => exact (keepsPads_execCrashTrigger _ _ _ _).drives
  | incidentTrigger _ => exact (keepsPads_execIncidentTrigger _ _).drives
  | commitPhase1 _ => exact (keepsPads_execCommitPhase1 _ _).drives
  | postTriggerEnd _ => exact (keepsPads_execPostTriggerEnd _ _).drives
  | commitPhase2 _ => exact (keepsPads_execCommitPhase2 _ _).drives
  | bodyBlockForm _ => exact (keepsPads_execBodyBlockForm _ _).drives
  | segmentClose _ => exact (keepsPads_execSegmentClose _ _).drives
  | nandProgramDone _ _ _ => exact (keepsPads_execNandProgramDone _ _ _ _).drives
  | nandEraseDone _ _ => exact (keepsPads_execNandEraseDone _ _ _).drives
  | nandReadDone _ _ => exact (keepsPads_execNandReadDone _ _ _).drives
  | scrub _ _ => exact (keepsPads_execScrub _ _ _).drives
  | poweredHour _ => exact (keepsPads_execPoweredHour _ _).drives
  | descriptorComplete _ _ => exact (keepsPads_execDescriptorComplete _ _ _).drives
  | channelHalt _ _ _ => exact (keepsPads_execChannelHalt _ _ _ _).drives
  | eventLogWrite _ => exact (keepsPads_execEventLogWrite _ _).drives
  | statusPageAdvance _ => exact (keepsPads_execStatusPageAdvance _ _).drives
  | bypass _ => exact drives_execBypass _ _
  | idcode _ => exact drives_execIdcode _ _
  | samplePreload _ _ => exact drives_execSamplePreload _ _ _
  | extest _ _ => exact drives_execExtest _ _ _
  | jtagStatusRead _ _ _ => exact (keepsPads_execJtagStatusRead _ _ _ _).drives
  | speedBelowWindow _ _ => exact drives_execSpeedBelowWindow _ _ _
  | bnMarkerMissing _ _ => exact drives_execBnMarkerMissing _ _ _
  | safetySelfTestFailure _ _ => exact drives_execSafetySelfTestFailure _ _ _
  | soutTestPulseEnd _ _ => exact (keepsPads_execSoutTestPulseEnd _ _ _).drives
  | checkerSync _ _ => exact (keepsPads_execCheckerSync _ _ _).drives
  | checkerSyncLoss _ _ _ _ => exact (keepsPads_execCheckerSyncLoss _ _ _ _ _).drives
  | upstreamPacketDiscard _ _ _ => exact (keepsPads_execUpstreamPacketDiscard _ _ _ _).drives
  | nandResponseTimeout _ => exact (keepsPads_execNandResponseTimeout _ _).drives
  | norPageProgramDone _ _ => exact (keepsPads_execNorPageProgramDone _ _ _).drives
  | norSectorEraseDone _ _ => exact (keepsPads_execNorSectorEraseDone _ _ _).drives
  | supplyReturnLevel _ => exact drives_execSupplyReturnLevel _ _

/-- What may stand at the pads after a command meets the statement. -/
theorem passes_side {near : Bool} {b : Nat} (h : (padView near s).Passes b) (d : Side) :
    (sideOf s d).permit = true ∧ b ∉ (sideOf s d).veto ∧ (near = true → b ∉ (sideOf s d).nearVeto) := by
  obtain ⟨pa, pb, va, vb⟩ := h
  cases near <;> cases d <;> simp_all [padView, gateOf, sideOf]

/-- Settles O30: what every command leaves at the pads follows from the pads' view of the state (the instant, the period, the
pulses, and the permit and the banks each channel holds back), which all but the driving commands only narrow. -/
theorem noPulseWithoutBothPermits : Obligations.NoPulseWithoutBothPermits := by
  unfold Obligations.NoPulseWithoutBothPermits
  intro s t hstep x hx
  unfold step at hstep
  split at hstep
  · cases hstep
    exact .inl ⟨x, hx, rfl, rfl, le_rfl⟩
  · next c r hc =>
    let u : State := { s with pending := r }
    have gates {near : Bool} (hnear : near = true ∨ ∃ dt e l w, c = .opticalSegment dt e l w) (hm : MayStand near u x) :
        (∃ y ∈ s.pulses, y.bank = x.bank ∧ y.at_ = x.at_ ∧ x.width ≤ y.width) ∨
        ∀ d : Side, (sideOf s d).permit = true ∧ x.bank ∉ (sideOf s d).veto ∧
          (x.bank ∈ (sideOf s d).nearVeto → ∃ dt e l w r, s.pending = .opticalSegment dt e l w :: r) := by
      refine hm.imp_right fun hpass d => ?_
      obtain ⟨hp, hv, hn⟩ := passes_side (s := s) hpass d
      refine ⟨hp, hv, fun hb => ?_⟩
      obtain rfl | ⟨dt, e, l, w, rfl⟩ := hnear
      · exact absurd hb (hn rfl)
      · exact ⟨dt, e, l, w, r, hc⟩
    by_cases hg : ∃ dt a b, c = .gateTest dt a b
    · obtain ⟨dt, a, b, rfl⟩ := hg
      rcases drives_execGateTest dt a b u t hstep x hx with ⟨⟨hph, hgt, hbf⟩, hw⟩ | hm
      · exact .inr (.inl ⟨hph, hgt, hbf, hw, dt, a, b, r, hc⟩)
      · exact (gates (.inl rfl) hm).imp_right .inr
    · by_cases ho : ∃ dt e l w, c = .opticalSegment dt e l w
      · obtain ⟨dt, e, l, w, rfl⟩ := ho
        exact (gates (.inr ⟨dt, e, l, w, rfl⟩) (drives_execOpticalSegment dt e l w u t hstep x hx)).imp_right .inr
      · push Not at hg ho
        exact (gates (.inl rfl) (drives_exec hg ho u t hstep x hx)).imp_right .inr

end Sys2Proof.Proofs
end

section
/-! Declared events go into the buffer or into the tally of their context (R85, R99 to R104). -/

namespace Sys2Proof.Proofs

open Sys2Proof Sys2Proof.Machine Sys2Proof.Laws Sys2Proof.Safety

variable {ch tap : Nat} {fired : List (Nat × Nat)} {u : State} {a : Arm}

/-! ## The tallies of a holding register -/

theorem tallyFor_cons (h : HoldEntry) (r : List HoldEntry) (x : Nat) :
    tallyFor (h :: r) x = if tagCtx h.tag = x then h.tally else tallyFor r x := by
  unfold tallyFor
  by_cases hx : tagCtx h.tag = x <;> simp [hx]

/-- A dropped event is tallied in the entry of its context (R104). -/
def tallied (h : HoldEntry) : HoldEntry := { h with tally := min 65535 (h.tally + 1) }

theorem tallyFor_tallied_self (tag : Word64) (l : List HoldEntry) :
    tallyFor (holdUpd tag tallied l) (tagCtx tag) = min 65535 (tallyFor l (tagCtx tag) + 1) := by
  induction l with
  | nil => simp [holdUpd, tallied, tallyFor]
  | cons h r ih =>
    unfold holdUpd
    split
    · next hx => simp [tallyFor_cons, tallied, hx]
    · next hx => simp [tallyFor_cons, hx, ih]

theorem tallyFor_tallied_ne {tag : Word64} {x : Nat} (hx : x ≠ tagCtx tag) (l : List HoldEntry) :
    tallyFor (holdUpd tag tallied l) x = tallyFor l x := by
  induction l with
  | nil => simp [holdUpd, tallied, tallyFor, hx.symm]
  | cons h r ih =>
    unfold holdUpd
    split
    · next ht => simp [tallyFor_cons, tallied, ht, hx.symm]
    · simp [tallyFor_cons, ih]

/-! ## Emptying the holding register -/

/-- The channel with another arm command and other counts of converted events. -/
def rearmed (arm : Option Arm) (converted : Table Nat) (c : Chan) : Chan := { c with arm := arm, converted := converted }

/-- The arm command and the counts of converted events play no part in emptying the holding register. -/
theorem flushHold_rearmed (ov : Bool) (now n : Nat) (arm : Option Arm) (converted : Table Nat) (c : Chan) :
    flushHold ov now n (rearmed arm converted c) = rearmed arm converted (flushHold ov now n c) := by
  induction n generalizing c with
  | zero => rfl
  | succ n ih =>
    unfold flushHold rearmed
    dsimp only
    split
    · rfl
    · split
      · rfl
      · next r _ =>
        split
        · exact ih { c with hold := r }
        · exact ih { c with buffer := _, hold := _ }

/-! ## What the operations of a channel leave -/

@[simp] theorem chanOf_setChan_self (c : Nat) (v : Chan) (s : State) : chanOf (setChan c v s) c = v := by
  simp [chanOf, setChan]

@[simp] theorem chanOf_count (c : Nat) (k : Counter) (n : Nat) (s : State) : chanOf (count k n s) c = chanOf s c := rfl

@[simp] theorem counterOf_setChan (c : Nat) (v : Chan) (k : Counter) (s : State) :
    counterOf (setChan c v s) k = counterOf s k := rfl

/-- The DATUM run's copy of an event stays in the run (R357). -/
theorem datumCopy_eq (ch tap : Nat) (a : Arm) (s : State) :
    datumCopy ch tap a s = { s with calib := (datumCopy ch tap a s).calib } := by
  unfold datumCopy
  split
  · rfl
  · simp only []
    split
    · split
      · rfl
      · split <;> rfl
    · rfl

@[simp] theorem datumCopy_now (ch tap : Nat) (a : Arm) (s : State) : (datumCopy ch tap a s).now = s.now := by
  rw [datumCopy_eq]

@[simp] theorem counterOf_datumCopy (ch tap : Nat) (a : Arm) (k : Counter) (s : State) :
    counterOf (datumCopy ch tap a s) k = counterOf s k := by
  rw [datumCopy_eq]
  rfl

@[simp] theorem chanOf_noteEvent_self (c : Nat) (s : State) : chanOf (noteEvent c s) c =
    { chanOf s c with lastEvent := some s.now, recent := (s.now :: (chanOf s c).recent).take 36 } :=
  chanOf_setChan_self ..

@[simp] theorem counterOf_noteEvent (c : Nat) (k : Counter) (s : State) : counterOf (noteEvent c s) k = counterOf s k := rfl

/-! ## Conversion -/

/-- A declared event of `a` falls into its range window while the TDC outputs run (R24, R100, R119). -/
structure InWindow (u : State) (ch tap : Nat) (a : Arm) : Prop where
  outputs : u.grat.outputs = true
  begun : a.fire ≤ u.now
  open_ : u.now < a.stop
  nonneg : 0 ≤ eventOf u ch tap a
  short : eventOf u ch tap a < (ns (modeTable u u.seq.mode).w : Nat)

/-- The arm command with one more converted event. -/
def armCounted (a : Arm) : Arm := { a with converted := a.converted + 1 }

/-- The counts of converted events with one more for a context. -/
def ctxCounted (t : Table Nat) (x : Nat) : Table Nat := Table.put t x (Table.getD 0 t x + 1)

theorem InWindow.not_leftOut (h : InWindow u ch tap a) :
    ¬(!u.grat.outputs ∨ u.now < a.fire ∨ a.stop ≤ u.now ∨ eventOf u ch tap a < 0 ∨
      ((ns (modeTable u u.seq.mode).w : Nat) : Int) ≤ eventOf u ch tap a) := by
  obtain ⟨ho, hf, hs, h0, hw⟩ := h
  simp only [ho, Bool.not_true, Bool.false_eq_true, false_or]
  omega

theorem convert_overDepth (harm : (chanOf u ch).arm = some a) (hin : InWindow u ch tap a) (hdeep : 8 ≤ a.converted) :
    convert ch tap u = count (.overDepth ch) 1 u := by
  simp only [convert, harm]
  rw [if_neg hin.not_leftOut, if_pos hdeep]

theorem convert_noCtx (harm : (chanOf u ch).arm = some a) (hin : InWindow u ch tap a) (hdeep : a.converted < 8)
    (hctx : a.noCtx = true) :
    convert ch tap u =
      count (.contextDrops ch) 1 (setChan ch { chanOf u ch with arm := some (armCounted a) } (datumCopy ch tap a u)) := by
  simp only [convert, harm]
  rw [if_neg hin.not_leftOut, if_neg (Nat.not_le.2 hdeep), if_pos hctx]
  rfl

/-- The item of a converted event (R99, R103). -/
def eventItem (u : State) (ch tap : Nat) (a : Arm) : Item :=
  { kind := 0, at_ := u.now
    word := a.tag ||| BitVec.ofNat 64 ((eventOf u ch tap a).toNat <<< 46) |||
      (if inRecovery u (chanOf u ch) then 1#64 <<< 62 else 0) }

/-- The channel with its holding register emptied as far as the buffer has room. -/
def flushed (u : State) (ch : Nat) : Chan := flush (inRecovery u (chanOf u ch)) u.now (chanOf u ch)

/-- The same with the event counted for its arm command and its context. -/
def counted (u : State) (ch : Nat) (a : Arm) : Chan :=
  rearmed (some (armCounted a)) (ctxCounted (chanOf u ch).converted (tagCtx a.tag)) (flushed u ch)

theorem pushEvent_counted (u : State) (ch tap : Nat) (a : Arm) :
    pushEvent (inRecovery u (chanOf u ch)) u.now (eventOf u ch tap a).toNat a.tag
        (rearmed (some (armCounted a)) (ctxCounted (chanOf u ch).converted (tagCtx a.tag)) (chanOf u ch)) =
      if hasRoom (flushed u ch) then
        ({ counted u ch a with buffer := (flushed u ch).buffer ++ [eventItem u ch tap a] }, false)
      else ({ counted u ch a with hold := holdUpd a.tag tallied (flushed u ch).hold }, true) := by
  unfold pushEvent
  rw [flush, flushHold_rearmed]
  rfl

theorem convert_pushEvent (harm : (chanOf u ch).arm = some a) (hin : InWindow u ch tap a) (hdeep : a.converted < 8)
    (hctx : a.noCtx = false) :
    let p := pushEvent (inRecovery u (chanOf u ch)) u.now (eventOf u ch tap a).toNat a.tag
      (rearmed (some (armCounted a)) (ctxCounted (chanOf u ch).converted (tagCtx a.tag)) (chanOf u ch))
    convert ch tap u = if p.2 then count (.tdcDrops ch) 1 (setChan ch p.1 (datumCopy ch tap a u))
      else setChan ch p.1 (datumCopy ch tap a u) := by
  simp only [convert, harm]
  rw [if_neg hin.not_leftOut, if_neg (Nat.not_le.2 hdeep), if_neg (by simp [hctx])]
  rfl

theorem convert_room (harm : (chanOf u ch).arm = some a) (hin : InWindow u ch tap a) (hdeep : a.converted < 8)
    (hctx : a.noCtx = false) (hroom : hasRoom (flushed u ch) = true) :
    convert ch tap u = setChan ch { counted u ch a with buffer := (flushed u ch).buffer ++ [eventItem u ch tap a] }
      (datumCopy ch tap a u) := by
  rw [convert_pushEvent harm hin hdeep hctx, pushEvent_counted]
  simp [hroom]

theorem convert_full (harm : (chanOf u ch).arm = some a) (hin : InWindow u ch tap a) (hdeep : a.converted < 8)
    (hctx : a.noCtx = false) (hroom : hasRoom (flushed u ch) = false) :
    convert ch tap u = count (.tdcDrops ch) 1
      (setChan ch { counted u ch a with hold := holdUpd a.tag tallied (flushed u ch).hold } (datumCopy ch tap a u)) := by
  rw [convert_pushEvent harm hin hdeep hctx, pushEvent_counted]
  simp [hroom]

/-! ## The firing -/

theorem exec_coincidenceEvent (dt : Nat) (s : State) (hch : ch < 1536) (htap : tap < 20) (hf : ∀ f ∈ fired, f.1 < 16) :
    exec (.coincidenceEvent dt ch fired tap) s = .next (firing ch fired tap (passPre ch (advance dt s))) := by
  have hall : fired.all (fun f => decide (f.1 < 16)) = true := by simpa using hf
  simp [exec, execCoincidenceEvent, need, hch, htap, hall]

theorem firing_declared (hg : gateDeclares u ch fired = true) (ho : overloads u ch fired = false) :
    firing ch fired tap u = noteEvent ch (convert ch tap u) := by
  simp [firing, hg, ho]

theorem firing_quiet (hg : gateDeclares u ch fired = false) (ho : overloads u ch fired = false) :
    firing ch fired tap u = u := by
  simp [firing, hg, ho]

theorem passPre_outputs (ch : Nat) (s : State) : (passPre ch s).grat.outputs = s.grat.outputs := by
  unfold passPre
  simp only []
  split
  · rfl
  · split
    · rfl
    · split <;> rfl

theorem inWindow_passPre {dt : Nat} {s : State} (ho : s.grat.outputs = true) (hf : a.fire ≤ (passPre ch (advance dt s)).now)
    (hs : (passPre ch (advance dt s)).now < a.stop) (h0 : 0 ≤ eventOf (passPre ch (advance dt s)) ch tap a)
    (hw : eventOf (passPre ch (advance dt s)) ch tap a <
      (ns (modeTable (passPre ch (advance dt s)) (passPre ch (advance dt s)).seq.mode).w : Nat)) :
    InWindow (passPre ch (advance dt s)) ch tap a :=
  ⟨by rw [passPre_outputs, advance_grat_outputs, ho], hf, hs, h0, hw⟩

/-- Settles O34, by the cases of a conversion: into the buffer, into the tally, beyond the depth, without a context. -/
theorem eventsAreConvertedOrTallied : Obligations.EventsAreConvertedOrTallied := by
  unfold Obligations.EventsAreConvertedOrTallied
  intro dt ch tap fired s hch htap hfired u c
  have hexec := exec_coincidenceEvent dt s hch htap hfired
  refine ⟨fun hg ho => ?_, fun a hg ho harm hctx hdeep hout hf hs h0 hw => ?_,
    fun a hg ho harm hout hf hs h0 hw => ⟨fun hdeep => ?_, fun hdeep hctx => ?_⟩⟩
  · rw [hexec, firing_quiet hg ho]
  all_goals
    have hin : InWindow u ch tap a := inWindow_passPre hout hf hs h0 hw
    refine ⟨_, hexec.trans (congrArg _ (firing_declared hg ho)), ?_⟩
  · cases hroom : hasRoom (flushed u ch)
    · rw [convert_full harm hin hdeep hctx hroom]
      simp only [chanOf_noteEvent_self, chanOf_count, chanOf_setChan_self]
      exact ⟨by simp, fun h => absurd (hroom.symm.trans h) nofun, fun _ =>
        ⟨rfl, tallyFor_tallied_self .., fun x hx => tallyFor_tallied_ne hx _, by simp⟩⟩
    · rw [convert_room harm hin hdeep hctx hroom]
      simp only [chanOf_noteEvent_self, chanOf_setChan_self]
      exact ⟨by simp, fun _ => ⟨(eventItem u ch tap a).word, rfl, rfl⟩, fun h => absurd (hroom.symm.trans h) nofun⟩
  · rw [convert_overDepth harm hin hdeep]
    simp [c, harm]
  · rw [convert_noCtx harm hin hdeep hctx]
    simp [c]

end Sys2Proof.Proofs
end

section
/-! What banks, channels and the facet gap's operators read after a pass over several units, after time has passed and after
the present slot's pulse was driven. -/

namespace Sys2Proof.Laws

open Sys2Proof Sys2Proof.Machine

/-! ## A pass over the units of a table -/

/-- A table in which each entry `g i`, `i` in the list, went through `f i` in turn. -/
@[irreducible] def passOver {α : Type} (d : α) (g : Nat → Nat) (f : Nat → α → α) : List Nat → Table α → Table α
  | [], t => t
  | i :: l, t => passOver d g f l (Table.put t (g i) (f i (Table.getD d t (g i))))

section
variable {α : Type} (d : α) {g : Nat → Nat} (f : Nat → α → α)

theorem getD_passOver_of_notMem {k : Nat} {l : List Nat} (hk : ∀ i ∈ l, k ≠ g i) (t : Table α) :
    Table.getD d (passOver d g f l t) k = Table.getD d t k := by
  induction l generalizing t with
  | nil => rw [passOver]
  | cons i l ih =>
    rw [List.forall_mem_cons] at hk
    rw [passOver, ih hk.2, Table.getD_put_ne _ _ _ _ hk.1]

theorem getD_passOver_of_mem (hg : g.Injective) {i : Nat} {l : List Nat} (hl : l.Nodup) (hi : i ∈ l) (t : Table α) :
    Table.getD d (passOver d g f l t) (g i) = f i (Table.getD d t (g i)) := by
  induction l generalizing t with
  | nil => cases hi
  | cons j l ih =>
    obtain ⟨hj, hl⟩ := List.nodup_cons.1 hl
    rw [passOver]
    obtain rfl | hi := List.mem_cons.1 hi
    · have hlater : ∀ k ∈ l, g i ≠ g k := fun k hk h => hj (hg h ▸ hk)
      rw [getD_passOver_of_notMem d f hlater, Table.getD_put_self]
    · have hne : g i ≠ g j := fun h => hj (hg h ▸ hi)
      rw [ih hl hi, Table.getD_put_ne _ _ _ _ hne]

end

/-! ## Banks and channels -/

theorem foldl_modBank (f : Nat → Bank → Bank) (l : List Nat) (s : State) :
    l.foldl (fun u b => modBank b (f b) u) s = { s with banks := passOver {} id f l s.banks } := by
  induction l generalizing s with
  | nil => rw [passOver, List.foldl_nil]
  | cons b l ih => rw [List.foldl_cons, ih, passOver]; rfl

theorem foldl_modChan (g : Nat → Nat) (f : Nat → Chan → Chan) (l : List Nat) (s : State) :
    l.foldl (fun u i => modChan (g i) (f i) u) s = { s with chans := passOver {} g f l s.chans } := by
  induction l generalizing s with
  | nil => rw [passOver, List.foldl_nil]
  | cons i l ih => rw [List.foldl_cons, ih, passOver]; rfl

/-! ## The passing of time -/

/-- Time moves the clock, the draws of the start oscillator's rate and the Graticule's counters (R116). -/
theorem advance_eq (dt : Nat) (s : State) :
    advance dt s = { s with now := (advance dt s).now, free := (advance dt s).free, grat := (advance dt s).grat } := by
  unfold advance
  split
  · rfl
  · split <;> rfl

@[simp] theorem bankOf_advance (dt b : Nat) (s : State) : bankOf (advance dt s) b = bankOf s b := by
  rw [advance_eq]; rfl
@[simp] theorem chainEnable_advance (dt b : Nat) (s : State) : chainEnable (advance dt s) b = chainEnable s b := by
  rw [advance_eq]; rfl
@[simp] theorem boardWord_advance (dt k : Nat) (s : State) : boardWord (advance dt s) k = boardWord s k := by
  rw [advance_eq]; rfl
@[simp] theorem inGap_advance (dt : Nat) (s : State) : inGap (advance dt s) = inGap s := by
  rw [advance_eq]; rfl
@[simp] theorem windowRuns_advance (dt : Nat) (s : State) : windowRuns (advance dt s) = windowRuns s := by
  rw [advance_eq]; rfl
@[simp] theorem frameStart_advance (dt : Nat) (s : State) : frameStart (advance dt s) = s.seq.bn + us 50 := by
  simp [frameStart]
@[simp] theorem slotsLeft_advance (dt : Nat) (s : State) : slotsLeft (advance dt s) = slotsLeft s := by
  rw [advance_eq]; rfl
@[simp] theorem padsPass_advance (dt b : Nat) (s : State) : padsPass (advance dt s) b = padsPass s b := by
  rw [advance_eq]; rfl
@[simp] theorem boardOf_advance (dt b : Nat) (s : State) : boardOf (advance dt s) b = boardOf s b := by
  rw [advance_eq]; rfl
@[simp] theorem boardTypeAt_advance (dt k : Nat) (s : State) : boardTypeAt (advance dt s) k = boardTypeAt s k := by
  rw [advance_eq]; rfl
@[simp] theorem bothPermits_advance (dt : Nat) (s : State) : bothPermits (advance dt s) = bothPermits s := by
  rw [advance_eq]; rfl

/-! ## The present slot's pulse -/

/-- The slot's pulse moves the pulses at the pads and the note that it was driven (R73). -/
theorem lightDiag_eq (s : State) : lightDiag s =
    { s with chain := { s.chain with slotLit := (lightDiag s).chain.slotLit }, pulses := (lightDiag s).pulses } := by
  unfold lightDiag
  split
  · split
    · rfl
    · simp only []
      split <;> rfl
  · rfl

@[simp] theorem lightDiag_visited (s : State) : (lightDiag s).chain.visited = s.chain.visited := by rw [lightDiag_eq]
@[simp] theorem lightDiag_muxLost (s : State) : (lightDiag s).chain.muxLost = s.chain.muxLost := by rw [lightDiag_eq]
@[simp] theorem bankOf_lightDiag (b : Nat) (s : State) : bankOf (lightDiag s) b = bankOf s b := by
  rw [lightDiag_eq]; rfl
@[simp] theorem boardOf_lightDiag (b : Nat) (s : State) : boardOf (lightDiag s) b = boardOf s b := by
  rw [lightDiag_eq]; rfl
@[simp] theorem boardTypeAt_lightDiag (k : Nat) (s : State) : boardTypeAt (lightDiag s) k = boardTypeAt s k := by
  rw [lightDiag_eq]; rfl
@[simp] theorem padsPass_lightDiag (b : Nat) (s : State) : padsPass (lightDiag s) b = padsPass s b := by
  rw [lightDiag_eq]; rfl
@[simp] theorem dipInSlot_lightDiag (s : State) : dipInSlot (lightDiag s) = dipInSlot s := by
  rw [lightDiag_eq]; rfl
@[simp] theorem diagEvents_lightDiag (k c : Nat) (firings : List (Nat × Nat)) (s : State) :
    diagEvents (lightDiag s) k c firings = diagEvents s k c firings := by
  rw [lightDiag_eq]; rfl

/-- A pulse that an earlier command drove is not driven again. -/
theorem lightDiag_of_slotLit {s : State} (h : s.chain.slotLit = true) : lightDiag s = s := by
  simp [lightDiag, diagDue, h]

/-- A pulse that no earlier command drove comes at the pads where the outputs run, the pads pass the bank and no dip inhibits it;
the pads are otherwise left as they are (R15, R73, R75). -/
theorem lightDiag_pulses_of_diagDue {s : State} {b : Nat} (hdue : diagDue s = true) (hb : (slotsLeft s).head? = some b) :
    (lightDiag s).pulses =
      if s.grat.outputs && padsPass s b && !dipInSlot s then [diagPulse s b] else s.pulses := by
  rw [lightDiag, if_pos hdue, hb]
  exact apply_ite State.pulses ..

end Sys2Proof.Laws
end

section
/-! The facet gap: its Traverse frame, its diagnostic slots and the judgement of its window (R58, R59, R73 to R79). -/

namespace Sys2Proof.Proofs

open Sys2Proof Sys2Proof.Machine Sys2Proof.Laws

variable {b dt : Nat} {high rises : List Nat} {firings : List (List (Nat × Nat))} {measured : Option Nat} {s : State}

/-! ## The frame -/

theorem exec_traverseFrame (hgap : inGap s = true) (hsent : s.chain.sent = false) (hstart : s.seq.bn + us 50 ≤ s.now + dt)
    (hfree : lineFree (advance dt s) = true) : exec (.traverseFrame dt) s = .next (sendFrame (advance dt s)) := by
  simp [exec, execTraverseFrame, when_, hgap, hsent, hstart, hfree]

/-- What the frame carries for a bank (R59, R64). -/
def framedBank (s : State) (b : Nat) (v : Bank) : Bank :=
  { v with enable := chainEnable s b, setting := if chainEnable s b then settingOf s b % 1024 else 0, windowOutcome := none }

/-- The banks after a frame. -/
def framedBanks (s : State) : Table Bank := passOver {} id (framedBank s) (List.range 32) s.banks

theorem sendFrame_eq (s : State) : sendFrame s =
    { s with
      banks := framedBanks s
      chain := { s.chain with
        frame := (List.range s.legend.boards.length).map (boardWord s), frameAt := some (frameStart s)
        count := (s.chain.count + 1) % 4, sent := true
        window := windowRuns s, visited := [], slotLit := false, muxLost := [] } } := by
  unfold sendFrame
  rw [foldl_modBank]
  rfl

theorem bankOf_sendFrame (hb : b < 32) : bankOf (sendFrame s) b = framedBank s b (bankOf s b) :=
  calc bankOf (sendFrame s) b = Table.getD {} (framedBanks s) b := by rw [sendFrame_eq, bankOf]
    _ = framedBank s b (bankOf s b) :=
      getD_passOver_of_mem _ _ Function.injective_id List.nodup_range (List.mem_range.2 hb) _

/-! ## A slot -/

/-- The next slot of the window, a bank's, has come to its end (R73, R74). -/
structure SlotEnds (u : State) (b : Nat) : Prop where
  gap : inGap u = true
  window : u.chain.window = true
  next : (slotsLeft u).head? = some b
  ended : slotEnd u ≤ u.now
  fits : slotFits u = true

/-- A slot that has ended has passed its fire instant. -/
theorem SlotEnds.diagDue (h : SlotEnds s b) (hlit : s.chain.slotLit = false) : diagDue s = true := by
  obtain ⟨hgap, hwin, -, hend, hfits⟩ := h
  have hfire : diagFire s ≤ s.now := by
    unfold slotEnd us at hend
    unfold diagFire us
    omega
  simp [Machine.diagDue, hgap, hwin, hlit, hfits, hfire]

theorem exec_diagnosticSlot (h : SlotEnds (advance dt s) b) (hb : b < 32) (hlen : firings.length = 48)
    (hspad : ∀ l ∈ firings, ∀ f ∈ l, f.1 < 16) :
    exec (.diagnosticSlot dt b high rises firings measured) s =
      .next (takeSlot b high rises firings measured (advance dt s)) := by
  obtain ⟨hgap, hwin, hnext, hend, hfits⟩ := h
  have hall : firings.all (fun l => l.all (fun f => decide (f.1 < 16))) = true := by simpa using hspad
  simp only [exec, execDiagnosticSlot, need, when_, hb, hlen, hall, hgap, hwin, hnext, hend, hfits]
  simp

/-- The reflections of a slot: the events of the bank's 48 channels (R73). -/
def slotRefl (s : State) (b : Nat) (firings : List (List (Nat × Nat))) : List Nat :=
  (List.range 48).map (fun i => diagEvents s (boardOf s b) (48 * b + i) (firings.getD i []))

/-- The slot was taken (R75, R309). -/
def slotTaken (s : State) (b : Nat) (measured : Option Nat) : Bool :=
  s.grat.outputs && padsPass s b && !dipInSlot s && (slotCut b measured s).isNone &&
    !s.chain.muxLost.contains (boardOf s b)

/-- The outcome of Table 3.7 that a taken slot has. -/
def takenOutcome (s : State) (b : Nat) (high rises : List Nat) (firings : List (List (Nat × Nat))) : Nat :=
  slotOutcome (bankOf s b).sense (shortSeen high) (edgeSeen rises)
    (decide ((boardTypeAt s (boardOf s b)).nRef ≤ (slotRefl s b firings).countP (fun n => decide (0 < n))))

/-- The boards whose multiplexer is behind or unknown after a slot: with the slot's own where its pulse was cut short (R75). -/
def muxLostAfter (s : State) (b : Nat) (measured : Option Nat) : List Nat :=
  if (match slotCut b measured s with | none => false | some n => muxAfter n) && !s.chain.muxLost.contains (boardOf s b) then
    s.chain.muxLost ++ [boardOf s b]
  else s.chain.muxLost

/-- The bank after a slot. -/
def slotBank (s : State) (b : Nat) (high rises : List Nat) (firings : List (List (Nat × Nat))) (taken : Bool) : Bank :=
  { bankOf s b with windowOutcome := some (if taken then takenOutcome s b high rises firings else 5) }

/-- The channels after a slot: those of a taken one show its reflections. -/
def slotChans (s : State) (b : Nat) (firings : List (List (Nat × Nat))) (taken : Bool) : Table Chan :=
  if taken then
    passOver {} (48 * b + ·) (fun i c => { c with diag := (slotRefl s b firings).getD i 0 }) (List.range 48) s.chans
  else s.chans

@[simp] theorem slotRefl_lightDiag : slotRefl (lightDiag s) b firings = slotRefl s b firings := by
  simp [slotRefl]

@[simp] theorem slotBank_lightDiag (taken : Bool) :
    slotBank (lightDiag s) b high rises firings taken = slotBank s b high rises firings taken := by
  simp [slotBank, takenOutcome]

@[simp] theorem slotChans_lightDiag (taken : Bool) :
    slotChans (lightDiag s) b firings taken = slotChans s b firings taken := by
  simp [slotChans]

theorem getD_slotChans {i : Nat} (hi : i < 48) :
    (Table.getD {} (slotChans s b firings true) (48 * b + i)).diag = (slotRefl s b firings).getD i 0 :=
  congrArg Chan.diag
    (getD_passOver_of_mem _ _ (add_right_injective (48 * b)) List.nodup_range (List.mem_range.2 hi) s.chans)

/-- The end of a slot, part by part: the bank's outcome, the channels' reflections, the boards behind. -/
theorem takeSlot_eq (b : Nat) (high rises : List Nat) (firings : List (List (Nat × Nat))) (measured : Option Nat) (s : State) :
    takeSlot b high rises firings measured s =
      { lightDiag s with
        banks := Table.put s.banks b (slotBank s b high rises firings (slotTaken (lightDiag s) b measured))
        chans := slotChans s b firings (slotTaken (lightDiag s) b measured)
        chain := { (lightDiag s).chain with
          visited := s.chain.visited ++ [b], slotLit := false, muxLost := muxLostAfter (lightDiag s) b measured } } := by
  rw [← slotBank_lightDiag, ← slotChans_lightDiag, ← lightDiag_banks s, ← lightDiag_visited s]
  unfold takeSlot
  generalize lightDiag s = u
  extract_lets _ k cut refl taken light o t noted
  have ht : t = { u with chans := slotChans u b firings taken } := by
    dsimp only [t, slotChans]
    split
    · exact foldl_modChan ..
    · rfl
  rw [show noted = modBank b _ t from rfl, ht]
  rfl

theorem bankOf_takeSlot : bankOf (takeSlot b high rises firings measured s) b =
    slotBank s b high rises firings (slotTaken (lightDiag s) b measured) := by
  rw [takeSlot_eq, bankOf, Table.getD_put_self]

theorem takeSlot_chans : (takeSlot b high rises firings measured s).chans =
    slotChans s b firings (slotTaken (lightDiag s) b measured) := by
  rw [takeSlot_eq]

theorem takeSlot_pulses : (takeSlot b high rises firings measured s).pulses = (lightDiag s).pulses := by
  rw [takeSlot_eq]

theorem takeSlot_frame (b : Nat) (high rises : List Nat) (firings : List (List (Nat × Nat))) (measured : Option Nat) (s : State) :
    let t := takeSlot b high rises firings measured s
    t = { s with banks := t.banks, chans := t.chans, chain := t.chain, pulses := t.pulses } := by
  rw [takeSlot_eq, lightDiag_eq]

/-- A diagnostic pulse that this command drove has its whole length. -/
theorem slotCut_of_diagPulse {u : State} (h : s.pulses = [diagPulse u b]) : slotCut b measured s = none := by
  simp [slotCut, h, diagPulse]

/-- What holds a slot back: a permit or a veto, a dip, or the cut of a pulse that an earlier command drove (R75, R309). -/
def SlotHeld (s : State) (b : Nat) (measured : Option Nat) : Prop :=
  padsPass s b = false ∨ dipInSlot s = true ∨ (s.chain.slotLit = true ∧ slotCut b measured s ≠ none)

theorem not_slotTaken (h : SlotHeld s b measured) : slotTaken (lightDiag s) b measured = false := by
  obtain hpass | hdip | ⟨hlit, hcut⟩ := h
  · simp [slotTaken, hpass]
  · simp [slotTaken, hdip]
  · simp [slotTaken, lightDiag_of_slotLit hlit, hcut]

section
variable (ends : SlotEnds s b)
include ends

theorem SlotEnds.pulses_of_held (h : SlotHeld s b measured) (hlit : s.chain.slotLit = false) : (lightDiag s).pulses = s.pulses := by
  rw [lightDiag_pulses_of_diagDue (ends.diagDue hlit) ends.next, if_neg]
  obtain hpass | hdip | ⟨hlit', -⟩ := h
  · simp [hpass]
  · simp [hdip]
  · exact absurd (hlit.symm.trans hlit') nofun

theorem SlotEnds.pulses_of_driven (hpass : padsPass s b = true) (hdip : dipInSlot s = false) (hout : s.grat.outputs = true)
    (hlit : s.chain.slotLit = false) : (lightDiag s).pulses = [diagPulse s b] := by
  rw [lightDiag_pulses_of_diagDue (ends.diagDue hlit) ends.next, if_pos (by simp [hpass, hdip, hout])]

theorem SlotEnds.slotTaken (hpass : padsPass s b = true) (hdip : dipInSlot s = false)
    (hcut : ¬(s.chain.slotLit = true ∧ slotCut b measured s ≠ none)) (hmux : boardOf s b ∉ s.chain.muxLost)
    (hout : s.grat.outputs = true) : slotTaken (lightDiag s) b measured = true := by
  have hwhole : slotCut b measured (lightDiag s) = none := by
    cases hlit : s.chain.slotLit
    · exact slotCut_of_diagPulse (ends.pulses_of_driven hpass hdip hout hlit)
    · rw [lightDiag_of_slotLit hlit]
      simpa [hlit] using hcut
  simp [Proofs.slotTaken, hpass, hdip, hmux, hout, hwhole]

end

/-! ## The close of the window -/

theorem exec_diagnosticWindowClose (h : windowEnds (advance dt s) = true) :
    exec (.diagnosticWindowClose dt) s = .next (closeWindow (advance dt s)) := by
  simp [exec, execDiagnosticWindowClose, when_, h]

section
variable {v : Bank} {o : Nat}

theorem judgeBank_outcome (h : v.windowOutcome = some o) : (judgeBank v).outcome = o := by
  unfold judgeBank
  rw [h]
  dsimp only
  split
  · next ho => exact ho.symm
  · rfl

/-- A short counts at once (R76). -/
theorem judgeBank_short (h : v.windowOutcome = some 4) : (judgeBank v).confirmed = some 3 := by
  simp [judgeBank, h]

/-- An open or dark outcome counts at the second window in a row (R76, R77). -/
theorem judgeBank_again (h : v.windowOutcome = some o) (ho : o = 1 ∨ o = 2) (hlast : v.last = o) (hrun : 1 ≤ v.run)
    (hbase : v.base ≠ o) : (judgeBank v).confirmed = some o := by
  obtain rfl | rfl := ho <;> simp [judgeBank, h, hlast, hrun, hbase]

/-- A slot not taken leaves the judgement as it is (R75). -/
theorem judgeBank_notTaken (h : v.windowOutcome = some 5) : judgeBank v = { v with windowOutcome := none, outcome := 5 } := by
  simp [judgeBank, h]

end

/-- The banks after the close: those of slots not reached show a slot not taken, then each is judged (R75, R76). -/
def judgedBanks (s : State) : Table Bank :=
  passOver {} id (fun _ => judgeBank) (List.range 32) (passOver {} id (fun _ v => { v with outcome := 5 }) (slotsLeft s) s.banks)

theorem foldl_judgeBank (s : State) : (List.range 32).foldl (fun u b => modBank b judgeBank u)
    ((slotsLeft s).foldl (fun u b => modBank b (fun v => { v with outcome := 5 }) u) s) = { s with banks := judgedBanks s } := by
  rw [foldl_modBank, foldl_modBank]
  rfl

theorem closeWindow_eq (s : State) : closeWindow s =
    { s with
      banks := judgedBanks s
      chain := { s.chain with
        window := false
        closed := some (slotStart s)
        startBoard := (match slotsLeft s with | [] => 0 | b :: _ => boardOf s b)
        carryNext := !(slotsLeft s).isEmpty }
      seq := if s.phase == .spinUp && bothPermits s then { s.seq with startWindows := s.seq.startWindows + 1 } else s.seq } := by
  simp only [closeWindow, foldl_judgeBank]
  change (if s.phase == .spinUp && bothPermits s then _ else _) = _
  by_cases h : (s.phase == .spinUp && bothPermits s) = true
  · rw [if_pos h, if_pos h]
    rfl
  · rw [if_neg h, if_neg h]
    rfl

theorem closeWindow_startWindows (s : State) : (closeWindow s).seq.startWindows =
    if s.phase = .spinUp ∧ bothPermits s = true then s.seq.startWindows + 1 else s.seq.startWindows := by
  simp only [closeWindow_eq, Bool.and_eq_true, beq_iff_eq]
  exact apply_ite Seq.startWindows ..

theorem bankOf_closeWindow (hb : b < 32) (hreached : b ∉ slotsLeft s) : bankOf (closeWindow s) b = judgeBank (bankOf s b) :=
  have hne : ∀ i ∈ slotsLeft s, b ≠ id i := fun i hi (h : b = i) => hreached (h ▸ hi)
  calc bankOf (closeWindow s) b = Table.getD {} (judgedBanks s) b := by rw [closeWindow_eq, bankOf]
    _ = judgeBank (Table.getD {} (passOver {} id (fun _ v => { v with outcome := 5 }) (slotsLeft s) s.banks) b) :=
      getD_passOver_of_mem _ _ Function.injective_id List.nodup_range (List.mem_range.2 hb) _
    _ = judgeBank (bankOf s b) := congrArg judgeBank (getD_passOver_of_notMem _ _ hne _)

/-- Settles O43, command by command: the frame's word to every board, the slot held back or taken, the judgement of each bank. -/
theorem gapDiagnostics : Obligations.GapDiagnostics := by
  unfold Obligations.GapDiagnostics
  refine ⟨fun dt s hgap hsent hstart hfree => ?_,
    fun dt b high rises firings measured s hb hlen hspad hgap hwin hnext hend hfits => ?_, fun dt s hends => ?_⟩
  · refine ⟨_, exec_traverseFrame hgap hsent hstart hfree, ?_⟩
    refine ⟨?_, ?_, ?_, ?_, ?_, fun b hb => ?_, ?_⟩
    case refine_6 => rw [bankOf_sendFrame hb, framedBank, chainEnable_advance]
    all_goals simp [sendFrame_eq]
  · intro u refl cut short edge
    have hlitEq : u.chain.slotLit = s.chain.slotLit := by simp [u]
    have hpassEq : padsPass u b = padsPass s b := padsPass_advance ..
    have hreflEq : slotRefl u b firings = refl := by simp [slotRefl, refl, u]
    have ends : SlotEnds u b :=
      ⟨by simp [u, hgap], by simp [u, hwin], (congrArg List.head? (slotsLeft_advance dt s)).trans hnext,
        by simpa [u] using hend, hfits⟩
    refine ⟨_, exec_diagnosticSlot ends hb hlen hspad, ?_⟩
    refine ⟨?_, ?_, ?_, fun hheld => ?_, fun hpass hdip hcut hmux hout => ?_, fun hlit => ?_, takeSlot_frame ..⟩
    · simp [takeSlot_eq]
    · simp [bankOf_takeSlot, slotBank]
    · rw [takeSlot_eq]
    · have hheld : SlotHeld u b measured := by
        unfold SlotHeld
        rwa [hpassEq, hlitEq]
      rw [bankOf_takeSlot, takeSlot_chans, takeSlot_pulses, not_slotTaken hheld]
      exact ⟨rfl, advance_chans .., fun hlit => (ends.pulses_of_held hheld (hlitEq.trans hlit)).trans (advance_pulses ..)⟩
    · have hpass : padsPass u b = true := hpassEq.trans hpass
      have hout : u.grat.outputs = true := (advance_grat_outputs dt s).trans hout
      have htaken := ends.slotTaken hpass hdip (by rwa [hlitEq]) (by simpa [u] using hmux) hout
      rw [bankOf_takeSlot, takeSlot_pulses, htaken]
      refine ⟨?_, fun i hi => ?_, fun hlit => ?_⟩
      · simp only [slotBank, takenOutcome, hreflEq, u, if_true, bankOf_advance, boardOf_advance, boardTypeAt_advance]
        rfl
      · rw [chanOf, takeSlot_chans, htaken, getD_slotChans hi, hreflEq]
      · rw [ends.pulses_of_driven hpass hdip hout (hlitEq.trans hlit)]
        rfl
    · rw [takeSlot_pulses, lightDiag_of_slotLit (hlitEq.trans hlit), advance_pulses]
  · refine ⟨_, exec_diagnosticWindowClose hends, ?_⟩
    refine ⟨?_, fun b o hb ho hreached => ?_, ?_, ?_⟩
    · rw [closeWindow_eq]
    · rw [bankOf_closeWindow hb (by rwa [slotsLeft_advance]), bankOf_advance]
      refine ⟨judgeBank_outcome ho, ?_, judgeBank_again ho, ?_⟩
      · rintro rfl
        exact judgeBank_short ho
      · rintro rfl
        rw [judgeBank_notTaken ho]
        exact ⟨rfl, rfl, rfl⟩
    · rw [closeWindow_startWindows, advance_phase, bothPermits_advance, advance_seq]
    · rw [closeWindow_eq]

end Sys2Proof.Proofs
end

section
/-! What a receiver channel and its ambient record read after the shared updates, and a pre-window that ends before a command. -/

namespace Sys2Proof.Laws

open Sys2Proof Sys2Proof.Machine

/-! ## Channels and ambient records -/

theorem chanOf_setChan_ne {c k : Nat} (h : k ≠ c) (v : Chan) (s : State) : chanOf (setChan c v s) k = chanOf s k :=
  Table.getD_put_ne _ _ _ _ h _
@[simp] theorem chanOf_setAmb (c k : Nat) (v : Ambient) (s : State) : chanOf (setAmb c v s) k = chanOf s k := rfl

@[simp] theorem ambOf_setAmb_self (c : Nat) (v : Ambient) (s : State) : ambOf (setAmb c v s) c = v :=
  Table.getD_put_self _ _ _ _
theorem ambOf_setAmb_ne {c k : Nat} (h : k ≠ c) (v : Ambient) (s : State) : ambOf (setAmb c v s) k = ambOf s k :=
  Table.getD_put_ne _ _ _ _ h _
@[simp] theorem ambOf_setChan (c k : Nat) (v : Chan) (s : State) : ambOf (setChan c v s) k = ambOf s k := rfl
@[simp] theorem ambOf_advance (c dt : Nat) (s : State) : ambOf (advance dt s) c = ambOf s c := by simp [ambOf]

/-! ## A pre-window that ends (R90, R163) -/

/-- Passing a pre-window's count on moves the channel and the counter of invalid windows. -/
theorem passPre_eq (ch : Nat) (s : State) :
    passPre ch s = { s with chans := (passPre ch s).chans, log := (passPre ch s).log } := by
  unfold passPre
  dsimp only
  split
  · rfl
  · split
    · rfl
    · split <;> rfl

@[simp] theorem passPre_now (ch : Nat) (s : State) : (passPre ch s).now = s.now := by rw [passPre_eq]
@[simp] theorem passPre_ambEng (ch : Nat) (s : State) : (passPre ch s).ambEng = s.ambEng := by rw [passPre_eq]
@[simp] theorem passPre_legend (ch : Nat) (s : State) : (passPre ch s).legend = s.legend := by rw [passPre_eq]
@[simp] theorem passPre_seq (ch : Nat) (s : State) : (passPre ch s).seq = s.seq := by rw [passPre_eq]
@[simp] theorem ambOf_passPre (ch c : Nat) (s : State) : ambOf (passPre ch s) c = ambOf s c := by rw [passPre_eq]; rfl

/-- In the channel it moves the arm command's mark and the accumulator. -/
theorem chanOf_passPre_self (ch : Nat) (s : State) : chanOf (passPre ch s) ch =
    { chanOf s ch with
      arm := (chanOf (passPre ch s) ch).arm, ambSum := (chanOf (passPre ch s) ch).ambSum
      ambWin := (chanOf (passPre ch s) ch).ambWin } := by
  unfold passPre
  dsimp only
  split
  · rfl
  · split
    · rfl
    · split <;> simp [chanOf, setChan, count]

theorem chanOf_passPre_ne {ch k : Nat} (h : k ≠ ch) (s : State) : chanOf (passPre ch s) k = chanOf s k := by
  unfold passPre
  dsimp only
  split
  · rfl
  · split
    · rfl
    · split <;> exact chanOf_setChan_ne h _ _

@[simp] theorem passPre_buffer (ch : Nat) (s : State) : (chanOf (passPre ch s) ch).buffer = (chanOf s ch).buffer := by
  rw [chanOf_passPre_self]
@[simp] theorem passPre_hold (ch : Nat) (s : State) : (chanOf (passPre ch s) ch).hold = (chanOf s ch).hold := by
  rw [chanOf_passPre_self]
@[simp] theorem passPre_recovery (ch : Nat) (s : State) : (chanOf (passPre ch s) ch).recovery = (chanOf s ch).recovery := by
  rw [chanOf_passPre_self]

/-- Another channel reads as before after a command has written channel `ch`. -/
theorem chanOf_written_ne {ch k : Nat} (h : k ≠ ch) (dt : Nat) (v : Chan) (s : State) :
    chanOf (setChan ch v (passPre ch (advance dt s))) k = chanOf s k := by
  rw [chanOf_setChan_ne h, chanOf_passPre_ne h, chanOf_advance]

/-- A command that writes channel `ch` moves the channels, and the log where a pre-window was invalid. -/
theorem setChan_passPre_eq (ch : Nat) (v : Chan) (u : State) : setChan ch v (passPre ch u) =
    { u with chans := (setChan ch v (passPre ch u)).chans, log := (setChan ch v (passPre ch u)).log } := by
  rw [passPre_eq]
  rfl

end Sys2Proof.Laws
end

section
/-! Range windows, recovery and the holding register (R88, R100, R103, R104), and the near-zone line (R315). -/

namespace Sys2Proof.Proofs

open Sys2Proof Sys2Proof.Machine Sys2Proof.Laws

variable {dt ch : Nat} {fired : List (Nat × Nat)} {s : State}

/-! ## Emptying the holding register, item by item -/

section
variable {ov : Bool} {now : Nat}

/-- One item of the first entry goes into the buffer (R104). -/
def flushStep (ov : Bool) (now : Nat) (h : HoldEntry) (r : List HoldEntry) (c : Chan) : Chan :=
  { c with buffer := c.buffer ++ (entryItems ov now h).take 1, hold := (entryRest h).toList ++ r }

theorem flushHold_of_full {c : Chan} (hfull : 8 ≤ c.buffer.length) (n : Nat) : flushHold ov now n c = c := by
  cases n with
  | zero => rfl
  | succ n => rw [flushHold, if_pos hfull]

theorem flushHold_of_empty {c : Chan} (hhold : c.hold = []) (n : Nat) : flushHold ov now n c = c := by
  cases n with
  | zero => rfl
  | succ n => simp [flushHold, hhold]

theorem flushHold_succ {c : Chan} {h : HoldEntry} {r : List HoldEntry} (hroom : c.buffer.length < 8) (hhold : c.hold = h :: r)
    (n : Nat) : flushHold ov now (n + 1) c = flushHold ov now n (flushStep ov now h r c) := by
  rw [flushHold, if_neg (Nat.not_le.2 hroom), hhold]
  dsimp only
  split
  · next hitems =>
    have hrest : entryRest h = none := by
      unfold entryItems at hitems
      unfold entryRest
      by_cases ht : h.tally = 0 <;> simp_all
    simp [flushStep, hitems, hrest]
  · next hitems =>
    cases hrest : entryRest h <;> simp [flushStep, hitems, hrest]

/-- Three ways to go on: the buffer is full, nothing is held, or an item goes. -/
theorem flush_cases (c : Chan) : 8 ≤ c.buffer.length ∨ c.hold = [] ∨ c.buffer.length < 8 ∧ ∃ h r, c.hold = h :: r := by
  rcases Nat.lt_or_ge c.buffer.length 8 with hroom | hfull
  · cases hhold : c.hold with
    | nil => exact .inr (.inl rfl)
    | cons h r => exact .inr (.inr ⟨hroom, h, r, rfl⟩)
  · exact .inl hfull

/-- It moves the buffer and the holding register alone. -/
theorem flushHold_eq (n : Nat) (c : Chan) : flushHold ov now n c =
    { c with buffer := (flushHold ov now n c).buffer, hold := (flushHold ov now n c).hold } := by
  induction n generalizing c with
  | zero => rfl
  | succ n ih =>
    obtain hfull | hhold | ⟨hroom, h, r, hhold⟩ := flush_cases c
    · rw [flushHold_of_full hfull]
    · rw [flushHold_of_empty hhold]
    · rw [flushHold_succ hroom hhold, ih]
      rfl

theorem flushHold_appends (n : Nat) (c : Chan) : ∃ l, (flushHold ov now n c).buffer = c.buffer ++ l := by
  induction n generalizing c with
  | zero => exact ⟨[], (List.append_nil _).symm⟩
  | succ n ih =>
    obtain hfull | hhold | ⟨hroom, h, r, hhold⟩ := flush_cases c
    · exact ⟨[], by rw [flushHold_of_full hfull, List.append_nil]⟩
    · exact ⟨[], by rw [flushHold_of_empty hhold, List.append_nil]⟩
    · obtain ⟨l, hl⟩ := ih (flushStep ov now h r c)
      exact ⟨_, by rw [flushHold_succ hroom hhold, hl, flushStep, List.append_assoc]⟩

theorem flushed_appends (u : State) (ch : Nat) : ∃ l, (flushed u ch).buffer = (chanOf u ch).buffer ++ l :=
  flushHold_appends 20 _

theorem flushHold_buffer_le {c : Chan} (hc : c.buffer.length ≤ 8) (n : Nat) : (flushHold ov now n c).buffer.length ≤ 8 := by
  induction n generalizing c with
  | zero => exact hc
  | succ n ih =>
    obtain hfull | hhold | ⟨hroom, h, r, hhold⟩ := flush_cases c
    · rwa [flushHold_of_full hfull]
    · rwa [flushHold_of_empty hhold]
    · rw [flushHold_succ hroom hhold]
      apply ih
      simp only [flushStep, List.length_append, List.length_take]
      omega

/-- Items an entry gives, an empty one counted as one: the tally's and the end item. -/
def entrySteps (h : HoldEntry) : Nat := 1 + (entryRest h).toList.length

/-- Steps that empty a holding register. -/
def holdSteps (l : List HoldEntry) : Nat := (l.map entrySteps).sum

theorem holdSteps_rest_append (h : HoldEntry) (r : List HoldEntry) :
    holdSteps ((entryRest h).toList ++ r) + 1 = holdSteps (h :: r) := by
  unfold holdSteps entrySteps entryRest
  by_cases hr : h.tally ≠ 0 ∧ h.endDue.isSome
  · simp [hr]
    omega
  · simp [hr, Nat.add_comm]

theorem holdSteps_le (l : List HoldEntry) : holdSteps l ≤ 2 * l.length := by
  induction l with
  | nil => simp [holdSteps]
  | cons h r ih =>
    have hh : (entryRest h).toList.length ≤ 1 := by cases entryRest h <;> simp
    simp only [holdSteps, entrySteps, List.map_cons, List.sum_cons, List.length_cons] at ih ⊢
    omega

/-- With steps enough, entries are held back by a full buffer alone. -/
theorem full_of_flushHold_held {n : Nat} {c : Chan} (hn : holdSteps c.hold ≤ n) (hheld : (flushHold ov now n c).hold ≠ []) :
    8 ≤ (flushHold ov now n c).buffer.length := by
  induction n generalizing c with
  | zero =>
    obtain hfull | hhold | ⟨-, h, r, hhold⟩ := flush_cases c
    · exact hfull
    · exact absurd hhold hheld
    · rw [hhold, ← holdSteps_rest_append] at hn
      omega
  | succ n ih =>
    obtain hfull | hhold | ⟨hroom, h, r, hhold⟩ := flush_cases c
    · rwa [flushHold_of_full hfull]
    · rw [flushHold_of_empty hhold] at hheld
      exact absurd hhold hheld
    · rw [flushHold_succ hroom hhold] at hheld ⊢
      rw [hhold, ← holdSteps_rest_append] at hn
      exact ih (Nat.le_of_succ_le_succ hn) hheld

end

theorem exec_holdingRegisterFlush (dt : Nat) (s : State) (hch : ch < 1536) : exec (.holdingRegisterFlush dt ch) s =
    .next (setChan ch (flushed (passPre ch (advance dt s)) ch) (passPre ch (advance dt s))) := by
  simp only [exec, execHoldingRegisterFlush, hch, decide_true, need_true]
  rfl

/-! ## The end of a range window -/

@[simp] theorem flush_next (ov : Bool) (now : Nat) (c : Chan) : (flush ov now c).next = c.next := by
  rw [flush, flushHold_eq]

@[simp] theorem sendEnd_next (u : State) (tag : Word64) (c : Chan) : (sendEnd u tag c).next = c.next := by
  simp only [sendEnd, pushEnd]
  split <;> simp

@[simp] theorem foldl_sendEnd_next (u : State) (l : List Word64) (c : Chan) :
    (l.foldl (fun d tag => sendEnd u tag d) c).next = c.next := by
  induction l generalizing c with
  | nil => rfl
  | cons tag l ih => rw [List.foldl_cons, ih, sendEnd_next]

theorem endWindow_arm (u : State) (a : Arm) (c : Chan) : (endWindow u a c).arm = c.next := by
  simp only [endWindow, foldl_sendEnd_next]
  split <;> simp

theorem endWindow_next (u : State) (a : Arm) (c : Chan) : (endWindow u a c).next = none := rfl

theorem exec_rangeWindowEnd {a : Arm} (hch : ch < 1536) (harm : (chanOf (passPre ch (advance dt s)) ch).arm = some a)
    (hstop : a.stop ≤ s.now + dt) : exec (.rangeWindowEnd dt ch) s =
      .next (setChan ch (endWindow (passPre ch (advance dt s)) a (chanOf (passPre ch (advance dt s)) ch))
        (passPre ch (advance dt s))) := by
  simp [exec, execRangeWindowEnd, windowEnd, hch, harm, hstop]

/-! ## The end of recovery -/

/-- Recovery that lasted until `r` is over (R88). -/
def recoveredAt (r : Nat) (c : Chan) : Chan := { c with recovery := none, recovered := some r }

theorem exec_recoveryEnd {r : Nat} (hch : ch < 1536) (hrec : (chanOf s ch).recovery = some r) (hr : r ≤ s.now + dt) :
    exec (.recoveryEnd dt ch) s =
      .next (setChan ch (recoveredAt r (chanOf (passPre ch (advance dt s)) ch)) (passPre ch (advance dt s))) := by
  simp only [exec, execRecoveryEnd, hch, decide_true, need_true, passPre_recovery, chanOf_advance, hrec, passPre_now,
    advance_now, if_pos hr]
  rfl

/-! ## The near-zone line -/

theorem exec_nearZoneLine (hch : ch < 1536) (hfired : ∀ f ∈ fired, f.1 < 16) (harm : (chanOf s ch).arm ≠ none)
    (hraised : nearRaised s ch fired = true) :
    exec (.nearZoneLine dt ch fired) s = .next (nearZone (ch / 48) (advance dt s)) := by
  have hall : fired.all (fun f => decide (f.1 < 16)) = true := by simpa using hfired
  simp [exec, execNearZoneLine, hch, hall, hraised, Option.isSome_iff_ne_none.2 harm]

theorem mem_setNearVeto (b : Nat) (c : SafeCh) : b ∈ (setNearVeto b c).nearVeto := by
  unfold setNearVeto
  by_cases h : b ∈ c.nearVeto <;> simp [h]

/-- The line vetoes the bank in both channels, once while the veto stands, and moves the veto counts alone besides. -/
theorem nearZone_eq (b : Nat) (s : State) :
    nearZone b s = { s with safety := (nearZone b s).safety, log := (nearZone b s).log } := by
  unfold nearZone
  split <;> rfl

theorem mem_nearVeto_nearZone (b : Nat) (d : Side) (s : State) : b ∈ (sideOf (nearZone b s) d).nearVeto := by
  unfold nearZone
  split
  · next h =>
    rw [Bool.and_eq_true, List.contains_iff_mem, List.contains_iff_mem] at h
    cases d with
    | a => exact h.1
    | b => exact h.2
  · cases d <;> exact mem_setNearVeto b _

theorem nearZone_permit (b : Nat) (d : Side) (s : State) : (sideOf (nearZone b s) d).permit = (sideOf s d).permit := by
  unfold nearZone
  split
  · rfl
  · cases d <;> rfl

end Sys2Proof.Proofs
end

section
/-! What a reading does to a channel's ambient filter (R166 to R169), and the channel that is evaluated (R163, R164). -/

namespace Sys2Proof.Proofs

open Sys2Proof Sys2Proof.Machine Sys2Proof.Laws

variable {s : State} {p : Option Nat} {q sum win ch : Nat} {v : Ambient} {coefs : List (List Int)}

/-! ## Held outputs (R169) -/

/-- The estimate that a held output repeats. -/
def heldEstimate (v : Ambient) : Rat := match v.output with | some o => o.1 | none => v.estimate

@[simp] theorem heldOutput_held (v : Ambient) : (heldOutput v).held = min (v.held + 1) 15 := by
  unfold heldOutput
  dsimp only
  split <;> rfl
@[simp] theorem heldOutput_estimate (v : Ambient) : (heldOutput v).estimate = v.estimate := by
  unfold heldOutput
  dsimp only
  split <;> rfl
@[simp] theorem heldOutput_restartAt (v : Ambient) : (heldOutput v).restartAt = v.restartAt := by
  unfold heldOutput
  dsimp only
  split <;> rfl
theorem heldOutput_output (v : Ambient) : (heldOutput v).output.map (·.1) = some (heldEstimate v) := by
  unfold heldOutput heldEstimate
  dsimp only
  split <;> rfl
theorem heldOutput_fourth (h : 3 ≤ v.held) :
    (heldOutput v).waiting = true ∧ (heldOutput v).output.map (·.2) = some false := by
  have h4 : 4 ≤ min (v.held + 1) 15 := by omega
  simp [heldOutput, h4]
theorem heldOutput_restarting (v : Ambient) :
    (heldOutput v).restarting = true ↔ v.restarting = true ∧ v.held < 3 := by
  unfold heldOutput
  dsimp only
  split
  · next h => simp; omega
  · next h => simp; omega
theorem heldOutput_settle (h : v.settle = (0, 0)) : (heldOutput v).settle = (0, 0) := by
  unfold heldOutput
  dsimp only
  split
  · rfl
  · exact h

/-! ## The preset in force (R166, R167) -/

/-- The channel once the reading has entered both paths. -/
def fed (sum win : Nat) (v : Ambient) : Ambient :=
  { v with n := v.n + 1, counts := pathFeed sum v.counts, windows := pathFeed win v.windows }

theorem presetRound_quiet : presetRound coefs false sum win v = (fed sum win v, false) := rfl

theorem presetRound_due : presetRound coefs true sum win v = filterOutput coefs (fed sum win v) := rfl

/-- The settled mark that an output keeps. -/
def keptSettled (v : Ambient) : Bool := match v.output with | some o => o.2 | none => v.settled

/-- The blocks of both paths end; the preset Settle has no decimator and begins its block again (R166). -/
def blockEnded (v : Ambient) : Ambient :=
  if v.preset = 3 then
    { v with n := 0, counts := { v.counts with s := 0, a := 0 }, windows := { v.windows with s := 0, a := 0 } }
  else
    { v with n := 0, counts := pathEnd (blockReadings v.preset) v.counts
             windows := pathEnd (blockReadings v.preset) v.windows }

/-- An output that is not held. -/
def outputTaken (est : Rat) (v : Ambient) : Ambient :=
  { blockEnded v with held := 0, output := some (limitEstimate est, keptSettled v) }

theorem filterOutput_fir (hp : v.preset ≠ 3) (hwin : 0 < v.windows.s)
    (hy : 0 < firValue (coefs.getD v.preset []) (pathEnd (blockReadings v.preset) v.windows)) :
    filterOutput coefs v = (outputTaken
      (firValue (coefs.getD v.preset []) (pathEnd (blockReadings v.preset) v.counts) /
        firValue (coefs.getD v.preset []) (pathEnd (blockReadings v.preset) v.windows)) v, false) := by
  simp only [filterOutput, outputTaken, blockEnded, hp, if_false, hwin, hy, decide_true, Bool.and_self, if_true]
  rfl

theorem filterOutput_settle (hp : v.preset = 3) (hwin : 0 < v.windows.s) :
    filterOutput coefs v = (outputTaken (v.counts.s / v.windows.s) v, false) := by
  simp only [filterOutput, outputTaken, blockEnded, hp, if_true, hwin, decide_true]
  rfl

/-- A block with no valid pre-window is held (R169). -/
theorem filterOutput_noWindow (hwin : v.windows.s ≤ 0) : filterOutput coefs v = (heldOutput (blockEnded v), true) := by
  have hwin : ¬0 < v.windows.s := not_lt.2 hwin
  unfold filterOutput blockEnded
  by_cases hp : v.preset = 3 <;> simp [hp, hwin]

theorem blockEnded_eq (v : Ambient) : blockEnded v =
    { v with n := 0, counts := (blockEnded v).counts, windows := (blockEnded v).windows } := by
  unfold blockEnded
  split <;> rfl

@[simp] theorem blockEnded_held (v : Ambient) : (blockEnded v).held = v.held := by rw [blockEnded_eq]
@[simp] theorem blockEnded_restarting (v : Ambient) : (blockEnded v).restarting = v.restarting := by rw [blockEnded_eq]
@[simp] theorem heldEstimate_blockEnded (v : Ambient) : heldEstimate (blockEnded v) = heldEstimate v := by
  rw [blockEnded_eq]
  rfl

@[simp] theorem outputTaken_restarting (est : Rat) (v : Ambient) : (outputTaken est v).restarting = v.restarting :=
  blockEnded_restarting v
theorem outputTaken_paths (est : Rat) (hp : v.preset ≠ 3) :
    (outputTaken est v).counts = pathEnd (blockReadings v.preset) v.counts ∧
      (outputTaken est v).windows = pathEnd (blockReadings v.preset) v.windows := by
  simp [outputTaken, blockEnded, hp]

/-! ## A restart in Settle (R168) -/

/-- The reading joins the Settle block. -/
def settleFed (sum win : Nat) (v : Ambient) : Ambient := { v with settle := (v.settle.1 + sum, v.settle.2 + win) }

/-- The restart is complete: the preset's stages are loaded from the block's ratio. -/
def restartDone (preset q : Nat) (v : Ambient) : Ambient :=
  { loadPreset preset q (limitEstimate (v.settle.1 / v.settle.2)) v with
    restarting := false, waiting := false, held := 0, settle := (0, 0)
    output := some (limitEstimate (v.settle.1 / v.settle.2), true) }

/-- The Settle block begins again at period `p`. -/
def restartAgain (p : Nat) (v : Ambient) : Ambient :=
  { v with settle := (0, 0), restartAt := some p, restartAge := 0, n := 0, counts := {}, windows := {} }

/-- Does the Settle block end at period `p`? -/
def SettleEnds (preset p : Nat) (v : Ambient) : Prop := 16 ≤ restartPeriods p v ∨ (preset = 3 ∧ p % 16 = 0)

theorem settleRound_done {preset r : Nat} (hend : SettleEnds preset r v) (hwin : 0 < v.settle.2 + win) :
    settleRound preset q (some r) sum win v = (restartDone preset q (settleFed sum win v), false) :=
  (if_pos hend).trans (if_pos hwin)

theorem settleRound_noWindow {preset r : Nat} (hend : SettleEnds preset r v) (hwin : v.settle.2 + win ≤ 0) :
    settleRound preset q (some r) sum win v = (heldOutput (restartAgain r v), true) :=
  (if_pos hend).trans (if_neg (not_lt.2 hwin))

theorem settleRound_runs {preset : Nat} (hrun : ∀ r, p = some r → ¬SettleEnds preset r v) :
    settleRound preset q p sum win v = (settleFed sum win v, false) := by
  cases p with
  | none => rfl
  | some r => exact if_neg (hrun r rfl)

/-! ## The evaluation's three ways -/

/-- Does the round call for an output of the preset (R166, R164)? -/
def outputDue (p : Option Nat) (v : Ambient) : Bool :=
  match p with | none => true | some r => decide (r % decimation v.preset = 0)

theorem evaluate_preset (hrest : v.restarting = false) (hwait : v.waiting = false ∨ win = 0) :
    evaluate s p sum win v = presetRound s.legend.fir (outputDue p v) sum win v := by
  have hno : (v.waiting && !v.restarting && decide (0 < win)) = false := by
    obtain h | h := hwait <;> simp [h]
  unfold evaluate
  rw [hno, hrest]
  rfl

theorem evaluate_restart (hrest : v.restarting = false) (hwait : v.waiting = true) (hwin : 0 < win) :
    evaluate s p sum win v = (startRestart 4 (some (p.getD 0)) v, false) := by
  simp [evaluate, hrest, hwait, hwin]

theorem evaluate_settle (hrest : v.restarting = true) : evaluate s p sum win v =
    settleRound (modeTable s s.seq.mode).preset (modeTable s s.seq.mode).q p sum win v := by
  simp [evaluate, hrest]

/-- The evaluation reads the image and the mode alone. -/
theorem evaluate_congr {t : State} (hl : t.legend = s.legend) (hq : t.seq = s.seq) (p : Option Nat) (sum win : Nat)
    (v : Ambient) : evaluate t p sum win v = evaluate s p sum win v := by
  unfold evaluate modeTable
  rw [hl, hq]

/-! ## The estimate in force stays until publication (R165) -/

theorem filterOutput_estimate (coefs : List (List Int)) (v : Ambient) :
    (filterOutput coefs v).1.estimate = v.estimate := by
  unfold filterOutput
  dsimp only
  split <;> split
  · rfl
  · exact heldOutput_estimate _
  · rfl
  · exact heldOutput_estimate _

theorem settleRound_estimate (preset q : Nat) (p : Option Nat) (sum win : Nat) (v : Ambient) :
    (settleRound preset q p sum win v).1.estimate = v.estimate := by
  by_cases hend : ∃ r, p = some r ∧ SettleEnds preset r v
  · obtain ⟨r, rfl, hend⟩ := hend
    rcases lt_or_ge 0 (v.settle.2 + win) with hwin | hwin
    · rw [settleRound_done hend hwin]
      rfl
    · rw [settleRound_noWindow hend hwin, heldOutput_estimate]
      rfl
  · rw [settleRound_runs fun r hr he => hend ⟨r, hr, he⟩]
    rfl

theorem evaluate_estimate (s : State) (p : Option Nat) (sum win : Nat) (v : Ambient) :
    (evaluate s p sum win v).1.estimate = v.estimate := by
  cases hrest : v.restarting with
  | true => rw [evaluate_settle hrest, settleRound_estimate]
  | false =>
    by_cases hwait : v.waiting = false ∨ win = 0
    · rw [evaluate_preset hrest hwait]
      cases outputDue p v with
      | false => rfl
      | true =>
        rw [presetRound_due, filterOutput_estimate]
        rfl
    · obtain ⟨hw, hwin⟩ := not_or.1 hwait
      rw [evaluate_restart hrest (by simpa using hw) (Nat.pos_of_ne_zero hwin)]
      rfl

end Sys2Proof.Proofs
end

section
/-! A channel is evaluated once a round: its accumulator, its filter and its counters (R163 to R169). -/

namespace Sys2Proof.Proofs

open Sys2Proof Sys2Proof.Machine Sys2Proof.Laws

variable {s : State} {p : Option Nat} {dt ch : Nat}

/-- What the round in progress makes of a channel; the second component tells a held output. -/
def evaluated (p : Option Nat) (ch : Nat) (u : State) : Ambient × Bool :=
  evaluate u p (chanOf u ch).ambSum (chanOf u ch).ambWin (ambOf u ch)

/-- The channel is evaluated: its accumulator is cleared and the filter's record written. -/
def evaluationWritten (p : Option Nat) (ch : Nat) (u : State) : State :=
  setAmb ch { (evaluated p ch u).1 with seen := u.ambEng.roundNo }
    (setChan ch { chanOf u ch with ambSum := 0, ambWin := 0 } u)

/-- A held output is counted, and a restart that begins. -/
def evaluationCounted (p : Option Nat) (ch : Nat) (u : State) : State :=
  when_ (!(ambOf u ch).restarting && (evaluated p ch u).1.restarting) (count (.restarts ch) 1)
    (when_ (evaluated p ch u).2 (count (.heldOutputs ch) 1) (evaluationWritten p ch u))

theorem evaluateChannel_due {u : State} (hround : u.ambEng.round = some p) (hseen : (ambOf u ch).seen < u.ambEng.roundNo)
    (hstart : u.ambEng.roundStart + ns (500 * (ch % 64)) ≤ u.now) : evaluateChannel ch u = evaluationCounted p ch u := by
  unfold evaluateChannel
  rw [hround]
  dsimp only
  rw [if_pos ⟨hseen, hstart⟩]
  rfl

theorem exec_ambientEvaluation (hch : ch < 1536) (hround : s.ambEng.round = some p)
    (hseen : (ambOf s ch).seen < s.ambEng.roundNo)
    (hstart : s.ambEng.roundStart + ns (500 * (ch % 64)) ≤ s.now + dt) :
    exec (.ambientEvaluation dt ch) s = .next (evaluationCounted p ch (passPre ch (advance dt s))) := by
  simp only [exec, execAmbientEvaluation, hch, decide_true, need_true]
  rw [evaluateChannel_due] <;> simpa

section
variable (p : Option Nat) (ch : Nat) (u : State)

/-- Counting moves the counters alone. -/
theorem evaluationCounted_eq : evaluationCounted p ch u =
    { evaluationWritten p ch u with log := (evaluationCounted p ch u).log } := by
  unfold evaluationCounted when_
  split <;> split <;> rfl

@[simp] theorem chanOf_evaluationCounted (k : Nat) :
    chanOf (evaluationCounted p ch u) k = chanOf (evaluationWritten p ch u) k := by
  rw [evaluationCounted_eq]
  rfl

@[simp] theorem ambOf_evaluationCounted (k : Nat) :
    ambOf (evaluationCounted p ch u) k = ambOf (evaluationWritten p ch u) k := by
  rw [evaluationCounted_eq]
  rfl

theorem chanOf_evaluationWritten_self :
    chanOf (evaluationWritten p ch u) ch = { chanOf u ch with ambSum := 0, ambWin := 0 } := by
  simp [evaluationWritten]

theorem chanOf_evaluationWritten_ne {k : Nat} (hk : k ≠ ch) : chanOf (evaluationWritten p ch u) k = chanOf u k :=
  chanOf_setChan_ne hk _ _

theorem ambOf_evaluationWritten_self :
    ambOf (evaluationWritten p ch u) ch = { (evaluated p ch u).1 with seen := u.ambEng.roundNo } := by
  simp [evaluationWritten]

theorem ambOf_evaluationWritten_ne {k : Nat} (hk : k ≠ ch) : ambOf (evaluationWritten p ch u) k = ambOf u k := by
  rw [evaluationWritten, ambOf_setAmb_ne hk, ambOf_setChan]

@[simp] theorem counterOf_evaluationWritten (k : Counter) : counterOf (evaluationWritten p ch u) k = counterOf u k := rfl

end

theorem counterOf_heldOutputs_evaluationCounted {u : State} (hheld : (evaluated p ch u).2 = true)
    (hrest : (evaluated p ch u).1.restarting = false) :
    counterOf (evaluationCounted p ch u) (.heldOutputs ch) =
      counterNext (.heldOutputs ch) (counterOf u (.heldOutputs ch)) 1 := by
  simp [evaluationCounted, hheld, hrest]

theorem counterOf_restarts_evaluationCounted {u : State} (hheld : (evaluated p ch u).2 = false)
    (hwas : (ambOf u ch).restarting = false) (hrest : (evaluated p ch u).1.restarting = true) :
    counterOf (evaluationCounted p ch u) (.restarts ch) =
      counterNext (.restarts ch) (counterOf u (.restarts ch)) 1 := by
  simp [evaluationCounted, hheld, hwas, hrest]

theorem evaluationCounted_passPre_eq (p : Option Nat) (ch : Nat) (u : State) : evaluationCounted p ch (passPre ch u) =
    { u with
      chans := (evaluationCounted p ch (passPre ch u)).chans, amb := (evaluationCounted p ch (passPre ch u)).amb
      log := (evaluationCounted p ch (passPre ch u)).log } := by
  rw [evaluationCounted_eq, evaluationWritten, passPre_eq]
  rfl

end Sys2Proof.Proofs
end

section
/-! The commands of a receiver channel, settled: first a reading's three ways, each with what it leaves in the record. -/

namespace Sys2Proof.Proofs

open Sys2Proof Sys2Proof.Machine Sys2Proof.Laws

variable {s : State} {p : Option Nat} {r sum win : Nat} {v : Ambient}

/-! ## No restart runs (R166, R167, R169) -/

section
variable (hrest : v.restarting = false) (hwait : v.waiting = false ∨ win = 0)
include hrest hwait

theorem evaluate_between (hdue : outputDue p v = false) :
    let w := (evaluate s p sum win v).1
    w.counts = (fed sum win v).counts ∧ w.windows = (fed sum win v).windows ∧ w.output = v.output ∧ w.held = v.held := by
  rw [evaluate_preset hrest hwait, hdue, presetRound_quiet]
  exact ⟨rfl, rfl, rfl, rfl⟩

theorem evaluate_output (hdue : outputDue p v = true) :
    evaluate s p sum win v = filterOutput s.legend.fir (fed sum win v) := by
  rw [evaluate_preset hrest hwait, hdue, presetRound_due]

theorem evaluate_fir (hdue : outputDue p v = true) (hp : v.preset ≠ 3) (hwin : 0 < (fed sum win v).windows.s)
    (hy : 0 < firValue (s.legend.fir.getD v.preset []) (pathEnd (blockReadings v.preset) (fed sum win v).windows)) :
    let w := (evaluate s p sum win v).1
    w.counts = pathEnd (blockReadings v.preset) (fed sum win v).counts ∧
    w.windows = pathEnd (blockReadings v.preset) (fed sum win v).windows ∧
    w.held = 0 ∧ w.restarting = false ∧ w.output.map (·.1) = some (limitEstimate
      (firValue (s.legend.fir.getD v.preset []) (pathEnd (blockReadings v.preset) (fed sum win v).counts) /
        firValue (s.legend.fir.getD v.preset []) (pathEnd (blockReadings v.preset) (fed sum win v).windows))) := by
  rw [evaluate_output hrest hwait hdue, filterOutput_fir (v := fed sum win v) hp hwin hy]
  obtain ⟨hcounts, hwindows⟩ := outputTaken_paths (v := fed sum win v) _ hp
  exact ⟨hcounts, hwindows, rfl, (outputTaken_restarting ..).trans hrest, rfl⟩

theorem evaluate_ratio (hdue : outputDue p v = true) (hp : v.preset = 3) (hwin : 0 < (fed sum win v).windows.s) :
    let w := (evaluate s p sum win v).1
    w.held = 0 ∧ w.output.map (·.1) = some (limitEstimate ((fed sum win v).counts.s / (fed sum win v).windows.s)) := by
  rw [evaluate_output hrest hwait hdue, filterOutput_settle (v := fed sum win v) hp hwin]
  exact ⟨rfl, rfl⟩

theorem evaluate_noWindow (hdue : outputDue p v = true) (hwin : (fed sum win v).windows.s ≤ 0) :
    evaluate s p sum win v = (heldOutput (blockEnded (fed sum win v)), true) := by
  rw [evaluate_output hrest hwait hdue, filterOutput_noWindow hwin]

theorem evaluate_noWindow_record (hdue : outputDue p v = true) (hwin : (fed sum win v).windows.s ≤ 0) :
    let w := (evaluate s p sum win v).1
    w.held = min (v.held + 1) 15 ∧ w.output.map (·.1) = some (heldEstimate v) ∧
      (3 ≤ v.held → w.waiting = true ∧ w.output.map (·.2) = some false) := by
  rw [evaluate_noWindow hrest hwait hdue hwin]
  refine ⟨?_, ?_, fun h => heldOutput_fourth (by rwa [blockEnded_held])⟩
  · rw [heldOutput_held, blockEnded_held]
    rfl
  · rw [heldOutput_output, heldEstimate_blockEnded]
    rfl

theorem evaluate_noWindow_counted (hdue : outputDue p v = true) (hwin : (fed sum win v).windows.s ≤ 0) :
    (evaluate s p sum win v).2 = true ∧ (evaluate s p sum win v).1.restarting = false := by
  rw [evaluate_noWindow hrest hwait hdue hwin]
  refine ⟨rfl, Bool.eq_false_iff.2 fun h => ?_⟩
  obtain ⟨hr, -⟩ := (heldOutput_restarting _).1 h
  rw [blockEnded_restarting] at hr
  exact absurd (hrest.symm.trans hr) nofun

end

/-! ## A restart in Settle (R168) -/

section
variable (hrest : v.restarting = true) (hends : SettleEnds (modeTable s s.seq.mode).preset r v)
include hrest hends

theorem evaluate_restartDone (hwin : 0 < v.settle.2 + win) :
    let e := limitEstimate ((v.settle.1 + sum) / (v.settle.2 + win))
    let w := (evaluate s (some r) sum win v).1
    let m := modeTable s s.seq.mode
    w.restarting = false ∧ w.output = some (e, true) ∧ w.held = 0 ∧ w.preset = m.preset ∧
      w.counts = pathLoaded m.preset (e * (4 * m.q : Nat)) ∧ w.windows = pathLoaded m.preset (4 * m.q : Nat) := by
  rw [evaluate_settle hrest, settleRound_done hends hwin]
  exact ⟨rfl, rfl, rfl, rfl, rfl, rfl⟩

theorem evaluate_restartAgain (hwin : v.settle.2 + win ≤ 0) :
    let w := (evaluate s (some r) sum win v).1
    w.held = min (v.held + 1) 15 ∧ w.settle = (0, 0) ∧ w.restartAt = some r ∧ (w.restarting = true ↔ v.held < 3) := by
  rw [evaluate_settle hrest, settleRound_noWindow hends hwin]
  exact ⟨heldOutput_held _, heldOutput_settle rfl, heldOutput_restartAt _,
    (heldOutput_restarting _).trans (and_iff_right hrest)⟩

end

theorem evaluate_restartRuns (hrest : v.restarting = true)
    (hruns : ∀ r, p = some r → ¬SettleEnds (modeTable s s.seq.mode).preset r v) :
    let w := (evaluate s p sum win v).1
    w.restarting = true ∧ w.output = v.output ∧ w.settle = (v.settle.1 + sum, v.settle.2 + win) := by
  rw [evaluate_settle hrest, settleRound_runs hruns]
  exact ⟨hrest, rfl, rfl⟩

/-- No Settle block ends in the end round, nor within 16 periods unless the preset is Settle itself. -/
theorem not_settleEnds {preset : Nat}
    (hrun : p = none ∨ ∃ q, p = some q ∧ restartPeriods q v < 16 ∧ (preset ≠ 3 ∨ q % 16 ≠ 0)) (hp : p = some r) :
    ¬SettleEnds preset r v := by
  subst hp
  obtain h | ⟨q, h, hlt, hno⟩ := hrun
  · cases h
  · cases h
    unfold SettleEnds
    omega

/-! ## The evaluation of a channel -/

/-- The round reads the accumulator as the pre-window that has ended leaves it, and the filter's record as it stood. -/
theorem evaluated_passPre (p : Option Nat) (ch dt : Nat) (s : State) : evaluated p ch (passPre ch (advance dt s)) =
    evaluate s p (chanOf (passPre ch (advance dt s)) ch).ambSum (chanOf (passPre ch (advance dt s)) ch).ambWin
      (ambOf s ch) := by
  rw [evaluated, evaluate_congr (s := s) (by simp) (by simp), ambOf_passPre, ambOf_advance]

/-- Settles O35: each command writes its channel alone, and a reading is evaluated in one of three ways. -/
theorem receiverCommands : Obligations.ReceiverCommands := by
  unfold Obligations.ReceiverCommands
  refine ⟨fun dt ch a s hch harm hstop => ⟨_, exec_rangeWindowEnd hch harm hstop, ?_⟩,
    fun dt ch r s hch hrec hr => ⟨_, exec_recoveryEnd hch hrec hr, ?_⟩,
    fun dt ch s hch => ⟨_, exec_holdingRegisterFlush dt s hch, ?_⟩,
    fun dt ch p s hch hround hseen hstart => ⟨_, exec_ambientEvaluation hch hround hseen hstart, ?_⟩,
    fun dt ch fired s hch hfired harm hraised => ⟨_, exec_nearZoneLine hch hfired harm hraised, fun d => ⟨?_, ?_⟩, ?_⟩⟩
  · rw [chanOf_setChan_self]
    exact ⟨endWindow_arm .., endWindow_next .., fun k hk => chanOf_written_ne hk .., setChan_passPre_eq ..⟩
  · rw [chanOf_setChan_self]
    exact ⟨rfl, rfl, fun k hk => chanOf_written_ne hk .., setChan_passPre_eq ..⟩
  · rw [chanOf_setChan_self]
    refine ⟨rfl, ?_, fun hle => ?_, fun hle hheld => full_of_flushHold_held ?_ hheld, fun k hk => chanOf_written_ne hk ..,
      setChan_passPre_eq ..⟩
    · simpa using flushed_appends (passPre ch (advance dt s)) ch
    · exact flushHold_buffer_le (by simpa using hle) 20
    · have hsteps := holdSteps_le (chanOf s ch).hold
      rw [passPre_hold, chanOf_advance]
      omega
  · have hE := evaluated_passPre p ch dt s
    have hwas : ambOf (passPre ch (advance dt s)) ch = ambOf s ch := by simp
    rw [chanOf_evaluationCounted, chanOf_evaluationWritten_self, ambOf_evaluationCounted, ambOf_evaluationWritten_self, hE]
    refine ⟨rfl, rfl, by simp, evaluate_estimate .., ?_, fun k hk => ⟨?_, ?_⟩, evaluationCounted_passPre_eq ..⟩
    · intro v w sum win m counts windows due k coef
      refine ⟨fun hrest hwait => ?_, fun hrest hwait hwin => ?_, fun hrest => ⟨fun q hp hends hwin => ?_,
        fun q hp hends hwin => ?_, fun hrun => ?_⟩⟩
      · have hwait := hwait.imp_right Nat.cast_eq_zero.1
        refine ⟨evaluate_between hrest hwait, evaluate_fir hrest hwait, evaluate_ratio hrest hwait, fun hdue hwin => ?_⟩
        obtain ⟨hheld, hest, hfourth⟩ := evaluate_noWindow_record hrest hwait hdue hwin
        obtain ⟨htold, hdone⟩ := evaluate_noWindow_counted (s := s) hrest hwait hdue hwin
        rw [← hE] at htold hdone
        exact ⟨hheld, hest, hfourth, counterOf_heldOutputs_evaluationCounted htold hdone⟩
      · have hnew := hE.trans (evaluate_restart hrest hwait (Nat.cast_pos.1 hwin))
        have hcount := counterOf_restarts_evaluationCounted (congrArg Prod.snd hnew) (hwas ▸ hrest)
          (congrArg (·.1.restarting) hnew)
        rw [hE] at hnew
        simp only [w]
        rw [hnew]
        exact ⟨rfl, rfl, rfl, rfl, rfl, hcount⟩
      · subst hp
        exact evaluate_restartDone hrest hends hwin
      · subst hp
        exact evaluate_restartAgain hrest hends hwin
      · exact evaluate_restartRuns hrest fun r => not_settleEnds hrun
    · rw [chanOf_evaluationCounted, chanOf_evaluationWritten_ne _ _ _ hk, chanOf_passPre_ne hk, chanOf_advance]
    · rw [ambOf_evaluationCounted, ambOf_evaluationWritten_ne _ _ _ hk, ambOf_passPre, ambOf_advance]
  · exact mem_nearVeto_nearZone ..
  · rw [nearZone_permit]
    simp [sideOf]
  · exact nearZone_eq ..

end Sys2Proof.Proofs
end

section
/-! Bias faults, urgent requests and readbacks (R96, R97, R374). -/

namespace Sys2Proof.Proofs

open Sys2Proof Sys2Proof.Machine Sys2Proof.Laws

variable {dt : Nat} {supply : Bool} {s : State}

/-! ## The first bias fault -/

theorem logEvent_eq (cls ev inst arg : Nat) (s : State) :
    logEvent cls ev inst arg s = { s with log := (logEvent cls ev inst arg s).log } := by
  unfold logEvent
  split <;> rfl

/-- An abandonment ends the run, drops its writes to the NOR flash, and is logged (R351). -/
theorem abandonRun_eq (r : Nat) (s : State) : abandonRun r s =
    { s with calib := (abandonRun r s).calib, nor := (abandonRun r s).nor, log := (abandonRun r s).log } := by
  unfold abandonRun
  split
  · rfl
  · dsimp only
    rw [logEvent_eq]
    rfl

/-- BIAS_PWM off with the cause of an overvoltage recorded. -/
def overvolted (v : Bias) : Bias := { v with on := false, duty := 0, fault := 1 }

/-- What the sequencer notes of the first bias fault (R97, R296). -/
def biasFaultSeq (start : Bool) (q : Seq) : Seq :=
  { q with
    stop := stopDue 2 false q, stopped := true, biasHoldDue := q.biasHoldDue || !start, startFault := q.startFault || start
    resumeOk := false }

/-- The first fault, an overvoltage: the bias, the sequencer, and the run it ends. -/
theorem biasFault_overvoltage_first (h : s.bias.fault = 0) : biasFault 0 s =
    { s with
      bias := overvolted s.bias, seq := biasFaultSeq (inStart s) s.seq, calib := (biasFault 0 s).calib
      nor := (biasFault 0 s).nor, log := (biasFault 0 s).log } := by
  have hbit : bit 0 0 = false := rfl
  unfold biasFault
  simp only [modBias, h, hbit, Bool.false_eq_true, if_false, ne_eq, not_true_eq_false]
  rw [abandonRun_eq, logEvent_eq]
  rfl

theorem biasFault_overvoltage_first_run (h : s.bias.fault = 0) : (biasFault 0 s).calib.run = none := by
  have hbit : bit 0 0 = false := rfl
  simp [biasFault, h, hbit]

theorem exec_biasOvervoltage (h : s.phase ≠ .reset) :
    exec (.biasOvervoltage dt) s = .next (biasFault 0 (advance dt s)) := by
  simp [exec, execBiasOvervoltage, when_, h]

/-! ## Urgent requests -/

theorem urgentAdd_queued (h : supply ∈ s.aux.urgent) : urgentAdd supply s = s := by
  simp [urgentAdd, h]

theorem urgentAdd_room (h : supply ∉ s.aux.urgent) (hroom : s.aux.urgent.length < 4) :
    urgentAdd supply s = { s with aux := { s.aux with urgent := s.aux.urgent ++ [supply] } } := by
  simp [urgentAdd, h, Nat.not_le.2 hroom]

theorem urgentAdd_full (h : supply ∉ s.aux.urgent) (hfull : 4 ≤ s.aux.urgent.length) :
    urgentAdd supply s = count .urgentRefused 1 s := by
  simp [urgentAdd, h, hfull]

/-- While the queue has room, the request is in it afterwards and nothing but the queue has changed. -/
theorem urgentAdd_of_room (hroom : s.aux.urgent.length < 4) : supply ∈ (urgentAdd supply s).aux.urgent ∧
    urgentAdd supply s = { s with aux := { s.aux with urgent := (urgentAdd supply s).aux.urgent } } := by
  by_cases h : supply ∈ s.aux.urgent
  · rw [urgentAdd_queued h]
    exact ⟨h, rfl⟩
  · rw [urgentAdd_room h hroom]
    exact ⟨by simp, rfl⟩

theorem exec_urgentRequest (h : s.phase ≠ .reset) :
    exec (.urgentRequest dt supply) s = .next (urgentAdd supply (advance dt s)) := by
  simp [exec, execUrgentRequest, when_, h]

/-- The request of a readback is noted, and a step 500 us ago has had its own (R96). -/
def readbackNoted (now : Nat) (v : Bias) : Bias :=
  { v with requestAt := now, stepAt := v.stepAt.filter (fun x => decide (now < x + us 500)) }

theorem exec_biasReadback (h : readbackDue (advance dt s) = true) :
    exec (.biasReadback dt) s =
      .next (urgentAdd false (modBias (readbackNoted (s.now + dt)) (advance dt s))) := by
  simp only [exec, execBiasReadback, h, when_true, advance_now]
  rfl

/-- Settles O47, by the first fault's whole effect and the three answers of the urgent queue. -/
theorem biasFaultsAndUrgentRequests : Obligations.BiasFaultsAndUrgentRequests := by
  unfold Obligations.BiasFaultsAndUrgentRequests
  refine ⟨fun dt s hphase hfault => ⟨_, exec_biasOvervoltage hphase, ?_⟩,
    fun dt supply s hphase => ⟨_, exec_urgentRequest hphase, fun hq => ?_, fun hq hroom => ?_, fun hq hfull => ?_⟩,
    fun dt s hdue hroom => ⟨_, exec_biasReadback hdue, ?_⟩⟩
  · have hfault : (advance dt s).bias.fault = 0 := by rwa [advance_bias]
    have hrun := biasFault_overvoltage_first_run hfault
    refine ⟨?_, ?_, ?_, hrun, fun hmode => ?_, fun hstart => ?_, ?_⟩
    all_goals rw [biasFault_overvoltage_first hfault]
    · rw [advance_bias]; rfl
    · rfl
    · rw [advance_seq]; rfl
    · have hstart : inStart (advance dt s) = false := by
        obtain h | h := hmode <;> simp [inStart, h]
      simp [biasFaultSeq, hstart]
    · have hstart : inStart (advance dt s) = true := by
        obtain h | h := hstart <;> simp [inStart, h]
      simp [biasFaultSeq, hstart]
  · rw [urgentAdd_queued (by rwa [advance_aux])]
  · rw [urgentAdd_room (by rwa [advance_aux]) (by rwa [advance_aux]), advance_aux]
    exact ⟨rfl, rfl⟩
  · rw [urgentAdd_full (by rwa [advance_aux]) (by rwa [advance_aux])]
    simp
  · obtain ⟨hmem, hframe⟩ := urgentAdd_of_room (supply := false)
      (s := modBias (readbackNoted (s.now + dt)) (advance dt s)) (by simpa using hroom)
    refine ⟨hmem, ?_, ?_, ?_, ?_⟩
    all_goals rw [hframe]
    · simp
    · rfl
    · simp [readbackNoted]
    · rfl

end Sys2Proof.Proofs
end

section
/-! What a completed command leaves of the queue, the clock and the NOR flash, and the ways in which commands complete
(R116, R270). -/

namespace Sys2Proof.Laws

open Sys2Proof Sys2Proof.Machine Sys2Proof.Safety

variable {r s t u : State} {dt : Nat}

/-- `t` continues `r`: the same commands wait, no time is taken back, and the local counter's range and the canonical form of
the NOR flash hold in `t` if they do in `r`. -/
structure Continues (r t : State) : Prop where
  pending : t.pending = r.pending
  now : r.now ≤ t.now
  clock : ClockInRange r → ClockInRange t
  nor : norWf r.nor.mem = true → norWf t.nor.mem = true

theorem Continues.trans (h : Continues r s) (h' : Continues s t) : Continues r t :=
  ⟨h'.pending.trans h.pending, h.now.trans h'.now, h'.clock ∘ h.clock, h'.nor ∘ h.nor⟩

theorem Keeps.continues (h : Keeps r t) : Continues r t := by
  refine ⟨h.pending, h.now.ge, fun hr => ?_, h.nor⟩
  rwa [ClockInRange, h.localTime, h.subTap]

/-- A clock that starts anew at 0 is in range. -/
theorem continues_of_clock_zero (hp : t.pending = r.pending) (hn : t.now = r.now) (hl : t.grat.localTime = 0)
    (hs : t.grat.subTap = 0) (hm : t.nor.mem = r.nor.mem) : Continues r t :=
  ⟨hp, hn.ge, fun _ => by simp [ClockInRange, hl, hs], fun h => by rwa [hm]⟩

/-- The local counter is reduced to its 64 bits at every tick, and its sub-count to a step (R116). -/
theorem clockInRange_advance (dt : Nat) (h : ClockInRange s) : ClockInRange (advance dt s) := by
  unfold advance
  split
  · exact h
  · split
    · exact ⟨Nat.mod_lt _ (by norm_num), h.2⟩
    · exact ⟨Nat.mod_lt _ (by norm_num), Nat.mod_lt _ (by norm_num)⟩

theorem continues_advance (dt : Nat) (s : State) : Continues s (advance dt s) :=
  ⟨advance_pending dt s, (advance_now dt s) ▸ Nat.le_add_right .., clockInRange_advance dt, fun h => by rwa [advance_nor]⟩

theorem continues_resetDevice (cause : Nat) (por low hold : Bool) (s : State) :
    Continues s (resetDevice cause por low hold s) :=
  continues_of_clock_zero rfl rfl rfl rfl rfl

theorem continues_firstLock (band control : Nat) (s : State) : Continues s (firstLock band control s) :=
  continues_of_clock_zero rfl rfl rfl rfl rfl

/-! ## Updates beside them -/

/-- What `Keeps` compares. -/
def keptOf (s : State) : List Instr × Nat × Nat × Nat × List (Nat × Byte) :=
  (s.pending, s.now, s.grat.localTime, s.grat.subTap, s.nor.mem)

theorem Keeps.of_keptOf (h : Keeps r t) (e : keptOf u = keptOf t) : Keeps r u := by
  simp only [keptOf, Prod.mk.injEq] at e
  obtain ⟨hp, hn, hl, hs, hm⟩ := e
  exact ⟨hp.trans h.pending, hn.trans h.now, hl.trans h.localTime, hs.trans h.subTap, fun w => hm ▸ h.nor w⟩

theorem Keeps.ite (c : Prop) [Decidable c] (hs : Keeps r s) (ht : Keeps r t) : Keeps r (if c then s else t) := by
  split
  · exact hs
  · exact ht

/-! ## The ways in which a command completes -/

/-- Where the command completes, it continues from `s`. -/
def ContinuesOut (s : State) (o : Out) : Prop := ∀ t, o = .next t → Continues s t

theorem continuesOut_next (h : Continues s t) : ContinuesOut s (.next t) := by
  rintro _ ⟨⟩
  exact h

theorem continuesOut_need {c : Bool} (h : Continues s t) : ContinuesOut s (need c t) := by
  unfold need
  split
  · exact continuesOut_next h
  · rintro _ ⟨⟩

/-- A command that lets `dt` pass and beside that touches neither queue, clock nor the form of the NOR flash. -/
theorem continuesOut_of_keeps (h : Keeps (advance dt s) t) : ContinuesOut s (.next t) :=
  continuesOut_next ((continues_advance dt s).trans h.continues)

theorem continuesOut_need_of_keeps {c : Bool} (h : Keeps (advance dt s) t) : ContinuesOut s (need c t) :=
  continuesOut_need ((continues_advance dt s).trans h.continues)

variable {c : Bool} {f : State → State}

theorem continuesOut_when_ (hf : ∀ u, Keeps (advance dt s) u → Keeps (advance dt s) (f u)) :
    ContinuesOut s (.next (when_ c f (advance dt s))) :=
  continuesOut_of_keeps (keeps_when_ _ _ _ hf (.refl _))

theorem continuesOut_need_when_ {c' : Bool} (hf : ∀ u, Keeps (advance dt s) u → Keeps (advance dt s) (f u)) :
    ContinuesOut s (need c' (when_ c f (advance dt s))) :=
  continuesOut_need_of_keeps (keeps_when_ _ _ _ hf (.refl _))

theorem continuesOut_watchSafety (hf : ∀ u, Keeps (advance dt s) u → Keeps (advance dt s) (f u)) :
    ContinuesOut s (.next (watchSafety f (advance dt s))) :=
  continuesOut_of_keeps (keeps_watchSafety _ _ hf (.refl _))

theorem continuesOut_watchSafety_when_ (hf : ∀ u, Keeps (advance dt s) u → Keeps (advance dt s) (f u)) :
    ContinuesOut s (.next (watchSafety (when_ c f) (advance dt s))) :=
  continuesOut_watchSafety fun _ => keeps_when_ _ _ _ hf

theorem continuesOut_onPacket {type : Nat} {codes : List Nat} {rd : Bool} {f : List Byte → State → State}
    (hf : ∀ b u, Keeps (advance dt s) u → Keeps (advance dt s) (f b u)) :
    ContinuesOut s (.next (onPacket type codes rd f (advance dt s))) :=
  continuesOut_of_keeps (keeps_onPacket _ _ _ _ _ hf (.refl _))

theorem continuesOut_onReadout {op : Nat} {codes : List Nat} {rd : Bool} {f : Nat → Nat → Nat → State → State}
    (hf : ∀ a b c u, Keeps (advance dt s) u → Keeps (advance dt s) (f a b c u)) :
    ContinuesOut s (.next (onReadout op codes rd f (advance dt s))) :=
  continuesOut_of_keeps (keeps_onReadout _ _ _ _ _ hf (.refl _))

/-- The three granted kinds of item: `f` acts on the granted item of `engine` (R127, R128). -/
theorem continuesOut_grant {engine kind : Nat} {f : Nat → Item → State → State}
    (hf : ∀ c i u, Keeps (advance dt s) u → Keeps (advance dt s) (f c i u)) :
    ContinuesOut s (need c (grant engine kind f (advance dt s))) :=
  continuesOut_need_of_keeps (keeps_grant _ _ _ _ hf (.refl _))

end Sys2Proof.Laws
end

section
/-! Commands of the link, the packets and the hosts' sessions: queue, clock and NOR flash. -/

namespace Sys2Proof.Proofs

open Sys2Proof Sys2Proof.Machine Sys2Proof.Laws

/-! ## The device's receiver -/

theorem continues_execUpstreamStage (dt : Nat) (seen : StageInput) (s : State) :
    ContinuesOut s (execUpstreamStage dt seen s) :=
  continuesOut_when_ fun _ h => keeps_noteReady _ (keeps_modLink _ _ h)

theorem continues_execUpstreamStageTimeout (dt : Nat) (s : State) : ContinuesOut s (execUpstreamStageTimeout dt s) :=
  continuesOut_when_ fun _ h => keeps_count _ _ _ (keeps_modLink _ _ h)

theorem continues_execSymbolLockLoss (run : CodeRun) (s : State) : ContinuesOut s (execSymbolLockLoss run s) :=
  continuesOut_when_ (dt := run.dt) fun _ h => keeps_modLink _ _ h

theorem continues_execLossOfSignal (seen : SignalDetect) (s : State) : ContinuesOut s (execLossOfSignal seen s) :=
  continuesOut_when_ (dt := seen.dt) fun _ h => keeps_modLink _ _ h

theorem continues_execUpstreamSleep (dt slpSets : Nat) (s : State) : ContinuesOut s (execUpstreamSleep dt slpSets s) :=
  continuesOut_when_ fun _ h => keeps_modLink _ _ h

theorem continues_execUpstreamPacketDiscard (dt : Nat) (codes : List Nat) (rd : Bool) (s : State) :
    ContinuesOut s (execUpstreamPacketDiscard dt codes rd s) := by
  refine continuesOut_of_keeps (dt := dt) ?_
  split
  · next hr => exact keeps_receive_eq hr (.refl _)
  · exact .refl _

/-! ## Training, sleep and lane tests -/

theorem continues_execUts (dt : Nat) (st : Byte) (s : State) : ContinuesOut s (execUts dt st s) :=
  continuesOut_when_ fun _ h => .ite _ (keeps_utsAct _ _ (keeps_modLink _ _ h)) (keeps_modLink _ _ h)

theorem continues_execTrainingTimeout (dt : Nat) (s : State) : ContinuesOut s (execTrainingTimeout dt s) :=
  continuesOut_when_ fun _ h => keeps_logEvent _ _ _ _ _ (keeps_count _ _ _ (keeps_linkTransmitStart _ _ h))

theorem continues_execWidthRise (dt : Nat) (s : State) : ContinuesOut s (execWidthRise dt s) := by
  refine continuesOut_of_keeps (dt := dt) ?_
  split
  · exact .ite _ (keeps_modLink _ _ (.refl _)) (.refl _)
  · exact .refl _

theorem continues_execLinkDown (dt : Nat) (s : State) : ContinuesOut s (execLinkDown dt s) :=
  continuesOut_when_ keeps_linkDown

theorem continues_execDownstreamSleep (dt : Nat) (s : State) : ContinuesOut s (execDownstreamSleep dt s) :=
  continuesOut_when_ fun _ h => keeps_modLink _ _ h

theorem continues_execAlignmentMarker (dt : Nat) (s : State) : ContinuesOut s (execAlignmentMarker dt s) :=
  continuesOut_when_ fun _ h => keeps_modLink _ _ h

theorem continues_execLaneTestStart (dt : Nat) (s : State) : ContinuesOut s (execLaneTestStart dt s) :=
  continuesOut_when_ fun _ h => keeps_modLink _ _ (keeps_foldl _ (fun _ _ hu =>
    keeps_countSet _ _ _ (keeps_countSet _ _ _ (keeps_countSet _ _ _ hu))) _ _ h)

theorem continues_execLaneTestEnd (dt : Nat) (errors : List (Nat × Nat)) (s : State) :
    ContinuesOut s (execLaneTestEnd dt errors s) :=
  continuesOut_need_when_ fun _ h => keeps_laneTestEnd _ (keeps_settleCheckers _
    (keeps_foldl _ (fun _ _ hu => keeps_settleChecker _ _ _ hu) _ _ h))

theorem continues_execCheckerSync (dt : Nat) (seen : LaneBits) (s : State) : ContinuesOut s (execCheckerSync dt seen s) :=
  continuesOut_need_when_ fun _ h => keeps_modLink _ _ h

theorem continues_execCheckerSyncLoss (dt lane errors : Nat) (wrong : List Nat) (s : State) :
    ContinuesOut s (execCheckerSyncLoss dt lane errors wrong s) :=
  continuesOut_need_when_ fun _ h => keeps_when_ _ _ _ (fun _ hu => keeps_modLink _ _ (keeps_count _ _ _ hu))
    (keeps_settleChecker _ _ _ h)

theorem continues_execLinkPllHoldExpiry (dt : Nat) (s : State) : ContinuesOut s (execLinkPllHoldExpiry dt s) := by
  refine continuesOut_of_keeps (dt := dt) ?_
  split
  · exact .ite _ (keeps_linkStop _ (.refl _)) (.refl _)
  · exact .refl _

theorem continues_execPacketTransmit (dt : Nat) (s : State) : ContinuesOut s (execPacketTransmit dt s) := by
  refine continuesOut_of_keeps (dt := dt) (.ite _ ?_ (.refl _))
  extract_lets u
  have hu : Keeps (advance dt s) u := keeps_when_ _ _ _ keeps_stopReadout (.refl _)
  split
  · exact hu
  · exact keeps_afterSend _ _ (keeps_sendPacket _ _ (hu.of_keptOf rfl))

/-! ## Messages of the host -/

theorem continues_execTimeSync (dt : Nat) (codes : List Nat) (rd : Bool) (s : State) :
    ContinuesOut s (execTimeSync dt codes rd s) :=
  continuesOut_onPacket (keeps_timeSyncBody _)

theorem continues_execModeRequest (dt : Nat) (codes : List Nat) (rd : Bool) (s : State) :
    ContinuesOut s (execModeRequest dt codes rd s) :=
  continuesOut_watchSafety fun _ => keeps_onPacket _ _ _ _ _ keeps_modeRequest

theorem continues_execStatusQuery (dt : Nat) (codes : List Nat) (rd : Bool) (s : State) :
    ContinuesOut s (execStatusQuery dt codes rd s) :=
  continuesOut_onPacket keeps_statusQuery

theorem continues_execHostHello (dt : Nat) (codes : List Nat) (rd : Bool) (s : State) :
    ContinuesOut s (execHostHello dt codes rd s) :=
  continuesOut_onPacket keeps_hostHello

theorem continues_execHostFinish (dt : Nat) (codes : List Nat) (rd : Bool) (s : State) :
    ContinuesOut s (execHostFinish dt codes rd s) :=
  continuesOut_onPacket keeps_hostFinish

theorem continues_execHostFinishTimeout (dt : Nat) (s : State) : ContinuesOut s (execHostFinishTimeout dt s) := by
  refine continuesOut_of_keeps (dt := dt) ?_
  split
  · exact .refl _
  · exact .ite _ (keeps_refuseSession _ _ (.refl _)) (.refl _)

theorem continues_execHostClose (dt : Nat) (codes : List Nat) (rd : Bool) (s : State) :
    ContinuesOut s (execHostClose dt codes rd s) := by
  refine continuesOut_onPacket fun b u h => ?_
  split
  · exact .ite _ (keeps_closeSession _ h) (keeps_count _ _ _ h)
  · exact keeps_count _ _ _ h

theorem continues_execSafetyMessage (dt : Nat) (codes : List Nat) (rd : Bool) (s : State) :
    ContinuesOut s (execSafetyMessage dt codes rd s) :=
  continuesOut_watchSafety fun _ => keeps_onPacket _ _ _ _ _ keeps_safetyMessageBody

/-! ## Readout queries -/

theorem continues_execListIncidents (dt : Nat) (codes : List Nat) (rd : Bool) (s : State) :
    ContinuesOut s (execListIncidents dt codes rd s) :=
  continuesOut_onReadout fun _ _ _ _ => keeps_readoutGate _ _ _ _ _ fun _ h => keeps_readoutGo _ (keeps_modRec _ _ h)

theorem continues_execReadRecord (dt : Nat) (codes : List Nat) (rd : Bool) (s : State) :
    ContinuesOut s (execReadRecord dt codes rd s) := by
  refine continuesOut_onReadout fun _ _ _ _ => keeps_readoutGate _ _ _ _ _ fun u h => ?_
  split
  · exact keeps_readoutAnswer _ _ _ _ _ h
  · exact .ite _ (keeps_readoutAnswer _ _ _ _ _ h) (keeps_nandStart _ (keeps_modRec _ _ h))

theorem continues_execReleaseIncident (dt : Nat) (codes : List Nat) (rd : Bool) (s : State) :
    ContinuesOut s (execReleaseIncident dt codes rd s) := by
  refine continuesOut_onReadout fun _ _ _ _ => keeps_readoutGate _ _ _ _ _ fun u h => ?_
  split
  · exact keeps_readoutAnswer _ _ _ _ _ h
  · exact .ite _ (keeps_nandStart _ (keeps_readoutAnswer _ _ _ _ _ (keeps_releaseIncident _ _ h)))
      (keeps_readoutAnswer _ _ _ _ _ h)

theorem continues_execMark (dt : Nat) (codes : List Nat) (rd : Bool) (s : State) :
    ContinuesOut s (execMark dt codes rd s) :=
  continuesOut_onReadout fun _ _ _ _ h =>
    .ite _ (keeps_readoutAnswer _ _ _ _ _ (keeps_raiseTrigger _ _ h)) (keeps_readoutAnswer _ _ _ _ _ h)

theorem continues_execAbortRead (dt : Nat) (codes : List Nat) (rd : Bool) (s : State) :
    ContinuesOut s (execAbortRead dt codes rd s) :=
  continuesOut_onReadout fun _ _ _ _ h =>
    .ite _ (keeps_readoutAnswer _ _ _ _ _ h) (keeps_readoutAnswer _ _ _ _ _ (keeps_stopReadout _ h))

end Sys2Proof.Proofs
end

section
/-! Commands of the safety channels, the motor and the supplies: queue, clock and NOR flash. -/

namespace Sys2Proof.Proofs

open Sys2Proof Sys2Proof.Machine Sys2Proof.Laws

/-! ## Safety channels -/

theorem continues_execConnectionExpiry (dt : Nat) (d : Side) (s : State) : ContinuesOut s (execConnectionExpiry dt d s) := by
  refine continuesOut_watchSafety_when_ (dt := dt) fun u h => ?_
  have hu := keeps_checkPermit d _ (keeps_modSide d (fun c => { c with connOpen := false, demand := 0 }) _ h)
  exact .ite _ (keeps_count _ _ _ (keeps_logEvent _ _ _ _ _ hu)) hu

theorem continues_execSafetyExchange (dt : Nat) (a b : Bool) (ia ib : Nat) (s : State) :
    ContinuesOut s (execSafetyExchange dt a b ia ib s) :=
  continuesOut_when_ fun _ h => keeps_releaseMessage _ (keeps_watchSafety _ _ (fun _ hu =>
    keeps_compareWords _ (keeps_judgeWord _ _ _ _ (keeps_judgeWord _ _ _ _
      (keeps_modSide _ _ _ (keeps_modSide _ _ _ (keeps_count _ _ _ hu)))))) h)

theorem continues_execExchangeTimeout (dt : Nat) (d : Side) (s : State) : ContinuesOut s (execExchangeTimeout dt d s) :=
  continuesOut_watchSafety_when_ (keeps_enterSafeStop _ _)

theorem continues_execNoticeLine (dt : Nat) (d : Side) (s : State) : ContinuesOut s (execNoticeLine dt d s) :=
  continuesOut_watchSafety fun _ h => .ite _ (keeps_enterSafeStop _ _ _ h) h

theorem continues_execSafetyHallEdge (dt : Nat) (d : Side) (code : BitVec 3) (s : State) :
    ContinuesOut s (execSafetyHallEdge dt d code s) :=
  continuesOut_watchSafety_when_ (keeps_safetyEdge _ _)

theorem continues_execSpeedBelowWindow (dt : Nat) (d : Side) (s : State) : ContinuesOut s (execSpeedBelowWindow dt d s) :=
  continuesOut_watchSafety_when_ (keeps_leaveWindow _)

theorem continues_execSpeedWindowTimeout (dt : Nat) (d : Side) (s : State) :
    ContinuesOut s (execSpeedWindowTimeout dt d s) :=
  continuesOut_watchSafety_when_ (keeps_enterSafeStop _ _)

theorem continues_execTorqueRemoval (dt : Nat) (d : Side) (s : State) : ContinuesOut s (execTorqueRemoval dt d s) :=
  continuesOut_watchSafety (keeps_judgeTorque _)

theorem continues_execStandstill (dt : Nat) (d : Side) (s : State) : ContinuesOut s (execStandstill dt d s) := by
  refine continuesOut_watchSafety (dt := dt) fun u h => ?_
  dsimp only
  split
  · exact h
  · exact .ite _ (keeps_bothAtRest _ (keeps_modSide _ _ _ h)) h

theorem continues_execBnMarker (dt : Nat) (d : Side) (s : State) : ContinuesOut s (execBnMarker dt d s) :=
  continuesOut_watchSafety_when_ (keeps_bnMarkerAt _)

theorem continues_execBnMarkerMissing (dt : Nat) (d : Side) (s : State) : ContinuesOut s (execBnMarkerMissing dt d s) := by
  refine continuesOut_watchSafety_when_ (dt := dt) fun u h => ?_
  split
  · exact h
  · exact .ite _ (keeps_gapImplausible _ _ (keeps_modSide _ _ _ h)) h

theorem continues_execFirePadPulse (dt : Nat) (d : Side) (bank width : Nat) (s : State) :
    ContinuesOut s (execFirePadPulse dt d bank width s) :=
  continuesOut_need_of_keeps (keeps_watchSafety _ _ (fun _ => keeps_when_ _ _ _ (keeps_padPulse _ _ _)) (.refl _))

theorem continues_execGateTest (dt : Nat) (a b : List (Bool × Bool × Bool)) (s : State) :
    ContinuesOut s (execGateTest dt a b s) := by
  refine continuesOut_need_of_keeps (keeps_watchSafety _ _ (fun _ => keeps_when_ _ _ _ fun u h => ?_) (.refl _))
  extract_lets _ v w
  have hv : Keeps _ v := h.of_keptOf rfl
  have hw : Keeps _ w := .ite _ hv (keeps_enterSafeStop _ _ _ hv)
  exact .ite _ hw (keeps_enterSafeStop _ _ _ hw)

theorem continues_execSinSample (dt : Nat) (d : Side) (a0 b0 a1 b1 : Bool) (s : State) :
    ContinuesOut s (execSinSample dt d a0 b0 a1 b1 s) :=
  continuesOut_watchSafety_when_ fun _ h => keeps_afterInputs _ _ _ (keeps_modSide _ _ _ h)

theorem continues_execDiscrepancyTimeout (dt : Nat) (d : Side) (input : Nat) (s : State) :
    ContinuesOut s (execDiscrepancyTimeout dt d input s) :=
  continuesOut_need_of_keeps (keeps_watchSafety _ _ (fun _ h => keeps_afterInputs _ _ _ (keeps_modSide _ _ _ h)) (.refl _))

/-! ## S_OUT and the sensors -/

theorem continues_execSoutReadback (dt : Nat) (d : Side) (level : Bool) (s : State) :
    ContinuesOut s (execSoutReadback dt d level s) :=
  continuesOut_watchSafety_when_ fun _ h => .ite _ (keeps_soutFails _ _ (keeps_modSide _ _ _ h)) (keeps_modSide _ _ _ h)

theorem continues_execSoutTestPulse (dt : Nat) (d : Side) (s : State) : ContinuesOut s (execSoutTestPulse dt d s) :=
  continuesOut_when_ fun _ h => keeps_modSide _ _ _ h

theorem continues_execSoutTestSample (dt : Nat) (d : Side) (level : Bool) (s : State) :
    ContinuesOut s (execSoutTestSample dt d level s) :=
  continuesOut_watchSafety_when_ fun _ h => .ite _ (keeps_soutFails _ _ (keeps_modSide _ _ _ h)) (keeps_modSide _ _ _ h)

theorem continues_execSoutTestPulseEnd (dt : Nat) (d : Side) (s : State) : ContinuesOut s (execSoutTestPulseEnd dt d s) :=
  continuesOut_when_ fun _ h => keeps_modSide _ _ _ h

theorem continues_execSafetySensorRead (dt : Nat) (d : Side) (raw : Option Int) (s : State) :
    ContinuesOut s (execSafetySensorRead dt d raw s) :=
  continuesOut_watchSafety_when_ fun _ h =>
    .ite _ (keeps_enterSafeStop _ _ _ (keeps_modSide _ _ _ h)) (keeps_modSide _ _ _ h)

theorem continues_execSafetySelfTestFailure (dt : Nat) (d : Side) (s : State) :
    ContinuesOut s (execSafetySelfTestFailure dt d s) :=
  continuesOut_watchSafety (keeps_enterSafeStop _ _)

theorem continues_execSensorReading (dt : Nat) (readings : List (Option Int)) (s : State) :
    ContinuesOut s (execSensorReading dt readings s) :=
  continuesOut_need_of_keeps (keeps_watchSafety _ _ (fun _ => keeps_when_ _ _ _ fun _ h =>
    keeps_sensorReading _ _ (keeps_modThermal _ _ h)) (.refl _))

/-! ## Motor and bias -/

theorem continues_execHallEdge (dt : Nat) (code : BitVec 3) (observer : Nat) (s : State) :
    ContinuesOut s (execHallEdge dt code observer s) :=
  continuesOut_watchSafety_when_ fun _ h => keeps_observe _ _ _ (h.of_keptOf rfl)

theorem continues_execHallInvalid (dt : Nat) (code : BitVec 3) (s : State) : ContinuesOut s (execHallInvalid dt code s) :=
  continuesOut_watchSafety_when_ fun _ h => keeps_removeTorque _ _ (keeps_removeTorque _ _ (keeps_motorFault _ _ h))

theorem continues_execStallTimeout (dt : Nat) (s : State) : ContinuesOut s (execStallTimeout dt s) :=
  continuesOut_watchSafety_when_ (keeps_motorFault _)

theorem continues_execOvercurrent (dt : Nat) (s : State) : ContinuesOut s (execOvercurrent dt s) :=
  continuesOut_watchSafety_when_ (keeps_motorFault _)

theorem continues_execSyncInEdge (dt : Nat) (rising : Bool) (s : State) : ContinuesOut s (execSyncInEdge dt rising s) :=
  continuesOut_when_ fun _ h => h.of_keptOf rfl

theorem continues_execBiasOvervoltage (dt : Nat) (s : State) : ContinuesOut s (execBiasOvervoltage dt s) :=
  continuesOut_when_ (keeps_biasFault _)

theorem continues_execBiasReadback (dt : Nat) (s : State) : ContinuesOut s (execBiasReadback dt s) :=
  continuesOut_when_ fun _ h => keeps_urgentAdd _ _ (keeps_modBias _ _ h)

theorem continues_execUrgentRequest (dt : Nat) (supply : Bool) (s : State) : ContinuesOut s (execUrgentRequest dt supply s) :=
  continuesOut_when_ (keeps_urgentAdd _)

/-! ## Supplies and reset -/

theorem continues_execPowerOnReset (dt core : Nat) (s : State) : ContinuesOut s (execPowerOnReset dt core s) := by
  refine continuesOut_of_keeps (dt := dt) ?_
  split
  · exact .ite _ ((Keeps.refl _).of_keptOf rfl) (.refl _)
  · exact .refl _

theorem continues_execNresetLow (dt low : Nat) (s : State) : ContinuesOut s (execNresetLow dt low s) := by
  refine continuesOut_next ((continues_advance dt s).trans ?_)
  have hu := ((Keeps.refl (advance dt s)).of_keptOf (u := { advance dt s with free := (advance dt s).free + 1 }) rfl).continues
  split
  · exact hu.trans (continues_resetDevice ..)
  · exact hu

theorem continues_execProcessorWatchdog (dt : Nat) (s : State) : ContinuesOut s (execProcessorWatchdog dt s) := by
  refine continuesOut_next ((continues_advance dt s).trans ?_)
  unfold when_
  split
  · exact continues_resetDevice ..
  · exact (Keeps.refl _).continues

/-- The rails' levels go to the supply; a rail below its reset level resets the device, one below its warning begins a dip. -/
theorem continues_railsAt (levels : List Nat) (s : State) : Continues s (railsAt levels s) := by
  unfold railsAt
  extract_lets u
  have hu : Keeps s u := keeps_railsSeen _ _ (.refl _)
  split
  · exact hu.continues.trans (continues_of_clock_zero rfl rfl rfl rfl rfl)
  · split
    · exact hu.continues
    · exact (hu.ite _ (keeps_dipBegin _ _ hu)).continues

theorem continues_railsFall (fall : RailFall) (s : State) : Continues s (railsFall fall s) := by
  unfold railsFall
  split
  · exact (Keeps.refl s).continues
  · exact continues_railsAt _ _

theorem continues_execDipBegin (dt : Nat) (fall : RailFall) (s : State) : ContinuesOut s (execDipBegin dt fall s) :=
  continuesOut_need ((continues_advance dt s).trans (continues_railsFall ..))

theorem continues_execResetLevelFall (dt : Nat) (fall : RailFall) (s : State) :
    ContinuesOut s (execResetLevelFall dt fall s) :=
  continuesOut_need ((continues_advance dt s).trans (continues_railsFall ..))

theorem continues_execSupplyReturnLevel (rise : RailRise) (s : State) : ContinuesOut s (execSupplyReturnLevel rise s) :=
  continuesOut_need ((continues_advance rise.dt s).trans (continues_railsAt ..))

theorem continues_execDipEnd (dt : Nat) (s : State) : ContinuesOut s (execDipEnd dt s) := by
  refine continuesOut_of_keeps (dt := dt) ?_
  split
  · exact .ite _ ((Keeps.refl _).of_keptOf rfl) (.refl _)
  · exact .refl _

theorem continues_execDipHoldRelease (dt : Nat) (s : State) : ContinuesOut s (execDipHoldRelease dt s) :=
  continuesOut_when_ fun _ h => keeps_logEvent _ _ _ _ _ (h.of_keptOf rfl)

/-! ## Reference, lock and vehicle time -/

/-- A detection notes what it finds, not the local counter (R108). -/
theorem keptOf_detectReference (now watched edges : Nat) (u : State) :
    keptOf { u with grat := detectReference now watched edges u.grat } = keptOf u := by
  unfold detectReference
  dsimp only
  split
  · rfl
  · split <;> rfl

theorem continues_execResetRelease (dt : Nat) (x y : Byte) (ref : RefEdges) (s : State) :
    ContinuesOut s (execResetRelease dt x y ref s) :=
  continuesOut_when_ fun u h => h.of_keptOf (keptOf_detectReference u.now ref.watched ref.counted u)

theorem continues_execCrystalStartupDone (dt edges : Nat) (s : State) : ContinuesOut s (execCrystalStartupDone dt edges s) := by
  refine continuesOut_when_ (dt := dt) fun u h => ?_
  split
  · exact .ite _ (h.of_keptOf rfl) (h.of_keptOf rfl)
  · exact h.of_keptOf rfl

theorem continues_execReferenceDetectRetry (dt : Nat) (ref : RefEdges) (s : State) :
    ContinuesOut s (execReferenceDetectRetry dt ref s) :=
  continuesOut_when_ fun _ h => h.of_keptOf (keptOf_detectReference ..)

theorem continues_execLockDeclared (dt : Nat) (band : BandSearch) (loop : LoopState) (s : State) :
    ContinuesOut s (execLockDeclared dt band loop s) := by
  refine continuesOut_need ((continues_advance dt s).trans ?_)
  have hu : Keeps (advance dt s) (advance dt s) := .refl _
  dsimp only
  split
  · exact hu.continues
  · split
    · split
      · exact continues_firstLock ..
      · exact hu.continues
    · exact Keeps.continues (.ite _ (hu.of_keptOf rfl) (.ite _ (hu.of_keptOf rfl) hu))
    · exact Keeps.continues (hu.of_keptOf rfl)
    · exact hu.continues

theorem continues_execReferenceLoss (dt : Nat) (s : State) : ContinuesOut s (execReferenceLoss dt s) :=
  continuesOut_when_ fun _ h => keeps_count _ _ _ (keeps_logEvent _ _ _ _ _ (h.of_keptOf rfl))

theorem continues_execReferenceReturn (dt edges : Nat) (ppm : Int) (s : State) :
    ContinuesOut s (execReferenceReturn dt edges ppm s) :=
  continuesOut_when_ fun _ h => .ite _ (keeps_count _ _ _ (keeps_logEvent _ _ _ _ _ h))
    (.ite _ (keeps_lossOfLock _ h) (h.of_keptOf rfl))

theorem continues_execLossOfLock (seen : LockMonitor) (s : State) : ContinuesOut s (execLossOfLock seen s) :=
  continuesOut_when_ (dt := seen.dt) keeps_lossOfLock

theorem continues_execOutputsReturn (dt : Nat) (s : State) : ContinuesOut s (execOutputsReturn dt s) := by
  refine continuesOut_of_keeps (dt := dt) ?_
  split
  · refine .ite _ ?_ (.refl _)
    extract_lets clk g _ u
    have hu : Keeps (advance dt s) u := (Keeps.refl (advance dt s)).of_keptOf (by dsimp only [u, g, clk]; split <;> rfl)
    exact .ite _ (keeps_linkTransmitStart _ _ hu) hu
  · exact .refl _

/-- The taps to the wrap are time like any other. -/
theorem continues_execLocalCounterWrap (s : State) : ContinuesOut s (execLocalCounterWrap s) := by
  refine continuesOut_next ?_
  unfold when_
  split
  · exact continues_advance ..
  · exact (Keeps.refl _).continues

theorem continues_execSyncStale (dt : Nat) (s : State) : ContinuesOut s (execSyncStale dt s) :=
  continuesOut_when_ fun _ h => h.of_keptOf rfl

end Sys2Proof.Proofs
end

section
/-! Commands of shots, survey, contour and calibration: queue, clock and NOR flash. -/

namespace Sys2Proof.Proofs

open Sys2Proof Sys2Proof.Machine Sys2Proof.Laws

/-! ## Gap, shots and receiver -/

theorem continues_execTraverseFrame (dt : Nat) (s : State) : ContinuesOut s (execTraverseFrame dt s) :=
  continuesOut_when_ keeps_sendFrame

theorem continues_execDiagnosticSlot (dt bank : Nat) (high rises : List Nat) (firings : List (List (Nat × Nat)))
    (measured : Option Nat) (s : State) : ContinuesOut s (execDiagnosticSlot dt bank high rises firings measured s) :=
  continuesOut_need_when_ (keeps_takeSlot _ _ _ _ _)

theorem continues_execDiagnosticWindowClose (dt : Nat) (s : State) : ContinuesOut s (execDiagnosticWindowClose dt s) :=
  continuesOut_when_ keeps_closeWindow

theorem continues_execBearingPeriodStart (dt : Nat) (s : State) : ContinuesOut s (execBearingPeriodStart dt s) := by
  refine continuesOut_of_keeps (dt := dt) ?_
  split
  · exact .refl _
  · exact keeps_startPeriod _ _ (.refl _)

theorem continues_execAmbientEvaluation (dt channel : Nat) (s : State) : ContinuesOut s (execAmbientEvaluation dt channel s) :=
  continuesOut_need_of_keeps (keeps_evaluateChannel _ _ (keeps_passPre _ _ (.refl _)))

theorem continues_execShotSlot (dt : Nat) (s : State) : ContinuesOut s (execShotSlot dt s) := by
  refine continuesOut_watchSafety (dt := dt) fun u h => ?_
  split
  · exact h
  · exact keeps_modSeq _ _ (keeps_fireSlot _ _ _ h)

theorem continues_execCloseCommand (dt : Nat) (s : State) : ContinuesOut s (execCloseCommand dt s) :=
  continuesOut_of_keeps (keeps_closePending _ (.refl _))

theorem continues_execCoincidenceEvent (dt channel : Nat) (fired : List (Nat × Nat)) (tap : Nat) (s : State) :
    ContinuesOut s (execCoincidenceEvent dt channel fired tap s) :=
  continuesOut_need_of_keeps (keeps_firing _ _ _ _ (keeps_passPre _ _ (.refl _)))

theorem continues_execRangeWindowEnd (dt channel : Nat) (s : State) : ContinuesOut s (execRangeWindowEnd dt channel s) :=
  continuesOut_need_of_keeps (keeps_windowEnd _ _ (keeps_passPre _ _ (.refl _)))

theorem continues_execRecoveryEnd (dt channel : Nat) (s : State) : ContinuesOut s (execRecoveryEnd dt channel s) := by
  refine continuesOut_need_of_keeps (dt := dt) ?_
  have hu := keeps_passPre channel _ (.refl (advance dt s))
  dsimp only
  split
  · exact hu
  · exact .ite _ (keeps_modChan _ _ _ hu) hu

theorem continues_execHoldingRegisterFlush (dt channel : Nat) (s : State) :
    ContinuesOut s (execHoldingRegisterFlush dt channel s) :=
  continuesOut_need_of_keeps (keeps_modChan _ _ _ (keeps_passPre _ _ (.refl _)))

theorem continues_execNearZoneLine (dt channel : Nat) (fired : List (Nat × Nat)) (s : State) :
    ContinuesOut s (execNearZoneLine dt channel fired s) :=
  continuesOut_need_when_ (keeps_nearZone _)

/-! ## Survey engines -/

theorem continues_execMarkerApply (dt engine : Nat) (s : State) : ContinuesOut s (execMarkerApply dt engine s) := by
  refine continuesOut_need_of_keeps (dt := dt) ?_
  dsimp only
  split
  · exact .refl _
  · exact .ite _ (keeps_applyMarker _ _ _ (keeps_setEngine _ _ _ (.refl _))) (.refl _)

theorem continues_execEventItem (dt : Nat) (reads : ItemReads) (s : State) : ContinuesOut s (execEventItem dt reads s) :=
  continuesOut_grant fun _ _ _ h =>
    .ite _ (keeps_count _ _ _ (keeps_count _ _ _ (keeps_applyEvent _ _ _ h))) (keeps_count _ _ _ h)

theorem continues_execDropItem (dt engine : Nat) (s : State) : ContinuesOut s (execDropItem dt engine s) :=
  continuesOut_grant fun _ _ _ h => .ite _ (keeps_applyDrop _ _ _ _ h) (keeps_count _ _ _ h)

theorem continues_execContextClose (dt engine : Nat) (reads : SliceReads) (s : State) :
    ContinuesOut s (execContextClose dt engine reads s) :=
  continuesOut_grant fun _ _ _ h => .ite _ (keeps_closeCtx _ _ _ _ _ _ (keeps_count _ _ _ h)) (keeps_count _ _ _ h)

theorem continues_execGrantTimeout (dt engine : Nat) (s : State) : ContinuesOut s (execGrantTimeout dt engine s) :=
  continuesOut_need_when_ (keeps_failEngine _ _)

theorem continues_execEngineFailure (dt engine : Nat) (s : State) : ContinuesOut s (execEngineFailure dt engine s) :=
  continuesOut_need_when_ fun _ h => keeps_failEngine _ _ _ (keeps_count _ _ _ (keeps_storeError _ _ h))

theorem continues_execEngineSelfTest (dt engine : Nat) (ran passed : Bool) (s : State) :
    ContinuesOut s (execEngineSelfTest dt engine ran passed s) :=
  continuesOut_need_when_ (keeps_engineTest _ _)

theorem continues_execSpareSubstitution (dt : Nat) (s : State) : ContinuesOut s (execSpareSubstitution dt s) := by
  refine continuesOut_of_keeps (dt := dt) ?_
  split
  · exact .refl _
  · extract_lets u
    have hu : Keeps (advance dt s) u := keeps_modSurvey _ _ (.refl _)
    split
    · exact hu
    · split
      · exact keeps_substitute _ _ _ _ hu
      · exact keeps_loseGroup _ _ _ hu

theorem continues_execDumpCopy (dt : Nat) (s : State) : ContinuesOut s (execDumpCopy dt s) := by
  refine continuesOut_of_keeps (dt := dt) ?_
  split
  · exact .refl _
  · refine .ite _ (.refl _) ?_
    extract_lets _ _ v
    have hv : Keeps (advance dt s) v := keeps_dumpMove _ (keeps_moveDone _ _ (keeps_modSurvey _ _ (.refl _)))
    exact keeps_copyDone _ _ (.ite _ (keeps_moveIfIdle _ _ _ (keeps_due5 _ _ hv)) (keeps_freePool _ _ hv))

/-! ## Contour units and the packetiser -/

theorem continues_execContourStart (dt unit : Nat) (reads : PointReads) (s : State) :
    ContinuesOut s (execContourStart dt unit reads s) := by
  refine continuesOut_need_of_keeps (dt := dt) ?_
  extract_lets t v
  split
  · exact .refl _
  · split
    · exact .refl _
    · next w u₀ hw =>
      extract_lets u
      have hu₀ : Keeps (advance dt s) u₀ := keeps_takeWork_eq hw (.refl _)
      have hu : Keeps (advance dt s) u := by
        dsimp only [u]
        split
        · exact hu₀
        · exact keeps_count _ _ _ hu₀
      split
      · exact keeps_contourEccError _ _ _ (keeps_setUnit _ _ _ hu)
      · exact keeps_setUnit _ _ _ hu

theorem continues_execContourRecord (dt unit : Nat) (s : State) : ContinuesOut s (execContourRecord dt unit s) := by
  refine continuesOut_need_of_keeps (dt := dt) ?_
  dsimp only
  split
  · exact .refl _
  · exact .ite _ (keeps_produce _ _ _ _ (.refl _)) (.refl _)

theorem continues_execContourWatchdog (dt unit : Nat) (s : State) : ContinuesOut s (execContourWatchdog dt unit s) := by
  refine continuesOut_need_of_keeps (dt := dt) ?_
  dsimp only
  split
  · exact .refl _
  · split
    · exact .refl _
    · exact keeps_when_ _ _ _ (keeps_failUnit _ _) (.refl _)

theorem continues_execContourSelfTest (dt unit : Nat) (ran passed : Bool) (s : State) :
    ContinuesOut s (execContourSelfTest dt unit ran passed s) :=
  continuesOut_need_when_ (keeps_failUnit _ _)

theorem continues_execPointPacketRelease (dt group : Nat) (s : State) : ContinuesOut s (execPointPacketRelease dt group s) := by
  refine continuesOut_need_of_keeps (dt := dt) ?_
  dsimp only
  split
  · exact .refl _
  · split
    · exact .refl _
    · exact keeps_release _ _ _ _ (.refl _)

theorem continues_execSheetTrailer (dt : Nat) (s : State) : ContinuesOut s (execSheetTrailer dt s) := by
  refine continuesOut_of_keeps (dt := dt) ?_
  split
  · exact .refl _
  · exact .ite _ (keeps_trail _ _ (.refl _)) (.refl _)

theorem continues_execSafeStopTrailer (dt : Nat) (s : State) : ContinuesOut s (execSafeStopTrailer dt s) := by
  refine continuesOut_of_keeps (dt := dt) ?_
  split
  · exact .refl _
  · exact .ite _ (keeps_trail _ _ (.refl _)) (.refl _)

/-! ## Calibration -/

theorem continues_execCalibrationProcessing (dt : Nat) (norOk : Bool) (s : State) :
    ContinuesOut s (execCalibrationProcessing dt norOk s) := by
  refine continuesOut_of_keeps (dt := dt) ?_
  split
  · exact .refl _
  · exact .ite _ (keeps_processRun _ _ _ (.refl _)) (.refl _)

theorem continues_execCoreSegment (dt hitTaps : Nat) (hits : List (Nat × List Nat))
    (firings : List (Nat × List (List (Nat × Nat)))) (s : State) : ContinuesOut s (execCoreSegment dt hitTaps hits firings s) := by
  refine continuesOut_of_keeps (dt := dt) ?_
  split
  · exact .refl _
  · exact .ite _ (keeps_coreSegment _ _ _ _ _ _ (keeps_modChain _ _ (.refl _))) (.refl _)

theorem continues_execOpticalSegment (dt : Nat) (events : List (Nat × List (Nat × Nat × Nat))) (light : List (Nat × Nat))
    (widths : List (Nat × Int)) (s : State) : ContinuesOut s (execOpticalSegment dt events light widths s) := by
  refine continuesOut_of_keeps (dt := dt) ?_
  split
  · exact .refl _
  · exact .ite _ (keeps_watchSafety _ _ (keeps_opticalSegment _ _ _) (.refl _)) (.refl _)

theorem continues_execDatumEdgePair (dt : Nat) (edges : Nat × Nat) (s : State) : ContinuesOut s (execDatumEdgePair dt edges s) := by
  refine continuesOut_of_keeps (dt := dt) ?_
  split
  · exact .refl _
  · exact .ite _ (keeps_setRun _ _ (keeps_modCalib _ _ (.refl _))) (.refl _)

theorem continues_execCalibrationAbandon (dt : Nat) (s : State) : ContinuesOut s (execCalibrationAbandon dt s) := by
  refine continuesOut_of_keeps (dt := dt) ?_
  split
  · exact .refl _
  · exact .ite _ (keeps_abandonRun _ _ (.refl _)) (.refl _)

/-! ## Auxiliary inputs and the distance output -/

theorem continues_execAuxConversionDone (dt : Nat) (vin : Int) (vref : Nat) (overvoltage : Bool) (s : State) :
    ContinuesOut s (execAuxConversionDone dt vin vref overvoltage s) := by
  refine continuesOut_of_keeps (dt := dt) ?_
  split
  · exact .refl _
  · exact .ite _ (keeps_startNext _ _ (keeps_watchSafety _ _ (keeps_convDone _ _ _) (.refl _))) (.refl _)

theorem continues_execNeardistValueReady (dt : Nat) (s : State) : ContinuesOut s (execNeardistValueReady dt s) := by
  refine continuesOut_of_keeps (dt := dt) ?_
  split
  · exact .refl _
  · exact keeps_valueReady _ _ (.refl _)

theorem continues_execNeardistPeriod (dt : Nat) (s : State) : ContinuesOut s (execNeardistPeriod dt s) :=
  continuesOut_when_ fun _ h => keeps_modNear _ _ h

theorem continues_execNeardistNoDataTimeout (dt : Nat) (s : State) : ContinuesOut s (execNeardistNoDataTimeout dt s) :=
  continuesOut_of_keeps (.ite _ (keeps_modNear _ _ (.refl _)) (.refl _))

end Sys2Proof.Proofs
end

section
/-! Commands of the recorder, the image, the schedule, the log and the scan chain: queue, clock and NOR flash. -/

namespace Sys2Proof.Proofs

open Sys2Proof Sys2Proof.Machine Sys2Proof.Laws

/-! ## Recorder -/

theorem continues_execRecorderMount (mount : MountInput) (ce0 ce1 : Option NandPart) (s : State) :
    ContinuesOut s (execRecorderMount mount ce0 ce1 s) := by
  refine continuesOut_when_ (dt := mount.dt) fun u h => ?_
  extract_lets v second
  have hv : Keeps _ v := keeps_mountHours _ h
  split
  · exact keeps_modRec _ _ hv
  · exact .ite _ (keeps_modRec _ _ hv) (.ite _ (keeps_mountOn _ _ _ _ hv) (keeps_modRec _ _ hv))

theorem continues_execNandResponseTimeout (dt : Nat) (s : State) : ContinuesOut s (execNandResponseTimeout dt s) :=
  continuesOut_when_ fun _ h => keeps_modRec _ _ h

theorem continues_execCrashTrigger (dt high low : Nat) (s : State) : ContinuesOut s (execCrashTrigger dt high low s) :=
  continuesOut_when_ (keeps_raiseTrigger _)

theorem continues_execIncidentTrigger (dt : Nat) (s : State) : ContinuesOut s (execIncidentTrigger dt s) := by
  refine continuesOut_of_keeps (dt := dt) ?_
  split
  · exact .refl _
  · exact .ite _ (.refl _) (keeps_nandStart _ (keeps_when_ _ _ _ keeps_pauseRing
      (keeps_actTrigger _ _ _ _ _ (keeps_modRec _ _ (.refl _)))))

theorem continues_execPostTriggerEnd (dt : Nat) (s : State) : ContinuesOut s (execPostTriggerEnd dt s) := by
  refine continuesOut_of_keeps (dt := dt) ?_
  split
  · exact .refl _
  · exact .ite _ (keeps_nandStart _ (keeps_modRec _ _
      (keeps_formGaps _ (keeps_formEvents _ (keeps_formGaps _ (.refl _)))))) (.refl _)

theorem continues_execCommitPhase1 (run : PageRun) (s : State) : ContinuesOut s (execCommitPhase1 run s) :=
  continuesOut_when_ (dt := run.dt) fun _ h => keeps_nandStart _ (keeps_finishIndex _ (keeps_phaseWork _
    (keeps_finishClosing _ _ (keeps_dropSegJob _ h))))

theorem continues_execCommitPhase2 (run : PageRun) (s : State) : ContinuesOut s (execCommitPhase2 run s) :=
  continuesOut_when_ (dt := run.dt) fun _ h => keeps_nandStart _ (keeps_finishIndex _ (keeps_phaseWork _
    (keeps_finishIndex _ (keeps_phaseWork _ (keeps_finishClosing _ _ (keeps_dropSegJob _ h))))))

theorem continues_execSegmentClose (run : PageRun) (s : State) : ContinuesOut s (execSegmentClose run s) := by
  refine continuesOut_when_ (dt := run.dt) fun u h => ?_
  have hv := keeps_loadSeg _ (keeps_openIfNeeded _ h)
  dsimp only
  split
  · exact keeps_nandStart _ hv
  · exact .ite _ (keeps_nandStart _ (keeps_finishSeg _ _ (keeps_dropSegJob _ hv))) (keeps_nandStart _ hv)

theorem continues_execBodyBlockForm (dt : Nat) (s : State) : ContinuesOut s (execBodyBlockForm dt s) :=
  continuesOut_of_keeps (.ite _ (keeps_nandStart _ (keeps_moveStart _ _ _ _ _ (keeps_formBlock _ (.refl _)))) (.refl _))

theorem continues_execNandProgramDone (dt : Nat) (ok : Bool) (bitErrors : List Nat) (s : State) :
    ContinuesOut s (execNandProgramDone dt ok bitErrors s) := by
  refine continuesOut_of_keeps (dt := dt) ?_
  split
  · exact .ite _ (keeps_nandStart _ (keeps_copyProgrammed _ _ _ (.refl _))) (.refl _)
  · exact keeps_nandStart _ (keeps_modRec _ _ (.refl _))
  · exact .ite _ (keeps_nandStart _ (keeps_endSegJob _ _ _ (.refl _))) (.refl _)
  · exact .refl _

theorem continues_execNandEraseDone (dt : Nat) (ended : EraseResult) (s : State) :
    ContinuesOut s (execNandEraseDone dt ended s) := by
  refine continuesOut_of_keeps (dt := dt) ?_
  split
  · exact keeps_nandStart _ (keeps_blockErased _ _ _ (.refl _))
  · exact .refl _

theorem continues_execNandReadDone (dt : Nat) (bitErrors : List Nat) (s : State) :
    ContinuesOut s (execNandReadDone dt bitErrors s) := by
  refine continuesOut_of_keeps (dt := dt) ?_
  split
  · exact keeps_nandStart _ (keeps_pageRead _ _ _ _ (.refl _))
  · split
    · exact .ite _ (keeps_nandStart _ (keeps_copyRead _ _ _ (.refl _))) (.refl _)
    · exact keeps_nandStart _ (keeps_modRec _ _ (.refl _))
  · exact .refl _

theorem continues_execScrub (dt : Nat) (readBack : List Nat) (s : State) : ContinuesOut s (execScrub dt readBack s) := by
  refine continuesOut_of_keeps (dt := dt) ?_
  split
  · exact .ite _ (keeps_nandStart _ (keeps_copyChecked _ _ _ (.refl _))) (.refl _)
  · exact keeps_nandStart _ (keeps_modRec _ _ (.refl _))
  · exact .refl _

theorem continues_execPoweredHour (dt : Nat) (s : State) : ContinuesOut s (execPoweredHour dt s) := by
  refine continuesOut_when_ (dt := dt) fun u h => ?_
  extract_lets v w
  have hv : Keeps _ v := .ite _ (keeps_mountHours _ h) h
  have hw : Keeps _ w := keeps_hoursWrite _ (keeps_modRec _ _ hv)
  exact .ite _ (keeps_nandStart _ (keeps_ageScrubs _ (keeps_lifeFigures _ hw))) hw

/-! ## Movement channels and the NOR flash -/

theorem continues_execDescriptorComplete (dt channel : Nat) (s : State) :
    ContinuesOut s (execDescriptorComplete dt channel s) := by
  have hu := keeps_moveDone channel _ (.refl (advance dt s))
  exact continuesOut_need_of_keeps (.ite _ (.ite _ (keeps_snapshotOut _ _ hu) hu) (.refl _))

theorem continues_execChannelHalt (dt channel : Nat) (info : HaltInfo) (s : State) :
    ContinuesOut s (execChannelHalt dt channel info s) := by
  have hu := keeps_haltMover channel info.write info.stall info.addr _ (.refl (advance dt s))
  exact continuesOut_need_of_keeps (.ite _
    (.ite _ (keeps_abandonUse _ _ _ (keeps_moveAbandon _ _ _ (keeps_haltMover _ _ _ _ _ (.refl _))))
      (.ite _ (keeps_abandonUse _ _ _ (keeps_moveAbandon _ _ _ hu)) hu))
    (.refl _))

theorem continues_execNorPageProgramDone (dt : Nat) (ok : Bool) (s : State) :
    ContinuesOut s (execNorPageProgramDone dt ok s) := by
  refine continuesOut_of_keeps (dt := dt) ?_
  split
  · exact .refl _
  · refine .ite _ (.refl _) ?_
    extract_lets v _ w
    have hv : Keeps (advance dt s) v := (Keeps.refl _).of_keptOf rfl
    have hw : Keeps (advance dt s) w := keeps_norWrite _ _ _ hv
    refine .ite _ (keeps_norFailed _ _ hv) ?_
    exact .ite _ (keeps_norDone _ _ hw) (hw.of_keptOf rfl)

theorem continues_execNorSectorEraseDone (dt : Nat) (ok : Bool) (s : State) :
    ContinuesOut s (execNorSectorEraseDone dt ok s) := by
  refine continuesOut_of_keeps (dt := dt) ?_
  split
  · exact .refl _
  · refine .ite _ (.refl _) ?_
    extract_lets v w
    have hv : Keeps (advance dt s) v := (Keeps.refl _).of_keptOf rfl
    have hw : Keeps (advance dt s) w := keeps_erase _ _ _ hv
    refine .ite _ (keeps_norFailed _ _ hv) ?_
    exact .ite _ hw (hw.of_keptOf rfl)

/-! ## Image and schedule -/

/-- How the device reads its NOR is none of what the NOR holds (R269). -/
theorem norReadMode_mem (part : Option NorPart) (v : Nor) : (norReadMode part v).mem = v.mem := by
  unfold norReadMode
  split
  · rfl
  · split <;> rfl

theorem continues_execImageVerify (dt : Nat) (nor : Option NorPart) (s : State) :
    ContinuesOut s (execImageVerify dt nor s) := by
  refine continuesOut_when_ (dt := dt) fun u h => keeps_watchSafety _ _ (fun u h => ?_) h
  extract_lets _ _ _ v
  have hv : Keeps _ v := h.of_keptOf (by simp [keptOf, v, norReadMode_mem])
  exact .ite _ hv (.ite _ (keeps_verifyImage _ _ hv) (keeps_startCounter _ _ _ hv))

theorem continues_execImageAccept (dt : Nat) (s : State) : ContinuesOut s (execImageAccept dt s) :=
  continuesOut_when_ fun _ => keeps_watchSafety _ _ keeps_acceptImage

theorem continues_execSheetBoundary (dt : Nat) (s : State) : ContinuesOut s (execSheetBoundary dt s) :=
  continuesOut_watchSafety fun _ h => .ite _ (keeps_sheetBoundary _ h) h

theorem continues_execTimingOnlyBoundary (dt : Nat) (s : State) : ContinuesOut s (execTimingOnlyBoundary dt s) :=
  continuesOut_of_keeps (.ite _ (keeps_timingBoundary _ (.refl _)) (.ite _ (keeps_stopBoundary _ (.refl _)) (.refl _)))

/-! ## Log, status pages and JTAG -/

theorem continues_execEventLogWrite (dt : Nat) (s : State) : ContinuesOut s (execEventLogWrite dt s) := by
  refine continuesOut_of_keeps (dt := dt) ?_
  split
  · exact .refl _
  · split
    · exact .ite _ (.refl _) (keeps_logWrite _ _ _ (.refl _))
    · exact keeps_logWrite _ _ _ (.refl _)

theorem continues_execStatusPageAdvance (dt : Nat) (s : State) : ContinuesOut s (execStatusPageAdvance dt s) :=
  continuesOut_when_ fun _ h => h.of_keptOf rfl

theorem continues_execBypass (dt : Nat) (s : State) : ContinuesOut s (execBypass dt s) :=
  continuesOut_of_keeps ((keeps_jtagRun 1 _ (.refl (advance dt s))).of_keptOf rfl)

theorem continues_execIdcode (dt : Nat) (s : State) : ContinuesOut s (execIdcode dt s) :=
  continuesOut_of_keeps ((keeps_jtagRun 2 _ (.refl (advance dt s))).of_keptOf rfl)

/-- SAMPLE/PRELOAD and EXTEST put the device into reset, or hold it there (R453). -/
theorem continues_jtagHold (n : Nat) (scan : BoundaryScan) (s : State) : Continues s (jtagHold n scan s) := by
  unfold jtagHold
  extract_lets t
  have ht : Continues s t := by
    dsimp only [t]
    split
    · exact (Keeps.refl s).continues
    · exact continues_resetDevice ..
  exact ht.trans (Keeps.continues ((Keeps.refl t).of_keptOf rfl))

theorem continues_execSamplePreload (dt : Nat) (scan : BoundaryScan) (s : State) :
    ContinuesOut s (execSamplePreload dt scan s) :=
  continuesOut_need ((continues_advance dt s).trans (continues_jtagHold ..))

theorem continues_execExtest (dt : Nat) (scan : BoundaryScan) (s : State) : ContinuesOut s (execExtest dt scan s) :=
  continuesOut_need ((continues_advance dt s).trans (continues_jtagHold ..))

theorem continues_execJtagStatusRead (dt addr words : Nat) (s : State) :
    ContinuesOut s (execJtagStatusRead dt addr words s) :=
  continuesOut_need_of_keeps ((Keeps.refl (advance dt s)).of_keptOf rfl)

end Sys2Proof.Proofs
end

section
/-! Every command keeps the queue, lets no time run back, and keeps the clock's range and the form of the NOR flash. -/

namespace Sys2Proof.Proofs

open Sys2Proof Sys2Proof.Machine Sys2Proof.Laws Sys2Proof.Safety

theorem continues_exec (c : Instr) (s : State) : ContinuesOut s (exec c s) := by
  cases c with
  | powerOnReset _ _ => exact continues_execPowerOnReset _ _ _
  | nresetLow _ _ => exact continues_execNresetLow _ _ _
  | resetRelease _ _ _ _ => exact continues_execResetRelease _ _ _ _ _
  | crystalStartupDone _ _ => exact continues_execCrystalStartupDone _ _ _
  | referenceDetectRetry _ _ => exact continues_execReferenceDetectRetry _ _ _
  | lockDeclared _ _ _ => exact continues_execLockDeclared _ _ _ _
  | imageVerify _ _ => exact continues_execImageVerify _ _ _
  | imageAccept _ => exact continues_execImageAccept _ _
  | recorderMount _ _ _ => exact continues_execRecorderMount _ _ _ _
  | hallEdge _ _ _ => exact continues_execHallEdge _ _ _ _
  | hallInvalid _ _ => exact continues_execHallInvalid _ _ _
  | stallTimeout _ => exact continues_execStallTimeout _ _
  | overcurrent _ => exact continues_execOvercurrent _ _
  | timingOnlyBoundary _ => exact continues_execTimingOnlyBoundary _ _
  | sheetBoundary _ => exact continues_execSheetBoundary _ _
  | traverseFrame _ => exact continues_execTraverseFrame _ _
  | diagnosticSlot _ _ _ _ _ _ => exact continues_execDiagnosticSlot _ _ _ _ _ _ _
  | diagnosticWindowClose _ => exact continues_execDiagnosticWindowClose _ _
  | engineSelfTest _ _ _ _ => exact continues_execEngineSelfTest _ _ _ _ _
  | contourSelfTest _ _ _ _ => exact continues_execContourSelfTest _ _ _ _ _
  | coreSegment _ _ _ _ => exact continues_execCoreSegment _ _ _ _ _
  | opticalSegment _ _ _ _ => exact continues_execOpticalSegment _ _ _ _ _
  | calibrationProcessing _ _ => exact continues_execCalibrationProcessing _ _ _
  | calibrationAbandon _ => exact continues_execCalibrationAbandon _ _
  | datumEdgePair _ _ => exact continues_execDatumEdgePair _ _ _
  | bearingPeriodStart _ => exact continues_execBearingPeriodStart _ _
  | ambientEvaluation _ _ => exact continues_execAmbientEvaluation _ _ _
  | shotSlot _ => exact continues_execShotSlot _ _
  | rangeWindowEnd _ _ => exact continues_execRangeWindowEnd _ _ _
  | coincidenceEvent _ _ _ _ => exact continues_execCoincidenceEvent _ _ _ _ _
  | recoveryEnd _ _ => exact continues_execRecoveryEnd _ _ _
  | nearZoneLine _ _ _ => exact continues_execNearZoneLine _ _ _ _
  | holdingRegisterFlush _ _ => exact continues_execHoldingRegisterFlush _ _ _
  | markerApply _ _ => exact continues_execMarkerApply _ _ _
  | eventItem _ _ => exact continues_execEventItem _ _ _
  | dropItem _ _ => exact continues_execDropItem _ _ _
  | contextClose _ _ _ => exact continues_execContextClose _ _ _ _
  | closeCommand _ => exact continues_execCloseCommand _ _
  | grantTimeout _ _ => exact continues_execGrantTimeout _ _ _
  | engineFailure _ _ => exact continues_execEngineFailure _ _ _
  | spareSubstitution _ => exact continues_execSpareSubstitution _ _
  | contourStart _ _ _ => exact continues_execContourStart _ _ _ _
  | contourRecord _ _ => exact continues_execContourRecord _ _ _
  | contourWatchdog _ _ => exact continues_execContourWatchdog _ _ _
  | pointPacketRelease _ _ => exact continues_execPointPacketRelease _ _ _
  | sheetTrailer _ => exact continues_execSheetTrailer _ _
  | safeStopTrailer _ => exact continues_execSafeStopTrailer _ _
  | dumpCopy _ => exact continues_execDumpCopy _ _
  | packetTransmit _ => exact continues_execPacketTransmit _ _
  | alignmentMarker _ => exact continues_execAlignmentMarker _ _
  | downstreamSleep _ => exact continues_execDownstreamSleep _ _
  | upstreamStage _ _ => exact continues_execUpstreamStage _ _ _
  | upstreamStageTimeout _ => exact continues_execUpstreamStageTimeout _ _
  | symbolLockLoss _ => exact continues_execSymbolLockLoss _ _
  | lossOfSignal _ => exact continues_execLossOfSignal _ _
  | uts _ _ => exact continues_execUts _ _ _
  | trainingTimeout _ => exact continues_execTrainingTimeout _ _
  | widthRise _ => exact continues_execWidthRise _ _
  | linkDown _ => exact continues_execLinkDown _ _
  | upstreamSleep _ _ => exact continues_execUpstreamSleep _ _ _
  | laneTestStart _ => exact continues_execLaneTestStart _ _
  | laneTestEnd _ _ => exact continues_execLaneTestEnd _ _ _
  | timeSync _ _ _ => exact continues_execTimeSync _ _ _ _
  | syncStale _ => exact continues_execSyncStale _ _
  | modeRequest _ _ _ => exact continues_execModeRequest _ _ _ _
  | statusQuery _ _ _ => exact continues_execStatusQuery _ _ _ _
  | hostHello _ _ _ => exact continues_execHostHello _ _ _ _
  | hostFinish _ _ _ => exact continues_execHostFinish _ _ _ _
  | hostFinishTimeout _ => exact continues_execHostFinishTimeout _ _
  | hostClose _ _ _ => exact continues_execHostClose _ _ _ _
  | listIncidents _ _ _ => exact continues_execListIncidents _ _ _ _
  | readRecord _ _ _ => exact continues_execReadRecord _ _ _ _
  | releaseIncident _ _ _ => exact continues_execReleaseIncident _ _ _ _
  | mark _ _ _ => exact continues_execMark _ _ _ _
  | abortRead _ _ _ => exact continues_execAbortRead _ _ _ _
  | safetyMessage _ _ _ => exact continues_execSafetyMessage _ _ _ _
  | connectionExpiry _ _ => exact continues_execConnectionExpiry _ _ _
  | safetyExchange _ _ _ _ _ => exact continues_execSafetyExchange _ _ _ _ _ _
  | exchangeTimeout _ _ => exact continues_execExchangeTimeout _ _ _
  | noticeLine _ _ => exact continues_execNoticeLine _ _ _
  | safetyHallEdge _ _ _ => exact continues_execSafetyHallEdge _ _ _ _
  | speedWindowTimeout _ _ => exact continues_execSpeedWindowTimeout _ _ _
  | bnMarker _ _ => exact continues_execBnMarker _ _ _
  | firePadPulse _ _ _ _ => exact continues_execFirePadPulse _ _ _ _ _
  | gateTest _ _ _ => exact continues_execGateTest _ _ _ _
  | torqueRemoval _ _ => exact continues_execTorqueRemoval _ _ _
  | standstill _ _ => exact continues_execStandstill _ _ _
  | sinSample _ _ _ _ _ _ => exact continues_execSinSample _ _ _ _ _ _ _
  | discrepancyTimeout _ _ _ => exact continues_execDiscrepancyTimeout _ _ _ _
  | soutReadback _ _ _ => exact continues_execSoutReadback _ _ _ _
  | soutTestPulse _ _ => exact continues_execSoutTestPulse _ _ _
  | soutTestSample _ _ _ => exact continues_execSoutTestSample _ _ _ _
  | safetySensorRead _ _ _ => exact continues_execSafetySensorRead _ _ _ _
  | sensorReading _ _ => exact continues_execSensorReading _ _ _
  | biasOvervoltage _ => exact continues_execBiasOvervoltage _ _
  | biasReadback _ => exact continues_execBiasReadback _ _
  | auxConversionDone _ _ _ _ => exact continues_execAuxConversionDone _ _ _ _ _
  | urgentRequest _ _ => exact continues_execUrgentRequest _ _ _
  | neardistValueReady _ => exact continues_execNeardistValueReady _ _
  | neardistPeriod _ => exact continues_execNeardistPeriod _ _
  | neardistNoDataTimeout _ => exact continues_execNeardistNoDataTimeout _ _
  | referenceLoss _ => exact continues_execReferenceLoss _ _
  | referenceReturn _ _ _ => exact continues_execReferenceReturn _ _ _ _
  | lossOfLock _ => exact continues_execLossOfLock _ _
  | outputsReturn _ => exact continues_execOutputsReturn _ _
  | linkPllHoldExpiry _ => exact continues_execLinkPllHoldExpiry _ _
  | localCounterWrap => exact continues_execLocalCounterWrap _
  | syncInEdge _ _ => exact continues_execSyncInEdge _ _ _
  | dipBegin _ _ => exact continues_execDipBegin _ _ _
  | dipEnd _ => exact continues_execDipEnd _ _
  | dipHoldRelease _ => exact continues_execDipHoldRelease _ _
  | resetLevelFall _ _ => exact continues_execResetLevelFall _ _ _
  | processorWatchdog _ => exact continues_execProcessorWatchdog _ _
  | crashTrigger _ _ _ => exact continues_execCrashTrigger _ _ _ _
  | incidentTrigger _ => exact continues_execIncidentTrigger _ _
  | commitPhase1 _ => exact continues_execCommitPhase1 _ _
  | postTriggerEnd _ => exact continues_execPostTriggerEnd _ _
  | commitPhase2 _ => exact continues_execCommitPhase2 _ _
  | bodyBlockForm _ => exact continues_execBodyBlockForm _ _
  | segmentClose _ => exact continues_execSegmentClose _ _
  | nandProgramDone _ _ _ => exact continues_execNandProgramDone _ _ _ _
  | nandEraseDone _ _ => exact continues_execNandEraseDone _ _ _
  | nandReadDone _ _ => exact continues_execNandReadDone _ _ _
  | scrub _ _ => exact continues_execScrub _ _ _
  | poweredHour _ => exact continues_execPoweredHour _ _
  | descriptorComplete _ _ => exact continues_execDescriptorComplete _ _ _
  | channelHalt _ _ _ => exact continues_execChannelHalt _ _ _ _
  | eventLogWrite _ => exact continues_execEventLogWrite _ _
  | statusPageAdvance _ => exact continues_execStatusPageAdvance _ _
  | bypass _ => exact continues_execBypass _ _
  | idcode _ => exact continues_execIdcode _ _
  | samplePreload _ _ => exact continues_execSamplePreload _ _ _
  | extest _ _ => exact continues_execExtest _ _ _
  | jtagStatusRead _ _ _ => exact continues_execJtagStatusRead _ _ _ _
  | speedBelowWindow _ _ => exact continues_execSpeedBelowWindow _ _ _
  | bnMarkerMissing _ _ => exact continues_execBnMarkerMissing _ _ _
  | safetySelfTestFailure _ _ => exact continues_execSafetySelfTestFailure _ _ _
  | soutTestPulseEnd _ _ => exact continues_execSoutTestPulseEnd _ _ _
  | checkerSync _ _ => exact continues_execCheckerSync _ _ _
  | checkerSyncLoss _ _ _ _ => exact continues_execCheckerSyncLoss _ _ _ _ _
  | upstreamPacketDiscard _ _ _ => exact continues_execUpstreamPacketDiscard _ _ _ _
  | nandResponseTimeout _ => exact continues_execNandResponseTimeout _ _
  | norPageProgramDone _ _ => exact continues_execNorPageProgramDone _ _ _
  | norSectorEraseDone _ _ => exact continues_execNorSectorEraseDone _ _ _
  | supplyReturnLevel _ => exact continues_execSupplyReturnLevel _ _

/-- Settles O3: what every command leaves of the queue and of time. -/
theorem queueKeptTimeForward : Obligations.QueueKeptTimeForward := by
  unfold Obligations.QueueKeptTimeForward
  intro c s t h
  obtain ⟨hpending, hnow, -, -⟩ := continues_exec c s t h
  exact ⟨hpending, hnow⟩

/-- Settles O4: the command runs with the queue's rest, which the invariant does not speak of. -/
theorem everyStepKeepsInv : Obligations.EveryStepKeepsInv := by
  unfold Obligations.EveryStepKeepsInv
  rintro s t ⟨hclock, hmem⟩ hstep
  unfold step at hstep
  split at hstep
  · cases hstep
    exact ⟨hclock, hmem⟩
  · next c r _ =>
    have h := continues_exec c { s with pending := r } t hstep
    exact ⟨h.clock hclock, h.nor hmem⟩

/-- Settles O5: the local counter starts at 0 and the erased NOR flash lists nothing. -/
theorem invAtReset : Obligations.InvAtReset :=
  ⟨⟨by decide, by decide⟩, rfl⟩

end Sys2Proof.Proofs
end

section
/-! Lock and loss of lock, the return of the outputs, and the reference (R111 to R120). -/

namespace Sys2Proof.Proofs

open Sys2Proof Sys2Proof.Machine Sys2Proof.Laws

variable {dt measured control : Nat} {slow : List Bool} {errors : List Int} {off step : Int} {s : State}

/-! ## What the loop and the monitor report -/

theorem lockHeld_iff : lockHeld errors = true ↔ 256 ≤ errors.length ∧ ∀ e ∈ errors.take 256, e.natAbs ≤ 200 := by
  simp [lockHeld]

theorem lockFails_iff : lockFails errors off step = true ↔
    (4 ≤ errors.length ∧ ∀ e ∈ errors.take 4, 1000 < e.natAbs) ∨ 500 < off.natAbs ∨ 200 < step.natAbs := by
  simp [lockFails]

/-- While the phase is pulled no phase error is looked at (R120). -/
theorem lockFails_nil : lockFails [] off step = true ↔ 500 < off.natAbs ∨ 200 < step.natAbs := by
  simp [lockFails]

theorem controlOutside_iff : controlOutside control = true ↔ control < 0x0CCD ∨ 0xF333 < control := by
  simp [controlOutside]

theorem controlHolds_advance (dt measured : Nat) (d : Int) (s : State) :
    controlHolds (advance dt s) measured d = controlHolds s measured d := by
  rw [advance_eq]; rfl

/-- The band of R111, as the model chooses it: time moves no prediction (notes/assumptions/46.md). -/
theorem chosenBand_advance (dt : Nat) (s : State) (slow : List Bool) (measured : Nat) :
    chosenBand (advance dt s) slow measured =
      if controlHolds s measured 0 then searchedBand slow
      else if searchedBand slow < 31 ∧ controlHolds s measured 1 = true then searchedBand slow + 1
      else if 0 < searchedBand slow ∧ controlHolds s measured (-1) = true then searchedBand slow - 1
      else searchedBand slow := by
  simp [chosenBand, controlHolds_advance]

/-! ## LOCK_DECLARED -/

/-- A start of the transmitter trains all four lanes, as no lane is under test then (R213). -/
theorem linkTransmitStart_intended (wait : Nat) (s : State) : (linkTransmitStart wait s).link.intended = 15 := by
  simp [linkTransmitStart, modLink, linkTrainAll, linkTrain]

section
variable (hslow : slow.length = 5) (hmeasured : measured < 65536) (hcontrol : control < 65536)
include hslow hmeasured hcontrol

theorem exec_lockDeclared_of_not_held (hheld : lockHeld errors = false) :
    exec (.lockDeclared dt ⟨slow, measured⟩ ⟨control, errors⟩) s = .next (advance dt s) := by
  simp [exec, execLockDeclared, need, hslow, hmeasured, hcontrol, hheld]

theorem exec_lockDeclared_searching (hheld : lockHeld errors = true) (hst : s.grat.st = .searching)
    (hphase : s.phase ≠ .reset) (hwait : s.grat.crystalWait = false) (hnew : s.grat.everLocked = false) :
    exec (.lockDeclared dt ⟨slow, measured⟩ ⟨control, errors⟩) s =
      .next (firstLock (chosenBand (advance dt s) slow measured) control (advance dt s)) := by
  simp [exec, execLockDeclared, need, hslow, hmeasured, hcontrol, hheld, hst, hphase, hwait, hnew]

theorem exec_lockDeclared_pulling (hheld : lockHeld errors = true) (hst : s.grat.st = .relocking)
    (hpull : s.grat.pulling = true) :
    exec (.lockDeclared dt ⟨slow, measured⟩ ⟨control, errors⟩) s =
      .next { advance dt s with grat :=
        { noteControl control (advance dt s).grat with st := .locked, pulling := false, deltaT := 0 } } := by
  simp [exec, execLockDeclared, need, hslow, hmeasured, hcontrol, hheld, hst, hpull]

theorem exec_lockDeclared_relock (hheld : lockHeld errors = true) (hst : s.grat.st = .relocking)
    (hpull : s.grat.pulling = false) (hnew : s.grat.lockedAt = none) :
    exec (.lockDeclared dt ⟨slow, measured⟩ ⟨control, errors⟩) s =
      .next { advance dt s with grat := { noteControl control (advance dt s).grat with
        lockedAt := some (advance dt s).now, band := chosenBand (advance dt s) slow measured } } := by
  simp [exec, execLockDeclared, need, hslow, hmeasured, hcontrol, hheld, hst, hpull, hnew]

theorem exec_lockDeclared_again {l : Nat} (hst : s.grat.st = .relocking) (hpull : s.grat.pulling = false)
    (hagain : s.grat.lockedAt = some l) :
    exec (.lockDeclared dt ⟨slow, measured⟩ ⟨control, errors⟩) s = .next (advance dt s) := by
  simp [exec, execLockDeclared, need, hslow, hmeasured, hcontrol, hst, hpull, hagain]

end

/-! ## A loss of lock -/

/-- One event counted beside a logged one. -/
theorem counterOf_count_logEvent {c : Counter} (hc : counterKey c ≠ counterKey .logOverwrites) (cls ev inst arg : Nat)
    (s : State) : counterOf (count c 1 (logEvent cls ev inst arg s)) c = counterNext c (counterOf s c) 1 := by
  rw [counterOf_count, counterOf_logEvent _ _ _ _ _ _ hc]

/-- The Graticule after a loss of lock (R119). -/
def lostGrat (s : State) : Grat :=
  { (if s.grat.clkOut then clkStop s else s.grat) with
    st := .relocking, lockLost := true, outputs := false, startOsc := true, pulling := false, lockedAt := none, deltaT := 0
    pllHold := match s.grat.pllHold with | none => some s.now | some h => some h }

theorem lostGrat_clkOut (s : State) : (lostGrat s).clkOut = false := by
  unfold lostGrat
  split
  · rfl
  · next h => exact Bool.eq_false_iff.2 h

theorem lostGrat_localTime (s : State) : (lostGrat s).localTime = s.grat.localTime := by
  unfold lostGrat
  split <;> rfl

theorem lostGrat_lightDiag (s : State) : lostGrat (lightDiag s) = lostGrat s := by
  rw [lightDiag_eq]; rfl

/-- The lost lock before it is counted. -/
def lostLock (s : State) : State := { s with grat := lostGrat s }

/-- Firing will not resume by itself (R119). -/
def noResume (s : State) : State := { s with seq := { s.seq with resumeOk := false } }

/-- A loss of lock, stage by stage: the slot's pulse, the Graticule, the log and the count, the firing, the run. -/
theorem lossOfLock_stages (s : State) : lossOfLock s = abandonRun 2 (stopFiring 2 false (noResume
    (count .lockLoss 1 (logEvent 6 1 0 (gratWord (lostLock (lightDiag s))) (lostLock (lightDiag s)))))) := rfl

theorem lossOfLock_grat (s : State) : (lossOfLock s).grat = lostGrat s := by
  rw [lossOfLock_stages, abandonRun_grat, stopFiring_grat, ← lostGrat_lightDiag, noResume, count_grat, logEvent_grat, lostLock]

theorem lossOfLock_seq (s : State) :
    (lossOfLock s).seq = { s.seq with resumeOk := false, stop := stopDue 2 false s.seq, stopped := true } := by
  rw [lossOfLock_stages, abandonRun_seq, stopFiring_seq, noResume, count_seq, logEvent_seq, lostLock, lightDiag_seq]
  rfl

theorem lossOfLock_run (s : State) : (lossOfLock s).calib.run = none := by
  rw [lossOfLock_stages, abandonRun_run]

/-- A loss of lock moves the Graticule, the firing, a run with its writes, the log, and the slot's pulse. -/
theorem lossOfLock_eq (s : State) : lossOfLock s =
    { s with grat := (lossOfLock s).grat, seq := (lossOfLock s).seq, calib := (lossOfLock s).calib, nor := (lossOfLock s).nor
             log := (lossOfLock s).log, pulses := (lossOfLock s).pulses, chain := (lossOfLock s).chain } := by
  obtain ⟨chain, pulses, hlit⟩ : ∃ c p, lightDiag s = { s with chain := c, pulses := p } := ⟨_, _, lightDiag_eq s⟩
  obtain ⟨log, hlog⟩ : ∃ l, logEvent 6 1 0 (gratWord (lostLock (lightDiag s))) (lostLock (lightDiag s)) =
      { lostLock (lightDiag s) with log := l } := ⟨_, logEvent_eq ..⟩
  rw [lossOfLock_stages, hlog, hlit, abandonRun_eq]
  rfl

theorem counterOf_lossOfLock (s : State) :
    counterOf (lossOfLock s) .lockLoss = counterNext .lockLoss (counterOf s .lockLoss) 1 := by
  have hkey : counterKey .lockLoss ≠ counterKey .logOverwrites := by decide
  have hlit : counterOf (lostLock (lightDiag s)) .lockLoss = counterOf s .lockLoss :=
    counterOf_congr _ _ _ (congrArg Log.counters (lightDiag_log s))
  rw [lossOfLock_stages, counterOf_abandonRun _ _ _ (by decide) hkey, counterOf_stopFiring, ← hlit,
    ← counterOf_count_logEvent hkey]
  rfl

theorem exec_lossOfLock_of_not_fails (h : lockFails (if s.grat.pulling then [] else errors) off step = false) :
    exec (.lossOfLock ⟨dt, errors, off, step⟩) s = .next (advance dt s) := by
  simp [exec, execLossOfLock, h]

theorem exec_lossOfLock_of_fails (hfails : lockFails errors off step = true) (hst : s.grat.st = .locked)
    (hpull : s.grat.pulling = false) :
    exec (.lossOfLock ⟨dt, errors, off, step⟩) s = .next (lossOfLock (advance dt s)) := by
  simp [exec, execLossOfLock, hfails, hst, hpull]

/-! ## The outputs return -/

/-- The Graticule when the outputs return (R119 step 5). -/
def returnedGrat (s : State) : Grat :=
  { (if clkOutRuns s then clkBegin s.now s else s.grat) with
    st := .locked, outputs := true, startOsc := false, lockedAt := none, pllHold := none }

theorem returnedGrat_lockLost (s : State) : (returnedGrat s).lockLost = s.grat.lockLost := by
  unfold returnedGrat
  split <;> rfl

/-- The state in which the outputs have returned and a recovery run is due. -/
def returned (s : State) : State :=
  { s with grat := returnedGrat s, calib := { s.calib with recoveryDue := true } }

theorem exec_outputsReturn {l : Nat} (hst : s.grat.st = .relocking) (hlock : s.grat.lockedAt = some l)
    (hheld : l + ms 1 ≤ s.now + dt) :
    exec (.outputsReturn dt) s = .next (if (advance dt s).link.restart then linkTransmitStart 0 (returned (advance dt s))
      else returned (advance dt s)) := by
  have hback : ((advance dt s).grat.st == .relocking && decide (l + ms 1 ≤ (advance dt s).now)) = true := by
    simp [hst, hheld]
  simp only [exec, execOutputsReturn, (advance_grat_lockedAt dt s).trans hlock, hback, if_true]
  rfl

theorem exec_linkPllHoldExpiry {h : Nat} (hst : s.grat.st = .relocking) (hhold : s.grat.pllHold = some h)
    (hend : h + ms 2 ≤ s.now + dt) :
    exec (.linkPllHoldExpiry dt) s = .next (linkStop (advance dt s)) := by
  simp [exec, execLinkPllHoldExpiry, hst, hhold, hend]

/-! ## The reference -/

/-- Coasting from a loss of the reference, before it is counted (R118). -/
def coasting (s : State) : State :=
  { s with grat := { s.grat with
      st := .coasting, pulling := false, coastTs := Table.getD 0 s.thermal.ts 10, coastTj := s.thermal.tj.getD 0, deltaT := 0 } }

theorem exec_referenceLoss (hst : s.grat.st = .locked) :
    exec (.referenceLoss dt) s =
      .next (count .refLoss 1 (logEvent 6 2 0 (gratWord (coasting (advance dt s))) (coasting (advance dt s)))) := by
  simp only [exec, execReferenceLoss, hst]
  rfl

theorem counterOf_coasting (c : Counter) (s : State) : counterOf (coasting s) c = counterOf s c := rfl

section
variable {edges : Nat} {ppm : Int} (hst : s.grat.st = .coasting)
include hst

theorem exec_referenceReturn_mismatch (hfreq : classifyEdges edges ≠ some s.grat.freq) :
    exec (.referenceReturn dt edges ppm) s =
      .next (count .refMismatch 1 (logEvent 6 3 0 (gratWord (advance dt s)) (advance dt s))) := by
  simp [exec, execReferenceReturn, hst, hfreq]

theorem exec_referenceReturn_far (hfreq : classifyEdges edges = some s.grat.freq) (hppm : 500 < ppm.natAbs) :
    exec (.referenceReturn dt edges ppm) s = .next (lossOfLock (advance dt s)) := by
  simp [exec, execReferenceReturn, hst, hfreq, hppm]

theorem exec_referenceReturn_pull (hfreq : classifyEdges edges = some s.grat.freq) (hppm : ppm.natAbs ≤ 500) :
    exec (.referenceReturn dt edges ppm) s =
      .next { advance dt s with grat := { (advance dt s).grat with st := .relocking, pulling := true, deltaT := 0 } } := by
  simp [exec, execReferenceReturn, hst, hfreq, Nat.not_lt.2 hppm]

end

/-! ## The statements -/

/-- Settles O10, command by command: a declared lock by the state it comes in, a loss, the return and the expiry. -/
theorem lockAndLossOfLock : Obligations.LockAndLossOfLock := by
  unfold Obligations.LockAndLossOfLock
  intro held band lost
  have hheldIff (errors : List Int) : lockHeld errors = true ↔ held errors := lockHeld_iff
  have hband (dt : Nat) (s : State) (slow : List Bool) (measured : Nat) :
      chosenBand (advance dt s) slow measured = band s slow measured := chosenBand_advance ..
  have hlost (errors : List Int) (off step : Int) : lockFails errors off step = true ↔ lost errors off step := lockFails_iff
  refine ⟨?first, ?unheld, ?kept, ?pulled, ?loss, ?declared, ?outputs, ?expiry⟩
  case first =>
    intro dt measured control slow errors s hslow hmeasured hcontrol hheld hst hphase hwait hnew
    exact ⟨_, exec_lockDeclared_searching hslow hmeasured hcontrol ((hheldIff _).2 hheld) hst hphase hwait hnew,
      rfl, rfl, rfl, rfl, rfl, rfl, rfl, rfl, hband .., controlOutside_iff.symm, rfl,
      linkTransmitStart_intended .., rfl, rfl⟩
  case unheld =>
    intro dt measured control slow errors s hslow hmeasured hcontrol hheld
    exact exec_lockDeclared_of_not_held hslow hmeasured hcontrol (Bool.eq_false_iff.2 (mt (hheldIff _).1 hheld))
  case kept =>
    intro dt errors off step s hkept
    refine exec_lossOfLock_of_not_fails (Bool.eq_false_iff.2 ?_)
    split
    · exact fun h => hkept (.inr (lockFails_nil.1 h))
    · exact mt (hlost ..).1 hkept
  case pulled =>
    intro dt errors off step s _ hpull hoff hstep
    refine exec_lossOfLock_of_not_fails ?_
    rw [hpull, if_pos rfl, Bool.eq_false_iff, Ne, lockFails_nil]
    omega
  case loss =>
    intro dt errors off step s hloss hst hpull
    refine ⟨_, exec_lossOfLock_of_fails ((hlost ..).2 hloss) hst hpull, ?_⟩
    have hgrat := lossOfLock_grat (advance dt s)
    have hseq := lossOfLock_seq (advance dt s)
    refine ⟨congrArg Grat.st hgrat, congrArg Grat.lockLost hgrat, congrArg Grat.outputs hgrat, congrArg Grat.startOsc hgrat,
      (congrArg Grat.clkOut hgrat).trans (lostGrat_clkOut _), congrArg Grat.lockedAt hgrat,
      (congrArg Grat.localTime hgrat).trans (lostGrat_localTime _), ?_, congrArg Seq.stopped hseq, ?_, lossOfLock_run _,
      lossOfLock_eq _⟩
    · rw [counterOf_lossOfLock, counterOf_advance]
    · rw [hseq, advance_seq]
  case declared =>
    intro dt measured control slow errors s hslow hmeasured hcontrol hheld hst
    have hheld := (hheldIff _).2 hheld
    refine ⟨fun hpull => ?_, fun hpull hnew => ?_, fun l hpull hagain => ?_⟩
    · exact ⟨_, exec_lockDeclared_pulling hslow hmeasured hcontrol hheld hst hpull, rfl, rfl, advance_grat_band .., rfl⟩
    · exact ⟨_, exec_lockDeclared_relock hslow hmeasured hcontrol hheld hst hpull hnew,
        (advance_grat_st ..).trans hst, rfl, hband .., rfl, advance_grat_outputs .., rfl⟩
    · exact exec_lockDeclared_again hslow hmeasured hcontrol hst hpull hagain
  case outputs =>
    intro dt l s hst hlock hheld
    refine ⟨_, exec_outputsReturn hst hlock hheld, ?_⟩
    have hlockLost : (returned (advance dt s)).grat.lockLost = s.grat.lockLost :=
      (returnedGrat_lockLost _).trans (advance_grat_lockLost ..)
    rw [advance_link]
    split
    · next hrestart =>
      refine ⟨rfl, rfl, rfl, hlockLost, rfl, fun _ => rfl, fun h => absurd (hrestart.symm.trans h) nofun, ?_⟩
      rw [← advance_calib dt s]
      rfl
    · next hrestart =>
      refine ⟨rfl, rfl, rfl, hlockLost, rfl, fun h => absurd h hrestart, fun _ => advance_link .., ?_⟩
      rw [← advance_calib dt s]
      rfl
  case expiry =>
    intro dt h s hst hhold hend
    exact ⟨_, exec_linkPllHoldExpiry hst hhold hend, rfl, rfl, rfl, rfl⟩

/-- Settles O11, by the answers to a loss and to a return of the reference. -/
theorem referenceLossAndReturn : Obligations.ReferenceLossAndReturn := by
  unfold Obligations.ReferenceLossAndReturn
  refine ⟨fun dt s hst => ⟨_, exec_referenceLoss hst, ?_⟩, fun dt edges ppm s hst =>
    ⟨fun hfreq => ⟨_, exec_referenceReturn_mismatch hst hfreq, ?_⟩, fun hfreq hlow hhigh =>
      ⟨_, exec_referenceReturn_pull hst hfreq (by omega), rfl, rfl, advance_grat_outputs .., advance_grat_lockLost .., rfl⟩,
      fun hfreq hfar => ⟨_, exec_referenceReturn_far hst hfreq (by omega), ?_⟩⟩⟩
  · rw [counterOf_count_logEvent (by decide), counterOf_coasting, counterOf_advance, count_grat, logEvent_grat]
    refine ⟨rfl, advance_grat_band .., advance_grat_control .., advance_grat_outputs .., advance_grat_clkOut ..,
      advance_grat_lockLost .., rfl, rfl, ?_⟩
    rw [logEvent_eq]
    rfl
  · rw [counterOf_count_logEvent (by decide), count_grat, logEvent_grat, counterOf_advance]
    refine ⟨rfl, rfl, ?_⟩
    rw [logEvent_eq]
    rfl
  · rw [lossOfLock_grat, lossOfLock_seq]
    exact ⟨rfl, rfl, rfl, rfl, rfl⟩

end Sys2Proof.Proofs
end

section
/-! Vehicle time: samples, staleness, and the wrap of the local counter (R116, R119, R122 to R124). -/

namespace Sys2Proof.Proofs

open Sys2Proof Sys2Proof.Machine Sys2Proof.Laws Sys2Proof.Safety

variable {dt t1 d t2 now n : Nat} {codes : List Nat} {rd : Bool} {body : List Byte} {g : Grat} {s u : State}

/-! ## The mapping -/

/-- At its own base the mapping gives the base, whatever the rates are. -/
theorem vehicleAt_lb (g : Grat) : vehicleAt g g.lb = g.vb := by
  have hslew : slewUsed g 0 = 0 := by
    unfold slewUsed
    split <;> omega
  simp [vehicleAt, hslew]

theorem vehicleAt_rebase (g : Grat) (l : Nat) : vehicleAt (rebase g l) l = vehicleAt g l :=
  vehicleAt_lb (rebase g l)

theorem clampI_mem {lo hi : Int} (h : lo ≤ hi) (v : Int) : lo ≤ clampI lo hi v ∧ clampI lo hi v ≤ hi :=
  ⟨le_max_left .., max_le h (min_le_left ..)⟩

/-! ## A sample -/

/-- The offset of the host's time from the mapping at the stamp (R122). -/
def sampleError (t1 d t2 : Nat) (g : Grat) : Int := ((t1 + d : Nat) : Int) - vehicleAt g t2

/-- What every accepted sample does: the base moves without a change of V there, the sample is noted, rho stays limited. -/
theorem syncSample_every (t1 d t2 : Nat) (g : Grat) (now : Nat) :
    let v := (syncSample t1 d t2 g now).2
    v.lb = t2 ∧ vehicleAt v t2 = vehicleAt g t2 ∧ v.sync = 1 ∧ v.lastSync = now ∧ v.prevT1 = some t1 ∧
      -200000 ≤ v.rho ∧ v.rho ≤ 200000 := by
  extract_lets v
  have hclamp (x : Int) := clampI_mem (show (-200000 : Int) ≤ 200000 by decide) x
  have hbase : v.lb = t2 ∧ v.vb = vehicleAt g t2 := by
    dsimp only [v, syncSample]
    split <;> exact ⟨rfl, rfl⟩
  have hnoted : v.sync = 1 ∧ v.lastSync = now ∧ v.prevT1 = some t1 := by
    dsimp only [v, syncSample]
    split <;> exact ⟨rfl, rfl, rfl⟩
  have hrho : -200000 ≤ v.rho ∧ v.rho ≤ 200000 := by
    dsimp only [v, syncSample]
    split <;> exact hclamp _
  obtain ⟨hlb, hvb⟩ := hbase
  obtain ⟨hsync, hlast, hprev⟩ := hnoted
  exact ⟨hlb, by rw [← hvb, ← vehicleAt_lb v, hlb], hsync, hlast, hprev, hrho⟩

/-- A first sample and a large one note a step (notes/assumptions/48.md). -/
theorem syncSample_step (h : g.prevSample = none ∨ 1000000 < (sampleError t1 d t2 g).natAbs) :
    let v := (syncSample t1 d t2 g now).2
    v.pendingStep = some (sampleError t1 d t2 g) ∧ v.sigma = 0 ∧ v.slew = 0 := by
  have hstep : ((rebase g t2).prevSample.isNone || decide (1000000 < (sampleError t1 d t2 g).natAbs)) = true := by
    simpa [rebase] using h
  unfold sampleError at hstep ⊢
  dsimp only [syncSample]
  rw [if_pos hstep]
  exact ⟨rfl, rfl, rfl⟩

/-- A small one is slewed, and leaves a noted step due (notes/assumptions/48.md). -/
theorem syncSample_slew (h : g.prevSample ≠ none) (he : (sampleError t1 d t2 g).natAbs ≤ 1000000) :
    let v := (syncSample t1 d t2 g now).2
    v.pendingStep = g.pendingStep ∧ v.slew = sampleError t1 d t2 g ∧
      v.sigma = max (-100000) (min 100000 (sampleError t1 d t2 g)) := by
  have hslew : ¬((rebase g t2).prevSample.isNone || decide (1000000 < (sampleError t1 d t2 g).natAbs)) = true := by
    simp [rebase, h, he]
  unfold sampleError at hslew ⊢
  dsimp only [syncSample]
  rw [if_neg hslew]
  exact ⟨rfl, rfl, rfl⟩

/-! ## TIME_SYNC -/

/-- A reading of the codes rests on the polarity of the pair, which time does not correct (Table 9.3). -/
theorem rxBytes_advance (dt : Nat) (s : State) (codes : List Nat) (rd : Bool) :
    rxBytes (advance dt s) codes rd = rxBytes s codes rd := by
  rw [advance_eq]; rfl

theorem exec_timeSync (h : Received 0x81 codes rd body (advance dt s) u) :
    exec (.timeSync dt codes rd) s = .next (timeSyncBody (rxBytes (advance dt s) codes rd).length body u) := by
  obtain ⟨htype, haccept⟩ := h
  simp only [exec, execTimeSync, onPacket_accepted htype haccept, rxBytes_advance]

/-- The echo is queued at the link, where it takes packets (R231). -/
theorem timeEcho_eq (t1 t2 result : Nat) (s : State) :
    timeEcho t1 t2 result s = { s with link := (timeEcho t1 t2 result s).link } := by
  unfold timeEcho due2
  split <;> rfl

theorem timeSyncBody_late (h : ∃ p, u.grat.prevT1 = some p ∧ leAt body 0 8 ≤ p) :
    timeSyncBody n body u = timeEcho (leAt body 0 8) (stampT2 n u) 2 (count .timeSyncDiscarded 1 u) := by
  obtain ⟨p, hp, hle⟩ := h
  simp [timeSyncBody, hp, hle]

theorem timeSyncBody_later (h : ∀ p, u.grat.prevT1 = some p → p < leAt body 0 8) :
    timeSyncBody n body u =
      let r := syncSample (leAt body 0 8) (leAt body 12 4) (stampT2 n u) u.grat u.now
      timeEcho (leAt body 0 8) (stampT2 n u) r.1 { u with grat := r.2 } := by
  cases hp : u.grat.prevT1 with
  | none => simp [timeSyncBody, hp]
  | some p => simp [timeSyncBody, hp, h p hp]

/-! ## SYNC_STALE -/

/-- The mapping runs on alone from the present (R124). -/
def staleGrat (g : Grat) : Grat := { rebase g g.localTime with sync := 2, sigma := 0, slew := 0 }

theorem vehicleAt_staleGrat (g : Grat) : vehicleAt (staleGrat g) g.localTime = vehicleAt g g.localTime :=
  vehicleAt_lb (staleGrat g)

theorem exec_syncStale (hsync : s.grat.sync = 1) (hlast : s.grat.lastSync + sec 10 ≤ s.now + dt) :
    exec (.syncStale dt) s = .next { advance dt s with grat := staleGrat (advance dt s).grat } := by
  have hdue : (decide ((advance dt s).grat.sync = 1) &&
      decide ((advance dt s).grat.lastSync + sec 10 ≤ (advance dt s).now)) = true := by
    simp [hsync, hlast]
  simp only [exec, execSyncStale, hdue, when_true]
  rfl

/-! ## LOCAL_COUNTER_WRAP -/

theorem exec_localCounterWrap (hever : s.grat.everLocked = true) :
    exec .localCounterWrap s = .next (advance (tapsToWrap s) s) := by
  simp only [exec, execLocalCounterWrap, hever, when_true]

theorem advance_of_outputs (hever : s.grat.everLocked = true) (hosc : s.grat.startOsc = false) (dt : Nat) :
    advance dt s = { s with now := s.now + dt, grat := gratTick dt s.grat } := by
  simp [advance, hever, hosc]

theorem advance_of_startOsc (hever : s.grat.everLocked = true) (hosc : s.grat.startOsc = true) (dt : Nat) :
    advance dt s = { s with now := s.now + dt, free := s.free + 1, grat := oscTick dt (startRate s.free) s.grat } := by
  simp [advance, hever, hosc]

/-- On the outputs the taps to the wrap end in the step that wraps. -/
theorem gratTick_tapsToWrap (hosc : s.grat.startOsc = false) (hsub : s.grat.subTap < 20) :
    gratTick (tapsToWrap s) s.grat =
      { s.grat with localTime := (s.grat.localTime / 2 ^ 48 + 1) * 2 ^ 48 % 2 ^ 64, subTap := 0 } := by
  have htaps : s.grat.subTap + tapsToWrap s = (2 ^ 48 - s.grat.localTime % 2 ^ 48) * 20 := by
    simp only [tapsToWrap, hosc, Bool.false_eq_true, if_false]
    omega
  have hsum : s.grat.localTime + (2 ^ 48 - s.grat.localTime % 2 ^ 48) = (s.grat.localTime / 2 ^ 48 + 1) * 2 ^ 48 := by omega
  simp only [gratTick, htaps, Nat.mul_div_cancel _ (show 0 < 20 by decide), Nat.mul_mod_left, hsum]

theorem le_ceilDiv_mul {m k : Nat} (hk : 0 < k) : m ≤ ceilDiv m k * k := by
  have h := Nat.div_add_mod (m + k - 1) k
  have := Nat.mod_lt (m + k - 1) hk
  rw [ceilDiv, Nat.mul_comm]
  omega

theorem ceilDiv_mul_lt {m k : Nat} (hk : 0 < k) (hm : 0 < m) : ceilDiv m k * k < m + k := by
  have := Nat.div_mul_le_self (m + k - 1) k
  rw [ceilDiv]
  omega

/-- The start oscillator runs at a rate within 5 % of its nominal one (R108). -/
theorem startRate_mem (n : Nat) : 950000 ≤ startRate n ∧ startRate n ≤ 1050000 := by
  unfold startRate clampN
  omega

/-- The cycles of the start oscillator that end by the wrap: the first that reaches it, of 4 counts each (R119). -/
theorem oscPhase_tapsToWrap (hosc : s.grat.startOsc = true) (hphase : s.grat.oscPhase < 80000000) :
    (s.grat.oscPhase + tapsToWrap s * startRate s.free) / 80000000 = ceilDiv (2 ^ 48 - s.grat.localTime % 2 ^ 48) 4 := by
  obtain ⟨hrate, hrate'⟩ := startRate_mem s.free
  have hcycles : 0 < ceilDiv (2 ^ 48 - s.grat.localTime % 2 ^ 48) 4 := by
    unfold ceilDiv
    omega
  simp only [tapsToWrap, hosc, if_true]
  generalize ceilDiv (2 ^ 48 - s.grat.localTime % 2 ^ 48) 4 = m at hcycles
  have hreach := le_ceilDiv_mul (m := 80000000 * m - s.grat.oscPhase) (k := startRate s.free) (by omega)
  have hpast := ceilDiv_mul_lt (m := 80000000 * m - s.grat.oscPhase) (k := startRate s.free) (by omega) (by omega)
  omega

/-- On the start oscillator the counter is within its step of 4 past the wrap. -/
theorem oscTick_tapsToWrap (hosc : s.grat.startOsc = true) (hphase : s.grat.oscPhase < 80000000) :
    (oscTick (tapsToWrap s) (startRate s.free) s.grat).localTime % 2 ^ 48 < 4 ∧
      (oscTick (tapsToWrap s) (startRate s.free) s.grat).localTime / 2 ^ 48 = (s.grat.localTime / 2 ^ 48 + 1) % 2 ^ 16 := by
  have hticks : (oscTick (tapsToWrap s) (startRate s.free) s.grat).localTime =
      (s.grat.localTime + 4 * ceilDiv (2 ^ 48 - s.grat.localTime % 2 ^ 48) 4) % 2 ^ 64 := by
    rw [← oscPhase_tapsToWrap hosc hphase]
    rfl
  rw [hticks, ceilDiv]
  omega

/-- Settles O13: an accepted message by its T1 and its error, staleness by the new base, the wrap by the taps to it. -/
theorem vehicleTime : Obligations.VehicleTime := by
  unfold Obligations.VehicleTime
  refine ⟨fun dt codes rd body s u hrx => ?_, fun dt s hsync hlast => ?_, fun s hever hosc _ hsub => ?_,
    fun s hever hosc _ hphase => ?_⟩
  · intro t1 t2 e
    refine ⟨fun hlater => ?_, fun p hp hle => ?_⟩
    · refine ⟨_, exec_timeSync hrx, ?_⟩
      obtain ⟨hlb, hv, hsync, hlast, hprev, hlow, hhigh⟩ := syncSample_every t1 (leAt body 12 4) t2 u.grat u.now
      rw [timeSyncBody_later hlater, timeEcho_eq]
      exact ⟨hlb, hv, hsync, hlast, hprev, hlow, hhigh, syncSample_step, fun h => syncSample_slew h.1 h.2, rfl⟩
    · refine ⟨_, exec_timeSync hrx, ?_⟩
      rw [timeSyncBody_late ⟨p, hp, hle⟩, timeEcho_eq]
      exact ⟨counterOf_count .., rfl⟩
  · exact ⟨_, exec_syncStale hsync hlast, rfl, rfl, advance_grat_rho .., vehicleAt_staleGrat _, rfl⟩
  · have hwrap := gratTick_tapsToWrap hosc hsub
    refine ⟨_, exec_localCounterWrap hever, ?_⟩
    rw [advance_of_outputs hever hosc, hwrap]
    refine ⟨?_, rfl, rfl, rfl, rfl⟩
    dsimp only
    omega
  · refine ⟨_, exec_localCounterWrap hever, ?_⟩
    rw [advance_of_startOsc hever hosc]
    obtain ⟨hlow, hepoch⟩ := oscTick_tapsToWrap hosc hphase
    exact ⟨hlow, hepoch, rfl, rfl⟩

end Sys2Proof.Proofs
end

section
/-! Every command completes exactly where it names parts that the device has (`Instr.wellFormed`). -/

namespace Sys2Proof.Proofs

open Sys2Proof Sys2Proof.Machine

/-- The answer `o` is a next state where `ok` holds, and the fault of a part that the device does not have otherwise. -/
def Completes (ok : Bool) (o : Out) : Prop := (ok = true → ∃ t, o = .next t) ∧ (ok = false → o = .fault .noSuchUnit)

theorem completes_next (t : State) : Completes true (.next t) := ⟨fun _ => ⟨t, rfl⟩, nofun⟩

theorem completes_need (ok : Bool) (t : State) : Completes ok (need ok t) := by
  cases ok with
  | false => exact ⟨nofun, fun _ => rfl⟩
  | true => exact completes_next t

/-- A command with a number of a part asks for it first; every other one always completes. -/
theorem completes_exec (c : Instr) (s : State) : Completes c.wellFormed (exec c s) := by
  cases c with
  | lockDeclared | diagnosticSlot | engineSelfTest | contourSelfTest | ambientEvaluation | rangeWindowEnd
  | coincidenceEvent | recoveryEnd | nearZoneLine | holdingRegisterFlush | markerApply | eventItem | dropItem
  | contextClose | grantTimeout | engineFailure | contourStart | contourRecord | contourWatchdog | pointPacketRelease
  | laneTestEnd | firePadPulse | gateTest | discrepancyTimeout | sensorReading | dipBegin | resetLevelFall
  | descriptorComplete | channelHalt | samplePreload | extest | jtagStatusRead | checkerSync | checkerSyncLoss
  | supplyReturnLevel =>
    exact completes_need _ _
  | _ => exact completes_next _

/-- Settles O2: by the parts that each command names. -/
theorem wellFormedCommandsComplete : Obligations.WellFormedCommandsComplete := completes_exec

end Sys2Proof.Proofs
end

section
/-! Items that a survey engine grants: stray items, and the event item's bin (R138, R149). -/

namespace Sys2Proof.Proofs

open Sys2Proof Sys2Proof.Machine Sys2Proof.Laws

/-! ## The state in which a granted item is applied -/

@[simp] theorem granted_survey_ctxs (dt e c : Nat) (s : State) : (granted dt e c s).survey.ctxs = s.survey.ctxs := by
  simp [granted, setEngine]
@[simp] theorem granted_survey_posts (dt e c : Nat) (s : State) : (granted dt e c s).survey.posts = s.survey.posts := by
  simp [granted, setEngine]
@[simp] theorem itemValid_granted (dt e c : Nat) (s : State) (i : Item) : itemValid (granted dt e c s) i = itemValid s i :=
  itemValid_congr i (ctxOf_granted ..)

/-- The granted item leaves its channel's buffer (R127). -/
theorem buffer_granted (dt e c : Nat) (s : State) :
    (chanOf (granted dt e c s) c).buffer = (chanOf s c).buffer.drop 1 := by
  simp [granted, chanOf, setEngine, modChan, setChan]

theorem engineOf_granted_ne {e y : Nat} (h : y ≠ e) (dt c : Nat) (s : State) :
    engineOf (granted dt e c s) y = engineOf s y := by
  rw [← engineOf_advance y dt s]
  exact Table.getD_put_ne _ _ _ _ h _

/-! ## Stray items (R149) -/

variable {dt e c : Nat} {i : Item} {s : State} (he : e < 68) (hw : engineWorks (engineOf s e) = true)
  (hm : (engineOf s e).markers = []) (hg : nextGrant s e = some (c, i))

theorem itemValid_eq_false (h : (ctxOf s (tagCtx i.word)).ph ≠ .opened ∨
    (ctxOf s (tagCtx i.word)).bearing ≠ itemBearing i ∨
    (ctxOf s (tagCtx i.word)).parity ≠ itemParity i) : itemValid s i = false := by
  unfold itemValid
  rcases h with h | h | h <;> simp [h]

include he hw hm hg

theorem exec_eventItem_stray (hk : i.kind = 0) (hv : itemValid s i = false) (n : Nat) :
    exec (.eventItem dt ⟨e, n⟩) s = .next (count (.strayItems e) 1 (granted dt e c s)) := by
  simp [exec, execEventItem, he, grant_advance hw hm hg hk, hv]

theorem exec_dropItem_stray (hk : i.kind = 1) (hv : itemValid s i = false) :
    exec (.dropItem dt e) s = .next (count (.strayItems e) 1 (granted dt e c s)) := by
  simp [exec, execDropItem, he, grant_advance hw hm hg hk, hv]

theorem exec_contextClose_stray (hk : i.kind = 2) (hv : itemValid s i = false) (r : SliceReads) :
    exec (.contextClose dt e r) s = .next (count (.strayItems e) 1 (granted dt e c s)) := by
  simp [exec, execContextClose, he, grant_advance hw hm hg hk, hv]

omit he hw hm hg

/-- Settles O36: each kind of item, where it is stray, is granted and counted and no more. -/
theorem strayItemsTouchNothing : Obligations.StrayItemsTouchNothing := by
  unfold Obligations.StrayItemsTouchNothing
  intro dt e c i ecc s he hw hm hg hstray k hk
  have hv := itemValid_eq_false hstray
  have hexec : exec k s = .next (count (.strayItems e) 1 (granted dt e c s)) := by
    obtain ⟨n, rfl, hk⟩ | ⟨rfl, hk⟩ | ⟨n, rfl, hk⟩ := hk
    · exact exec_eventItem_stray he hw hm hg hk hv n
    · exact exec_dropItem_stray he hw hm hg hk hv
    · exact exec_contextClose_stray he hw hm hg hk hv _
  refine ⟨_, hexec, granted_survey_ctxs .., granted_survey_posts .., buffer_granted dt e c s, ?_, rfl⟩
  rw [counterOf_count, counterOf_granted]

end Sys2Proof.Proofs
end

section
/-! The event item's bin: what follows the tracker leaves the coarse bins, and every other context of the slices (R138). -/

namespace Sys2Proof.Proofs

open Sys2Proof Sys2Proof.Machine Sys2Proof.Laws

/-- The re-zoom context of `x`, where it has one, lies in the pool (R130). -/
def ExtraInPool (x : Nat) (s : State) : Prop := ∀ y, (ctxOf s x).extra = some y → 15360 ≤ y

/-- `t` is `s` but for context `x`, the pool, the log and what else of the survey the engines do not hold. -/
structure Beside (x : Nat) (s t : State) : Prop where
  others : ∀ y, y < 15360 → y ≠ x → ctxOf t y = ctxOf s y
  engines : t.survey.engines = s.survey.engines
  frame : t = { s with survey := t.survey, log := t.log }

/-- In context `x` too, `t` has the coarse bins and the count of applied events of `s`. -/
structure KeepsBins (x : Nat) (s t : State) : Prop extends Beside x s t where
  coarse : (ctxOf t x).coarse = (ctxOf s x).coarse
  applied : (ctxOf t x).applied = (ctxOf s x).applied
  pool : ExtraInPool x t

variable {x k : Nat} {s t u : State} {v : Ctx}

theorem Beside.refl (x : Nat) (s : State) : Beside x s s := ⟨fun _ _ _ => rfl, rfl, rfl⟩

theorem Beside.trans (h : Beside x s t) (h' : Beside x t u) : Beside x s u :=
  ⟨fun y hy hne => (h'.others y hy hne).trans (h.others y hy hne), h'.engines.trans h.engines, by rw [h'.frame, h.frame]⟩

theorem Beside.write (h : Beside x s t) (hk : k = x ∨ 15360 ≤ k) (v : Ctx) : Beside x s (setCtx k v t) where
  others y hy hne := by rw [ctxOf_setCtx_ne (by omega), h.others y hy hne]
  engines := h.engines
  frame := by rw [h.frame]; rfl

theorem KeepsBins.refl (h : ExtraInPool x s) : KeepsBins x s s := ⟨Beside.refl x s, rfl, rfl, h⟩

theorem KeepsBins.trans (h : KeepsBins x s t) (h' : KeepsBins x t u) : KeepsBins x s u :=
  ⟨h.toBeside.trans h'.toBeside, h'.coarse.trans h.coarse, h'.applied.trans h.applied, h'.pool⟩

/-- Context `x` takes other windows, flags or fine bins. -/
theorem Beside.keepsBins_setCtx (h : Beside x s t) (hc : v.coarse = (ctxOf s x).coarse)
    (ha : v.applied = (ctxOf s x).applied) (hv : ∀ y, v.extra = some y → 15360 ≤ y) : KeepsBins x s (setCtx x v t) :=
  ⟨h.write (.inl rfl) v, by rw [ctxOf_setCtx_self, hc], by rw [ctxOf_setCtx_self, ha],
    by rwa [ExtraInPool, ctxOf_setCtx_self]⟩

/-- So may a context of the pool, even where that is `x`. -/
theorem keepsBins_modCtx {f : Ctx → Ctx} (hpool : ExtraInPool x s) (hk : k = x ∨ 15360 ≤ k)
    (hf : ∀ w, (f w).coarse = w.coarse ∧ (f w).applied = w.applied ∧ (f w).extra = w.extra) :
    KeepsBins x s (modCtx k f s) := by
  obtain ⟨hc, ha, hex⟩ := hf (ctxOf s x)
  by_cases h : x = k
  · subst h
    exact (Beside.refl x s).keepsBins_setCtx hc ha (by rwa [hex])
  · have hx : ctxOf (modCtx k f s) x = ctxOf s x := ctxOf_modCtx_ne h _ _
    exact ⟨(Beside.refl x s).write hk _, by rw [hx], by rw [hx], by rwa [ExtraInPool, hx]⟩

theorem keepsBins_extraUpdate (uu q e : Nat) (hpool : ExtraInPool x s) : KeepsBins x s (extraUpdate uu x q e s) := by
  unfold extraUpdate
  split
  · exact .refl hpool
  · next y hy =>
    have hfine := keepsBins_modCtx hpool (.inr (hpool y hy)) (f := fineUpdate uu q e) fun w => by
      rw [fineUpdate_frame]
      exact ⟨rfl, rfl, rfl⟩
    dsimp only
    split
    · exact hfine.trans (keepsBins_modCtx hfine.pool (.inl rfl) fun _ => ⟨rfl, rfl, rfl⟩)
    · exact hfine

theorem keepsBins_placeExtra (b q : Nat) (hpool : ExtraInPool x s) : KeepsBins x s (placeExtra x b q s) := by
  unfold placeExtra
  dsimp only
  split
  · next y hy => exact ((Beside.refl x s).write (.inr (hpool y hy)) _).keepsBins_setCtx rfl rfl hpool
  · split
    · exact ⟨⟨fun _ _ _ => rfl, rfl, rfl⟩, rfl, rfl, hpool⟩
    · next y hy =>
      have h := ((Beside.refl x s).write (.inr (freeRezoom_ge hy))
        (placeIn (ctxOf s x) b q 0
          { ph := .opened, channel := (ctxOf s x).channel, bearing := (ctxOf s x).bearing })).keepsBins_setCtx
        (v := { ctxOf s x with extra := some y, extras := 1 }) rfl rfl fun z hz => by
          cases hz
          exact freeRezoom_ge hy
      exact ⟨⟨h.others, h.engines, rfl⟩, h.coarse, h.applied, h.pool⟩

theorem keepsBins_wantWindow (q j : Nat) (hpool : ExtraInPool x s) : KeepsBins x s (wantWindow x q j s) := by
  rw [wantWindow_eq]
  split
  · exact .refl hpool
  · split
    · exact (Beside.refl x s).keepsBins_setCtx rfl rfl hpool
    · split
      · exact keepsBins_placeExtra _ _ hpool
      · exact .refl hpool

/-! ## The event -/

theorem fineUpdate_applied (u q e : Nat) (v : Ctx) : (fineUpdate u q e v).applied = v.applied := by rw [fineUpdate_frame]

theorem eventPlaced_applied (q e : Nat) (v : Ctx) : (eventPlaced q e v).applied = v.applied := by
  rw [eventPlaced_frame]
  rfl

theorem takeOverload_applied (i : Item) (v : Ctx) : (takeOverload i v).applied = v.applied := by rw [takeOverload_frame]

/-- Applied goes up by one, within the 9 bits of its field (R138). -/
theorem eventBins_applied (u q e : Nat) (v : Ctx) : (eventBins u q e v).applied = min 511 (v.applied + 1) :=
  congrArg (fun n => min 511 (n + 1)) ((fineUpdate_applied ..).trans (eventPlaced_applied q e v))

theorem eventCtx_applied (u n0 : Nat) (i : Item) (v : Ctx) : (eventCtx u n0 i v).1.applied = min 511 (v.applied + 1) := by
  rw [eventCtx, eventTrack_frame]
  exact (eventBins_applied ..).trans (by rw [takeOverload_applied])

variable {i : Item}

/-- What follows the tracker keeps the bins that the event has left. -/
theorem keepsBins_applyEvent (hpool : ExtraInPool x s) :
    KeepsBins x (setCtx x (trackedCtx x i s).1 s) (applyEvent x i s) := by
  have hp : ExtraInPool x (setCtx x (trackedCtx x i s).1 s) := by
    rwa [ExtraInPool, ctxOf_setCtx_self, trackedCtx_extra]
  have hstored : KeepsBins x (setCtx x (trackedCtx x i s).1 s) (eventStored x i s) := keepsBins_extraUpdate _ _ _ hp
  have hwindowed : KeepsBins x (setCtx x (trackedCtx x i s).1 s) (eventWindowed x i s) := by
    unfold eventWindowed
    split
    · exact hstored
    · exact hstored.trans (keepsBins_wantWindow _ _ hstored.pool)
  rw [applyEvent_eq]
  refine hwindowed.trans (keepsBins_modCtx hwindowed.pool (.inl rfl) fun w => ?_)
  rw [writeThrough_frame]
  exact ⟨rfl, rfl, rfl⟩

theorem beside_applyEvent (hpool : ExtraInPool x s) : Beside x s (applyEvent x i s) :=
  ((Beside.refl x s).write (.inl rfl) _).trans (keepsBins_applyEvent hpool).toBeside

theorem coarse_applyEvent (hpool : ExtraInPool x s) : (ctxOf (applyEvent x i s) x).coarse =
    Table.put (ctxOf s x).coarse (itemTime i / 64) (eventHeight x i s) := by
  rw [(keepsBins_applyEvent hpool).coarse, ctxOf_setCtx_self, trackedCtx, eventCtx_frame]
  rfl

theorem applied_applyEvent (hpool : ExtraInPool x s) :
    (ctxOf (applyEvent x i s) x).applied = min 511 ((ctxOf s x).applied + 1) := by
  rw [(keepsBins_applyEvent hpool).applied, ctxOf_setCtx_self, trackedCtx, eventCtx_applied]

/-- Settles O37: the coarse bin as the tracker's context holds it, and what no event touches. -/
theorem eventItemAddsToItsBin : Obligations.EventItemAddsToItsBin := by
  unfold Obligations.EventItemAddsToItsBin
  intro dt e c corrected i s he hw hm hg hk hv hextra x n
  have hpool : ExtraInPool x (granted dt e c s) := by rwa [ExtraInPool, ctxOf_granted]
  have hbeside := beside_applyEvent (i := i) hpool
  have hcoarse := coarse_applyEvent (i := i) hpool
  have happlied := applied_applyEvent (i := i) hpool
  rw [ctxOf_granted] at hcoarse happlied
  refine ⟨_, exec_eventItem he hw hm hg hk hv, ?_, fun k hkn => ?_, fun hlt => ?_, fun y hy hne => ?_, fun y hne => ?_, ?_⟩
  · rw [ctxOf_count, ctxOf_count, hcoarse, Table.getD_put_self, eventHeight, eventUnit, modeTable_granted, ctxOf_granted]
    rfl
  · rw [ctxOf_count, ctxOf_count, hcoarse, Table.getD_put_ne _ _ _ _ hkn]
  · rw [ctxOf_count, ctxOf_count, happlied]
    omega
  · rw [ctxOf_count, ctxOf_count, hbeside.others y hy hne, ctxOf_granted]
  · rw [engineOf_count, engineOf_count, engineOf, hbeside.engines]
    exact engineOf_granted_ne hne dt c s
  · rw [hbeside.frame]
    rfl

end Sys2Proof.Proofs
end

section
/-! CLOSE_COMMAND: the count of taken shots that a context receives (R147, R299). -/

namespace Sys2Proof.Proofs

open Sys2Proof Sys2Proof.Machine

/-- Bank 1 holds bearing 0 open with 3 shots taken, of which channel 48 fills context 480.  Channel 0, of bank 0, runs the last
window of its sixth shot under a tag that names context 480 as well.  A close command is due. -/
def sharedContext : State := { State.reset with
  seq := { State.reset.seq with stop := some ⟨2, false⟩, reg0 := { State.reset.seq.reg0 with groups := 0b101 } }
  banks := [(1, { opened := [(0, 3)] })]
  chans := [(0, { arm := some {
    fire := 0, coarse := 0, fine := 0, stop := 0, tag := tagWord 480 5 0 false 0 48, shot := 5, last := true, closing := []
    converted := 0, noCtx := false, preDone := false } })]
  survey := { State.reset.survey with ctxs := [(480, { ph := .marked, channel := 48 })] } }

/-- Bank 0 comes first, so the running window's count of 6 is the one that context 480 keeps. -/
theorem closePending_sharedContext :
    (ctxOf (closePending (advance 0 sharedContext)) (ctxNumber 48 0)).closeCmd = some (2, 6) := by
  decide +kernel

theorem exec_closeCommand (dt : Nat) (s : State) : exec (.closeCommand dt) s = .next (closePending (advance dt s)) := rfl

/-- Refutes O33: the count of taken shots of a bearing that is open alone in its context slot is not the one its context
receives where a running window of a bank before names the same context. -/
theorem not_closeCommandsClearTheBanks : ¬ Obligations.CloseCommandsClearTheBanks := by
  unfold Obligations.CloseCommandsClearTheBanks
  rintro ⟨hdue, -⟩
  obtain ⟨t, ht, -, -, hopened, -⟩ := hdue 0 ⟨2, false⟩ sharedContext rfl
  obtain ⟨-, hcount⟩ := hopened 1 48 0 3 (by decide) (by decide) (by decide +kernel) (by decide) (.inl rfl) rfl
  rw [exec_closeCommand, Host.Outcome.next.injEq] at ht
  rw [← ht, closePending_sharedContext] at hcount
  exact absurd (hcount (by decide)) (by decide)

end Sys2Proof.Proofs
end

section
/-! What the movement channels' operations leave: descriptors, channels, and what they log and count (R413 to R415). -/

namespace Sys2Proof.Laws

open Sys2Proof Sys2Proof.Machine Sys2Proof.Proofs

/-! ## Channels and descriptors -/

@[simp] theorem moverOf_setMover_self (k : Nat) (v : Mover) (s : State) : moverOf (setMover k v s) k = v :=
  Table.getD_put_self _ _ _ _
theorem moverOf_setMover_ne {k n : Nat} (h : n ≠ k) (v : Mover) (s : State) : moverOf (setMover k v s) n = moverOf s n :=
  Table.getD_put_ne _ _ _ _ h _
@[simp] theorem moverOf_setDesc (n i : Nat) (d : Desc) (s : State) : moverOf (setDesc i d s) n = moverOf s n := rfl
@[simp] theorem moverOf_count (n : Nat) (c : Counter) (m : Nat) (s : State) : moverOf (count c m s) n = moverOf s n := rfl
@[simp] theorem moverOf_logEvent (n a b c d : Nat) (s : State) : moverOf (logEvent a b c d s) n = moverOf s n := by
  simp [moverOf]
@[simp] theorem moverOf_advance (n dt : Nat) (s : State) : moverOf (advance dt s) n = moverOf s n := by simp [moverOf]

@[simp] theorem descOf_setDesc_self (i : Nat) (d : Desc) (s : State) : descOf (setDesc i d s) i = d :=
  Table.getD_put_self _ _ _ _
theorem descOf_setDesc_ne {i n : Nat} (h : n ≠ i) (d : Desc) (s : State) : descOf (setDesc i d s) n = descOf s n :=
  Table.getD_put_ne _ _ _ _ h _
@[simp] theorem descOf_setMover (n k : Nat) (v : Mover) (s : State) : descOf (setMover k v s) n = descOf s n := rfl
@[simp] theorem descOf_modMover (n k : Nat) (f : Mover → Mover) (s : State) : descOf (modMover k f s) n = descOf s n := rfl
@[simp] theorem descOf_count (n : Nat) (c : Counter) (m : Nat) (s : State) : descOf (count c m s) n = descOf s n := rfl
@[simp] theorem descOf_logEvent (n a b c d : Nat) (s : State) : descOf (logEvent a b c d s) n = descOf s n := by
  simp [descOf]
@[simp] theorem descOf_advance (n dt : Nat) (s : State) : descOf (advance dt s) n = descOf s n := by simp [descOf]

/-! ## The work of one channel -/

/-- `t` is `s` after work of movement channel `k`: its record, descriptors, log entries and halts. -/
structure Moves (k : Nat) (s t : State) : Prop where
  frame : t = { s with dma := t.dma, log := t.log }
  others : ∀ n, n ≠ k → moverOf t n = moverOf s n
  snapshots : t.dma.snapshots = s.dma.snapshots
  counters : ∀ c, counterKey c ≠ counterKey .logOverwrites → (∀ j, counterKey c ≠ counterKey (.halts j)) →
    counterOf t c = counterOf s c

variable {k : Nat} {s t u : State}

theorem Moves.refl (k : Nat) (s : State) : Moves k s s := ⟨rfl, fun _ _ => rfl, rfl, fun _ _ _ => rfl⟩

theorem Moves.trans (h : Moves k s t) (h' : Moves k t u) : Moves k s u :=
  ⟨by rw [h'.frame, h.frame], fun n hn => (h'.others n hn).trans (h.others n hn), h'.snapshots.trans h.snapshots,
    fun c hc hj => (h'.counters c hc hj).trans (h.counters c hc hj)⟩

theorem moves_setDesc (k i : Nat) (d : Desc) (s : State) : Moves k s (setDesc i d s) :=
  ⟨rfl, fun _ _ => rfl, rfl, fun _ _ _ => rfl⟩

theorem moves_setMover (k : Nat) (v : Mover) (s : State) : Moves k s (setMover k v s) :=
  ⟨rfl, fun _ hn => moverOf_setMover_ne hn v s, rfl, fun _ _ _ => rfl⟩

theorem moves_logEvent (k a b c d : Nat) (s : State) : Moves k s (logEvent a b c d s) where
  frame := by rw [logEvent_eq]
  others _ _ := moverOf_logEvent ..
  snapshots := by simp
  counters _ hc _ := counterOf_logEvent _ _ _ _ _ _ hc

theorem moves_count_halts (k j : Nat) (s : State) : Moves k s (count (.halts j) 1 s) :=
  ⟨rfl, fun _ _ => rfl, rfl, fun _ _ hj => counterOf_count_ne _ _ _ _ (hj j)⟩

theorem moves_haltMover (k : Nat) (write stall : Bool) (addr : Nat) (s : State) :
    Moves k s (haltMover k write stall addr s) :=
  (((moves_setDesc ..).trans (moves_setMover ..)).trans (moves_logEvent ..)).trans (moves_count_halts ..)

theorem moves_startMover (k i : Nat) (d : Desc) (s : State) : Moves k s (startMover k i d s) := by
  have hstart : Moves k s (setDesc i { d with st := 1, done := 0 } (modMover k (fun v => { v with st := 1, desc := i }) s)) :=
    (moves_setMover ..).trans (moves_setDesc ..)
  unfold startMover
  dsimp only
  split
  · exact hstart
  · exact hstart.trans (moves_haltMover ..)

theorem moves_moveStart (k src dst len : Nat) (s : State) : Moves k s (moveStart k src dst len s) := moves_startMover ..

theorem moves_moveIfIdle (k : Nat) (d : Desc) (s : State) : Moves k s (moveIfIdle k d s) := by
  unfold moveIfIdle
  split
  · exact moves_startMover ..
  · exact .refl k s

theorem moves_moveDone (k : Nat) (s : State) : Moves k s (moveDone k s) := by
  unfold moveDone
  dsimp only
  split
  · split
    · exact ((moves_setDesc ..).trans (moves_setMover ..)).trans (moves_startMover ..)
    · exact (moves_setDesc ..).trans (moves_setMover ..)
  · exact .refl k s

/-- The dump copy at the head of the queue is one channel's work, or none's. -/
theorem exists_moves_dumpMove (s : State) : ∃ k, Moves k s (dumpMove s) := by
  unfold dumpMove
  split
  · exact ⟨0, .refl 0 s⟩
  · next p _ _ _ _ => exact ⟨_, moves_moveIfIdle ..⟩

/-! ## What a channel's work leaves of other parts -/

theorem Moves.survey (h : Moves k s t) : t.survey = s.survey := by rw [h.frame]
theorem Moves.link (h : Moves k s t) : t.link = s.link := by rw [h.frame]
theorem Moves.sec (h : Moves k s t) : t.sec = s.sec := by rw [h.frame]
theorem Moves.recd (h : Moves k s t) : t.recd = s.recd := by rw [h.frame]

/-! ## A halt, a start, an abandonment -/

/-- A halt latches direction, cause and address; the channel stays on its descriptor (R415). -/
theorem moverOf_haltMover_self (k : Nat) (write stall : Bool) (addr : Nat) (s : State) :
    moverOf (haltMover k write stall addr s) k =
      { moverOf s k with st := 3, write := write, stall := stall, addr := addr % 2 ^ 48 } := by
  simp [haltMover]

/-- It shows at the descriptor too. -/
theorem descOf_haltMover_st (k : Nat) (write stall : Bool) (addr : Nat) (s : State) :
    (descOf (haltMover k write stall addr s) (moverOf s k).desc).st = 3 := by
  simp [haltMover]

theorem descOf_haltMover_ne {n : Nat} (h : n ≠ (moverOf s k).desc) (write stall : Bool) (addr : Nat) :
    descOf (haltMover k write stall addr s) n = descOf s n := by
  simp [haltMover, descOf_setDesc_ne h]

theorem counterOf_halts_haltMover (hk : k < 16) (write stall : Bool) (addr : Nat) (s : State) :
    counterOf (haltMover k write stall addr s) (.halts k) = counterNext (.halts k) (counterOf s (.halts k)) 1 := by
  have hkey : counterKey (.halts k) ≠ counterKey .logOverwrites := by
    simp only [counterKey]
    omega
  exact counterOf_count_logEvent hkey ..

/-- A channel starts on a descriptor that it does not reject, and halts on one that it does (R413). -/
theorem moverOf_startMover (k i : Nat) (d : Desc) (s : State) :
    (moverOf (startMover k i d s) k).desc = i ∧
      (moverOf (startMover k i d s) k).st = if descValid d then 1 else 3 := by
  unfold startMover
  dsimp only
  split
  · simp [modMover]
  · rw [moverOf_haltMover_self]
    simp [modMover]

theorem descOf_startMover_self (k i : Nat) (d : Desc) (s : State) :
    (descOf (startMover k i d s) i).st = if descValid d then 1 else 3 := by
  unfold startMover
  dsimp only
  split
  · simp
  · have h := descOf_haltMover_st k (!badSource d) false (if badSource d then d.srcAddr else d.dstAddr)
      (setDesc i { d with st := 1, done := 0 } (modMover k (fun v => { v with st := 1, desc := i }) s))
    simpa [modMover] using h

theorem descOf_startMover_ne {n i : Nat} (h : n ≠ i) (k : Nat) (d : Desc) (s : State) :
    descOf (startMover k i d s) n = descOf s n := by
  unfold startMover
  dsimp only
  split
  · simp [descOf_setDesc_ne h]
  · rw [descOf_haltMover_ne (by simpa [modMover] using h)]
    simp [descOf_setDesc_ne h]

end Sys2Proof.Laws
end

section
/-! Drop items and the close of a context (R144 to R148, R150). -/

namespace Sys2Proof.Proofs

open Sys2Proof Sys2Proof.Machine Sys2Proof.Laws

variable {dt e x n : Nat} {i : Item} {s : State} {v : Ctx}

/-! ## Drop items -/

@[simp] theorem takeOverload_dropped (i : Item) (v : Ctx) : (takeOverload i v).dropped = v.dropped := by rw [takeOverload_frame]
@[simp] theorem takeOverload_skipCheck (i : Item) (v : Ctx) : (takeOverload i v).skipCheck = v.skipCheck := by
  rw [takeOverload_frame]
@[simp] theorem takeOverload_closeCmd (i : Item) (v : Ctx) : (takeOverload i v).closeCmd = v.closeCmd := by
  rw [takeOverload_frame]

/-- The context of a drop item, before its flags are written through. -/
def dropCtx (i : Item) (v : Ctx) : Ctx :=
  { takeOverload i v with
    dropped := min 65535 ((takeOverload i v).dropped + itemTime i), flags := { (takeOverload i v).flags with pileUp := true } }

theorem applyDrop_eq (e x : Nat) (i : Item) (s : State) : applyDrop e x i s =
    count (.eventsDropped e) (itemTime i) (modEngine e (fun u => { u with drops := u.drops + itemTime i })
      (modCtx x (fun v => writeThrough v.flags (dropCtx i v)) s)) := rfl

theorem ctxOf_applyDrop_self (e x : Nat) (i : Item) (s : State) :
    ctxOf (applyDrop e x i s) x = writeThrough (ctxOf s x).flags (dropCtx i (ctxOf s x)) := by
  rw [applyDrop_eq, ctxOf_count, modEngine, ctxOf_setEngine, ctxOf_modCtx_self]

theorem ctxOf_applyDrop_ne {y : Nat} (h : y ≠ x) : ctxOf (applyDrop e x i s) y = ctxOf s y := by
  rw [applyDrop_eq, ctxOf_count, modEngine, ctxOf_setEngine, ctxOf_modCtx_ne h]

theorem engineOf_applyDrop_self (e x : Nat) (i : Item) (s : State) :
    engineOf (applyDrop e x i s) e = { engineOf s e with drops := (engineOf s e).drops + itemTime i } := by
  rw [applyDrop_eq, engineOf_count, engineOf_modEngine_self, engineOf_modCtx]

theorem applyDrop_frame (e x : Nat) (i : Item) (s : State) :
    applyDrop e x i s = { s with survey := (applyDrop e x i s).survey, log := (applyDrop e x i s).log } := rfl

theorem exec_dropItem {c : Nat} (he : e < 68) (hw : engineWorks (engineOf s e) = true) (hm : (engineOf s e).markers = [])
    (hg : nextGrant s e = some (c, i)) (hk : i.kind = 1) (hv : itemValid s i = true) :
    exec (.dropItem dt e) s = .next (applyDrop e (tagCtx i.word) i (granted dt e c s)) := by
  simp [exec, execDropItem, he, grant_advance hw hm hg hk, hv]

@[simp] theorem engineOf_granted_self (dt e c : Nat) (s : State) :
    engineOf (granted dt e c s) e = { engineOf s e with rr := c % 24, served := s.now + dt } := engineOf_setEngine_self ..

/-! ## What an end item writes -/

/-- The context of an end item: its counts, and the flags of the close. -/
def closedCtx (x n : Nat) (i : Item) (s : State) : Ctx :=
  { endFields n (takeOverload i (ctxOf s x)) with
    flags := closeFlags (modeTable s (endFields n (takeOverload i (ctxOf s x))).mode).lIf
      (endFields n (takeOverload i (ctxOf s x))) }

theorem endFields_none (h : v.closeCmd = none) :
    endFields n (takeOverload i v) = { takeOverload i v with converted := n, taken := v.planned, cause := 1 } := by
  simp [endFields, h]

theorem endFields_some {cause taken : Nat} (h : v.closeCmd = some (cause, taken)) :
    endFields n (takeOverload i v) = { takeOverload i v with converted := n, taken := taken, cause := cause } := by
  simp [endFields, h]

/-- Counts that agree, or that need not (R146). -/
theorem countsAgree_none (h : v.closeCmd = none) (hc : v.skipCheck = true ∨ v.dropped = 65535 ∨ v.applied + v.dropped = n) :
    countsAgree (endFields n (takeOverload i v)) = true := by
  rw [endFields_none h, countsAgree]
  rcases hc with hc | hc | hc <;> simp [hc, takeOverload_applied]

theorem countsAgree_some {cause taken : Nat} (h : v.closeCmd = some (cause, taken)) (hc : cause ≠ 1) :
    countsAgree (endFields n (takeOverload i v)) = true := by
  rw [endFields_some h, countsAgree]
  simp [hc]

theorem exec_contextClose {c corrected : Nat} (he : e < 68) (hw : engineWorks (engineOf s e) = true)
    (hm : (engineOf s e).markers = []) (hg : nextGrant s e = some (c, i)) (hk : i.kind = 2) (hv : itemValid s i = true) :
    exec (.contextClose dt e ⟨false, corrected⟩) s = .next (closeCtx e (tagCtx i.word) (itemTime i) i false
      (count (.correctableEcc e) corrected (granted dt e c s))) := by
  simp [exec, execContextClose, he, grant_advance hw hm hg hk, hv]

/-! ## Selection for a dump (R157, R158) -/

/-- A close selects its context for a dump, skips the dump, or asks for none. -/
theorem selectDump_cases (x : Nat) (s : State) : selectDump x s = s ∨ selectDump x s = count .dumpsSkipped 1 s ∨
    ∃ n f, (∀ u, (f u).ctxs = u.ctxs ∧ (f u).engines = u.engines) ∧
      selectDump x s = dumpMove (modSurvey f (setCtx x { ctxOf s x with dump := true, copies := n } s)) := by
  unfold selectDump
  dsimp only
  split_ifs
  · exact .inl rfl
  · exact .inr (.inl rfl)
  · refine .inr (.inr ⟨_, _, ?_, rfl⟩)
    exact fun _ => ⟨rfl, rfl⟩

theorem dumpMove_survey (s : State) : (dumpMove s).survey = s.survey := by
  obtain ⟨_, h⟩ := exists_moves_dumpMove s
  exact h.survey

/-- In the context it notes the copies that are due. -/
theorem ctxOf_selectDump_self (x : Nat) (s : State) :
    ∃ d n, ctxOf (selectDump x s) x = { ctxOf s x with dump := d, copies := n } := by
  have hsame : ∀ v : Ctx, ∃ d n, v = { v with dump := d, copies := n } := fun v => ⟨v.dump, v.copies, rfl⟩
  obtain h | h | ⟨n, f, hf, h⟩ := selectDump_cases x s
  · rw [h]
    exact hsame _
  · rw [h, ctxOf_count]
    exact hsame _
  · exact ⟨true, n, by
      rw [h, ctxOf_congr (congrArg Survey.ctxs (dumpMove_survey _)), ctxOf_modSurvey (hf _).1, ctxOf_setCtx_self]⟩

theorem engineOf_selectDump (e x : Nat) (s : State) : engineOf (selectDump x s) e = engineOf s e := by
  obtain h | h | ⟨n, f, hf, h⟩ := selectDump_cases x s
  · rw [h]
  · rw [h]; rfl
  · rw [h, engineOf, dumpMove_survey]
    show Table.getD _ (f _).engines e = _
    rw [(hf _).2]
    rfl

theorem counterOf_selectDump {c : Counter} (hl : counterKey c ≠ counterKey .logOverwrites)
    (hh : ∀ j, counterKey c ≠ counterKey (.halts j)) (hd : counterKey c ≠ counterKey .dumpsSkipped) (x : Nat) (s : State) :
    counterOf (selectDump x s) c = counterOf s c := by
  obtain h | h | ⟨n, f, -, h⟩ := selectDump_cases x s
  · rw [h]
  · rw [h, counterOf_count_ne _ _ _ _ hd]
  · obtain ⟨_, hm⟩ := exists_moves_dumpMove (modSurvey f (setCtx x { ctxOf s x with dump := true, copies := n } s))
    rw [h, hm.counters c hl hh]
    rfl

/-! ## A context that is kept, and one that is discarded -/

/-- A closed context that is kept goes to a contour unit (R146, R150). -/
def queueClosed (e x : Nat) (w : Ctx) (s : State) : State :=
  let t := selectDump x (post w.channel w.bearing w.parity w.peaks (setCtx x { w with ph := .queued }
    (if w.flags.interference then count .interferencePoints 1 s else s)))
  queueWork e (some x) (ctxOf t x) t

theorem closeCtx_kept (ha : countsAgree (endFields n (takeOverload i (ctxOf s x))) = true)
    (hk : keptAtClose (closedCtx x n i s) = true) :
    closeCtx e x n i false s = queueClosed e x (closedCtx x n i s) s := by
  unfold closedCtx at hk ⊢
  simp only [closeCtx, ha, hk, Bool.not_true, Bool.false_and, Bool.or_false, Bool.false_eq_true, if_false, if_true]
  rfl

theorem closeCtx_discarded (ha : countsAgree (endFields n (takeOverload i (ctxOf s x))) = true)
    (hk : keptAtClose (closedCtx x n i s) = false) :
    closeCtx e x n i false s = count (.discardedContexts e) 1 (discardCtx x (setCtx x (closedCtx x n i s) s)) := by
  unfold closedCtx at hk ⊢
  simp only [closeCtx, ha, hk, Bool.not_true, Bool.false_and, Bool.or_false, Bool.false_eq_true, if_false]

/-- The context waits with what the end item wrote. -/
theorem ctxOf_queueClosed_self (e x : Nat) (w : Ctx) (s : State) :
    ∃ d n, ctxOf (queueClosed e x w s) x = { w with ph := .queued, dump := d, copies := n } := by
  unfold queueClosed
  dsimp only
  rw [ctxOf_queueWork]
  obtain ⟨d, n, h⟩ := ctxOf_selectDump_self x (post w.channel w.bearing w.parity w.peaks (setCtx x { w with ph := .queued }
    (if w.flags.interference then count .interferencePoints 1 s else s)))
  rw [ctxOf_post, ctxOf_setCtx_self] at h
  exact ⟨d, n, h⟩

theorem engineOf_queueClosed_self (e x : Nat) (w : Ctx) (s : State) :
    ∃ k, k.ctx = some x ∧
      engineOf (queueClosed e x w s) e = { engineOf s e with closed := (engineOf s e).closed ++ [k] } := by
  have h : ∀ u : State, engineOf u e = engineOf s e → ∀ head, ∃ k : Work, k.ctx = some x ∧
      engineOf (queueWork e (some x) head u) e = { engineOf s e with closed := (engineOf s e).closed ++ [k] } :=
    fun u hu head => ⟨_, rfl, by rw [engineOf_queueWork_self, hu]⟩
  refine h _ ?_ _
  rw [engineOf_selectDump, engineOf_post, engineOf_setCtx]
  split <;> rfl

/-- Of a kept context nothing is counted but its interference and a dump that is skipped or halts. -/
theorem counterOf_queueClosed {c : Counter} (hl : counterKey c ≠ counterKey .logOverwrites)
    (hh : ∀ j, counterKey c ≠ counterKey (.halts j)) (hd : counterKey c ≠ counterKey .dumpsSkipped)
    (hi : counterKey c ≠ counterKey .interferencePoints) (e x : Nat) (w : Ctx) (s : State) :
    counterOf (queueClosed e x w s) c = counterOf s c := by
  refine (counterOf_selectDump hl hh hd x _).trans ?_
  split
  · exact counterOf_count_ne _ _ _ _ hi
  · rfl

/-- A discarded context is free (R131). -/
theorem ctxOf_discardCtx_self (x : Nat) (s : State) : ctxOf (discardCtx x s) x = {} := Table.getD_del_self ..

theorem counterOf_discardCtx (c : Counter) (x : Nat) (s : State) : counterOf (discardCtx x s) c = counterOf s c := by
  have h : counterOf (discardCtx x s) c = counterOf (freeExtra (ctxOf s x) s) c := rfl
  rw [h, freeExtra]
  split <;> rfl

/-! ## The close without and with a close command -/

theorem closedCtx_none (h : (ctxOf s x).closeCmd = none) : closedCtx x n i s =
    { takeOverload i (ctxOf s x) with
      converted := n, taken := (ctxOf s x).planned, cause := 1, flags := (closedCtx x n i s).flags } := by
  rw [closedCtx, endFields_none h]

theorem closedCtx_some {cause taken : Nat} (h : (ctxOf s x).closeCmd = some (cause, taken)) : closedCtx x n i s =
    { takeOverload i (ctxOf s x) with
      converted := n, taken := taken, cause := cause, flags := (closedCtx x n i s).flags } := by
  rw [closedCtx, endFields_some h]

theorem keptAtClose_none (h : (ctxOf s x).closeCmd = none) : keptAtClose (closedCtx x n i s) = true := by
  rw [closedCtx_none h, keptAtClose]
  simp only [takeOverload_planned, decide_eq_true_eq]
  omega

/-- Half of the planned shots, or more, keep the context (R148). -/
theorem keptAtClose_some {cause taken : Nat} (h : (ctxOf s x).closeCmd = some (cause, taken)) :
    keptAtClose (closedCtx x n i s) = decide ((ctxOf s x).planned ≤ 2 * taken) := by
  rw [closedCtx_some h, keptAtClose, takeOverload_planned]

/-- A context closed early is marked so, and where a supply dip closed it so as well (Table 6.5). -/
theorem closedCtx_some_flags {cause taken : Nat} (h : (ctxOf s x).closeCmd = some (cause, taken))
    (hlt : taken < (ctxOf s x).planned) : (closedCtx x n i s).flags.partial_ = true ∧
      (cause = 3 → (closedCtx x n i s).flags.brownout = true) := by
  rw [closedCtx, endFields_some h]
  refine ⟨?_, fun hc => ?_⟩
  · simp [closeFlags, hlt]
  · simp [closeFlags, hlt, hc]

theorem counterKey_correctableEcc_ne (e : Nat) {c : Counter} (h : c = .logOverwrites ∨ (∃ j, c = .halts j) ∨
    c = .dumpsSkipped ∨ c = .interferencePoints ∨ c = .discardedContexts e) :
    counterKey (.correctableEcc e) ≠ counterKey c := by
  obtain rfl | ⟨j, rfl⟩ | rfl | rfl | rfl := h
  all_goals
    simp only [counterKey]
    omega

/-- No close counts a corrected error of its own. -/
theorem correctableEcc_closeCtx (h : countsAgree (endFields n (takeOverload i (ctxOf s x))) = true) :
    counterOf (closeCtx e x n i false s) (.correctableEcc e) = counterOf s (.correctableEcc e) := by
  cases hk : keptAtClose (closedCtx x n i s) with
  | true =>
    rw [closeCtx_kept h hk]
    exact counterOf_queueClosed (counterKey_correctableEcc_ne e (.inl rfl))
      (fun j => counterKey_correctableEcc_ne e (.inr (.inl ⟨j, rfl⟩)))
      (counterKey_correctableEcc_ne e (.inr (.inr (.inl rfl))))
      (counterKey_correctableEcc_ne e (.inr (.inr (.inr (.inl rfl))))) ..
  | false =>
    rw [closeCtx_discarded h hk, counterOf_count_ne _ _ _ _ (counterKey_correctableEcc_ne e (by simp)),
      counterOf_discardCtx]
    rfl

/-- Settles O39: a drop item by its context, an end item by what it writes and whether the context is kept. -/
theorem dropsAndCloses : Obligations.DropsAndCloses := by
  unfold Obligations.DropsAndCloses
  intro dt e c corrected i s he hw hm hg hv x v
  have hx : ctxOf (count (.correctableEcc e) corrected (granted dt e c s)) x = v := by rw [ctxOf_count, ctxOf_granted]
  refine ⟨fun hk => ?drop, fun hk hnone hcounts => ?close, fun cause taken hk hsome hcause => ?early⟩
  case drop =>
    refine ⟨_, exec_dropItem he hw hm hg hk hv, ?_, ?_, ?_, ?_, fun y hy => ?_, ?_⟩
    · rw [ctxOf_applyDrop_self, writeThrough_frame, ctxOf_granted]
      exact congrArg (fun d => min 65535 (d + itemTime i)) (takeOverload_dropped i v)
    · rw [ctxOf_applyDrop_self, writeThrough_frame]
      rfl
    · rw [ctxOf_applyDrop_self, writeThrough_frame, ctxOf_granted]
      exact takeOverload_coarse i v
    · rw [engineOf_applyDrop_self, engineOf_granted_self]
    · rw [ctxOf_applyDrop_ne hy, ctxOf_granted]
    · rw [applyDrop_frame]
      rfl
  case close =>
    refine ⟨_, exec_contextClose he hw hm hg hk hv, ?_⟩
    have hen : engineOf (count (.correctableEcc e) corrected (granted dt e c s)) e = _ := engineOf_granted_self ..
    generalize count (.correctableEcc e) corrected (granted dt e c s) = g at hx hen ⊢
    rw [← hx] at hnone hcounts
    rw [closeCtx_kept (countsAgree_none hnone hcounts) (keptAtClose_none hnone)]
    obtain ⟨d, m, hq⟩ := ctxOf_queueClosed_self e x (closedCtx x (itemTime i) i g) g
    obtain ⟨k, hkx, hke⟩ := engineOf_queueClosed_self e x (closedCtx x (itemTime i) i g) g
    rw [hq, hke, closedCtx_none hnone, hx, hen]
    exact ⟨rfl, rfl, rfl, rfl, takeOverload_coarse i v, rfl, k, rfl, hkx⟩
  case early =>
    refine ⟨_, exec_contextClose he hw hm hg hk hv, ?_⟩
    have hcount : counterOf (count (.correctableEcc e) corrected (granted dt e c s)) (.correctableEcc e) = _ :=
      (counterOf_count ..).trans (by rw [counterOf_granted])
    have hdisc : counterOf (count (.correctableEcc e) corrected (granted dt e c s)) (.discardedContexts e) =
        counterOf s (.discardedContexts e) := by
      rw [counterOf_count_ne _ _ _ _ (Ne.symm (counterKey_correctableEcc_ne e (by simp))), counterOf_granted]
    generalize count (.correctableEcc e) corrected (granted dt e c s) = g at hx hcount hdisc ⊢
    rw [← hx] at hsome ⊢
    have ha := countsAgree_some (n := itemTime i) (i := i) hsome hcause
    refine ⟨(correctableEcc_closeCtx ha).trans hcount, fun hkeep => ?_, fun hless => ?_⟩
    · obtain ⟨d, m, hq⟩ := ctxOf_queueClosed_self e x (closedCtx x (itemTime i) i g) g
      rw [closeCtx_kept ha ((keptAtClose_some hsome).trans (decide_eq_true hkeep)), hq]
      have hcl := closedCtx_some (n := itemTime i) (i := i) hsome
      exact ⟨rfl, by rw [hcl], by rw [hcl], closedCtx_some_flags hsome⟩
    · rw [closeCtx_discarded ha ((keptAtClose_some hsome).trans (decide_eq_false (Nat.not_le.2 hless))), ctxOf_count,
        ctxOf_discardCtx_self, counterOf_count, counterOf_discardCtx, ← hdisc]
      exact ⟨rfl, rfl⟩

end Sys2Proof.Proofs
end

section
/-! Survey engines that fail (R151, R152, R156). -/

namespace Sys2Proof.Proofs

open Sys2Proof Sys2Proof.Machine Sys2Proof.Laws

variable {dt e c : Nat} {s : State}

theorem engineOf_setEngine_ne {y : Nat} (h : y ≠ e) (v : Engine) (s : State) : engineOf (setEngine e v s) y = engineOf s y :=
  Table.getD_put_ne _ _ _ _ h _

/-! ## An engine's record, and a failure -/

/-- A changed record is written, and its state's change logged. -/
theorem changeEngine_eq (e : Nat) (v : Engine) (s : State) :
    changeEngine e v s = { setEngine e v s with log := (changeEngine e v s).log } := by
  unfold changeEngine
  dsimp only
  split
  · rfl
  · rw [logEvent_eq]

theorem counterOf_changeEngine {k : Counter} (h : counterKey k ≠ counterKey .logOverwrites) (e : Nat) (v : Engine) (s : State) :
    counterOf (changeEngine e v s) k = counterOf s k := by
  unfold changeEngine
  dsimp only
  split
  · rfl
  · exact counterOf_logEvent _ _ _ _ _ _ h

/-- The survey once engine `e` has failed with a cause: one that was at work waits for a substitute (R151, R153). -/
def failedSurvey (e cause : Nat) (s : State) : Survey :=
  { s.survey with
    engines := Table.put s.survey.engines e { engineOf s e with st := 3, cause := cause }
    failures := if engineWorks (engineOf s e) then s.survey.failures ++ [e] else s.survey.failures }

theorem failEngine_eq (h : (engineOf s e).st ≠ 3) :
    failEngine e c s = { s with survey := failedSurvey e c s, log := (failEngine e c s).log } := by
  unfold failEngine failedSurvey
  dsimp only
  rw [if_neg h, changeEngine_eq]
  cases engineWorks (engineOf s e) <;> rfl

theorem counterOf_failEngine {k : Counter} (hk : counterKey k ≠ counterKey .logOverwrites) (e c : Nat) (s : State) :
    counterOf (failEngine e c s) k = counterOf s k := by
  unfold failEngine
  dsimp only
  split
  · rfl
  · split <;> exact counterOf_changeEngine hk ..

theorem engineOf_failEngine_self (h : (engineOf s e).st ≠ 3) :
    engineOf (failEngine e c s) e = { engineOf s e with st := 3, cause := c } := by
  rw [failEngine_eq h]
  exact Table.getD_put_self ..

theorem engineOf_failEngine_ne {y : Nat} (h : (engineOf s e).st ≠ 3) (hy : y ≠ e) :
    engineOf (failEngine e c s) y = engineOf s y := by
  rw [failEngine_eq h]
  exact Table.getD_put_ne _ _ _ _ hy _

theorem failures_failEngine (hw : engineWorks (engineOf s e) = true) (h : (engineOf s e).st ≠ 3) :
    (failEngine e c s).survey.failures = s.survey.failures ++ [e] := by
  rw [failEngine_eq h, failedSurvey, hw]
  rfl

theorem ctxs_failEngine (h : (engineOf s e).st ≠ 3) : (failEngine e c s).survey.ctxs = s.survey.ctxs := by
  rw [failEngine_eq h]
  rfl

/-- An engine at work has not failed. -/
theorem st_ne_failed {v : Engine} (h : engineWorks v = true) : v.st ≠ 3 := by
  have h : v.st = 0 ∨ v.st = 2 := of_decide_eq_true h
  omega

/-! ## GRANT_TIMEOUT, ENGINE_FAILURE and ENGINE_SELF_TEST -/

theorem engineWorks_of_grantWithheld (h : grantWithheld s e = true) : engineWorks (engineOf s e) = true := by
  simp only [grantWithheld, Bool.and_eq_true] at h
  exact h.1.1

theorem exec_grantTimeout (he : e < 68) (h : grantWithheld (advance dt s) e = true) :
    exec (.grantTimeout dt e) s = .next (failEngine e 2 (advance dt s)) := by
  simp [exec, execGrantTimeout, when_, he, h]

/-- The slice of engine `e` whose read was uncorrectable, as the log names it. -/
def sliceError (dt e : Nat) (s : State) : State :=
  count (.uncorrectableEcc e) 1 (storeError (240 * ((engineOf s e).group.getD 0)) (advance dt s))

theorem exec_engineFailure (he : e < 68) (hw : engineWorks (engineOf s e) = true) :
    exec (.engineFailure dt e) s = .next (failEngine e 3 (sliceError dt e s)) := by
  simp [exec, execEngineFailure, when_, he, hw, sliceError]

theorem sliceError_eq (dt e : Nat) (s : State) :
    sliceError dt e s = { advance dt s with log := (sliceError dt e s).log } := by
  unfold sliceError storeError
  dsimp only
  rw [logEvent_eq]
  rfl

theorem engineOf_sliceError (dt e y : Nat) (s : State) : engineOf (sliceError dt e s) y = engineOf s y := by
  rw [sliceError_eq]
  exact engineOf_advance ..

theorem uncorrectableEcc_sliceError (dt e : Nat) (s : State) : counterOf (sliceError dt e s) (.uncorrectableEcc e) =
    counterNext (.uncorrectableEcc e) (counterOf s (.uncorrectableEcc e)) 1 := by
  have hl : counterKey (.uncorrectableEcc e) ≠ counterKey .logOverwrites := by
    simp only [counterKey]
    omega
  have hs : counterKey (.uncorrectableEcc e) ≠ counterKey .storeUncorrectable := by
    simp only [counterKey]
    omega
  have hkept : counterOf (storeError (240 * ((engineOf s e).group.getD 0)) (advance dt s)) (.uncorrectableEcc e) =
      counterOf s (.uncorrectableEcc e) := by
    rw [storeError, counterOf_logEvent _ _ _ _ _ _ hl, counterOf_count_ne _ _ _ _ hs, ← counterOf_advance _ dt s]
    rfl
  rw [sliceError, counterOf_count, hkept]

theorem exec_engineSelfTest_idle (he : e < 68) (passed : Bool) :
    exec (.engineSelfTest dt e false passed) s = .next (advance dt s) := by
  simp [exec, execEngineSelfTest, when_, he]

/-- A test that has run is done for its gap (R152). -/
def testedEngine (dt e : Nat) (s : State) : State :=
  modEngine e (fun v => { v with tested := inGap (advance dt s) }) (advance dt s)

theorem exec_engineSelfTest_passed (he : e < 68) (h : testMayRun (advance dt s) e = true) :
    exec (.engineSelfTest dt e true true) s = .next (testedEngine dt e s) := by
  simp [exec, execEngineSelfTest, when_, he, h, engineTest, testedEngine]

theorem exec_engineSelfTest_wrong (he : e < 68) (h : testMayRun (advance dt s) e = true) :
    exec (.engineSelfTest dt e true false) s = .next (failEngine e 1 (testedEngine dt e s)) := by
  simp [exec, execEngineSelfTest, when_, he, h, engineTest, testedEngine]

@[simp] theorem testedEngine_ctxs (dt e : Nat) (s : State) : (testedEngine dt e s).survey.ctxs = s.survey.ctxs :=
  (congrArg Survey.ctxs (advance_survey dt s) :)
@[simp] theorem testedEngine_failures (dt e : Nat) (s : State) :
    (testedEngine dt e s).survey.failures = s.survey.failures := (congrArg Survey.failures (advance_survey dt s) :)

theorem engineOf_testedEngine_self (dt e : Nat) (s : State) :
    engineOf (testedEngine dt e s) e = { engineOf s e with tested := inGap (advance dt s) } := by
  rw [testedEngine, engineOf_modEngine_self, engineOf_advance]

theorem engineOf_testedEngine_ne {y : Nat} (h : y ≠ e) (dt : Nat) (s : State) :
    engineOf (testedEngine dt e s) y = engineOf s y := by
  rw [testedEngine, modEngine, engineOf_setEngine_ne h, engineOf_advance]

theorem st_ne_failed_of_testMayRun (h : testMayRun (advance dt s) e = true) : (engineOf s e).st ≠ 3 := by
  simp only [testMayRun, Bool.and_eq_true, decide_eq_true_eq, engineOf_advance] at h
  obtain ⟨⟨⟨⟨hst, -⟩, -⟩, -⟩, -⟩ := h
  exact hst

end Sys2Proof.Proofs
end

section
/-! A spare takes over a failed engine's group, or the group is lost (R153 to R155). -/

namespace Sys2Proof.Proofs

open Sys2Proof Sys2Proof.Machine Sys2Proof.Laws

variable {dt e f g x : Nat} {s t u : State}

/-! ## The contexts of a group -/

theorem mem_groupCtxs : x ∈ groupCtxs g ↔ 240 * g ≤ x ∧ x < 240 * g + 240 := by
  simp only [groupCtxs, List.mem_map, List.mem_range]
  exact ⟨by rintro ⟨k, hk, rfl⟩; omega, fun ⟨hl, hu⟩ => ⟨x - 240 * g, by omega, by omega⟩⟩

theorem nodup_groupCtxs (g : Nat) : (groupCtxs g).Nodup :=
  List.nodup_range.map fun _ _ h => Nat.add_left_cancel h

/-- What a takeover makes of an open context (R134, R153). -/
def reassigned (v : Ctx) : Ctx :=
  { v with
    flags := { v.flags with reassigned := true }, applied := 0, dropped := 0, converted := 0, foreign := v.kept
    skipCheck := true, peaks := [{}, {}, {}, {}], prev := none, fresh := [] }

theorem reassign_opened (h : (ctxOf s x).ph = .opened) : reassign x s = setCtx x (reassigned (ctxOf s x)) s := by
  have hb : ((ctxOf s x).ph == .opened) = true := by
    rw [h]
    rfl
  exact if_pos hb

theorem reassign_not_opened (h : (ctxOf s x).ph ≠ .opened) : reassign x s = s := by
  simp [reassign, h]

theorem ctxOf_reassign_ne {y : Nat} (h : y ≠ x) : ctxOf (reassign x s) y = ctxOf s y := by
  by_cases hx : (ctxOf s x).ph = .opened
  · rw [reassign_opened hx, ctxOf_setCtx_ne h]
  · rw [reassign_not_opened hx]

/-- A takeover moves contexts alone. -/
theorem foldl_reassign_eq (l : List Nat) (s : State) : l.foldl (fun u x => reassign x u) s =
    { s with survey := { s.survey with ctxs := (l.foldl (fun u x => reassign x u) s).survey.ctxs } } := by
  induction l generalizing s with
  | nil => rfl
  | cons x l ih =>
    rw [List.foldl_cons, ih]
    by_cases hx : (ctxOf s x).ph = .opened
    · rw [reassign_opened hx]
      rfl
    · rw [reassign_not_opened hx]

theorem ctxOf_foldl_reassign_not_mem {l : List Nat} (h : x ∉ l) (s : State) :
    ctxOf (l.foldl (fun u x => reassign x u) s) x = ctxOf s x := by
  induction l generalizing s with
  | nil => rfl
  | cons y l ih =>
    rw [List.mem_cons, not_or] at h
    rw [List.foldl_cons, ih h.2, ctxOf_reassign_ne h.1]

theorem ctxOf_foldl_reassign_not_opened (h : (ctxOf s x).ph ≠ .opened) (l : List Nat) :
    ctxOf (l.foldl (fun u x => reassign x u) s) x = ctxOf s x := by
  induction l generalizing s with
  | nil => rfl
  | cons y l ih =>
    have hy : ctxOf (reassign y s) x = ctxOf s x := by
      by_cases hxy : x = y
      · rw [← hxy, reassign_not_opened h]
      · exact ctxOf_reassign_ne hxy
    rw [List.foldl_cons, ih (by rwa [hy]), hy]

/-- Each context of a list without repetition is taken over once. -/
theorem ctxOf_foldl_reassign_opened {l : List Nat} (hl : l.Nodup) (hx : x ∈ l) (h : (ctxOf s x).ph = .opened) :
    ctxOf (l.foldl (fun u x => reassign x u) s) x = reassigned (ctxOf s x) := by
  induction l generalizing s with
  | nil => exact absurd hx List.not_mem_nil
  | cons y l ih =>
    obtain ⟨hy, hl⟩ := List.nodup_cons.1 hl
    rw [List.foldl_cons]
    obtain rfl | hxl := List.mem_cons.1 hx
    · rw [ctxOf_foldl_reassign_not_mem hy, reassign_opened h, ctxOf_setCtx_self]
    · have hxy : x ≠ y := fun hxy => hy (hxy ▸ hxl)
      rw [ih hl hxl (by rwa [ctxOf_reassign_ne hxy]), ctxOf_reassign_ne hxy]

/-! ## The takeover -/

/-- The group's contexts `l` and the failed engine, before the spare serves. -/
def handedOver (l : List Nat) (f : Nat) (s : State) : State :=
  l.foldl (fun u x => reassign x u) (setEngine f { engineOf s f with group := none, markers := [] } s)

/-- The spare as it serves the group: the markers that waited carry reassigned (R153). -/
def servingSpare (l : List Nat) (f e g : Nat) (s : State) : Engine :=
  { engineOf (handedOver l f s) e with
    st := 2, group := some g, markers := (engineOf s f).markers.map (fun m => { m with reassigned := true }), mismatches := 0
    served := (handedOver l f s).now }

/-- The takeover of the contexts `l`. -/
def takenOver (l : List Nat) (f e g : Nat) (s : State) : State :=
  count .substitutions 1 (moveIfIdle (14 + e % 2) { src := 1, dst := 0, len := 4096 }
    (changeEngine e (servingSpare l f e g s) (handedOver l f s)))

theorem substitute_eq (f e g : Nat) (s : State) : substitute f e g s = takenOver (groupCtxs g) f e g s := rfl

variable (l : List Nat)

theorem handedOver_survey (f : Nat) (s : State) : (handedOver l f s).survey =
    { s.survey with
      engines := Table.put s.survey.engines f { engineOf s f with group := none, markers := [] }
      ctxs := (handedOver l f s).survey.ctxs } := by
  unfold handedOver
  rw [foldl_reassign_eq]
  rfl

theorem takenOver_survey (f e g : Nat) (s : State) : (takenOver l f e g s).survey =
    { (handedOver l f s).survey with
      engines := Table.put (handedOver l f s).survey.engines e (servingSpare l f e g s) } := by
  refine (moves_moveIfIdle ..).survey.trans ?_
  rw [changeEngine_eq]
  rfl

theorem failures_takenOver (f e g : Nat) (s : State) : (takenOver l f e g s).survey.failures = s.survey.failures := by
  rw [takenOver_survey, handedOver_survey]

theorem lost_takenOver (f e g : Nat) (s : State) : (takenOver l f e g s).survey.lost = s.survey.lost := by
  rw [takenOver_survey, handedOver_survey]

theorem engineOf_takenOver_self (f e g : Nat) (s : State) : engineOf (takenOver l f e g s) e = servingSpare l f e g s := by
  rw [engineOf, takenOver_survey]
  exact Table.getD_put_self ..

theorem engineOf_takenOver_failed (h : e ≠ f) (g : Nat) (s : State) :
    engineOf (takenOver l f e g s) f = { engineOf s f with group := none, markers := [] } := by
  rw [engineOf, takenOver_survey]
  refine (Table.getD_put_ne _ _ _ _ h.symm _).trans ?_
  rw [handedOver_survey]
  exact Table.getD_put_self ..

theorem ctxOf_takenOver (f e g x : Nat) (s : State) : ctxOf (takenOver l f e g s) x = ctxOf (handedOver l f s) x :=
  ctxOf_congr (by rw [takenOver_survey]) x

theorem substitutions_takenOver (f e g : Nat) (s : State) : counterOf (takenOver l f e g s) .substitutions =
    counterNext .substitutions (counterOf s .substitutions) 1 := by
  have hl : counterKey .substitutions ≠ counterKey .logOverwrites := by decide
  have hh : ∀ j, counterKey .substitutions ≠ counterKey (.halts j) := by
    intro j
    simp only [counterKey]
    omega
  have hhanded : counterOf (handedOver l f s) .substitutions = counterOf s .substitutions := by
    rw [handedOver, foldl_reassign_eq]
    rfl
  rw [takenOver, counterOf_count, (moves_moveIfIdle ..).counters _ hl hh, counterOf_changeEngine hl, hhanded]

/-! ## Contexts that go -/

/-- `t` is `s` with contexts returned, and with what is posted, no longer due and counted for it. -/
structure Returns (s t : State) : Prop where
  frame : t = { s with
    survey := { s.survey with ctxs := t.survey.ctxs, posts := t.survey.posts, postAt := t.survey.postAt }
    contour := t.contour, log := t.log }
  ctx : ∀ x, ctxOf t x = ctxOf s x ∨ ctxOf t x = {}

theorem Returns.refl (s : State) : Returns s s := ⟨rfl, fun _ => .inl rfl⟩

theorem Returns.trans (h : Returns s t) (h' : Returns t u) : Returns s u := by
  refine ⟨by rw [h'.frame, h.frame], fun x => ?_⟩
  obtain h2 | h2 := h'.ctx x
  · rw [h2]
    exact h.ctx x
  · exact .inr h2

theorem returns_foldl {α : Type} {step : State → α → State} (h : ∀ u a, Returns u (step u a)) (l : List α) (s : State) :
    Returns s (l.foldl step s) := by
  induction l generalizing s with
  | nil => exact .refl s
  | cons a l ih => exact (h s a).trans (ih _)

theorem returns_freeCtx (x : Nat) (s : State) : Returns s (freeCtx x s) := by
  refine ⟨rfl, fun y => ?_⟩
  by_cases h : y = x
  · exact .inr (h ▸ Table.getD_del_self ..)
  · exact .inl (Table.getD_del_ne _ _ _ h _)

theorem returns_freeExtra (v : Ctx) (s : State) : Returns s (freeExtra v s) := by
  unfold freeExtra
  split
  · exact .refl s
  · exact returns_freeCtx ..

theorem returns_post (c β : Nat) (p : Bool) (l : List Peak) (s : State) : Returns s (post c β p l s) :=
  ⟨rfl, fun _ => .inl rfl⟩

theorem returns_pointGone (c β : Nat) (p : Bool) (s : State) : Returns s (pointGone c β p s) := ⟨rfl, fun _ => .inl rfl⟩

theorem returns_count (c : Counter) (n : Nat) (s : State) : Returns s (count c n s) := ⟨rfl, fun _ => .inl rfl⟩

theorem returns_discardCtx (x : Nat) (s : State) : Returns s (discardCtx x s) :=
  (((returns_freeExtra ..).trans (returns_freeCtx ..)).trans (returns_post ..)).trans (returns_pointGone ..)

theorem returns_dropMarker (f : Nat) (m : Marker) (s : State) : Returns s (dropMarker f m s) := by
  unfold dropMarker
  refine .trans ?_ (returns_count ..)
  split
  · exact returns_discardCtx ..
  · exact returns_pointGone ..

/-- An open context goes, and is counted at engine `f` (R131, R155). -/
def loseCtx (f : Nat) (s : State) (x : Nat) : State :=
  if (ctxOf s x).ph == .opened then count (.discardedContexts f) 1 (discardCtx x s) else s

theorem loseCtx_opened (h : (ctxOf s x).ph = .opened) :
    loseCtx f s x = count (.discardedContexts f) 1 (discardCtx x s) := by
  have hb : ((ctxOf s x).ph == .opened) = true := by
    rw [h]
    rfl
  exact if_pos hb

theorem loseCtx_not_opened (h : (ctxOf s x).ph ≠ .opened) : loseCtx f s x = s := by
  simp [loseCtx, h]

theorem returns_loseCtx (f : Nat) (s : State) (x : Nat) : Returns s (loseCtx f s x) := by
  by_cases h : (ctxOf s x).ph = .opened
  · rw [loseCtx_opened h]
    exact (returns_discardCtx ..).trans (returns_count ..)
  · rw [loseCtx_not_opened h]
    exact .refl s

theorem loseCtx_self_not_opened (f : Nat) (s : State) (x : Nat) : (ctxOf (loseCtx f s x) x).ph ≠ .opened := by
  by_cases h : (ctxOf s x).ph = .opened
  · rw [loseCtx_opened h, ctxOf_count, ctxOf_discardCtx_self]
    decide
  · rwa [loseCtx_not_opened h]

/-- A context that is not open never opens where contexts go. -/
theorem Returns.not_opened (h : Returns s t) (hx : (ctxOf s x).ph ≠ .opened) : (ctxOf t x).ph ≠ .opened := by
  obtain h | h := h.ctx x
  · rwa [h]
  · rw [h]
    decide

theorem foldl_loseCtx_not_opened {l : List Nat} (hx : x ∈ l) (f : Nat) (s : State) :
    (ctxOf (l.foldl (loseCtx f) s) x).ph ≠ .opened := by
  induction l generalizing s with
  | nil => exact absurd hx List.not_mem_nil
  | cons y l ih =>
    rw [List.foldl_cons]
    obtain rfl | hxl := List.mem_cons.1 hx
    · exact (returns_foldl (returns_loseCtx f) l _).not_opened (loseCtx_self_not_opened f s x)
    · exact ih hxl _

/-! ## The count of the contexts that go -/

/-- Events counted one by one and at once leave a counter of discarded contexts at the same value. -/
theorem counterNext_discardedContexts_add (f v m n : Nat) :
    counterNext (.discardedContexts f) (counterNext (.discardedContexts f) v m) n =
      counterNext (.discardedContexts f) v (m + n) := by
  simp only [counterNext, counterSaturates, counterWidth, if_true]
  omega

theorem counterNext_discardedContexts_lt (f v n : Nat) : counterNext (.discardedContexts f) v n < 2 ^ 32 := by
  simp only [counterNext, counterSaturates, counterWidth, if_true]
  omega

theorem counterNext_discardedContexts_zero {v : Nat} (f : Nat) (h : v < 2 ^ 32) :
    counterNext (.discardedContexts f) v 0 = v := by
  simp only [counterNext, counterSaturates, counterWidth, if_true]
  omega

theorem ctxOf_freeCtx_ne {y : Nat} (h : y ≠ x) (s : State) : ctxOf (freeCtx x s) y = ctxOf s y := Table.getD_del_ne _ _ _ h _

theorem ctxOf_discardCtx (x y : Nat) (s : State) :
    ctxOf (discardCtx x s) y = ctxOf (freeCtx x (freeExtra (ctxOf s x) s)) y := rfl

/-- Where re-zoom contexts lie in the pool, a context of the slices goes alone. -/
theorem ctxOf_loseCtx_ne {y : Nat} (hpool : ExtraInPool x s) (hy : y < 15360) (h : y ≠ x) (f : Nat) :
    ctxOf (loseCtx f s x) y = ctxOf s y := by
  by_cases hx : (ctxOf s x).ph = .opened
  · rw [loseCtx_opened hx, ctxOf_count, ctxOf_discardCtx, ctxOf_freeCtx_ne h]
    unfold freeExtra
    split
    · rfl
    · next z hz =>
      have := hpool z hz
      exact ctxOf_freeCtx_ne (by omega) s
  · rw [loseCtx_not_opened hx]

theorem Returns.pool (h : Returns s t) (hpool : ExtraInPool x s) : ExtraInPool x t := by
  intro y hy
  obtain h | h := h.ctx x <;> rw [h] at hy
  · exact hpool y hy
  · cases hy

/-- Each context that was open is counted once. -/
theorem discardedContexts_foldl_loseCtx {l : List Nat} (hl : l.Nodup) (hlow : ∀ x ∈ l, x < 15360)
    (hpool : ∀ x, ExtraInPool x s) (hv : counterOf s (.discardedContexts f) < 2 ^ 32) :
    counterOf (l.foldl (loseCtx f) s) (.discardedContexts f) = counterNext (.discardedContexts f)
      (counterOf s (.discardedContexts f)) (l.countP (fun x => decide ((ctxOf s x).ph = .opened))) := by
  induction l generalizing s with
  | nil => exact (counterNext_discardedContexts_zero f hv).symm
  | cons x l ih =>
    obtain ⟨hx, hl⟩ := List.nodup_cons.1 hl
    have hlow' : ∀ y ∈ l, y < 15360 := fun y hy => hlow y (List.mem_cons_of_mem _ hy)
    have hrest : l.countP (fun y => decide ((ctxOf (loseCtx f s x) y).ph = .opened)) =
        l.countP (fun y => decide ((ctxOf s y).ph = .opened)) :=
      List.countP_congr fun y hy => by
        rw [ctxOf_loseCtx_ne (hpool x) (hlow' y hy) (fun h => hx (h ▸ hy))]
    have hpool' : ∀ y, ExtraInPool y (loseCtx f s x) := fun y => (returns_loseCtx f s x).pool (hpool y)
    rw [List.foldl_cons]
    by_cases h : (ctxOf s x).ph = .opened
    · have hone : counterOf (loseCtx f s x) (.discardedContexts f) =
          counterNext (.discardedContexts f) (counterOf s (.discardedContexts f)) 1 := by
        rw [loseCtx_opened h, counterOf_count, counterOf_discardCtx]
      rw [ih hl hlow' hpool' (by rw [hone]; exact counterNext_discardedContexts_lt ..), hrest, hone,
        counterNext_discardedContexts_add, List.countP_cons_of_pos (by simpa using h), Nat.add_comm]
    · rw [loseCtx_not_opened h, ih hl hlow' hpool hv, List.countP_cons_of_neg (by simpa using h)]

/-! ## The loss of a group -/

/-- The failed engine's markers and the contexts `l` are gone. -/
def emptied (l : List Nat) (f : Nat) (s : State) : State :=
  l.foldl (loseCtx f) ((engineOf s f).markers.foldl (fun u m => dropMarker f m u)
    (setEngine f { engineOf s f with group := none, markers := [] } s))

/-- A channel of the group holds nothing more. -/
def silenced (c : Chan) : Chan := { c with buffer := [], hold := [], arm := none, next := none, converted := [], noCtx := [] }

/-- The loss of group `g` once its contexts `l` have gone. -/
def lostGroup (l : List Nat) (f g : Nat) (s : State) : State :=
  abandonRun 2 (modSurvey (fun u => { u with lost := u.lost ++ [g], lostNow := u.lostNow ++ [g] })
    ((List.range 24).foldl (fun u i => modChan (24 * g + i) silenced u) (emptied l f s)))

theorem loseGroup_eq (f g : Nat) (s : State) : loseGroup f g s = lostGroup (groupCtxs g) f g s := rfl

theorem returns_emptied (l : List Nat) (f : Nat) (s : State) :
    Returns (setEngine f { engineOf s f with group := none, markers := [] } s) (emptied l f s) :=
  (returns_foldl (fun u m => returns_dropMarker f m u) _ _).trans (returns_foldl (returns_loseCtx f) l _)

theorem lostGroup_survey (l : List Nat) (f g : Nat) (s : State) : (lostGroup l f g s).survey =
    { s.survey with
      engines := Table.put s.survey.engines f { engineOf s f with group := none, markers := [] }
      lost := s.survey.lost ++ [g], lostNow := s.survey.lostNow ++ [g], ctxs := (emptied l f s).survey.ctxs
      posts := (emptied l f s).survey.posts, postAt := (emptied l f s).survey.postAt } := by
  have hs := congrArg State.survey (returns_emptied l f s).frame
  rw [lostGroup, abandonRun_survey, foldl_modChan]
  simp only [modSurvey]
  rw [hs]
  rfl

theorem ctxOf_lostGroup (l : List Nat) (f g x : Nat) (s : State) : ctxOf (lostGroup l f g s) x = ctxOf (emptied l f s) x :=
  ctxOf_congr (by rw [lostGroup_survey]) x

theorem engineOf_lostGroup (l : List Nat) (f g : Nat) (s : State) :
    engineOf (lostGroup l f g s) f = { engineOf s f with group := none, markers := [] } := by
  rw [engineOf, lostGroup_survey]
  exact Table.getD_put_self ..

/-- Every open context among those that go is free (R155). -/
theorem ctxOf_emptied_free {l : List Nat} (hx : x ∈ l) (h : (ctxOf s x).ph = .opened) :
    (ctxOf (emptied l f s) x).ph = .free := by
  obtain hsame | hfree := (returns_emptied l f s).ctx x
  · have hopen : (ctxOf (emptied l f s) x).ph = .opened := by
      rw [hsame]
      exact h
    exact absurd hopen (foldl_loseCtx_not_opened hx f _)
  · rw [hfree]

theorem discardedContexts_lostGroup (l : List Nat) (f g : Nat) (s : State) :
    counterOf (lostGroup l f g s) (.discardedContexts f) = counterOf (emptied l f s) (.discardedContexts f) := by
  have ha : counterKey (.discardedContexts f) ≠ counterKey .runsAbandoned := by
    simp only [counterKey]
    omega
  have hl : counterKey (.discardedContexts f) ≠ counterKey .logOverwrites := by
    simp only [counterKey]
    omega
  rw [lostGroup, counterOf_abandonRun _ _ _ ha hl, foldl_modChan]
  rfl

end Sys2Proof.Proofs
end

section
/-! Engine failures, spares and lost groups, settled (R151 to R156). -/

namespace Sys2Proof.Proofs

open Sys2Proof Sys2Proof.Machine Sys2Proof.Laws

variable {dt e f g x : Nat} {r : List Nat} {s : State}

/-- The first failure that waits has been taken from the queue. -/
def failureTaken (dt : Nat) (r : List Nat) (s : State) : State := modSurvey (fun v => { v with failures := r }) (advance dt s)

@[simp] theorem engineOf_failureTaken (dt e : Nat) (r : List Nat) (s : State) :
    engineOf (failureTaken dt r s) e = engineOf s e := engineOf_advance e dt s
@[simp] theorem ctxOf_failureTaken (dt x : Nat) (r : List Nat) (s : State) : ctxOf (failureTaken dt r s) x = ctxOf s x :=
  ctxOf_advance x dt s
@[simp] theorem counterOf_failureTaken (dt : Nat) (r : List Nat) (c : Counter) (s : State) :
    counterOf (failureTaken dt r s) c = counterOf s c := counterOf_advance c dt s
@[simp] theorem lost_failureTaken (dt : Nat) (r : List Nat) (s : State) : (failureTaken dt r s).survey.lost = s.survey.lost :=
  (congrArg Survey.lost (advance_survey dt s) :)

theorem idleSpare_failureTaken (dt : Nat) (r : List Nat) (s : State) : idleSpare (failureTaken dt r s) = idleSpare s := by
  simp [idleSpare]

theorem exec_spareSubstitution_taken (hf : s.survey.failures = f :: r) (hg : (engineOf s f).group = some g)
    (he : idleSpare s = some e) :
    exec (.spareSubstitution dt) s = .next (takenOver (groupCtxs g) f e g (failureTaken dt r s)) := by
  have hfail : (advance dt s).survey.failures = f :: r := by rw [advance_survey, hf]
  have hexec : exec (.spareSubstitution dt) s = execSpareSubstitution dt s := rfl
  have hgroup : (engineOf (failureTaken dt r s) f).group = some g := by rw [engineOf_failureTaken, hg]
  rw [hexec, execSpareSubstitution]
  simp only [hfail]
  rw [← failureTaken, hgroup, idleSpare_failureTaken, he]
  exact congrArg Host.Outcome.next (substitute_eq ..)

theorem exec_spareSubstitution_lost (hf : s.survey.failures = f :: r) (hg : (engineOf s f).group = some g)
    (he : idleSpare s = none) :
    exec (.spareSubstitution dt) s = .next (lostGroup (groupCtxs g) f g (failureTaken dt r s)) := by
  have hfail : (advance dt s).survey.failures = f :: r := by rw [advance_survey, hf]
  have hexec : exec (.spareSubstitution dt) s = execSpareSubstitution dt s := rfl
  have hgroup : (engineOf (failureTaken dt r s) f).group = some g := by rw [engineOf_failureTaken, hg]
  rw [hexec, execSpareSubstitution]
  simp only [hfail]
  rw [← failureTaken, hgroup, idleSpare_failureTaken, he]
  exact congrArg Host.Outcome.next (loseGroup_eq ..)

/-- An open context of the group is taken over as it stood. -/
theorem ctxOf_handedOver_opened {l : List Nat} (hl : l.Nodup) (hx : x ∈ l) (h : (ctxOf s x).ph = .opened) (f : Nat) :
    ctxOf (handedOver l f s) x = reassigned (ctxOf s x) :=
  ctxOf_foldl_reassign_opened (s := setEngine f _ s) hl hx h

theorem ctxOf_handedOver_same {l : List Nat} (h : (ctxOf s x).ph ≠ .opened ∨ x ∉ l) (f : Nat) :
    ctxOf (handedOver l f s) x = ctxOf s x := by
  obtain h | h := h
  · exact ctxOf_foldl_reassign_not_opened (s := setEngine f _ s) h l
  · exact ctxOf_foldl_reassign_not_mem h _

/-- With no marker waiting, the contexts that were open are those that are counted. -/
theorem discardedContexts_emptied {l : List Nat} (hl : l.Nodup) (hlow : ∀ x ∈ l, x < 15360)
    (hm : (engineOf s f).markers = []) (hv : counterOf s (.discardedContexts f) < 2 ^ 32) (hpool : ∀ x, ExtraInPool x s) :
    counterOf (emptied l f s) (.discardedContexts f) = counterNext (.discardedContexts f)
      (counterOf s (.discardedContexts f)) (l.countP (fun x => decide ((ctxOf s x).ph = .opened))) := by
  rw [emptied, hm]
  exact discardedContexts_foldl_loseCtx hl hlow hpool hv

theorem countP_groupCtxs (p : Nat → Bool) (g : Nat) :
    (groupCtxs g).countP p = (List.range 240).countP (fun k => p (240 * g + k)) := List.countP_map ..

/-- Settles O40: a failure by its three causes, a substitution by whether a spare is idle. -/
theorem enginesFailAndAreReplaced : Obligations.EnginesFailAndAreReplaced := by
  unfold Obligations.EnginesFailAndAreReplaced
  refine ⟨fun dt e s he h => ?timeout, fun dt e s he hw => ?ecc, fun dt e ran passed s he h => ?test,
    fun dt f g r s hf hg => ?spare⟩
  case timeout =>
    have hw := engineWorks_of_grantWithheld h
    have hst := st_ne_failed hw
    refine ⟨_, exec_grantTimeout he h, ?_, ?_, ?_, ?_, ?_⟩
    · rw [engineOf_failEngine_self hst]
    · rw [engineOf_failEngine_self hst]
    · rw [failures_failEngine hw hst, advance_survey]
    · rw [ctxs_failEngine hst, advance_survey]
    · rw [failEngine_eq hst]
  case ecc =>
    have hwu : engineWorks (engineOf (sliceError dt e s) e) = true := by rwa [engineOf_sliceError]
    have hst := st_ne_failed hwu
    have hl : counterKey (.uncorrectableEcc e) ≠ counterKey .logOverwrites := by
      simp only [counterKey]
      omega
    refine ⟨_, exec_engineFailure he hw, ?_, ?_, ?_, ?_, ?_⟩
    · rw [engineOf_failEngine_self hst]
    · rw [engineOf_failEngine_self hst]
    · rw [failures_failEngine hwu hst, sliceError_eq, advance_survey]
    · rw [counterOf_failEngine hl, uncorrectableEcc_sliceError]
    · rw [failEngine_eq hst, sliceError_eq]
  case test =>
    cases ran with
    | false =>
      refine ⟨_, exec_engineSelfTest_idle he passed, fun _ => rfl, nofun, nofun, ?_, fun y _ => engineOf_advance .., rfl⟩
      rw [advance_survey]
    | true =>
      cases passed with
      | true =>
        exact ⟨_, exec_engineSelfTest_passed he h, nofun, fun _ _ => ⟨engineOf_testedEngine_self .., advance_log ..⟩, nofun,
          testedEngine_ctxs .., fun y hy => engineOf_testedEngine_ne hy .., rfl⟩
      | false =>
        have hst : (engineOf (testedEngine dt e s) e).st ≠ 3 := by
          rw [engineOf_testedEngine_self]
          exact st_ne_failed_of_testMayRun h
        refine ⟨_, exec_engineSelfTest_wrong he h, nofun, nofun, fun _ _ => ⟨?_, ?_, fun hw => ?_⟩, ?_,
          fun y hy => ?_, ?_⟩
        · rw [engineOf_failEngine_self hst]
        · rw [engineOf_failEngine_self hst]
        · have hwu : engineWorks (engineOf (testedEngine dt e s) e) = true := by
            rw [engineOf_testedEngine_self]
            exact hw
          rw [failures_failEngine hwu hst, testedEngine_failures]
        · rw [ctxs_failEngine hst, testedEngine_ctxs]
        · rw [engineOf_failEngine_ne hst hy, engineOf_testedEngine_ne hy]
        · rw [failEngine_eq hst]
          rfl
  case spare =>
    have hmem : ∀ x, x ∈ groupCtxs g ↔ 240 * g ≤ x ∧ x < 240 * g + 240 := fun _ => mem_groupCtxs
    have hnodup := nodup_groupCtxs g
    have hcountP := fun p => countP_groupCtxs p g
    obtain hidle | ⟨e, hidle⟩ := Option.eq_none_or_eq_some (idleSpare s)
    · have hexec := exec_spareSubstitution_lost (dt := dt) hf hg hidle
      generalize groupCtxs g = l at hmem hnodup hcountP hexec
      refine ⟨_, hexec, ?_, fun e he => ?_, fun _ => ⟨?_, abandonRun_run .., ?_, ?_, fun x hlo hup hx => ?_,
        fun hlow hm hv hpool => ?_⟩⟩
      · exact congrArg Survey.failures (lostGroup_survey ..)
      · rw [hidle] at he
        cases he
      · rw [lostGroup_survey, lost_failureTaken]
      · rw [engineOf_lostGroup]
      · rw [engineOf_lostGroup]
      · rw [ctxOf_lostGroup]
        exact ctxOf_emptied_free ((hmem x).2 ⟨hlo, hup⟩) (by rwa [ctxOf_failureTaken])
      · rw [discardedContexts_lostGroup, discardedContexts_emptied hnodup (fun x hx => ?_) (by rwa [engineOf_failureTaken])
          (by rwa [counterOf_failureTaken]) (fun x y hy => hpool x y (by rwa [ctxOf_failureTaken] at hy)), hcountP,
          counterOf_failureTaken]
        · simp only [ctxOf_failureTaken]
        · have := (hmem x).1 hx
          omega
    · have hexec := exec_spareSubstitution_taken (dt := dt) hf hg hidle
      generalize groupCtxs g = l at hmem hnodup hcountP hexec
      refine ⟨_, hexec, failures_takenOver .., fun e' he hne => ?_, fun hnone => ?_⟩
      · obtain rfl : e = e' := Option.some.inj (hidle.symm.trans he)
        simp only [engineOf_takenOver_self, engineOf_takenOver_failed _ hne, lost_takenOver, lost_failureTaken,
          substitutions_takenOver, counterOf_failureTaken, ctxOf_takenOver, servingSpare, engineOf_failureTaken, true_and]
        refine ⟨fun x hlo hup hx => ?_, fun x hx => ?_⟩
        · rw [ctxOf_handedOver_opened hnodup ((hmem x).2 ⟨hlo, hup⟩) (by rwa [ctxOf_failureTaken]), ctxOf_failureTaken]
          rfl
        · have hstays : (ctxOf (failureTaken dt r s) x).ph ≠ .opened ∨ x ∉ l := by
            rw [ctxOf_failureTaken, hmem]
            exact hx.imp_right fun hx => by omega
          rw [ctxOf_handedOver_same hstays, ctxOf_failureTaken]
      · rw [hidle] at hnone
        cases hnone

end Sys2Proof.Proofs
end

section
/-! A descriptor completes, or its channel halts for the first time (R413 to R415). -/

namespace Sys2Proof.Proofs

open Sys2Proof Sys2Proof.Machine Sys2Proof.Laws

variable {dt k : Nat} {s : State}

/-! ## The snapshot packet -/

/-- The packet of a snapshot `w` with its data `d` (R234). -/
def snapshotPkt (whole : Bool) (w : Nat) (d : List Byte) : Pkt :=
  pkt 0x08 (leBytes 8 (if whole then w else w - field 3 36 (bits 38 36 w) + field 3 36 3) ++ (if whole then d else d.take 8))

theorem due3_untagged {p : Pkt} (hp : p.tagged = false) (hl : linkTakes s = true) :
    due3 p s = { s with link := { s.link with q3 := s.link.q3 ++ [p] } } := by
  simp [due3, mayQueue, hp, hl]

/-- The first snapshot has been sent. -/
def snapshotSent (whole : Bool) (w : Nat) (d : List Byte) (r : List (Nat × List Byte)) (s : State) : State :=
  due3 (snapshotPkt whole w d) { s with dma := { s.dma with snapshots := r } }

theorem moves_snapshotOut {w : Nat} {d : List Byte} {r : List (Nat × List Byte)} (h : s.dma.snapshots = (w, d) :: r)
    (whole : Bool) : Moves 12 (snapshotSent whole w d r s) (snapshotOut whole s) := by
  unfold snapshotOut
  rw [h]
  dsimp only
  cases r with
  | nil => exact .refl 12 _
  | cons e r => exact moves_moveStart ..

theorem snapshotOut_nil (h : s.dma.snapshots = []) (whole : Bool) : snapshotOut whole s = s := by
  unfold snapshotOut
  rw [h]

/-- It leaves the queue for the status packets. -/
theorem snapshotOut_cons {w : Nat} {d : List Byte} {r : List (Nat × List Byte)} (h : s.dma.snapshots = (w, d) :: r)
    (hl : linkTakes s = true) (whole : Bool) :
    (snapshotOut whole s).dma.snapshots = r ∧ (snapshotOut whole s).link.q3 = s.link.q3 ++ [snapshotPkt whole w d] := by
  have hsent : snapshotSent whole w d r s = { s with
      dma := { s.dma with snapshots := r }, link := { s.link with q3 := s.link.q3 ++ [snapshotPkt whole w d] } } :=
    due3_untagged rfl hl
  have hm := moves_snapshotOut h whole
  exact ⟨by rw [hm.snapshots, hsent], by rw [hm.link, hsent]⟩

theorem moverOf_snapshotOut {n : Nat} (hn : n ≠ 12) (whole : Bool) (s : State) :
    moverOf (snapshotOut whole s) n = moverOf s n := by
  cases h : s.dma.snapshots with
  | nil => rw [snapshotOut_nil h]
  | cons e r =>
    obtain ⟨w, d⟩ := e
    rw [(moves_snapshotOut h whole).others n hn]
    simp [snapshotSent, moverOf]

theorem counterOf_snapshotOut {c : Counter} (hc : counterKey c ≠ counterKey .logOverwrites)
    (hj : ∀ j, counterKey c ≠ counterKey (.halts j)) (whole : Bool) (s : State) :
    counterOf (snapshotOut whole s) c = counterOf s c := by
  cases h : s.dma.snapshots with
  | nil => rw [snapshotOut_nil h]
  | cons e r =>
    obtain ⟨w, d⟩ := e
    rw [(moves_snapshotOut h whole).counters c hc hj]
    exact counterOf_due3 ..

/-! ## DESCRIPTOR_COMPLETE -/

/-- The descriptor in hand is written complete, and its channel is idle (R414). -/
def completed (k : Nat) (s : State) : State :=
  setMover k { moverOf s k with
    st := 0
    completions := ((moverOf s k).completions + (if (descOf s (moverOf s k).desc).event then 1 else 0)) % 65536 }
    (setDesc (moverOf s k).desc
      { descOf s (moverOf s k).desc with st := 2, done := (descOf s (moverOf s k).desc).len } s)

/-- A running descriptor that completes, and then the next of its chain (R414). -/
theorem moveDone_eq (h : (moverOf s k).st = 1 ∨ (moverOf s k).st = 3)
    (hv : descValid (descOf s (moverOf s k).desc) = true) :
    moveDone k s = if (descOf s (moverOf s k).desc).next < 1024 then
      startMover k (descOf s (moverOf s k).desc).next (descOf (completed k s) (descOf s (moverOf s k).desc).next) (completed k s)
      else completed k s :=
  if_pos ⟨h, hv⟩

theorem moveDone_last (h : (moverOf s k).st = 1 ∨ (moverOf s k).st = 3)
    (hv : descValid (descOf s (moverOf s k).desc) = true) (hn : 1024 ≤ (descOf s (moverOf s k).desc).next) :
    moveDone k s = completed k s := by
  rw [moveDone_eq h hv, if_neg (by omega)]

theorem descOf_completed_self (k : Nat) (s : State) : descOf (completed k s) (moverOf s k).desc =
    { descOf s (moverOf s k).desc with st := 2, done := (descOf s (moverOf s k).desc).len } := by
  simp [completed]

theorem descOf_completed_ne {n : Nat} (h : n ≠ (moverOf s k).desc) : descOf (completed k s) n = descOf s n := by
  simp [completed, descOf_setDesc_ne h]

/-- The end of a chain: the descriptor is complete, its channel idle (R414). -/
theorem moveDone_settles_last (h : (moverOf s k).st = 1 ∨ (moverOf s k).st = 3)
    (hv : descValid (descOf s (moverOf s k).desc) = true) (hn : 1024 ≤ (descOf s (moverOf s k).desc).next) :
    moverOf (moveDone k s) k = { moverOf s k with
      st := 0
      completions := ((moverOf s k).completions + (if (descOf s (moverOf s k).desc).event then 1 else 0)) % 65536 } ∧
    (descOf (moveDone k s) (moverOf s k).desc).st = 2 ∧
    (descOf (moveDone k s) (moverOf s k).desc).done = (descOf s (moverOf s k).desc).len := by
  rw [moveDone_last h hv hn, descOf_completed_self]
  exact ⟨moverOf_setMover_self .., rfl, rfl⟩

/-- The next of a chain runs, or halts where the engine rejects it (R413, R414). -/
theorem moveDone_settles_chained (h : (moverOf s k).st = 1 ∨ (moverOf s k).st = 3)
    (hv : descValid (descOf s (moverOf s k).desc) = true) (hn : (descOf s (moverOf s k).desc).next < 1024)
    (hne : (descOf s (moverOf s k).desc).next ≠ (moverOf s k).desc) :
    (moverOf (moveDone k s) k).desc = (descOf s (moverOf s k).desc).next ∧
    (moverOf (moveDone k s) k).st = (if descValid (descOf s (descOf s (moverOf s k).desc).next) then 1 else 3) ∧
    (descOf (moveDone k s) (descOf s (moverOf s k).desc).next).st =
      (if descValid (descOf s (descOf s (moverOf s k).desc).next) then 1 else 3) ∧
    (descOf (moveDone k s) (moverOf s k).desc).st = 2 := by
  rw [moveDone_eq h hv, if_pos hn, descOf_completed_ne hne]
  obtain ⟨hdesc, hst⟩ := moverOf_startMover k (descOf s (moverOf s k).desc).next
    (descOf s (descOf s (moverOf s k).desc).next) (completed k s)
  exact ⟨hdesc, hst, descOf_startMover_self .., by rw [descOf_startMover_ne hne.symm, descOf_completed_self]⟩

theorem exec_descriptorComplete (hk : k < 16) (h : (moverOf s k).st = 1 ∨ (moverOf s k).st = 3)
    (hv : descValid (descOf s (moverOf s k).desc) = true) : exec (.descriptorComplete dt k) s =
      .next (if k = 12 then snapshotOut true (moveDone k (advance dt s)) else moveDone k (advance dt s)) := by
  simp [exec, execDescriptorComplete, hk, h, hv]

theorem exec_descriptorComplete_rejected (hk : k < 16) (hv : descValid (descOf s (moverOf s k).desc) = false) :
    exec (.descriptorComplete dt k) s = .next (advance dt s) := by
  simp [exec, execDescriptorComplete, hk, hv]

/-! ## CHANNEL_HALT -/

theorem exec_channelHalt_first {info : HaltInfo} (hk : k < 16) (h : (moverOf s k).st = 1)
    (hv : descValid (descOf s (moverOf s k).desc) = true) :
    exec (.channelHalt dt k info) s = .next (haltMover k info.write info.stall info.addr (advance dt s)) := by
  simp [exec, execChannelHalt, hk, h, hv]

theorem exec_channelHalt_again {info : HaltInfo} (hk : k < 16) (h : (moverOf s k).st = 3)
    (ha : (moverOf s k).addr = info.addr % 2 ^ 48) (hv : descValid (descOf s (moverOf s k).desc) = true) :
    exec (.channelHalt dt k info) s = .next (abandonUse k info.nandFailed
      (moveAbandon k info.addr (haltMover k info.write info.stall info.addr (advance dt s)))) := by
  simp [exec, execChannelHalt, hk, h, hv, ha]

theorem exec_channelHalt_rejected {info : HaltInfo} (hk : k < 16) (h : (moverOf s k).st = 1 ∨ (moverOf s k).st = 3)
    (hv : descValid (descOf s (moverOf s k).desc) = false) :
    exec (.channelHalt dt k info) s = .next (abandonUse k false (moveAbandon k (moverOf s k).addr
      (haltMover k (moverOf s k).write false (moverOf s k).addr (advance dt s)))) := by
  simp [exec, execChannelHalt, hk, h, hv]

/-! ## The abandoned descriptor -/

theorem abandonments_ne_logOverwrites (k : Nat) : counterKey (.abandonments k) ≠ counterKey .logOverwrites := by
  simp only [counterKey]
  omega

theorem abandonments_ne_halts (k j : Nat) : counterKey (.abandonments k) ≠ counterKey (.halts j) := by
  simp only [counterKey]
  omega

theorem abandonments_ne_dumpsSkipped (k : Nat) : counterKey (.abandonments k) ≠ counterKey .dumpsSkipped := by
  simp only [counterKey]
  omega

theorem dumpsSkipped_ne_logOverwrites : counterKey .dumpsSkipped ≠ counterKey .logOverwrites := by decide

theorem dumpsSkipped_ne_halts (j : Nat) : counterKey .dumpsSkipped ≠ counterKey (.halts j) := by
  simp only [counterKey]
  omega

/-- `t` is `s` with the descriptor of channel `k` halted once more and abandoned (R415). -/
structure Abandons (k : Nat) (s t : State) : Prop where
  frame : t = { s with dma := t.dma, log := t.log }
  snapshots : t.dma.snapshots = s.dma.snapshots
  idle : (moverOf t k).st = 0
  desc : (descOf t (moverOf s k).desc).st = 4
  counted : counterOf t (.abandonments k) = counterNext (.abandonments k) (counterOf s (.abandonments k)) 1
  skipped : counterOf t .dumpsSkipped = counterOf s .dumpsSkipped

theorem abandons_haltMover (k a addr : Nat) (write stall : Bool) (s : State) :
    Abandons k s (moveAbandon k a (haltMover k write stall addr s)) := by
  have hm := moves_haltMover k write stall addr s
  have hdesc : (moverOf (haltMover k write stall addr s) k).desc = (moverOf s k).desc := by
    rw [moverOf_haltMover_self]
  generalize haltMover k write stall addr s = u at hm hdesc ⊢
  refine ⟨?_, ?_, ?_, ?_, ?_, ?_⟩
  · rw [hm.frame, moveAbandon, logEvent_eq]
    rfl
  · rw [← hm.snapshots, moveAbandon, logEvent_eq]
    rfl
  · simp [moveAbandon]
  · simp [moveAbandon, hdesc]
  · rw [← hm.counters _ (abandonments_ne_logOverwrites k) (abandonments_ne_halts k), moveAbandon]
    exact counterOf_count_logEvent (abandonments_ne_logOverwrites k) ..
  · rw [← hm.counters _ dumpsSkipped_ne_logOverwrites dumpsSkipped_ne_halts, moveAbandon,
      counterOf_count_ne _ _ _ _ (abandonments_ne_dumpsSkipped k).symm,
      counterOf_logEvent _ _ _ _ _ _ dumpsSkipped_ne_logOverwrites]
    rfl

end Sys2Proof.Proofs
end

section
/-! What the recorder's next job leaves: links, survey, readout, bad blocks, abandonments; and where it touches blocks. -/

namespace Sys2Proof.Laws

open Sys2Proof Sys2Proof.Machine Sys2Proof.Proofs

/-- What an abandonment at channel `k` settles and the recorder's next job leaves. -/
structure AnswerView where
  link : Link
  survey : Survey
  readout : Option Readout
  factory : List Nat
  grown : List Nat
  abandonments : Nat

/-- That part of a state. -/
def answerView (k : Nat) (s : State) : AnswerView :=
  ⟨s.link, s.survey, s.recd.readout, s.recd.factory, s.recd.grown, counterOf s (.abandonments k)⟩

/-- It with the blocks, their scrub and the open segment. -/
def shelfView (k : Nat) (s : State) : AnswerView × Table Block × Option Scrub :=
  (answerView k s, s.recd.blocks, s.recd.scrubbing)

variable {k : Nat} {s t : State}

/-! ## Parts of the state -/

@[simp] theorem shelfView_draw (k n : Nat) (s : State) : shelfView k (draw n s).2 = shelfView k s := rfl
@[simp] theorem shelfView_norStart (k : Nat) (o : NorOp) (s : State) : shelfView k (norStart o s) = shelfView k s := rfl

@[simp] theorem shelfView_modRec {f : Recorder → Recorder} (hr : (f s.recd).readout = s.recd.readout)
    (hf : (f s.recd).factory = s.recd.factory) (hg : (f s.recd).grown = s.recd.grown) (hb : (f s.recd).blocks = s.recd.blocks)
    (hs : (f s.recd).scrubbing = s.recd.scrubbing) : shelfView k (modRec f s) = shelfView k s := by
  simp only [shelfView, answerView, modRec, hr, hf, hg, hb, hs]
  rfl

@[simp] theorem answerView_modRec {f : Recorder → Recorder} (hr : (f s.recd).readout = s.recd.readout)
    (hf : (f s.recd).factory = s.recd.factory) (hg : (f s.recd).grown = s.recd.grown) :
    answerView k (modRec f s) = answerView k s := by
  simp only [answerView, modRec, hr, hf, hg]
  rfl

@[simp] theorem answerView_draw (k n : Nat) (s : State) : answerView k (draw n s).2 = answerView k s := rfl
@[simp] theorem answerView_modBlock (k b : Nat) (f : Block → Block) (s : State) :
    answerView k (modBlock b f s) = answerView k s := rfl

theorem Moves.shelfView_eq {n : Nat} (h : Moves n s t) (k : Nat) : shelfView k t = shelfView k s := by
  simp only [shelfView, answerView, h.link, h.survey, h.recd,
    h.counters _ (abandonments_ne_logOverwrites k) (abandonments_ne_halts k)]

@[simp] theorem shelfView_moveStart (k n src dst len : Nat) (s : State) :
    shelfView k (moveStart n src dst len s) = shelfView k s := (moves_moveStart ..).shelfView_eq k

@[simp] theorem answerView_moveStart (k n src dst len : Nat) (s : State) :
    answerView k (moveStart n src dst len s) = answerView k s := congrArg Prod.fst (shelfView_moveStart ..)

/-! ## Records of the index -/

@[simp] theorem shelfView_sealPage (k : Nat) (hdr body : List Byte) (s : State) :
    shelfView k (sealPage hdr body s).2 = shelfView k s := rfl

@[simp] theorem shelfView_journalEntry (k kind : Nat) (i : Incident) (s : State) :
    shelfView k (journalEntry kind i s) = shelfView k s := by
  simp only [journalEntry]
  split <;> simp

@[simp] theorem shelfView_tableRecord (k : Nat) (s : State) : shelfView k (tableRecord s).2 = shelfView k s := rfl

@[simp] theorem shelfView_tableWrite (k : Nat) (s : State) : shelfView k (tableWrite s) = shelfView k s := by
  simp [tableWrite]

@[simp] theorem shelfView_modIncident (k n : Nat) (f : Incident → Incident) (s : State) :
    shelfView k (modIncident n f s) = shelfView k s := by
  simp [modIncident]

@[simp] theorem shelfView_countSegments (k n : Nat) (s : State) : shelfView k (countSegments n s) = shelfView k s := by
  simp [countSegments]

@[simp] theorem shelfView_phaseWork (k : Nat) (s : State) : shelfView k (phaseWork s) = shelfView k s := by
  simp only [phaseWork]
  (repeat' split) <;> simp

theorem answerView_tableWrite (k : Nat) (s : State) : answerView k (tableWrite s) = answerView k s :=
  congrArg Prod.fst (shelfView_tableWrite k s)
@[simp] theorem answerView_phaseWork (k : Nat) (s : State) : answerView k (phaseWork s) = answerView k s :=
  congrArg Prod.fst (shelfView_phaseWork k s)

/-! ## The open segment -/

@[simp] theorem shelfView_loadSeg (k : Nat) (s : State) : shelfView k (loadSeg s) = shelfView k s := by
  unfold loadSeg
  split
  · rfl
  · split
    · rfl
    · simp only [putSource]
      refine shelfView_modRec ?_ ?_ ?_ ?_ ?_ <;> split <;> rfl

@[simp] theorem answerView_loadSeg (k : Nat) (s : State) : answerView k (loadSeg s) = answerView k s :=
  congrArg Prod.fst (shelfView_loadSeg k s)

@[simp] theorem answerView_dropCopy (k c : Nat) (s : State) : answerView k (dropCopy c s) = answerView k s := by
  simp [dropCopy]

@[simp] theorem answerView_letGo (k b : Nat) (s : State) : answerView k (letGo b s) = answerView k s := by
  simp only [letGo]
  split
  · simp
  · split <;> simp

@[simp] theorem answerView_dropOldest (k : Nat) (s : State) : answerView k (dropOldest s) = answerView k s := by
  unfold dropOldest
  split
  · rfl
  · split <;> simp

@[simp] theorem answerView_openOn (k kind b : Nat) (s : State) : answerView k (openOn kind b s) = answerView k s := by
  simp [openOn]

@[simp] theorem answerView_openIfNeeded (k : Nat) (s : State) : answerView k (openIfNeeded s) = answerView k s := by
  have hroom : ∀ c : Prop, [Decidable c] → answerView k (if c then dropOldest s else s) = answerView k s := by
    intro c _
    split <;> simp
  simp only [openIfNeeded]
  split
  · rfl
  · split
    · split <;> simp
    · split <;> simp [hroom]

/-! ## The next job -/

@[simp] theorem answerView_background (k : Nat) (s : State) : answerView k (background s) = answerView k s := by
  simp only [background]
  (repeat' split) <;> simp

@[simp] theorem answerView_segMove (k : Nat) (j : NandJob) (s : State) : answerView k (segMove j s) = answerView k s := by
  unfold segMove
  split <;> simp

@[simp] theorem answerView_nandNext (k : Nat) (s : State) : answerView k (nandNext s) = answerView k s := by
  simp only [nandNext]
  split <;> simp

/-- The instant of a job is noted. -/
theorem stampJob_eq (s t : State) : stampJob s t = modRec (fun r => { r with jobAt := (stampJob s t).recd.jobAt }) t := by
  unfold stampJob modRec
  dsimp only
  split <;> rfl

@[simp] theorem answerView_nandStart (k : Nat) (s : State) : answerView k (nandStart s) = answerView k s := by
  unfold nandStart
  split
  · rfl
  · rw [stampJob_eq]
    simp

/-! ## Failures of the NAND -/

theorem isBad_congr (h : answerView k t = answerView k s) (b : Nat) : isBad t b = isBad s b := by
  have hf : t.recd.factory = s.recd.factory := congrArg AnswerView.factory h
  have hg : t.recd.grown = s.recd.grown := congrArg AnswerView.grown h
  rw [isBad, isBad, hf, hg]

end Sys2Proof.Laws
end

section
/-! What an abandoned descriptor served: dumps, packets, the open segment, a scrub's copy, a readout (R415). -/

namespace Sys2Proof.Proofs

open Sys2Proof Sys2Proof.Machine Sys2Proof.Laws

variable {k : Nat} {s t : State}

/-! ## Dump copies and dump packets -/

theorem copyDone_eq (x : Nat) (s : State) :
    copyDone x s = { s with survey := { s.survey with ctxs := (copyDone x s).survey.ctxs } } := by
  unfold copyDone
  dsimp only
  split
  · unfold freeExtra
    split <;> rfl
  · rfl

/-- The dump copy at the head of the queue has been skipped. -/
def dumpSkipped (x p : Nat) (r : List (Nat × Nat × Nat × Nat)) (s : State) : State :=
  count .dumpsSkipped 1 (copyDone (ownerOf s x) (freePool p (modSurvey (fun v => { v with dumpQueue := r }) s)))

theorem skipDump_cons {x p a b : Nat} {r : List (Nat × Nat × Nat × Nat)} (h : s.survey.dumpQueue = (x, p, a, b) :: r)
    (hp : p % 4 = k) : ∃ n, Moves n (dumpSkipped x p r s) (skipDump k s) := by
  unfold skipDump
  rw [h]
  dsimp only
  rw [if_neg (not_not.2 hp)]
  exact exists_moves_dumpMove _

theorem dumpSkipped_eq (x p : Nat) (r : List (Nat × Nat × Nat × Nat)) (s : State) : dumpSkipped x p r s =
    count .dumpsSkipped 1 { s with survey := { s.survey with
      dumpQueue := r, dumpHeld := Table.del s.survey.dumpHeld p, dumpUsed := s.survey.dumpUsed.filter (· ≠ p)
      ctxs := (dumpSkipped x p r s).survey.ctxs } } := by
  unfold dumpSkipped
  rw [copyDone_eq]
  rfl

/-- Dump packet `p` has left its queue, and is counted as skipped. -/
def packetSkipped (p : Pkt) (s : State) : State :=
  count .dumpsSkipped 1 (modLink (fun l => { l with q5 := l.q5.erase p }) s)

theorem skipPacket_none_pool {p : Pkt} (h : s.link.q5.find? (fun p => decide (dumpChannel p = some k)) = some p)
    (hp : p.pool = none) : skipPacket k s = packetSkipped p s := by
  unfold skipPacket
  rw [h]
  dsimp only
  rw [hp]
  rfl

theorem skipPacket_pool {p : Pkt} {x : Nat} (h : s.link.q5.find? (fun p => decide (dumpChannel p = some k)) = some p)
    (hp : p.pool = some x) : skipPacket k s = freePool x (packetSkipped p s) := by
  unfold skipPacket
  rw [h]
  dsimp only
  rw [hp]
  rfl

/-- Its pool context, if it names one, is free (R158). -/
theorem skipPacket_some {p : Pkt} (h : s.link.q5.find? (fun p => decide (dumpChannel p = some k)) = some p) :
    skipPacket k s = { packetSkipped p s with survey := (skipPacket k s).survey } ∧
      ∀ x, p.pool = some x → x ∉ (skipPacket k s).survey.dumpUsed := by
  cases hp : p.pool with
  | none =>
    rw [skipPacket_none_pool h hp]
    exact ⟨rfl, nofun⟩
  | some y =>
    rw [skipPacket_pool h hp]
    exact ⟨rfl, fun x hx => by simp [freePool, Option.some.inj hx]⟩

/-! ## A failed page program -/

theorem untake_eq (l : List Body) (r : Recorder) :
    untake l r = { r with closing := (untake l r).closing, staging := (untake l r).staging } := by
  unfold untake
  split <;> rfl

/-- The open segment ends at its last verified page (R406). -/
theorem programFailed_eq {g : OpenSeg} (h : s.recd.seg = some g) : ∃ closing staging, programFailed s =
    spoilPage g.block (modRec (fun r => { r with
      closing := closing, staging := staging, seg := some { g with taken := [], skip := 0, ending := true } }) s) := by
  unfold programFailed
  rw [h]
  dsimp only [modRec]
  rw [untake_eq]
  exact ⟨_, _, rfl⟩

theorem segMove_recd (j : NandJob) (s : State) : (segMove j s).recd = s.recd := by
  unfold segMove
  split
  · exact (moves_moveStart ..).recd
  · exact (moves_moveStart ..).recd
  · exact (moves_moveStart ..).recd
  · rfl

/-- A segment that ends has a job of its own before any other. -/
theorem segJob_ending {g : OpenSeg} (h : s.recd.seg = some g) (he : g.ending = true) : ∃ j, segJob s = some j := by
  unfold segJob
  rw [h]
  dsimp only
  rw [if_pos he]
  split
  · exact ⟨_, rfl⟩
  · split <;> exact ⟨_, rfl⟩

theorem nandNext_ending {g : OpenSeg} (h : s.recd.seg = some g) (he : g.ending = true) :
    ∃ j, nandNext s = segMove j (modRec (fun r => { r with job := some j }) s) := by
  have hopen : openIfNeeded s = s := if_pos (by rw [h]; rfl)
  have hload : loadSeg s = s := by
    unfold loadSeg
    rw [h]
    exact if_pos he
  have hphase : phaseWork s = s := if_pos (by simp [h, he])
  obtain ⟨j, hj⟩ := segJob_ending h he
  refine ⟨j, ?_⟩
  unfold nandNext
  rw [hopen, hload, hphase]
  dsimp only
  rw [hj]

theorem seg_nandStart_ending {g : OpenSeg} (h : s.recd.seg = some g) (he : g.ending = true) :
    (nandStart s).recd.seg = some g := by
  obtain ⟨j, hj⟩ := nandNext_ending h he
  unfold nandStart
  split
  · exact h
  · rw [stampJob_eq, hj]
    simp only [modRec, segMove_recd]
    exact h

/-! ## A block retired -/

theorem seg_retireBlock (b : Nat) (s : State) : (retireBlock b s).recd.seg = s.recd.seg := by
  unfold retireBlock
  split
  · rfl
  · simp [tableWrite, tableRecord, norStart, modNor, modRec, draw, count]

/-- A block retired is bad (R406). -/
theorem isBad_retireBlock (b : Nat) (s : State) : isBad (retireBlock b s) b = true := by
  unfold retireBlock
  split
  · assumption
  · rw [isBad_congr (answerView_tableWrite 0 _)]
    simp [isBad, modRec, count]

theorem abandonments_retireBlock (k b : Nat) (s : State) :
    counterOf (retireBlock b s) (.abandonments k) = counterOf s (.abandonments k) := by
  have hg : counterKey (.abandonments k) ≠ counterKey .grownBad := by
    simp only [counterKey]
    omega
  unfold retireBlock
  split
  · rfl
  · refine (congrArg AnswerView.abandonments (answerView_tableWrite k _)).trans ?_
    simp only [answerView]
    rw [counterOf_count_ne _ _ _ _ hg, counterOf_logEvent _ _ _ _ _ _ (abandonments_ne_logOverwrites k)]
    rfl

/-! ## A scrub's copy given up -/

/-- A free block that is picked stands free (R406). -/
theorem st_of_pickFree {b : Nat} (h : pickFree s = some b) : (blockOf s b).st = 0 := by
  have hmem : ∀ (l : List Nat) (a : Option Nat), l.foldl (fun a b => match a with
      | none => some b
      | some c => if (blockOf s b).erases < (blockOf s c).erases then some b else some c) a = some b →
        a = some b ∨ b ∈ l := by
    intro l
    induction l with
    | nil => exact fun a h => .inl h
    | cons y l ih =>
      intro a h
      rw [List.foldl_cons] at h
      obtain hy | hl := ih _ h
      · cases a with
        | none => exact .inr (List.mem_cons.2 (.inl (Option.some.inj hy).symm))
        | some c =>
          dsimp only at hy
          split at hy
          · exact .inr (List.mem_cons.2 (.inl (Option.some.inj hy).symm))
          · exact .inl hy
      · exact .inr (List.mem_cons_of_mem _ hl)
  obtain hb | hb := hmem _ _ h
  · cases hb
  · have hfree := (List.mem_filter.1 hb).2
    simp only [Bool.and_eq_true, decide_eq_true_eq] at hfree
    exact hfree.1

/-- In `t` the copy of scrub `x` is to be erased, and its source stands as in `s`. -/
structure CopyDropped (x : Scrub) (s t : State) : Prop where
  copy_header : (blockOf t x.copy).header = []
  copy_st : (blockOf t x.copy).st = if isBad t x.copy then 3 else 4
  source_header : (blockOf t x.source).header = (blockOf s x.source).header
  source_body : (blockOf t x.source).body = (blockOf s x.source).body

namespace CopyDropped

variable {x : Scrub} {u : State}

theorem of_blocks (h : CopyDropped x s t) (hb : u.recd.blocks = t.recd.blocks) (hbad : ∀ b, isBad u b = isBad t b) :
    CopyDropped x s u := by
  have hblock : ∀ b, blockOf u b = blockOf t b := fun b => by rw [blockOf, hb, blockOf]
  exact ⟨by rw [hblock, h.copy_header], by rw [hblock, hbad, h.copy_st], by rw [hblock, h.source_header],
    by rw [hblock, h.source_body]⟩

theorem congr (h : CopyDropped x s t) (hv : shelfView 0 u = shelfView 0 t) : CopyDropped x s u :=
  h.of_blocks (congrArg (·.2.1) hv) (isBad_congr (congrArg Prod.fst hv))

theorem modBlock {b : Nat} {f : Block → Block} (h : CopyDropped x s t) (hh : ∀ v, (f v).header = v.header)
    (hb : ∀ v, (f v).body = v.body) (hst : b = x.copy → ∀ v, (f v).st = if isBad t x.copy then 3 else 4) :
    CopyDropped x s (Machine.modBlock b f t) := by
  have hbad : isBad (Machine.modBlock b f t) = isBad t := rfl
  have hself : blockOf (Machine.modBlock b f t) b = f (blockOf t b) := Table.getD_put_self ..
  have hne : ∀ n, n ≠ b → blockOf (Machine.modBlock b f t) n = blockOf t n := fun n hn => Table.getD_put_ne _ _ _ _ hn _
  have hheader : ∀ n, (blockOf (Machine.modBlock b f t) n).header = (blockOf t n).header := by
    intro n
    by_cases hn : n = b
    · rw [hn, hself, hh]
    · rw [hne n hn]
  have hbody : ∀ n, (blockOf (Machine.modBlock b f t) n).body = (blockOf t n).body := by
    intro n
    by_cases hn : n = b
    · rw [hn, hself, hb]
    · rw [hne n hn]
  refine ⟨by rw [hheader, h.copy_header], ?_, by rw [hheader, h.source_header], by rw [hbody, h.source_body]⟩
  by_cases hc : b = x.copy
  · rw [hbad, ← hst hc (blockOf t b), ← hc, hself]
  · rw [hne _ (Ne.symm hc), h.copy_st, hbad]

/-- A free block is another one. -/
theorem ne_pickFree {b : Nat} (h : CopyDropped x s t) (hb : pickFree t = some b) : b ≠ x.copy := by
  have hst := st_of_pickFree hb
  have hcopy := h.copy_st
  rintro rfl
  rw [hst] at hcopy
  split at hcopy <;> cases hcopy

/-- With no scrub under way, a block let go is not the source of one. -/
theorem letGo (h : CopyDropped x s t) (hi : t.recd.scrubbing = none) (b : Nat) :
    CopyDropped x s (Machine.letGo b t) ∧ (Machine.letGo b t).recd.scrubbing = none := by
  have hgo : Machine.letGo b t = Machine.modBlock b (fun v => { v with st := if isBad t b then 3 else 4, incident := 0 })
      (modRec (fun r => { r with scrubs := r.scrubs.filter (· ≠ b) }) t) := by
    unfold Machine.letGo
    dsimp only [modRec, Machine.modBlock, setBlock]
    rw [hi]
  rw [hgo]
  refine ⟨(h.congr ?_).modBlock (fun _ => rfl) (fun _ => rfl) ?_, hi⟩
  · exact shelfView_modRec rfl rfl rfl rfl rfl
  · rintro rfl v
    rfl

theorem dropOldest (h : CopyDropped x s t) (hi : t.recd.scrubbing = none) :
    CopyDropped x s (Machine.dropOldest t) ∧ (Machine.dropOldest t).recd.scrubbing = none := by
  unfold Machine.dropOldest
  split
  · exact ⟨h, hi⟩
  · split
    · next b r _ _ =>
      exact (h.congr (u := modRec (fun v => { v with ring := r }) t) (shelfView_modRec rfl rfl rfl rfl rfl)).letGo hi b
    · exact ⟨h, hi⟩

theorem openOn {b : Nat} (h : CopyDropped x s t) (hi : t.recd.scrubbing = none) (hb : b ≠ x.copy) (kind : Nat) :
    CopyDropped x s (Machine.openOn kind b t) ∧ (Machine.openOn kind b t).recd.scrubbing = none := by
  unfold Machine.openOn
  refine ⟨congr (modBlock (b := b) (f := fun v => { v with st := kind }) (h.congr ?_) (fun _ => rfl) (fun _ => rfl)
    (fun hc => absurd hc hb)) (shelfView_modRec rfl rfl rfl rfl rfl), hi⟩
  rfl

theorem openIfNeeded (h : CopyDropped x s t) (hi : t.recd.scrubbing = none) :
    CopyDropped x s (Machine.openIfNeeded t) ∧ (Machine.openIfNeeded t).recd.scrubbing = none := by
  have hroom : ∀ c : Prop, [Decidable c] → CopyDropped x s (if c then Machine.dropOldest t else t) ∧
      (if c then Machine.dropOldest t else t).recd.scrubbing = none := by
    intro c _
    split
    · exact h.dropOldest hi
    · exact ⟨h, hi⟩
  unfold Machine.openIfNeeded
  split
  · exact ⟨h, hi⟩
  · split
    · split
      · exact ⟨h, hi⟩
      · exact ⟨h.congr (shelfView_modRec rfl rfl rfl rfl rfl), hi⟩
    · next kind _ =>
      obtain ⟨hr, hri⟩ := hroom (kind = 1)
      dsimp only
      split
      · exact ⟨hr, hri⟩
      · next b hb => exact hr.openOn hri (hr.ne_pickFree hb) kind

/-- The next scrub copies to a free block. -/
theorem background (h : CopyDropped x s t) (hi : t.recd.scrubbing = none) : CopyDropped x s (Machine.background t) := by
  unfold Machine.background
  split
  · exact h.congr ((shelfView_moveStart ..).trans (shelfView_modRec rfl rfl rfl rfl rfl))
  · split
    · next y hy =>
      have hfree : pickFree t = some y.copy := by
        unfold scrubNext at hy
        rw [hi] at hy
        dsimp only at hy
        split at hy
        · next c _ hc =>
          cases hy
          exact hc
        · cases hy
      have hjob := h.of_blocks (u := modRec (fun r => { r with job := some .copy, scrubbing := some y }) t) rfl fun _ => rfl
      exact (hjob.modBlock (f := fun v => { v with st := 5 }) (fun _ => rfl) (fun _ => rfl) fun hc =>
        absurd hc (h.ne_pickFree hfree)).congr (shelfView_moveStart ..)
    · split
      · split
        · exact h.congr (shelfView_modRec rfl rfl rfl rfl rfl)
        · exact h
      · exact h

theorem segMove (h : CopyDropped x s t) (j : NandJob) : CopyDropped x s (Machine.segMove j t) :=
  h.of_blocks (by rw [segMove_recd]) (isBad_congr (answerView_segMove 0 j t))

theorem nandNext (h : CopyDropped x s t) (hi : t.recd.scrubbing = none) : CopyDropped x s (Machine.nandNext t) := by
  have hview : ∀ u, shelfView 0 (phaseWork (loadSeg u)) = shelfView 0 u := by simp
  obtain ⟨ho, hoi⟩ := h.openIfNeeded hi
  have hp := ho.congr (hview _)
  have hpi := (congrArg (·.2.2) (hview (Machine.openIfNeeded t))).trans hoi
  unfold Machine.nandNext
  dsimp only
  split
  · exact hp.background hpi
  · next j _ =>
    have hjob := hp.congr (u := modRec (fun r => { r with job := some j }) _) (shelfView_modRec rfl rfl rfl rfl rfl)
    exact hjob.segMove j

theorem nandStart (h : CopyDropped x s t) (hi : t.recd.scrubbing = none) : CopyDropped x s (Machine.nandStart t) := by
  unfold Machine.nandStart
  split
  · exact h
  · rw [stampJob_eq]
    exact (h.nandNext hi).congr (shelfView_modRec rfl rfl rfl rfl rfl)

end CopyDropped

/-- A copy given up is to be erased (R406). -/
theorem copyDropped_dropCopy {x : Scrub} (h : x.source ≠ x.copy) (s : State) : CopyDropped x s (dropCopy x.copy s) := by
  have hself : blockOf (dropCopy x.copy s) x.copy =
      { blockOf s x.copy with st := if isBad s x.copy then 3 else 4, header := [] } := Table.getD_put_self ..
  have hsource : blockOf (dropCopy x.copy s) x.source = blockOf s x.source := Table.getD_put_ne _ _ _ _ h _
  exact ⟨by rw [hself], by rw [hself]; rfl, by rw [hsource], by rw [hsource]⟩

/-! ## Each channel's user -/

theorem abandonUse_dump (hk : k < 4) (nf : Bool) (s : State) : abandonUse k nf s = skipDump k s := if_pos hk

theorem abandonUse_packet (hlo : 4 ≤ k) (hup : k < 8) (nf : Bool) (s : State) : abandonUse k nf s = skipPacket k s := by
  rw [abandonUse, if_neg (by omega), if_pos hup]

theorem abandonUse_other (hk : k = 11 ∨ 13 ≤ k) (nf : Bool) (s : State) : abandonUse k nf s = s := by
  rw [abandonUse, if_neg (by omega), if_neg (by omega), if_neg (by omega), if_neg (by omega), if_neg (by omega),
    if_neg (by omega)]

theorem abandonUse_snapshot (nf : Bool) (s : State) : abandonUse 12 nf s = snapshotOut false s := rfl

/-- The job given up at channel 8, and the block that the NAND failed retired. -/
def jobFailed (nf : Bool) (b : Nat) (s : State) : State :=
  if nf then retireBlock b (modRec (fun r => { r with job := none }) s) else modRec (fun r => { r with job := none }) s

theorem abandonUse_program {g : OpenSeg} (hj : s.recd.job = some .program) (hg : s.recd.seg = some g) (nf : Bool) :
    abandonUse 8 nf s = nandStart (programFailed (jobFailed nf g.block s)) := by
  simp [abandonUse, hj, hg, jobFailed]

theorem abandonUse_scrub {x : Scrub} (h : s.recd.scrubbing = some x) (nf : Bool) : abandonUse 9 nf s =
    nandStart (dropCopy x.copy (modRec (fun r => { r with job := if r.job = some .copy then none else r.job }) s)) := by
  simp [abandonUse, h]

/-- The readout answered, and its read of the NAND given up. -/
def readoutEnded (r : Readout) (s : State) : State :=
  modRec (fun x => { x with readout := none, job := (match x.job with | some (.read _ _) => none | j => j) })
    (readoutAnswer r.echo 4 r.seq r.offset s)

theorem abandonUse_readout {r : Readout} (h : s.recd.readout = some r) (nf : Bool) :
    abandonUse 10 nf s = nandStart (readoutEnded r s) := by
  unfold abandonUse
  simp only [h]
  rfl

end Sys2Proof.Proofs
end

section
/-! Movement channels, settled: completion, halt, abandonment (R413 to R416). -/

namespace Sys2Proof.Proofs

open Sys2Proof Sys2Proof.Machine Sys2Proof.Laws

variable {dt k : Nat} {nf : Bool} {s t u : State}

/-! ## An abandonment is counted once -/

theorem abandonments_of_view (h : answerView k t = answerView k s) :
    counterOf t (.abandonments k) = counterOf s (.abandonments k) := congrArg AnswerView.abandonments h

theorem answerView_programFailed (k : Nat) (s : State) : answerView k (programFailed s) = answerView k s := by
  unfold programFailed
  split
  · rfl
  · refine (answerView_modBlock ..).trans (answerView_modRec ?_ ?_ ?_) <;> rw [untake_eq]

theorem answerView_headerFailed (k : Nat) (s : State) : answerView k (headerFailed s) = answerView k s := by
  unfold headerFailed
  split
  · rfl
  · refine (answerView_letGo ..).trans (answerView_modRec ?_ ?_ ?_) <;> rw [untake_eq]

theorem abandonments_jobFailed (k : Nat) (nf : Bool) (b : Nat) (s : State) :
    counterOf (jobFailed nf b s) (.abandonments k) = counterOf s (.abandonments k) := by
  unfold jobFailed
  split
  · exact abandonments_retireBlock ..
  · rfl

theorem abandonments_skipDump (n k : Nat) (s : State) :
    counterOf (skipDump n s) (.abandonments k) = counterOf s (.abandonments k) := by
  cases h : s.survey.dumpQueue with
  | nil => simp only [skipDump, h]
  | cons e r =>
    obtain ⟨x, p, a, b⟩ := e
    by_cases hp : p % 4 = n
    · obtain ⟨m, hm⟩ := skipDump_cons h hp
      rw [hm.counters _ (abandonments_ne_logOverwrites k) (abandonments_ne_halts k), dumpSkipped_eq,
        counterOf_count_ne _ _ _ _ (abandonments_ne_dumpsSkipped k)]
      rfl
    · simp only [skipDump, h, ne_eq, hp, not_false_eq_true, if_true]

theorem abandonments_packetSkipped (k : Nat) (p : Pkt) (s : State) :
    counterOf (packetSkipped p s) (.abandonments k) = counterOf s (.abandonments k) :=
  counterOf_count_ne _ _ _ _ (abandonments_ne_dumpsSkipped k)

theorem abandonments_skipPacket (n k : Nat) (s : State) :
    counterOf (skipPacket n s) (.abandonments k) = counterOf s (.abandonments k) := by
  cases h : s.link.q5.find? (fun p => decide (dumpChannel p = some n)) with
  | none => simp only [skipPacket, h]
  | some p =>
    rw [(skipPacket_some h).1]
    exact abandonments_packetSkipped k p s

theorem abandonments_readoutEnded (k : Nat) (r : Readout) (s : State) :
    counterOf (readoutEnded r s) (.abandonments k) = counterOf s (.abandonments k) := counterOf_due3 ..

/-- What the channel's user loses is no second abandonment. -/
theorem abandonments_abandonUse (n k : Nat) (nf : Bool) (s : State) :
    counterOf (abandonUse n nf s) (.abandonments k) = counterOf s (.abandonments k) := by
  have hstart : ∀ u, counterOf (nandStart u) (.abandonments k) = counterOf u (.abandonments k) :=
    fun u => abandonments_of_view (answerView_nandStart k u)
  unfold abandonUse
  split
  · exact abandonments_skipDump ..
  · split
    · exact abandonments_skipPacket ..
    · split
      · split
        · next g _ _ =>
          exact (hstart _).trans ((abandonments_of_view (answerView_programFailed ..)).trans
            (abandonments_jobFailed k nf g.block s))
        · next g _ _ =>
          exact (hstart _).trans ((abandonments_of_view (answerView_headerFailed ..)).trans
            (abandonments_jobFailed k nf g.block s))
        · rfl
      · split
        · split
          · exact (hstart _).trans (abandonments_of_view (answerView_dropCopy ..))
          · rfl
        · split
          · split
            · next r _ => exact (hstart _).trans (abandonments_readoutEnded k r s)
            · rfl
          · split
            · exact counterOf_snapshotOut (abandonments_ne_logOverwrites k) (abandonments_ne_halts k) false s
            · rfl

/-! ## What each user is left with -/

/-- A second halt at the same address, or the halt of a rejected descriptor, abandons it (R415). -/
theorem exec_channelHalt_abandons {info : HaltInfo} (hk : k < 16)
    (h : ((moverOf s k).st = 3 ∧ (moverOf s k).addr = info.addr % 2 ^ 48 ∧ descValid (descOf s (moverOf s k).desc) = true) ∨
      (((moverOf s k).st = 1 ∨ (moverOf s k).st = 3) ∧ descValid (descOf s (moverOf s k).desc) = false)) :
    ∃ nf u, exec (.channelHalt dt k info) s = .next (abandonUse k nf u) ∧ Abandons k (advance dt s) u ∧
      (descValid (descOf s (moverOf s k).desc) = true → nf = info.nandFailed) := by
  obtain ⟨hst, ha, hv⟩ | ⟨hst, hv⟩ := h
  · exact ⟨_, _, exec_channelHalt_again hk hst ha hv, abandons_haltMover .., fun _ => rfl⟩
  · exact ⟨_, _, exec_channelHalt_rejected hk hst hv, abandons_haltMover .., fun h => by rw [hv] at h; cases h⟩

theorem skipDump_settles {e : Nat × Nat × Nat × Nat} {r : List (Nat × Nat × Nat × Nat)} (h : s.survey.dumpQueue = e :: r)
    (he : e.2.1 % 4 = k) : (skipDump k s).survey.dumpQueue = r ∧ e.2.1 ∉ (skipDump k s).survey.dumpUsed ∧
      counterOf (skipDump k s) .dumpsSkipped = counterNext .dumpsSkipped (counterOf s .dumpsSkipped) 1 := by
  obtain ⟨x, p, a, b⟩ := e
  obtain ⟨m, hm⟩ := skipDump_cons h he
  rw [hm.survey, hm.counters _ dumpsSkipped_ne_logOverwrites dumpsSkipped_ne_halts, dumpSkipped_eq, counterOf_count]
  exact ⟨rfl, by simp [count], rfl⟩

theorem skipPacket_settles {p : Pkt} (h : s.link.q5.find? (fun p => decide (dumpChannel p = some k)) = some p) :
    (skipPacket k s).link.q5 = s.link.q5.erase p ∧ (∀ x, p.pool = some x → x ∉ (skipPacket k s).survey.dumpUsed) ∧
      counterOf (skipPacket k s) .dumpsSkipped = counterNext .dumpsSkipped (counterOf s .dumpsSkipped) 1 := by
  obtain ⟨heq, hpool⟩ := skipPacket_some h
  refine ⟨by rw [heq]; rfl, hpool, ?_⟩
  rw [heq]
  exact counterOf_count ..

/-- The open segment ends with nothing taken, and its block is bad where the NAND failed (R406). -/
theorem program_settles {g : OpenSeg} (hj : s.recd.job = some .program) (hg : s.recd.seg = some g) (nf : Bool) :
    (∃ h, (abandonUse 8 nf s).recd.seg = some h ∧ h.block = g.block ∧ h.ending = true ∧ h.taken = []) ∧
      (nf = true → isBad (abandonUse 8 nf s) g.block = true) := by
  have hseg : (jobFailed nf g.block s).recd.seg = some g := by
    unfold jobFailed
    split
    · exact (seg_retireBlock ..).trans hg
    · exact hg
  rw [abandonUse_program hj hg]
  obtain ⟨closing, staging, hfail⟩ := programFailed_eq hseg
  refine ⟨⟨{ g with taken := [], skip := 0, ending := true }, seg_nandStart_ending ?_ rfl, rfl, rfl, rfl⟩, ?_⟩
  · rw [hfail]
    rfl
  · rintro rfl
    rw [isBad_congr ((answerView_nandStart 0 _).trans (answerView_programFailed 0 _))]
    exact isBad_retireBlock ..

theorem scrub_settles {x : Scrub} (hx : s.recd.scrubbing = some x) (hne : x.source ≠ x.copy) (nf : Bool) :
    CopyDropped x s (abandonUse 9 nf s) ∧ ∀ b, isBad (abandonUse 9 nf s) b = isBad s b := by
  rw [abandonUse_scrub hx]
  refine ⟨?_, isBad_congr (k := 0) (by simp)⟩
  obtain ⟨h1, h2, h3, h4⟩ := (copyDropped_dropCopy hne _).nandStart (t := dropCopy x.copy (modRec
    (fun r => { r with job := if r.job = some .copy then none else r.job }) s)) rfl
  exact ⟨h1, h2, h3, h4⟩

theorem readout_settles {r : Readout} (hr : s.recd.readout = some r) (nf : Bool) :
    (abandonUse 10 nf s).recd.readout = none ∧ (linkTakes s = true → s.sec.session ≠ none →
      (abandonUse 10 nf s).link.q3 = s.link.q3 ++ [readoutPkt r.echo 4 r.seq r.offset []]) := by
  rw [abandonUse_readout hr]
  have hview := answerView_nandStart 0 (readoutEnded r s)
  refine ⟨congrArg AnswerView.readout hview, fun hl hs => ?_⟩
  have hlink : (nandStart (readoutEnded r s)).link = (readoutEnded r s).link := congrArg AnswerView.link hview
  have hq : mayQueue (readoutPkt r.echo 4 r.seq r.offset []) s = true := by
    simp [mayQueue, hl, Option.isSome_iff_ne_none.2 hs]
  rw [hlink, readoutEnded, readoutAnswer, due3, if_pos hq]
  rfl

/-! ## The settlement -/

/-- Settles O59: a completion by the descriptor and its chain, a halt by whether it is the first, an abandonment by the
channel's user. -/
theorem movementChannels : Obligations.MovementChannels := by
  unfold Obligations.MovementChannels
  refine ⟨fun dt k s hk h => ?complete, fun dt k info s hk h hv => ?first, fun dt k info s hk h => ?again⟩
  case complete =>
    have hadv : ∀ n, moverOf (advance dt s) n = moverOf s n := fun n => moverOf_advance n dt s
    have hdesc : ∀ n, descOf (advance dt s) n = descOf s n := fun n => descOf_advance n dt s
    have hst : (moverOf (advance dt s) k).st = 1 ∨ (moverOf (advance dt s) k).st = 3 := by rwa [hadv]
    cases hv : descValid (descOf s (moverOf s k).desc) with
    | false => exact ⟨_, exec_descriptorComplete_rejected hk hv, fun n _ => hadv n, fun _ => rfl, fun _ => rfl, nofun⟩
    | true =>
      have hvalid : descValid (descOf (advance dt s) (moverOf (advance dt s) k).desc) = true := by rwa [hadv, hdesc]
      have hm := moves_moveDone k (advance dt s)
      refine ⟨_, exec_descriptorComplete hk h hv, fun n hn => ?_, nofun, fun hne => ?_, fun _ => ⟨fun hne hlast => ?_,
        fun hne hnext hself => ?_, fun w d r h12 hs hl => ?_⟩⟩
      · split
        · next h12 => rw [moverOf_snapshotOut (h12 ▸ hn), hm.others n hn, hadv]
        · rw [hm.others n hn, hadv]
      · rw [if_neg hne]
        exact hm.frame
      · rw [if_neg hne]
        have hdone := moveDone_settles_last hst hvalid (by rwa [hadv, hdesc])
        simpa only [hadv, hdesc] using hdone
      · rw [if_neg hne]
        have hdone := moveDone_settles_chained hst hvalid (by rwa [hadv, hdesc]) (by rwa [hadv, hdesc])
        simpa only [hadv, hdesc] using hdone
      · have hlink := hm.link.trans (advance_link dt s)
        rw [if_pos h12, ← hlink]
        exact snapshotOut_cons (by rw [hm.snapshots, advance_dma, hs]) (by rwa [linkTakes, hlink]) true
  case first =>
    have hm := moves_haltMover k info.write info.stall info.addr (advance dt s)
    refine ⟨_, exec_channelHalt_first hk h hv, ?_, ?_, fun n hn => ?_, ?_, ?_, hm.frame⟩
    · rw [moverOf_haltMover_self, moverOf_advance]
    · have hhalt := descOf_haltMover_st k info.write info.stall info.addr (advance dt s)
      rwa [moverOf_advance] at hhalt
    · rw [hm.others n hn, moverOf_advance]
    · rw [counterOf_halts_haltMover hk, counterOf_advance]
    · rw [hm.counters _ (abandonments_ne_logOverwrites k) (abandonments_ne_halts k), counterOf_advance]
  case again =>
    obtain ⟨nf, u, hexec, hu, hnf⟩ := exec_channelHalt_abandons (dt := dt) hk h
    have hsurvey : u.survey = s.survey := by rw [hu.frame]; exact advance_survey dt s
    have hlink : u.link = s.link := by rw [hu.frame]; exact advance_link dt s
    have hrecd : u.recd = s.recd := by rw [hu.frame]; exact advance_recd dt s
    have hsec : u.sec = s.sec := by rw [hu.frame]; exact advance_sec dt s
    have hsnap : u.dma.snapshots = s.dma.snapshots := by rw [hu.snapshots, advance_dma]
    have hskip : counterOf u .dumpsSkipped = counterOf s .dumpsSkipped := by rw [hu.skipped, counterOf_advance]
    have htakes : linkTakes u = linkTakes s := by rw [linkTakes, hlink, linkTakes]
    refine ⟨_, hexec, ?_, fun hk => ?_, fun e r hk hq he => ?_, fun p hlo hup hp => ?_, fun g hk hj hg => ?_,
      fun x hk hx hne => ?_, fun r hk hr => ?_, fun w d r hk hq hl => ?_⟩
    · rw [abandonments_abandonUse, hu.counted, counterOf_advance]
    · have hidle := hu.desc
      rw [moverOf_advance] at hidle
      rw [abandonUse_other hk]
      exact ⟨hu.idle, hidle, hu.frame⟩
    · rw [abandonUse_dump hk, ← hskip]
      exact skipDump_settles (hsurvey ▸ hq) he
    · rw [abandonUse_packet hlo hup, ← hskip, ← hlink]
      exact skipPacket_settles (hlink ▸ hp)
    · subst hk
      obtain ⟨hseg, hbad⟩ := program_settles (s := u) (by rw [hrecd, hj]) (by rw [hrecd, hg]) nf
      exact ⟨hseg, fun hn hv => hbad ((hnf hv).trans hn)⟩
    · subst hk
      obtain ⟨hd, hbad⟩ := scrub_settles (hrecd ▸ hx) hne nf
      have hblock : ∀ b, blockOf u b = blockOf s b := fun b => by rw [blockOf, hrecd, blockOf]
      have hbad' : isBad (abandonUse 9 nf u) x.copy = isBad s x.copy := by rw [hbad, isBad, hrecd, isBad]
      exact ⟨hd.copy_header, by rw [hd.copy_st, hbad'], by rw [hd.source_header, hblock], by rw [hd.source_body, hblock]⟩
    · subst hk
      rw [← htakes, ← hlink, ← hsec]
      exact readout_settles (hrecd ▸ hr) nf
    · subst hk
      rw [abandonUse_snapshot, ← hlink]
      exact snapshotOut_cons (hsnap ▸ hq) (htakes ▸ hl) false

end Sys2Proof.Proofs
end

section
/-! The packetiser: point packets, trailers and dump copies (R205, R225 to R229, R235, R301). -/

namespace Sys2Proof.Proofs

open Sys2Proof Sys2Proof.Machine Sys2Proof.Laws

variable {dt g β : Nat} {o : SheetOut} {r : List SheetOut} {f : SheetOut → SheetOut} {s t u : State}

/-! ## The link and the sheets -/

theorem linkTakes_iff : linkTakes s = true ↔ s.link.downDeclared = false := by simp [linkTakes]

theorem due4_of_linkTakes (h : linkTakes s = true) (p : Pkt) :
    due4 p s = { s with link := { s.link with q4 := s.link.q4 ++ [p] } } := if_pos h

theorem due5_of_linkTakes (h : linkTakes s = true) (p : Pkt) :
    due5 p s = { s with link := { s.link with q5 := s.link.q5 ++ [p] } } := if_pos h

theorem openOut_cons (h : s.contour.sheets = o :: r) (ho : o.trailed = false) : openOut s = some o := by
  simp [openOut, h, ho]

/-- The oldest sheet stays the oldest, changed. -/
theorem head?_modSheetOut (h : s.contour.sheets = o :: r) (f : SheetOut → SheetOut) :
    (modSheetOut o.sheet f s).contour.sheets.head? = some (f o) := by
  simp [modSheetOut, h]

/-! ## POINT_PACKET_RELEASE -/

/-- The point packet of a group at a bearing (Table 9.8). -/
def pointPkt (o : SheetOut) (g β : Nat) : Pkt := streamPkt 0x02 o.sheet (pointBody o g β (recordsAt o g β))

/-- The records of a group at a bearing leave in a packet (R225, R235). -/
def pointSent (o : SheetOut) (g β : Nat) (s : State) : Bool :=
  o.session.isSome && linkTakes s && !bit g o.state.cut && bufferFits s (pktBytes (pointPkt o g β))

theorem pointSent_iff : pointSent o g β s = true ↔ o.session ≠ none ∧ s.link.downDeclared = false ∧
    bit g o.state.cut = false ∧ bufferFits s (pktBytes (pointPkt o g β)) = true := by
  simp [pointSent, linkTakes_iff, Option.isSome_iff_ne_none, and_assoc]

theorem pointSent_advance (dt : Nat) (s : State) : pointSent o g β (advance dt s) = pointSent o g β s := by
  rw [advance_eq]; rfl

/-- `f` takes the records `l` of group `g` at bearing `β` from a sheet, and counts a packet where they are sent. -/
structure Withdraws (g β : Nat) (l : List Record) (sent : Bool) (f : SheetOut → SheetOut) : Prop where
  waiting : ∀ v, (f v).waiting = v.waiting.filter (fun w => decide (¬(w.1 = g ∧ w.2.1 = β)))
  released : ∀ v, (f v).released = v.released ++ l
  packets : ∀ v, (f v).packets = v.packets + (if sent then 1 else 0)
  records : ∀ v, (f v).records = v.records + (if sent then l.length else 0)

/-- The records leave their sheet: into a packet, or nowhere, a packet that does not fit being counted (R235). -/
theorem release_cases (o : SheetOut) (g β : Nat) (s : State) :
    ∃ f, Withdraws g β (recordsAt o g β) (pointSent o g β s) f ∧
      (pointSent o g β s = true → release o g β s = due4 (pointPkt o g β) (modSheetOut o.sheet f s)) ∧
      (pointSent o g β s = false → release o g β s = modSheetOut o.sheet f s ∨
        release o g β s = count .pointsDropped 1 (modSheetOut o.sheet f s)) := by
  refine ⟨_, ⟨fun _ => rfl, fun _ => rfl, fun _ => rfl, fun _ => rfl⟩, fun h => if_pos h, fun h => ?_⟩
  have hnot := Bool.eq_false_iff.1 h
  by_cases hwanted : (o.session.isSome && linkTakes s && !bit g o.state.cut) = true
  · exact .inr ((if_neg hnot).trans (if_pos hwanted))
  · exact .inl ((if_neg hnot).trans (if_neg hwanted))

/-- What a release leaves: the oldest sheet without the records, and their packet behind those of the sheet stream. -/
theorem release_settles (h : s.contour.sheets = o :: r) : ∃ f, Withdraws g β (recordsAt o g β) (pointSent o g β s) f ∧
    (release o g β s).contour.sheets.head? = some (f o) ∧
    (release o g β s).link =
      (if pointSent o g β s then { s.link with q4 := s.link.q4 ++ [pointPkt o g β] } else s.link) ∧
    release o g β s = { s with contour := (release o g β s).contour, link := (release o g β s).link
                               log := (release o g β s).log } := by
  obtain ⟨f, hf, hsent, hunsent⟩ := release_cases o g β s
  have hhead := head?_modSheetOut h f
  refine ⟨f, hf, ?_⟩
  cases hs : pointSent o g β s with
  | true =>
    have htakes : linkTakes (modSheetOut o.sheet f s) = true := linkTakes_iff.2 (pointSent_iff.1 hs).2.1
    rw [hsent hs, due4_of_linkTakes htakes]
    exact ⟨hhead, rfl, rfl⟩
  | false =>
    obtain hr | hr := hunsent hs
    · rw [hr]
      exact ⟨hhead, rfl, rfl⟩
    · rw [hr]
      exact ⟨hhead, rfl, rfl⟩

theorem exec_pointPacketRelease (hg : g < 64) (h : s.contour.sheets = o :: r) (ho : o.trailed = false)
    (hβ : releasable o g = some β) : exec (.pointPacketRelease dt g) s = .next (release o g β (advance dt s)) := by
  have hopen : openOut (advance dt s) = some o := openOut_cons (by rwa [advance_contour]) ho
  simp [exec, execPointPacketRelease, hg, hopen, hβ]

/-! ## SHEET_TRAILER and SAFE_STOP_TRAILER -/

/-- What the recorder takes stays with the recorder (R397). -/
theorem keepForRecorder_eq (o : SheetOut) (s : State) :
    keepForRecorder o s = { s with recd := (keepForRecorder o s).recd } := by
  unfold keepForRecorder
  split <;> rfl

/-- A sheet with a stream ends with its trailer, which waits behind its points (R228). -/
theorem trail_streamed (hsession : o.session ≠ none) (hlink : s.link.downDeclared = false) : trail o s =
    keepForRecorder o { modSheetOut o.sheet (fun v => { v with ended := true, trailed := true }) s with
      link := { s.link with q4 := s.link.q4 ++ [streamPkt 0x03 o.sheet (trailerBody o)] } } := by
  have htakes := linkTakes_iff.2 hlink
  have hcond : (o.session.isSome && linkTakes s) = true := by
    rw [htakes, Bool.and_true]
    exact Option.isSome_iff_ne_none.2 hsession
  rw [trail, if_pos hcond, due4_of_linkTakes (s := modSheetOut o.sheet _ s) htakes]
  rfl

/-- Without a stream, or with the link down, it is closed only. -/
theorem trail_closed (h : o.session = none ∨ s.link.downDeclared = true) : trail o s = keepForRecorder o
    (modContour (fun c => { c with sheets := c.sheets.filter (fun p => decide (p.sheet ≠ o.sheet)) }) s) := by
  have hcond : ¬(o.session.isSome && linkTakes s) = true := by
    obtain h | h := h <;> simp [h, linkTakes]
  rw [trail, if_neg hcond]

theorem trail_frame (o : SheetOut) (s : State) : trail o s =
    { s with contour := (trail o s).contour, link := (trail o s).link, recd := (trail o s).recd } := by
  by_cases h : o.session ≠ none ∧ s.link.downDeclared = false
  · rw [trail_streamed h.1 h.2, keepForRecorder_eq]
    rfl
  · rw [not_and_or, not_not, Bool.not_eq_false] at h
    rw [trail_closed h, keepForRecorder_eq]
    rfl

theorem noneOpen_advance (dt : Nat) (s : State) : noneOpen (advance dt s) = noneOpen s := by rw [advance_eq]; rfl

theorem exec_sheetTrailer (h : s.contour.sheets = o :: r) (ho : o.trailed = false) (hd : drained o = true)
    (hended : o.ended = true) : exec (.sheetTrailer dt) s = .next (trail o (advance dt s)) := by
  have hopen : openOut (advance dt s) = some o := openOut_cons (by rwa [advance_contour]) ho
  simp [exec, execSheetTrailer, hopen, sweepDone, hended, hd]

theorem exec_safeStopTrailer (h : s.contour.sheets = o :: r) (ho : o.trailed = false) (hd : drained o = true)
    (hstop : s.phase = .safeStop) (hnone : noneOpen s = true) :
    exec (.safeStopTrailer dt) s = .next (trail o (advance dt s)) := by
  have hopen : openOut (advance dt s) = some o := openOut_cons (by rwa [advance_contour]) ho
  simp [exec, execSafeStopTrailer, hopen, hd, hstop, noneOpen_advance, hnone]

/-! ## DUMP_COPY -/

section
variable {x p sheet part : Nat} {q : List (Nat × Nat × Nat × Nat)} {hold : Table (List Byte) → Table (List Byte)}

/-- `t` is `s` after work on its dumps: the survey part, the link and the movement channels. -/
def DumpWork (s t : State) : Prop := t = { s with survey := t.survey, link := t.link, dma := t.dma, log := t.log }

theorem DumpWork.trans (h : DumpWork s t) (h' : DumpWork t u) : DumpWork s u := by
  unfold DumpWork at *
  rw [h', h]

theorem dumpWork_of_moves {k : Nat} (h : Moves k s t) : DumpWork s t := by
  unfold DumpWork
  rw [h.frame]

theorem dumpWork_copyDone (x : Nat) (s : State) : DumpWork s (copyDone x s) := by
  unfold DumpWork
  rw [copyDone_eq]

theorem copyDone_link (x : Nat) (s : State) : (copyDone x s).link = s.link := by rw [copyDone_eq]
theorem copyDone_dumpQueue (x : Nat) (s : State) : (copyDone x s).survey.dumpQueue = s.survey.dumpQueue := by
  rw [copyDone_eq]
theorem copyDone_dumpUsed (x : Nat) (s : State) : (copyDone x s).survey.dumpUsed = s.survey.dumpUsed := by
  rw [copyDone_eq]

/-- The packet of a dump copy in pool context `p` (R229). -/
def dumpPkt (x p sheet part : Nat) (s : State) : Pkt where
  type := 0x04
  body := leBytes 8 (dumpWord (ctxOf s x) sheet part) ++ copyBytes s x part
  tagged := true
  pool := some p
  stream := none

theorem dumpPkt_advance (x p sheet part dt : Nat) (s : State) :
    dumpPkt x p sheet part (advance dt s) = dumpPkt x p sheet part s := by rw [advance_eq]; rfl

/-- The copy at the head of the queue leaves it; the pool's bytes become those that `hold` makes of them. -/
def copyTaken (hold : Table (List Byte) → Table (List Byte)) (q : List (Nat × Nat × Nat × Nat)) (s : State) : State :=
  modSurvey (fun v => { v with dumpQueue := q, dumpHeld := hold v.dumpHeld }) s

/-- Its channel has moved the copy to pool context `p`, and the next copy begins (R158). -/
def copyMade (p : Nat) (hold : Table (List Byte) → Table (List Byte)) (q : List (Nat × Nat × Nat × Nat)) (s : State) :
    State :=
  dumpMove (moveDone (p % 4) (copyTaken hold q s))

theorem copyMade_survey (s : State) :
    (copyMade p hold q s).survey = { s.survey with dumpQueue := q, dumpHeld := hold s.survey.dumpHeld } := by
  rw [copyMade, dumpMove_survey, (moves_moveDone ..).survey, copyTaken, modSurvey_survey]

theorem copyMade_link (s : State) : (copyMade p hold q s).link = s.link := by
  obtain ⟨k, hmove⟩ := exists_moves_dumpMove (moveDone (p % 4) (copyTaken hold q s))
  rw [copyMade, hmove.link, (moves_moveDone ..).link, copyTaken, modSurvey_link]

theorem dumpWork_copyMade (s : State) : DumpWork s (copyMade p hold q s) := by
  obtain ⟨k, hmove⟩ := exists_moves_dumpMove (moveDone (p % 4) (copyTaken hold q s))
  have htaken : DumpWork s (copyTaken hold q s) := rfl
  exact (htaken.trans (dumpWork_of_moves (moves_moveDone ..))).trans (dumpWork_of_moves hmove)

/-- The copy's packet falls due, and its channel begins to move it. -/
def copySent (p : Nat) (d : Pkt) (len : Nat) (s : State) : State :=
  moveIfIdle (4 + p % 4) { src := 0, srcAddr := 1792 * p, dst := 2, len := len } (due5 d s)

theorem copySent_link (h : linkTakes s = true) (p : Nat) (d : Pkt) (len : Nat) :
    (copySent p d len s).link = { s.link with q5 := s.link.q5 ++ [d] } := by
  rw [copySent, (moves_moveIfIdle ..).link, due5_of_linkTakes h]

theorem copySent_survey (p : Nat) (d : Pkt) (len : Nat) (s : State) : (copySent p d len s).survey = s.survey := by
  rw [copySent, (moves_moveIfIdle ..).survey, due5_survey]

theorem dumpWork_copySent (p : Nat) (d : Pkt) (len : Nat) (s : State) : DumpWork s (copySent p d len s) := by
  have hdue : DumpWork s (due5 d s) := by
    unfold due5
    split <;> rfl
  exact hdue.trans (dumpWork_of_moves (moves_moveIfIdle ..))

theorem dumpWork_freePool (p : Nat) (s : State) : DumpWork s (freePool p s) := rfl

theorem not_mem_dumpUsed_freePool (p : Nat) (s : State) : p ∉ (freePool p s).survey.dumpUsed := by simp [freePool]

theorem portTaken_advance (dt : Nat) (s : State) : portTaken (advance dt s) = portTaken s := by rw [advance_eq]; rfl

theorem exec_dumpCopy_waits (h : s.survey.dumpQueue = (x, p, sheet, part) :: q) (hport : portTaken s = true) :
    exec (.dumpCopy dt) s = .next (advance dt s) := by
  simp [exec, execDumpCopy, h, portTaken_advance, hport]

theorem exec_dumpCopy_sent (h : s.survey.dumpQueue = (x, p, sheet, part) :: q) (hport : portTaken s = false)
    (hlink : s.link.downDeclared = false) (hsession : s.sec.session ≠ none) : ∃ hold len y, exec (.dumpCopy dt) s =
      .next (copyDone y (copySent p (dumpPkt x p sheet part s) len (copyMade p hold q (advance dt s)))) := by
  have hsome := Option.isSome_iff_ne_none.2 hsession
  refine ⟨fun l => Table.put l p (copyBytes (advance dt s) x part), (copyBytes (advance dt s) x part).length,
    ownerOf (advance dt s) x, ?_⟩
  rw [← dumpPkt_advance x p sheet part dt s]
  simp [exec, execDumpCopy, h, portTaken_advance, hport, linkTakes, hlink, hsome, copySent, copyMade, copyTaken, dumpPkt]

theorem exec_dumpCopy_unsent (h : s.survey.dumpQueue = (x, p, sheet, part) :: q) (hport : portTaken s = false)
    (hno : s.link.downDeclared = true ∨ s.sec.session = none) : ∃ hold y, exec (.dumpCopy dt) s =
      .next (copyDone y (freePool p (copyMade p hold q (advance dt s)))) := by
  refine ⟨id, ownerOf (advance dt s) x, ?_⟩
  obtain hdown | hnone := hno
  · simp [exec, execDumpCopy, h, portTaken_advance, hport, linkTakes, hdown, copyMade, copyTaken]
  · simp [exec, execDumpCopy, h, portTaken_advance, hport, hnone, copyMade, copyTaken]

end

/-! ## The settlement -/

/-- Settles O42: a release by whether its packet is sent, a trailer by whether the sheet has a stream, a dump copy by whether
the read ports are free and its packet is sent. -/
theorem packetiserReleasesInOrder : Obligations.PacketiserReleasesInOrder := by
  unfold Obligations.PacketiserReleasesInOrder
  refine ⟨fun dt g β o r s hg h ho hβ => ?point, fun dt o r s c h ho hdue hwait hc => ?trailer,
    fun dt x p sheet part q s h => ⟨fun hport => exec_dumpCopy_waits h hport, fun hport => ?copy⟩⟩
  case point =>
    obtain ⟨f, hf, hhead, hlink, hframe⟩ := release_settles (s := advance dt s) (g := g) (β := β) (by rwa [advance_contour])
    rw [pointSent_advance, advance_link] at hlink
    rw [pointSent_advance] at hf
    refine ⟨_, f o, exec_pointPacketRelease hg h ho hβ, hhead, hf.released o, hf.waiting o, fun hsends => ?_,
      fun hnot => ?_, hframe⟩
    · have hsent : pointSent o g β s = true := pointSent_iff.2 hsends
      rw [hlink, hf.packets, hf.records, hsent]
      exact ⟨rfl, rfl, rfl⟩
    · have hunsent : pointSent o g β s = false := Bool.eq_false_iff.2 fun hsent => hnot (pointSent_iff.1 hsent)
      rw [hlink, hf.packets, hunsent]
      exact ⟨rfl, rfl⟩
  case trailer =>
    have hd : drained o = true := by simp [drained, hdue, hwait]
    have hexec : exec c s = .next (trail o (advance dt s)) := by
      obtain ⟨rfl, hended⟩ | ⟨rfl, hstop, hnone⟩ := hc
      · exact exec_sheetTrailer h ho hd hended
      · exact exec_safeStopTrailer h ho hd hstop hnone
    refine ⟨_, hexec, fun hsession hlink => ?_, fun hnone => ?_, trail_frame ..⟩
    · rw [trail_streamed hsession (by rwa [advance_link]), keepForRecorder_eq, advance_link]
      exact ⟨rfl, _, head?_modSheetOut (by rwa [advance_contour]) _, rfl, rfl⟩
    · rw [trail_closed (.inl hnone), keepForRecorder_eq]
      exact ⟨advance_link dt s, fun q hq => by simpa using (List.mem_filter.1 hq).2⟩
  case copy =>
    by_cases hsends : s.link.downDeclared = false ∧ s.sec.session ≠ none
    · obtain ⟨hlink, hsession⟩ := hsends
      obtain ⟨hold, len, y, hexec⟩ := exec_dumpCopy_sent (dt := dt) h hport hlink hsession
      have htakes : linkTakes (copyMade p hold q (advance dt s)) = true := by
        rw [linkTakes_iff, copyMade_link, advance_link, hlink]
      refine ⟨_, hexec, ?_, fun _ _ => ⟨dumpPkt x p sheet part s, ?_, rfl, rfl, rfl, rfl⟩, fun hno => ?_, ?_⟩
      · rw [copyDone_dumpQueue, copySent_survey, copyMade_survey]
      · rw [copyDone_link, copySent_link htakes, copyMade_link, advance_link]
      · rw [hlink] at hno
        exact absurd (hno.resolve_left Bool.false_ne_true) hsession
      · exact ((dumpWork_copyMade ..).trans (dumpWork_copySent ..)).trans (dumpWork_copyDone ..)
    · have hno : s.link.downDeclared = true ∨ s.sec.session = none := by
        rwa [not_and_or, not_not, Bool.not_eq_false] at hsends
      obtain ⟨hold, y, hexec⟩ := exec_dumpCopy_unsent (dt := dt) h hport hno
      refine ⟨_, hexec, ?_, fun hlink hsession => absurd ⟨hlink, hsession⟩ hsends, fun _ => ⟨?_, ?_⟩, ?_⟩
      · rw [copyDone_dumpQueue]
        exact congrArg Survey.dumpQueue (copyMade_survey (advance dt s))
      · rw [copyDone_link]
        exact (copyMade_link ..).trans (advance_link dt s)
      · rw [copyDone_dumpUsed]
        exact not_mem_dumpUsed_freePool p _
      · exact ((dumpWork_copyMade ..).trans (dumpWork_freePool ..)).trans (dumpWork_copyDone ..)

end Sys2Proof.Proofs
end

section
/-! What the work of the link may change, and what time leaves of it (R213, R238, R239). -/

namespace Sys2Proof.Laws

open Sys2Proof Sys2Proof.Machine Sys2Proof.Proofs

variable {dt : Nat} {s t u : State}

/-! ## The passing of time -/

@[simp] theorem planNow_advance (dt : Nat) (s : State) : planNow (advance dt s) = planNow s := by simp [planNow]
@[simp] theorem upTested_advance (dt : Nat) (s : State) : upTested (advance dt s) = upTested s := by simp [upTested]
@[simp] theorem linkWidth_advance (dt : Nat) (s : State) : linkWidth (advance dt s) = linkWidth s := by simp [linkWidth]

/-! ## Work on the link -/

/-- `t` is `s` after work on the link alone, with what that work logs and counts. -/
def LinkWork (s t : State) : Prop := t = { s with link := t.link, log := t.log }

theorem LinkWork.trans (h : LinkWork s t) (h' : LinkWork t u) : LinkWork s u := by
  unfold LinkWork at h h' ⊢
  rw [h', h]

theorem linkWork_modLink (f : Link → Link) (s : State) : LinkWork s (modLink f s) := rfl
theorem linkWork_count (c : Counter) (n : Nat) (s : State) : LinkWork s (count c n s) := rfl
theorem linkWork_linkRetrain (lanes : Nat) (s : State) : LinkWork s (linkRetrain lanes s) := rfl

theorem linkWork_logEvent (a b c d : Nat) (s : State) : LinkWork s (logEvent a b c d s) := by
  unfold LinkWork
  rw [logEvent_eq]

/-! ## Notes and counts -/

@[simp] theorem counterOf_modLink (f : Link → Link) (c : Counter) (s : State) : counterOf (modLink f s) c = counterOf s c := rfl

/-- That the link was ready changes only whether a link down may follow (R238). -/
theorem noteReady_eq (s : State) : ∃ d, noteReady s = { s with link := { s.link with downDeclared := d } } := by
  unfold noteReady
  split
  · exact ⟨false, rfl⟩
  · exact ⟨_, rfl⟩

theorem linkWork_noteReady (s : State) : LinkWork s (noteReady s) := by
  obtain ⟨d, hd⟩ := noteReady_eq s
  rw [hd]
  rfl

end Sys2Proof.Laws
end

section
/-! The upstream receiver: its stages and what sends it back (R213 to R215, R219). -/

namespace Sys2Proof.Proofs

open Sys2Proof Sys2Proof.Machine Sys2Proof.Laws

variable {dt now clearNs : Nat} {sets : List (List Nat)} {l : Link} {s : State}

/-! ## The stages (Table 9.3) -/

/-- The sets as the receiver reads them, an inverted pair corrected. -/
def readSets (sets : List (List Nat)) (l : Link) : List (List Nat) :=
  if l.inverted then sets.map (·.map invertCode) else sets

theorem receiverStage_one (h : l.stage = 1) :
    receiverStage clearNs sets now l = if 10000 ≤ clearNs then enterStage 2 now l else l := by
  simp [receiverStage, h]

theorem receiverStage_two (h : l.stage = 2) :
    receiverStage clearNs sets now l = if 20000 ≤ clearNs then enterStage 3 now l else l := by
  simp [receiverStage, h]

/-- Three sets that begin with a comma end stage 3. -/
theorem receiverStage_aligned (h : l.stage = 3) (hlen : 3 ≤ (readSets sets l).length)
    (hcomma : ∀ w ∈ (readSets sets l).drop ((readSets sets l).length - 3), readAny (w.getD 0 0) = some comma) :
    receiverStage clearNs sets now l = { enterStage 4 now l with corrected := false } := by
  unfold receiverStage
  rw [if_neg (by omega), if_neg (by omega), if_pos h]
  exact if_pos (Bool.and_eq_true_iff.2 ⟨decide_eq_true hlen, List.all_eq_true.2 fun w hw => decide_eq_true (hcomma w hw)⟩)

/-- The same four sets end in one symbol only. -/
theorem lastFour_unique {v w : Sym} {sets : List (List Nat)} (hv : lastFour v sets = true) (hw : lastFour w sets = true) :
    v = w := by
  simp only [lastFour, Bool.and_eq_true, decide_eq_true_eq, List.all_eq_true] at hv hw
  obtain ⟨hlen, hv⟩ := hv
  obtain ⟨-, hw⟩ := hw
  have hmem : sets.drop (sets.length - 4) ≠ [] := by
    simp only [ne_eq, List.drop_eq_nil_iff]
    omega
  obtain ⟨x, hx⟩ := List.exists_mem_of_ne_nil _ hmem
  exact Option.some.inj ((hv x hx).symm.trans (hw x hx))

theorem receiverStage_between (h₁ : 4 ≤ l.stage) (h₂ : l.stage < 8) : receiverStage clearNs sets now l =
    if lastFour d102 (readSets sets l) && !l.corrected then { l with stage := 4, inverted := !l.inverted, corrected := true }
    else if lastFour d215 (readSets sets l) then { enterStage 8 now l with upAsleep := false }
    else l := by
  unfold receiverStage
  rw [if_neg (by omega), if_neg (by omega), if_neg (by omega), if_pos h₂]
  rfl

/-- Four sets that end in D10.2 show an inverted pair, which is corrected once. -/
theorem receiverStage_inverts (h₁ : 4 ≤ l.stage) (h₂ : l.stage < 8) (hread : lastFour d102 (readSets sets l) = true)
    (honce : l.corrected = false) :
    receiverStage clearNs sets now l = { l with stage := 4, inverted := !l.inverted, corrected := true } := by
  rw [receiverStage_between h₁ h₂, hread, honce]
  rfl

/-- Four sets that end in D21.5 are what stage 8 begins with. -/
theorem receiverStage_enters (h₁ : 4 ≤ l.stage) (h₂ : l.stage < 8) (hread : lastFour d215 (readSets sets l) = true) :
    receiverStage clearNs sets now l = { enterStage 8 now l with upAsleep := false } := by
  have hnot : lastFour d102 (readSets sets l) = false :=
    Bool.eq_false_iff.2 fun h => absurd (lastFour_unique h hread) (by decide)
  rw [receiverStage_between h₁ h₂, hnot, hread]
  rfl

/-- Eight sets IDL or UTS confirm stage 8. -/
theorem receiverStage_confirms (h : 8 ≤ l.stage) (hlen : 8 ≤ (readSets sets l).length)
    (hidle : ∀ w ∈ (readSets sets l).drop ((readSets sets l).length - 8), isIdlOrUts w = true) :
    receiverStage clearNs sets now l = { l with confirmed := true } := by
  unfold receiverStage
  rw [if_neg (by omega), if_neg (by omega), if_neg (by omega), if_neg (by omega)]
  exact if_pos (Bool.and_eq_true_iff.2 ⟨decide_eq_true hlen, List.all_eq_true.2 hidle⟩)

/-- A stage changes the receiver's own fields alone. -/
theorem receiverStage_frame (clearNs : Nat) (sets : List (List Nat)) (now : Nat) (l : Link) :
    receiverStage clearNs sets now l = { l with
      stage := (receiverStage clearNs sets now l).stage, stageAt := (receiverStage clearNs sets now l).stageAt
      inverted := (receiverStage clearNs sets now l).inverted, corrected := (receiverStage clearNs sets now l).corrected
      confirmed := (receiverStage clearNs sets now l).confirmed, upAsleep := (receiverStage clearNs sets now l).upAsleep } := by
  unfold receiverStage
  dsimp only
  repeat' split
  all_goals rfl

/-! ## The commands -/

section
variable (htest : upTested s = false)
include htest

theorem exec_upstreamStage : exec (.upstreamStage dt ⟨clearNs, sets⟩) s =
    .next (noteReady (modLink (receiverStage clearNs sets (s.now + dt)) (advance dt s))) := by
  simp [exec, execUpstreamStage, htest]

theorem exec_upstreamStageTimeout (hstage : 2 ≤ s.link.stage) (hconf : s.link.confirmed = false)
    (hdue : s.link.stageAt + stageTimeout s.link.stage ≤ s.now + dt) : exec (.upstreamStageTimeout dt) s =
      .next (count .bringUpFailures 1 (modLink (fun l => { receiverBack 1 (s.now + dt) l with
        upAsleep := false
        leftAt := if l.upAsleep then s.now + dt else (receiverBack 1 (s.now + dt) l).leftAt }) (advance dt s))) := by
  simp [exec, execUpstreamStageTimeout, stageTimedOut, htest, hstage, hconf, hdue]

theorem exec_symbolLockLoss {before codes : List Nat} (hstage : 4 ≤ s.link.stage) (hlen : codes.length ≤ 256)
    (hbad : 8 ≤ (rxAfter (rxCodes s before) (rxCodes s codes)).violations ∨
      2 ≤ (rxAfter (rxCodes s before) (rxCodes s codes)).offWord) :
    exec (.symbolLockLoss ⟨dt, before, codes⟩) s = .next (modLink (receiverBack 3 (s.now + dt)) (advance dt s)) := by
  have hlost : lockLost (advance dt s) ⟨dt, before, codes⟩ = true := by
    simpa [lockLost, hlen, rxCodes] using hbad
  simp [exec, execSymbolLockLoss, hlost, htest, hstage]

theorem exec_lossOfSignal {lostNs : Nat} {lockLost : Bool} (hstage : 2 ≤ s.link.stage)
    (hlost : lockLost = true ∨ 1000 ≤ lostNs) :
    exec (.lossOfSignal ⟨dt, lostNs, lockLost⟩) s = .next (modLink (receiverBack 1 (s.now + dt)) (advance dt s)) := by
  have hseen : (lockLost || decide (1000 ≤ lostNs)) = true := by simpa using hlost
  simp [exec, execLossOfSignal, htest, hstage, hseen]

theorem exec_upstreamSleep (n : Nat) (hstage : 2 ≤ s.link.stage) : exec (.upstreamSleep dt n) s =
    .next (modLink (fun l => { receiverBack 1 (s.now + dt) l with upAsleep := decide (2 ≤ n) }) (advance dt s)) := by
  simp [exec, execUpstreamSleep, htest, hstage]

end

/-- Settles O14: a stage by the equation of the receiver for it, each loss by its command. -/
theorem receiverStages : Obligations.ReceiverStages := by
  unfold Obligations.ReceiverStages
  refine ⟨fun dt clearNs sets s htest => ?stage, fun dt s htest hstage hconf hdue => ?timeout,
    fun dt before codes s htest hstage hlen hbad => ?lock, fun dt lostNs lost s htest hstage hlost => ?signal,
    fun dt n s htest hstage => ?sleep⟩
  case stage =>
    obtain ⟨d, hd⟩ := noteReady_eq (modLink (receiverStage clearNs sets (s.now + dt)) (advance dt s))
    rw [modLink_link, advance_link] at hd
    refine ⟨_, exec_upstreamStage htest, ?_⟩
    rw [hd]
    refine ⟨fun h => ?_, fun h => ?_, fun h hlen hcomma => ?_, fun h₁ h₂ hread honce => ?_, fun h₁ h₂ hread => ?_,
      fun h hlen hidle => ?_, ?_⟩
    · rw [receiverStage_one h]
      split <;> [rfl; exact h]
    · rw [receiverStage_two h]
      split <;> [rfl; exact h]
    · rw [receiverStage_aligned h hlen hcomma]
      exact ⟨rfl, rfl⟩
    · rw [receiverStage_inverts h₁ h₂ hread honce]
      exact ⟨rfl, rfl, rfl⟩
    · rw [receiverStage_enters h₁ h₂ hread]
      exact ⟨rfl, rfl, rfl⟩
    · rw [receiverStage_confirms h hlen hidle]
      exact ⟨rfl, rfl⟩
    · exact congrArg (fun r : Link => { advance dt s with link := { r with downDeclared := d } })
        (receiverStage_frame clearNs sets (s.now + dt) s.link)
  case timeout =>
    refine ⟨_, exec_upstreamStageTimeout htest hstage hconf hdue, ?_, fun h => ?_⟩
    · rw [modLink, advance_link]
      rfl
    · simp [receiverBack, h]
  case lock =>
    rw [exec_symbolLockLoss htest hstage hlen hbad, modLink, advance_link]
    rfl
  case signal =>
    rw [exec_lossOfSignal htest hstage hlost, modLink, advance_link]
    rfl
  case sleep =>
    rw [exec_upstreamSleep htest n hstage, modLink, advance_link]
    rfl

end Sys2Proof.Proofs
end

section
/-! The lane report, downstream training and the width (R213, R216, R236, R237). -/

namespace Sys2Proof.Proofs

open Sys2Proof Sys2Proof.Machine Sys2Proof.Laws

variable {dt st lanes : Nat} {s : State}

/-! ## The link comes up or trains -/

theorem linkWork_linkUp (lanes : Nat) (s : State) : LinkWork s (linkUp lanes s) :=
  (linkWork_modLink ..).trans (linkWork_noteReady _)

theorem linkWork_linkTransmitStart (wait : Nat) (s : State) : LinkWork s (linkTransmitStart wait s) := rfl

/-- Bring-up intends all four lanes, and trains once ETXC and IDL have run (R213). -/
theorem linkTransmitStart_link (wait : Nat) (s : State) :
    (linkTransmitStart wait s).link.down = .training ∧ (linkTransmitStart wait s).link.intended = 15 ∧
      (linkTransmitStart wait s).link.active = 0 ∧ (linkTransmitStart wait s).link.trainAt = s.now + wait + us 200 :=
  ⟨rfl, Nat.xor_zero 15, rfl, rfl⟩

/-- What the link in data has: the lanes, and the report it acts on. -/
theorem linkUp_link (lanes : Nat) (s : State) : (linkUp lanes s).link.down = .data ∧ (linkUp lanes s).link.active = lanes ∧
    (linkUp lanes s).link.good = s.link.good ∧ (linkUp lanes s).link.acted = s.link.acted := by
  unfold linkUp
  obtain ⟨d, hd⟩ := noteReady_eq (modLink (fun l => onLine (fun _ => idlSet) { l with
    down := .data, active := lanes, others := lanesBeside lanes l, width := popcount 4 lanes, am := markersNow s.now l
    amAt := s.now, busyUntil := s.now }) s)
  rw [hd]
  exact ⟨rfl, rfl, rfl, rfl⟩

/-! ## Acting on a report (R216) -/

/-- The state that holds the report `st` acted on, and the lanes that rise beside `kept`. -/
def reported (st kept : Nat) (s : State) : State :=
  modLink (fun l => { l with rising := risingNext s.now ((bits 7 4 st ^^^ kept) &&& (15 ^^^ l.tested)) l })
    (modLink (fun l => { l with acted := st, good := bits 7 4 st, riseDue := l.riseDue &&& bits 7 4 st }) s)

theorem utsAct_training (h : s.link.down = .training) : utsAct st s =
    let lanes := bits 7 4 st &&& s.link.intended
    if bit 3 st && lanes ≠ 0 then
      let u := linkUp lanes (reported st lanes s)
      if popcount 4 lanes ≠ s.link.width && s.link.width ≠ 0 then logEvent 7 2 0 (linkWord u) u else u
    else modLink (fun l => { l with active := lanes, zeroAt := if lanes = 0 && l.active ≠ 0 then s.now else l.zeroAt })
      (reported st lanes s) := by
  unfold utsAct
  rw [h]
  rfl

theorem utsAct_carrying (h : s.link.down = .data ∨ s.link.down = .asleep) : utsAct st s =
    let kept := s.link.active &&& bits 7 4 st
    let t := reported st kept s
    if kept = 0 then modLink (fun l => linkTrainAll (afterPacket s.now l) s.now l) t
    else if kept ≠ s.link.active then
      let u := modLink (fun l => { l with width := popcount 4 kept }) (linkRetrain kept t)
      logEvent 7 2 0 (linkWord u) u
    else if bit 2 st then linkRetrain s.link.active t
    else t := by
  unfold utsAct
  obtain h | h := h <;> rw [h] <;> rfl

theorem utsAct_other (h : s.link.down ≠ .training) (h' : ¬(s.link.down = .data ∨ s.link.down = .asleep)) : utsAct st s =
    modLink (fun l => { l with acted := st, good := bits 7 4 st, riseDue := l.riseDue &&& bits 7 4 st }) s := by
  unfold utsAct
  dsimp only
  split
  · next hd => exact absurd hd h
  · next hd => exact absurd (.inl hd) h'
  · next hd => exact absurd (.inr hd) h'
  · rfl

/-- What every report acted on leaves: its mask, that it has been acted on where no training has begun, and the rest of the
state. -/
structure Reports (st : Nat) (s t : State) : Prop where
  work : LinkWork s t
  good : t.link.good = bits 7 4 st
  acted : t.link.acted ∈ [st, 256]

theorem reports_reported (st kept : Nat) (s : State) : Reports st s (reported st kept s) :=
  ⟨rfl, rfl, List.mem_cons_self⟩

variable {t u : State}

theorem Reports.linkUp (h : Reports st s t) (lanes : Nat) : Reports st s (linkUp lanes t) := by
  obtain ⟨-, -, hgood, hacted⟩ := linkUp_link lanes t
  exact ⟨h.work.trans (linkWork_linkUp ..), hgood.trans h.good, hacted ▸ h.acted⟩

theorem Reports.logEvent (h : Reports st s t) (a b c d : Nat) : Reports st s (logEvent a b c d t) :=
  ⟨h.work.trans (linkWork_logEvent ..), by rw [logEvent_link]; exact h.good, by rw [logEvent_link]; exact h.acted⟩

theorem Reports.linkRetrain (h : Reports st s t) (lanes : Nat) : Reports st s (linkRetrain lanes t) :=
  ⟨h.work.trans (linkWork_linkRetrain ..), h.good, by simp [Machine.linkRetrain, linkTrain]⟩

/-- A change of the link that keeps the report or forgets that it was acted on. -/
theorem Reports.modLink (h : Reports st s t) {f : Link → Link} (hgood : (f t.link).good = t.link.good)
    (hacted : (f t.link).acted = t.link.acted ∨ (f t.link).acted = 256) : Reports st s (modLink f t) := by
  refine ⟨h.work.trans (linkWork_modLink ..), hgood.trans h.good, ?_⟩
  obtain hacted | hacted := hacted
  · rw [modLink_link, hacted]
    exact h.acted
  · simp [hacted]

theorem reports_utsAct (st : Nat) (s : State) : Reports st s (utsAct st s) := by
  by_cases htrain : s.link.down = .training
  · rw [utsAct_training htrain]
    have hup := (reports_reported st (bits 7 4 st &&& s.link.intended) s)
    dsimp only
    split
    · split
      · exact (hup.linkUp _).logEvent ..
      · exact hup.linkUp _
    · exact hup.modLink rfl (.inl rfl)
  by_cases hcarry : s.link.down = .data ∨ s.link.down = .asleep
  · rw [utsAct_carrying hcarry]
    have hkept := reports_reported st (s.link.active &&& bits 7 4 st) s
    dsimp only
    split
    · exact hkept.modLink rfl (.inr rfl)
    split
    · exact ((hkept.linkRetrain _).modLink rfl (.inl rfl)).logEvent ..
    split
    · exact hkept.linkRetrain _
    · exact hkept
  · rw [utsAct_other htrain hcarry]
    exact ⟨rfl, rfl, List.mem_cons_self⟩

/-- Ready with a good lane among the intended ones: in data on exactly those. -/
theorem utsAct_up (h : s.link.down = .training) (hready : bit 3 st = true) (hlanes : bits 7 4 st &&& s.link.intended ≠ 0) :
    (utsAct st s).link.down = .data ∧ (utsAct st s).link.active = bits 7 4 st &&& s.link.intended := by
  obtain ⟨hdown, hactive, -, -⟩ :=
    linkUp_link (bits 7 4 st &&& s.link.intended) (reported st (bits 7 4 st &&& s.link.intended) s)
  rw [utsAct_training h]
  dsimp only
  rw [hready, if_pos (by simpa using hlanes)]
  split
  · rw [logEvent_link]
    exact ⟨hdown, hactive⟩
  · exact ⟨hdown, hactive⟩

section
variable (h : s.link.down = .data ∨ s.link.down = .asleep)
include h

/-- Fewer good lanes than active ones: training on what is left, counted. -/
theorem utsAct_fewer (hsome : s.link.active &&& bits 7 4 st ≠ 0) (hfewer : s.link.active &&& bits 7 4 st ≠ s.link.active) :
    (utsAct st s).link.down = .training ∧ (utsAct st s).link.intended = s.link.active &&& bits 7 4 st ∧
      (utsAct st s).link.trainAt = max s.now s.link.busyUntil ∧
      counterOf (utsAct st s) .retrains = counterNext .retrains (counterOf s .retrains) 1 := by
  rw [utsAct_carrying h]
  dsimp only
  rw [if_neg hsome, if_pos hfewer, logEvent_link, counterOf_logEvent _ _ _ _ _ _ (by decide)]
  exact ⟨rfl, rfl, rfl, counterOf_count ..⟩

/-- No good lane left: training on every lane not under test. -/
theorem utsAct_none (hnone : s.link.active &&& bits 7 4 st = 0) :
    (utsAct st s).link.down = .training ∧ (utsAct st s).link.intended = 15 ^^^ s.link.tested ∧
      (utsAct st s).link.active = 0 ∧ (utsAct st s).link.trainAt = max s.now s.link.busyUntil := by
  rw [utsAct_carrying h]
  dsimp only
  rw [if_pos hnone]
  exact ⟨rfl, rfl, rfl, rfl⟩

end

/-! ## UTS, TRAINING_TIMEOUT and WIDTH_RISE -/

/-- The set `st` has come `n` times in a row. -/
def setCounted (st n : Nat) (s : State) : State := modLink (fun l => { l with st := (st, n) }) s

theorem exec_uts (hstage : s.link.stage = 8) (htest : upTested s = false) (b : Byte) : exec (.uts dt b) s =
    .next (if 4 ≤ utsRun b.toNat s.link ∧ s.link.acted ≠ b.toNat ∧
        (downNow (advance dt s) = .training ∨ s.link.down ≠ .training) then
      utsAct b.toNat (setCounted b.toNat (min (utsRun b.toNat s.link) 4) (advance dt s))
    else setCounted b.toNat (min (utsRun b.toNat s.link) 4) (advance dt s)) := by
  simp [exec, execUts, hstage, htest, setCounted]

theorem us_add (a b : Nat) : us a + us b = us (a + b) := (Nat.mul_add 32000 a b).symm

theorem exec_trainingTimeout_due (h : s.link.down = .training) (hdue : s.link.trainAt + ms 20 ≤ s.now + dt) :
    ∃ w, exec (.trainingTimeout dt) s =
      .next (logEvent 7 3 0 w (count .trainingTimeouts 1 (linkTransmitStart (us 100) (advance dt s)))) := by
  exact ⟨_, by simp [exec, execTrainingTimeout, h, hdue]; rfl⟩

theorem exec_trainingTimeout_early (hearly : s.now + dt < s.link.trainAt + ms 20) :
    exec (.trainingTimeout dt) s = .next (advance dt s) := by
  have hnot : decide (s.link.trainAt + ms 20 ≤ s.now + dt) = false := decide_eq_false (Nat.not_le.2 hearly)
  simp [exec, execTrainingTimeout, hnot]

theorem exec_widthRise {m since : Nat} (h : s.link.rising = some (m, since)) : exec (.widthRise dt) s =
    .next (if since + sec 1 ≤ s.now + dt then modLink (fun l => { l with riseDue := m, rising := none }) (advance dt s)
      else advance dt s) := by
  simp [exec, execWidthRise, h]

/-- The upper half of the report is the lane mask. -/
theorem bits_mask (b : Byte) : bits 7 4 b.toNat = b.toNat / 16 := by
  have := b.isLt
  simp only [bits, Nat.shiftRight_eq_div_pow]
  omega

theorem bit_ready {n : Nat} (h : n / 8 % 2 = 1) : bit 3 n = true := by
  simpa [bit, Nat.testBit_eq_decide_div_mod_eq] using h

/-- Settles O15: a set is only counted, or the report is acted on, by the downstream state. -/
theorem trainingAndWidth : Obligations.TrainingAndWidth := by
  unfold Obligations.TrainingAndWidth
  refine ⟨fun dt b s hstage htest => ⟨fun hwaits => ?waits, fun hsame hrun hacted htrain => ?acts⟩,
    fun dt s h => ⟨fun hdue => ?due, exec_trainingTimeout_early⟩, fun dt m since s hrising => ?rise⟩
  case waits =>
    refine ⟨min (utsRun b.toNat s.link) 4, ?_⟩
    rw [exec_uts hstage htest, if_neg, setCounted, modLink, advance_link]
    rintro ⟨hrun, hacted, htrain⟩
    obtain h | h | h := hwaits
    · exact absurd hrun (Nat.not_le.2 h)
    · exact hacted h
    · exact htrain.elim h.2 (· h.1)
  case acts =>
    have hruns : 4 ≤ utsRun b.toNat s.link := by
      rw [utsRun, if_pos hsame]
      omega
    have hstarted : downNow (advance dt s) = .training ∨ s.link.down ≠ .training := or_iff_not_imp_right.2 fun h =>
      htrain (not_not.1 h)
    generalize hu : setCounted b.toNat (min (utsRun b.toNat s.link) 4) (advance dt s) = u
    have hlink : u.link = { s.link with st := (b.toNat, min (utsRun b.toNat s.link) 4) } := by
      rw [← hu, ← advance_link dt s]
      rfl
    have hwork : LinkWork (advance dt s) u := by
      rw [← hu]
      exact linkWork_modLink ..
    have hnow : u.now = s.now + dt := by
      rw [hwork]
      exact advance_now dt s
    have hcount : counterOf u .retrains = counterOf s .retrains := by
      rw [← hu, setCounted, counterOf_modLink, counterOf_advance]
    have hreports := reports_utsAct b.toNat u
    rw [← bits_mask]
    refine ⟨utsAct b.toNat u, ?_, hreports.good, hreports.acted, fun hdown hready hlanes => ?_, fun hdown hsome hfewer => ?_,
      fun hdown hnone => ?_, hwork.trans hreports.work⟩
    · rw [exec_uts hstage htest, if_pos ⟨hruns, hacted, hstarted⟩, hu]
    · have hup := utsAct_up (s := u) (st := b.toNat) (by rw [hlink]; exact hdown) (bit_ready hready)
        (by rw [hlink]; exact hlanes)
      rwa [hlink] at hup
    · have hleft := utsAct_fewer (s := u) (st := b.toNat) (by rw [hlink]; exact hdown) (by rw [hlink]; exact hsome)
        (by rw [hlink]; exact hfewer)
      rwa [hlink, hnow, hcount] at hleft
    · have hall := utsAct_none (s := u) (st := b.toNat) (by rw [hlink]; exact hdown) (by rw [hlink]; exact hnone)
      rwa [hlink, hnow] at hall
  case due =>
    obtain ⟨w, hexec⟩ := exec_trainingTimeout_due h hdue
    have hwork := ((linkWork_linkTransmitStart (us 100) (advance dt s)).trans (linkWork_count .trainingTimeouts 1 _)).trans
      (linkWork_logEvent 7 3 0 w _)
    have hwait : s.now + dt + us 100 + us 200 = s.now + dt + us 300 := by rw [Nat.add_assoc, us_add]
    obtain ⟨hdown, hintended, hactive, hat⟩ := linkTransmitStart_link (us 100) (advance dt s)
    rw [advance_now, hwait] at hat
    refine ⟨_, hexec, ?_, ?_, ?_, ?_, ?_, hwork⟩
    · rwa [logEvent_link, count_link]
    · rwa [logEvent_link, count_link]
    · rwa [logEvent_link, count_link]
    · rwa [logEvent_link, count_link]
    · rw [counterOf_logEvent _ _ _ _ _ _ (by decide), counterOf_count]
      exact congrArg (counterNext _ · 1) (counterOf_advance ..)
  case rise =>
    rw [exec_widthRise hrising, modLink, advance_link]

end Sys2Proof.Proofs
end

section
/-! Link down: what it discards, ends and counts (R238, R259). -/

namespace Sys2Proof.Proofs

open Sys2Proof Sys2Proof.Machine Sys2Proof.Laws

variable {dt : Nat} {s : State}

/-! ## The pending packets -/

/-- Passes that change the survey engines alone change them alone together. -/
theorem foldl_survey {α : Type} {step : State → α → State} (h : ∀ u a, step u a = { u with survey := (step u a).survey })
    (l : List α) (s : State) : l.foldl step s = { s with survey := (l.foldl step s).survey } := by
  induction l generalizing s with
  | nil => rfl
  | cons a l ih => rw [List.foldl_cons, ih, h]

/-- Downstream packets and status responses that are pending. -/
def pendingDown (s : State) : Nat :=
  s.link.q1.length + s.link.q2.length + s.link.q3.length + s.link.q4.length + s.link.q5.length + s.dma.snapshots.length

/-- The link with no packet pending. -/
def noPackets (l : Link) : Link := { l with q1 := [], q2 := [], q3 := [], q4 := [], q5 := [] }

/-- Discarded packets leave their queues and the pool contexts they held, and are counted. -/
theorem discardPending_eq (s : State) : ∃ v, discardPending s = count .discardedLinkDown (pendingDown s)
    { s with link := noPackets s.link, survey := v, dma := { s.dma with snapshots := [] } } := by
  unfold discardPending
  dsimp only
  rw [foldl_survey]
  · exact ⟨_, rfl⟩
  · intro u p
    split <;> rfl

/-! ## The link that is down -/

/-- The link once it is down: the receiver in stage 1, the lanes in training from nothing unless they are stopped. -/
def downLink (now : Nat) (l : Link) : Link :=
  { (if l.down == .off then { l with active := 0 } else linkTrainAll (afterPacket now l) now { l with tested := 0 }) with
    stage := 1, stageAt := now, confirmed := false, upAsleep := false, downDeclared := true, plan := 0, tested := 0
    testDue := false }

/-- No packet comes to the queues with a link down. -/
theorem downLink_queues (now : Nat) (l : Link) : (downLink now l).q1 = l.q1 ∧ (downLink now l).q2 = l.q2 ∧
    (downLink now l).q3 = l.q3 ∧ (downLink now l).q4 = l.q4 ∧ (downLink now l).q5 = l.q5 := by
  unfold downLink
  split <;> exact ⟨rfl, rfl, rfl, rfl, rfl⟩

/-- The session ends with its keys and an establishment, the running read ends, and no sheet under way has a stream. -/
def linkLost (v : Survey) (s : State) : State :=
  { s with
    sec := { s.sec with session := none, old := [], hello := none, next := none }
    link := downLink s.now (noPackets s.link), survey := v, dma := { s.dma with snapshots := [] }
    recd := { s.recd with readout := none }
    contour := { s.contour with
      sheets := (s.contour.sheets.filter (fun o => !o.trailed)).map (fun o => { o with session := none }) } }

/-- A link down is counted and logged beside the packets that it discards (R238). -/
theorem linkDown_eq (s : State) : ∃ v g, linkDown s = { linkLost v s with log := g } ∧
    counterIn g.counters .discardedLinkDown =
      counterNext .discardedLinkDown (counterOf s .discardedLinkDown) (pendingDown s) ∧
    counterIn g.counters .linkDowns = counterNext .linkDowns (counterOf s .linkDowns) 1 := by
  obtain ⟨v, hv⟩ := discardPending_eq (endSession s)
  let lost := count .discardedLinkDown (pendingDown s) (linkLost v s)
  have hdown : linkDown s = count .linkDowns 1 (logEvent 7 1 0 (linkWord lost) lost) := by
    unfold linkDown
    rw [hv]
    rfl
  refine ⟨v, (linkDown s).log, ?_, ?_, ?_⟩
  · rw [hdown, logEvent_eq]
    rfl
  · show counterOf (linkDown s) _ = _
    rw [hdown, counterOf_count_ne _ _ _ _ (by decide), counterOf_logEvent _ _ _ _ _ _ (by decide)]
    exact counterOf_count ..
  · show counterOf (linkDown s) _ = _
    rw [hdown, counterOf_count, counterOf_logEvent _ _ _ _ _ _ (by decide)]
    exact congrArg (counterNext _ · _) (counterOf_count_ne _ _ _ _ (by decide))

theorem linkIsDown_advance (hnew : s.link.downDeclared = false)
    (hdown : (s.link.stage ≠ 8 ∧ s.link.upAsleep = false ∧ upTested s = false ∧ s.link.leftAt + ms 1 ≤ s.now + dt) ∨
      (linkWidth s = 0 ∧ s.link.down ≠ .test ∧ s.link.zeroAt + ms 1 ≤ s.now + dt)) :
    linkIsDown (advance dt s) = true := by
  obtain ⟨hstage, hawake, htest, hlate⟩ | ⟨hwidth, htest, hlate⟩ := hdown
  · simp [linkIsDown, upstreamOut, hnew, hstage, hawake, htest, hlate]
  · simp [linkIsDown, widthOut, hnew, hwidth, htest, hlate]

theorem exec_linkDown (h : linkIsDown (advance dt s) = true) : exec (.linkDown dt) s = .next (linkDown (advance dt s)) := by
  simp [exec, execLinkDown, h]

theorem exec_linkDown_declared (h : s.link.downDeclared = true) : exec (.linkDown dt) s = .next (advance dt s) := by
  simp [exec, execLinkDown, linkIsDown, h]

/-- Settles O16: a link down leaves `linkLost`, which the counts and the log entry read through. -/
theorem linkDownDiscardsPending : Obligations.LinkDownDiscardsPending := by
  unfold Obligations.LinkDownDiscardsPending
  refine ⟨fun dt s hnew hdown => ?_, fun dt s => exec_linkDown_declared⟩
  obtain ⟨v, g, hg, hdiscarded, hdowns⟩ := linkDown_eq (advance dt s)
  obtain ⟨h1, h2, h3, h4, h5⟩ := downLink_queues (advance dt s).now (noPackets (advance dt s).link)
  have hpending : pendingDown (advance dt s) = pendingDown s := by simp [pendingDown]
  rw [counterOf_advance, hpending] at hdiscarded
  rw [counterOf_advance] at hdowns
  refine ⟨_, (exec_linkDown (linkIsDown_advance hnew hdown)).trans (congrArg _ hg), h1, h2, h3, h4, h5, rfl, hdiscarded,
    hdowns, rfl, rfl, ?_, ?_, fun o ho => ?_, ?_⟩
  · rw [← advance_sec dt s]
    rfl
  · rw [← advance_recd dt s]
    rfl
  · obtain ⟨x, -, rfl⟩ := List.mem_map.1 ho
    rfl
  · rw [← advance_dma dt s]
    rfl

end Sys2Proof.Proofs
end

section
/-! Lane tests: their start, their checkers and their end (R239, R240). -/

namespace Sys2Proof.Proofs

open Sys2Proof Sys2Proof.Machine Sys2Proof.Laws

variable {dt lane e i j : Nat} {s t u : State}

/-! ## The counters of the checkers -/

/-- Clearing a counter leaves a cleared one clear. -/
theorem counterOf_countSet_zero {c : Counter} (h : counterOf s c = 0) (d : Counter) : counterOf (countSet d 0 s) c = 0 := by
  by_cases hkey : counterKey c = counterKey d
  · have hset := counterOf_countSet d 0 s
    rwa [counterOf, counterIn, ← hkey] at hset
  · exact (counterIn_counterPut_ne s.log.counters d c 0 hkey).trans h

/-- Checker `i` has counted nothing. -/
structure CheckerClear (i : Nat) (s : State) : Prop where
  errors : counterOf s (.checkerErrors i) = 0
  bits : counterOf s (.checkerBits i) = 0
  losses : counterOf s (.checkerSyncLosses i) = 0

/-- A lane test starts with clear counts (R240). -/
def clearChecker (s : State) (i : Nat) : State :=
  countSet (.checkerErrors i) 0 (countSet (.checkerBits i) 0 (countSet (.checkerSyncLosses i) 0 s))

theorem checkerClear_clearChecker (i : Nat) (s : State) : CheckerClear i (clearChecker s i) :=
  ⟨counterOf_countSet .., counterOf_countSet_zero (counterOf_countSet ..) _,
    counterOf_countSet_zero (counterOf_countSet_zero (counterOf_countSet ..) _) _⟩

theorem CheckerClear.clearChecker (h : CheckerClear i s) (j : Nat) : CheckerClear i (clearChecker s j) := by
  have hstays {c : Counter} (hc : counterOf s c = 0) : counterOf (Proofs.clearChecker s j) c = 0 :=
    counterOf_countSet_zero (counterOf_countSet_zero (counterOf_countSet_zero hc _) _) _
  exact ⟨hstays h.errors, hstays h.bits, hstays h.losses⟩

theorem CheckerClear.foldl (h : CheckerClear i s) (l : List Nat) : CheckerClear i (l.foldl Proofs.clearChecker s) := by
  induction l generalizing s with
  | nil => exact h
  | cons j l ih =>
    rw [List.foldl_cons]
    exact ih (h.clearChecker j)

theorem checkerClear_foldl {l : List Nat} (h : i ∈ l) (s : State) : CheckerClear i (l.foldl clearChecker s) := by
  induction l generalizing s with
  | nil => exact absurd h List.not_mem_nil
  | cons j l ih =>
    rw [List.foldl_cons]
    obtain rfl | h := List.mem_cons.1 h
    · exact (checkerClear_clearChecker i s).foldl l
    · exact ih h _

/-- Clear counts are all that it changes. -/
theorem foldl_clearChecker_frame (l : List Nat) (s : State) :
    l.foldl clearChecker s = { s with log := (l.foldl clearChecker s).log } := by
  have hstep (u : State) (j : Nat) : clearChecker u j = { u with log := (clearChecker u j).log } := by
    unfold clearChecker countSet
    rfl
  induction l generalizing s with
  | nil => rfl
  | cons j l ih => rw [List.foldl_cons, ih, hstep]

theorem CheckerClear.modLink (h : CheckerClear i s) (f : Link → Link) : CheckerClear i (modLink f s) :=
  ⟨(counterOf_modLink ..).trans h.errors, (counterOf_modLink ..).trans h.bits, (counterOf_modLink ..).trans h.losses⟩

/-! ## LANE_TEST_START -/

/-- The lanes of a plan. -/
def plannedLanes (s : State) (p : Nat) : Nat := bits 3 0 (Table.getD {} s.legend.plans p).lanes

/-- The link with a plan in force: its lanes leave the traffic to `carry`, and the checkers start anew. -/
def testStarted (plan lanes carry now : Nat) (l : Link) : Link :=
  { l with
    testDue := false, plan := plan, down := if carry = 0 then .test else l.down, active := carry, tested := lanes
    riseDue := l.riseDue &&& (15 ^^^ lanes), rising := l.rising.map (fun e => (e.1 &&& (15 ^^^ lanes), e.2))
    others := l.others &&& (15 ^^^ lanes), checkers := [], testAt := now }

/-- The plan asked for comes into force on counts that are clear. -/
def startTest (lanes : Nat) (s : State) : State :=
  modLink (testStarted s.seq.plan lanes (s.link.active &&& (15 ^^^ lanes)) s.now) s

theorem exec_laneTestStart (hdue : s.link.testDue = true) (hphase : s.phase = .mode) (hmode : s.seq.mode = 6)
    (hready : linkReady s = true) (hnothing : nothingDue s = true) (hfree : s.link.busyUntil ≤ s.now + dt) :
    exec (.laneTestStart dt) s = .next (startTest (plannedLanes (advance dt s) (advance dt s).seq.plan)
      ([0, 1, 2, 3, 4].foldl clearChecker (advance dt s))) := by
  have hguard : (s.link.testDue && nothingDue s && decide (s.seq.mode = 6) && s.phase == .mode && linkReady s &&
      decide (s.link.busyUntil ≤ s.now + dt)) = true := by
    simp [hdue, hphase, hmode, hready, hnothing, hfree]
  show execLaneTestStart dt s = _
  unfold execLaneTestStart
  rw [hguard]
  rfl

/-! ## What a checker counts -/

/-- `t` is `s` with its checkers brought up to some instant: no other part of the link moves, no retraining is counted. -/
structure Settles (s t : State) : Prop where
  frame : t = { s with link := { s.link with checkers := t.link.checkers }, log := t.log }
  retrains : counterOf t .retrains = counterOf s .retrains

theorem Settles.refl (s : State) : Settles s s := ⟨rfl, rfl⟩

theorem Settles.trans (h : Settles s t) (h' : Settles t u) : Settles s u :=
  ⟨by rw [h'.frame, h.frame], h'.retrains.trans h.retrains⟩

/-- A checker in sync counts what it has compared and its errors, and compares on from now. -/
theorem settleChecker_synced (h : (Table.getD {} s.link.checkers lane).sync = true) (e : Nat) :
    settleChecker lane e s = modLink (fun l => { l with checkers := Table.put l.checkers lane { sync := true, since := s.now } })
      (count (.checkerErrors lane) ((checkerRun s lane).2 + e) (count (.checkerBits lane) (checkerRun s lane).1 s)) := by
  unfold settleChecker
  rw [if_pos h]

theorem settles_checkers (f : Link → Table Checker) (s : State) :
    Settles s (modLink (fun l => { l with checkers := f l }) s) := ⟨rfl, rfl⟩

theorem settles_count {c : Counter} (hc : counterKey .retrains ≠ counterKey c) (n : Nat) (s : State) :
    Settles s (count c n s) := ⟨rfl, counterOf_count_ne _ _ _ _ hc⟩

theorem settles_settleChecker (lane e : Nat) (s : State) : Settles s (settleChecker lane e s) := by
  by_cases h : (Table.getD {} s.link.checkers lane).sync = true
  · have hbits : counterKey .retrains ≠ counterKey (.checkerBits lane) := by
      simp only [counterKey]
      omega
    have herrors : counterKey .retrains ≠ counterKey (.checkerErrors lane) := by
      simp only [counterKey]
      omega
    rw [settleChecker_synced h]
    exact ((settles_count hbits _ s).trans (settles_count herrors _ _)).trans (settles_checkers _ _)
  · rw [settleChecker, if_neg h]
    exact .refl s

theorem settles_foldl {α : Type} {step : State → α → State} (h : ∀ u a, Settles u (step u a)) (l : List α) (s : State) :
    Settles s (l.foldl step s) := by
  induction l generalizing s with
  | nil => exact .refl s
  | cons a l ih => exact (h s a).trans (ih _)

theorem settles_settleCheckers (s : State) : Settles s (settleCheckers s) :=
  settles_foldl (fun u i => settles_settleChecker i 0 u) _ s

/-- The counts of a checker in sync once they are brought up to the present. -/
structure SettledCounts (lane e : Nat) (s t : State) : Prop where
  bits : counterOf t (.checkerBits lane) = counterNext (.checkerBits lane) (counterOf s (.checkerBits lane)) (checkerRun s lane).1
  errors : counterOf t (.checkerErrors lane) =
    counterNext (.checkerErrors lane) (counterOf s (.checkerErrors lane)) ((checkerRun s lane).2 + e)
  losses : counterOf t (.checkerSyncLosses lane) = counterOf s (.checkerSyncLosses lane)

theorem settledCounts_settleChecker (hlane : lane < 5) (h : (Table.getD {} s.link.checkers lane).sync = true) (e : Nat) :
    SettledCounts lane e s (settleChecker lane e s) := by
  have hbits : counterKey (.checkerBits lane) ≠ counterKey (.checkerErrors lane) := by
    simp only [counterKey]
    omega
  have hlosses : counterKey (.checkerSyncLosses lane) ≠ counterKey (.checkerErrors lane) := by
    simp only [counterKey]
    omega
  have hlosses' : counterKey (.checkerSyncLosses lane) ≠ counterKey (.checkerBits lane) := by
    simp only [counterKey]
    omega
  rw [settleChecker_synced h]
  refine ⟨?_, ?_, ?_⟩
  · rw [counterOf_modLink, counterOf_count_ne _ _ _ _ hbits, counterOf_count]
  · rw [counterOf_modLink, counterOf_count, counterOf_count_ne _ _ _ _ hbits.symm]
  · rw [counterOf_modLink, counterOf_count_ne _ _ _ _ hlosses, counterOf_count_ne _ _ _ _ hlosses']

/-! ## CHECKER_SYNC and CHECKER_SYNC_LOSS -/

theorem checkerUsed_advance (dt lane : Nat) (s : State) : checkerUsed (advance dt s) lane = checkerUsed s lane := by
  simp [checkerUsed]

theorem exec_checkerSync {l : List Bool} (hlane : lane < 5) (hused : checkerUsed s lane = true)
    (hgains : checkerGains (if lane = 4 then (planNow s).patUp else (planNow s).patDown) l = true)
    (hsync : (Table.getD {} s.link.checkers lane).sync = false) : exec (.checkerSync dt ⟨lane, l⟩) s =
      .next (modLink (fun l => { l with checkers := Table.put l.checkers lane { sync := true, since := s.now + dt } })
        (advance dt s)) := by
  simp [exec, execCheckerSync, hlane, checkerUsed_advance, hused, hgains, hsync]

/-- Sync is lost now. -/
def syncLost (lane now : Nat) (s : State) : State :=
  modLink (fun l => { l with checkers := Table.put l.checkers lane { sync := false, since := now } })
    (count (.checkerSyncLosses lane) 1 s)

theorem exec_checkerSyncLoss (hlane : lane < 5) (hused : checkerUsed s lane = true)
    (hsync : (Table.getD {} s.link.checkers lane).sync = true) (wrong : List Nat) : exec (.checkerSyncLoss dt lane e wrong) s =
      .next (when_ (checkerLoses wrong) (syncLost lane (s.now + dt)) (settleChecker lane e (advance dt s))) := by
  simp [exec, execCheckerSyncLoss, hlane, checkerUsed_advance, hused, hsync]
  rfl

/-! ## LANE_TEST_END -/

/-- The plan ends on the link: no checker is in sync, and a tested upstream lane starts again at stage 1. -/
def planEnded (up : Bool) (now : Nat) (l : Link) : Link :=
  let l := { l with plan := 0, checkers := l.checkers.map (fun c => (c.1, { c.2 with sync := false })) }
  if up then { receiverBack 1 now l with corrected := false } else l

/-- The end of a plan moves no downstream lane. -/
theorem planEnded_lanes (up : Bool) (now : Nat) (l : Link) : (planEnded up now l).plan = 0 ∧
    (planEnded up now l).tested = l.tested ∧ (planEnded up now l).down = l.down ∧
    (planEnded up now l).active = l.active ∧ (planEnded up now l).intended = l.intended ∧
    (planEnded up now l).others = l.others := by
  cases up <;> exact ⟨rfl, rfl, rfl, rfl, rfl, rfl⟩

/-- The lanes come back from their test: none where none was tested; those alone where they carried nothing else; else beside
the ones that carry traffic (R237, R239). -/
def lanesBack (s : State) : State :=
  let t := modLink (fun l => { l with tested := 0 }) s
  if s.link.tested = 0 then t
  else if s.link.down == .test then linkRetrain s.link.tested t
  else count .retrains 1 (modLink (fun l => { l with
    others := l.others ||| s.link.tested, rising := risingNext s.now (l.good &&& (15 ^^^ l.active)) l }) t)

theorem laneTestEnd_eq (s : State) : laneTestEnd s = modLink (planEnded (upTested s) s.now) (lanesBack s) := rfl

theorem linkWork_lanesBack (s : State) : LinkWork s (lanesBack s) := by
  unfold lanesBack
  dsimp only
  repeat' split
  all_goals rfl

theorem lanesBack_tested (s : State) : (lanesBack s).link.tested = 0 := by
  unfold lanesBack
  dsimp only
  repeat' split
  all_goals rfl

theorem lanesBack_none (h : s.link.tested = 0) : lanesBack s = modLink (fun l => { l with tested := 0 }) s := if_pos h

theorem lanesBack_alone (h : s.link.tested ≠ 0) (hdown : s.link.down = .test) :
    lanesBack s = linkRetrain s.link.tested (modLink (fun l => { l with tested := 0 }) s) := by
  unfold lanesBack
  dsimp only
  rw [if_neg h, hdown]
  rfl

theorem lanesBack_beside (h : s.link.tested ≠ 0) (hdown : s.link.down ≠ .test) :
    lanesBack s = count .retrains 1 (modLink (fun l => { l with
      others := l.others ||| s.link.tested, rising := risingNext s.now (l.good &&& (15 ^^^ l.active)) l })
        (modLink (fun l => { l with tested := 0 }) s)) := by
  unfold lanesBack
  dsimp only
  rw [if_neg h, if_neg (by simpa using hdown)]

theorem counterOf_retrains_lanesBack (h : s.link.tested ≠ 0) :
    counterOf (lanesBack s) .retrains = counterNext .retrains (counterOf s .retrains) 1 := by
  by_cases hdown : s.link.down = .test
  · rw [lanesBack_alone h hdown]
    exact counterOf_count ..
  · rw [lanesBack_beside h hdown]
    exact counterOf_count ..

/-- The checkers with the errors of their lanes reported, and all brought up to the present. -/
def testsSettled (errors : List (Nat × Nat)) (s : State) : State :=
  settleCheckers (errors.foldl (fun u c => settleChecker c.1 c.2 u) s)

theorem settles_testsSettled (errors : List (Nat × Nat)) (s : State) : Settles s (testsSettled errors s) := by
  have hreported := settles_foldl (step := fun u (c : Nat × Nat) => settleChecker c.1 c.2 u)
    (fun u c => settles_settleChecker c.1 c.2 u) errors s
  exact hreported.trans (settles_settleCheckers _)

theorem exec_laneTestEnd {errors : List (Nat × Nat)} (hlanes : ∀ c ∈ errors, c.1 < 5) (hplan : s.link.plan ≠ 0)
    (hdue : s.link.testAt + sec (planNow s).duration ≤ s.now + dt) :
    exec (.laneTestEnd dt errors) s = .next (laneTestEnd (testsSettled errors (advance dt s))) := by
  have hall : errors.all (fun c => decide (c.1 < 5)) = true := List.all_eq_true.2 fun c hc => decide_eq_true (hlanes c hc)
  have hguard : (decide (s.link.plan ≠ 0) && decide (s.link.testAt + sec (planNow s).duration ≤ s.now + dt)) = true := by
    simp [hplan, hdue]
  show execLaneTestEnd dt errors s = _
  unfold execLaneTestEnd
  dsimp only
  rw [hall, need_true, advance_link, advance_now, planNow_advance, hguard, when_true, testsSettled]

/-! ## The settlement -/

/-- Settles O18: a start clears and takes, a checker counts while it is in sync, an end brings the lanes back by what they
carried. -/
theorem laneTests : Obligations.LaneTests := by
  unfold Obligations.LaneTests
  refine ⟨fun dt s hdue hphase hmode hready h1 h2 h3 h4 h5 hfree => ?start,
    fun dt lane l s hlane hused hgains hsync => ?sync, fun dt lane e wrong s hlane hused hsync hloses => ?loses,
    fun dt lane e wrong s hlane hused hsync hfew => ?reports, fun dt errors s hlanes hplan hdue => ?ends⟩
  case start =>
    have hnothing : nothingDue s = true := by simp [nothingDue, h1, h2, h3, h4, h5]
    have hmem {i : Nat} (hi : i < 5) : i ∈ [0, 1, 2, 3, 4] := by
      simp only [List.mem_cons, List.not_mem_nil, or_false]
      omega
    have hclear {i : Nat} (hi : i < 5) := checkerClear_foldl (hmem hi) (advance dt s)
    have hframe := foldl_clearChecker_frame [0, 1, 2, 3, 4] (advance dt s)
    have hexec := exec_laneTestStart (dt := dt) hdue hphase hmode hready hnothing hfree
    generalize [0, 1, 2, 3, 4].foldl clearChecker (advance dt s) = u at hclear hframe hexec
    have hlink : (startTest (plannedLanes s s.seq.plan) u).link = testStarted s.seq.plan (plannedLanes s s.seq.plan)
        (s.link.active &&& (15 ^^^ plannedLanes s s.seq.plan)) (s.now + dt) s.link := by
      rw [hframe, startTest, modLink_link, advance_link, advance_seq, advance_now]
    have hwork : LinkWork (advance dt s) (startTest (plannedLanes s s.seq.plan) u) := by
      have hclears : LinkWork (advance dt s) u := by
        unfold LinkWork
        rw [hframe]
      exact hclears.trans (linkWork_modLink ..)
    have hplanned : plannedLanes (advance dt s) (advance dt s).seq.plan = plannedLanes s s.seq.plan := by
      simp [plannedLanes]
    rw [hplanned] at hexec
    refine ⟨_, hexec, fun i hi => ?_, by rw [hlink]; rfl, by rw [hlink]; rfl, by rw [hlink]; rfl, ?_⟩
    · obtain ⟨herrors, hbits, hlosses⟩ := (hclear hi).modLink
        (testStarted u.seq.plan (plannedLanes s s.seq.plan) (u.link.active &&& (15 ^^^ plannedLanes s s.seq.plan)) u.now)
      exact ⟨herrors, hbits, hlosses⟩
    · rw [hwork, hlink]
      rfl
  case sync =>
    rw [exec_checkerSync hlane hused hgains hsync, modLink, advance_link]
  case loses =>
    have hloses : checkerLoses wrong = true := by simpa [checkerLoses] using hloses
    have hsync' : (Table.getD {} (advance dt s).link.checkers lane).sync = true := by rwa [advance_link]
    obtain ⟨hbits, herrors, hlosses⟩ := settledCounts_settleChecker hlane hsync' e
    have hframe := (settles_settleChecker lane e (advance dt s)).frame
    refine ⟨_, (exec_checkerSyncLoss hlane hused hsync wrong).trans (by rw [hloses, when_true]), ?_, ?_, ?_, ?_, ?_⟩
    · rw [syncLost, counterOf_modLink, counterOf_count, hlosses, counterOf_advance]
    · rw [syncLost, counterOf_modLink, counterOf_count_ne _ _ _ _ (by simp only [counterKey]; omega), hbits,
        counterOf_advance]
    · rw [syncLost, counterOf_modLink, counterOf_count_ne _ _ _ _ (by simp only [counterKey]; omega), herrors,
        counterOf_advance]
    · exact Table.getD_put_self ..
    · rw [hframe, advance_link]
      rfl
  case reports =>
    have hfew : checkerLoses wrong = false := by simp [checkerLoses, Nat.not_le.2 hfew]
    have hsync' : (Table.getD {} (advance dt s).link.checkers lane).sync = true := by rwa [advance_link]
    obtain ⟨-, herrors, hlosses⟩ := settledCounts_settleChecker hlane hsync' e
    have hframe := (settles_settleChecker lane e (advance dt s)).frame
    rw [counterOf_advance] at herrors hlosses
    rw [advance_link] at hframe
    refine ⟨_, (exec_checkerSyncLoss hlane hused hsync wrong).trans (by rw [hfew, when_false]), hlosses, herrors, ?_, hframe⟩
    rw [settleChecker_synced hsync', advance_now]
    exact Table.getD_put_self ..
  case ends =>
    have hsettles := settles_testsSettled errors (advance dt s)
    have hexec := exec_laneTestEnd (dt := dt) hlanes hplan hdue
    generalize testsSettled errors (advance dt s) = u at hsettles hexec
    have hlink : u.link = { s.link with checkers := u.link.checkers } := by
      rw [← advance_link dt s]
      exact congrArg State.link hsettles.frame
    have hretrains : counterOf u .retrains = counterOf s .retrains := hsettles.retrains.trans (counterOf_advance ..)
    have hwork : LinkWork (advance dt s) u := by
      unfold LinkWork
      rw [hsettles.frame]
    have hends := (hwork.trans (linkWork_lanesBack u)).trans (linkWork_modLink (planEnded (upTested u) u.now) _)
    obtain ⟨hnone, htested, hdown, hactive, hintended, hothers⟩ :=
      planEnded_lanes (upTested u) u.now (lanesBack u).link
    rw [laneTestEnd_eq] at hexec
    refine ⟨_, hexec, hnone, ?_, htested.trans (lanesBack_tested u), fun h => ⟨?_, ?_⟩, fun h => ⟨?_, fun hd => ?_, fun hd => ?_⟩,
      hends⟩
    · rw [hends, advance_sec]
    · rw [modLink_link, hdown, lanesBack_none (by rw [hlink]; exact h), modLink_link, hlink]
    · rw [counterOf_modLink, lanesBack_none (by rw [hlink]; exact h), counterOf_modLink, hretrains]
    · rw [counterOf_modLink, counterOf_retrains_lanesBack (by rw [hlink]; exact h), hretrains]
    · have hback := lanesBack_alone (s := u) (by rw [hlink]; exact h) (by rw [hlink]; exact hd)
      rw [hlink] at hback
      rw [modLink_link, hdown, hactive, hintended, hback]
      exact ⟨rfl, rfl, rfl⟩
    · have hback := lanesBack_beside (s := u) (by rw [hlink]; exact h) (by rw [hlink]; exact hd)
      rw [modLink_link, hdown, hactive, hothers, hback, count_link, modLink_link, modLink_link, hlink]
      exact ⟨rfl, rfl, rfl⟩

end Sys2Proof.Proofs
end

section
/-! Mode requests: refused on arrival, latched, or the exit from Safe stop (R232, R294, R302). -/

namespace Sys2Proof.Proofs

open Sys2Proof Sys2Proof.Machine Sys2Proof.Safety Sys2Proof.Laws

variable {dt : Nat} {body : List Byte} {codes : List Nat} {rd : Bool} {s u : State}

/-! ## A refusal -/

@[simp] theorem ackMode_seq (e r n : Nat) (s : State) : (ackMode e r n s).seq = { s.seq with lastResult := r } := by
  rw [ackMode, due2_seq]

@[simp] theorem refuseMode_seq (e r : Nat) (s : State) : (refuseMode e r s).seq = { s.seq with lastResult := r } := by
  rw [refuseMode, count_seq, ackMode_seq]

theorem counterOf_refuseMode (e r : Nat) (s : State) : counterOf (refuseMode e r s) .requestsRefused =
    counterNext .requestsRefused (counterOf s .requestsRefused) 1 := by
  rw [refuseMode, counterOf_count, counterOf_congr _ s (ackMode e r 0 s) (by rw [ackMode_log])]

/-- Watching the safety status word counts nothing but an overwritten log entry. -/
theorem counterOf_watchSafety {c : Counter} (hc : counterKey c ≠ counterKey .logOverwrites) (f : State → State) (s : State) :
    counterOf (watchSafety f s) c = counterOf (f s) c := by
  obtain h | h := watchSafety_eq f s
  · rw [h]
  · rw [h, counterOf_logEvent _ _ _ _ _ _ hc]
    rfl

@[simp] theorem sideOf_logEvent (d : Side) (k e i a : Nat) (s : State) : sideOf (logEvent k e i a s) d = sideOf s d := by
  cases d <;> simp [sideOf]

/-! ## The exit from Safe stop -/

theorem biasRetarget_eq (s : State) : biasRetarget s = { s with bias := (biasRetarget s).bias } := by
  unfold biasRetarget
  split <;> rfl

/-- Enabling the bias changes the bias alone. -/
theorem biasEnable_eq (s : State) : biasEnable s = { s with bias := (biasEnable s).bias } := by
  unfold biasEnable
  dsimp only
  split
  · exact biasRetarget_eq s
  · rw [biasRetarget_eq]
    rfl

/-- A request accepted in Safe stop (R302): the state before spin-up. -/
def stopLeft (r : Request) (s : State) : State :=
  let t := modSide .b releaseChannel (modSide .a releaseChannel (ackMode r.echo 0 ((s.seq.sheet + 1) % 2 ^ 32) s))
  modSeq (fun q => { q with mode := 0, returnIdle := true, returnMode := 0, returnDue := false })
    { t with banks := t.banks.map (fun e => (e.1, { e.2 with fired := false })), calib := { t.calib with recoveryDue := true } }

theorem safeStopExit_eq (r : Request) (s : State) :
    ∃ w, safeStopExit r s = logEvent 1 5 0 w (spinUp (stopLeft r s)) := ⟨_, rfl⟩

/-- What the exit leaves: spin-up in Start, answered, and both channels as they were before any cause. -/
theorem safeStopExit_settles (r : Request) (s : State) : (safeStopExit r s).phase = .spinUp ∧
    (safeStopExit r s).seq.lastResult = 0 ∧ (safeStopExit r s).seq.returnIdle = true ∧
    (safeStopExit r s).motor.settled = false ∧ ∀ d, (sideOf (safeStopExit r s) d).stopped = false ∧
      (sideOf (safeStopExit r s) d).causes = [] ∧ (sideOf (safeStopExit r s) d).notice = false ∧
      (sideOf (safeStopExit r s) d).motEn = true := by
  obtain ⟨w, hw⟩ := safeStopExit_eq r s
  have hphase : (spinUp (stopLeft r s)).phase = .spinUp := by
    rw [spinUp, biasEnable_eq]
  have hsettled : (spinUp (stopLeft r s)).motor.settled = false := by
    rw [spinUp, biasEnable_eq]
  have hseq : (spinUp (stopLeft r s)).seq.lastResult = 0 ∧ (spinUp (stopLeft r s)).seq.returnIdle = true := by
    rw [spinUp, biasEnable_eq]
    simp [stopLeft]
  have hside (d : Side) : ∃ c : SafeCh, sideOf (spinUp (stopLeft r s)) d = c ∧ c.stopped = false ∧ c.causes = [] ∧
      c.notice = false ∧ c.motEn = true := by
    rw [spinUp, biasEnable_eq]
    cases d <;> exact ⟨_, rfl, rfl, rfl, rfl, rfl⟩
  refine ⟨by rw [hw, logEvent_phase, hphase], by rw [hw, logEvent_seq, hseq.1], by rw [hw, logEvent_seq, hseq.2],
    by rw [hw, logEvent_motor, hsettled], fun d => ?_⟩
  obtain ⟨c, hc, hrest⟩ := hside d
  rwa [hw, sideOf_logEvent, hc]

/-! ## The ways of a request -/

/-- The mode a request asks for. -/
def askedMode (body : List Byte) : Nat := bits 55 53 (leAt body 0 8)

/-- The lane test plan it names. -/
def askedPlan (body : List Byte) : Nat := bits 52 50 (leAt body 0 8)

/-- A request names no plan that the image lacks. -/
def PlanKnown (body : List Byte) (u : State) : Prop :=
  askedMode body = 6 → askedPlan body = 0 ∨ tableHas u.legend.plans (askedPlan body) = true

theorem modeRequest_undeclared (h : requestable u (askedMode body) = false) :
    modeRequest body u = refuseMode (requestOf body u).echo 4 u := by
  have hnot : (!requestable u (requestOf body u).mode) = true := by
    rw [Bool.not_eq_true']
    exact h
  unfold modeRequest
  exact if_pos hnot

theorem modeRequest_planUnknown (h : requestable u (askedMode body) = true) (hmode : askedMode body = 6)
    (hplan : askedPlan body ≠ 0) (hlacks : tableHas u.legend.plans (askedPlan body) = false) :
    modeRequest body u = refuseMode (requestOf body u).echo 5 u := by
  have hnot : ¬(!requestable u (requestOf body u).mode) = true := by
    rw [Bool.not_eq_true', Bool.not_eq_false]
    exact h
  have hbad : (requestOf body u).mode = 6 ∧ (requestOf body u).plan ≠ 0 ∧
      (!tableHas u.legend.plans (requestOf body u).plan) = true :=
    ⟨hmode, hplan, (Bool.not_eq_true' _).mpr hlacks⟩
  unfold modeRequest
  exact (if_neg hnot).trans (if_pos hbad)

/-- A declared request that names no unknown plan is latched, or in Safe stop leaves it or is refused. -/
theorem modeRequest_known (h : requestable u (askedMode body) = true) (hplan : PlanKnown body u) : modeRequest body u =
    if u.phase == .safeStop then
      if askedMode body = 5 ∧ exitReady u then safeStopExit (requestOf body u) u else refuseMode (requestOf body u).echo 2 u
    else latchRequest (requestOf body u) u := by
  have hnot : ¬(!requestable u (requestOf body u).mode) = true := by
    rw [Bool.not_eq_true', Bool.not_eq_false]
    exact h
  have hgood : ¬((requestOf body u).mode = 6 ∧ (requestOf body u).plan ≠ 0 ∧
      (!tableHas u.legend.plans (requestOf body u).plan) = true) := by
    rintro ⟨hmode, hnone, hlacks⟩
    obtain hzero | hhas := hplan hmode
    · exact hnone hzero
    · exact absurd hhas (Bool.eq_false_iff.1 ((Bool.not_eq_true' _).mp hlacks))
  unfold modeRequest
  exact (if_neg hnot).trans (if_neg hgood)

/-- The latch takes the request; one that it held is answered as replaced. -/
theorem latchRequest_settles (r : Request) (s : State) : (latchRequest r s).seq.latch = some r ∧
    (s.seq.latch ≠ none → (latchRequest r s).seq.lastResult = 1) ∧ (latchRequest r s).phase = s.phase ∧
    (latchRequest r s).seq.mode = s.seq.mode := by
  unfold latchRequest
  dsimp only
  split
  · next h => exact ⟨rfl, fun hheld => absurd h hheld, rfl, rfl⟩
  · simp

/-- What an accepted request does shows in the state, the log and the device message apart. -/
theorem exec_modeRequest (h : Received 0x82 codes rd body (advance dt s) u) :
    ∃ t, exec (.modeRequest dt codes rd) s = .next t ∧ t.seq = (modeRequest body u).seq ∧
      t.phase = (modeRequest body u).phase ∧ t.motor = (modeRequest body u).motor ∧
      (∀ d, sideOf t d = sideOf (modeRequest body u) d) ∧
      counterOf t .requestsRefused = counterOf (modeRequest body u) .requestsRefused := by
  have hacts : onPacket 0x82 codes rd modeRequest (advance dt s) = modeRequest body u := onPacket_accepted h.1 h.2
  refine ⟨_, rfl, ?_, ?_, ?_, fun d => ?_, ?_⟩
  · rw [watchSafety_seq, hacts]
  · rw [watchSafety_phase, hacts]
  · rw [watchSafety_motor, hacts]
  · rw [sideOf_watchSafety, hacts]
  · rw [counterOf_watchSafety (by decide), hacts]

/-- Settles O23: by the way that the request takes. -/
theorem modeRequests : Obligations.ModeRequests := by
  unfold Obligations.ModeRequests
  intro dt codes rd body s u hreceived
  obtain ⟨t, hexec, hseq, hphase, hmotor, hside, hcount⟩ := exec_modeRequest hreceived
  refine ⟨fun h => ?undeclared, fun h hmode hplan hlacks => ?plan, fun h hplan hstop => ?latched,
    fun h hstop hmode hready => ?exit, fun h hstop hstays hplan => ?held⟩
  case undeclared =>
    rw [modeRequest_undeclared h] at hseq hphase hcount
    rw [refuseMode_seq] at hseq
    rw [refuseMode_phase] at hphase
    rw [counterOf_refuseMode] at hcount
    exact ⟨t, hexec, by rw [hseq], by rw [hseq], hphase, hcount⟩
  case plan =>
    rw [modeRequest_planUnknown h hmode hplan hlacks] at hseq hphase hcount
    rw [refuseMode_seq] at hseq
    rw [refuseMode_phase] at hphase
    rw [counterOf_refuseMode] at hcount
    exact ⟨t, hexec, by rw [hseq], by rw [hseq], hphase, hcount⟩
  case latched =>
    rw [modeRequest_known h hplan, if_neg (by simpa using hstop)] at hseq hphase
    obtain ⟨hlatch, hreplaced, hsame, hmode⟩ := latchRequest_settles (requestOf body u) u
    exact ⟨t, hexec, hseq ▸ hlatch, rfl, rfl, fun hheld => hseq ▸ hreplaced hheld, hphase.trans hsame, hseq ▸ hmode⟩
  case exit =>
    have hplan : PlanKnown body u := fun h6 => absurd (hmode.symm.trans h6) (by decide)
    rw [modeRequest_known h hplan, if_pos (by simpa using hstop), if_pos ⟨hmode, hready⟩] at hseq hphase hmotor hside
    obtain ⟨hspin, hresult, hidle, hsettled, hsides⟩ := safeStopExit_settles (requestOf body u) u
    exact ⟨t, hexec, hphase.trans hspin, hseq ▸ hresult, hseq ▸ hidle, hmotor ▸ hsettled, fun d => hside d ▸ hsides d⟩
  case held =>
    have hnot : ¬(askedMode body = 5 ∧ exitReady u = true) := fun ⟨hmode, hready⟩ =>
      hstays.elim (· hmode) (fun hout => absurd hready (Bool.eq_false_iff.1 hout))
    rw [modeRequest_known h hplan, if_pos (by simpa using hstop), if_neg hnot] at hseq hphase hcount
    rw [refuseMode_seq] at hseq
    rw [refuseMode_phase] at hphase
    rw [counterOf_refuseMode] at hcount
    exact ⟨t, hexec, by rw [hseq], hphase.trans hstop, hcount⟩

end Sys2Proof.Proofs
end

section
/-! Status queries, the event log, the pages and the counters (R234, R431, R433 to R435). -/

namespace Sys2Proof.Proofs

open Sys2Proof Sys2Proof.Machine Sys2Proof.Safety Sys2Proof.Laws

variable {dt : Nat} {body : List Byte} {codes : List Nat} {rd : Bool} {s u : State}

/-! ## STATUS_QUERY (R234) -/

/-- A guarded list keeps the elements within its bound. -/
theorem length_filterMap_range_lt {α : Type} (f : Nat → α) (w m n : Nat) :
    ((List.range n).filterMap (fun i => if w + i < m then some (f i) else none)).length = min n (m - w) := by
  induction n with
  | zero => simp
  | succ n ih =>
    rw [List.range_succ, List.filterMap_append, List.length_append, ih]
    by_cases h : w + n < m
    · simp only [List.filterMap_cons, h, if_true, List.filterMap_nil, List.length_singleton]
      omega
    · simp only [List.filterMap_cons, h, if_false, List.filterMap_nil, List.length_nil]
      omega

/-- A query is answered as far as the space goes. -/
theorem statusWords_length (s : State) (w n : Nat) : (statusWords s w n).length = min n (1024 - w) :=
  length_filterMap_range_lt ..

/-- The word address, the length and the echo of a query. -/
def queryAddr (body : List Byte) : Nat := bits 55 46 (leAt body 0 8)
def queryLen (body : List Byte) : Nat := bits 45 39 (leAt body 0 8)
def queryEcho (body : List Byte) : Nat := field 25 39 (leAt body 0 8 / 2 ^ 39)

theorem exec_statusQuery (h : Received 0x84 codes rd body (advance dt s) u) :
    exec (.statusQuery dt codes rd) s = .next (statusQuery body u) :=
  congrArg Host.Outcome.next (onPacket_accepted h.1 h.2)

/-- The response a query waits for: its first word and the data of its snapshot. -/
def snapshotOf (body : List Byte) (u : State) : Nat × List Byte :=
  (queryEcho body + field 3 36 (if 1024 < queryAddr body + queryLen body then 1 else 0),
    leBytes 8 u.grat.localTime ++ (statusWords u (queryAddr body) (queryLen body)).flatMap (leBytes 4))

/-- A query that is acted on takes its snapshot, and no more than the movement channel's work beside it. -/
theorem statusQuery_taken (hlow : 1 ≤ queryLen body) (hhigh : queryLen body ≤ 64) (hfew : queriesPending u < 8) :
    (statusQuery body u).dma.snapshots = u.dma.snapshots ++ [snapshotOf body u] ∧
      statusQuery body u = { u with dma := (statusQuery body u).dma, log := (statusQuery body u).log } := by
  have hlen : ¬(queryLen body = 0 ∨ 64 < queryLen body) := by omega
  have hroom : ¬8 ≤ queriesPending u := Nat.not_le.2 hfew
  have htaken : statusQuery body u =
      let t := { u with dma := { u.dma with snapshots := u.dma.snapshots ++ [snapshotOf body u] } }
      if u.dma.snapshots.isEmpty then moveStart 12 5 2 (snapshotOf body u).2.length t else t :=
    (if_neg hlen).trans (if_neg hroom)
  rw [htaken]
  dsimp only
  split
  · have hmoves := moves_moveStart 12 5 2 (snapshotOf body u).2.length
      { u with dma := { u.dma with snapshots := u.dma.snapshots ++ [snapshotOf body u] } }
    exact ⟨hmoves.snapshots, hmoves.frame⟩
  · exact ⟨rfl, rfl⟩

/-- A refusal is a response of two words: the echo with its result, and the time. -/
theorem statusRefused_link (hlink : linkTakes u = true) (w0 result : Nat) : statusRefused w0 result u =
    { u with link := { u.link with
      q3 := u.link.q3 ++ [pkt 0x08 (wordsLe [w0 + field 3 36 result, u.grat.localTime])] } } :=
  due3_untagged rfl hlink

theorem statusQuery_full (hlow : 1 ≤ queryLen body) (hhigh : queryLen body ≤ 64) (hmany : 8 ≤ queriesPending u) :
    statusQuery body u = statusRefused (queryEcho body) 2 u := by
  have hlen : ¬(queryLen body = 0 ∨ 64 < queryLen body) := by omega
  exact (if_neg hlen).trans (if_pos hmany)

theorem statusQuery_badLength (h : queryLen body = 0 ∨ 64 < queryLen body) :
    statusQuery body u = statusRefused (queryEcho body) 4 u := if_pos h

/-! ## The queue of the event log (R433) -/

/-- The word of an entry: class, event, unit and argument. -/
def entryWord (cls ev inst arg : Nat) : Nat := field 8 56 cls + field 8 48 ev + field 16 32 inst + field 32 0 arg

theorem entryWord_fields (cls ev inst arg : Nat) : bits 63 56 (entryWord cls ev inst arg) = cls % 256 ∧
    bits 55 48 (entryWord cls ev inst arg) = ev % 256 ∧ bits 47 32 (entryWord cls ev inst arg) = inst % 65536 ∧
    bits 31 0 (entryWord cls ev inst arg) = arg % 2 ^ 32 := by
  simp only [entryWord, field, bits, Nat.shiftLeft_eq, Nat.shiftRight_eq_div_pow]
  omega

theorem logEvent_queued (h : s.log.queue.length < 64) (cls ev inst arg : Nat) : logEvent cls ev inst arg s =
    { s with log := { s.log with queue := s.log.queue ++ [(s.grat.localTime, entryWord cls ev inst arg)] } } :=
  if_neg (Nat.not_le.2 h)

theorem logEvent_lost (h : 64 ≤ s.log.queue.length) (cls ev inst arg : Nat) :
    logEvent cls ev inst arg s = count .logOverwrites 1 { s with log := { s.log with overwritten := true } } :=
  if_pos h

/-! ## EVENT_LOG_WRITE (R433) -/

/-- The entry moves to the ring and is counted, and a full ring counts the entry that it loses. -/
def ringWritten (e : Nat × Nat) (r : List (Nat × Nat)) (s : State) : State :=
  let full := decide (1024 ≤ s.log.ring.length)
  let t := { s with log := { s.log with
    queue := r, ring := (e :: s.log.ring).take 1024, lastWrite := some s.now
    overwritten := s.log.overwritten || full } }
  count .eventsLogged 1 (if full then count .logOverwrites 1 t else t)

variable {e : Nat × Nat} {r : List (Nat × Nat)}

/-- Beside the ring an entry goes to the recorder or nowhere. -/
theorem logWrite_cases (e : Nat × Nat) (r : List (Nat × Nat)) (s : State) :
    logWrite e r s = ringWritten e r s ∨ ∃ f, logWrite e r s = modRec f (ringWritten e r s) := by
  have h : logWrite e r s =
      if (ringWritten e r s).recd.st = 3 ∧ ((ringWritten e r s).recd.seg.isSome ∨ recordingNow (ringWritten e r s)) then
        modRec (fun x => { x with events := x.events ++ [e] }) (ringWritten e r s)
      else ringWritten e r s := rfl
  rw [h]
  split
  · exact .inr ⟨_, rfl⟩
  · exact .inl rfl

theorem logWrite_log (e : Nat × Nat) (r : List (Nat × Nat)) (s : State) :
    (logWrite e r s).log = (ringWritten e r s).log := by
  obtain h | ⟨f, h⟩ := logWrite_cases e r s <;> rw [h]
  rfl

theorem ringWritten_log (e : Nat × Nat) (r : List (Nat × Nat)) (s : State) : (ringWritten e r s).log.queue = r ∧
    (ringWritten e r s).log.ring = (e :: s.log.ring).take 1024 ∧ (ringWritten e r s).log.lastWrite = some s.now := by
  unfold ringWritten
  dsimp only
  split <;> exact ⟨rfl, rfl, rfl⟩

theorem ringWritten_frame (e : Nat × Nat) (r : List (Nat × Nat)) (s : State) :
    ringWritten e r s = { s with log := (ringWritten e r s).log } := by
  unfold ringWritten
  dsimp only
  split <;> rfl

theorem logWrite_frame (e : Nat × Nat) (r : List (Nat × Nat)) (s : State) :
    logWrite e r s = { s with log := (logWrite e r s).log, recd := (logWrite e r s).recd } := by
  obtain h | ⟨f, h⟩ := logWrite_cases e r s
  · rw [h, ringWritten_frame]
  · rw [h, ringWritten_frame]
    rfl

theorem counterOf_logOverwrites_logWrite (e : Nat × Nat) (r : List (Nat × Nat)) (s : State) :
    counterOf (logWrite e r s) .logOverwrites = if 1024 ≤ s.log.ring.length then
      counterNext .logOverwrites (counterOf s .logOverwrites) 1 else counterOf s .logOverwrites := by
  rw [counterOf_congr _ (ringWritten e r s) _ (by rw [logWrite_log]), ringWritten]
  dsimp only
  rw [counterOf_count_ne _ _ _ _ (by decide)]
  simp only [decide_eq_true_eq]
  split
  · exact counterOf_count ..
  · rfl

/-- At least 10 us have passed since the last entry was written. -/
def WriteDue (dt : Nat) (s : State) : Prop :=
  s.log.lastWrite = none ∨ ∃ w, s.log.lastWrite = some w ∧ w + us 10 ≤ s.now + dt

theorem exec_eventLogWrite_due (hqueue : s.log.queue = e :: r) (h : WriteDue dt s) :
    exec (.eventLogWrite dt) s = .next (logWrite e r (advance dt s)) := by
  obtain h | ⟨w, h, hdue⟩ := h
  · simp [exec, execEventLogWrite, hqueue, h]
  · simp [exec, execEventLogWrite, hqueue, h, Nat.not_lt.2 hdue]

theorem exec_eventLogWrite_early {w : Nat} (hqueue : s.log.queue = e :: r) (h : s.log.lastWrite = some w)
    (hearly : s.now + dt < w + us 10) : exec (.eventLogWrite dt) s = .next (advance dt s) := by
  simp [exec, execEventLogWrite, hqueue, h, hearly]

theorem exists_lastWrite_of_not_due (h : ¬WriteDue dt s) : ∃ w, s.log.lastWrite = some w ∧ s.now + dt < w + us 10 := by
  obtain ⟨hsome, hall⟩ := not_or.1 h
  obtain ⟨w, hw⟩ := Option.ne_none_iff_exists'.1 hsome
  exact ⟨w, hw, Nat.not_le.1 fun hdue => hall ⟨w, hw, hdue⟩⟩

/-! ## STATUS_PAGE_ADVANCE (R435) -/

/-- The next page of either kind. -/
def pageTurned (s : State) : State :=
  { s with log := { s.log with
    chPage := (s.log.chPage + 1) % 256, chTick := (s.log.chTick + 1) % 65536
    enPage := (s.log.enPage + 1) % 68, enTick := (s.log.enTick + 1) % 65536, pageAt := s.log.pageAt + 16000000 } }

theorem exec_statusPageAdvance (h : s.phase ≠ .reset) : exec (.statusPageAdvance dt) s =
    .next (when_ (decide (s.log.pageAt ≤ (advance dt s).grat.localTime)) pageTurned (advance dt s)) := by
  have hphase : ((advance dt s).phase != .reset) = true := by simpa using h
  show execStatusPageAdvance dt s = _
  unfold execStatusPageAdvance
  dsimp only
  rw [hphase, Bool.true_and, advance_log]
  rfl

/-! ## Counting (R431) -/

theorem counterNext_saturating {c : Counter} (h : counterSaturates c = true) (v n : Nat) :
    counterNext c v n = min (2 ^ counterWidth c - 1) (v + n) := if_pos h

theorem counterNext_modular {c : Counter} (h : counterSaturates c = false) (v n : Nat) :
    counterNext c v n = (v + n) % 2 ^ counterWidth c := if_neg (Bool.eq_false_iff.1 h)

/-! ## The settlement -/

/-- Settles O53: a query by its length and the queries pending, an entry by the room there is for it, a page by its time, a
count by the counter's kind. -/
theorem statusAndEventLog : Obligations.StatusAndEventLog := by
  unfold Obligations.StatusAndEventLog
  refine ⟨fun dt codes rd body s u h => ?query,
    fun cls ev inst arg s => ⟨fun h => ?queued, fun h => ?lost⟩, fun dt e r s hqueue => ?write,
    fun dt s h => ⟨_, exec_statusPageAdvance h, fun hdue => ?turned, fun hearly => ?waits⟩,
    fun c e n s => ⟨fun h => ?saturating, fun h => ?modular, counterOf_count_ne c e n s⟩⟩
  case query =>
    refine ⟨_, exec_statusQuery h, fun hlow hhigh hfew => ?_, fun hlow hhigh hmany hlink => ?_, fun hbad hlink => ?_⟩
    · obtain ⟨hsnapshots, hframe⟩ := statusQuery_taken hlow hhigh hfew
      exact ⟨hsnapshots, statusWords_length .., hframe⟩
    · rw [statusQuery_full hlow hhigh hmany, statusRefused_link hlink]
      exact ⟨rfl, rfl⟩
    · rw [statusQuery_badLength hbad, statusRefused_link hlink]
      exact ⟨rfl, rfl⟩
  case queued =>
    rw [logEvent_queued h]
    exact ⟨_, rfl, entryWord_fields ..⟩
  case lost =>
    rw [logEvent_lost h]
    exact ⟨rfl, rfl, counterOf_count ..⟩
  case write =>
    by_cases hdue : WriteDue dt s
    · obtain ⟨hq, hring, hlast⟩ := ringWritten_log e r (advance dt s)
      have hcount := counterOf_logOverwrites_logWrite e r (advance dt s)
      have hlog := logWrite_log e r (advance dt s)
      rw [advance_log] at hring hcount
      rw [advance_now] at hlast
      rw [counterOf_advance] at hcount
      rw [← hlog] at hq hring hlast
      refine ⟨_, exec_eventLogWrite_due hqueue hdue,
        fun _ => ⟨hq, hring, hlast, fun hroom => ?_, fun hfull => ?_, logWrite_frame ..⟩, fun w hw hearly => ?_⟩
      · rw [hcount, if_neg (Nat.not_le.2 hroom)]
      · rw [hcount, if_pos hfull.ge]
      · obtain hnone | ⟨v, hv, hlate⟩ := hdue
        · exact absurd (hnone.symm.trans hw) (by simp)
        · obtain rfl : v = w := Option.some.inj (hv.symm.trans hw)
          exact absurd hearly (Nat.not_lt.2 hlate)
    · obtain ⟨w, hw, hearly⟩ := exists_lastWrite_of_not_due hdue
      exact ⟨_, exec_eventLogWrite_early hqueue hw hearly, fun h => absurd h hdue, fun _ _ _ => rfl⟩
  case turned =>
    rw [decide_eq_true hdue, when_true, pageTurned, advance_log]
    exact ⟨rfl, rfl, rfl, rfl, rfl, rfl, rfl, rfl, rfl⟩
  case waits =>
    rw [decide_eq_false (Nat.not_le.2 hearly), when_false]
  case saturating =>
    rw [counterOf_count, counterNext_saturating h]
  case modular =>
    rw [counterOf_count, counterNext_modular h]

end Sys2Proof.Proofs
end

section
/-! No operation inside a command touches the fuses, but that of CLAIM and VERSION_ADVANCE (R249, R250). -/

namespace Sys2Proof.Laws

open Sys2Proof Sys2Proof.Machine

@[simp] theorem ite_otp (c : Prop) [Decidable c] (s t : State) :
    (if c then s else t).otp = if c then s.otp else t.otp := apply_ite ..

@[simp] theorem when_otp {f : State → State} (hf : ∀ u, (f u).otp = u.otp) (c : Bool) (s : State) :
    (when_ c f s).otp = s.otp := by
  cases c
  · rfl
  · exact hf s

@[simp] theorem foldl_otp {α : Type} {f : State → α → State} (hf : ∀ u x, (f u x).otp = u.otp) (l : List α)
    (s : State) :
    (l.foldl f s).otp = s.otp := by
  induction l generalizing s with
  | nil => rfl
  | cons x l ih => exact (ih _).trans (hf s x)

/-- The same for a fold that carries something beside the state. -/
@[simp] theorem foldl_snd_otp {α β : Type} {f : β × State → α → β × State}
    (hf : ∀ x a, (f x a).2.otp = x.2.otp) (l : List α) (x : β × State) : (l.foldl f x).2.otp = x.2.otp := by
  induction l generalizing x with
  | nil => rfl
  | cons a l ih => exact (ih _).trans (hf x a)

@[simp] theorem foldr_otp {α : Type} {f : α → State → State} (hf : ∀ u x, (f x u).otp = u.otp) (l : List α)
    (s : State) :
    (l.foldr f s).otp = s.otp := by
  induction l with
  | nil => rfl
  | cons x l ih => exact (hf _ x).trans ih

@[simp] theorem foldl_setAmb_otp {α : Type} (g : α → Nat) (f : α → Ambient) (l : List α) (s : State) :
    (l.foldl (fun u x => setAmb (g x) (f x) u) s).otp = s.otp :=
  foldl_otp (fun _ _ => setAmb_otp ..) l s

@[simp] theorem foldl_modBank_otp {α : Type} (g : α → Nat) (f : α → Bank → Bank) (l : List α) (s : State) :
    (l.foldl (fun u x => modBank (g x) (f x) u) s).otp = s.otp :=
  foldl_otp (fun _ _ => modBank_otp ..) l s

@[simp] theorem foldl_modChan_otp {α : Type} (g : α → Nat) (f : α → Chan → Chan) (l : List α) (s : State) :
    (l.foldl (fun u x => modChan (g x) (f x) u) s).otp = s.otp :=
  foldl_otp (fun _ _ => modChan_otp ..) l s

@[simp] theorem foldl_modBlock_otp {α : Type} (g : α → Nat) (f : α → Block → Block) (l : List α) (s : State) :
    (l.foldl (fun u x => modBlock (g x) (f x) u) s).otp = s.otp :=
  foldl_otp (fun _ _ => modBlock_otp ..) l s

@[simp] theorem foldl_countSet_otp {α : Type} (g : α → Counter) (f : α → Nat) (l : List α) (s : State) :
    (l.foldl (fun u x => countSet (g x) (f x) u) s).otp = s.otp :=
  foldl_otp (fun _ _ => countSet_otp ..) l s

/-! ## Ops -/

@[simp] theorem draw_otp (k : Nat) (s : State) : (draw k s).2.otp = s.otp := by simp [draw]

/-! ## Events -/

@[simp] theorem setBankState_otp (b st : Nat) (s : State) :
    (setBankState b st s).otp = s.otp := by simp [setBankState]

@[simp] theorem changeEngine_otp (e : Nat) (v : Engine) (s : State) :
    (changeEngine e v s).otp = s.otp := by simp [changeEngine]

/-! ## Packets -/

@[simp] theorem discardUp_otp (type : Nat) (s : State) : (discardUp type s).otp = s.otp := by simp [discardUp]

@[simp] theorem takeToken_otp (s : State) : (takeToken s).otp = s.otp := by simp [takeToken]

@[simp] theorem checkTag_otp (l : List Byte) (s : State) : (checkTag l s).2.otp = s.otp := by
  simp only [checkTag]
  (repeat' split) <;> simp

@[simp] theorem receive_otp (l : List Byte) (viol : Bool) (s : State) : (receive l viol s).2.otp = s.otp := by
  rw [receive_eq]

@[simp] theorem onPacket_otp {f : List Byte → State → State} (hf : ∀ b u, (f b u).otp = u.otp) (type : Nat)
    (codes : List Nat) (rd : Bool) (s : State) : (onPacket type codes rd f s).otp = s.otp := by
  have hr := receive_otp (rxBytes s codes rd) (rxViol s codes rd) s
  unfold onPacket
  split
  · rfl
  · split <;> simp_all

/-! ## Link -/

@[simp] theorem linkTransmitStart_otp (wait : Nat) (s : State) :
    (linkTransmitStart wait s).otp = s.otp := by simp [linkTransmitStart]

@[simp] theorem linkStop_otp (s : State) : (linkStop s).otp = s.otp := by simp [linkStop]

@[simp] theorem linkRetrain_otp (lanes : Nat) (s : State) : (linkRetrain lanes s).otp = s.otp := by simp [linkRetrain]

@[simp] theorem noteReady_otp (s : State) : (noteReady s).otp = s.otp := by simp [noteReady]

@[simp] theorem linkUp_otp (lanes : Nat) (s : State) : (linkUp lanes s).otp = s.otp := by simp [linkUp]

@[simp] theorem utsAct_otp (st : Nat) (s : State) : (utsAct st s).otp = s.otp := by
  unfold utsAct
  split <;> simp

@[simp] theorem riseAtBoundary_otp (s : State) : (riseAtBoundary s).otp = s.otp := by simp [riseAtBoundary]

@[simp] theorem endSession_otp (s : State) : (endSession s).otp = s.otp := by simp [endSession]

@[simp] theorem freePool_otp (x : Nat) (s : State) : (freePool x s).otp = s.otp := by simp [freePool]

@[simp] theorem discardPending_otp (s : State) : (discardPending s).otp = s.otp := by
  simp only [discardPending]
  exact foldl_otp (fun u p => by split <;> rfl) _ _

@[simp] theorem linkDown_otp (s : State) : (linkDown s).otp = s.otp := by simp [linkDown]

@[simp] theorem wakeLanes_otp (s : State) : (wakeLanes s).otp = s.otp := by simp [wakeLanes]

@[simp] theorem modSheetOut_otp (n : Nat) (f : SheetOut → SheetOut) (s : State) :
    (modSheetOut n f s).otp = s.otp := by simp [modSheetOut]

@[simp] theorem activateSession_otp (s : State) : (activateSession s).otp = s.otp := by
  unfold activateSession
  split <;> simp

@[simp] theorem formPacket_otp (p : Pkt) (s : State) : (formPacket p s).2.otp = s.otp := by
  simp only [formPacket]
  (repeat' split) <;> simp

@[simp] theorem helloSent_otp (p : Pkt) (at_ : Nat) (s : State) : (helloSent p at_ s).otp = s.otp := by
  unfold helloSent
  split <;> simp

@[simp] theorem sendPacket_otp (p : Pkt) (s : State) : (sendPacket p s).otp = s.otp := by
  simp only [sendPacket]
  (repeat' split) <;> simp

@[simp] theorem settleChecker_otp (lane errors : Nat) (s : State) :
    (settleChecker lane errors s).otp = s.otp := by simp [settleChecker]

@[simp] theorem settleCheckers_otp (s : State) : (settleCheckers s).otp = s.otp := by simp [settleCheckers]

@[simp] theorem laneTestEnd_otp (s : State) : (laneTestEnd s).otp = s.otp := by simp [laneTestEnd]

@[simp] theorem endLaneTest_otp (s : State) : (endLaneTest s).otp = s.otp := by simp [endLaneTest]

/-! ## Window -/

/-! ## SafetyOps -/

@[simp] theorem unfire_otp (x : Shot) (s : State) : (unfire x s).otp = s.otp := by simp [unfire]

@[simp] theorem sequencerSafeStop_otp (s : State) : (sequencerSafeStop s).otp = s.otp := by
  simp only [sequencerSafeStop]
  (repeat' split) <;> simp

@[simp] theorem enterSafeStop_otp (d : Side) (code : Nat) (s : State) :
    (enterSafeStop d code s).otp = s.otp := by simp [enterSafeStop]

@[simp] theorem enterSafeStopBoth_otp (code : Nat) (s : State) :
    (enterSafeStopBoth code s).otp = s.otp := by simp [enterSafeStopBoth]

/-! ## SafetyChannels -/

@[simp] theorem actDemand_otp (d : Side) (demand : Nat) (open_ : Bool) (s : State) :
    (actDemand d demand open_ s).otp = s.otp := by simp [actDemand]

@[simp] theorem channelMessage_otp (d : Side) (m : List Byte) (s : State) :
    (channelMessage d m s).otp = s.otp := by simp [channelMessage]

@[simp] theorem safetyMessageBody_otp (m : List Byte) (s : State) :
    (safetyMessageBody m s).otp = s.otp := by simp [safetyMessageBody]

@[simp] theorem judgeWord_otp (d : Side) (crcOk : Bool) (interval : Nat) (s : State) :
    (judgeWord d crcOk interval s).otp = s.otp := by simp [judgeWord]

@[simp] theorem compareWords_otp (s : State) : (compareWords s).otp = s.otp := by simp [compareWords]

@[simp] theorem releaseMessage_otp (s : State) : (releaseMessage s).otp = s.otp := by simp [releaseMessage]

@[simp] theorem removeTorque_otp (d : Side) (s : State) : (removeTorque d s).otp = s.otp := by simp [removeTorque]

@[simp] theorem judgeTorque_otp (d : Side) (s : State) : (judgeTorque d s).otp = s.otp := by simp [judgeTorque]

@[simp] theorem leaveWindow_otp (d : Side) (s : State) : (leaveWindow d s).otp = s.otp := by simp [leaveWindow]

@[simp] theorem safetyEdge_otp (d : Side) (code : BitVec 3) (s : State) :
    (safetyEdge d code s).otp = s.otp := by simp [safetyEdge]

@[simp] theorem bothAtRest_otp (s : State) : (bothAtRest s).otp = s.otp := by simp [bothAtRest]

@[simp] theorem gapImplausible_otp (d : Side) (s : State) :
    (gapImplausible d s).otp = s.otp := by simp [gapImplausible]

@[simp] theorem restorePermit_otp (d : Side) (s : State) : (restorePermit d s).otp = s.otp := by simp [restorePermit]

@[simp] theorem bnMarkerAt_otp (d : Side) (s : State) : (bnMarkerAt d s).otp = s.otp := by
  simp only [bnMarkerAt]
  (repeat' split) <;> simp

@[simp] theorem energyCheck_otp (d : Side) (b at_ : Nat) (s : State) :
    (energyCheck d b at_ s).otp = s.otp := by simp [energyCheck]

@[simp] theorem padPulse_otp (d : Side) (b width : Nat) (s : State) :
    (padPulse d b width s).otp = s.otp := by simp [padPulse]

@[simp] theorem afterInputs_otp (d : Side) (before s : State) : (afterInputs d before s).otp = s.otp := by
  simp [afterInputs]

@[simp] theorem startInputs_otp (d : Side) (s : State) : (startInputs d s).otp = s.otp := by simp [startInputs]

@[simp] theorem soutFails_otp (d : Side) (s : State) : (soutFails d s).otp = s.otp := by simp [soutFails]

/-! ## Motor -/

@[simp] theorem motorFault_otp (c : Counter) (s : State) : (motorFault c s).otp = s.otp := by simp [motorFault]

@[simp] theorem observe_otp (code : BitVec 3) (observer : Nat) (s : State) :
    (observe code observer s).otp = s.otp := by simp [observe]

/-! ## Boards -/

@[simp] theorem showBankStates_otp (s : State) : (showBankStates s).otp = s.otp := by simp [showBankStates]

@[simp] theorem boardHeat_otp (s : State) : (boardHeat s).otp = s.otp := by simp [boardHeat]

@[simp] theorem applyConfirmed_otp (s : State) :
    (applyConfirmed s).otp = s.otp := foldl_otp (fun u b => by split <;> rfl) _ _

/-! ## Bias -/

@[simp] theorem biasRetarget_otp (s : State) : (biasRetarget s).otp = s.otp := by
  unfold biasRetarget
  split <;> simp

@[simp] theorem biasEnable_otp (s : State) : (biasEnable s).otp = s.otp := by simp [biasEnable]

@[simp] theorem biasStep_otp (s : State) : (biasStep s).otp = s.otp := by simp [biasStep]

@[simp] theorem biasReport_otp (s : State) : (biasReport s).2.otp = s.otp := by
  simp only [biasReport]
  (repeat' split) <;> simp

@[simp] theorem biasAtReading_otp (s : State) : (biasAtReading s).otp = s.otp := by simp [biasAtReading]

@[simp] theorem biasFault_otp (bit_ : Nat) (s : State) : (biasFault bit_ s).otp = s.otp := by simp [biasFault]

/-! ## AmbientFilter -/

@[simp] theorem modAmb_otp (c : Nat) (f : Ambient → Ambient) (s : State) :
    (modAmb c f s).otp = s.otp := by simp [modAmb]

@[simp] theorem passPre_otp (ch : Nat) (s : State) : (passPre ch s).otp = s.otp := by
  simp only [passPre]
  (repeat' split) <;> simp

@[simp] theorem evaluateChannel_otp (c : Nat) (s : State) : (evaluateChannel c s).otp = s.otp := by
  unfold evaluateChannel
  split <;> simp

@[simp] theorem startRound_otp (p : Option Nat) (s : State) : (startRound p s).otp = s.otp := by simp [startRound]

@[simp] theorem publish_otp (s : State) : (publish s).otp = s.otp := by simp [publish]

@[simp] theorem ambientPeriodZero_otp (s : State) : (ambientPeriodZero s).otp = s.otp := by
  simp [ambientPeriodZero]

@[simp] theorem noEndRound_otp (s : State) : (noEndRound s).otp = s.otp := by simp [noEndRound]

@[simp] theorem ambientBoundary_otp (first : Bool) (oldMode newMode : Nat) (dv : Int) (s : State) :
    (ambientBoundary first oldMode newMode dv s).otp = s.otp := by simp [ambientBoundary]

/-! ## Gap -/

@[simp] theorem sendFrame_otp (s : State) : (sendFrame s).otp = s.otp := by
  simp [sendFrame]

@[simp] theorem takeSlot_otp (b : Nat) (high rises : List Nat) (firings : List (List (Nat × Nat))) (measured : Option Nat)
    (s : State) : (takeSlot b high rises firings measured s).otp = s.otp := by
  simp [takeSlot]

@[simp] theorem closeWindow_otp (s : State) : (closeWindow s).otp = s.otp := by
  simp [closeWindow]

/-! ## Receiver -/

@[simp] theorem datumCopy_otp (ch tap : Nat) (a : Arm) (s : State) : (datumCopy ch tap a s).otp = s.otp := by
  unfold datumCopy
  split <;> simp

@[simp] theorem convert_otp (ch tap : Nat) (s : State) : (convert ch tap s).otp = s.otp := by
  simp only [convert]
  (repeat' split) <;> simp

@[simp] theorem noteEvent_otp (ch : Nat) (s : State) : (noteEvent ch s).otp = s.otp := by simp [noteEvent]

@[simp] theorem overloadEntry_otp (ch : Nat) (s : State) : (overloadEntry ch s).otp = s.otp := by simp [overloadEntry]

@[simp] theorem firing_otp (ch : Nat) (fired : List (Nat × Nat)) (tap : Nat) (s : State) :
    (firing ch fired tap s).otp = s.otp := by simp [firing]

@[simp] theorem windowEnd_otp (ch : Nat) (s : State) : (windowEnd ch s).otp = s.otp := by
  simp only [windowEnd]
  (repeat' split) <;> simp

@[simp] theorem nearZone_otp (b : Nat) (s : State) : (nearZone b s).otp = s.otp := by simp [nearZone]

/-! ## Fire -/

@[simp] theorem resumeFiring_otp (p : Nat) (s : State) : (resumeFiring p s).otp = s.otp := by simp [resumeFiring]

@[simp] theorem skipTest_otp (s : State) (e : Nat) : (skipTest s e).otp = s.otp := by simp [skipTest]

@[simp] theorem closeGap_otp (s : State) : (closeGap s).otp = s.otp := by simp [closeGap]

@[simp] theorem startPeriod_otp (p : Nat) (s : State) : (startPeriod p s).otp = s.otp := by simp [startPeriod]

@[simp] theorem pointDue_otp (c β : Nat) (s : State) : (pointDue c β s).otp = s.otp := by simp [pointDue]

@[simp] theorem sendMarker_otp (kind c β planned openTime : Nat) (s : State) :
    (sendMarker kind c β planned openTime s).otp = s.otp := by simp [sendMarker]

@[simp] theorem unlitBank_otp (β start : Nat) (s : State) (b : Nat) :
    (unlitBank β start s b).otp = s.otp := by simp [unlitBank]

@[simp] theorem armChan_otp (x : Shot) (c : Nat) (s : State) : (armChan x c s).otp = s.otp := by simp [armChan]

@[simp] theorem walkShots_otp (b n : Nat) (s : State) : (walkShots b n s).otp = s.otp := by
  unfold walkShots
  split <;> simp

@[simp] theorem requestPulse_otp (x : Shot) (s : State) : (requestPulse x s).otp = s.otp := by simp [requestPulse]

@[simp] theorem openPoints_otp (x : Shot) (s : State) : (openPoints x s).otp = s.otp := by simp [openPoints]

@[simp] theorem fireShot_otp (x : Shot) (s : State) : (fireShot x s).otp = s.otp := by simp [fireShot]

@[simp] theorem advanceDither_otp (l : List Shot) (s : State) : (advanceDither l s).otp = s.otp := by
  simp [advanceDither]

@[simp] theorem fireSlot_otp (p q : Nat) (s : State) : (fireSlot p q s).otp = s.otp := by simp [fireSlot]

@[simp] theorem noteClose_otp (cause taken x : Nat) (s : State) :
    (noteClose cause taken x s).otp = s.otp := by simp [noteClose]

@[simp] theorem closePoint_otp (cause taken c β : Nat) (s : State) :
    (closePoint cause taken c β s).otp = s.otp := by simp [closePoint]

@[simp] theorem closeRunning_otp (cause c : Nat) (s : State) : (closeRunning cause c s).otp = s.otp := by
  simp only [closeRunning]
  (repeat' split) <;> simp

@[simp] theorem closeBank_otp (cause : Nat) (s : State) (b : Nat) :
    (closeBank cause s b).otp = s.otp := by simp [closeBank]

@[simp] theorem closePending_otp (s : State) : (closePending s).otp = s.otp := by
  unfold closePending
  split <;> simp

/-! ## Mover -/

@[simp] theorem setDesc_otp (i : Nat) (d : Desc) (s : State) : (setDesc i d s).otp = s.otp := by simp [setDesc]

@[simp] theorem modMover_otp (k : Nat) (f : Mover → Mover) (s : State) :
    (modMover k f s).otp = s.otp := by simp [modMover]

@[simp] theorem haltMover_otp (k : Nat) (write stall : Bool) (addr : Nat) (s : State) :
    (haltMover k write stall addr s).otp = s.otp := by simp [haltMover]

@[simp] theorem startMover_otp (k i : Nat) (d : Desc) (s : State) :
    (startMover k i d s).otp = s.otp := by simp [startMover]

@[simp] theorem moveStart_otp (k src dst len : Nat) (s : State) :
    (moveStart k src dst len s).otp = s.otp := by simp [moveStart]

@[simp] theorem moveIfIdle_otp (k : Nat) (d : Desc) (s : State) :
    (moveIfIdle k d s).otp = s.otp := by simp [moveIfIdle]

@[simp] theorem moveDone_otp (k : Nat) (s : State) : (moveDone k s).otp = s.otp := by simp [moveDone]

@[simp] theorem moveAbandon_otp (k addr : Nat) (s : State) :
    (moveAbandon k addr s).otp = s.otp := by simp [moveAbandon]

/-! ## Survey -/

@[simp] theorem post_otp (c β : Nat) (parity : Bool) (l : List Peak) (s : State) :
    (post c β parity l s).otp = s.otp := by simp [post]

@[simp] theorem queueWork_otp (e : Nat) (x : Option Nat) (head : Ctx) (s : State) :
    (queueWork e x head s).otp = s.otp := by simp [queueWork]

@[simp] theorem pointGone_otp (c β : Nat) (parity : Bool) (s : State) :
    (pointGone c β parity s).otp = s.otp := by simp [pointGone]

@[simp] theorem freeExtra_otp (v : Ctx) (s : State) : (freeExtra v s).otp = s.otp := by
  unfold freeExtra
  split <;> simp

@[simp] theorem discardCtx_otp (x : Nat) (s : State) : (discardCtx x s).otp = s.otp := by simp [discardCtx]

@[simp] theorem applyMarker_otp (e : Nat) (m : Marker) (s : State) :
    (applyMarker e m s).otp = s.otp := by simp [applyMarker]

@[simp] theorem grant_otp {f : Nat → Item → State → State} (hf : ∀ c i u, (f c i u).otp = u.otp) (e kind : Nat)
    (s : State) : (grant e kind f s).otp = s.otp := by
  simp only [grant]
  split
  · split <;> simp [hf]
  · rfl

@[simp] theorem placeExtra_otp (x b from_ : Nat) (s : State) : (placeExtra x b from_ s).otp = s.otp := by
  simp only [placeExtra]
  (repeat' split) <;> simp

@[simp] theorem wantWindow_otp (x q j : Nat) (s : State) : (wantWindow x q j s).otp = s.otp := by
  simp only [wantWindow]
  (repeat' split) <;> simp

@[simp] theorem extraUpdate_otp (u x q e : Nat) (s : State) : (extraUpdate u x q e s).otp = s.otp := by
  unfold extraUpdate
  split <;> simp

@[simp] theorem applyEvent_otp (x : Nat) (i : Item) (s : State) : (applyEvent x i s).otp = s.otp := by
  simp only [applyEvent]
  (repeat' split) <;> simp

@[simp] theorem applyDrop_otp (e x : Nat) (i : Item) (s : State) :
    (applyDrop e x i s).otp = s.otp := by simp [applyDrop]

@[simp] theorem failEngine_otp (e cause : Nat) (s : State) :
    (failEngine e cause s).otp = s.otp := by simp [failEngine]

@[simp] theorem storeError_otp (x : Nat) (s : State) : (storeError x s).otp = s.otp := by simp [storeError]

@[simp] theorem engineTest_otp (e : Nat) (passed : Bool) (s : State) :
    (engineTest e passed s).otp = s.otp := by simp [engineTest]

@[simp] theorem reassign_otp (x : Nat) (s : State) : (reassign x s).otp = s.otp := by simp [reassign]

@[simp] theorem substitute_otp (f e g : Nat) (s : State) : (substitute f e g s).otp = s.otp := by simp [substitute]

@[simp] theorem dropMarker_otp (f : Nat) (m : Marker) (s : State) :
    (dropMarker f m s).otp = s.otp := by simp [dropMarker]

@[simp] theorem loseGroup_otp (f g : Nat) (s : State) : (loseGroup f g s).otp = s.otp := by
  simp [loseGroup]

@[simp] theorem dumpMove_otp (s : State) : (dumpMove s).otp = s.otp := by
  unfold dumpMove
  split <;> simp

@[simp] theorem selectDump_otp (x : Nat) (s : State) : (selectDump x s).otp = s.otp := by simp [selectDump]

@[simp] theorem closeCtx_otp (e x n : Nat) (i : Item) (ecc : Bool) (s : State) :
    (closeCtx e x n i ecc s).otp = s.otp := by simp [closeCtx]

@[simp] theorem copyDone_otp (x : Nat) (s : State) : (copyDone x s).otp = s.otp := by simp [copyDone]

/-! ## NorOps -/

@[simp] theorem norWrite_otp (a : Nat) (l : List Byte) (s : State) :
    (norWrite a l s).otp = s.otp := by simp [norWrite]

@[simp] theorem sealPage_otp (hdr body : List Byte) (s : State) :
    (sealPage hdr body s).2.otp = s.otp := by simp [sealPage]

@[simp] theorem norStart_otp (o : NorOp) (s : State) : (norStart o s).otp = s.otp := by simp [norStart]

@[simp] theorem norWriteFailed_otp (s : State) : (norWriteFailed s).otp = s.otp := by simp [norWriteFailed]

@[simp] theorem calRecord_otp (k : CalSet) (s : State) : (calRecord k s).2.otp = s.otp := by simp [calRecord]

/-! ## RecorderOps -/

@[simp] theorem programHeader_otp (b st : Nat) (h : List Byte) (incident : Nat) (s : State) :
    (programHeader b st h incident s).otp = s.otp := by simp [programHeader]

@[simp] theorem openOn_otp (kind b : Nat) (s : State) : (openOn kind b s).otp = s.otp := by simp [openOn]

@[simp] theorem dropCopy_otp (c : Nat) (s : State) : (dropCopy c s).otp = s.otp := by simp [dropCopy]

@[simp] theorem letGo_otp (b : Nat) (s : State) : (letGo b s).otp = s.otp := by
  simp only [letGo]
  (repeat' split) <;> simp

@[simp] theorem dropOldest_otp (s : State) : (dropOldest s).otp = s.otp := by
  unfold dropOldest
  split <;> simp

@[simp] theorem openIfNeeded_otp (s : State) : (openIfNeeded s).otp = s.otp := by
  simp only [openIfNeeded]
  (repeat' split) <;> simp

@[simp] theorem loadSeg_otp (s : State) : (loadSeg s).otp = s.otp := by
  unfold loadSeg
  split <;> simp

@[simp] theorem drawScalar_otp (s : State) : (drawScalar s).2.otp = s.otp := by simp [drawScalar]

@[simp] theorem signDigest_otp (digest : List Byte) (s : State) :
    (signDigest digest s).2.otp = s.otp := by simp [signDigest]

@[simp] theorem signRecord_otp (kind cause seq incident : Nat) (i : SegInfo) (body : List Byte) (s : State) :
    (signRecord kind cause seq incident i body s).2.otp = s.otp := by simp [signRecord]

@[simp] theorem modIncident_otp (n : Nat) (f : Incident → Incident) (s : State) :
    (modIncident n f s).otp = s.otp := by simp [modIncident]

@[simp] theorem placeClosing_otp (n b seq : Nat) (i : SegInfo) (s : State) :
    (placeClosing n b seq i s).otp = s.otp := by
  unfold placeClosing
  split <;> simp

@[simp] theorem addSignPage_otp (b seq : Nat) (sk : Option (List Byte)) (s : State) :
    (addSignPage b seq sk s).otp = s.otp := by simp [addSignPage]

@[simp] theorem spoilPage_otp (b : Nat) (s : State) : (spoilPage b s).otp = s.otp := by simp [spoilPage]

@[simp] theorem closeSeg_otp (s : State) : (closeSeg s).otp = s.otp := by
  unfold closeSeg
  split <;> simp

@[simp] theorem logIncident_otp (ev : Nat) (i : Incident) (s : State) :
    (logIncident ev i s).otp = s.otp := by simp [logIncident]

@[simp] theorem journalEntry_otp (kind : Nat) (i : Incident) (s : State) :
    (journalEntry kind i s).otp = s.otp := by simp [journalEntry]

@[simp] theorem tableWrite_otp (s : State) : (tableWrite s).otp = s.otp := by
  simp [tableWrite, tableRecord]

@[simp] theorem countSegments_otp (n : Nat) (s : State) : (countSegments n s).otp = s.otp := by simp [countSegments]

@[simp] theorem phaseWork_otp (s : State) : (phaseWork s).otp = s.otp := by
  simp only [phaseWork]
  (repeat' split) <;> simp

@[simp] theorem journalDone_otp (kind n : Nat) (s : State) : (journalDone kind n s).otp = s.otp := by
  simp only [journalDone]
  (repeat' split) <;> simp

@[simp] theorem releaseIncident_otp (i : Incident) (s : State) :
    (releaseIncident i s).otp = s.otp := by simp [releaseIncident]

@[simp] theorem background_otp (s : State) : (background s).otp = s.otp := by
  simp only [background]
  (repeat' split) <;> simp

@[simp] theorem segMove_otp (j : NandJob) (s : State) : (segMove j s).otp = s.otp := by
  unfold segMove
  split <;> simp

@[simp] theorem nandNext_otp (s : State) : (nandNext s).otp = s.otp := by
  simp only [nandNext]
  (repeat' split) <;> simp

@[simp] theorem stampJob_otp (s t : State) : (stampJob s t).otp = t.otp := by
  simp [stampJob]

@[simp] theorem nandStart_otp (s : State) : (nandStart s).otp = s.otp := by simp [nandStart]

@[simp] theorem countRead_otp (l : List Nat) (s : State) : (countRead l s).otp = s.otp := by simp [countRead]

@[simp] theorem wantScrub_otp (b : Nat) (s : State) : (wantScrub b s).otp = s.otp := by simp [wantScrub]

@[simp] theorem noteRead_otp (b : Nat) (l : List Nat) (s : State) : (noteRead b l s).otp = s.otp := by simp [noteRead]

@[simp] theorem readBack_otp (b : Nat) (p : PageResult) (s : State) :
    (readBack b p s).otp = s.otp := by simp [readBack]

@[simp] theorem pageOk_otp (s : State) : (pageOk s).otp = s.otp := by
  unfold pageOk
  split <;> simp

@[simp] theorem retireBlock_otp (b : Nat) (s : State) : (retireBlock b s).otp = s.otp := by simp [retireBlock]

@[simp] theorem programFailed_otp (s : State) : (programFailed s).otp = s.otp := by
  unfold programFailed
  split <;> simp

@[simp] theorem headerFailed_otp (s : State) : (headerFailed s).otp = s.otp := by
  unfold headerFailed
  split <;> simp

@[simp] theorem headerDone_otp (p : PageResult) (s : State) : (headerDone p s).otp = s.otp := by
  unfold headerDone
  split <;> simp

@[simp] theorem programDone_otp (p : PageResult) (s : State) : (programDone p s).otp = s.otp := by
  unfold programDone
  split <;> simp

@[simp] theorem signDone_otp (p : PageResult) (s : State) : (signDone p s).otp = s.otp := by
  unfold signDone
  split <;> simp

@[simp] theorem endSegJob_otp (j : NandJob) (p : PageResult) (s : State) : (endSegJob j p s).otp = s.otp := by
  unfold endSegJob
  split <;> simp

@[simp] theorem runSeg_otp (stop : State → Bool) (n : Nat) (l : List PageResult) (s : State) :
    (runSeg stop n l s).otp = s.otp := by
  induction n generalizing l s with
  | zero => rfl
  | succ n ih =>
    simp only [runSeg]
    split
    · rfl
    · split <;> simp [ih]

@[simp] theorem finishSeg_otp (l : List PageResult) (s : State) : (finishSeg l s).otp = s.otp := by
  simp only [finishSeg]
  split <;> simp

@[simp] theorem finishClosing_otp (l : List PageResult) (s : State) : (finishClosing l s).otp = s.otp := by
  simp [finishClosing]

@[simp] theorem stage_otp (b gap : Body) (s : State) : (stage b gap s).otp = s.otp := by simp [stage]

@[simp] theorem formEvents_otp (s : State) : (formEvents s).otp = s.otp := by simp [formEvents]

@[simp] theorem formGaps_otp (s : State) : (formGaps s).otp = s.otp := by simp [formGaps]

@[simp] theorem pauseRing_otp (s : State) : (pauseRing s).otp = s.otp := by simp [pauseRing]

/-! ## Contour -/

@[simp] theorem contourEccError_otp (x : Nat) (pool : Bool) (s : State) :
    (contourEccError x pool s).otp = s.otp := by simp [contourEccError]

@[simp] theorem returnCtx_otp (x : Nat) (s : State) : (returnCtx x s).otp = s.otp := by simp [returnCtx]

@[simp] theorem produce_otp (unit : Nat) (v : Unit_) (w : Work) (s : State) : (produce unit v w s).otp = s.otp := by
  unfold produce
  split <;> simp

@[simp] theorem failUnit_otp (unit how : Nat) (s : State) : (failUnit unit how s).otp = s.otp := by
  simp only [failUnit]
  (repeat' split) <;> simp

@[simp] theorem release_otp (o : SheetOut) (g β : Nat) (s : State) :
    (release o g β s).otp = s.otp := by simp [release]

@[simp] theorem keepForRecorder_otp (o : SheetOut) (s : State) :
    (keepForRecorder o s).otp = s.otp := by simp [keepForRecorder]

@[simp] theorem trail_otp (o : SheetOut) (s : State) : (trail o s).otp = s.otp := by simp [trail]

/-! ## Calib -/

@[simp] theorem setRun_otp (r : Run) (s : State) : (setRun r s).otp = s.otp := by simp [setRun]

@[simp] theorem endRun_otp (result : Nat) (s : State) : (endRun result s).otp = s.otp := by simp [endRun]

@[simp] theorem rejectRun_otp (result : Nat) (s : State) : (rejectRun result s).otp = s.otp := by simp [rejectRun]

@[simp] theorem adoptRun_otp (s : State) : (adoptRun s).otp = s.otp := by
  unfold adoptRun
  split <;> simp

@[simp] theorem calWriteFailed_otp (s : State) : (calWriteFailed s).otp = s.otp := by simp [calWriteFailed]

@[simp] theorem processRun_otp (norOk : Bool) (r : Run) (s : State) :
    (processRun norOk r s).otp = s.otp := by simp [processRun]

@[simp] theorem coreSegment_otp (length hitTaps : Nat) (hits : List (Nat × List Nat))
    (firings : List (Nat × List (List (Nat × Nat)))) (r : Run) (s : State) :
    (coreSegment length hitTaps hits firings r s).otp = s.otp := by simp [coreSegment]

@[simp] theorem calChecked_otp (x : Nat × Nat) (s : State) : (calChecked x s).otp = s.otp := by simp [calChecked]

@[simp] theorem calPads_otp (x : Nat × Nat) (s : State) : (calPads x s).otp = s.otp := by simp [calPads]

@[simp] theorem calDrive_otp (x : Nat × Nat) (s : State) : (calDrive x s).otp = s.otp := by
  unfold calDrive
  rw [modBank_otp, modSide_otp, modSide_otp, calPads_otp, calChecked_otp]

@[simp] theorem calPulse_otp (x : Nat × Nat) (a : List (Nat × Nat) × State) : (calPulse x a).2.otp = a.2.otp := by
  simp [calPulse]

@[simp] theorem opticalSegment_otp (events : List (Nat × List (Nat × Nat × Nat))) (light : List (Nat × Nat))
    (widths : List (Nat × Int)) (s : State) : (opticalSegment events light widths s).otp = s.otp := by
  simp only [opticalSegment]
  (repeat' split) <;> simp

@[simp] theorem startRun_otp (kind : Nat) (judged : Bool) (s : State) :
    (startRun kind judged s).otp = s.otp := by simp [startRun]

@[simp] theorem runBoundary_otp (m : Nat) (r : Run) (s : State) :
    (runBoundary m r s).otp = s.otp := by simp [runBoundary]

@[simp] theorem runStarts_otp (m old : Nat) (s : State) : (runStarts m old s).otp = s.otp := by
  simp only [runStarts]
  (repeat' split) <;> simp

@[simp] theorem noteYield_otp (s : State) : (noteYield s).otp = s.otp := by
  unfold noteYield
  split <;> simp

@[simp] theorem calibRuns_otp (m old : Nat) (s : State) : (calibRuns m old s).otp = s.otp := by
  unfold calibRuns
  split <;> simp

@[simp] theorem formDerived_otp (m : Nat) (s : State) : (formDerived m s).otp = s.otp := by
  unfold formDerived
  split <;> simp

@[simp] theorem applySet_otp (parity : Bool) (s : State) : (applySet parity s).otp = s.otp := by
  unfold applySet
  split <;> simp

/-! ## AuxSense -/

@[simp] theorem beginConv_otp (at_ : Nat) (c : Conv) (s : State) :
    (beginConv at_ c s).otp = s.otp := by simp [beginConv]

@[simp] theorem startNext_otp (at_ : Nat) (s : State) : (startNext at_ s).otp = s.otp := by
  simp only [startNext]
  (repeat' split) <;> simp

@[simp] theorem pairOne_otp (a : Nat) (s : State) : (pairOne a s).otp = s.otp := by
  simp only [pairOne]
  (repeat' split) <;> simp

@[simp] theorem pairsAfter_otp (n : Nat) (s : State) : (pairsAfter n s).otp = s.otp := by simp [pairsAfter]

@[simp] theorem judgeReadback_otp (x : Int) (s : State) : (judgeReadback x s).otp = s.otp := by simp [judgeReadback]

@[simp] theorem judgePaths_otp (first : Nat) (x : Int) (s : State) :
    (judgePaths first x s).otp = s.otp := by simp [judgePaths]

@[simp] theorem biasSample_otp (c : Conv) (x : Int) (s : State) : (biasSample c x s).otp = s.otp := by
  simp only [biasSample]
  (repeat' split) <;> simp

@[simp] theorem storeSample_otp (c : Conv) (x0 : Int) (ov : Bool) (s : State) :
    (storeSample c x0 ov s).otp = s.otp := by simp [storeSample]

@[simp] theorem referenceCheck_otp (x : Int) (s : State) :
    (referenceCheck x s).otp = s.otp := by simp [referenceCheck]

@[simp] theorem sampleDone_otp (c : Conv) (x : Int) (ov : Bool) (s : State) :
    (sampleDone c x ov s).otp = s.otp := by simp [sampleDone]

@[simp] theorem convDone_otp (c : Conv) (x : Int) (ov : Bool) (s : State) :
    (convDone c x ov s).otp = s.otp := by simp [convDone]

@[simp] theorem valueReady_otp (o : SheetOut) (s : State) : (valueReady o s).otp = s.otp := by
  unfold valueReady
  split <;> simp

/-! ## Recorder -/

@[simp] theorem mountTable_otp (p : NandPart) (second : Option NandPart) (s : State) :
    (mountTable p second s).otp = s.otp := by
  unfold mountTable
  split <;> simp

@[simp] theorem mountJournal_otp (s : State) : (mountJournal s).otp = s.otp := by
  unfold mountJournal
  extract_lets
  split
  · exact modRec_otp ..
  · exact (modRec_otp ..).trans (modRec_otp ..)

@[simp] theorem mountHours_otp (s : State) : (mountHours s).otp = s.otp := by simp [mountHours]

@[simp] theorem mountBlock_otp (m : MountInput) (highest b : Nat) (s : State) :
    (mountBlock m highest b s).otp = s.otp := by
  unfold mountBlock
  split <;> simp

@[simp] theorem claim_otp (s : State) (i : Incident) : (claim s i).otp = s.otp := by
  simp [claim]

@[simp] theorem mountRing_otp (s : State) : (mountRing s).otp = s.otp := by
  simp [mountRing]

@[simp] theorem trySign_otp (b seq : Nat) (sk : Option (List Byte)) (undo : Block → Block) (n : Nat)
    (x : List PageResult × State) : (trySign b seq sk undo n x).2.otp = x.2.otp := by
  induction n generalizing x with
  | zero => rfl
  | succ n ih =>
    simp only [trySign]
    split
    · simp
    · split <;> simp [ih]

@[simp] theorem mountOpen_otp (n : Nat) (x : List PageResult × State) : (mountOpen n x).2.otp = x.2.otp := by
  induction n generalizing x with
  | zero => rfl
  | succ n ih =>
    simp only [mountOpen]
    split
    · rfl
    · split <;> simp [ih]

@[simp] theorem mountClosure_otp (m : MountInput) (b : Nat) (x : List PageResult × State) :
    (mountClosure m b x).2.otp = x.2.otp := by
  simp [mountClosure]

@[simp] theorem ownSegment_otp (i : Incident) (seq : Nat) (x : List PageResult × State) :
    (ownSegment i seq x).2.otp = x.2.otp := by
  simp only [ownSegment]
  split <;> simp

@[simp] theorem closeIncident_otp (i : Incident) (last : Option (Nat × Nat)) (x : List PageResult × State) :
    (closeIncident i last x).2.otp = x.2.otp := by
  simp only [closeIncident]
  (repeat' split) <;> simp

@[simp] theorem rollForward_otp (x : List PageResult × State) (i : Incident) : (rollForward x i).2.otp = x.2.otp := by
  simp only [rollForward]
  (repeat' split) <;> simp

@[simp] theorem mountScan_otp (m : MountInput) (s : State) : (mountScan m s).otp = s.otp := by
  unfold mountScan
  extract_lets highest t segs t₁ t₂ x t₃
  have h₃ : t₃.otp = s.otp := by simp [t₃, x, t₂, t₁, t]
  rw [mountRing_otp, ← h₃]
  exact foldl_snd_otp rollForward_otp _ (x.1, t₃)

@[simp] theorem mountOn_otp (m : MountInput) (p : NandPart) (second : Option NandPart) (s : State) :
    (mountOn m p second s).otp = s.otp := by
  simp [mountOn]

@[simp] theorem makeRoom_otp (n : Nat) (s : State) : (makeRoom n s).2.otp = s.otp := by
  induction n generalizing s with
  | zero => rfl
  | succ n ih =>
    simp only [makeRoom]
    split
    · rfl
    · split <;> simp [ih]

@[simp] theorem refuseTrigger_otp (cause : Nat) (s : State) :
    (refuseTrigger cause s).otp = s.otp := by simp [refuseTrigger]

@[simp] theorem openIncident_otp (cause at_ local_ : Nat) (time : Int) (s : State) :
    (openIncident cause at_ local_ time s).otp = s.otp := by
  simp [openIncident]

@[simp] theorem joinIncident_otp (n end_ at_ : Nat) (joined : Bool) (s : State) :
    (joinIncident n end_ at_ joined s).otp = s.otp := by
  simp only [joinIncident]
  (repeat' split) <;> simp

@[simp] theorem actTrigger_otp (cause at_ local_ : Nat) (time : Int) (s : State) :
    (actTrigger cause at_ local_ time s).otp = s.otp := by
  have hr := makeRoom_otp 32 (count .triggers 1 s)
  simp only [actTrigger]
  (repeat' split) <;> simp_all

@[simp] theorem norApply_otp (o : NorOp) (s : State) : (norApply o s).otp = s.otp := by simp [norApply]

@[simp] theorem indexDone_otp (j : NorJob) (s : State) : (indexDone j s).otp = s.otp := by
  unfold indexDone
  split <;> simp

@[simp] theorem finishIndex_otp (s : State) : (finishIndex s).otp = s.otp := by simp [finishIndex]

@[simp] theorem dropSegJob_otp (s : State) : (dropSegJob s).otp = s.otp := by simp [dropSegJob]

@[simp] theorem noteSampled_otp (n β : Nat) (s : State) : (noteSampled n β s).otp = s.otp := by simp [noteSampled]

@[simp] theorem formSheet_otp (o : SheetOut) (s : State) : (formSheet o s).otp = s.otp := by simp [formSheet]

@[simp] theorem formSheets_otp (l : List SheetOut) (s : State) : (formSheets l s).otp = s.otp := by
  induction l with
  | nil => rfl
  | cons o l ih =>
    simp only [formSheets]
    split <;> simp [ih]

@[simp] theorem formBlock_otp (s : State) : (formBlock s).otp = s.otp := by
  unfold formBlock
  split <;> simp

@[simp] theorem copyProgrammed_otp (x : Scrub) (p : PageResult) (s : State) :
    (copyProgrammed x p s).otp = s.otp := by simp [copyProgrammed]

@[simp] theorem blockErased_otp (b : Nat) (ended : EraseResult) (s : State) :
    (blockErased b ended s).otp = s.otp := by simp [blockErased]

@[simp] theorem stopReadout_otp (s : State) : (stopReadout s).otp = s.otp := by simp [stopReadout]

@[simp] theorem readoutGo_otp (s : State) : (readoutGo s).otp = s.otp := by
  unfold readoutGo
  split <;> simp

@[simp] theorem readoutPage_otp (b : Nat) (bad : Bool) (s : State) : (readoutPage b bad s).otp = s.otp := by
  simp only [readoutPage]
  (repeat' split) <;> simp

@[simp] theorem copyRead_otp (x : Scrub) (l : List Nat) (s : State) :
    (copyRead x l s).otp = s.otp := by simp [copyRead]

@[simp] theorem pageRead_otp (b page : Nat) (l : List Nat) (s : State) :
    (pageRead b page l s).otp = s.otp := by simp [pageRead]

@[simp] theorem scrubbed_otp (b c : Nat) (s : State) : (scrubbed b c s).otp = s.otp := by simp [scrubbed]

@[simp] theorem copyChecked_otp (x : Scrub) (l : List Nat) (s : State) :
    (copyChecked x l s).otp = s.otp := by simp [copyChecked]

@[simp] theorem hoursWrite_otp (s : State) : (hoursWrite s).otp = s.otp := by simp [hoursWrite]

@[simp] theorem lifeFigures_otp (s : State) : (lifeFigures s).otp = s.otp := by simp [lifeFigures]

@[simp] theorem ageScrubs_otp (s : State) : (ageScrubs s).otp = s.otp := by simp [ageScrubs]

/-! ## Readout -/

@[simp] theorem onReadout_otp {f : Nat → Nat → Nat → State → State}
    (hf : ∀ a b c u, (f a b c u).otp = u.otp) (op : Nat) (codes : List Nat) (rd : Bool) (s : State) :
    (onReadout op codes rd f s).otp = s.otp := by
  simp [onReadout, hf]

@[simp] theorem readoutAnswer_otp (echo result arg offset : Nat) (s : State) :
    (readoutAnswer echo result arg offset s).otp = s.otp := by simp [readoutAnswer]

@[simp] theorem readoutGate_otp {f : State → State} (hf : ∀ u, (f u).otp = u.otp) (echo arg offset : Nat)
    (s : State) :
    (readoutGate echo arg offset f s).otp = s.otp := by
  simp [readoutGate, hf]

@[simp] theorem snapshotOut_otp (whole : Bool) (s : State) : (snapshotOut whole s).otp = s.otp := by
  simp only [snapshotOut]
  (repeat' split) <;> simp

@[simp] theorem skipDump_otp (channel : Nat) (s : State) : (skipDump channel s).otp = s.otp := by
  unfold skipDump
  split <;> simp

@[simp] theorem skipPacket_otp (channel : Nat) (s : State) : (skipPacket channel s).otp = s.otp := by
  simp only [skipPacket]
  (repeat' split) <;> simp

@[simp] theorem abandonUse_otp (channel : Nat) (nandFailed : Bool) (s : State) :
    (abandonUse channel nandFailed s).otp = s.otp := by
  simp only [abandonUse]
  (repeat' split) <;> simp

@[simp] theorem norDone_otp (j : NorJob) (s : State) : (norDone j s).otp = s.otp := by
  unfold norDone
  split <;> simp

@[simp] theorem norFailed_otp (o : NorOp) (s : State) : (norFailed o s).otp = s.otp := by
  unfold norFailed
  split <;> simp

@[simp] theorem afterSend_otp (p : Pkt) (s : State) : (afterSend p s).otp = s.otp := by
  unfold afterSend
  split <;> simp

/-! ## Image -/

@[simp] theorem loadSeeds_otp (n : Nat) (s : State) : (loadSeeds n s).otp = s.otp := by
  simp [loadSeeds]

@[simp] theorem startCounter_otp (suits written : Bool) (s : State) : (startCounter suits written s).otp = s.otp := by
  simp only [startCounter]
  (repeat' split) <;> simp

@[simp] theorem calForce_otp (slot : Nat) (k : CalSet) (s : State) :
    (calForce slot k s).otp = s.otp := by simp [calForce]

@[simp] theorem calRead_otp (s : State) : (calRead s).otp = s.otp := by
  unfold calRead
  split <;> simp

@[simp] theorem loadFailed_otp (f : LoadFail) (s : State) : (loadFailed f s).otp = s.otp := by simp [loadFailed]

@[simp] theorem escrowPair_otp (s : State) : (escrowPair s).otp = s.otp := by
  simp only [escrowPair]
  (repeat' split) <;> simp

@[simp] theorem loadUnits_otp (l : Legend) (s : State) : (loadUnits l s).otp = s.otp := by simp [loadUnits]

@[simp] theorem recordWalk_otp (img : List Byte) (s : State) : (recordWalk img s).otp = s.otp := by
  unfold recordWalk
  extract_lets
  (repeat' split) <;> simp

@[simp] theorem spinUp_otp (s : State) : (spinUp s).otp = s.otp := by simp [spinUp]

@[simp] theorem acceptImage_otp (s : State) : (acceptImage s).otp = s.otp := by simp [acceptImage]

/-! ## Modes -/

@[simp] theorem latchRequest_otp (r : Request) (s : State) : (latchRequest r s).otp = s.otp := by
  unfold latchRequest
  split <;> simp

@[simp] theorem safeStopExit_otp (r : Request) (s : State) : (safeStopExit r s).otp = s.otp := by simp [safeStopExit]

@[simp] theorem modeRequest_otp (body : List Byte) (s : State) :
    (modeRequest body s).otp = s.otp := by simp [modeRequest]

@[simp] theorem ackSampled_otp (c : Choice) (s : State) : (ackSampled c s).otp = s.otp := by
  unfold ackSampled
  split <;> simp

@[simp] theorem noteMode_otp (old : Nat) (c : Choice) (s : State) :
    (noteMode old c s).otp = s.otp := by simp [noteMode]

/-! ## Power -/

@[simp] theorem lossOfLock_otp (s : State) : (lossOfLock s).otp = s.otp := by
  simp [lossOfLock]

@[simp] theorem timeEcho_otp (t1 t2 result : Nat) (s : State) :
    (timeEcho t1 t2 result s).otp = s.otp := by simp [timeEcho]

@[simp] theorem timeSyncBody_otp (n : Nat) (body : List Byte) (s : State) : (timeSyncBody n body s).otp = s.otp := by
  simp only [timeSyncBody]
  split <;> simp

@[simp] theorem applyStep_otp (s : State) : (applyStep s).otp = s.otp := by
  unfold applyStep
  split <;> simp

@[simp] theorem railsSeen_otp (levels : List Nat) (s : State) :
    (railsSeen levels s).otp = s.otp := by simp [railsSeen]

@[simp] theorem dipBegin_otp (rail : Nat) (s : State) : (dipBegin rail s).otp = s.otp := by
  simp [dipBegin]

/-! ## Thermal -/

@[simp] theorem noteFaults_otp (l : List Nat) (s : State) : (noteFaults l s).otp = s.otp := by simp [noteFaults]

@[simp] theorem reportShutdown_otp (now : Bool) (s : State) :
    (reportShutdown now s).otp = s.otp := by simp [reportShutdown]

@[simp] theorem judgeTemps_otp (l : List (Option Int)) (s : State) : (judgeTemps l s).otp = s.otp := by
  simp only [judgeTemps]
  (repeat' split) <;> simp

@[simp] theorem runTemp_otp (s : State) : (runTemp s).otp = s.otp := by
  unfold runTemp
  split <;> simp

@[simp] theorem coastChange_otp (s : State) : (coastChange s).otp = s.otp := by simp [coastChange]

@[simp] theorem sensorReading_otp (l : List (Option Int)) (s : State) :
    (sensorReading l s).otp = s.otp := by simp [sensorReading]

@[simp] theorem throttleStep_otp (s : State) : (throttleStep s).otp = s.otp := by simp [throttleStep]

/-! ## SheetForm -/

@[simp] theorem formSheetState_otp (s : State) : (formSheetState s).otp = s.otp := by
  simp [formSheetState]

@[simp] theorem compareCodes_otp (d : Side) (s : State) : (compareCodes d s).otp = s.otp := by simp [compareCodes]

/-! ## Boundary -/

@[simp] theorem noteStale_otp (s : State) (x : Nat) : (noteStale s x).otp = s.otp := by simp [noteStale]

@[simp] theorem staleBuffers_otp (p : Bool) (s : State) : (staleBuffers p s).otp = s.otp := by simp [staleBuffers]

@[simp] theorem staleMarkers_otp (p : Bool) (s : State) : (staleMarkers p s).otp = s.otp := by simp [staleMarkers]

@[simp] theorem staleContexts_otp (p : Bool) (s : State) : (staleContexts p s).otp = s.otp := by simp [staleContexts]

@[simp] theorem dropWork_otp (s : State) (w : Work) : (dropWork s w).otp = s.otp := by
  unfold dropWork
  split <;> simp

@[simp] theorem staleWork_otp (p : Bool) (s : State) : (staleWork p s).otp = s.otp := by simp [staleWork]

@[simp] theorem staleRecords_otp (p : Bool) (s : State) : (staleRecords p s).otp = s.otp := by simp [staleRecords]

@[simp] theorem discardStale_otp (p : Bool) (s : State) : (discardStale p s).otp = s.otp := by simp [discardStale]

@[simp] theorem endEngines_otp (s : State) : (endEngines s).otp = s.otp := by
  simp [endEngines]

@[simp] theorem endSheet_otp (s : State) : (endSheet s).otp = s.otp := by simp [endSheet]

@[simp] theorem stampBn_otp (s : State) : (stampBn s).otp = s.otp := by simp [stampBn]

@[simp] theorem newGap_otp (s : State) : (newGap s).otp = s.otp := by simp [newGap]

@[simp] theorem takeChoice_otp (c : Choice) (s : State) : (takeChoice c s).otp = s.otp := by simp [takeChoice]

@[simp] theorem exchangeBuffers_otp (s : State) : (exchangeBuffers s).otp = s.otp := by simp [exchangeBuffers]

@[simp] theorem openSheet_otp (s : State) : (openSheet s).otp = s.otp := by simp [openSheet]

@[simp] theorem linkAtBoundary_otp (old : Nat) (s : State) :
    (linkAtBoundary old s).otp = s.otp := by simp [linkAtBoundary]

@[simp] theorem startClkOut_otp (s : State) : (startClkOut s).otp = s.otp := by simp [startClkOut]

@[simp] theorem recorderAtBoundary_otp (old : Nat) (s : State) :
    (recorderAtBoundary old s).otp = s.otp := by simp [recorderAtBoundary]

@[simp] theorem banksAtBoundary_otp (s : State) : (banksAtBoundary s).otp = s.otp := by
  simp [banksAtBoundary]

@[simp] theorem biasAtBoundary_otp (first : Bool) (old : Nat) (s : State) :
    (biasAtBoundary first old s).otp = s.otp := by simp [biasAtBoundary]

@[simp] theorem sheetBoundary_otp (s : State) : (sheetBoundary s).otp = s.otp := by
  simp [sheetBoundary]

@[simp] theorem timingBoundary_otp (s : State) : (timingBoundary s).otp = s.otp := by simp [timingBoundary]

@[simp] theorem stopBoundary_otp (s : State) : (stopBoundary s).otp = s.otp := by simp [stopBoundary]

/-! ## Sessions -/

@[simp] theorem refuseSession_otp (reason : Nat) (s : State) : (refuseSession reason s).otp = s.otp := by
  simp only [refuseSession]
  (repeat' split) <;> simp

@[simp] theorem deviceHello_otp (body : List Byte) (s : State) :
    (deviceHello body s).otp = s.otp := by simp [deviceHello]

@[simp] theorem hostHello_otp (body : List Byte) (s : State) : (hostHello body s).otp = s.otp := by
  simp only [hostHello]
  (repeat' split) <;> simp

@[simp] theorem establish_otp (h : Hello) (z : Nat) (s : State) : (establish h z s).otp = s.otp := by simp [establish]

@[simp] theorem hostFinish_otp (body : List Byte) (s : State) : (hostFinish body s).otp = s.otp := by
  simp only [hostFinish]
  (repeat' split) <;> simp

@[simp] theorem closeSession_otp (s : State) : (closeSession s).otp = s.otp := by
  simp only [closeSession, modSec_otp, modRec_otp, modContour_otp, modLink_otp]
  exact foldl_otp (fun u p => by split <;> rfl) _ _

/-! ## Status -/

@[simp] theorem statusRefused_otp (w0 result : Nat) (s : State) :
    (statusRefused w0 result s).otp = s.otp := by simp [statusRefused]

@[simp] theorem statusQuery_otp (body : List Byte) (s : State) :
    (statusQuery body s).otp = s.otp := by simp [statusQuery]

@[simp] theorem logWrite_otp (e : Nat × Nat) (r : List (Nat × Nat)) (s : State) :
    (logWrite e r s).otp = s.otp := by simp [logWrite]

@[simp] theorem jtagRun_otp (n : Nat) (s : State) : (jtagRun n s).otp = s.otp := by simp [jtagRun]

end Sys2Proof.Laws
end

section
/-! Fuses: which commands burn them, and that no step clears one (R249, R250, R253). -/

namespace Sys2Proof.Proofs

open Sys2Proof Sys2Proof.Machine Sys2Proof.Laws

variable {s t : State}

/-- Where the command completes, the fuses are those of `s`. -/
def FusesKept (s : State) (o : Out) : Prop := ∀ t, o = .next t → t.otp = s.otp

@[simp] theorem fusesKept_next : FusesKept s (.next t) ↔ t.otp = s.otp :=
  ⟨fun h => h t rfl, by rintro h _ ⟨⟩; exact h⟩

theorem fusesKept_need {c : Bool} (h : t.otp = s.otp) : FusesKept s (need c t) := by
  unfold need
  split
  · exact fusesKept_next.2 h
  · exact fun _ => nofun

theorem fusesKept_when {c : Bool} {f : State → State} {dt : Nat} (hf : ∀ u, (f u).otp = u.otp) :
    FusesKept s (.next (when_ c f (advance dt s))) :=
  fusesKept_next.2 ((when_otp hf _ _).trans (advance_otp dt s))

theorem fusesKept_need_when {c c' : Bool} {f : State → State} {dt : Nat} (hf : ∀ u, (f u).otp = u.otp) :
    FusesKept s (need c' (when_ c f (advance dt s))) :=
  fusesKept_need ((when_otp hf _ _).trans (advance_otp dt s))

@[simp] theorem resetDevice_otp (cause : Nat) (por low hold : Bool) (s : State) :
    (resetDevice cause por low hold s).otp = s.otp := rfl

@[simp] theorem firstLock_otp (band control : Nat) (s : State) : (firstLock band control s).otp = s.otp := rfl

@[simp] theorem railsAt_otp (levels : List Nat) (s : State) : (railsAt levels s).otp = s.otp := by
  unfold railsAt
  dsimp only
  (repeat' split) <;> simp

@[simp] theorem railsFall_otp (fall : RailFall) (s : State) : (railsFall fall s).otp = s.otp := by
  simp [railsFall]

@[simp] theorem jtagHold_otp (n : Nat) (scan : BoundaryScan) (s : State) : (jtagHold n scan s).otp = s.otp := by
  simp [jtagHold]

theorem takeWork_otp {s t : State} {w : Work} (h : takeWork s = some (w, t)) : t.otp = s.otp := by
  unfold takeWork at h
  split at h
  · cases h
    exact modContour_otp ..
  · split at h
    · cases h
    · cases h
      exact modEngine_otp ..

/-! ## The device's receiver -/

theorem execUpstreamStage_otp (dt : Nat) (seen : StageInput) (s : State) :
    FusesKept s (execUpstreamStage dt seen s) := by
  simp [execUpstreamStage]

theorem execUpstreamStageTimeout_otp (dt : Nat) (s : State) :
    FusesKept s (execUpstreamStageTimeout dt s) := fusesKept_when fun _ => rfl

theorem execSymbolLockLoss_otp (run : CodeRun) (s : State) :
    FusesKept s (execSymbolLockLoss run s) := fusesKept_when fun _ => rfl

theorem execLossOfSignal_otp (seen : SignalDetect) (s : State) :
    FusesKept s (execLossOfSignal seen s) := fusesKept_when fun _ => rfl

theorem execUpstreamSleep_otp (dt slpSets : Nat) (s : State) :
    FusesKept s (execUpstreamSleep dt slpSets s) := fusesKept_when fun _ => rfl

theorem execUpstreamPacketDiscard_otp (dt : Nat) (codes : List Nat) (rd : Bool) (s : State) :
    FusesKept s (execUpstreamPacketDiscard dt codes rd s) := by
  have hr := receive_otp (rxBytes (advance dt s) codes rd) (rxViol (advance dt s) codes rd) (advance dt s)
  refine fusesKept_next.2 ?_
  split <;> simp_all

/-! ## Training, sleep and lane tests -/

theorem execUts_otp (dt : Nat) (st : Byte) (s : State) : FusesKept s (execUts dt st s) := fusesKept_when fun u => by
  dsimp only
  split
  · exact (utsAct_otp ..).trans (modLink_otp ..)
  · exact modLink_otp ..

theorem execTrainingTimeout_otp (dt : Nat) (s : State) : FusesKept s (execTrainingTimeout dt s) := by
  simp [execTrainingTimeout]

theorem execWidthRise_otp (dt : Nat) (s : State) : FusesKept s (execWidthRise dt s) := by
  simp only [execWidthRise, fusesKept_next]
  (repeat' split) <;> simp

theorem execLinkDown_otp (dt : Nat) (s : State) : FusesKept s (execLinkDown dt s) := by
  simp [execLinkDown]

theorem execDownstreamSleep_otp (dt : Nat) (s : State) :
    FusesKept s (execDownstreamSleep dt s) := fusesKept_when fun _ => rfl

theorem execAlignmentMarker_otp (dt : Nat) (s : State) :
    FusesKept s (execAlignmentMarker dt s) := fusesKept_when fun _ => rfl

theorem execLaneTestStart_otp (dt : Nat) (s : State) :
    FusesKept s (execLaneTestStart dt s) := fusesKept_when fun _ => by simp

theorem execLaneTestEnd_otp (dt : Nat) (errors : List (Nat × Nat)) (s : State) :
    FusesKept s (execLaneTestEnd dt errors s) := fusesKept_need (by simp)

theorem execCheckerSync_otp (dt : Nat) (seen : LaneBits) (s : State) :
    FusesKept s (execCheckerSync dt seen s) := fusesKept_need_when fun _ => rfl

theorem execCheckerSyncLoss_otp (dt lane errors : Nat) (wrong : List Nat) (s : State) :
    FusesKept s (execCheckerSyncLoss dt lane errors wrong s) := by
  unfold execCheckerSyncLoss
  refine fusesKept_need_when fun u => ?_
  dsimp only
  rw [when_otp fun v => by rw [modLink_otp, count_otp], settleChecker_otp]

theorem execLinkPllHoldExpiry_otp (dt : Nat) (s : State) : FusesKept s (execLinkPllHoldExpiry dt s) := by
  simp only [execLinkPllHoldExpiry, fusesKept_next]
  (repeat' split) <;> simp

theorem execPacketTransmit_otp (dt : Nat) (s : State) : FusesKept s (execPacketTransmit dt s) := by
  simp only [execPacketTransmit, fusesKept_next]
  (repeat' split) <;> simp

/-! ## Messages of the host -/

theorem execTimeSync_otp (dt : Nat) (codes : List Nat) (rd : Bool) (s : State) :
    FusesKept s (execTimeSync dt codes rd s) := by
  simp [execTimeSync]

theorem execModeRequest_otp (dt : Nat) (codes : List Nat) (rd : Bool) (s : State) :
    FusesKept s (execModeRequest dt codes rd s) := by
  simp [execModeRequest]

theorem execStatusQuery_otp (dt : Nat) (codes : List Nat) (rd : Bool) (s : State) :
    FusesKept s (execStatusQuery dt codes rd s) := by
  simp [execStatusQuery]

theorem execHostHello_otp (dt : Nat) (codes : List Nat) (rd : Bool) (s : State) :
    FusesKept s (execHostHello dt codes rd s) := by
  simp [execHostHello]

theorem execHostFinish_otp (dt : Nat) (codes : List Nat) (rd : Bool) (s : State) :
    FusesKept s (execHostFinish dt codes rd s) := by
  simp [execHostFinish]

theorem execHostFinishTimeout_otp (dt : Nat) (s : State) : FusesKept s (execHostFinishTimeout dt s) := by
  simp only [execHostFinishTimeout, fusesKept_next]
  (repeat' split) <;> simp

theorem execHostClose_otp (dt : Nat) (codes : List Nat) (rd : Bool) (s : State) :
    FusesKept s (execHostClose dt codes rd s) :=
  fusesKept_next.2 ((onPacket_otp (fun b u => by (repeat' split) <;> simp) ..).trans (advance_otp dt s))

theorem execSafetyMessage_otp (dt : Nat) (codes : List Nat) (rd : Bool) (s : State) :
    FusesKept s (execSafetyMessage dt codes rd s) := by
  simp [execSafetyMessage]

/-! ## Readout queries -/

theorem execListIncidents_otp (dt : Nat) (codes : List Nat) (rd : Bool) (s : State) :
    FusesKept s (execListIncidents dt codes rd s) := by
  simp [execListIncidents]

theorem execReadRecord_otp (dt : Nat) (codes : List Nat) (rd : Bool) (s : State) :
    FusesKept s (execReadRecord dt codes rd s) := by
  refine fusesKept_next.2 ((onReadout_otp (fun _ _ _ _ => readoutGate_otp (fun u => ?_) ..) ..).trans (advance_otp dt s))
  (repeat' split) <;> simp

theorem execReleaseIncident_otp (dt : Nat) (codes : List Nat) (rd : Bool) (s : State) :
    FusesKept s (execReleaseIncident dt codes rd s) := by
  refine fusesKept_next.2 ((onReadout_otp (fun _ _ _ _ => readoutGate_otp (fun u => ?_) ..) ..).trans (advance_otp dt s))
  (repeat' split) <;> simp

theorem execMark_otp (dt : Nat) (codes : List Nat) (rd : Bool) (s : State) :
    FusesKept s (execMark dt codes rd s) := by
  simp [execMark]

theorem execAbortRead_otp (dt : Nat) (codes : List Nat) (rd : Bool) (s : State) :
    FusesKept s (execAbortRead dt codes rd s) := by
  simp [execAbortRead]

/-! ## Safety channels -/

theorem execConnectionExpiry_otp (dt : Nat) (d : Side) (s : State) : FusesKept s (execConnectionExpiry dt d s) := by
  simp [execConnectionExpiry]

theorem execSafetyExchange_otp (dt : Nat) (a b : Bool) (ia ib : Nat) (s : State) :
    FusesKept s (execSafetyExchange dt a b ia ib s) := by
  simp [execSafetyExchange]

theorem execExchangeTimeout_otp (dt : Nat) (d : Side) (s : State) : FusesKept s (execExchangeTimeout dt d s) := by
  simp [execExchangeTimeout]

theorem execNoticeLine_otp (dt : Nat) (d : Side) (s : State) : FusesKept s (execNoticeLine dt d s) := by
  simp [execNoticeLine]

theorem execSafetyHallEdge_otp (dt : Nat) (d : Side) (code : BitVec 3) (s : State) :
    FusesKept s (execSafetyHallEdge dt d code s) := by
  simp [execSafetyHallEdge]

theorem execSpeedBelowWindow_otp (dt : Nat) (d : Side) (s : State) : FusesKept s (execSpeedBelowWindow dt d s) := by
  simp [execSpeedBelowWindow]

theorem execSpeedWindowTimeout_otp (dt : Nat) (d : Side) (s : State) :
    FusesKept s (execSpeedWindowTimeout dt d s) := by
  simp [execSpeedWindowTimeout]

theorem execTorqueRemoval_otp (dt : Nat) (d : Side) (s : State) : FusesKept s (execTorqueRemoval dt d s) := by
  simp [execTorqueRemoval]

theorem execStandstill_otp (dt : Nat) (d : Side) (s : State) : FusesKept s (execStandstill dt d s) := by
  simp only [execStandstill, fusesKept_next, watchSafety_otp]
  (repeat' split) <;> simp

theorem execBnMarker_otp (dt : Nat) (d : Side) (s : State) : FusesKept s (execBnMarker dt d s) := by
  simp [execBnMarker]

theorem execBnMarkerMissing_otp (dt : Nat) (d : Side) (s : State) : FusesKept s (execBnMarkerMissing dt d s) := by
  simp only [execBnMarkerMissing, fusesKept_next, watchSafety_otp]
  refine (when_otp (fun u => ?_) _ _).trans (advance_otp dt s)
  (repeat' split) <;> simp

theorem execFirePadPulse_otp (dt : Nat) (d : Side) (bank width : Nat) (s : State) :
    FusesKept s (execFirePadPulse dt d bank width s) := fusesKept_need (by simp)

theorem execGateTest_otp (dt : Nat) (a b : List (Bool × Bool × Bool)) (s : State) :
    FusesKept s (execGateTest dt a b s) := fusesKept_need (by simp)

theorem execSinSample_otp (dt : Nat) (d : Side) (a0 b0 a1 b1 : Bool) (s : State) :
    FusesKept s (execSinSample dt d a0 b0 a1 b1 s) := by
  simp [execSinSample]

theorem execDiscrepancyTimeout_otp (dt : Nat) (d : Side) (input : Nat) (s : State) :
    FusesKept s (execDiscrepancyTimeout dt d input s) := fusesKept_need (by simp)

/-! ## S_OUT and the sensors -/

theorem execSoutReadback_otp (dt : Nat) (d : Side) (level : Bool) (s : State) :
    FusesKept s (execSoutReadback dt d level s) := by
  simp [execSoutReadback]

theorem execSoutTestPulse_otp (dt : Nat) (d : Side) (s : State) : FusesKept s (execSoutTestPulse dt d s) := by
  simp [execSoutTestPulse]

theorem execSoutTestSample_otp (dt : Nat) (d : Side) (level : Bool) (s : State) :
    FusesKept s (execSoutTestSample dt d level s) := by
  simp [execSoutTestSample]

theorem execSoutTestPulseEnd_otp (dt : Nat) (d : Side) (s : State) : FusesKept s (execSoutTestPulseEnd dt d s) := by
  simp [execSoutTestPulseEnd]

theorem execSafetySensorRead_otp (dt : Nat) (d : Side) (raw : Option Int) (s : State) :
    FusesKept s (execSafetySensorRead dt d raw s) := by
  simp [execSafetySensorRead]

theorem execSafetySelfTestFailure_otp (dt : Nat) (d : Side) (s : State) :
    FusesKept s (execSafetySelfTestFailure dt d s) := by
  simp [execSafetySelfTestFailure]

theorem execSensorReading_otp (dt : Nat) (readings : List (Option Int)) (s : State) :
    FusesKept s (execSensorReading dt readings s) := fusesKept_need (by simp)

/-! ## Motor and bias -/

theorem execHallEdge_otp (dt : Nat) (code : BitVec 3) (observer : Nat) (s : State) :
    FusesKept s (execHallEdge dt code observer s) := by
  simp [execHallEdge]

theorem execHallInvalid_otp (dt : Nat) (code : BitVec 3) (s : State) : FusesKept s (execHallInvalid dt code s) := by
  simp [execHallInvalid]

theorem execStallTimeout_otp (dt : Nat) (s : State) : FusesKept s (execStallTimeout dt s) := by
  simp [execStallTimeout]

theorem execOvercurrent_otp (dt : Nat) (s : State) : FusesKept s (execOvercurrent dt s) := by
  simp [execOvercurrent]

theorem execSyncInEdge_otp (dt : Nat) (rising : Bool) (s : State) : FusesKept s (execSyncInEdge dt rising s) := by
  simp [execSyncInEdge]

theorem execBiasOvervoltage_otp (dt : Nat) (s : State) : FusesKept s (execBiasOvervoltage dt s) := by
  simp [execBiasOvervoltage]

theorem execBiasReadback_otp (dt : Nat) (s : State) : FusesKept s (execBiasReadback dt s) := by
  simp [execBiasReadback]

theorem execUrgentRequest_otp (dt : Nat) (supply : Bool) (s : State) :
    FusesKept s (execUrgentRequest dt supply s) := by
  simp [execUrgentRequest]

/-! ## Supplies and reset -/

theorem execPowerOnReset_otp (dt core : Nat) (s : State) : FusesKept s (execPowerOnReset dt core s) := by
  simp only [execPowerOnReset, fusesKept_next]
  (repeat' split) <;> simp

theorem execNresetLow_otp (dt low : Nat) (s : State) : FusesKept s (execNresetLow dt low s) := by
  refine fusesKept_next.2 ?_
  split
  · exact advance_otp dt s
  · exact advance_otp dt s

theorem execProcessorWatchdog_otp (dt : Nat) (s : State) :
    FusesKept s (execProcessorWatchdog dt s) := fusesKept_when fun _ => rfl

theorem execDipBegin_otp (dt : Nat) (fall : RailFall) (s : State) :
    FusesKept s (execDipBegin dt fall s) := fusesKept_need (by simp)

theorem execResetLevelFall_otp (dt : Nat) (fall : RailFall) (s : State) :
    FusesKept s (execResetLevelFall dt fall s) := fusesKept_need (by simp)

theorem execSupplyReturnLevel_otp (rise : RailRise) (s : State) :
    FusesKept s (execSupplyReturnLevel rise s) := fusesKept_need (by simp)

theorem execDipEnd_otp (dt : Nat) (s : State) : FusesKept s (execDipEnd dt s) := by
  simp only [execDipEnd, fusesKept_next]
  (repeat' split) <;> simp

theorem execDipHoldRelease_otp (dt : Nat) (s : State) : FusesKept s (execDipHoldRelease dt s) := by
  simp [execDipHoldRelease]

/-! ## Reference, lock and vehicle time -/

theorem execResetRelease_otp (dt : Nat) (x y : Byte) (ref : RefEdges) (s : State) :
    FusesKept s (execResetRelease dt x y ref s) := by
  simp [execResetRelease]

theorem execCrystalStartupDone_otp (dt edges : Nat) (s : State) :
    FusesKept s (execCrystalStartupDone dt edges s) := by
  unfold execCrystalStartupDone
  split <;> simp

theorem execReferenceDetectRetry_otp (dt : Nat) (ref : RefEdges) (s : State) :
    FusesKept s (execReferenceDetectRetry dt ref s) := by
  simp [execReferenceDetectRetry]

theorem execLockDeclared_otp (dt : Nat) (band : BandSearch) (loop : LoopState) (s : State) :
    FusesKept s (execLockDeclared dt band loop s) := by
  refine fusesKept_need ?_
  dsimp only
  (repeat' split) <;> simp

theorem execReferenceLoss_otp (dt : Nat) (s : State) : FusesKept s (execReferenceLoss dt s) := by
  simp [execReferenceLoss]

theorem execReferenceReturn_otp (dt edges : Nat) (ppm : Int) (s : State) :
    FusesKept s (execReferenceReturn dt edges ppm s) := by
  simp [execReferenceReturn]

theorem execLossOfLock_otp (seen : LockMonitor) (s : State) : FusesKept s (execLossOfLock seen s) := by
  simp [execLossOfLock]

theorem execOutputsReturn_otp (dt : Nat) (s : State) : FusesKept s (execOutputsReturn dt s) := by
  simp only [execOutputsReturn, fusesKept_next]
  (repeat' split) <;> simp

theorem execLocalCounterWrap_otp (s : State) : FusesKept s (execLocalCounterWrap s) := by
  simp [execLocalCounterWrap]

theorem execSyncStale_otp (dt : Nat) (s : State) : FusesKept s (execSyncStale dt s) := by
  simp [execSyncStale]

/-! ## Gap, shots and receiver -/

theorem execTraverseFrame_otp (dt : Nat) (s : State) : FusesKept s (execTraverseFrame dt s) := by
  simp [execTraverseFrame]

theorem execDiagnosticSlot_otp (dt bank : Nat) (high rises : List Nat) (firings : List (List (Nat × Nat)))
    (measured : Option Nat) (s : State) :
    FusesKept s (execDiagnosticSlot dt bank high rises firings measured s) := fusesKept_need_when fun _ => by simp

theorem execDiagnosticWindowClose_otp (dt : Nat) (s : State) : FusesKept s (execDiagnosticWindowClose dt s) := by
  simp [execDiagnosticWindowClose]

theorem execBearingPeriodStart_otp (dt : Nat) (s : State) : FusesKept s (execBearingPeriodStart dt s) := by
  simp only [execBearingPeriodStart, fusesKept_next]
  (repeat' split) <;> simp

theorem execAmbientEvaluation_otp (dt channel : Nat) (s : State) :
    FusesKept s (execAmbientEvaluation dt channel s) := fusesKept_need (by simp)

theorem execShotSlot_otp (dt : Nat) (s : State) : FusesKept s (execShotSlot dt s) := by
  simp only [execShotSlot, fusesKept_next, watchSafety_otp]
  split <;> simp

theorem execCloseCommand_otp (dt : Nat) (s : State) : FusesKept s (execCloseCommand dt s) := by
  simp [execCloseCommand]

theorem execCoincidenceEvent_otp (dt channel : Nat) (fired : List (Nat × Nat)) (tap : Nat) (s : State) :
    FusesKept s (execCoincidenceEvent dt channel fired tap s) := fusesKept_need (by simp)

theorem execRangeWindowEnd_otp (dt channel : Nat) (s : State) :
    FusesKept s (execRangeWindowEnd dt channel s) := fusesKept_need (by simp)

theorem execRecoveryEnd_otp (dt channel : Nat) (s : State) : FusesKept s (execRecoveryEnd dt channel s) := by
  refine fusesKept_need ?_
  dsimp only
  (repeat' split) <;> simp

theorem execHoldingRegisterFlush_otp (dt channel : Nat) (s : State) :
    FusesKept s (execHoldingRegisterFlush dt channel s) := fusesKept_need (by simp)

theorem execNearZoneLine_otp (dt channel : Nat) (fired : List (Nat × Nat)) (s : State) :
    FusesKept s (execNearZoneLine dt channel fired s) := fusesKept_need (by simp)

/-! ## Survey engines -/

theorem execMarkerApply_otp (dt engine : Nat) (s : State) : FusesKept s (execMarkerApply dt engine s) := by
  refine fusesKept_need ?_
  dsimp only
  (repeat' split) <;> simp

theorem execEventItem_otp (dt : Nat) (reads : ItemReads) (s : State) :
    FusesKept s (execEventItem dt reads s) := fusesKept_need (by simp)

theorem execDropItem_otp (dt engine : Nat) (s : State) :
    FusesKept s (execDropItem dt engine s) := fusesKept_need (by simp)

theorem execContextClose_otp (dt engine : Nat) (reads : SliceReads) (s : State) :
    FusesKept s (execContextClose dt engine reads s) := fusesKept_need (by simp)

theorem execGrantTimeout_otp (dt engine : Nat) (s : State) :
    FusesKept s (execGrantTimeout dt engine s) := fusesKept_need (by simp)

theorem execEngineFailure_otp (dt engine : Nat) (s : State) :
    FusesKept s (execEngineFailure dt engine s) := fusesKept_need (by simp)

theorem execEngineSelfTest_otp (dt engine : Nat) (ran passed : Bool) (s : State) :
    FusesKept s (execEngineSelfTest dt engine ran passed s) := fusesKept_need (by simp)

theorem execSpareSubstitution_otp (dt : Nat) (s : State) : FusesKept s (execSpareSubstitution dt s) := by
  simp only [execSpareSubstitution, fusesKept_next]
  (repeat' split) <;> simp

theorem execDumpCopy_otp (dt : Nat) (s : State) : FusesKept s (execDumpCopy dt s) := by
  simp only [execDumpCopy, fusesKept_next]
  (repeat' split) <;> simp

/-! ## Contour units and the packetiser -/

theorem execContourStart_otp (dt unit : Nat) (reads : PointReads) (s : State) :
    FusesKept s (execContourStart dt unit reads s) := by
  refine fusesKept_need ?_
  dsimp only
  split
  · exact advance_otp dt s
  · split
    · exact advance_otp dt s
    · next hw =>
      have h := takeWork_otp hw
      (repeat' split) <;> simp_all

theorem execContourRecord_otp (dt unit : Nat) (s : State) : FusesKept s (execContourRecord dt unit s) := by
  refine fusesKept_need ?_
  dsimp only
  (repeat' split) <;> simp

theorem execContourWatchdog_otp (dt unit : Nat) (s : State) : FusesKept s (execContourWatchdog dt unit s) := by
  refine fusesKept_need ?_
  dsimp only
  (repeat' split) <;> simp

theorem execContourSelfTest_otp (dt unit : Nat) (ran passed : Bool) (s : State) :
    FusesKept s (execContourSelfTest dt unit ran passed s) := fusesKept_need (by simp)

theorem execPointPacketRelease_otp (dt group : Nat) (s : State) :
    FusesKept s (execPointPacketRelease dt group s) := by
  refine fusesKept_need ?_
  dsimp only
  (repeat' split) <;> simp

theorem execSheetTrailer_otp (dt : Nat) (s : State) : FusesKept s (execSheetTrailer dt s) := by
  simp only [execSheetTrailer, fusesKept_next]
  (repeat' split) <;> simp

theorem execSafeStopTrailer_otp (dt : Nat) (s : State) : FusesKept s (execSafeStopTrailer dt s) := by
  simp only [execSafeStopTrailer, fusesKept_next]
  (repeat' split) <;> simp

/-! ## Calibration -/

theorem execCalibrationProcessing_otp (dt : Nat) (norOk : Bool) (s : State) :
    FusesKept s (execCalibrationProcessing dt norOk s) := by
  simp only [execCalibrationProcessing, fusesKept_next]
  (repeat' split) <;> simp

theorem execCoreSegment_otp (dt hitTaps : Nat) (hits : List (Nat × List Nat))
    (firings : List (Nat × List (List (Nat × Nat)))) (s : State) :
    FusesKept s (execCoreSegment dt hitTaps hits firings s) := by
  simp only [execCoreSegment, fusesKept_next]
  (repeat' split) <;> simp

theorem execOpticalSegment_otp (dt : Nat) (events : List (Nat × List (Nat × Nat × Nat))) (light : List (Nat × Nat))
    (widths : List (Nat × Int)) (s : State) :
    FusesKept s (execOpticalSegment dt events light widths s) := by
  simp only [execOpticalSegment, fusesKept_next]
  (repeat' split) <;> simp

theorem execDatumEdgePair_otp (dt : Nat) (edges : Nat × Nat) (s : State) :
    FusesKept s (execDatumEdgePair dt edges s) := by
  simp only [execDatumEdgePair, fusesKept_next]
  (repeat' split) <;> simp

theorem execCalibrationAbandon_otp (dt : Nat) (s : State) : FusesKept s (execCalibrationAbandon dt s) := by
  simp only [execCalibrationAbandon, fusesKept_next]
  (repeat' split) <;> simp

/-! ## Auxiliary inputs and the distance output -/

theorem execAuxConversionDone_otp (dt : Nat) (vin : Int) (vref : Nat) (overvoltage : Bool) (s : State) :
    FusesKept s (execAuxConversionDone dt vin vref overvoltage s) := by
  simp only [execAuxConversionDone, fusesKept_next]
  (repeat' split) <;> simp

theorem execNeardistValueReady_otp (dt : Nat) (s : State) : FusesKept s (execNeardistValueReady dt s) := by
  simp only [execNeardistValueReady, fusesKept_next]
  (repeat' split) <;> simp

theorem execNeardistPeriod_otp (dt : Nat) (s : State) :
    FusesKept s (execNeardistPeriod dt s) := fusesKept_when fun _ => rfl

theorem execNeardistNoDataTimeout_otp (dt : Nat) (s : State) : FusesKept s (execNeardistNoDataTimeout dt s) := by
  simp [execNeardistNoDataTimeout]

/-! ## Recorder -/

theorem execRecorderMount_otp (mount : MountInput) (ce0 ce1 : Option NandPart) (s : State) :
    FusesKept s (execRecorderMount mount ce0 ce1 s) := by
  unfold execRecorderMount
  split <;> simp

theorem execNandResponseTimeout_otp (dt : Nat) (s : State) :
    FusesKept s (execNandResponseTimeout dt s) := fusesKept_when fun _ => rfl

theorem execCrashTrigger_otp (dt high low : Nat) (s : State) : FusesKept s (execCrashTrigger dt high low s) := by
  simp [execCrashTrigger]

theorem execIncidentTrigger_otp (dt : Nat) (s : State) : FusesKept s (execIncidentTrigger dt s) := by
  simp only [execIncidentTrigger, fusesKept_next]
  (repeat' split) <;> simp

theorem execPostTriggerEnd_otp (dt : Nat) (s : State) : FusesKept s (execPostTriggerEnd dt s) := by
  simp only [execPostTriggerEnd, fusesKept_next]
  (repeat' split) <;> simp

theorem execCommitPhase1_otp (run : PageRun) (s : State) : FusesKept s (execCommitPhase1 run s) := by
  simp [execCommitPhase1]

theorem execCommitPhase2_otp (run : PageRun) (s : State) : FusesKept s (execCommitPhase2 run s) := by
  simp [execCommitPhase2]

theorem execSegmentClose_otp (run : PageRun) (s : State) :
    FusesKept s (execSegmentClose run s) := fusesKept_when fun u => by
  dsimp only
  (repeat' split) <;> simp

theorem execBodyBlockForm_otp (dt : Nat) (s : State) : FusesKept s (execBodyBlockForm dt s) := by
  simp [execBodyBlockForm]

theorem execNandProgramDone_otp (dt : Nat) (ok : Bool) (bitErrors : List Nat) (s : State) :
    FusesKept s (execNandProgramDone dt ok bitErrors s) := by
  simp only [execNandProgramDone, fusesKept_next]
  (repeat' split) <;> simp

theorem execNandEraseDone_otp (dt : Nat) (ended : EraseResult) (s : State) :
    FusesKept s (execNandEraseDone dt ended s) := by
  simp only [execNandEraseDone, fusesKept_next]
  (repeat' split) <;> simp

theorem execNandReadDone_otp (dt : Nat) (bitErrors : List Nat) (s : State) :
    FusesKept s (execNandReadDone dt bitErrors s) := by
  simp only [execNandReadDone, fusesKept_next]
  (repeat' split) <;> simp

theorem execScrub_otp (dt : Nat) (readBack : List Nat) (s : State) : FusesKept s (execScrub dt readBack s) := by
  simp only [execScrub, fusesKept_next]
  (repeat' split) <;> simp

theorem execPoweredHour_otp (dt : Nat) (s : State) : FusesKept s (execPoweredHour dt s) := by
  simp [execPoweredHour]

/-! ## Movement channels and the NOR flash -/

theorem execDescriptorComplete_otp (dt channel : Nat) (s : State) :
    FusesKept s (execDescriptorComplete dt channel s) := fusesKept_need (by simp)

theorem execChannelHalt_otp (dt channel : Nat) (info : HaltInfo) (s : State) :
    FusesKept s (execChannelHalt dt channel info s) := fusesKept_need (by simp)

theorem execNorPageProgramDone_otp (dt : Nat) (ok : Bool) (s : State) :
    FusesKept s (execNorPageProgramDone dt ok s) := by
  simp only [execNorPageProgramDone, fusesKept_next]
  (repeat' split) <;> simp

theorem execNorSectorEraseDone_otp (dt : Nat) (ok : Bool) (s : State) :
    FusesKept s (execNorSectorEraseDone dt ok s) := by
  simp only [execNorSectorEraseDone, fusesKept_next]
  (repeat' split) <;> simp

theorem execImageAccept_otp (dt : Nat) (s : State) : FusesKept s (execImageAccept dt s) := by
  simp [execImageAccept]

theorem execSheetBoundary_otp (dt : Nat) (s : State) : FusesKept s (execSheetBoundary dt s) := by
  simp [execSheetBoundary]

theorem execTimingOnlyBoundary_otp (dt : Nat) (s : State) : FusesKept s (execTimingOnlyBoundary dt s) := by
  simp [execTimingOnlyBoundary]

/-! ## Log, status pages and JTAG -/

theorem execEventLogWrite_otp (dt : Nat) (s : State) : FusesKept s (execEventLogWrite dt s) := by
  simp only [execEventLogWrite, fusesKept_next]
  (repeat' split) <;> simp

theorem execStatusPageAdvance_otp (dt : Nat) (s : State) : FusesKept s (execStatusPageAdvance dt s) := by
  simp [execStatusPageAdvance]

theorem execBypass_otp (dt : Nat) (s : State) : FusesKept s (execBypass dt s) := by
  simp [execBypass]

theorem execIdcode_otp (dt : Nat) (s : State) : FusesKept s (execIdcode dt s) := by
  simp [execIdcode]

theorem execSamplePreload_otp (dt : Nat) (scan : BoundaryScan) (s : State) :
    FusesKept s (execSamplePreload dt scan s) := fusesKept_need (by simp)

theorem execExtest_otp (dt : Nat) (scan : BoundaryScan) (s : State) :
    FusesKept s (execExtest dt scan s) := fusesKept_need (by simp)

theorem execJtagStatusRead_otp (dt addr words : Nat) (s : State) :
    FusesKept s (execJtagStatusRead dt addr words s) := fusesKept_need (by simp)

/-- IMAGE_VERIFY aside, no command burns a fuse. -/
theorem exec_otp (c : Instr) (s : State) (hc : ∀ dt nor, c ≠ .imageVerify dt nor) : FusesKept s (exec c s) := by
  cases c with
  | powerOnReset _ _ => exact execPowerOnReset_otp _ _ _
  | nresetLow _ _ => exact execNresetLow_otp _ _ _
  | resetRelease _ _ _ _ => exact execResetRelease_otp _ _ _ _ _
  | crystalStartupDone _ _ => exact execCrystalStartupDone_otp _ _ _
  | referenceDetectRetry _ _ => exact execReferenceDetectRetry_otp _ _ _
  | lockDeclared _ _ _ => exact execLockDeclared_otp _ _ _ _
  | imageVerify dt nor => exact absurd rfl (hc dt nor)
  | imageAccept _ => exact execImageAccept_otp _ _
  | recorderMount _ _ _ => exact execRecorderMount_otp _ _ _ _
  | hallEdge _ _ _ => exact execHallEdge_otp _ _ _ _
  | hallInvalid _ _ => exact execHallInvalid_otp _ _ _
  | stallTimeout _ => exact execStallTimeout_otp _ _
  | overcurrent _ => exact execOvercurrent_otp _ _
  | timingOnlyBoundary _ => exact execTimingOnlyBoundary_otp _ _
  | sheetBoundary _ => exact execSheetBoundary_otp _ _
  | traverseFrame _ => exact execTraverseFrame_otp _ _
  | diagnosticSlot _ _ _ _ _ _ => exact execDiagnosticSlot_otp _ _ _ _ _ _ _
  | diagnosticWindowClose _ => exact execDiagnosticWindowClose_otp _ _
  | engineSelfTest _ _ _ _ => exact execEngineSelfTest_otp _ _ _ _ _
  | contourSelfTest _ _ _ _ => exact execContourSelfTest_otp _ _ _ _ _
  | coreSegment _ _ _ _ => exact execCoreSegment_otp _ _ _ _ _
  | opticalSegment _ _ _ _ => exact execOpticalSegment_otp _ _ _ _ _
  | calibrationProcessing _ _ => exact execCalibrationProcessing_otp _ _ _
  | calibrationAbandon _ => exact execCalibrationAbandon_otp _ _
  | datumEdgePair _ _ => exact execDatumEdgePair_otp _ _ _
  | bearingPeriodStart _ => exact execBearingPeriodStart_otp _ _
  | ambientEvaluation _ _ => exact execAmbientEvaluation_otp _ _ _
  | shotSlot _ => exact execShotSlot_otp _ _
  | rangeWindowEnd _ _ => exact execRangeWindowEnd_otp _ _ _
  | coincidenceEvent _ _ _ _ => exact execCoincidenceEvent_otp _ _ _ _ _
  | recoveryEnd _ _ => exact execRecoveryEnd_otp _ _ _
  | nearZoneLine _ _ _ => exact execNearZoneLine_otp _ _ _ _
  | holdingRegisterFlush _ _ => exact execHoldingRegisterFlush_otp _ _ _
  | markerApply _ _ => exact execMarkerApply_otp _ _ _
  | eventItem _ _ => exact execEventItem_otp _ _ _
  | dropItem _ _ => exact execDropItem_otp _ _ _
  | contextClose _ _ _ => exact execContextClose_otp _ _ _ _
  | closeCommand _ => exact execCloseCommand_otp _ _
  | grantTimeout _ _ => exact execGrantTimeout_otp _ _ _
  | engineFailure _ _ => exact execEngineFailure_otp _ _ _
  | spareSubstitution _ => exact execSpareSubstitution_otp _ _
  | contourStart _ _ _ => exact execContourStart_otp _ _ _ _
  | contourRecord _ _ => exact execContourRecord_otp _ _ _
  | contourWatchdog _ _ => exact execContourWatchdog_otp _ _ _
  | pointPacketRelease _ _ => exact execPointPacketRelease_otp _ _ _
  | sheetTrailer _ => exact execSheetTrailer_otp _ _
  | safeStopTrailer _ => exact execSafeStopTrailer_otp _ _
  | dumpCopy _ => exact execDumpCopy_otp _ _
  | packetTransmit _ => exact execPacketTransmit_otp _ _
  | alignmentMarker _ => exact execAlignmentMarker_otp _ _
  | downstreamSleep _ => exact execDownstreamSleep_otp _ _
  | upstreamStage _ _ => exact execUpstreamStage_otp _ _ _
  | upstreamStageTimeout _ => exact execUpstreamStageTimeout_otp _ _
  | symbolLockLoss _ => exact execSymbolLockLoss_otp _ _
  | lossOfSignal _ => exact execLossOfSignal_otp _ _
  | uts _ _ => exact execUts_otp _ _ _
  | trainingTimeout _ => exact execTrainingTimeout_otp _ _
  | widthRise _ => exact execWidthRise_otp _ _
  | linkDown _ => exact execLinkDown_otp _ _
  | upstreamSleep _ _ => exact execUpstreamSleep_otp _ _ _
  | laneTestStart _ => exact execLaneTestStart_otp _ _
  | laneTestEnd _ _ => exact execLaneTestEnd_otp _ _ _
  | timeSync _ _ _ => exact execTimeSync_otp _ _ _ _
  | syncStale _ => exact execSyncStale_otp _ _
  | modeRequest _ _ _ => exact execModeRequest_otp _ _ _ _
  | statusQuery _ _ _ => exact execStatusQuery_otp _ _ _ _
  | hostHello _ _ _ => exact execHostHello_otp _ _ _ _
  | hostFinish _ _ _ => exact execHostFinish_otp _ _ _ _
  | hostFinishTimeout _ => exact execHostFinishTimeout_otp _ _
  | hostClose _ _ _ => exact execHostClose_otp _ _ _ _
  | listIncidents _ _ _ => exact execListIncidents_otp _ _ _ _
  | readRecord _ _ _ => exact execReadRecord_otp _ _ _ _
  | releaseIncident _ _ _ => exact execReleaseIncident_otp _ _ _ _
  | mark _ _ _ => exact execMark_otp _ _ _ _
  | abortRead _ _ _ => exact execAbortRead_otp _ _ _ _
  | safetyMessage _ _ _ => exact execSafetyMessage_otp _ _ _ _
  | connectionExpiry _ _ => exact execConnectionExpiry_otp _ _ _
  | safetyExchange _ _ _ _ _ => exact execSafetyExchange_otp _ _ _ _ _ _
  | exchangeTimeout _ _ => exact execExchangeTimeout_otp _ _ _
  | noticeLine _ _ => exact execNoticeLine_otp _ _ _
  | safetyHallEdge _ _ _ => exact execSafetyHallEdge_otp _ _ _ _
  | speedWindowTimeout _ _ => exact execSpeedWindowTimeout_otp _ _ _
  | bnMarker _ _ => exact execBnMarker_otp _ _ _
  | firePadPulse _ _ _ _ => exact execFirePadPulse_otp _ _ _ _ _
  | gateTest _ _ _ => exact execGateTest_otp _ _ _ _
  | torqueRemoval _ _ => exact execTorqueRemoval_otp _ _ _
  | standstill _ _ => exact execStandstill_otp _ _ _
  | sinSample _ _ _ _ _ _ => exact execSinSample_otp _ _ _ _ _ _ _
  | discrepancyTimeout _ _ _ => exact execDiscrepancyTimeout_otp _ _ _ _
  | soutReadback _ _ _ => exact execSoutReadback_otp _ _ _ _
  | soutTestPulse _ _ => exact execSoutTestPulse_otp _ _ _
  | soutTestSample _ _ _ => exact execSoutTestSample_otp _ _ _ _
  | safetySensorRead _ _ _ => exact execSafetySensorRead_otp _ _ _ _
  | sensorReading _ _ => exact execSensorReading_otp _ _ _
  | biasOvervoltage _ => exact execBiasOvervoltage_otp _ _
  | biasReadback _ => exact execBiasReadback_otp _ _
  | auxConversionDone _ _ _ _ => exact execAuxConversionDone_otp _ _ _ _ _
  | urgentRequest _ _ => exact execUrgentRequest_otp _ _ _
  | neardistValueReady _ => exact execNeardistValueReady_otp _ _
  | neardistPeriod _ => exact execNeardistPeriod_otp _ _
  | neardistNoDataTimeout _ => exact execNeardistNoDataTimeout_otp _ _
  | referenceLoss _ => exact execReferenceLoss_otp _ _
  | referenceReturn _ _ _ => exact execReferenceReturn_otp _ _ _ _
  | lossOfLock _ => exact execLossOfLock_otp _ _
  | outputsReturn _ => exact execOutputsReturn_otp _ _
  | linkPllHoldExpiry _ => exact execLinkPllHoldExpiry_otp _ _
  | localCounterWrap => exact execLocalCounterWrap_otp _
  | syncInEdge _ _ => exact execSyncInEdge_otp _ _ _
  | dipBegin _ _ => exact execDipBegin_otp _ _ _
  | dipEnd _ => exact execDipEnd_otp _ _
  | dipHoldRelease _ => exact execDipHoldRelease_otp _ _
  | resetLevelFall _ _ => exact execResetLevelFall_otp _ _ _
  | processorWatchdog _ => exact execProcessorWatchdog_otp _ _
  | crashTrigger _ _ _ => exact execCrashTrigger_otp _ _ _ _
  | incidentTrigger _ => exact execIncidentTrigger_otp _ _
  | commitPhase1 _ => exact execCommitPhase1_otp _ _
  | postTriggerEnd _ => exact execPostTriggerEnd_otp _ _
  | commitPhase2 _ => exact execCommitPhase2_otp _ _
  | bodyBlockForm _ => exact execBodyBlockForm_otp _ _
  | segmentClose _ => exact execSegmentClose_otp _ _
  | nandProgramDone _ _ _ => exact execNandProgramDone_otp _ _ _ _
  | nandEraseDone _ _ => exact execNandEraseDone_otp _ _ _
  | nandReadDone _ _ => exact execNandReadDone_otp _ _ _
  | scrub _ _ => exact execScrub_otp _ _ _
  | poweredHour _ => exact execPoweredHour_otp _ _
  | descriptorComplete _ _ => exact execDescriptorComplete_otp _ _ _
  | channelHalt _ _ _ => exact execChannelHalt_otp _ _ _ _
  | eventLogWrite _ => exact execEventLogWrite_otp _ _
  | statusPageAdvance _ => exact execStatusPageAdvance_otp _ _
  | bypass _ => exact execBypass_otp _ _
  | idcode _ => exact execIdcode_otp _ _
  | samplePreload _ _ => exact execSamplePreload_otp _ _ _
  | extest _ _ => exact execExtest_otp _ _ _
  | jtagStatusRead _ _ _ => exact execJtagStatusRead_otp _ _ _ _
  | speedBelowWindow _ _ => exact execSpeedBelowWindow_otp _ _ _
  | bnMarkerMissing _ _ => exact execBnMarkerMissing_otp _ _ _
  | safetySelfTestFailure _ _ => exact execSafetySelfTestFailure_otp _ _ _
  | soutTestPulseEnd _ _ => exact execSoutTestPulseEnd_otp _ _ _
  | checkerSync _ _ => exact execCheckerSync_otp _ _ _
  | checkerSyncLoss _ _ _ _ => exact execCheckerSyncLoss_otp _ _ _ _ _
  | upstreamPacketDiscard _ _ _ => exact execUpstreamPacketDiscard_otp _ _ _ _
  | nandResponseTimeout _ => exact execNandResponseTimeout_otp _ _
  | norPageProgramDone _ _ => exact execNorPageProgramDone_otp _ _ _
  | norSectorEraseDone _ _ => exact execNorSectorEraseDone_otp _ _ _
  | supplyReturnLevel _ => exact execSupplyReturnLevel_otp _ _

/-! ## IMAGE_VERIFY (R249, R250) -/

/-- The fuses after CLAIM and VERSION_ADVANCE for the image header `h`. -/
def burned (h : List Byte) (o : Otp) : Otp := (burnFuses h { State.reset with otp := o }).otp

theorem burnFuses_otp (h : List Byte) (s : State) : (burnFuses h s).otp = burned h s.otp := rfl

/-- A claimed device burns version fuses only. -/
theorem burned_claimed {h : List Byte} {o : Otp} (hc : o.claimed = true) :
    burned h o = { o with version := o.version ||| (2 ^ leAt h 21 1 - 1) } := by
  simp [burned, burnFuses, hc]

theorem burned_unclaimed {h : List Byte} {o : Otp} (hc : o.claimed = false) : burned h o = { o with
      hash := o.hash ||| keyHash h, debugLock := true, claimed := true
      version := o.version ||| (2 ^ leAt h 21 1 - 1) } := by
  simp [burned, burnFuses, hc]

theorem verifyImage_otp (written : Bool) (s : State) : (verifyImage written s).otp =
    if imageResult s (imageBytes s) = 0 then burned ((imageBytes s).take 256) s.otp else s.otp := by
  unfold verifyImage
  dsimp only
  split <;> simp [burnFuses_otp]

/-- The NOR part is known, the device key is unwrapped, and the image has not been judged yet (R243, R269). -/
def verifyStart (nor : Option NorPart) (s : State) : State :=
  { s with
    nor := norReadMode nor s.nor
    image := { s.image with judged := true, load := if norSuits nor then 1 else 2 }
    sec := { s.sec with
      claim := claimState s, d := unwrapKey s.otp, result := if (unwrapKey s.otp).isSome then 1 else 8 } }

/-- The verification that a Start makes once. -/
def verifyOnce (nor : Option NorPart) (s : State) : State :=
  if (unwrapKey s.otp).isNone then verifyStart nor s
  else if norSuits nor then verifyImage (nor.any (·.counterOk)) (verifyStart nor s)
  else startCounter false false (verifyStart nor s)

theorem execImageVerify_eq (dt : Nat) (nor : Option NorPart) (s : State) : execImageVerify dt nor s =
    .next (when_ (s.phase == .start && !s.image.judged) (watchSafety (verifyOnce nor)) (advance dt s)) := rfl

theorem verifyOnce_otp (nor : Option NorPart) (s : State) :
    (verifyOnce nor s).otp = s.otp ∨ ∃ hdr, (verifyOnce nor s).otp = burned hdr s.otp := by
  unfold verifyOnce
  split
  · exact .inl rfl
  · split
    · rw [verifyImage_otp]
      split
      · exact .inr ⟨_, rfl⟩
      · exact .inl rfl
    · exact .inl (startCounter_otp ..)

/-- IMAGE_VERIFY burns what an accepted image's header says, or nothing. -/
theorem execImageVerify_otp {dt : Nat} {nor : Option NorPart} (h : execImageVerify dt nor s = .next t) :
    t.otp = s.otp ∨ ∃ hdr, t.otp = burned hdr s.otp := by
  rw [execImageVerify_eq] at h
  cases h
  unfold when_
  split
  · rw [watchSafety_otp, ← advance_otp dt s]
    exact verifyOnce_otp nor (advance dt s)
  · exact .inl (advance_otp dt s)

/-! ## No fuse is cleared -/

/-- Every fuse blown in `o` is blown in `o'`, and the hash field of a claimed device is closed (R249, R253). -/
structure FusesGrow (o o' : Otp) : Prop where
  hash : o.hash ||| o'.hash = o'.hash
  version : o.version ||| o'.version = o'.version
  debugLock : o.debugLock = true → o'.debugLock = true
  claimed : o.claimed = true → o'.claimed = true ∧ o'.hash = o.hash

theorem FusesGrow.refl (o : Otp) : FusesGrow o o := ⟨Nat.or_self _, Nat.or_self _, id, fun h => ⟨h, rfl⟩⟩

theorem lor_lor_self_left (a b : Nat) : a ||| (a ||| b) = a ||| b := by rw [← Nat.or_assoc, Nat.or_self]

theorem fusesGrow_burned (h : List Byte) (o : Otp) : FusesGrow o (burned h o) := by
  cases hc : o.claimed with
  | true =>
    rw [burned_claimed hc]
    exact ⟨Nat.or_self _, lor_lor_self_left .., id, fun _ => ⟨hc, rfl⟩⟩
  | false =>
    rw [burned_unclaimed hc]
    exact ⟨lor_lor_self_left .., lor_lor_self_left .., fun _ => rfl, fun h => absurd h (by simp [hc])⟩

theorem fusesGrow_exec {c : Instr} (h : exec c s = .next t) : FusesGrow s.otp t.otp := by
  by_cases hc : ∃ dt nor, c = .imageVerify dt nor
  · obtain ⟨dt, nor, rfl⟩ := hc
    obtain ho | ⟨hdr, ho⟩ := execImageVerify_otp h <;> rw [ho]
    · exact .refl _
    · exact fusesGrow_burned hdr _
  · rw [exec_otp c s (fun dt nor e => hc ⟨dt, nor, e⟩) t h]
    exact .refl _

/-- Settles O7: of all commands only IMAGE_VERIFY burns fuses, and what it burns adds to those that are blown. -/
theorem fusesNeverClear : Obligations.FusesNeverClear := by
  unfold Obligations.FusesNeverClear
  intro s t hstep
  unfold step at hstep
  split at hstep
  · cases hstep
    obtain ⟨hhash, hversion, hlock, hclaimed⟩ := FusesGrow.refl s.otp
    exact ⟨hhash, hversion, hlock, hclaimed, fun h => absurd rfl h⟩
  · next c r hp =>
    obtain ⟨hhash, hversion, hlock, hclaimed⟩ := fusesGrow_exec hstep
    refine ⟨hhash, hversion, hlock, hclaimed, fun hne => ?_⟩
    by_contra hc
    exact hne (exec_otp c { s with pending := r } (fun dt nor e => hc ⟨dt, nor, r, hp.trans (by rw [e])⟩) t hstep)

end Sys2Proof.Proofs
end

section
/-! The JTAG port: the hold in reset, the boundary cells, and the words it reads (R252, R427 to R429, R434, R453). -/

namespace Sys2Proof.Proofs

open Sys2Proof Sys2Proof.Machine Sys2Proof.Laws

variable {s t : State}

/-! ## The register of the boundary cells (R453) -/

theorem boundaryBalls_length : boundaryBalls.length = 131 := by decide +kernel

theorem boundaryBalls_nodup : boundaryBalls.Nodup := by decide +kernel

/-- A ball's cell is the one in its place. -/
theorem lookup_zip_of_nodup {α β : Type} [BEq α] [LawfulBEq α] {l : List α} {m : List β} {k : Nat} {p : α} {v : β}
    (hl : l.Nodup) (hk : l[k]? = some p) (hm : m[k]? = some v) : (l.zip m).lookup p = some v := by
  induction l generalizing m k with
  | nil => cases hk
  | cons a l ih =>
    obtain ⟨ha, hl⟩ := List.nodup_cons.1 hl
    cases m with
    | nil => cases hm
    | cons b m =>
      cases k with
      | zero =>
        cases hk
        cases hm
        simp
      | succ k =>
        rw [List.getElem?_cons_succ] at hk hm
        have hne : p ≠ a := fun h => ha (h ▸ List.mem_of_getElem? hk)
        rw [List.zip_cons_cons, List.lookup_cons, beq_false_of_ne hne]
        exact ih hl hk hm

theorem captureCells_length {board : List Bool} (h : board.length = 131) (s : State) :
    (captureCells s board).length = 131 := by
  simp [captureCells, boundaryBalls_length, h]

theorem drivingCell_of_inputBall {p : Ball} (h : inputBall p = true) (s : State) : drivingCell s p = none := by
  simp [drivingCell, h]

theorem drivingCell_of_observeOnly {p : Ball} (h : observeOnly p = true) (s : State) : drivingCell s p = none := by
  simp [drivingCell, h]

theorem restLevel_of_inputBall {p : Ball} (h : inputBall p = true) : restLevel p = .highZ := by
  cases p <;> simp_all [inputBall, restLevel]

theorem runLevel_of_inputBall {p : Ball} (h : inputBall p = true) (s : State) : runLevel s p = .highZ := by
  cases p <;> simp_all [inputBall, runLevel]

/-- The device puts nothing on a ball that it only senses. -/
theorem padLevel_of_inputBall {p : Ball} (h : inputBall p = true) (s : State) : padLevel s p = .highZ := by
  simp [padLevel, drivingCell_of_inputBall h, restLevel_of_inputBall h, runLevel_of_inputBall h]

/-- Its cell captures what the board puts on it. -/
theorem captureCell_of_inputBall {p : Ball} (h : inputBall p = true) (s : State) (board : Bool) :
    captureCell s p board = board := by
  rw [captureCell, padLevel_of_inputBall h]

theorem captureCells_getD {board : List Bool} {k : Nat} {p : Ball} (hl : board.length = 131) (hk : boundaryBalls[k]? = some p)
    (h : inputBall p = true) (s : State) : (captureCells s board).getD k false = board.getD k false := by
  have hlt : k < 131 := by
    rw [← boundaryBalls_length]
    exact (List.getElem?_eq_some_iff.1 hk).1
  have hb : board[k]? = some board[k] := List.getElem?_eq_getElem (by omega)
  have hz : (boundaryBalls.zip board)[k]? = some (p, board[k]) := List.getElem?_zip_eq_some.2 ⟨hk, hb⟩
  simp [captureCells, hz, hb, captureCell_of_inputBall h]

/-! ## SAMPLE_PRELOAD and EXTEST hold the device in reset (R427 to R429, R453) -/

theorem jtagHold_held (n : Nat) (scan : BoundaryScan) (h : s.supply.jtagHold = true) :
    jtagHold n scan s = { s with jtag := (jtagHold n scan s).jtag } := by
  simp [jtagHold, h]

theorem jtagHold_running (n : Nat) (scan : BoundaryScan) (h : s.supply.jtagHold = false) :
    jtagHold n scan s = { resetDevice s.supply.resetCause s.supply.por s.supply.nresetLow true s with
      jtag := (jtagHold n scan s).jtag } := by
  simp [jtagHold, h]

theorem jtagHold_jtag (n : Nat) (scan : BoundaryScan) (s : State) :
    (jtagHold n scan s).jtag.instr = n ∧ (jtagHold n scan s).jtag.cells = scan.shifted ∧
      ∃ u, (jtagHold n scan s).jtag.captured = captureCells u scan.levels := ⟨rfl, rfl, _, rfl⟩

theorem jtagHold_hold (n : Nat) (scan : BoundaryScan) (s : State) : (jtagHold n scan s).supply.jtagHold = true := by
  cases h : s.supply.jtagHold with
  | true => rw [jtagHold_held n scan h, h]
  | false => rw [jtagHold_running n scan h]; rfl

/-- Fuses, NOR contents, waiting commands and time are not the hold's. -/
theorem jtagHold_kept (n : Nat) (scan : BoundaryScan) (s : State) :
    (jtagHold n scan s).nor.mem = s.nor.mem ∧ (jtagHold n scan s).pending = s.pending ∧
      (jtagHold n scan s).now = s.now := by
  cases h : s.supply.jtagHold with
  | true => rw [jtagHold_held n scan h]; exact ⟨rfl, rfl, rfl⟩
  | false => rw [jtagHold_running n scan h]; exact ⟨rfl, rfl, rfl⟩

/-- In reset with its rail present, an observe-only ball stays at its level of R428. -/
theorem padLevel_of_observeOnly {p : Ball} (hr : s.phase = .reset) (ha : railAbsent s (ballRail p) = false)
    (h : observeOnly p = true) : padLevel s p = restLevel p := by
  simp [padLevel, hr, ha, drivingCell_of_observeOnly h]

/-- Under EXTEST another output ball takes the bit of its cell. -/
theorem padLevel_of_extest {p : Ball} {k : Nat} {v : Bool} (hr : s.phase = .reset)
    (ha : railAbsent s (ballRail p) = false) (hh : s.supply.jtagHold = true) (hn : s.jtag.instr = 4)
    (ho : observeOnly p = false) (hi : inputBall p = false) (hk : boundaryBalls[k]? = some p)
    (hv : s.jtag.cells[k]? = some v) : padLevel s p = levelOf v := by
  have hd : drivingCell s p = some v := by
    rw [drivingCell, hh, hn, ho, hi]
    exact lookup_zip_of_nodup boundaryBalls_nodup hk hv
  simp [padLevel, hr, ha, hd]

/-- What SAMPLE_PRELOAD (`n` = 3) and EXTEST (`n` = 4) leave of a state in which `dt` has passed. -/
theorem exec_scan {dt n : Nat} {scan : BoundaryScan} {i : Instr} (s : State)
    (hi : (i = .samplePreload dt scan ∧ n = 3) ∨ (i = .extest dt scan ∧ n = 4)) (hl : scan.levels.length = 131)
    (hc : scan.shifted.length = 131) : exec i s = .next (jtagHold n scan (advance dt s)) := by
  have hfit : scanFits scan = true := by simp [scanFits, hl, hc]
  obtain ⟨rfl, rfl⟩ | ⟨rfl, rfl⟩ := hi
  · exact if_pos hfit
  · exact if_pos hfit

/-! ## The status words (R434) -/

/-- The words that JTAG_STATUS_READ shifts out. -/
def jtagWords (addr words : Nat) (s : State) : List Nat :=
  if s.phase == .mode && decide (s.seq.mode = 6) then
    (List.range words).map (fun i => if addr + i < 1024 then statusAt (settleCheckers s) (4 * (addr + i)) else 0)
  else List.replicate words 0

theorem execJtagStatusRead_eq {dt addr words : Nat} (s : State) (ha : addr < 1024) (h1 : 1 ≤ words) (h64 : words ≤ 64) :
    exec (.jtagStatusRead dt addr words) s =
      .next { advance dt s with jtag := { (advance dt s).jtag with tdo := jtagWords addr words (advance dt s) } } :=
  if_pos (decide_eq_true ⟨ha, h1, h64⟩)

theorem jtagWords_length (addr words : Nat) (s : State) : (jtagWords addr words s).length = words := by
  unfold jtagWords
  split <;> simp

theorem jtagWords_depot {addr words i : Nat} (hp : s.phase = .mode) (hm : s.seq.mode = 6) (hi : i < words)
    (ha : addr + i < 1024) : (jtagWords addr words s).getD i 0 = statusAt (settleCheckers s) (4 * (addr + i)) := by
  simp [jtagWords, hp, hm, hi, ha]

theorem jtagWords_elsewhere {addr words : Nat} (h : s.phase ≠ .mode ∨ s.seq.mode ≠ 6) :
    ∀ w ∈ jtagWords addr words s, w = 0 := by
  have hc : (s.phase == .mode && decide (s.seq.mode = 6)) = false := by
    obtain h | h := h <;> simp [h]
  rw [jtagWords, hc]
  exact fun w hw => (List.mem_replicate.1 hw).2

/-! ## IDCODE (R453) -/

/-- The IDCODE of a mask revision and a manufacturer. -/
def idWord (r m : Nat) : Nat := field 4 28 r + field 16 12 0xD536 + field 11 1 m + 1

theorem idCode_eq : idCode = idWord Config.maskRevision Config.manufacturer := rfl

theorem idWord_eq (r m : Nat) : idWord r m = r % 16 * 2 ^ 28 + 0xD536 * 2 ^ 12 + m % 2048 * 2 + 1 := by
  norm_num [idWord, field, Nat.shiftLeft_eq]

theorem idWord_fields (r m : Nat) : bits 27 12 (idWord r m) = 0xD536 ∧ bits 0 0 (idWord r m) = 1 ∧
    bits 31 28 (idWord r m) = r % 16 ∧ bits 11 1 (idWord r m) = m % 2048 ∧ idWord r m < 2 ^ 32 := by
  rw [idWord_eq]
  norm_num only [bits, Nat.shiftRight_eq_div_pow]
  omega

/-! ## The settlement -/

/-- Settles O54: the scan instructions hold the device in reset, BYPASS and IDCODE let it run, and words are read in Depot. -/
theorem jtagPort : Obligations.JtagPort := by
  unfold Obligations.JtagPort
  refine ⟨fun dt n scan i s hi hl hc => ?_, fun dt s => ?_, fun dt s => ?_, fun dt addr words s ha h1 h64 => ?_⟩
  · obtain ⟨hinstr, hcells, u, hcapt⟩ := jtagHold_jtag n scan (advance dt s)
    obtain ⟨hmem, hpending, hnow⟩ := jtagHold_kept n scan (advance dt s)
    refine ⟨_, exec_scan s hi hl hc, hinstr, hcells, by rw [hcapt, captureCells_length hl], fun k p hk hp => ?_,
      fun k p hk hr ha => ⟨padLevel_of_observeOnly hr ha, fun hn ho hin => ?_⟩, jtagHold_hold .., by simp,
      by rw [hmem, advance_nor], by rw [hpending, advance_pending], by rw [hnow, advance_now], fun hf => ?_, fun ht => ?_⟩
    · rw [hcapt, captureCells_getD hl hk hp]
    · have hlt : k < scan.shifted.length := by
        rw [hc, ← boundaryBalls_length]
        exact (List.getElem?_eq_some_iff.1 hk).1
      rw [List.getD_eq_getElem _ _ hlt]
      exact padLevel_of_extest hr ha (jtagHold_hold ..) (hinstr.trans hn) ho hin hk
        (by rw [hcells]; exact List.getElem?_eq_getElem hlt)
    · rw [jtagHold_running n scan (by simpa using hf)]
      exact ⟨rfl, fun d => by cases d <;> exact ⟨rfl, rfl⟩, rfl, rfl, rfl, by simp [resetDevice]⟩
    · exact jtagHold_held n scan (by simpa using ht)
  · exact ⟨_, rfl, rfl, rfl, by simp [jtagRun], by simp [jtagRun]⟩
  · obtain ⟨hpart, hlast, hrev, hman, hlt⟩ :=
      idWord_fields Config.maskRevision Config.manufacturer
    refine ⟨_, idWord Config.maskRevision Config.manufacturer, rfl, rfl, ?_, hpart, hlast, hrev, hman, hlt,
      by simp [jtagRun], by simp [jtagRun]⟩
    rw [← idCode_eq]
  · refine ⟨_, execJtagStatusRead_eq s ha h1 h64, jtagWords_length .., fun hp hm i hi hai => ?_, fun h => ?_, rfl⟩
    · exact jtagWords_depot (by simpa using hp) (by simpa using hm) hi hai
    · exact jtagWords_elsewhere (by simpa using h)

end Sys2Proof.Proofs
end

section
/-! What the recorder's next NAND job leaves as it was: every part of the state beside its own work, and what the blocks
hold (R392 to R408). -/

namespace Sys2Proof.Laws

open Sys2Proof Sys2Proof.Machine Sys2Proof.Proofs

variable {s t u : State} {k n : Nat}

/-- A state without the parts that the choice of the next NAND job may change: the entropy's count, the movement channels
and their log, the queue of the NOR flash, and of the recorder what its segments, scrubs and index records are. -/
def restView (s : State) : State := { s with
  free := 0, dma := {}, log := {}, nor := { s.nor with jobs := [] }
  recd := { s.recd with
    blocks := [], nextSeq := 0, ring := [], seg := none, staging := [], closing := [], incidents := [], job := none, jobAt := 0
    scrubs := [], scrubbing := none, tableSlot := 0, tableSeq := 0, journalSeq := 0, journalPos := 0 } }

/-- What block `n` holds beside its storage header, its use and its incident. -/
def contents (s : State) (n : Nat) : Block := { blockOf s n with st := 0, incident := 0, header := [] }

/-- Both of them. -/
def quietView (s : State) : State × (Nat → Block) := (restView s, contents s)

theorem quietView_of_eq (hr : restView t = restView s) (hb : t.recd.blocks = s.recd.blocks) : quietView t = quietView s := by
  simp only [quietView, hr, Prod.mk.injEq, true_and]
  funext n
  simp only [contents, blockOf, hb]

/-! ## Blocks -/

theorem blockOf_congr (h : t.recd.blocks = s.recd.blocks) (n : Nat) : blockOf t n = blockOf s n := by
  rw [blockOf, blockOf, h]

@[simp] theorem blockOf_setBlock_self (b : Nat) (v : Block) (s : State) : blockOf (setBlock b v s) b = v :=
  Table.getD_put_self ..

@[simp] theorem blockOf_modBlock_self (b : Nat) (f : Block → Block) (s : State) :
    blockOf (modBlock b f s) b = f (blockOf s b) := Table.getD_put_self ..

theorem blockOf_modBlock_ne {b n : Nat} (h : n ≠ b) (f : Block → Block) (s : State) :
    blockOf (modBlock b f s) n = blockOf s n := Table.getD_put_ne _ _ _ _ h _

/-- A projection that an update of a block leaves reads as before at every block. -/
theorem proj_modBlock {α : Type} (p : Block → α) {f : Block → Block} (hf : ∀ v, p (f v) = p v) (b n : Nat) (s : State) :
    p (blockOf (modBlock b f s) n) = p (blockOf s n) := by
  by_cases h : n = b
  · rw [h, blockOf_modBlock_self, hf]
  · rw [blockOf_modBlock_ne h]

theorem quietView_modBlock {f : Block → Block} (b : Nat) (s : State)
    (hf : ∀ v : Block, ({ f v with st := 0, incident := 0, header := [] } : Block) =
      { v with st := 0, incident := 0, header := [] } := by exact fun _ => rfl) : quietView (modBlock b f s) = quietView s :=
  Prod.ext rfl (funext fun n =>
    proj_modBlock (fun v : Block => ({ v with st := 0, incident := 0, header := [] } : Block)) hf b n s)

/-! ## Segments -/

theorem quietView_dropCopy (c : Nat) (s : State) : quietView (dropCopy c s) = quietView s :=
  (quietView_modBlock ..).trans (quietView_of_eq rfl rfl)

theorem quietView_letGo (b : Nat) (s : State) : quietView (letGo b s) = quietView s := by
  have h : quietView (modBlock b (fun v => { v with st := if isBad s b then 3 else 4, incident := 0 })
      (modRec (fun r => { r with scrubs := r.scrubs.filter (· ≠ b) }) s)) = quietView s :=
    (quietView_modBlock ..).trans (quietView_of_eq rfl rfl)
  unfold letGo
  extract_lets t
  split
  · exact h
  · split
    · exact (quietView_dropCopy ..).trans h
    · exact h

theorem quietView_dropOldest (s : State) : quietView (dropOldest s) = quietView s := by
  unfold dropOldest
  split
  · rfl
  · split
    · exact (quietView_letGo ..).trans (quietView_of_eq rfl rfl)
    · rfl

theorem quietView_openOn (kind b : Nat) (s : State) : quietView (openOn kind b s) = quietView s := by
  have h : quietView (modBlock b (fun v => { v with st := kind }) (draw 12 (draw 12 (draw 32 s).2).2).2) = quietView s :=
    (quietView_modBlock ..).trans (quietView_of_eq rfl rfl)
  exact (quietView_of_eq rfl rfl).trans h

/-- A segment that is open stays open. -/
theorem openIfNeeded_open {g : OpenSeg} (h : s.recd.seg = some g) : openIfNeeded s = s := if_pos (by rw [h]; rfl)

theorem quietView_openIfNeeded (s : State) : quietView (openIfNeeded s) = quietView s := by
  unfold openIfNeeded
  split
  · rfl
  · split
    · split
      · rfl
      · exact quietView_of_eq rfl rfl
    · extract_lets u
      have hu : quietView u = quietView s := by
        unfold u
        split
        · exact quietView_dropOldest s
        · rfl
      split
      · exact hu
      · exact (quietView_openOn ..).trans hu

theorem putSource_eq (l : List Body) (r : Recorder) :
    putSource l r = { r with closing := (putSource l r).closing, staging := (putSource l r).staging } := by
  unfold putSource
  split <;> rfl

/-- Loading the open segment touches its record and where its blocks come from. -/
theorem loadSeg_eq (s : State) : loadSeg s = { s with recd := { s.recd with
    closing := (loadSeg s).recd.closing, staging := (loadSeg s).recd.staging, seg := (loadSeg s).recd.seg } } := by
  unfold loadSeg
  split
  · rfl
  · split
    · rfl
    · dsimp only [modRec]
      rw [putSource_eq]

theorem quietView_loadSeg (s : State) : quietView (loadSeg s) = quietView s := by
  rw [loadSeg_eq]
  exact quietView_of_eq rfl rfl

/-! ## The index -/

theorem quietView_modIncident (n : Nat) (f : Incident → Incident) (s : State) :
    quietView (modIncident n f s) = quietView s := quietView_of_eq rfl rfl

theorem quietView_countSegments (n : Nat) (s : State) : quietView (countSegments n s) = quietView s :=
  quietView_modIncident ..

theorem quietView_tableWrite (s : State) : quietView (tableWrite s) = quietView s := quietView_of_eq rfl rfl

theorem quietView_journalEntry (kind : Nat) (i : Incident) (s : State) :
    quietView (journalEntry kind i s) = quietView s := by
  unfold journalEntry
  dsimp only
  split <;> exact quietView_of_eq rfl rfl

theorem quietView_phaseWork (s : State) : quietView (phaseWork s) = quietView s := by
  unfold phaseWork
  dsimp only
  split
  · rfl
  · split
    · split
      · exact quietView_countSegments ..
      · exact (quietView_journalEntry ..).trans (quietView_countSegments ..)
    · split
      · have h : quietView (tableWrite (modIncident (currentIncident s) (fun i => { i with st := 2 })
            (countSegments (currentIncident s) s))) = quietView s :=
          (quietView_tableWrite _).trans ((quietView_modIncident ..).trans (quietView_countSegments ..))
        split
        · exact h
        · exact (quietView_journalEntry ..).trans ((quietView_modIncident ..).trans h)
      · rfl

/-! ## The next job -/

theorem Moves.quietView (h : Moves k s t) : quietView t = quietView s := by
  rw [h.frame]
  exact quietView_of_eq rfl rfl

theorem quietView_segMove (j : NandJob) (s : State) : quietView (segMove j s) = quietView s := by
  unfold segMove
  split
  · exact (moves_moveStart ..).quietView
  · exact (moves_moveStart ..).quietView
  · exact (moves_moveStart ..).quietView
  · rfl

theorem quietView_background (s : State) : quietView (background s) = quietView s := by
  unfold background
  split
  · exact (moves_moveStart ..).quietView.trans (quietView_of_eq rfl rfl)
  · split
    · exact (moves_moveStart ..).quietView.trans ((quietView_modBlock ..).trans (quietView_of_eq rfl rfl))
    · split
      · split
        · exact quietView_of_eq rfl rfl
        · rfl
      · rfl

theorem quietView_nandNext (s : State) : quietView (nandNext s) = quietView s := by
  have h : quietView (phaseWork (loadSeg (openIfNeeded s))) = quietView s :=
    (quietView_phaseWork _).trans ((quietView_loadSeg _).trans (quietView_openIfNeeded s))
  unfold nandNext
  extract_lets u
  split
  · exact (quietView_background _).trans h
  · exact (quietView_segMove ..).trans ((quietView_of_eq rfl rfl).trans h)

theorem quietView_stampJob (s t : State) : quietView (stampJob s t) = quietView t := by
  rw [stampJob_eq]
  exact quietView_of_eq rfl rfl

/-- The next NAND job leaves every part beside its own, and what the blocks hold. -/
theorem quietView_nandStart (s : State) : quietView (nandStart s) = quietView s := by
  unfold nandStart
  split
  · rfl
  · exact (quietView_stampJob ..).trans (quietView_nandNext s)

theorem restView_nandStart (s : State) : restView (nandStart s) = restView s := congrArg Prod.fst (quietView_nandStart s)

theorem contents_nandStart (s : State) (n : Nat) : contents (nandStart s) n = contents s n :=
  congrFun (congrArg Prod.snd (quietView_nandStart s)) n

@[simp] theorem nandStart_mem (s : State) : (nandStart s).nor.mem = s.nor.mem :=
  congrArg (·.nor.mem) (restView_nandStart s)

end Sys2Proof.Laws
end

section
/-! What the end of a page program or of an erase leaves in the NOR flash and in its queue (R262, R270, R285, R401, R452). -/

namespace Sys2Proof.Proofs

open Sys2Proof Sys2Proof.Machine Sys2Proof.Laws

variable {s : State} {o : NorOp} {r : List NorOp} {dt n : Nat} {ok : Bool} {k : CalSet}

/-! ## Calibration writes (R285) -/

theorem endRun_eq (result : Nat) (s : State) : endRun result s = { s with
    calib := { s.calib with run := none, candidate := none, result := result }, log := (endRun result s).log } := by
  unfold endRun
  exact logEvent_eq ..

/-- The candidate of a record that has been written is in force from the next boundary on. -/
theorem adoptRun_eq (h : s.calib.candidate = some k) : adoptRun s = { s with
    calib := { s.calib with next := some (k, none), rejected := false, run := none, candidate := none, result := 0 }
    log := (adoptRun s).log } := by
  unfold adoptRun
  rw [h]
  dsimp only
  rw [endRun_eq]
  rfl

theorem counterOf_runsAdopted_adoptRun (h : s.calib.candidate = some k) :
    counterOf (adoptRun s) .runsAdopted = counterNext .runsAdopted (counterOf s .runsAdopted) 1 := by
  unfold adoptRun
  rw [h]
  exact counterOf_count_logEvent (by decide) ..

theorem adoptRun_nor (s : State) : (adoptRun s).nor = s.nor := by
  cases h : s.calib.candidate with
  | none => rw [adoptRun, h]
  | some k => rw [adoptRun_eq h]

/-- A calibration write that fails ends its run with result 8, and is counted (R452). -/
theorem calWriteFailed_eq (h : s.calib.candidate = some k) : calWriteFailed s = { s with
    nor := { s.nor with failures := s.nor.failures + 1 }
    calib := { s.calib with run := none, candidate := none, result := 8 }, log := (calWriteFailed s).log } := by
  rw [calWriteFailed, h]
  exact endRun_eq ..

theorem calWriteFailed_mem (s : State) : (calWriteFailed s).nor.mem = s.nor.mem := by
  cases h : s.calib.candidate with
  | none => rw [calWriteFailed, h]; rfl
  | some k => rw [calWriteFailed_eq h]

/-! ## What follows an operation (R401) -/

theorem journalDone_nor (kind n : Nat) (s : State) : (journalDone kind n s).nor = s.nor := by
  unfold journalDone
  dsimp only
  (repeat' split) <;> simp [modIncident, logIncident]

theorem indexDone_nor (j : NorJob) (s : State) : (indexDone j s).nor = s.nor := by
  unfold indexDone
  split
  · exact journalDone_nor ..
  · rfl

/-- What follows an operation that has ended writes nothing. -/
theorem norDone_mem (j : NorJob) (s : State) : (norDone j s).nor.mem = s.nor.mem := by
  unfold norDone
  split
  · rw [adoptRun_nor]
  · rw [nandStart_mem, indexDone_nor]

/-- Neither does what follows one that has failed. -/
theorem norFailed_mem (o : NorOp) (s : State) : (norFailed o s).nor.mem = s.nor.mem := by
  unfold norFailed
  split
  · exact calWriteFailed_mem s
  · split <;> rfl
  · exact nandStart_mem s

theorem norFailed_calSlot (h : o.job = .calSlot n) (s : State) : norFailed o s = calWriteFailed s := by
  rw [norFailed, h]

/-- A table that cannot be written stays in the slot that was in force, and that slot is not erased (R401). -/
theorem norFailed_table (h : o.job = .table s.recd.tableSlot) :
    norFailed o s = modRec (fun r => { r with tableSlot := 1 - s.recd.tableSlot })
      (modNor (fun v => { v with jobs := v.jobs.filter (fun p => decide (p.job ≠ .table (1 - s.recd.tableSlot))) }) s) := by
  rw [norFailed, h]
  exact if_pos rfl

/-! ## Page programs -/

/-- `dt` taps later, with the operations `r` left in the queue. -/
def norRest (dt : Nat) (r : List NorOp) (s : State) : State := modNor (fun v => { v with jobs := r }) (advance dt s)

/-- The bytes that the operation's next page takes. -/
def pageOf (o : NorOp) : List Byte := o.left.take (256 - o.addr % 256)

theorem pageOf_length (o : NorOp) : (pageOf o).length = min (256 - o.addr % 256) o.left.length := List.length_take

theorem pageOf_getD {i : Nat} (h : i < 256 - o.addr % 256) : (pageOf o).getD i 0xFF#8 = o.left.getD i 0xFF#8 := by
  simp [pageOf, List.getD_eq_getElem?_getD, List.getElem?_take_of_lt h]

/-- A page of the operation `o` that reads back as programmed (R270). -/
def pageWritten (o : NorOp) (s : State) : State := norWrite o.addr (pageOf o) s

theorem norByte_pageWritten_in {i : Nat} (hi : i < o.left.length) (hp : i < 256 - o.addr % 256) :
    norByte (pageWritten o s).nor.mem (o.addr + i) = o.left.getD i 0xFF#8 := by
  rw [← pageOf_getD hp]
  exact norByte_norPut_in _ _ _ _ (by rw [pageOf_length]; omega)

theorem norByte_pageWritten_out {a : Nat} (h : a < o.addr ∨ o.addr + min (256 - o.addr % 256) o.left.length ≤ a) :
    norByte (pageWritten o s).nor.mem a = norByte s.nor.mem a :=
  norByte_norPut_out _ _ _ _ (by rwa [pageOf_length])

/-- The operation's next page. -/
def nextPage (o : NorOp) : NorOp :=
  { o with erasing := false, addr := o.addr + (256 - o.addr % 256), left := o.left.drop (256 - o.addr % 256) }

/-- What NOR_PAGE_PROGRAM_DONE leaves of the first operation in the queue: the failed one's follow-up, the last page's, or the
next page. -/
def pageEnded (ok : Bool) (o : NorOp) (r : List NorOp) (s : State) : State :=
  if !ok || !s.nor.present then norFailed o s
  else if o.left.length ≤ 256 - o.addr % 256 then norDone o.job (pageWritten o s)
  else modNor (fun v => { v with jobs := nextPage o :: r }) (pageWritten o s)

theorem exec_norPageProgramDone (hj : s.nor.jobs = o :: r) (he : o.erasing = false) (hl : o.left ≠ []) (dt : Nat) (ok : Bool) :
    exec (.norPageProgramDone dt ok) s = .next (pageEnded ok o r (norRest dt r s)) := by
  show Host.Outcome.next _ = _
  simp only [advance_nor, hj, he, List.isEmpty_eq_false_iff.2 hl, Bool.or_self, Bool.false_eq_true, if_false]
  rw [← advance_nor dt s]
  rfl

theorem pageEnded_failed (h : ok = false ∨ s.nor.present = false) : pageEnded ok o r s = norFailed o s :=
  if_pos (by obtain h | h := h <;> simp [h])

theorem pageEnded_last (hok : ok = true) (hp : s.nor.present = true) (hl : o.left.length ≤ 256 - o.addr % 256) :
    pageEnded ok o r s = norDone o.job (pageWritten o s) := by
  simp [pageEnded, hok, hp, hl]

theorem pageEnded_more (hok : ok = true) (hp : s.nor.present = true) (hl : 256 - o.addr % 256 < o.left.length) :
    pageEnded ok o r s = modNor (fun v => { v with jobs := nextPage o :: r }) (pageWritten o s) := by
  simp [pageEnded, hok, hp, hl]

theorem pageEnded_mem (hok : ok = true) (hp : s.nor.present = true) :
    (pageEnded ok o r s).nor.mem = (pageWritten o s).nor.mem := by
  obtain hl | hl := Nat.lt_or_ge (256 - o.addr % 256) o.left.length
  · rw [pageEnded_more hok hp hl]
    rfl
  · rw [pageEnded_last hok hp hl, norDone_mem]

/-! ## Erases -/

/-- The 64 KiB sector of an operation reads FFH. -/
def sectorErased (o : NorOp) (s : State) : State :=
  modNor (fun v => { v with mem := norErase (o.addr / 65536 * 65536) 65536 v.mem }) s

/-- What NOR_SECTOR_ERASE_DONE leaves of the first operation in the queue. -/
def eraseEnded (ok : Bool) (o : NorOp) (r : List NorOp) (s : State) : State :=
  if !ok || !s.nor.present then norFailed o s
  else if o.left.isEmpty then sectorErased o s
  else modNor (fun v => { v with jobs := { o with erasing := false } :: r }) (sectorErased o s)

theorem exec_norSectorEraseDone (hj : s.nor.jobs = o :: r) (he : o.erasing = true) (dt : Nat) (ok : Bool) :
    exec (.norSectorEraseDone dt ok) s = .next (eraseEnded ok o r (norRest dt r s)) := by
  show Host.Outcome.next _ = _
  simp only [advance_nor, hj, he, Bool.not_true, Bool.false_eq_true, if_false]
  rw [← advance_nor dt s]
  rfl

theorem eraseEnded_failed (h : ok = false ∨ s.nor.present = false) : eraseEnded ok o r s = norFailed o s :=
  if_pos (by obtain h | h := h <;> simp [h])

/-- An erase that has ended changes the NOR flash alone. -/
theorem eraseEnded_ok (hok : ok = true) (hp : s.nor.present = true) : eraseEnded ok o r s = { s with
    nor := { s.nor with
      mem := (sectorErased o s).nor.mem, jobs := if o.left = [] then s.nor.jobs else { o with erasing := false } :: r } } := by
  unfold eraseEnded
  rw [if_neg (by simp [hok, hp])]
  by_cases hl : o.left = []
  · rw [if_pos (by simp [hl]), if_pos hl]
    rfl
  · rw [if_neg (by simp [hl]), if_neg hl]
    rfl

theorem norByte_sectorErased (a : Nat) : norByte (sectorErased o s).nor.mem a =
    if o.addr / 65536 * 65536 ≤ a ∧ a < o.addr / 65536 * 65536 + 65536 then 0xFF#8 else norByte s.nor.mem a :=
  norByte_norErase ..

/-! ## The settlement -/

/-- Settles O60: a page program and an erase write where the operation says, and what follows them writes nothing. -/
theorem norOperations : Obligations.NorOperations := by
  unfold Obligations.NorOperations
  refine ⟨fun dt ok o r s hj he hl => ⟨_, exec_norPageProgramDone hj he hl dt ok, fun hf => ?_, fun hok hp => ?_, ?_, ?_⟩,
    fun dt ok o r s hj he => ⟨_, exec_norSectorEraseDone hj he dt ok, fun hf => ?_, fun hok hp => ?_⟩⟩
  · rw [pageEnded_failed (s := norRest dt r s) (by simpa [norRest] using hf), norFailed_mem]
    simp [norRest, modNor]
  · have hpr : (norRest dt r s).nor.present = true := by simpa [norRest, modNor] using hp
    have hmem := pageEnded_mem (o := o) (r := r) hok hpr
    refine ⟨fun i hi hip => ?_, fun a ha => ?_, fun hmore => ?_, fun n k hlast hjob hk => ?_⟩
    · rw [hmem, norByte_pageWritten_in hi hip]
    · rw [hmem, norByte_pageWritten_out ha]
      simp [norRest, modNor]
    · rw [pageEnded_more hok hpr hmore]
      exact ⟨nextPage o, rfl, rfl, rfl, rfl, rfl, rfl⟩
    · have hk' : (pageWritten o (norRest dt r s)).calib.candidate = some k := by simpa [pageWritten, norWrite, norRest] using hk
      rw [pageEnded_last hok hpr hlast, hjob]
      show _ ∧ _ ∧ _ ∧ _ ∧ _ ∧ counterOf (adoptRun _) _ = _
      rw [counterOf_runsAdopted_adoptRun hk']
      simp only [norDone]
      rw [adoptRun_eq hk']
      simp [pageWritten, norWrite, norRest, modNor, counterOf]
  · intro n k hok hjob hk
    rw [pageEnded_failed (.inl hok), norFailed_calSlot hjob, calWriteFailed_eq (k := k) (by simpa [norRest] using hk)]
    simp [norRest, modNor]
  · intro hok hjob
    rw [pageEnded_failed (.inl hok), norFailed_table (by simpa [norRest] using hjob)]
    simp [norRest, modRec, modNor]
  · rw [eraseEnded_failed (s := norRest dt r s) (by simpa [norRest] using hf), norFailed_mem]
    simp [norRest, modNor]
  · have hpr : (norRest dt r s).nor.present = true := by simpa [norRest, modNor] using hp
    rw [eraseEnded_ok hok hpr]
    refine ⟨fun a hlo hhi => ?_, fun a ha => ?_, fun hl => ?_, fun hl => ?_, rfl⟩
    · exact (norByte_sectorErased a).trans (if_pos ⟨hlo, hhi⟩)
    · refine (norByte_sectorErased a).trans ((if_neg (by omega)).trans ?_)
      simp [norRest, modNor]
    · exact if_pos hl
    · exact if_neg hl

end Sys2Proof.Proofs
end

section
/-! Link sessions: hellos, finishes, refusals, and the closes (R223, R256 to R260). -/

namespace Sys2Proof.Proofs

open Sys2Proof Sys2Proof.Machine Sys2Proof.Laws Sys2Proof.Safety

variable {s t u : State} {dt reason : Nat} {codes : List Nat} {rd : Bool} {body : List Byte} {h : Hello} {p : Pkt} {k : Session}
  {l : Link}

/-- A counter below the movement channels' own is not one of theirs. -/
theorem ne_halts_of_lt {c : Counter} (h : counterKey c < 0x304) (j : Nat) : counterKey c ≠ counterKey (.halts j) := by
  have hj : counterKey (.halts j) = 0x304 + 0x8 * j := rfl
  omega

/-! ## A refusal (R258) -/

/-- The establishment is dropped, answered, logged and counted. -/
def refused (reason : Nat) (s : State) : State :=
  count .sessionRefusals 1 (logEvent 7 5 0 reason
    (due3 (pkt 0x12 (leBytes 8 (field 8 56 reason))) (modSec (fun v => { v with hello := none }) s)))

theorem refused_sec (reason : Nat) (s : State) : (refused reason s).sec = { s.sec with hello := none } := by
  simp [refused, modSec]

theorem refused_now (reason : Nat) (s : State) : (refused reason s).now = s.now := by
  simp [refused]

theorem counterOf_refused (reason : Nat) (s : State) :
    counterOf (refused reason s) .sessionRefusals = counterNext .sessionRefusals (counterOf s .sessionRefusals) 1 := by
  rw [refused, counterOf_count_logEvent (by decide), counterOf_due3]
  rfl

/-- The refusals for reasons 3 to 5 of the last 60 s, this one included. -/
def recentRefusals (s : State) : List Nat := (s.sec.refusals ++ [s.now]).filter (fun x => decide (s.now < x + sec 60))

/-- A refusal for reasons 3 to 5 counts toward the rate limit. -/
def limited (s : State) : State :=
  modSec (fun v =>
    if 8 ≤ (recentRefusals s).length then
      { v with refusals := [], blockedUntil := some ((recentRefusals s).headD s.now + sec 60) }
    else { v with refusals := recentRefusals s }) s

theorem refuseSession_eq (reason : Nat) (s : State) : refuseSession reason s =
    if 3 ≤ reason ∧ reason ≤ 5 then limited (refused reason s) else refused reason s := rfl

theorem limited_sec (s : State) : ∃ l b, (limited s).sec = { s.sec with refusals := l, blockedUntil := b } := by
  unfold limited modSec
  dsimp only
  split <;> exact ⟨_, _, rfl⟩

theorem refuseSession_sec (reason : Nat) (s : State) :
    ∃ l b, (refuseSession reason s).sec = { s.sec with hello := none, refusals := l, blockedUntil := b } := by
  rw [refuseSession_eq]
  split
  · obtain ⟨l, b, h⟩ := limited_sec (refused reason s)
    exact ⟨l, b, by rw [h, refused_sec]⟩
  · exact ⟨_, _, refused_sec ..⟩

/-- A refusal ends the establishment that runs, and no more. -/
theorem refuseSession_hello (reason : Nat) (s : State) : (refuseSession reason s).sec.hello = none := by
  obtain ⟨l, b, h⟩ := refuseSession_sec reason s
  rw [h]

theorem refuseSession_keeps (reason : Nat) (s : State) : (refuseSession reason s).sec.session = s.sec.session ∧
    (refuseSession reason s).sec.next = s.sec.next ∧ (refuseSession reason s).sec.number = s.sec.number := by
  obtain ⟨l, b, h⟩ := refuseSession_sec reason s
  rw [h]
  exact ⟨rfl, rfl, rfl⟩

theorem counterOf_refuseSession (reason : Nat) (s : State) :
    counterOf (refuseSession reason s) .sessionRefusals = counterNext .sessionRefusals (counterOf s .sessionRefusals) 1 := by
  rw [refuseSession_eq]
  split
  · exact counterOf_refused reason s
  · exact counterOf_refused reason s

/-- The eighth within 60 s blocks until 60 s after the first. -/
theorem blockedUntil_refuseSession {x : Nat} {l : List Nat} (hr : 3 ≤ reason ∧ reason ≤ 5) (hx : s.sec.refusals = x :: l)
    (hl : l.length = 6) (hrecent : ∀ y ∈ x :: l, s.now < y + sec 60) :
    (refuseSession reason s).sec.blockedUntil = some (x + sec 60) := by
  have hnow : s.now < s.now + sec 60 := Nat.lt_add_of_pos_right (by decide)
  have hall : recentRefusals (refused reason s) = x :: l ++ [s.now] := by
    rw [recentRefusals, refused_sec, refused_now]
    show List.filter _ (s.sec.refusals ++ [s.now]) = _
    rw [hx]
    refine List.filter_eq_self.2 fun y hy => decide_eq_true ?_
    obtain hy | hy := List.mem_append.1 hy
    · exact hrecent y hy
    · rw [List.mem_singleton.1 hy]
      exact hnow
  rw [refuseSession_eq, if_pos hr, limited, hall]
  simp [modSec, hl]

/-! ## HOST_HELLO (R256, R258) -/

/-- An accepted hello opens an establishment under the next session number. -/
theorem deviceHello_sec (body : List Byte) (s : State) : (deviceHello body s).sec.session = s.sec.session ∧
    (deviceHello body s).sec.number = (s.sec.number + 1) % 2 ^ 32 ∧
    ∃ h, (deviceHello body s).sec.hello = some h ∧ h.session = (s.sec.number + 1) % 2 ^ 32 ∧ h.key = leAt body 7 1 ∧
      h.hostPub = (leAt body 40 32, leAt body 72 32) ∧ h.at_ = none := by
  unfold deviceHello
  dsimp only
  rw [due3_sec]
  exact ⟨rfl, rfl, _, rfl, rfl, rfl, rfl, rfl⟩

theorem hostHello_accepted (h : helloReason (leAt body 7 1) (leAt body 40 32, leAt body 72 32) s = 0) :
    hostHello body s = deviceHello body s := by
  unfold hostHello
  rw [h]
  rfl

theorem hostHello_refused (h : helloReason (leAt body 7 1) (leAt body 40 32, leAt body 72 32) s ≠ 0) :
    hostHello body s = refuseSession (helloReason (leAt body 7 1) (leAt body 40 32, leAt body 72 32) s) s := by
  unfold hostHello
  split
  · next h0 => exact absurd h0 h
  · rfl

theorem helloReason_blocked {key b : Nat} {pub : Nat × Nat} (ha : s.image.accepted = true)
    (hb : s.sec.blockedUntil = some b) (hn : s.now < b) : helloReason key pub s = 6 := by
  simp [helloReason, rateLimited, ha, hb, hn]

/-! ## HOST_FINISH (R256, R258) -/

/-- The finish's signature by the key that the hello named. -/
def finishSigned (body : List Byte) (h : Hello) (s : State) : Bool :=
  ecdsaVerify (Table.getD (0, 0) s.legend.keys h.key) (sha256 (h.th ++ h.sig)) (leAt body 0 32) (leAt body 32 32)

theorem hostFinish_none (hh : s.sec.hello = none) : hostFinish body s = refuseSession 7 s := by
  rw [hostFinish, hh]

theorem hostFinish_late (hh : s.sec.hello = some h) (hl : finishLate false h s = true) :
    hostFinish body s = refuseSession 5 s := by
  simp [hostFinish, hh, hl]

theorem hostFinish_unsigned (hh : s.sec.hello = some h) (hl : finishLate false h s = false)
    (hv : finishSigned body h s = false) : hostFinish body s = refuseSession 4 s := by
  rw [finishSigned] at hv
  simp [hostFinish, hh, hl, hv]

theorem hostFinish_offCurve (hh : s.sec.hello = some h) (hl : finishLate false h s = false)
    (hv : finishSigned body h s = true) (hz : ecdh h.eph h.hostPub = none) : hostFinish body s = refuseSession 3 s := by
  rw [finishSigned] at hv
  simp [hostFinish, hh, hl, hv, hz]

theorem hostFinish_ok {z : Nat} (hh : s.sec.hello = some h) (hl : finishLate false h s = false)
    (hv : finishSigned body h s = true) (hz : ecdh h.eph h.hostPub = some z) : hostFinish body s = establish h z s := by
  rw [finishSigned] at hv
  simp [hostFinish, hh, hl, hv, hz]

theorem finishLate_iff {edge : Bool} {y : Nat} (hy : h.at_ = some y) :
    finishLate edge h s = true ↔ y + ms 100 < s.now ∨ (edge = true ∧ y + ms 100 = s.now) := by
  simp [finishLate, hy]

/-- Either way no establishment runs any more, and the session in force stays. -/
theorem hostFinish_cases (body : List Byte) (s : State) :
    (∃ r, hostFinish body s = refuseSession r s) ∨ ∃ h z, s.sec.hello = some h ∧ finishLate false h s = false ∧
      finishSigned body h s = true ∧ ecdh h.eph h.hostPub = some z ∧ hostFinish body s = establish h z s := by
  cases hh : s.sec.hello with
  | none => exact .inl ⟨7, hostFinish_none hh⟩
  | some h =>
    cases hl : finishLate false h s with
    | true => exact .inl ⟨5, hostFinish_late hh hl⟩
    | false =>
      cases hv : finishSigned body h s with
      | false => exact .inl ⟨4, hostFinish_unsigned hh hl hv⟩
      | true =>
        cases hz : ecdh h.eph h.hostPub with
        | none => exact .inl ⟨3, hostFinish_offCurve hh hl hv hz⟩
        | some z => exact .inr ⟨h, z, rfl, hl, hv, hz, hostFinish_ok hh hl hv hz⟩

theorem establish_sec (h : Hello) (z : Nat) (s : State) : (establish h z s).sec.hello = none ∧
    (establish h z s).sec.session = s.sec.session ∧
    ∃ k, (establish h z s).sec.next = some k ∧ k.number = h.session ∧ k.ctrDown = 0 ∧ k.ctrUp = none ∧
      k.kDown = hkdfExpand (hkdfExtract (h.hostNonce ++ h.devNonce) (leBytes 32 z)) (ascii "etust down") 32 ∧
      k.kUp = hkdfExpand (hkdfExtract (h.hostNonce ++ h.devNonce) (leBytes 32 z)) (ascii "etust up") 32 := by
  unfold establish
  dsimp only
  rw [due3_sec]
  exact ⟨rfl, rfl, _, rfl, rfl, rfl, rfl, rfl, rfl⟩

theorem hostFinish_sec (body : List Byte) (s : State) : (hostFinish body s).sec.hello = none ∧
    (hostFinish body s).sec.session = s.sec.session := by
  obtain ⟨r, hr⟩ | ⟨h, z, -, -, -, -, he⟩ := hostFinish_cases body s
  · rw [hr]
    exact ⟨refuseSession_hello r s, (refuseSession_keeps r s).1⟩
  · rw [he]
    obtain ⟨hhello, hsession, -⟩ := establish_sec h z s
    exact ⟨hhello, hsession⟩

/-- A finish that is late or badly signed forms no session (R256). -/
theorem hostFinish_bad (hh : s.sec.hello = some h) (hb : finishLate false h s = true ∨ finishSigned body h s = false) :
    ∃ r, (r = 4 ∨ r = 5) ∧ hostFinish body s = refuseSession r s := by
  cases hl : finishLate false h s with
  | true => exact ⟨5, .inr rfl, hostFinish_late hh hl⟩
  | false => exact ⟨4, .inl rfl, hostFinish_unsigned hh hl (hb.resolve_left (by simp [hl]))⟩

/-! ## PACKET_TRANSMIT of the establishment's packets (R256 steps 3 and 6) -/

theorem stopReadout_sec (s : State) : (stopReadout s).sec = s.sec := rfl
theorem stopReadout_now (s : State) : (stopReadout s).now = s.now := rfl

theorem takeDump_stopReadout (s : State) :
    takeDump (stopReadout s) = (takeDump s).map (fun x => (x.1, { (stopReadout s).link with q5 := x.2.q5 })) := by
  cases hq : s.link.q5 with
  | nil => simp [takeDump, stopReadout, modLink, modRec, hq]
  | cons q r => cases hk : s.sec.session.isSome <;> simp [takeDump, stopReadout, modLink, modRec, hq, hk]

/-- A read that stops takes away no packet but its own data (R412). -/
theorem takeDue_stopReadout (ht : takeDue s = some (p, l)) (hp : isReadData p = false) :
    ∃ l', takeDue (stopReadout s) = some (p, l') := by
  have e1 : (stopReadout s).link.q1 = s.link.q1 := rfl
  have e2 : (stopReadout s).link.q2 = s.link.q2 := rfl
  have e3 : (stopReadout s).link.q3 = s.link.q3.filter (fun q => !isReadData q) := rfl
  have e4 : (stopReadout s).link.q4 = s.link.q4 := rfl
  have ego (q : Pkt) : streamMayGo (stopReadout s) q = streamMayGo s q := rfl
  cases h1 : s.link.q1 with
  | cons q r =>
    obtain ⟨rfl, -⟩ : q = p ∧ _ = l := by simpa [takeDue, h1] using ht
    exact ⟨_, by simp [takeDue, e1, h1]; rfl⟩
  | nil =>
    cases h2 : s.link.q2 with
    | cons q r =>
      obtain ⟨rfl, -⟩ : q = p ∧ _ = l := by simpa [takeDue, h1, h2] using ht
      exact ⟨_, by simp [takeDue, e1, e2, h1, h2]; rfl⟩
    | nil =>
      cases h3 : s.link.q3 with
      | cons q r =>
        obtain ⟨rfl, -⟩ : q = p ∧ _ = l := by simpa [takeDue, h1, h2, h3] using ht
        exact ⟨_, by simp [takeDue, e1, e2, e3, h1, h2, h3, hp]; rfl⟩
      | nil =>
        have hdump (ht' : takeDump s = some (p, l)) : ∃ l', takeDump (stopReadout s) = some (p, l') :=
          ⟨_, by rw [takeDump_stopReadout, ht']; rfl⟩
        cases h4 : s.link.q4 with
        | nil =>
          simpa [takeDue, e1, e2, e3, e4, h1, h2, h3, h4] using hdump (by simpa [takeDue, h1, h2, h3, h4] using ht)
        | cons q r =>
          cases hgo : streamMayGo s q with
          | false =>
            simpa [takeDue, e1, e2, e3, e4, ego, h1, h2, h3, h4, hgo] using
              hdump (by simpa [takeDue, h1, h2, h3, h4, hgo] using ht)
          | true =>
            obtain ⟨rfl, -⟩ : q = p ∧ _ = l := by simpa [takeDue, h1, h2, h3, h4, hgo] using ht
            exact ⟨_, by simp [takeDue, e1, e2, e3, e4, ego, h1, h2, h3, h4, hgo]; rfl⟩

/-- The lanes are as they were before the packet left its queue. -/
theorem takeDue_down (ht : takeDue s = some (p, l)) : l.down = s.link.down := by
  unfold takeDue takeDump at ht
  repeat' split at ht
  all_goals cases ht <;> rfl

/-- What follows a control packet: at most a movement channel goes on. -/
theorem afterSend_control (hp : p.type ≠ 0x18) (s : State) : ∃ k, Moves k s (afterSend p s) := by
  unfold afterSend
  rw [if_neg hp]
  split
  · exact ⟨0, .refl 0 s⟩
  · next k _ => exact ⟨k, moves_moveDone k s⟩

/-- A packet that is due leaves, whatever becomes of a running read. -/
theorem execPacketTransmit_control {dt : Nat} (hfree : laneFree (advance dt s) = true)
    (ht : takeDue (advance dt s) = some (p, l)) (hp : p.type ≠ 0x18) :
    ∃ v k t, exec (.packetTransmit dt) s = .next t ∧ v.sec = s.sec ∧ v.now = s.now + dt ∧ v.log = s.log ∧
      v.link.down = s.link.down ∧ Moves k (sendPacket p v) t := by
  have hexec : exec (.packetTransmit dt) s = execPacketTransmit dt s := rfl
  rw [hexec, execPacketTransmit]
  simp only [hfree, if_true]
  have hlog : (advance dt s).log = s.log := by simp
  by_cases hstop : ((advance dt s).recd.readout.isSome && !inDepot (advance dt s)) = true
  · obtain ⟨l', hl'⟩ := takeDue_stopReadout ht (by simp [isReadData, hp])
    obtain ⟨k, hk⟩ := afterSend_control hp (sendPacket p { stopReadout (advance dt s) with link := l' })
    refine ⟨{ stopReadout (advance dt s) with link := l' }, k, _, ?_, ?_, ?_, hlog, ?_, hk⟩
    · simp only [when_, hstop, if_true, hl']
    · simp [stopReadout_sec]
    · simp [stopReadout_now]
    · simpa [stopReadout, modLink, modRec] using takeDue_down hl'
  · obtain ⟨k, hk⟩ := afterSend_control hp (sendPacket p { advance dt s with link := l })
    refine ⟨{ advance dt s with link := l }, k, _, ?_, by simp, by simp, hlog, ?_, hk⟩
    · simp only [when_, if_neg hstop, ht]
    · simpa using takeDue_down ht

theorem formPacket_plain (hs : p.stream = none) (ht : tagDue s p = false) : (formPacket p s).2 = s := by
  simp [formPacket, hs, ht]

theorem activateSession_ends (hk : s.sec.next = some k) : (activateSession s).sec.session = some k ∧
    (activateSession s).sec.next = none ∧
    counterOf (activateSession s) .sessions = counterNext .sessions (counterOf s .sessions) 1 := by
  unfold activateSession
  rw [hk]
  refine ⟨by simp, by simp, ?_⟩
  dsimp only
  rw [counterOf_count_logEvent (by decide)]
  rfl

/-- The device finish puts its session in force (R256). -/
theorem sendPacket_finish (hp : p.type = 0x11) (hs : p.stream = none) (ht : p.tagged = false) (hk : s.sec.next = some k) :
    (sendPacket p s).sec.session = some k ∧ (sendPacket p s).sec.next = none ∧
      counterOf (sendPacket p s) .sessions = counterNext .sessions (counterOf s .sessions) 1 := by
  have hform : (formPacket p s).2 = s := formPacket_plain hs (by simp [tagDue, ht, hp])
  unfold sendPacket
  simp only [hform, hp, if_true]
  split <;> exact activateSession_ends hk

/-- With the device hello the host's 100 ms begin (R256). -/
theorem sendPacket_hello (hp : p.type = 0x10) (hs : p.stream = none) (ht : p.tagged = false) (hh : s.sec.hello = some h)
    (hn : h.session = leAt p.body 4 4) :
    (sendPacket p s).sec.hello = some { h with at_ := some (sendAt s) } := by
  have hform : (formPacket p s).2 = s := formPacket_plain hs (by simp [tagDue, ht, hp])
  unfold sendPacket
  simp only [hform, hp, helloSent, modLink_sec, hh, hn]
  split <;> simp [freePool]

/-! ## HOST_CLOSE (R259, R223) -/

/-- A close leaves nothing that would have to be tagged. -/
theorem closeSession_ends (s : State) : (closeSession s).sec.session = none ∧ (closeSession s).sec.old = [] ∧
    (closeSession s).recd.readout = none ∧ (closeSession s).link.q4 = [] ∧ (closeSession s).link.q5 = [] ∧
    (∀ p ∈ (closeSession s).link.q2 ++ (closeSession s).link.q3, p.tagged = false) ∧
    ∀ o ∈ (closeSession s).contour.sheets, o.session = none := by
  refine ⟨rfl, rfl, rfl, rfl, rfl, fun p hp => ?_, fun o ho => ?_⟩
  · obtain hp | hp := List.mem_append.1 hp
    · simpa using (List.mem_filter.1 hp).2
    · simpa using (List.mem_filter.1 hp).2
  · obtain ⟨_, _, rfl⟩ := List.mem_map.1 ho
    rfl

/-! ## HOST_FINISH_TIMEOUT and HOST_CLOSE -/

/-- Late, or with a finish due by now: the establishment is refused. -/
theorem execHostFinishTimeout_late {dt y : Nat} (hh : s.sec.hello = some h) (hy : h.at_ = some y)
    (hl : y + ms 100 ≤ s.now + dt) : exec (.hostFinishTimeout dt) s = .next (refuseSession 5 (advance dt s)) := by
  have hlate : finishLate true h (advance dt s) = true := (finishLate_iff hy).2 (by
    rw [advance_now]
    exact hl.lt_or_eq.imp_right fun he => ⟨rfl, he⟩)
  have hexec : exec (.hostFinishTimeout dt) s = execHostFinishTimeout dt s := rfl
  simp [hexec, execHostFinishTimeout, hh, hlate]

theorem execHostFinishTimeout_early {dt : Nat} (hh : s.sec.hello = some h)
    (hl : h.at_ = none ∨ ∃ y, h.at_ = some y ∧ s.now + dt < y + ms 100) :
    exec (.hostFinishTimeout dt) s = .next (advance dt s) := by
  have hearly : finishLate true h (advance dt s) = false := by
    obtain hnone | ⟨y, hy, hlt⟩ := hl
    · simp [finishLate, hnone]
    · rw [← Bool.not_eq_true, finishLate_iff hy, advance_now]
      omega
  have hexec : exec (.hostFinishTimeout dt) s = execHostFinishTimeout dt s := rfl
  simp [hexec, execHostFinishTimeout, hh, hearly]

theorem execHostClose_session (hr : Received 0x92 codes rd body (advance dt s) u) (hk : u.sec.session = some k) :
    exec (.hostClose dt codes rd) s =
      .next (if k.number = leAt body 4 4 then closeSession u else count .closesDiscarded 1 u) := by
  have hexec : exec (.hostClose dt codes rd) s = execHostClose dt codes rd s := rfl
  rw [hexec, execHostClose, onPacket_accepted hr.1 hr.2]
  simp only [hk]

/-! ## The statement -/

/-- Settles O52: each command on the session's state, from the equations of HOST_HELLO and HOST_FINISH for each reason. -/
theorem sessionEstablishment : Obligations.SessionEstablishment := by
  unfold Obligations.SessionEstablishment
  refine ⟨fun dt codes rd body s u hr => ⟨hostHello body u, congrArg _ (onPacket_accepted hr.1 hr.2), ?_⟩,
    fun dt codes rd body s u hr => ⟨hostFinish body u, congrArg _ (onPacket_accepted hr.1 hr.2), ?_⟩,
    fun dt p l k s hfree hdue hp hs ht hk => ?_, fun dt p l h s hfree hdue hp hs ht hh hn => ?_,
    fun dt h s hh => ?_, fun dt codes rd body k s u hr hk => ⟨_, execHostClose_session hr hk, ?_, ?_⟩⟩
  · by_cases h0 : helloReason (leAt body 7 1) (leAt body 40 32, leAt body 72 32) u = 0
    · rw [hostHello_accepted h0]
      obtain ⟨hsession, hnumber, h, hh, hn, hrest⟩ := deviceHello_sec body u
      refine ⟨hsession, fun _ => ⟨hnumber, h, hh, hn.trans hnumber.symm, hrest⟩, fun hne => absurd h0 hne, ?_, ?_⟩
      · rintro ha ⟨b, hb, hlt⟩
        exact absurd (h0.symm.trans (helloReason_blocked ha hb hlt)) (by decide)
      · exact fun x l _ _ _ h3 => absurd (h0.symm.trans h3) (by decide)
    · rw [hostHello_refused h0]
      obtain ⟨hsession, -, hnumber⟩ := refuseSession_keeps
        (helloReason (leAt body 7 1) (leAt body 40 32, leAt body 72 32) u) u
      exact ⟨hsession, fun h => absurd h h0, fun _ => ⟨refuseSession_hello .., hnumber, counterOf_refuseSession ..⟩,
        fun _ _ => refuseSession_hello .., fun x l hx hl hrecent h3 => by
          rw [h3]
          exact blockedUntil_refuseSession (by decide) hx hl hrecent⟩
  · obtain ⟨hhello, hsession⟩ := hostFinish_sec body u
    refine ⟨hhello, hsession, fun hnone => ?_, fun h y hh hy hlate => ?_, fun h x l hh hx hl hrecent hbad => ?_,
      fun h hh hv => ?_, fun h z hh hin hv hz => ?_⟩
    · rw [hostFinish_none hnone]
      exact ⟨(refuseSession_keeps 7 u).2.1, counterOf_refuseSession 7 u⟩
    · rw [hostFinish_late hh ((finishLate_iff hy).2 (.inl hlate))]
      exact (refuseSession_keeps 5 u).2.1
    · obtain ⟨r, hr, he⟩ := hostFinish_bad hh (hbad.imp (fun ⟨y, hy, hlate⟩ => (finishLate_iff hy).2 (.inl hlate)) id)
      rw [he]
      exact blockedUntil_refuseSession (by omega) hx hl hrecent
    · obtain ⟨r, -, he⟩ := hostFinish_bad hh (.inr hv)
      rw [he]
      exact (refuseSession_keeps r u).2.1
    · have hl : finishLate false h u = false := by
        cases hy : h.at_ with
        | none => simp [finishLate, hy]
        | some y =>
          rw [← Bool.not_eq_true, finishLate_iff hy]
          have := hin y hy
          simp
          omega
      rw [hostFinish_ok hh hl hv hz]
      exact (establish_sec h z u).2.2
  · obtain ⟨v, j, t, hexec, hsec, -, hlog, -, hm⟩ := execPacketTransmit_control hfree hdue (by omega)
    obtain ⟨hsession, hnext, hcount⟩ := sendPacket_finish hp hs ht (hsec ▸ hk)
    refine ⟨t, hexec, by rw [hm.sec, hsession], by rw [hm.sec, hnext], ?_⟩
    rw [hm.counters _ (by decide) (ne_halts_of_lt (by decide)), hcount, counterOf_congr .sessions s v (by rw [hlog])]
  · obtain ⟨v, j, t, hexec, hsec, hnow, -, hdown, hm⟩ := execPacketTransmit_control hfree hdue (by omega)
    refine ⟨t, hexec, ?_⟩
    rw [hm.sec, sendPacket_hello hp hs ht (hsec ▸ hh) hn, sendAt, hdown, hnow]
    simp
  · by_cases hl : ∃ y, h.at_ = some y ∧ y + ms 100 ≤ s.now + dt
    · obtain ⟨y, hy, hle⟩ := hl
      refine ⟨_, execHostFinishTimeout_late hh hy hle, by simp [(refuseSession_keeps 5 _).1], fun _ _ _ =>
        ⟨refuseSession_hello .., by rw [counterOf_refuseSession, counterOf_advance], fun x l hx hlen hrecent => ?_⟩, ?_⟩
      · exact blockedUntil_refuseSession (by decide) (by rwa [advance_sec]) hlen (by rwa [advance_now])
      · rintro (hnone | ⟨z, hz, hlt⟩)
        · exact absurd (hnone.symm.trans hy) (by simp)
        · obtain rfl : z = y := Option.some.inj (hz.symm.trans hy)
          omega
    · have hearly : h.at_ = none ∨ ∃ y, h.at_ = some y ∧ s.now + dt < y + ms 100 := by
        cases hy : h.at_ with
        | none => exact .inl rfl
        | some y => exact .inr ⟨y, rfl, Nat.lt_of_not_le fun hle => hl ⟨y, hy, hle⟩⟩
      exact ⟨_, execHostFinishTimeout_early hh hearly, by simp, fun y hy hle => absurd ⟨y, hy, hle⟩ hl, fun _ => rfl⟩
  · intro hn
    rw [if_pos hn]
    exact closeSession_ends u
  · intro hn
    rw [if_neg hn]
    exact ⟨rfl, counterOf_count ..⟩

end Sys2Proof.Proofs
end

section
/-! What the choice of the next NAND job leaves of the recorder index: without a phase's work nothing is queued for the NOR
flash, and no counter of another part advances (R401, R408). -/

namespace Sys2Proof.Laws

open Sys2Proof Sys2Proof.Machine Sys2Proof.Proofs

variable {s t : State} {c : Counter} {k : Nat}

/-- The NOR flash with its queue, what the recorder index holds, and a counter. -/
def indexView (c : Counter) (s : State) : Nor × List Incident × Nat × Nat × Nat × Nat × Nat :=
  (s.nor, s.recd.incidents, s.recd.journalSeq, s.recd.journalPos, s.recd.tableSlot, s.recd.tableSeq, counterOf s c)

/-- A counter of neither the event log nor the movement channels. -/
def OtherCounter (c : Counter) : Prop :=
  counterKey c ≠ counterKey .logOverwrites ∧ ∀ j, counterKey c ≠ counterKey (.halts j)

theorem Moves.indexView (h : Moves k s t) (hc : OtherCounter c) : indexView c t = indexView c s := by
  have hcount := h.counters c hc.1 hc.2
  rw [Laws.indexView, hcount, h.frame]
  rfl

theorem indexView_dropCopy (c : Counter) (b : Nat) (s : State) : indexView c (dropCopy b s) = indexView c s := rfl

theorem indexView_letGo (c : Counter) (b : Nat) (s : State) : indexView c (letGo b s) = indexView c s := by
  unfold letGo
  extract_lets t
  have ht : indexView c t = indexView c s := rfl
  split
  · exact ht
  · split
    · exact (indexView_dropCopy ..).trans ht
    · exact ht

theorem indexView_dropOldest (c : Counter) (s : State) : indexView c (dropOldest s) = indexView c s := by
  unfold dropOldest
  split
  · rfl
  · split
    · exact (indexView_letGo ..).trans rfl
    · rfl

theorem indexView_openIfNeeded (c : Counter) (s : State) : indexView c (openIfNeeded s) = indexView c s := by
  unfold openIfNeeded
  split
  · rfl
  · split
    · split <;> rfl
    · extract_lets u
      have hu : indexView c u = indexView c s := by
        unfold u
        split
        · exact indexView_dropOldest c s
        · rfl
      split
      · exact hu
      · exact hu

theorem indexView_loadSeg (c : Counter) (s : State) : indexView c (loadSeg s) = indexView c s := by
  rw [loadSeg_eq]
  rfl

theorem indexView_segMove (hc : OtherCounter c) (j : NandJob) (s : State) : indexView c (segMove j s) = indexView c s := by
  unfold segMove
  split
  · exact (moves_moveStart ..).indexView hc
  · exact (moves_moveStart ..).indexView hc
  · exact (moves_moveStart ..).indexView hc
  · rfl

theorem indexView_background (hc : OtherCounter c) (s : State) : indexView c (background s) = indexView c s := by
  unfold background
  split
  · exact (moves_moveStart ..).indexView hc
  · split
    · exact (moves_moveStart ..).indexView hc
    · split
      · split <;> rfl
      · rfl

/-- Beside a phase's work the next job leaves the index as it was. -/
theorem indexView_nandNext (hc : OtherCounter c) (s : State) :
    indexView c (nandNext s) = indexView c (phaseWork (loadSeg (openIfNeeded s))) := by
  unfold nandNext
  extract_lets u
  split
  · exact indexView_background hc u
  · exact indexView_segMove hc ..

theorem phaseWork_idle (h1 : s.recd.phase1 = false) (h2 : s.recd.phase2 = false) : phaseWork s = s := by
  simp [phaseWork, h1, h2]

theorem phases_loaded (s : State) : (loadSeg (openIfNeeded s)).recd.phase1 = s.recd.phase1 ∧
    (loadSeg (openIfNeeded s)).recd.phase2 = s.recd.phase2 := by
  have h := congrArg Prod.fst ((quietView_loadSeg _).trans (quietView_openIfNeeded s))
  exact ⟨congrArg (·.recd.phase1) h, congrArg (·.recd.phase2) h⟩

/-- With no phase of a commit going on the next job leaves the index as it was. -/
theorem indexView_nandStart (hc : OtherCounter c) (h1 : s.recd.phase1 = false) (h2 : s.recd.phase2 = false) :
    indexView c (nandStart s) = indexView c s := by
  unfold nandStart
  split
  · rfl
  · obtain ⟨hp1, hp2⟩ := phases_loaded s
    calc indexView c (stampJob s (nandNext s)) = indexView c (nandNext s) := by rw [stampJob_eq]; rfl
      _ = indexView c (loadSeg (openIfNeeded s)) := by
        rw [indexView_nandNext hc, phaseWork_idle (hp1.trans h1) (hp2.trans h2)]
      _ = indexView c s := (indexView_loadSeg ..).trans (indexView_openIfNeeded ..)

/-! ## The queue of the NOR flash and the counters, whatever phase goes on -/

theorem journalEntry_log (kind : Nat) (i : Incident) (s : State) : (journalEntry kind i s).log = s.log := by
  unfold journalEntry
  dsimp only
  split <;> rfl

theorem tableWrite_log (s : State) : (tableWrite s).log = s.log := rfl

theorem phaseWork_log (s : State) : (phaseWork s).log = s.log := by
  unfold phaseWork
  dsimp only
  split
  · rfl
  · split
    · split
      · rfl
      · exact (journalEntry_log ..).trans rfl
    · split
      · split
        · exact (tableWrite_log _).trans rfl
        · exact (journalEntry_log ..).trans ((tableWrite_log _).trans rfl)
      · rfl

theorem counterOf_phaseWork (c : Counter) (s : State) : counterOf (phaseWork s) c = counterOf s c :=
  counterOf_congr _ _ _ (by rw [phaseWork_log])

theorem counterOf_nandStart (hc : OtherCounter c) (s : State) : counterOf (nandStart s) c = counterOf s c := by
  have hcount {t u : State} (h : indexView c t = indexView c u) : counterOf t c = counterOf u c :=
    congrArg (·.2.2.2.2.2.2) h
  unfold nandStart
  split
  · rfl
  · calc counterOf (stampJob s (nandNext s)) c = counterOf (nandNext s) c := by rw [stampJob_eq]; rfl
      _ = counterOf (loadSeg (openIfNeeded s)) c := (hcount (indexView_nandNext hc s)).trans (counterOf_phaseWork ..)
      _ = counterOf s c := hcount ((indexView_loadSeg ..).trans (indexView_openIfNeeded ..))

theorem jobs_journalEntry (kind : Nat) (i : Incident) (s : State) :
    ∃ l, (journalEntry kind i s).nor.jobs = s.nor.jobs ++ l := by
  unfold journalEntry
  dsimp only
  split
  · exact ⟨_, List.append_assoc ..⟩
  · exact ⟨_, rfl⟩

theorem jobs_tableWrite (s : State) : ∃ l, (tableWrite s).nor.jobs = s.nor.jobs ++ l := ⟨_, List.append_assoc ..⟩

/-- A phase's work queues behind what waits. -/
theorem jobs_phaseWork (s : State) : ∃ l, (phaseWork s).nor.jobs = s.nor.jobs ++ l := by
  unfold phaseWork
  dsimp only
  split
  · exact ⟨[], (List.append_nil _).symm⟩
  · split
    · split
      · exact ⟨[], (List.append_nil _).symm⟩
      · exact jobs_journalEntry ..
    · split
      · obtain ⟨l, hl⟩ := jobs_tableWrite (modIncident (currentIncident s) (fun i => { i with st := 2 })
          (countSegments (currentIncident s) s))
        split
        · exact ⟨l, hl⟩
        · next i _ =>
          obtain ⟨m, hm⟩ := jobs_journalEntry 2 i (modIncident (currentIncident s) (fun i => { i with st := 1 })
            (tableWrite (modIncident (currentIncident s) (fun i => { i with st := 2 })
              (countSegments (currentIncident s) s))))
          refine ⟨l ++ m, hm.trans ?_⟩
          rw [← List.append_assoc]
          exact congrArg (· ++ m) hl
      · exact ⟨[], (List.append_nil _).symm⟩

/-- What waits for the NOR flash waits on. -/
theorem jobs_nandStart (s : State) : ∃ l, (nandStart s).nor.jobs = s.nor.jobs ++ l := by
  have hc : OtherCounter .sessions := ⟨by decide, ne_halts_of_lt (by decide)⟩
  have hjobs {t u : State} (h : indexView .sessions t = indexView .sessions u) : t.nor.jobs = u.nor.jobs :=
    congrArg (·.1.jobs) h
  unfold nandStart
  split
  · exact ⟨[], (List.append_nil _).symm⟩
  · obtain ⟨l, hl⟩ := jobs_phaseWork (loadSeg (openIfNeeded s))
    refine ⟨l, ?_⟩
    calc (stampJob s (nandNext s)).nor.jobs = (nandNext s).nor.jobs := by rw [stampJob_eq]; rfl
      _ = (loadSeg (openIfNeeded s)).nor.jobs ++ l := (hjobs (indexView_nandNext hc s)).trans hl
      _ = s.nor.jobs ++ l := by rw [hjobs ((indexView_loadSeg ..).trans (indexView_openIfNeeded ..))]

end Sys2Proof.Laws
end

section
/-! The two phases of a commit and the powered hours: what COMMIT_PHASE_1, COMMIT_PHASE_2 and POWERED_HOUR leave in the NOR
flash and in the recorder index (R262, R265, R401, R405, R406, R410). -/

namespace Sys2Proof.Proofs

open Sys2Proof Sys2Proof.Machine Sys2Proof.Laws

variable {s t u : State} {o : NorOp} {a n kind : Nat} {l : List Byte} {i : Incident}

/-! ## Lengths of the sealed records -/

theorem gcmCrypt_length_le (key iv data : List Byte) : (gcmCrypt key iv data).length ≤ data.length := by
  rw [gcmCrypt, xorBytes, List.length_zipWith]
  exact Nat.min_le_left ..

theorem gcmTag_length_le (key iv aad ct : List Byte) : (gcmTag key iv aad ct).length ≤ 16 := by
  simp only [gcmTag, xorBytes, List.length_zipWith, beBytes, List.length_reverse, leBytes_length]
  exact Nat.min_le_left ..

theorem sealPage_length_le (hdr body : List Byte) (s : State) :
    (sealPage hdr body s).1.length ≤ 28 + hdr.length + body.length := by
  have hct := gcmCrypt_length_le (kNor s) (draw 12 s).1 body
  have htag := gcmTag_length_le (kNor s) (draw 12 s).1 hdr (gcmCrypt (kNor s) (draw 12 s).1 body)
  have hiv : (draw 12 s).1.length = 12 := by simp [draw]
  simp only [sealPage, gcmSeal, List.length_append]
  omega

theorem incidentBytes_length (i : Incident) : (incidentBytes i).length = 64 := by
  simp [incidentBytes, wordsLe]

theorem flatMap_length_le {α : Type} (f : α → List Byte) (k : Nat) (hf : ∀ x, (f x).length = k) (l : List α) :
    (l.flatMap f).length = k * l.length := by
  simp [List.length_flatMap, hf, Nat.mul_comm]

theorem tableBody_length_le (s : State) : (tableBody s).length ≤ 12288 := by
  have hrows : ((s.recd.incidents.take 32).flatMap incidentBytes).length ≤ 2048 := by
    rw [flatMap_length_le _ 64 incidentBytes_length, List.length_take]
    omega
  have hbad (l : List Nat) : ((l.take 1024).flatMap (leBytes 4)).length ≤ 4096 := by
    rw [flatMap_length_le _ 4 (leBytes_length 4), List.length_take]
    omega
  have hbad' := hbad (s.recd.factory.map (badEntry s false) ++ s.recd.grown.map (badEntry s true))
  simp only [tableBody, zeros, List.length_append, List.length_replicate]
  omega

/-- The table's record fits its sector. -/
theorem tableRecord_length (s : State) : 0 < (tableRecord s).1.length ∧ (tableRecord s).1.length ≤ 65536 := by
  have hiv : (draw 12 s).1.length = 12 := by simp [draw]
  have hct (key iv : List Byte) := gcmCrypt_length_le key iv (tableBody (draw 12 s).2)
  have hbody := tableBody_length_le (draw 12 s).2
  simp only [tableRecord, gcmSeal, zeros, List.length_append, leBytes_length, List.length_replicate, hiv]
  refine ⟨by omega, ?_⟩
  have htag := gcmTag_length_le (kNor (draw 12 s).2) (draw 12 s).1
    (leBytes 8 ((draw 12 s).2.recd.tableSeq + 1) ++ List.replicate 40 0 ++ (draw 12 s).1 ++ List.replicate 4 0)
    (gcmCrypt (kNor (draw 12 s).2) (draw 12 s).1 (tableBody (draw 12 s).2))
  have := hct (kNor (draw 12 s).2) (draw 12 s).1
  omega

/-! ## Operations brought to their end -/

/-- The NOR flash holds these bytes from an address on. -/
def Holds (s : State) (a : Nat) (l : List Byte) : Prop := ∀ k, k < l.length → norByte s.nor.mem (a + k) = l.getD k 0xFF#8

theorem Holds.congr (h : Holds s a l) (hm : t.nor.mem = s.nor.mem) : Holds t a l := fun k hk => by rw [hm, h k hk]

theorem norApply_eq (o : NorOp) (s : State) : norApply o s = { s with nor := { s.nor with mem := (norApply o s).nor.mem } } := by
  unfold norApply
  extract_lets t
  unfold t
  split <;> rfl

theorem holds_norApply (o : NorOp) (s : State) : Holds (norApply o s) o.addr o.left :=
  fun _ hk => norByte_norPut_in _ _ _ _ hk

/-- It keeps what stands outside its bytes and, where it erases, outside its sector. -/
theorem Holds.norApply (h : Holds s a l) (hout : a + l.length ≤ o.addr ∨ o.addr + o.left.length ≤ a)
    (herase : o.erasing = true → a + l.length ≤ o.addr / 65536 * 65536 ∨ o.addr / 65536 * 65536 + 65536 ≤ a) :
    Holds (norApply o s) a l := by
  intro k hk
  rw [← h k hk]
  refine (norByte_norPut_out _ _ _ _ (by omega)).trans ?_
  split
  · next he =>
    have := herase he
    exact (norByte_norErase ..).trans (if_neg (by omega))
  · rfl

/-- The operations of a list brought to their end, each with what follows it. -/
def endIndex (l : List NorOp) (s : State) : State := l.foldl (fun u o => indexDone o.job (norApply o u)) s

theorem endIndex_append (l m : List NorOp) (s : State) : endIndex (l ++ m) s = endIndex m (endIndex l s) :=
  List.foldl_append ..

/-- The state with the NOR flash's queue empty. -/
def unqueued (s : State) : State := modNor (fun v => { v with jobs := [] }) s

theorem unqueued_log (s : State) : (unqueued s).log = s.log := rfl

theorem finishIndex_eq (h : ∀ o ∈ s.nor.jobs, ofIndex o.job = true) :
    finishIndex s = endIndex s.nor.jobs (unqueued s) := by
  have hin : s.nor.jobs.filter (fun o => ofIndex o.job) = s.nor.jobs := List.filter_eq_self.2 h
  have hout : s.nor.jobs.filter (fun o => !ofIndex o.job) = [] := List.filter_eq_nil_iff.2 fun o ho => by simp [h o ho]
  rw [finishIndex, hin, modNor, hout]
  rfl

/-! ## The journal (Table 16.7) -/

/-- A journal page that seals an incident's entry. -/
def journalPage (kind : Nat) (i : Incident) (s : State) : List Byte :=
  (sealPage (leBytes 8 (field 8 56 kind + field 56 0 s.recd.journalSeq)) (incidentBytes i) s).1

/-- The sector that is erased once the other is half full. -/
def sectorOps (pos : Nat) : List NorOp :=
  if pos % 256 = 128 then
    [{ job := .journal 0 0, erasing := true, addr := 0x460000 + 0x10000 * (1 - pos / 256), left := [] }]
  else []

/-- The program of a journal page. -/
def journalOp (kind : Nat) (i : Incident) (s : State) : NorOp :=
  { job := .journal kind i.number, erasing := false, addr := 0x460000 + 256 * s.recd.journalPos, left := journalPage kind i s }

/-- The operations that a journal entry queues. -/
def journalOps (kind : Nat) (i : Incident) (s : State) : List NorOp := journalOp kind i s :: sectorOps s.recd.journalPos

theorem journalEntry_eq (kind : Nat) (i : Incident) (s : State) : journalEntry kind i s = { s with
    free := s.free + 1, nor := { s.nor with jobs := s.nor.jobs ++ journalOps kind i s }
    recd := { s.recd with journalSeq := s.recd.journalSeq + 1, journalPos := (s.recd.journalPos + 1) % 512 } } := by
  unfold journalEntry
  dsimp only
  split
  · next h =>
    rw [journalOps, sectorOps, if_pos (show s.recd.journalPos % 256 = 128 from h)]
    simp only [norStart, modNor, modRec, List.append_assoc]
    rfl
  · next h =>
    rw [journalOps, sectorOps, if_neg (show ¬ s.recd.journalPos % 256 = 128 from h)]
    rfl

theorem journalPage_length (kind : Nat) (i : Incident) (s : State) :
    0 < (journalPage kind i s).length ∧ (journalPage kind i s).length ≤ 256 := by
  constructor
  · simp [journalPage, sealPage, draw]
  · have h := sealPage_length_le (leBytes 8 (field 8 56 kind + field 56 0 s.recd.journalSeq)) (incidentBytes i) s
    rw [leBytes_length, incidentBytes_length] at h
    exact h.trans (by decide)

theorem ofIndex_journalOps (kind : Nat) (i : Incident) (s : State) : ∀ o ∈ journalOps kind i s, ofIndex o.job = true := by
  intro o ho
  obtain rfl | ho := List.mem_cons.1 ho
  · rfl
  · unfold sectorOps at ho
    split at ho
    · rw [List.mem_singleton.1 ho]
      rfl
    · exact absurd ho (by simp)

/-- The erase of the other sector changes the memory alone. -/
theorem endIndex_sectorOps (pos : Nat) (s : State) :
    endIndex (sectorOps pos) s = { s with nor := { s.nor with mem := (endIndex (sectorOps pos) s).nor.mem } } := by
  unfold sectorOps
  split
  · exact norApply_eq ..
  · rfl

/-- It leaves the page just written, and what stands below the journal. -/
theorem Holds.sectorOps {pos : Nat} (h : Holds s a l)
    (ha : a + l.length ≤ 0x460000 ∨ a = 0x460000 + 256 * pos ∧ l.length ≤ 256) : Holds (endIndex (sectorOps pos) s) a l := by
  unfold Proofs.sectorOps
  split
  · refine Holds.norApply h ?_ ?_
    · simp only [List.length_nil]
      omega
    · intro _
      dsimp only
      omega
  · exact h

/-- A journal entry brought to its end: what follows it, and its page in the memory. -/
theorem endIndex_journalOps (kind : Nat) (i : Incident) (s u : State) :
    endIndex (journalOps kind i s) u =
      endIndex (sectorOps s.recd.journalPos) (journalDone kind i.number (norApply (journalOp kind i s) u)) := rfl

/-- Its page stands in the journal, and what stands below the journal stays. -/
theorem holds_journalOps (kind : Nat) (i : Incident) (s u : State) :
    Holds (endIndex (journalOps kind i s) u) (0x460000 + 256 * s.recd.journalPos) (journalPage kind i s) := by
  rw [endIndex_journalOps]
  refine Holds.sectorOps (Holds.congr (holds_norApply (journalOp kind i s) u) ?_) (.inr ⟨rfl, (journalPage_length ..).2⟩)
  rw [journalDone_nor]

theorem Holds.journalOps (h : Holds u a l) (hl : a + l.length ≤ 0x460000) :
    Holds (endIndex (journalOps kind i s) u) a l := by
  rw [endIndex_journalOps]
  refine Holds.sectorOps (Holds.congr (h.norApply (o := journalOp kind i s) (.inl ?_) ?_) ?_) (.inl hl)
  · exact hl.trans (Nat.le_add_right ..)
  · exact fun he => Bool.noConfusion he
  · rw [journalDone_nor]

/-- The incident `n` committed, and phase 2 ended. -/
def committed (n : Nat) (s : State) : State :=
  modIncident n (fun i => { i with st := max 2 i.st }) (modRec (fun r => { r with phase2 := false }) s)

theorem journalDone_two (n : Nat) (s : State) : journalDone 2 n s =
    (incidentOf (committed n s) n).elim (committed n s) fun i => count .commits 1 (logIncident 4 i (committed n s)) := by
  have h : journalDone 2 n s = match incidentOf (committed n s) n with
    | none => committed n s
    | some i => count .commits 1 (logIncident 4 i (committed n s)) := rfl
  rw [h]
  cases incidentOf (committed n s) n <;> rfl

theorem journalDone_other (h1 : kind ≠ 1) (h2 : kind ≠ 2) (n : Nat) (s : State) : journalDone kind n s = s := by
  rw [journalDone, if_neg h1, if_neg h2]

theorem logEvent_withNor (cls ev inst arg : Nat) (v : Nor) (s : State) :
    logEvent cls ev inst arg { s with nor := v } = { logEvent cls ev inst arg s with nor := v } := by
  by_cases h : 64 ≤ s.log.queue.length
  · rw [logEvent, logEvent, if_pos h, if_pos h]
    rfl
  · rw [logEvent, logEvent, if_neg h, if_neg h]

theorem journalDone_withNor (kind n : Nat) (v : Nor) (s : State) :
    journalDone kind n { s with nor := v } = { journalDone kind n s with nor := v } := by
  by_cases h1 : kind = 1
  · subst h1
    rfl
  · by_cases h2 : kind = 2
    · subst h2
      have he : incidentOf (committed n { s with nor := v }) n = incidentOf (committed n s) n := rfl
      rw [journalDone_two, journalDone_two, he]
      cases incidentOf (committed n s) n with
      | none => rfl
      | some i => exact congrArg (count .commits 1) (logEvent_withNor _ _ _ _ v (committed n s))
    · rw [journalDone_other h1 h2, journalDone_other h1 h2]

/-- What follows a journal entry, whatever the memory holds. -/
theorem endIndex_journalOps_eq (kind : Nat) (i : Incident) (s u : State) : endIndex (journalOps kind i s) u =
    { journalDone kind i.number u with nor := { u.nor with mem := (endIndex (journalOps kind i s) u).nor.mem } } := by
  rw [endIndex_journalOps, endIndex_sectorOps, norApply_eq, journalDone_withNor]

/-! ## The recorder table (Table 16.8) -/

/-- The record of a table write goes to the slot not in force. -/
def tableOp (s : State) : NorOp :=
  { job := .table (1 - s.recd.tableSlot), erasing := false, addr := 0x440000 + 0x10000 * (1 - s.recd.tableSlot)
    left := (tableRecord s).1 }

/-- The other slot is erased. -/
def oldTableOp (s : State) : NorOp :=
  { job := .table (1 - (1 - s.recd.tableSlot)), erasing := true
    addr := 0x440000 + 0x10000 * (1 - (1 - s.recd.tableSlot)), left := [] }

/-- The operations of a table write. -/
def tableOps (s : State) : List NorOp := [tableOp s, oldTableOp s]

theorem tableWrite_eq (s : State) : tableWrite s = { s with
    free := s.free + 1, nor := { s.nor with jobs := s.nor.jobs ++ tableOps s }
    recd := { s.recd with tableSlot := 1 - s.recd.tableSlot, tableSeq := s.recd.tableSeq + 1 } } := by
  have h : tableWrite s = { s with
      free := s.free + 1, nor := { s.nor with jobs := (s.nor.jobs ++ [tableOp s]) ++ [oldTableOp s] }
      recd := { s.recd with tableSlot := 1 - s.recd.tableSlot, tableSeq := s.recd.tableSeq + 1 } } := rfl
  rw [h, List.append_assoc]
  rfl

theorem endIndex_tableOps (s u : State) :
    endIndex (tableOps s) u = { u with nor := { u.nor with mem := (endIndex (tableOps s) u).nor.mem } } := by
  have h (o p : NorOp) : norApply p (norApply o u) =
      { u with nor := { u.nor with mem := (norApply p (norApply o u)).nor.mem } } := by
    rw [norApply_eq p, norApply_eq o]
  exact h ..

/-- The record stands in its slot. -/
theorem holds_tableOps (s u : State) :
    Holds (endIndex (tableOps s) u) (0x440000 + 0x10000 * (1 - s.recd.tableSlot)) (tableRecord s).1 := by
  have hlen := (tableRecord_length s).2
  refine Holds.norApply (o := oldTableOp s) (holds_norApply (tableOp s) u) ?_ fun _ => ?_
  · simp only [oldTableOp, List.length_nil]
    omega
  · simp only [oldTableOp]
    omega

/-! ## Incidents -/

theorem incidentOf_modIncident {f : Incident → Incident} (hf : ∀ i, (f i).number = i.number) (n : Nat) (s : State) :
    incidentOf (modIncident n f s) n = (incidentOf s n).map f := by
  have h (l : List Incident) : (l.map (fun i => if i.number = n then f i else i)).find? (fun i => decide (i.number = n)) =
      (l.find? (fun i => decide (i.number = n))).map f := by
    induction l with
    | nil => rfl
    | cons i l ih =>
      rw [List.map_cons]
      by_cases hi : i.number = n
      · rw [if_pos hi, List.find?_cons_of_pos (by simp [hf, hi]), List.find?_cons_of_pos (by simp [hi])]
        rfl
      · rw [if_neg hi, List.find?_cons_of_neg (by simp [hi]), List.find?_cons_of_neg (by simp [hi]), ih]
  exact h s.recd.incidents

theorem incidentOf_number (h : incidentOf s n = some i) : i.number = n := by
  simpa using List.find?_some h

/-- With incidents in the index the newest has an entry. -/
theorem incidentOf_current (h : s.recd.incidents ≠ []) : ∃ i, incidentOf s (currentIncident s) = some i := by
  obtain ⟨i, hlast⟩ : ∃ i, s.recd.incidents.getLast? = some i := ⟨_, List.getLast?_eq_some_getLast h⟩
  have hcur : currentIncident s = i.number := by rw [currentIncident, hlast]
  rw [← Option.isSome_iff_exists, incidentOf, List.find?_isSome]
  exact ⟨i, List.mem_of_getLast? hlast, by simp [hcur]⟩

theorem incidentOf_countSegments (h : incidentOf s n = some i) :
    incidentOf (countSegments n s) n = some { i with segments := (incidentBlocks s n).length } :=
  (incidentOf_modIncident (f := fun i => { i with segments := (incidentBlocks s n).length }) (fun _ => rfl) n s).trans
    (by rw [h]; rfl)

/-- A list of incidents with the entry of the number `n` changed. -/
def changeOne (n : Nat) (f : Incident → Incident) (l : List Incident) : List Incident :=
  l.map (fun i => if i.number = n then f i else i)

theorem modIncident_incidents (n : Nat) (f : Incident → Incident) (s : State) :
    (modIncident n f s).recd.incidents = changeOne n f s.recd.incidents := rfl

theorem changeOne_changeOne {f : Incident → Incident} (hf : ∀ i, (f i).number = i.number) (n : Nat)
    (g : Incident → Incident) (l : List Incident) :
    changeOne n g (changeOne n f l) = changeOne n (fun i => g (f i)) l := by
  rw [changeOne, changeOne, List.map_map]
  refine List.map_congr_left fun i _ => ?_
  by_cases hi : i.number = n <;> simp [hf, hi]

/-! ## The phases -/

/-- Where no segment waits to be closed, closing ends at once. -/
theorem finishClosing_nil (h : s.recd.closing = []) (l : List PageResult) : finishClosing l s = s := by
  unfold finishClosing
  cases closingFuel l s with
  | zero => rfl
  | succ k => exact if_pos (by simp [h])

/-- A phase begins where no operation of a segment goes on. -/
def phaseBegun (dt : Nat) (s : State) : State := dropSegJob (advance dt s)

/-- The segments of the phase are closed, the NOR flash is free, and there is an incident. -/
structure Ready (s : State) : Prop where
  closing : s.recd.closing = []
  seg : s.recd.seg = none
  jobs : s.nor.jobs = []
  incidents : s.recd.incidents ≠ []

theorem phaseWork_prepare (hs : Ready s) (h1 : s.recd.phase1 = true)
    (hi : incidentOf (countSegments (currentIncident s) s) (currentIncident s) = some i) :
    phaseWork s = journalEntry 1 { i with st := 1 } (countSegments (currentIncident s) s) := by
  unfold phaseWork
  simp only [hs.closing, hs.seg, h1, journalPending, hs.jobs, hi]
  rfl

/-- The newest incident's segments counted, and it committed. -/
def markCommitted (s : State) : State :=
  modIncident (currentIncident s) (fun i => { i with st := 2 }) (countSegments (currentIncident s) s)

theorem phaseWork_commit (hs : Ready s) (h1 : s.recd.phase1 = false) (h2 : s.recd.phase2 = true)
    (hi : incidentOf (tableWrite (markCommitted s)) (currentIncident s) = some i) :
    phaseWork s = journalEntry 2 i (modIncident (currentIncident s) (fun i => { i with st := 1 })
      (tableWrite (markCommitted s))) := by
  rw [markCommitted] at hi
  unfold phaseWork
  simp only [hs.closing, hs.seg, h1, h2, journalPending, hs.jobs, hi]
  rfl

/-- The prepare entry programmed: phase 1 has ended, and the incident `n` is prepared. -/
def prepared (n : Nat) (m : List (Nat × Byte)) (s : State) : State := { s with
  free := s.free + 1, nor := { s.nor with jobs := [], mem := m }
  recd := { (modIncident n (fun i => { i with st := 1 }) s).recd with
    phase1 := false, journalSeq := s.recd.journalSeq + 1, journalPos := (s.recd.journalPos + 1) % 512 } }

theorem finishIndex_prepare (hj : s.nor.jobs = []) (hi : i.number = n) :
    ∃ m, finishIndex (journalEntry 1 i s) = prepared n m s ∧
      Holds (prepared n m s) (0x460000 + 256 * s.recd.journalPos) (journalPage 1 i s) := by
  have hjobs : (journalEntry 1 i s).nor.jobs = journalOps 1 i s := by
    rw [journalEntry_eq, hj]
    rfl
  have hend := finishIndex_eq (s := journalEntry 1 i s) (by rw [hjobs]; exact ofIndex_journalOps 1 i s)
  rw [hjobs] at hend
  refine ⟨(endIndex (journalOps 1 i s) (unqueued (journalEntry 1 i s))).nor.mem, ?_, ?_⟩
  · rw [hend, endIndex_journalOps_eq, journalEntry_eq, hi]
    rfl
  · exact (holds_journalOps 1 i s _).congr rfl

theorem phaseBegun_recd (dt : Nat) (s : State) : (phaseBegun dt s).recd = { s.recd with job := (phaseBegun dt s).recd.job } := by
  simp [phaseBegun, dropSegJob, modRec]

theorem finishClosing_phaseBegun (hc : s.recd.closing = []) (l : List PageResult) (dt : Nat) :
    finishClosing l (dropSegJob (advance dt s)) = phaseBegun dt s :=
  finishClosing_nil (s := phaseBegun dt s) (by rw [phaseBegun_recd]; exact hc) l

/-- Phase 1's work brought to its end. -/
theorem finishIndex_phase1 (hs : Ready s) (h1 : s.recd.phase1 = true) : ∃ e m,
    finishIndex (phaseWork s) = prepared (currentIncident s) m (countSegments (currentIncident s) s) ∧
      incidentOf (prepared (currentIncident s) m (countSegments (currentIncident s) s)) (currentIncident s) = some e ∧
      e.st = 1 ∧ e.segments = (incidentBlocks s (currentIncident s)).length ∧
      Holds (prepared (currentIncident s) m (countSegments (currentIncident s) s)) (0x460000 + 256 * s.recd.journalPos)
        (journalPage 1 e s) := by
  obtain ⟨i, hi⟩ := incidentOf_current hs.incidents
  have hcount := incidentOf_countSegments hi
  obtain ⟨m, hm, hpage⟩ := finishIndex_prepare (n := currentIncident s)
    (i := { i with segments := (incidentBlocks s (currentIncident s)).length, st := 1 })
    (s := countSegments (currentIncident s) s) hs.jobs (show i.number = _ from incidentOf_number hi)
  refine ⟨_, m, (congrArg finishIndex (phaseWork_prepare hs h1 hcount)).trans hm, ?_, rfl, rfl, hpage⟩
  exact (incidentOf_modIncident (f := fun i => { i with st := 1 }) (fun _ => rfl) ..).trans (by rw [hcount]; rfl)

/-- COMMIT_PHASE_1 with every segment of its phase closed. -/
theorem exec_commitPhase1 (run : PageRun) (h1 : s.recd.phase1 = true) (hd : s.supply.dip = false)
    (hn : s.nor.present = true) (hc : s.recd.closing = []) :
    exec (.commitPhase1 run) s = .next (nandStart (finishIndex (phaseWork (phaseBegun run.dt s)))) := by
  have hexec : exec (.commitPhase1 run) s = execCommitPhase1 run s := rfl
  rw [hexec, execCommitPhase1, ← finishClosing_phaseBegun hc run.pages]
  simp [when_, h1, hd, hn]

theorem exec_commitPhase2 (run : PageRun) (h2 : s.recd.phase2 = true) (hd : s.supply.dip = false)
    (hn : s.nor.present = true) (hc : s.recd.closing = []) :
    exec (.commitPhase2 run) s =
      .next (nandStart (finishIndex (phaseWork (finishIndex (phaseWork (phaseBegun run.dt s)))))) := by
  have hexec : exec (.commitPhase2 run) s = execCommitPhase2 run s := rfl
  rw [hexec, execCommitPhase2, ← finishClosing_phaseBegun hc run.pages]
  simp [when_, h2, hd, hn]

/-- Neither phase ends in a dip or without the NOR flash (R426). -/
theorem exec_commitPhases_stopped (run : PageRun) (h : s.supply.dip = true ∨ s.nor.present = false) :
    exec (.commitPhase1 run) s = .next (advance run.dt s) ∧ exec (.commitPhase2 run) s = .next (advance run.dt s) := by
  have h1 : exec (.commitPhase1 run) s = execCommitPhase1 run s := rfl
  have h2 : exec (.commitPhase2 run) s = execCommitPhase2 run s := rfl
  rw [h1, h2, execCommitPhase1, execCommitPhase2]
  obtain h | h := h <;> simp [when_, h]

/-- What the next job leaves of the index, once no phase goes on. -/
theorem index_nandStart (h1 : s.recd.phase1 = false) (h2 : s.recd.phase2 = false) : (nandStart s).nor = s.nor ∧
    (nandStart s).recd.incidents = s.recd.incidents ∧ (nandStart s).recd.journalSeq = s.recd.journalSeq ∧
    (nandStart s).recd.journalPos = s.recd.journalPos ∧ (nandStart s).recd.tableSlot = s.recd.tableSlot ∧
    (nandStart s).recd.tableSeq = s.recd.tableSeq := by
  have h := indexView_nandStart (c := .sessions) ⟨by decide, ne_halts_of_lt (by decide)⟩ h1 h2
  simp only [indexView, Prod.mk.injEq] at h
  obtain ⟨hnor, hinc, hseq, hpos, hslot, htseq, -⟩ := h
  exact ⟨hnor, hinc, hseq, hpos, hslot, htseq⟩

theorem phases_nandStart (s : State) : (nandStart s).recd.phase1 = s.recd.phase1 ∧
    (nandStart s).recd.phase2 = s.recd.phase2 :=
  ⟨congrArg (·.recd.phase1) (restView_nandStart s), congrArg (·.recd.phase2) (restView_nandStart s)⟩

theorem Ready.begun (hs : Ready s) (dt : Nat) : Ready (phaseBegun dt s) := by
  have hr := phaseBegun_recd dt s
  refine ⟨?_, ?_, ?_, ?_⟩
  · rw [hr]; exact hs.closing
  · rw [hr]; exact hs.seg
  · simpa [phaseBegun, dropSegJob] using hs.jobs
  · rw [hr]; exact hs.incidents

theorem currentIncident_phaseBegun (dt : Nat) (s : State) : currentIncident (phaseBegun dt s) = currentIncident s := by
  rw [currentIncident, phaseBegun_recd]
  rfl

theorem incidentBlocks_phaseBegun (dt n : Nat) (s : State) : incidentBlocks (phaseBegun dt s) n = incidentBlocks s n := by
  rw [incidentBlocks, phaseBegun_recd]
  rfl

/-- A state's entry for the journal does not depend on the operation of the open segment. -/
theorem journalPage_phaseBegun (kind : Nat) (i : Incident) (dt : Nat) (s : State) :
    journalPage kind i (phaseBegun dt s) =
      (sealPage (leBytes 8 (field 8 56 kind + field 56 0 s.recd.journalSeq)) (incidentBytes i) (advance dt s)).1 := by
  have h : journalPage kind i (phaseBegun dt s) = journalPage kind i (advance dt s) := rfl
  rw [h, journalPage, advance_recd]

/-- COMMIT_PHASE_1: its clause of the statement. -/
theorem commitPhase1_ends (run : PageRun) (hs : Ready s) (h1 : s.recd.phase1 = true) (h2 : s.recd.phase2 = false)
    (hd : s.supply.dip = false) (hn : s.nor.present = true) :
    ∃ t e, exec (.commitPhase1 run) s = .next t ∧ t.recd.phase1 = false ∧ t.recd.journalSeq = s.recd.journalSeq + 1 ∧
      t.recd.journalPos = (s.recd.journalPos + 1) % 512 ∧ t.nor.jobs = [] ∧
      incidentOf t (currentIncident s) = some e ∧ e.st = 1 ∧ e.segments = (incidentBlocks s (currentIncident s)).length ∧
      0 < (journalPage 1 e (phaseBegun run.dt s)).length ∧
      Holds t (0x460000 + 256 * s.recd.journalPos) (journalPage 1 e (phaseBegun run.dt s)) := by
  have hr := phaseBegun_recd run.dt s
  obtain ⟨e, m, hfin, hof, hst, hseg, hpage⟩ := finishIndex_phase1 (hs.begun run.dt) (by rw [hr]; exact h1)
  rw [currentIncident_phaseBegun] at *
  have hexec := exec_commitPhase1 run h1 hd hn hs.closing
  rw [hfin] at hexec
  have hphase2 : (phaseBegun run.dt s).recd.phase2 = false := by rw [hr]; exact h2
  obtain ⟨hnor, hinc, hseq, hpos, -, -⟩ := index_nandStart
    (s := prepared (currentIncident s) m (countSegments (currentIncident s) (phaseBegun run.dt s))) rfl hphase2
  have hseq' : (phaseBegun run.dt s).recd.journalSeq = s.recd.journalSeq := by rw [hr]
  have hpos' : (phaseBegun run.dt s).recd.journalPos = s.recd.journalPos := by rw [hr]
  refine ⟨_, e, hexec, ?_, ?_, ?_, ?_, ?_, hst, ?_, (journalPage_length ..).1, ?_⟩
  · exact (phases_nandStart _).1
  · rw [hseq, ← hseq']; rfl
  · rw [hpos, ← hpos']; rfl
  · rw [hnor]; rfl
  · rw [← hof, incidentOf, hinc]; rfl
  · rw [hseg, incidentBlocks_phaseBegun]
  · rw [← hpos']
    exact hpage.congr (by rw [hnor])

/-! ## Phase 2 -/

/-- The state whose journal entry ends phase 2: the table's write is queued, and the incident only prepared as yet. -/
def tabled (s : State) : State :=
  modIncident (currentIncident s) (fun i => { i with st := 1 }) (tableWrite (markCommitted s))

/-- The commit entry brought to its end: phase 2 is over, and the incidents stand as the table lists them. -/
def phase2Done (s : State) : State := { s with
  recd := { s.recd with
    phase2 := false, incidents := (markCommitted s).recd.incidents, tableSlot := 1 - s.recd.tableSlot
    tableSeq := s.recd.tableSeq + 1, journalSeq := s.recd.journalSeq + 1, journalPos := (s.recd.journalPos + 1) % 512 } }

theorem incidents_committed (s : State) :
    changeOne (currentIncident s) (fun i => { i with st := max 2 i.st }) (tabled s).recd.incidents =
      (markCommitted s).recd.incidents := by
  have htabled : (tabled s).recd.incidents =
      changeOne (currentIncident s) (fun i => { i with st := 1 }) (markCommitted s).recd.incidents := by
    rw [tabled, modIncident_incidents, tableWrite_eq]
  rw [htabled]
  exact (changeOne_changeOne (f := fun i => { i with st := 1 }) (fun _ => rfl) ..).trans
    (changeOne_changeOne (f := fun i => { i with st := 2 }) (fun _ => rfl) ..)

theorem tabled_recd (s : State) : (tabled s).recd = { s.recd with
    incidents := (tabled s).recd.incidents, tableSlot := 1 - s.recd.tableSlot, tableSeq := s.recd.tableSeq + 1 } := by
  rw [tabled, tableWrite_eq]
  rfl

theorem tabled_log (s : State) : (tabled s).log = s.log := tableWrite_log (markCommitted s)

theorem tabled_jobs (h : s.nor.jobs = []) : (tabled s).nor.jobs = tableOps (markCommitted s) := by
  have hnone : (markCommitted s).nor.jobs = [] := h
  have htw : (tabled s).nor.jobs = (tableWrite (markCommitted s)).nor.jobs := rfl
  rw [htw, tableWrite_eq, hnone]
  rfl

theorem incidentOf_congr (h : t.recd.incidents = s.recd.incidents) (n : Nat) : incidentOf t n = incidentOf s n := by
  rw [incidentOf, incidentOf, h]

/-- The commit entry ended, in a state whose index is that of `tabled s` after the entry was queued. -/
theorem journalDone_tabled {e : Incident} (hs : u.recd = (journalEntry 2 e (tabled s)).recd)
    (he : incidentOf (markCommitted s) (currentIncident s) = some e) :
    (journalDone 2 (currentIncident s) u).recd = (phase2Done s).recd ∧
      counterOf (journalDone 2 (currentIncident s) u) .commits = counterNext .commits (counterOf u .commits) 1 := by
  have hrecd : (committed (currentIncident s) u).recd = (phase2Done s).recd := by
    have hinc : (tabled s).recd.incidents = u.recd.incidents := by rw [hs, journalEntry_eq]
    have h : (committed (currentIncident s) u).recd = { u.recd with
      phase2 := false, incidents := changeOne (currentIncident s) (fun i => { i with st := max 2 i.st }) u.recd.incidents } := rfl
    rw [h, ← hinc, incidents_committed, hs, journalEntry_eq, tabled_recd]
    rfl
  have hof : incidentOf (committed (currentIncident s) u) (currentIncident s) = some e :=
    (incidentOf_congr (by rw [hrecd]; rfl) _).trans he
  rw [journalDone_two, hof]
  refine ⟨?_, ?_⟩
  · rw [← hrecd]
    simp [logIncident]
  · exact counterOf_count_logEvent (by decide) ..

/-- Phase 2's work brought to its end. -/
theorem finishIndex_phase2 (hs : Ready s) (h1 : s.recd.phase1 = false) (h2 : s.recd.phase2 = true) : ∃ e,
    incidentOf (markCommitted s) (currentIncident s) = some e ∧ e.st = 2 ∧
      e.segments = (incidentBlocks s (currentIncident s)).length ∧
      (finishIndex (phaseWork s)).recd = (phase2Done s).recd ∧ (finishIndex (phaseWork s)).nor.jobs = [] ∧
      Holds (finishIndex (phaseWork s)) (0x440000 + 0x10000 * (1 - s.recd.tableSlot)) (tableRecord (markCommitted s)).1 ∧
      Holds (finishIndex (phaseWork s)) (0x460000 + 256 * s.recd.journalPos) (journalPage 2 e (tabled s)) ∧
      counterOf (finishIndex (phaseWork s)) .commits = counterNext .commits (counterOf s .commits) 1 := by
  obtain ⟨i, hi⟩ := incidentOf_current hs.incidents
  have hof : incidentOf (markCommitted s) (currentIncident s) =
      some { i with segments := (incidentBlocks s (currentIncident s)).length, st := 2 } :=
    (incidentOf_modIncident (f := fun i => { i with st := 2 }) (fun _ => rfl) ..).trans
      (by rw [incidentOf_countSegments hi]; rfl)
  generalize he : ({ i with segments := (incidentBlocks s (currentIncident s)).length, st := 2 } : Incident) = e at hof
  have hnum : e.number = currentIncident s := incidentOf_number hof
  have hwork : phaseWork s = journalEntry 2 e (tabled s) := phaseWork_commit hs h1 h2
    ((incidentOf_congr (by rw [tableWrite_eq]) _).trans hof)
  have hjobs : (journalEntry 2 e (tabled s)).nor.jobs = tableOps (markCommitted s) ++ journalOps 2 e (tabled s) := by
    rw [journalEntry_eq, tabled_jobs hs.jobs]
  have hindex : ∀ o ∈ (journalEntry 2 e (tabled s)).nor.jobs, ofIndex o.job = true := by
    rw [hjobs, tableOps]
    simp only [List.cons_append, List.nil_append, List.forall_mem_cons]
    exact ⟨rfl, rfl, ofIndex_journalOps 2 e _⟩
  have hend := finishIndex_eq hindex
  rw [hjobs, endIndex_append] at hend
  rw [hwork, hend]
  generalize hu : endIndex (tableOps (markCommitted s)) (unqueued (journalEntry 2 e (tabled s))) = u
  have hueq := endIndex_tableOps (markCommitted s) (unqueued (journalEntry 2 e (tabled s)))
  have htable := holds_tableOps (markCommitted s) (unqueued (journalEntry 2 e (tabled s)))
  rw [hu] at hueq htable
  obtain ⟨hrecd, hcount⟩ := journalDone_tabled (s := s) (u := u) (by rw [hueq]; rfl) hof
  have hpos : (tabled s).recd.journalPos = s.recd.journalPos := by rw [tabled_recd]
  refine ⟨e, hof, by rw [← he], by rw [← he], ?_, ?_, ?_, ?_, ?_⟩
  · rw [endIndex_journalOps_eq, hnum]
    exact hrecd
  · rw [endIndex_journalOps_eq, hueq]
    rfl
  · refine Holds.journalOps htable ?_
    have := (tableRecord_length (markCommitted s)).2
    omega
  · rw [← hpos]
    exact holds_journalOps 2 e (tabled s) u
  · rw [endIndex_journalOps_eq, hnum]
    have hlog : u.log = s.log := by rw [hueq, unqueued_log, journalEntry_log, tabled_log]
    exact hcount.trans (by rw [counterOf_congr .commits s u (by rw [hlog])])

/-- Once no phase goes on, and nothing waits, the rest of COMMIT_PHASE_2 finds no work. -/
theorem finishIndex_idle (h1 : s.recd.phase1 = false) (h2 : s.recd.phase2 = false) (hj : s.nor.jobs = []) :
    finishIndex (phaseWork s) = s := by
  have hempty : unqueued s = s := by rw [unqueued, modNor, ← hj]
  rw [phaseWork_idle h1 h2, finishIndex_eq (by simp [hj]), hj, hempty]
  rfl

theorem kNor_congr (h : t.sec = s.sec) : kNor t = kNor s := by
  rw [kNor, kNor, fromKey, fromKey, coreKey, coreKey, h]

theorem draw_congr (h : t.free = s.free) (k : Nat) : (draw k t).1 = (draw k s).1 := by
  rw [draw, draw, h]

theorem sealPage_congr (hf : t.free = s.free) (hs : t.sec = s.sec) (hdr body : List Byte) :
    (sealPage hdr body t).1 = (sealPage hdr body s).1 := by
  simp only [sealPage, kNor_congr hs, draw_congr hf]

theorem tableBody_congr (hr : t.recd = { s.recd with job := t.recd.job }) : tableBody t = tableBody s := by
  have hbad (g : Bool) : badEntry t g = badEntry s g := by
    funext b
    rw [badEntry, badEntry, hr]
  have hinc : t.recd.incidents = s.recd.incidents := by rw [hr]
  have hfac : t.recd.factory = s.recd.factory := by rw [hr]
  have hgr : t.recd.grown = s.recd.grown := by rw [hr]
  rw [tableBody, tableBody, hbad, hbad, hinc, hfac, hgr]

theorem tableRecord_dropSegJob (s : State) : (tableRecord (dropSegJob s)).1 = (tableRecord s).1 := by
  have hkey : kNor (draw 12 (dropSegJob s)).2 = kNor (draw 12 s).2 := kNor_congr rfl
  have hiv : (draw 12 (dropSegJob s)).1 = (draw 12 s).1 := draw_congr rfl 12
  have hbody : tableBody (draw 12 (dropSegJob s)).2 = tableBody (draw 12 s).2 := tableBody_congr rfl
  have hseq : (draw 12 (dropSegJob s)).2.recd.tableSeq = (draw 12 s).2.recd.tableSeq := rfl
  simp only [tableRecord, hkey, hiv, hbody, hseq]

theorem markCommitted_dropSegJob (s : State) : markCommitted (dropSegJob s) = dropSegJob (markCommitted s) := rfl

theorem tableRecord_phaseBegun (dt : Nat) (s : State) :
    (tableRecord (markCommitted (phaseBegun dt s))).1 = (tableRecord (markCommitted (advance dt s))).1 := by
  rw [phaseBegun, markCommitted_dropSegJob, tableRecord_dropSegJob]

/-- The commit entry is sealed after the table's record is. -/
theorem journalPage_tabled (kind : Nat) (i : Incident) (s : State) : journalPage kind i (tabled (dropSegJob s)) =
    (sealPage (leBytes 8 (field 8 56 kind + field 56 0 s.recd.journalSeq)) (incidentBytes i)
      (tableRecord (markCommitted s)).2).1 := by
  have hseq : (tabled (dropSegJob s)).recd.journalSeq = s.recd.journalSeq := by rw [tabled_recd]; rfl
  have hfree : (tabled (dropSegJob s)).free = (tableRecord (markCommitted s)).2.free := by
    rw [tabled, tableWrite_eq]; rfl
  have hsec : (tabled (dropSegJob s)).sec = (tableRecord (markCommitted s)).2.sec := by
    rw [tabled, tableWrite_eq]; rfl
  rw [journalPage, hseq, sealPage_congr hfree hsec]

/-- COMMIT_PHASE_2: its clause of the statement. -/
theorem commitPhase2_ends (run : PageRun) (hs : Ready s) (h2 : s.recd.phase2 = true) (h1 : s.recd.phase1 = false)
    (hd : s.supply.dip = false) (hn : s.nor.present = true) :
    ∃ t e, exec (.commitPhase2 run) s = .next t ∧ t.recd.phase2 = false ∧ t.recd.tableSlot = 1 - s.recd.tableSlot ∧
      t.recd.tableSeq = s.recd.tableSeq + 1 ∧ t.recd.journalSeq = s.recd.journalSeq + 1 ∧ t.nor.jobs = [] ∧
      incidentOf t (currentIncident s) = some e ∧ e.st = 2 ∧
      e.segments = (incidentBlocks s (currentIncident s)).length ∧
      incidentOf (markCommitted (phaseBegun run.dt s)) (currentIncident s) = some e ∧
      Holds t (0x440000 + 0x10000 * (1 - s.recd.tableSlot)) (tableRecord (markCommitted (phaseBegun run.dt s))).1 ∧
      Holds t (0x460000 + 256 * s.recd.journalPos) (journalPage 2 e (tabled (phaseBegun run.dt s))) ∧
      counterOf t .commits = counterNext .commits (counterOf s .commits) 1 := by
  have hr := phaseBegun_recd run.dt s
  obtain ⟨e, hof, hst, hseg, hrecd, hjobs, htable, hpage, hcount⟩ :=
    finishIndex_phase2 (hs.begun run.dt) (by rw [hr]; exact h1) (by rw [hr]; exact h2)
  rw [currentIncident_phaseBegun] at hof hseg
  have hexec := exec_commitPhase2 run h2 hd hn hs.closing
  generalize finishIndex (phaseWork (phaseBegun run.dt s)) = d at *
  have hd1 : d.recd.phase1 = false := by rw [hrecd]; exact (congrArg (·.phase1) hr).trans h1
  have hd2 : d.recd.phase2 = false := by rw [hrecd]; rfl
  rw [finishIndex_idle hd1 hd2 hjobs] at hexec
  obtain ⟨hnor, hinc, hseq, hpos, hslot, htseq⟩ := index_nandStart hd1 hd2
  have hslot' : (phaseBegun run.dt s).recd.tableSlot = s.recd.tableSlot := by rw [hr]
  have htseq' : (phaseBegun run.dt s).recd.tableSeq = s.recd.tableSeq := by rw [hr]
  have hseq' : (phaseBegun run.dt s).recd.journalSeq = s.recd.journalSeq := by rw [hr]
  have hpos' : (phaseBegun run.dt s).recd.journalPos = s.recd.journalPos := by rw [hr]
  have hbegun : counterOf (phaseBegun run.dt s) .commits = counterOf s .commits := counterOf_advance ..
  refine ⟨_, e, hexec, ?_, ?_, ?_, ?_, ?_, ?_, hst, ?_, hof, ?_, ?_, ?_⟩
  · exact (phases_nandStart d).2.trans hd2
  · rw [hslot, hrecd, ← hslot']; rfl
  · rw [htseq, hrecd, ← htseq']; rfl
  · rw [hseq, hrecd, ← hseq']; rfl
  · rw [hnor, hjobs]
  · rw [← hof]
    exact incidentOf_congr (by rw [hinc, hrecd]; rfl) _
  · rw [hseg, incidentBlocks_phaseBegun]
  · rw [← hslot']
    exact htable.congr (by rw [hnor])
  · rw [← hpos']
    exact hpage.congr (by rw [hnor])
  · rw [counterOf_nandStart ⟨by decide, ne_halts_of_lt (by decide)⟩, hcount, hbegun]

/-! ## POWERED_HOUR (R406, R410) -/

theorem le_foldl_max (l : List Nat) (n : Nat) : n ≤ l.foldl max n := by
  induction l generalizing n with
  | nil => exact Nat.le_refl n
  | cons x l ih => exact (Nat.le_max_left n x).trans (ih (max n x))

theorem le_mountHours (s : State) : s.recd.hours ≤ (mountHours s).recd.hours := le_foldl_max ..

/-- The record of the hours that is queued. -/
theorem hoursWrite_queued (s : State) : ∃ o ∈ (hoursWrite s).nor.jobs, o.job = .hours ∧
    o.addr = 0x480000 + 256 * (s.recd.hours % 256) ∧ o.erasing = decide (s.recd.hours % 256 = 0) :=
  ⟨_, List.mem_append_right _ (List.mem_singleton_self _), rfl, rfl, rfl⟩

/-- The scrubs that age asks for change the list of scrubs alone. -/
theorem ageScrubs_eq (s : State) : ageScrubs s = { s with recd := { s.recd with scrubs := (ageScrubs s).recd.scrubs } } := by
  have hwant (b : Nat) (u : State) : wantScrub b u = { u with recd := { u.recd with scrubs := (wantScrub b u).recd.scrubs } } := by
    unfold wantScrub
    split <;> rfl
  unfold ageScrubs
  induction segBlocks s generalizing s with
  | nil => rfl
  | cons b l ih =>
    rw [List.foldl_cons, ih]
    split
    · rw [hwant]
    · rfl

/-- The hours a recorder counts on from: those of the newest record, where it is not mounted yet. -/
def hoursRead (s : State) : State := if s.recd.st = 2 then mountHours s else s

/-- An hour more, and its record queued. -/
def hourCounted (s : State) : State :=
  hoursWrite (modRec (fun r => { r with hours := r.hours + 1, hourAt := r.hourAt + sec 3600 }) (hoursRead s))

/-- With the record the recorder in service has its life figures and age scrubs made anew. -/
def hourPassed (s : State) : State :=
  if (hourCounted s).recd.st = 3 then nandStart (ageScrubs (lifeFigures (hourCounted s))) else hourCounted s

theorem exec_poweredHour_due {dt : Nat} (hd : s.sec.d ≠ none) (h : s.recd.hourAt + sec 3600 ≤ s.now + dt) :
    exec (.poweredHour dt) s = .next (hourPassed (advance dt s)) := by
  have hexec : exec (.poweredHour dt) s = execPoweredHour dt s := rfl
  have hdue : ((advance dt s).sec.d.isSome && decide ((advance dt s).recd.hourAt + sec 3600 ≤ (advance dt s).now)) = true := by
    simp [Option.isSome_iff_ne_none, hd, h]
  rw [hexec, execPoweredHour, when_, if_pos hdue]
  rfl

theorem exec_poweredHour_early {dt : Nat} (h : s.now + dt < s.recd.hourAt + sec 3600) :
    exec (.poweredHour dt) s = .next (advance dt s) := by
  have hexec : exec (.poweredHour dt) s = execPoweredHour dt s := rfl
  rw [hexec, execPoweredHour, when_, if_neg (by simp; omega)]

/-- What the hour's count leaves is what the next job leaves of it. -/
theorem hourPassed_keeps (s : State) : (hourPassed s).recd.hours = (hourCounted s).recd.hours ∧
    (hourPassed s).recd.hourAt = (hourCounted s).recd.hourAt ∧
    ∃ l, (hourPassed s).nor.jobs = (hourCounted s).nor.jobs ++ l := by
  unfold hourPassed
  split
  · have hr := restView_nandStart (ageScrubs (lifeFigures (hourCounted s)))
    obtain ⟨l, hl⟩ := jobs_nandStart (ageScrubs (lifeFigures (hourCounted s)))
    have hage := ageScrubs_eq (lifeFigures (hourCounted s))
    refine ⟨(congrArg (·.recd.hours) hr).trans ?_, (congrArg (·.recd.hourAt) hr).trans ?_, l, hl.trans ?_⟩
    · rw [hage]; rfl
    · rw [hage]; rfl
    · rw [hage]; rfl
  · exact ⟨rfl, rfl, [], (List.append_nil _).symm⟩

theorem hoursRead_keeps (s : State) : s.recd.hours ≤ (hoursRead s).recd.hours ∧ (hoursRead s).recd.hourAt = s.recd.hourAt := by
  unfold hoursRead
  split
  · exact ⟨le_mountHours s, rfl⟩
  · exact ⟨Nat.le_refl _, rfl⟩

/-! ## The settlement -/

/-- Settles O58: each phase's work, brought to its end, leaves its pages in the NOR flash and its incident in the index. -/
theorem commitPhases : Obligations.CommitPhases := by
  unfold Obligations.CommitPhases
  refine ⟨fun run s h1 h2 hd hn hc hs hj hi => ?_, fun run s h2 h1 hd hn hc hs hj hi => ?_,
    fun run s h => exec_commitPhases_stopped run h, fun dt s h => exec_poweredHour_early h, fun dt s hd h => ?_⟩
  · obtain ⟨t, e, hexec, hphase, hseq, hpos, hjobs, hof, hst, hseg, hlen, hpage⟩ :=
      commitPhase1_ends run ⟨hc, hs, hj, hi⟩ h1 h2 hd hn
    rw [journalPage_phaseBegun] at hlen hpage
    exact ⟨t, e, hexec, hphase, hseq, hpos, hjobs, hof, hst, hseg, hlen, hpage⟩
  · obtain ⟨t, e, hexec, hphase, hslot, htseq, hseq, hjobs, hof, hst, hseg, hmark, htable, hpage, hcount⟩ :=
      commitPhase2_ends run ⟨hc, hs, hj, hi⟩ h2 h1 hd hn
    have hcur : currentIncident (advance run.dt s) = currentIncident s := by rw [currentIncident, advance_recd]; rfl
    have hmark' : markCommitted (advance run.dt s) =
        modIncident (currentIncident s) (fun i => { i with st := 2 }) (countSegments (currentIncident s) (advance run.dt s)) := by
      rw [markCommitted, hcur]
    rw [← hmark']
    refine ⟨t, e, hexec, hphase, hslot, htseq, hseq, hjobs, hof, hst, hseg, ?_, ?_, ?_, hcount⟩
    · exact (incidentOf_congr (by rw [phaseBegun, markCommitted_dropSegJob]; rfl) _).symm.trans hmark
    · rw [tableRecord_phaseBegun] at htable
      exact ⟨(tableRecord_length _).1, htable⟩
    · rw [phaseBegun, journalPage_tabled, advance_recd] at hpage
      exact ⟨by simp [sealPage], hpage⟩
  · obtain ⟨hhours, hat, l, hl⟩ := hourPassed_keeps (advance dt s)
    obtain ⟨hle, hreadAt⟩ := hoursRead_keeps (advance dt s)
    obtain ⟨o, ho, hjob, haddr, herase⟩ := hoursWrite_queued
      (modRec (fun r => { r with hours := r.hours + 1, hourAt := r.hourAt + sec 3600 }) (hoursRead (advance dt s)))
    rw [advance_recd] at hle hreadAt
    have hread : s.recd.st ≠ 2 → (hoursRead (advance dt s)).recd.hours = s.recd.hours := fun hst => by
      rw [hoursRead, if_neg (by simpa using hst), advance_recd]
    have hcounted : (hourCounted (advance dt s)).recd.hours = (hoursRead (advance dt s)).recd.hours + 1 := rfl
    refine ⟨_, exec_poweredHour_due hd h, ?_, ?_, fun hst => ?_, o, ?_, hjob, ?_, ?_⟩
    · omega
    · rw [hat, ← hreadAt]; rfl
    · rw [hhours, hcounted, hread hst]
    · rw [hl]
      exact List.mem_append_left _ ho
    · rw [hhours]; exact haddr
    · rw [hhours]; exact herase

end Sys2Proof.Proofs
end

section
/-! The choice of the next NAND job as a short run of steps on the blocks, the ring, the scrubs and the job: the ring's oldest
segment let go, a block taken for a segment, a scrub begun, a job set (R398, R406 to R408). -/

namespace Sys2Proof.Laws

open Sys2Proof Sys2Proof.Machine Sys2Proof.Proofs

variable {s t u : State} {b : Nat} {x : Scrub}

/-- The parts that the steps change, and what makes a block bad. -/
def yardView (s : State) :
    Table Block × List Nat × List Nat × Option Scrub × Option NandJob × List Nat × List Nat :=
  (s.recd.blocks, s.recd.ring, s.recd.scrubs, s.recd.scrubbing, s.recd.job, s.recd.factory, s.recd.grown)

/-- The state with the ring's oldest segment let go. -/
def oldestGone (b : Nat) (r : List Nat) (s : State) : State := letGo b (modRec (fun x => { x with ring := r }) s)

/-- The state with block `b` in use for a segment of a kind. -/
def blockTaken (b kind : Nat) (s : State) : State := modBlock b (fun v => { v with st := kind }) s

/-- The state with a page operation of scrub `x` going on. -/
def scrubOn (x : Scrub) (s : State) : State :=
  modBlock x.copy (fun v => { v with st := 5 }) (modRec (fun r => { r with job := some .copy, scrubbing := some x }) s)

/-- The state with job `j` going on. -/
def jobOn (j : NandJob) (s : State) : State := modRec (fun r => { r with job := some j }) s

/-- A property of those parts that a step from any state keeps. -/
structure StepsKeep (Q : State → Prop) : Prop where
  view : ∀ {s t : State}, yardView t = yardView s → Q s → Q t
  take : ∀ {s : State} {b : Nat} (kind : Nat), pickFree s = some b → Q s → Q (blockTaken b kind s)
  scrub : ∀ {s : State} {x : Scrub}, s.recd.job = none → scrubNext s = some x → Q s → Q (scrubOn x s)
  job : ∀ {s : State} (j : NandJob), Q s → Q (jobOn j s)

theorem Moves.yardView {k : Nat} (h : Moves k s t) : yardView t = yardView s := by
  rw [Laws.yardView, h.recd]
  rfl

theorem yardView_loadSeg (s : State) : yardView (loadSeg s) = yardView s := by
  rw [loadSeg_eq]
  rfl

theorem yardView_journalEntry (kind : Nat) (i : Incident) (s : State) : yardView (journalEntry kind i s) = yardView s := by
  unfold journalEntry
  dsimp only
  split <;> rfl

theorem yardView_tableWrite (s : State) : yardView (tableWrite s) = yardView s := rfl

theorem yardView_modIncident (n : Nat) (f : Incident → Incident) (s : State) :
    yardView (modIncident n f s) = yardView s := rfl

theorem yardView_countSegments (n : Nat) (s : State) : yardView (countSegments n s) = yardView s := rfl

theorem yardView_phaseWork (s : State) : yardView (phaseWork s) = yardView s := by
  have htable : yardView (tableWrite (modIncident (currentIncident s) (fun i => { i with st := 2 })
      (countSegments (currentIncident s) s))) = yardView s :=
    (yardView_tableWrite _).trans ((yardView_modIncident ..).trans (yardView_countSegments ..))
  unfold phaseWork
  dsimp only
  split
  · rfl
  · split
    · split
      · exact yardView_countSegments ..
      · exact (yardView_journalEntry ..).trans (yardView_countSegments ..)
    · split
      · split
        · exact htable
        · exact (yardView_journalEntry ..).trans ((yardView_modIncident ..).trans htable)
      · rfl

theorem letGo_job (b : Nat) (s : State) : (letGo b s).recd.job = s.recd.job := by
  unfold letGo
  extract_lets t
  split
  · rfl
  · split <;> rfl

theorem dropOldest_cases (s : State) :
    dropOldest s = s ∨ ∃ b r, s.recd.ring = b :: r ∧ dropOldest s = oldestGone b r s := by
  unfold dropOldest
  split
  · exact .inl rfl
  · next b r h =>
    split
    · exact .inr ⟨b, r, h, rfl⟩
    · exact .inl rfl

theorem openIfNeeded_job (s : State) : (openIfNeeded s).recd.job = s.recd.job := by
  unfold openIfNeeded
  split
  · rfl
  · split
    · split <;> rfl
    · extract_lets u
      have hu : u.recd.job = s.recd.job := by
        unfold u
        split
        · obtain he | ⟨b, r, -, he⟩ := dropOldest_cases s
          · rw [he]
          · rw [he]
            exact letGo_job b _
        · rfl
      split
      · exact hu
      · exact hu

namespace StepsKeep

variable {Q : State → Prop}

theorem openIfNeeded (hQ : StepsKeep Q) (h : Q s)
    (hgo : s.recd.seg = none → ∀ b r, s.recd.ring = b :: r → Q (oldestGone b r s)) : Q (Machine.openIfNeeded s) := by
  unfold Machine.openIfNeeded
  split
  · exact h
  · next hseg =>
    split
    · split
      · exact h
      · exact hQ.view (s := s) rfl h
    · extract_lets u
      have hu : Q u := by
        unfold u
        split
        · obtain he | ⟨b, r, hr, he⟩ := dropOldest_cases s
          · rw [he]
            exact h
          · rw [he]
            exact hgo (by simpa using hseg) b r hr
        · exact h
      split
      · exact hu
      · next b hb => exact hQ.view (s := blockTaken b _ u) rfl (hQ.take _ hb hu)

theorem background (hQ : StepsKeep Q) (h : Q s) (hj : s.recd.job = none) : Q (Machine.background s) := by
  unfold Machine.background
  split
  · next j _ => exact hQ.view (moves_moveStart ..).yardView (hQ.job j h)
  · split
    · next x hx => exact hQ.view (moves_moveStart ..).yardView (hQ.scrub hj hx h)
    · split
      · next b _ =>
        split
        · exact hQ.job (.erase b) h
        · exact h
      · exact h

theorem segMove (hQ : StepsKeep Q) (h : Q s) (j : NandJob) : Q (Machine.segMove j s) :=
  hQ.view (by rw [yardView, segMove_recd]; rfl) h

/-- What the steps keep the next job keeps, if letting the ring's oldest segment go does; an open segment rules that out. -/
theorem nandStart (hQ : StepsKeep Q) (h : Q s)
    (hgo : s.recd.seg = none → ∀ b r, s.recd.ring = b :: r → Q (oldestGone b r s)) : Q (Machine.nandStart s) := by
  unfold Machine.nandStart
  split
  · exact h
  · next hbusy =>
    have hj : s.recd.job = none := by
      simp only [Bool.or_eq_true, not_or] at hbusy
      simpa using hbusy.1.1
    rw [stampJob_eq]
    refine hQ.view (s := Machine.nandNext s) rfl ?_
    unfold Machine.nandNext
    extract_lets v
    have hv : Q v := hQ.view ((yardView_phaseWork _).trans (yardView_loadSeg _)) (hQ.openIfNeeded h hgo)
    have hvj : v.recd.job = none := by
      have hview := (yardView_phaseWork _).trans (yardView_loadSeg (Machine.openIfNeeded s))
      exact (congrArg (·.2.2.2.2.1) hview).trans ((openIfNeeded_job s).trans hj)
    split
    · exact hQ.background hv hvj
    · next j _ => exact hQ.segMove (hQ.job j hv) j

end StepsKeep

end Sys2Proof.Laws
end

section
/-! What the next NAND job leaves of a block's header and use, of the scrubs and of the scrub under way (R398, R406). -/

namespace Sys2Proof.Laws

open Sys2Proof Sys2Proof.Machine Sys2Proof.Proofs

variable {s t : State} {b c n : Nat} {x : Scrub} {r : List Nat}

/-! ## A block let go -/

/-- Block `b` out of its segment, no copy of it under way. -/
def gone (b : Nat) (s : State) : State :=
  modBlock b (fun v => { v with st := if isBad s b then 3 else 4, incident := 0 })
    (modRec (fun r => { r with scrubs := r.scrubs.filter (· ≠ b) }) s)

theorem letGo_cases (b : Nat) (s : State) :
    (letGo b s = gone b s ∧ ∀ x, s.recd.scrubbing = some x → x.source ≠ b) ∨
      ∃ x, s.recd.scrubbing = some x ∧ x.source = b ∧ letGo b s = dropCopy x.copy (gone b s) := by
  have hgone : (gone b s).recd.scrubbing = s.recd.scrubbing := rfl
  unfold letGo
  dsimp only
  rw [← gone]
  cases hx : s.recd.scrubbing with
  | none => exact .inl ⟨by rw [hgone, hx], nofun⟩
  | some x =>
    rw [hgone, hx]
    dsimp only
    by_cases hb : x.source = b
    · exact .inr ⟨x, rfl, hb, if_pos hb⟩
    · exact .inl ⟨if_neg hb, fun y hy => Option.some.inj hy ▸ hb⟩

theorem header_modBlock {f : Block → Block} (b n : Nat) (s : State)
    (hf : ∀ v, (f v).header = v.header := by exact fun _ => rfl) :
    (blockOf (modBlock b f s) n).header = (blockOf s n).header := proj_modBlock Block.header hf b n s

theorem gone_header (b n : Nat) (s : State) : (blockOf (gone b s) n).header = (blockOf s n).header :=
  (header_modBlock ..).trans rfl

theorem blockTaken_header (b n kind : Nat) (s : State) :
    (blockOf (blockTaken b kind s) n).header = (blockOf s n).header := header_modBlock ..

theorem scrubOn_header (x : Scrub) (n : Nat) (s : State) : (blockOf (scrubOn x s) n).header = (blockOf s n).header :=
  (header_modBlock ..).trans rfl

theorem dropCopy_header_ne (h : n ≠ c) (s : State) : (blockOf (dropCopy c s) n).header = (blockOf s n).header := by
  rw [dropCopy, blockOf_modBlock_ne h]
  rfl

theorem dropCopy_header_self (c : Nat) (s : State) : (blockOf (dropCopy c s) c).header = [] := by
  rw [dropCopy, blockOf_modBlock_self]

theorem letGo_scrubs (b : Nat) (s : State) : (letGo b s).recd.scrubs = s.recd.scrubs.filter (· ≠ b) := by
  obtain ⟨h, -⟩ | ⟨x, -, -, h⟩ := letGo_cases b s <;> rw [h] <;> rfl

theorem letGo_ring (b : Nat) (s : State) : (letGo b s).recd.ring = s.recd.ring := by
  obtain ⟨h, -⟩ | ⟨x, -, -, h⟩ := letGo_cases b s <;> rw [h] <;> rfl

theorem letGo_scrubbing (b : Nat) (s : State) :
    (letGo b s).recd.scrubbing = s.recd.scrubbing ∨ (letGo b s).recd.scrubbing = none := by
  obtain ⟨h, -⟩ | ⟨x, -, -, h⟩ := letGo_cases b s
  · rw [h]
    exact .inl rfl
  · rw [h]
    exact .inr rfl

theorem letGo_isBad (b n : Nat) (s : State) : isBad (letGo b s) n = isBad s n :=
  isBad_congr (answerView_letGo 0 b s) n

/-- Only the copy of a scrub of the block loses its header. -/
theorem letGo_header (h : ∀ x, s.recd.scrubbing = some x → x.source = b → x.copy ≠ n) :
    (blockOf (letGo b s) n).header = (blockOf s n).header := by
  obtain ⟨he, -⟩ | ⟨x, hx, hb, he⟩ := letGo_cases b s
  · rw [he, gone_header]
  · rw [he, dropCopy_header_ne (h x hx hb).symm, gone_header]

theorem letGo_header_or (b n : Nat) (s : State) :
    (blockOf (letGo b s) n).header = (blockOf s n).header ∨ (blockOf (letGo b s) n).header = [] := by
  obtain ⟨he, -⟩ | ⟨x, -, -, he⟩ := letGo_cases b s
  · exact .inl (by rw [he, gone_header])
  · by_cases hn : n = x.copy
    · exact .inr (by rw [he, hn, dropCopy_header_self])
    · exact .inl (by rw [he, dropCopy_header_ne hn, gone_header])

/-- The block is to be erased, or stays out of use where it is bad. -/
theorem letGo_st_self (b : Nat) (s : State) : (blockOf (letGo b s) b).st = if isBad s b then 3 else 4 := by
  have hgone : (blockOf (gone b s) b).st = if isBad s b then 3 else 4 := by rw [gone, blockOf_modBlock_self]
  obtain ⟨he, -⟩ | ⟨x, -, -, he⟩ := letGo_cases b s
  · rw [he, hgone]
  · rw [he, dropCopy]
    by_cases hc : b = x.copy
    · rw [← hc, blockOf_modBlock_self]
      rfl
    · rw [blockOf_modBlock_ne hc]
      exact hgone

theorem letGo_st_or (b n : Nat) (s : State) : (blockOf (letGo b s) n).st = (blockOf s n).st ∨
    (blockOf (letGo b s) n).st = if isBad s n then 3 else 4 := by
  by_cases hn : n = b
  · rw [hn]
    exact .inr (letGo_st_self b s)
  · have hgone : (blockOf (gone b s) n).st = (blockOf s n).st := by
      rw [gone, blockOf_modBlock_ne hn]
      rfl
    obtain ⟨he, -⟩ | ⟨x, -, -, he⟩ := letGo_cases b s
    · exact .inl (by rw [he, hgone])
    · rw [he, dropCopy]
      by_cases hc : n = x.copy
      · right
        rw [← hc, blockOf_modBlock_self]
        rfl
      · left
        rw [blockOf_modBlock_ne hc]
        exact hgone

/-! ## Headers -/

theorem stepsKeep_header (n : Nat) (P : List Byte → Prop) : StepsKeep fun t => P (blockOf t n).header where
  view hv h := by rwa [blockOf_congr (congrArg Prod.fst hv)]
  take _ _ h := by
    rw [blockTaken_header]
    exact h
  scrub _ _ h := by
    rw [scrubOn_header]
    exact h
  job _ h := h

/-- A block without a header gets none. -/
theorem header_nandStart_nil (h : (blockOf s n).header = []) : (blockOf (nandStart s) n).header = [] := by
  refine (stepsKeep_header n (· = [])).nandStart h fun _ b r _ => ?_
  exact (letGo_header_or b n _).elim (·.trans h) id

/-- A block that is no scrub's copy keeps its header. -/
theorem header_nandStart (h : s.recd.seg = none → ∀ x, s.recd.scrubbing = some x → s.recd.ring.head? = some x.source →
    x.copy ≠ n) : (blockOf (nandStart s) n).header = (blockOf s n).header := by
  refine (stepsKeep_header n (· = (blockOf s n).header)).nandStart rfl fun hs b r hr => ?_
  exact letGo_header fun x hx hb => h hs x hx (by rw [hr, hb]; rfl)

/-! ## Scrubs -/

theorem stepsKeep_not_mem_scrubs (b : Nat) : StepsKeep fun t => b ∉ t.recd.scrubs where
  view hv h := by
    have hs := congrArg (·.2.2.1) hv
    dsimp only [yardView] at hs
    rwa [hs]
  take _ _ h := h
  scrub _ _ h := h
  job _ h := h

/-- A block that is not to be scrubbed does not come to be. -/
theorem not_mem_scrubs_nandStart (h : b ∉ s.recd.scrubs) : b ∉ (nandStart s).recd.scrubs := by
  refine (stepsKeep_not_mem_scrubs b).nandStart h fun _ c r _ => ?_
  rw [oldestGone, letGo_scrubs]
  exact fun hb => h (List.mem_filter.1 hb).1

theorem scrubNext_some (h : s.recd.scrubbing = some x) : scrubNext s = some x := by
  rw [scrubNext, h]

theorem stepsKeep_scrubbing (x : Scrub) : StepsKeep fun t => t.recd.scrubbing = some x where
  view hv h := by rw [← h]; exact congrArg (·.2.2.2.1) hv
  take _ _ h := h
  scrub _ hx h := by
    rw [scrubNext_some h] at hx
    exact hx.symm
  job _ h := h

/-- A scrub under way goes on, unless the block it copies is the ring's oldest. -/
theorem scrubbing_nandStart (h : s.recd.scrubbing = some x) (hr : s.recd.ring.head? ≠ some x.source) :
    (nandStart s).recd.scrubbing = some x := by
  refine (stepsKeep_scrubbing x).nandStart h fun _ b r hring => ?_
  obtain ⟨he, -⟩ | ⟨y, hy, hb, -⟩ := letGo_cases b (modRec (fun v => { v with ring := r }) s)
  · rw [oldestGone, he]
    exact h
  · obtain rfl : y = x := Option.some.inj (hy.symm.trans h)
    exact absurd (by rw [hring, hb]; rfl) hr

/-! ## Blocks out of use -/

/-- Block `b` is no copy that a free NAND would go on with. -/
def NoCopy (b : Nat) (s : State) : Prop := s.recd.job = none → ∀ x, s.recd.scrubbing = some x → x.copy ≠ b

/-- A copy begun or gone on with is another block than one out of use. -/
theorem ne_copy_of_scrubNext (hj : s.recd.job = none) (hx : scrubNext s = some x) (hn : NoCopy b s)
    (hst : (blockOf s b).st ≠ 0) : b ≠ x.copy := by
  unfold scrubNext at hx
  split at hx
  · next y hy =>
    rw [Option.some.inj hx] at hy
    exact (hn hj x hy).symm
  · split at hx
    · next c _ hc =>
      have hcopy : x.copy = c := by rw [← Option.some.inj hx]
      rintro rfl
      exact hst (st_of_pickFree (hcopy ▸ hc))
    · cases hx

theorem ne_of_pickFree (h : pickFree s = some c) (hst : (blockOf s b).st ≠ 0) : b ≠ c := by
  rintro rfl
  exact hst (st_of_pickFree h)

theorem blockTaken_st (h : b ≠ c) (kind : Nat) (s : State) : (blockOf (blockTaken c kind s) b).st = (blockOf s b).st := by
  rw [blockTaken, blockOf_modBlock_ne h]

theorem scrubOn_st (h : b ≠ x.copy) (s : State) : (blockOf (scrubOn x s) b).st = (blockOf s b).st := by
  rw [scrubOn, blockOf_modBlock_ne h]
  rfl

theorem noCopy_congr (h : yardView t = yardView s) (hn : NoCopy b s) : NoCopy b t := by
  have hs := congrArg (·.2.2.2.1) h
  have hj := congrArg (·.2.2.2.2.1) h
  exact fun hjob x hx => hn (hj.symm.trans hjob) x (hs.symm.trans hx)

theorem yard_isBad (h : yardView t = yardView s) (n : Nat) : isBad t n = isBad s n := by
  have hf : t.recd.factory = s.recd.factory := congrArg (·.2.2.2.2.2.1) h
  have hg : t.recd.grown = s.recd.grown := congrArg (·.2.2.2.2.2.2) h
  rw [isBad, isBad, hf, hg]

theorem noCopy_letGo (hn : NoCopy b s) (c : Nat) : NoCopy b (letGo c s) := by
  intro hj x hx
  obtain he | he := letGo_scrubbing c s
  · exact hn ((letGo_job c s).symm.trans hj) x (he.symm.trans hx)
  · exact absurd (he.symm.trans hx) (by simp)

/-- Block `b` is out of use: to be erased, or bad. -/
def OutOfUse (b : Nat) (s : State) : Prop := (blockOf s b).st = if isBad s b then 3 else 4

theorem OutOfUse.st_ne (h : OutOfUse b s) : (blockOf s b).st ≠ 0 := by
  rw [h]
  split <;> decide

theorem stepsKeep_outOfUse (b : Nat) : StepsKeep fun t => OutOfUse b t ∧ NoCopy b t where
  view hv h := ⟨by
    rw [OutOfUse, blockOf_congr (congrArg Prod.fst hv), yard_isBad hv]
    exact h.1, noCopy_congr hv h.2⟩
  take kind hc h := ⟨(blockTaken_st (ne_of_pickFree hc h.1.st_ne) kind _).trans h.1, h.2⟩
  scrub hj hx h := ⟨(scrubOn_st (ne_copy_of_scrubNext hj hx h.2 h.1.st_ne) _).trans h.1, fun hj => nomatch hj⟩
  job j h := ⟨h.1, fun hj => nomatch hj⟩

/-- A block out of use stays so. -/
theorem outOfUse_nandStart (h : OutOfUse b s) (hn : NoCopy b s) : OutOfUse b (nandStart s) := by
  refine ((stepsKeep_outOfUse b).nandStart ⟨h, hn⟩ fun _ c r _ => ⟨?_, noCopy_letGo (s := modRec _ s) hn c⟩).1
  rw [OutOfUse, oldestGone, letGo_isBad]
  exact (letGo_st_or c b (modRec (fun v => { v with ring := r }) s)).elim (·.trans h) id

/-- Block `b` waits for a scrub, or its segment was one of the ring's and is gone. -/
def ScrubWanted (ring : List Nat) (b : Nat) (s : State) : Prop :=
  (b ∈ s.recd.scrubs ∨ (b ∈ ring ∧ ((blockOf s b).st = 3 ∨ (blockOf s b).st = 4))) ∧
    (∀ y ∈ s.recd.ring, y ∈ ring) ∧ NoCopy b s

theorem stepsKeep_scrubWanted (ring : List Nat) (b : Nat) : StepsKeep (ScrubWanted ring b) where
  view hv h := by
    have hscrubs := congrArg (·.2.2.1) hv
    have hring := congrArg (·.2.1) hv
    dsimp only [yardView] at hscrubs hring
    refine ⟨?_, ?_, noCopy_congr hv h.2.2⟩
    · rw [hscrubs, blockOf_congr (congrArg Prod.fst hv)]
      exact h.1
    · rw [hring]
      exact h.2.1
  take kind hc h := by
    refine ⟨h.1.imp_right fun ⟨hb, hst⟩ => ⟨hb, ?_⟩, h.2⟩
    rwa [blockTaken_st (ne_of_pickFree hc (by omega))]
  scrub hj hx h := by
    refine ⟨h.1.imp_right fun ⟨hb, hst⟩ => ⟨hb, ?_⟩, h.2.1, fun hj => nomatch hj⟩
    rwa [scrubOn_st (ne_copy_of_scrubNext hj hx h.2.2 (by omega))]
  job j h := ⟨h.1, h.2.1, fun hj => nomatch hj⟩

/-- It waits on, or goes with the ring's oldest segment. -/
theorem scrubWanted_nandStart {ring : List Nat} (h : ScrubWanted ring b s) : ScrubWanted ring b (nandStart s) := by
  refine (stepsKeep_scrubWanted ring b).nandStart h fun _ c r hr => ?_
  obtain ⟨hwant, hring, hn⟩ := h
  rw [hr] at hring
  refine ⟨?_, ?_, noCopy_letGo (s := modRec _ s) hn c⟩
  · by_cases hbc : b = c
    · subst hbc
      refine .inr ⟨hring b List.mem_cons_self, ?_⟩
      rw [oldestGone, letGo_st_self]
      split
      · exact .inl rfl
      · exact .inr rfl
    · refine hwant.imp (fun hb => ?_) fun ⟨hb, hst⟩ => ⟨hb, ?_⟩
      · rw [oldestGone, letGo_scrubs]
        exact List.mem_filter.2 ⟨hb, by simpa using hbc⟩
      · rw [oldestGone]
        obtain he | he := letGo_st_or c b (modRec (fun v => { v with ring := r }) s)
        · rw [he]
          exact hst
        · rw [he]
          split
          · exact .inl rfl
          · exact .inr rfl
  · rw [oldestGone, letGo_ring]
    exact fun y hy => hring y (List.mem_cons_of_mem c hy)

end Sys2Proof.Laws
end

section
/-! What ends of page operations do to blocks and counters: a read noted, a block retired, a segment closed (R394, R398,
R406). -/

namespace Sys2Proof.Laws

open Sys2Proof Sys2Proof.Machine Sys2Proof.Proofs

variable {s t : State} {b c n : Nat} {x : Scrub} {l : List Nat} {e : Counter} {p : PageResult} {g : OpenSeg}

/-! ## A read noted -/

/-- A block without its count of reads. -/
def still (s : State) (n : Nat) : Block := { blockOf s n with reads := 0 }

theorem wantScrub_eq (b : Nat) (s : State) :
    wantScrub b s = { s with recd := { s.recd with scrubs := (wantScrub b s).recd.scrubs } } := by
  unfold wantScrub
  split <;> rfl

theorem mem_wantScrub (b : Nat) (s : State) : b ∈ (wantScrub b s).recd.scrubs := by
  unfold wantScrub
  split
  · next h => simpa using h
  · exact List.mem_append_right _ (List.mem_singleton_self b)

theorem countRead_eq (l : List Nat) (s : State) : countRead l s = { s with log := (countRead l s).log } := by
  unfold countRead
  dsimp only
  split <;> rfl

/-- A read changes its block's count of reads, the counters and the scrubs. -/
theorem noteRead_eq (b : Nat) (l : List Nat) (s : State) : noteRead b l s = { s with
    log := (noteRead b l s).log
    recd := { s.recd with
      blocks := (modBlock b (fun v => { v with reads := (blockOf s b).reads + 1 }) s).recd.blocks
      scrubs := (noteRead b l s).recd.scrubs } } := by
  unfold noteRead
  dsimp only
  split
  · rw [wantScrub_eq, countRead_eq]
    rfl
  · rw [countRead_eq]
    rfl

theorem still_noteRead (b : Nat) (l : List Nat) (s : State) (n : Nat) : still (noteRead b l s) n = still s n := by
  have h : blockOf (noteRead b l s) n =
      blockOf (modBlock b (fun v => { v with reads := (blockOf s b).reads + 1 }) s) n :=
    blockOf_congr (by rw [noteRead_eq]) n
  rw [still, h]
  exact proj_modBlock (f := fun v => { v with reads := (blockOf s b).reads + 1 })
    (fun v : Block => ({ v with reads := 0 } : Block)) (fun _ => rfl) b n s

theorem mem_noteRead_scrubs (h : (∃ k ∈ l, 48 < k) ∨ 50000 ≤ (blockOf s b).reads + 1) :
    b ∈ (noteRead b l s).recd.scrubs := by
  have hdue : (l.any (fun k => decide (48 < k)) || decide (50000 ≤ (blockOf s b).reads + 1)) = true := by
    simpa using h
  rw [noteRead, if_pos hdue]
  exact mem_wantScrub ..

theorem counterOf_countRead (l : List Nat) (s : State) : counterOf (countRead l s) .correctedBits =
    counterNext .correctedBits (counterOf s .correctedBits) ((l.filter (fun n => decide (n ≤ 72))).sum) := by
  unfold countRead
  dsimp only
  split
  · rw [counterOf_count_ne _ _ _ _ (by decide), counterOf_count]
  · rw [counterOf_count]

theorem counterOf_countRead_ne (h : counterKey e ≠ counterKey .correctedBits) (h' : counterKey e ≠ counterKey .uncorrectablePages)
    (l : List Nat) (s : State) : counterOf (countRead l s) e = counterOf s e := by
  unfold countRead
  dsimp only
  split
  · rw [counterOf_count_ne _ _ _ _ h', counterOf_count_ne _ _ _ _ h]
  · rw [counterOf_count_ne _ _ _ _ h]

theorem counterOf_log (h : t.log = s.log) : counterOf t e = counterOf s e := counterOf_congr e s t (by rw [h])

theorem noteRead_log (b : Nat) (l : List Nat) (s : State) : (noteRead b l s).log =
    (countRead l (modBlock b (fun v => { v with reads := (blockOf s b).reads + 1 }) s)).log := by
  unfold noteRead
  dsimp only
  split
  · rw [wantScrub_eq]
  · rfl

theorem counterOf_noteRead (b : Nat) (l : List Nat) (s : State) : counterOf (noteRead b l s) .correctedBits =
    counterNext .correctedBits (counterOf s .correctedBits) ((l.filter (fun n => decide (n ≤ 72))).sum) := by
  rw [counterOf_log (noteRead_log b l s), counterOf_countRead]
  rfl

theorem counterOf_noteRead_ne (h : counterKey e ≠ counterKey .correctedBits) (h' : counterKey e ≠ counterKey .uncorrectablePages)
    (b : Nat) (l : List Nat) (s : State) : counterOf (noteRead b l s) e = counterOf s e := by
  rw [counterOf_log (noteRead_log b l s), counterOf_countRead_ne h h']
  rfl

/-! ## A page read back -/

theorem readBack_ok (h : p.ok = true) (b : Nat) (s : State) : readBack b p s = noteRead b p.errors s := if_pos h

theorem readBack_eq (b : Nat) (p : PageResult) (s : State) : readBack b p s = { s with
    log := (readBack b p s).log
    recd := { s.recd with blocks := (readBack b p s).recd.blocks, scrubs := (readBack b p s).recd.scrubs } } := by
  unfold readBack
  split
  · rw [noteRead_eq]
  · rfl

theorem still_readBack (b : Nat) (p : PageResult) (s : State) (n : Nat) : still (readBack b p s) n = still s n := by
  unfold readBack
  split
  · exact still_noteRead ..
  · rfl

theorem counterOf_readBack_ne (h : counterKey e ≠ counterKey .correctedBits) (h' : counterKey e ≠ counterKey .uncorrectablePages)
    (b : Nat) (p : PageResult) (s : State) : counterOf (readBack b p s) e = counterOf s e := by
  unfold readBack
  split
  · exact counterOf_noteRead_ne h h' ..
  · rfl

theorem programmed_iff (p : PageResult) : programmed p = true ↔ p.ok = true ∧ uncorrectable p.errors = false := by
  simp [programmed]

/-! ## A block retired -/

theorem retireBlock_recd (b : Nat) (s : State) : (retireBlock b s).recd = { s.recd with
    grown := (retireBlock b s).recd.grown, tableSlot := (retireBlock b s).recd.tableSlot
    tableSeq := (retireBlock b s).recd.tableSeq } := by
  unfold retireBlock
  split
  · rfl
  · rw [tableWrite_eq]
    simp [modRec, count]

theorem counterOf_retireBlock (h : counterKey e ≠ counterKey .logOverwrites) (h' : counterKey e ≠ counterKey .grownBad)
    (b : Nat) (s : State) : counterOf (retireBlock b s) e = counterOf s e := by
  unfold retireBlock
  split
  · rfl
  · rw [counterOf_log (tableWrite_log _), counterOf_count_ne _ _ _ _ h', counterOf_logEvent _ _ _ _ _ _ h]
    rfl

/-! ## The open segment's programs -/

theorem headerFailed_eq (h : s.recd.seg = some g) : ∃ closing staging, headerFailed s = letGo g.block
    (modRec (fun r => { r with closing := closing, staging := staging, seg := none, nextSeq := g.seq }) s) := by
  unfold headerFailed
  rw [h]
  dsimp only [modRec]
  rw [untake_eq]
  exact ⟨_, _, rfl⟩

/-- What signs a record: its bytes, from the state it is signed in. -/
theorem signRecord_eq (kind cause seq incident : Nat) (i : SegInfo) (body : List Byte) (s : State) :
    ∃ prev log, (signRecord kind cause seq incident i body s).2 =
        { s with free := s.free + 1, recd := { s.recd with prevHash := prev }, log := log } ∧
      ∀ e, counterKey e ≠ counterKey .signatures →
        counterOf (signRecord kind cause seq incident i body s).2 e = counterOf s e := by
  refine ⟨_, _, rfl, fun e he => ?_⟩
  exact (counterOf_count_ne _ _ _ _ he).trans rfl

/-- A closing record changes the closing part of its block, and the index. -/
theorem placeClosing_spec (m b seq : Nat) (i : SegInfo) (s : State) :
    (∃ c, blockOf (placeClosing m b seq i s) b = { blockOf s b with closing := c }) ∧
      (placeClosing m b seq i s).recd.part = s.recd.part ∧
      (placeClosing m b seq i s).recd.factory = s.recd.factory ∧ (placeClosing m b seq i s).recd.grown = s.recd.grown ∧
      ∀ e, counterKey e ≠ counterKey .signatures → counterOf (placeClosing m b seq i s) e = counterOf s e := by
  unfold placeClosing
  split
  · exact ⟨⟨_, rfl⟩, rfl, rfl, rfl, fun _ _ => rfl⟩
  · next v _ =>
    obtain ⟨prev, log, heq, hcount⟩ := signRecord_eq 3 v.cause (seq + 1) m i (closingBody s v seq) s
    dsimp only
    generalize signRecord 3 v.cause (seq + 1) m i (closingBody s v seq) s = r at heq hcount ⊢
    generalize r.1.take 128 ++ closingBody s v seq ++ r.1.drop 128 = c
    refine ⟨⟨c, ?_⟩, ?_, ?_, ?_, fun e he => (counterOf_log rfl).trans (hcount e he)⟩
    · have hself : blockOf (modBlock b (fun w => { w with closing := c }) r.2) b = { blockOf r.2 b with closing := c } :=
        blockOf_modBlock_self ..
      have hsame : blockOf r.2 b = blockOf s b := blockOf_congr (by rw [heq]) b
      rw [← hsame, ← hself]
      rfl
    · exact (congrArg (·.recd.part) heq).trans rfl
    · exact (congrArg (·.recd.factory) heq).trans rfl
    · exact (congrArg (·.recd.grown) heq).trans rfl

/-- The header that the open segment's record gets. -/
def segHeader (s : State) (g : OpenSeg) (body : List Byte) : List Byte :=
  recordHeader g.kind (if g.kind = 2 then causeOf s (currentIncident s) else 0) g.seq
    (if g.kind = 2 then currentIncident s else 0) g.info body.length (sha256 body) (prevField s) s.legend.version

/-- Its header and signature. -/
def segSign (s : State) (g : OpenSeg) (body : List Byte) : List Byte :=
  segHeader s g body ++ (signDigest (sha256 (segHeader s g body)) s).1

/-- What signing the open segment's record gives. -/
def segRecord (g : OpenSeg) (s : State) : List Byte × State :=
  signRecord g.kind (if g.kind = 2 then causeOf s (currentIncident s) else 0) g.seq
    (if g.kind = 2 then currentIncident s else 0) g.info (blockOf s g.block).body s

theorem segRecord_sign (g : OpenSeg) (s : State) : (segRecord g s).1 = segSign s g (blockOf s g.block).body := rfl

/-- The open segment signed: its block carries header and signature. -/
def segSigned (g : OpenSeg) (s : State) : State :=
  modBlock g.block (fun v => { v with
    sign := (segRecord g s).1
    incident := if decide (g.kind = 2) || s.recd.phase1 then currentIncident s else 0
    st := if decide (g.kind = 2) || s.recd.phase1 then 2 else 1 }) (segRecord g s).2

/-- The segment signed, with the closing record that `u` adds. -/
theorem closeSeg_eq (h : s.recd.seg = some g) : ∃ u f, (u = segSigned g s ∨
      u = placeClosing (currentIncident s) g.block g.seq g.info (segSigned g s)) ∧
    (∀ r : Recorder, (f r).seg = none ∧ (f r).blocks = r.blocks ∧ (f r).factory = r.factory ∧ (f r).grown = r.grown) ∧
    closeSeg s = count .segmentsWritten 1 (modRec f (addSignPage g.block g.seq (some g.sk) u)) := by
  unfold closeSeg
  rw [h]
  dsimp only
  refine ⟨_, _, ?_, fun r => ?_, rfl⟩
  · generalize hw : modBlock g.block _ _ = w
    obtain rfl : segSigned g s = w := hw
    exact (ite_eq_or_eq _ _ _).symm
  · exact ⟨rfl, rfl, rfl, rfl⟩

/-- What the signed segment's state is in the parts that its block, its pages and the counters are read from. -/
theorem segSigned_spec (g : OpenSeg) (s : State) :
    (∃ st inc, blockOf (segSigned g s) g.block =
        { blockOf s g.block with sign := segSign s g (blockOf s g.block).body, st := st, incident := inc }) ∧
      (segSigned g s).recd.part = s.recd.part ∧ (segSigned g s).recd.factory = s.recd.factory ∧
      (segSigned g s).recd.grown = s.recd.grown ∧
      ∀ e, counterKey e ≠ counterKey .signatures → counterOf (segSigned g s) e = counterOf s e := by
  obtain ⟨prev, log, heq, hcount⟩ := signRecord_eq g.kind (if g.kind = 2 then causeOf s (currentIncident s) else 0) g.seq
    (if g.kind = 2 then currentIncident s else 0) g.info (blockOf s g.block).body s
  rw [← segRecord] at heq hcount
  refine ⟨⟨if decide (g.kind = 2) || s.recd.phase1 then 2 else 1,
    if decide (g.kind = 2) || s.recd.phase1 then currentIncident s else 0, ?_⟩, ?_, ?_, ?_,
    fun e he => (counterOf_log rfl).trans (hcount e he)⟩
  · rw [segSigned, blockOf_modBlock_self, blockOf_congr (t := (segRecord g s).2) (s := s) (by rw [heq]), segRecord_sign]
  · exact (congrArg (·.recd.part) heq).trans rfl
  · exact (congrArg (·.recd.factory) heq).trans rfl
  · exact (congrArg (·.recd.grown) heq).trans rfl

theorem signaturePage_congr (h : t.recd.part = s.recd.part) (v : Block) : signaturePage t v = signaturePage s v := by
  rw [signaturePage, signaturePage, pageBytes, pageBytes, h]

/-- A segment's close: its block carries header, signature and signature page, and the segment is counted. -/
theorem closeSeg_spec (h : s.recd.seg = some g) :
    (blockOf (closeSeg s) g.block).sign = segSign s g (blockOf s g.block).body ∧
      (blockOf (closeSeg s) g.block).body = (blockOf s g.block).body ∧
      (blockOf (closeSeg s) g.block).pages = (blockOf s g.block).pages ++
        [sealedPage g.sk g.seq (2 + (blockOf s g.block).pages.length) (signaturePage s (blockOf (closeSeg s) g.block))] ∧
      (closeSeg s).recd.seg = none ∧ (closeSeg s).recd.factory = s.recd.factory ∧
      (closeSeg s).recd.grown = s.recd.grown ∧
      counterOf (closeSeg s) .segmentsWritten = counterNext .segmentsWritten (counterOf s .segmentsWritten) 1 ∧
      ∀ e, counterKey e ≠ counterKey .signatures → counterKey e ≠ counterKey .segmentsWritten →
        counterOf (closeSeg s) e = counterOf s e := by
  obtain ⟨u, f, hu, hf, heq⟩ := closeSeg_eq h
  obtain ⟨⟨st, inc, hblock⟩, hpart, hfactory, hgrown, hcount⟩ := segSigned_spec g s
  have huspec : (∃ c, blockOf u g.block = { blockOf (segSigned g s) g.block with closing := c }) ∧
      u.recd.part = s.recd.part ∧ u.recd.factory = s.recd.factory ∧ u.recd.grown = s.recd.grown ∧
      ∀ e, counterKey e ≠ counterKey .signatures → counterOf u e = counterOf s e := by
    obtain rfl | rfl := hu
    · exact ⟨⟨_, rfl⟩, hpart, hfactory, hgrown, hcount⟩
    · obtain ⟨hc, hp, hfa, hg, hco⟩ := placeClosing_spec (currentIncident s) g.block g.seq g.info (segSigned g s)
      exact ⟨hc, hp.trans hpart, hfa.trans hfactory, hg.trans hgrown, fun e he => (hco e he).trans (hcount e he)⟩
  clear hu hcount hgrown hfactory hpart
  obtain ⟨⟨c, hclosing⟩, hpart, hfactory, hgrown, hcount⟩ := huspec
  rw [hblock] at hclosing
  have hend : blockOf (closeSeg s) g.block = { blockOf u g.block with pages := (blockOf u g.block).pages ++
      [sealedPage g.sk g.seq (2 + (blockOf u g.block).pages.length) (signaturePage u (blockOf u g.block))] } := by
    rw [heq]
    exact (blockOf_congr (hf _).2.1 _).trans (blockOf_modBlock_self ..)
  have hsame : signaturePage s (blockOf (closeSeg s) g.block) = signaturePage u (blockOf u g.block) := by
    rw [hend, signaturePage_congr hpart]
    rfl
  refine ⟨?_, ?_, ?_, ?_, ?_, ?_, ?_, fun e he he' => ?_⟩
  · rw [hend, hclosing]
  · rw [hend, hclosing]
  · rw [hsame, hend, hclosing]
  · rw [heq]
    exact (hf _).1
  · rw [heq]
    exact (hf _).2.2.1.trans hfactory
  · rw [heq]
    exact (hf _).2.2.2.trans hgrown
  · rw [heq, counterOf_count]
    exact congrArg (counterNext _ · 1) (hcount _ (by decide))
  · rw [heq, counterOf_count_ne _ _ _ _ he']
    exact hcount e he

end Sys2Proof.Laws
end

section
/-! The ends of NAND operations, the blocks that go into staging, and the close of a segment (R263, R264, R392 to R398,
R406, R412, R452). -/

namespace Sys2Proof.Proofs

open Sys2Proof Sys2Proof.Machine Sys2Proof.Laws

variable {s t u : State} {dt b n : Nat} {ok : Bool} {l : List Nat} {g : OpenSeg} {p : PageResult} {x : Scrub} {j : NandJob}

/-! ## A page of the open segment (R392, R394) -/

/-- The state without a job. -/
def jobDone (s : State) : State := modRec (fun r => { r with job := none }) s

theorem exec_nandProgramDone_seg (hj : s.recd.job = some j) (h : j = .header ∨ j = .program ∨ j = .sign) (dt : Nat)
    (ok : Bool) (l : List Nat) :
    exec (.nandProgramDone dt ok l) s = .next (nandStart (endSegJob j { ok := ok, errors := l } (advance dt s))) := by
  have hexec : exec (.nandProgramDone dt ok l) s = execNandProgramDone dt ok l s := rfl
  rw [hexec, execNandProgramDone]
  simp only [advance_recd, hj]
  obtain rfl | rfl | rfl := h <;> rfl

theorem headerDone_ok (h : s.recd.seg = some g) (hp : programmed p = true) : headerDone p s =
    readBack g.block p (programHeader g.block g.kind g.header (if g.kind = 2 then currentIncident (jobDone s) else 0)
      (modRec (fun r => { r with seg := some { g with header := [] } }) (jobDone s))) := by
  rw [headerDone, h]
  exact if_pos hp

theorem headerDone_failed (h : s.recd.seg = some g) (hp : programmed p = false) : headerDone p s =
    headerFailed (retireBlock g.block (readBack g.block p (jobDone s))) := by
  rw [headerDone, h]
  exact if_neg (by simp [hp])

theorem programDone_ok (h : s.recd.seg = some g) (hp : programmed p = true) :
    programDone p s = readBack g.block p (pageOk (jobDone s)) := by
  rw [programDone, h]
  exact if_pos hp

theorem programDone_failed (h : s.recd.seg = some g) (hp : programmed p = false) : programDone p s =
    programFailed (retireBlock g.block (readBack g.block p (jobDone s))) := by
  rw [programDone, h]
  exact if_neg (by simp [hp])

theorem signDone_ok (h : s.recd.seg = some g) (hp : programmed p = true) :
    signDone p s = readBack g.block p (closeSeg (jobDone s)) := by
  rw [signDone, h]
  exact if_pos hp

/-- The state after a failed read-back of the signature page: the block is retired. -/
def signRetired (p : PageResult) (g : OpenSeg) (s : State) : State :=
  retireBlock g.block (readBack g.block p (jobDone s))

theorem signDone_failed (h : s.recd.seg = some g) (hp : programmed p = false) : signDone p s =
    if g.again then modBlock g.block (fun v => { v with sign := [], closing := [] }) (closeSeg (signRetired p g s))
    else spoilPage g.block (modRec (fun r => { r with seg := some { g with again := true } }) (signRetired p g s)) := by
  rw [signDone, h]
  exact if_neg (by simp [hp])

/-- The page that the open segment programs next. -/
def segPage (s : State) (g : OpenSeg) : List Byte :=
  ((g.taken.flatMap (·.bytes)).drop g.skip).take (min (pageBytes s) (segBuffered g))

/-- The open segment after a page. -/
def segAfterPage (s : State) (g : OpenSeg) : OpenSeg :=
  { g with
    taken := (dropBodies g.taken (g.skip + min (pageBytes s) (segBuffered g))).1
    skip := (dropBodies g.taken (g.skip + min (pageBytes s) (segBuffered g))).2
    done := g.done + min (pageBytes s) (segBuffered g) }

theorem pageOk_eq (h : s.recd.seg = some g) : pageOk s = modBlock g.block (fun v => { v with
      body := v.body ++ segPage s g, reads := 0
      pages := v.pages ++ [sealedPage g.sk g.seq (2 + v.pages.length) (segPage s g)] })
    (modRec (fun r => { r with seg := some (segAfterPage s g) }) s) := by
  unfold pageOk
  rw [h]
  rfl

/-- The block of a page that verifies: the page joins the body, sealed under the segment's key (R393). -/
theorem blockOf_pageOk (h : s.recd.seg = some g) : blockOf (pageOk s) g.block = { blockOf s g.block with
    body := (blockOf s g.block).body ++ segPage s g, reads := 0
    pages := (blockOf s g.block).pages ++
      [sealedPage g.sk g.seq (2 + (blockOf s g.block).pages.length) (segPage s g)] } := by
  rw [pageOk_eq h, blockOf_modBlock_self]
  rfl

/-! ### What each end counts, and which block it retires -/

theorem counterOf_jobDone (c : Counter) (s : State) : counterOf (jobDone s) c = counterOf s c := rfl

theorem letGo_log (b : Nat) (s : State) : (letGo b s).log = s.log := by
  obtain ⟨h, -⟩ | ⟨x, -, -, h⟩ := letGo_cases b s
  · rw [h, gone, modBlock_log, modRec_log]
  · rw [h, dropCopy, modBlock_log, modRec_log, gone, modBlock_log, modRec_log]

theorem headerFailed_log (h : s.recd.seg = some g) : (headerFailed s).log = s.log := by
  obtain ⟨closing, staging, he⟩ := headerFailed_eq h
  rw [he, letGo_log]
  rfl

theorem programFailed_log (h : s.recd.seg = some g) : (programFailed s).log = s.log := by
  obtain ⟨closing, staging, he⟩ := programFailed_eq h
  rw [he]
  rfl

/-- A retired block read back before: what its read counts stands. -/
theorem counterOf_retired (hok : p.ok = true) (b : Nat) (s : State) :
    counterOf (retireBlock b (readBack b p (jobDone s))) .correctedBits =
      counterNext .correctedBits (counterOf s .correctedBits) ((p.errors.filter (fun n => decide (n ≤ 72))).sum) := by
  rw [counterOf_retireBlock (by decide) (by decide), readBack_ok hok, counterOf_noteRead, counterOf_jobDone]

theorem seg_retired (h : s.recd.seg = some g) (b : Nat) (p : PageResult) :
    (retireBlock b (readBack b p (jobDone s))).recd.seg = some g := by
  rw [retireBlock_recd, readBack_eq]
  exact h

theorem counterOf_endSegJob (h : s.recd.seg = some g) (hj : j = .header ∨ j = .program ∨ j = .sign) (hok : p.ok = true) :
    counterOf (endSegJob j p s) .correctedBits =
      counterNext .correctedBits (counterOf s .correctedBits) ((p.errors.filter (fun n => decide (n ≤ 72))).sum) := by
  have hseg := seg_retired h g.block p
  have hretired := counterOf_retired hok g.block s
  cases hp : programmed p with
  | true =>
    obtain rfl | rfl | rfl := hj
    · rw [endSegJob, headerDone_ok h hp, readBack_ok hok, counterOf_noteRead]
      rfl
    · rw [endSegJob, programDone_ok h hp, readBack_ok hok, counterOf_noteRead, pageOk_eq (s := jobDone s) h]
      rfl
    · obtain ⟨-, -, -, -, -, -, -, hcount⟩ := closeSeg_spec (s := jobDone s) h
      rw [endSegJob, signDone_ok h hp, readBack_ok hok, counterOf_noteRead, hcount _ (by decide) (by decide)]
      rfl
  | false =>
    obtain rfl | rfl | rfl := hj
    · rw [endSegJob, headerDone_failed h hp, counterOf_log (headerFailed_log hseg), hretired]
    · rw [endSegJob, programDone_failed h hp, counterOf_log (programFailed_log hseg), hretired]
    · rw [endSegJob, signDone_failed h hp]
      split
      · obtain ⟨-, -, -, -, -, -, -, hcount⟩ := closeSeg_spec (s := signRetired p g s) hseg
        exact (hcount .correctedBits (by decide) (by decide)).trans hretired
      · exact hretired

theorem isBad_of (hf : t.recd.factory = s.recd.factory) (hg : t.recd.grown = s.recd.grown) (n : Nat) :
    isBad t n = isBad s n := by
  rw [isBad, isBad, hf, hg]

theorem isBad_nandStart (s : State) (n : Nat) : isBad (nandStart s) n = isBad s n :=
  isBad_congr (answerView_nandStart 0 s) n

/-- A page that fails retires its block (R394). -/
theorem isBad_endSegJob (h : s.recd.seg = some g) (hj : j = .header ∨ j = .program ∨ j = .sign)
    (hp : programmed p = false) : isBad (endSegJob j p s) g.block = true := by
  have hseg := seg_retired h g.block p
  have hbad := isBad_retireBlock g.block (readBack g.block p (jobDone s))
  obtain rfl | rfl | rfl := hj
  · obtain ⟨closing, staging, he⟩ := headerFailed_eq hseg
    rw [endSegJob, headerDone_failed h hp, he, letGo_isBad]
    exact hbad
  · obtain ⟨closing, staging, he⟩ := programFailed_eq hseg
    rw [endSegJob, programDone_failed h hp, he]
    exact hbad
  · rw [endSegJob, signDone_failed h hp]
    split
    · obtain ⟨-, -, -, -, hf, hg, -⟩ := closeSeg_spec (s := signRetired p g s) hseg
      exact (isBad_of hf hg g.block).trans hbad
    · exact hbad

/-! ### The clause -/

theorem pageBytes_congr (h : t.recd.part = s.recd.part) : pageBytes t = pageBytes s := by
  rw [pageBytes, pageBytes, h]

/-- The next job leaves what a block holds beside its header, its use and its incident. -/
theorem body_nandStart (s : State) (n : Nat) : (blockOf (nandStart s) n).body = (blockOf s n).body :=
  (congrArg Block.body (contents_nandStart s n) :)
theorem pages_nandStart (s : State) (n : Nat) : (blockOf (nandStart s) n).pages = (blockOf s n).pages :=
  (congrArg Block.pages (contents_nandStart s n) :)
theorem sign_nandStart (s : State) (n : Nat) : (blockOf (nandStart s) n).sign = (blockOf s n).sign :=
  (congrArg Block.sign (contents_nandStart s n) :)
theorem closing_nandStart (s : State) (n : Nat) : (blockOf (nandStart s) n).closing = (blockOf s n).closing :=
  (congrArg Block.closing (contents_nandStart s n) :)

theorem header_readBack (b : Nat) (p : PageResult) (s : State) (n : Nat) :
    (blockOf (readBack b p s) n).header = (blockOf s n).header :=
  (congrArg Block.header (still_readBack b p s n) :)
theorem body_readBack (b : Nat) (p : PageResult) (s : State) (n : Nat) :
    (blockOf (readBack b p s) n).body = (blockOf s n).body :=
  (congrArg Block.body (still_readBack b p s n) :)
theorem pages_readBack (b : Nat) (p : PageResult) (s : State) (n : Nat) :
    (blockOf (readBack b p s) n).pages = (blockOf s n).pages :=
  (congrArg Block.pages (still_readBack b p s n) :)
theorem sign_readBack (b : Nat) (p : PageResult) (s : State) (n : Nat) :
    (blockOf (readBack b p s) n).sign = (blockOf s n).sign :=
  (congrArg Block.sign (still_readBack b p s n) :)
theorem closing_readBack (b : Nat) (p : PageResult) (s : State) (n : Nat) :
    (blockOf (readBack b p s) n).closing = (blockOf s n).closing :=
  (congrArg Block.closing (still_readBack b p s n) :)

/-- A storage header that verifies puts its block into service. -/
theorem header_headerDone (h : s.recd.seg = some g) (hp : programmed p = true) :
    (blockOf (nandStart (headerDone p s)) g.block).header = g.header := by
  have hseg : (headerDone p s).recd.seg = some { g with header := [] } := by
    rw [headerDone_ok h hp, readBack_eq]
    rfl
  rw [header_nandStart (fun hn => absurd (hn.symm.trans hseg) (by simp)), headerDone_ok h hp, header_readBack, programHeader,
    blockOf_modBlock_self]

theorem blockOf_advance (dt : Nat) (s : State) (n : Nat) : blockOf (advance dt s) n = blockOf s n :=
  blockOf_congr (by rw [advance_recd]) n

/-- A data page that verifies joins its block's body and pages. -/
theorem page_programDone (h : s.recd.seg = some g) (hp : programmed p = true) :
    (blockOf (nandStart (programDone p s)) g.block).body = (blockOf s g.block).body ++ segPage s g ∧
      (blockOf (nandStart (programDone p s)) g.block).pages = (blockOf s g.block).pages ++
        [sealedPage g.sk g.seq (2 + (blockOf s g.block).pages.length) (segPage s g)] := by
  rw [body_nandStart, pages_nandStart, programDone_ok h hp, body_readBack, pages_readBack, blockOf_pageOk (s := jobDone s) h]
  exact ⟨rfl, rfl⟩

/-- A signature page that verifies leaves the record's header and signature. -/
theorem sign_signDone (h : s.recd.seg = some g) (hp : programmed p = true) :
    (blockOf (nandStart (signDone p s)) g.block).sign = segSign s g (blockOf s g.block).body ∧
      (blockOf (nandStart (signDone p s)) g.block).pages = (blockOf s g.block).pages ++
        [sealedPage g.sk g.seq (2 + (blockOf s g.block).pages.length)
          (signaturePage s (blockOf (nandStart (signDone p s)) g.block))] ∧
      counterOf (nandStart (signDone p s)) .segmentsWritten =
        counterNext .segmentsWritten (counterOf s .segmentsWritten) 1 := by
  obtain ⟨hsign, -, hpages, -, -, -, hcount, -⟩ := closeSeg_spec (s := jobDone s) h
  have hpage : signaturePage s (blockOf (nandStart (signDone p s)) g.block) =
      signaturePage (jobDone s) (blockOf (closeSeg (jobDone s)) g.block) := by
    rw [signaturePage, signaturePage, sign_nandStart, closing_nandStart, signDone_ok h hp, sign_readBack, closing_readBack]
    rfl
  refine ⟨?_, ?_, ?_⟩
  · rw [sign_nandStart, signDone_ok h hp, sign_readBack, hsign]
    rfl
  · rw [hpage, pages_nandStart, signDone_ok h hp, pages_readBack, hpages]
    rfl
  · rw [counterOf_nandStart ⟨by decide, ne_halts_of_lt (by decide)⟩, signDone_ok h hp,
      counterOf_readBack_ne (by decide) (by decide), hcount]
    rfl

/-! ## An erase (R394) -/

variable {ended : EraseResult}

theorem exec_nandEraseDone (hj : s.recd.job = some (.erase b)) (dt : Nat) (ended : EraseResult) :
    exec (.nandEraseDone dt ended) s = .next (nandStart (blockErased b ended (advance dt s))) := by
  have hexec : exec (.nandEraseDone dt ended) s = execNandEraseDone dt ended s := rfl
  rw [hexec, execNandEraseDone]
  simp only [advance_recd, hj]

/-- The state with a block's erase counted. -/
def eraseCounted (s : State) : State := modRec (fun r => { r with erasesNow := r.erasesNow + 1 }) (jobDone s)

theorem blockErased_failed (h : ended.ok = false) (b : Nat) (s : State) : blockErased b ended s =
    retireBlock b (modBlock b (fun v => { v with st := 3, header := [] }) (jobDone s)) := by
  simp [blockErased, h, jobDone]

theorem blockErased_ok (h : ended.ok = true) (b : Nat) (s : State) : blockErased b ended s =
    if programmed ended.page0 then
      readBack b ended.page0 (setBlock b
        { zero := blockHeader ((blockOf s b).erases + 1), headed := true, erases := (blockOf s b).erases + 1 } (eraseCounted s))
    else retireBlock b (readBack b ended.page0 (setBlock b { st := 3, erases := (blockOf s b).erases + 1 } (eraseCounted s))) := by
  simp [blockErased, h, eraseCounted, jobDone]

/-- An erase whose page 0 verifies leaves an empty block with its header of Table 16.2. -/
theorem blockErased_block (h : ended.ok = true) (hp : programmed ended.page0 = true) (b : Nat) (s : State) :
    still (blockErased b ended s) b =
      { zero := blockHeader ((blockOf s b).erases + 1), headed := true, erases := (blockOf s b).erases + 1 } := by
  rw [blockErased_ok h, if_pos hp, still_readBack, still, blockOf_setBlock_self]

theorem blockErased_erasesNow (h : ended.ok = true) (b : Nat) (s : State) :
    (blockErased b ended s).recd.erasesNow = s.recd.erasesNow + 1 := by
  rw [blockErased_ok h]
  split
  · rw [readBack_eq]
    rfl
  · rw [retireBlock_recd, readBack_eq]
    rfl

theorem isBad_blockErased (h : ended.ok = false ∨ programmed ended.page0 = false) (b : Nat) (s : State) :
    isBad (blockErased b ended s) b = true := by
  cases hok : ended.ok with
  | false =>
    rw [blockErased_failed hok]
    exact isBad_retireBlock ..
  | true =>
    have hp : programmed ended.page0 = false := h.resolve_left (by simp [hok])
    rw [blockErased_ok hok, if_neg (by simp [hp])]
    exact isBad_retireBlock ..

/-- NAND_ERASE_DONE: its clause of the statement. -/
theorem nandEraseDone_ends (h : ended.ok = true) (hp : programmed ended.page0 = true) (b : Nat) (s : State) :
    (blockOf (nandStart (blockErased b ended s)) b).headed = true ∧
      (blockOf (nandStart (blockErased b ended s)) b).erases = (blockOf s b).erases + 1 ∧
      (blockOf (nandStart (blockErased b ended s)) b).zero = blockHeader ((blockOf s b).erases + 1) ∧
      (blockOf (nandStart (blockErased b ended s)) b).header = [] ∧
      (blockOf (nandStart (blockErased b ended s)) b).body = [] ∧
      (blockOf (nandStart (blockErased b ended s)) b).sign = [] := by
  have hblock := blockErased_block h hp b s
  have hcontents := contents_nandStart (blockErased b ended s) b
  refine ⟨?_, ?_, ?_, ?_, ?_, ?_⟩
  · exact (congrArg Block.headed hcontents :).trans (congrArg Block.headed hblock :)
  · exact (congrArg Block.erases hcontents :).trans (congrArg Block.erases hblock :)
  · exact (congrArg Block.zero hcontents :).trans (congrArg Block.zero hblock :)
  · exact header_nandStart_nil (congrArg Block.header hblock :)
  · exact (congrArg Block.body hcontents :).trans (congrArg Block.body hblock :)
  · exact (congrArg Block.sign hcontents :).trans (congrArg Block.sign hblock :)

theorem erasesNow_nandStart (s : State) : (nandStart s).recd.erasesNow = s.recd.erasesNow :=
  (congrArg (·.recd.erasesNow) (restView_nandStart s) :)

/-! ## A read of a recorded page (R406, R412) -/

theorem exec_nandReadDone_read {page : Nat} (hj : s.recd.job = some (.read b page)) (dt : Nat) (l : List Nat) :
    exec (.nandReadDone dt l) s = .next (nandStart (pageRead b page l (advance dt s))) := by
  have hexec : exec (.nandReadDone dt l) s = execNandReadDone dt l s := rfl
  rw [hexec, execNandReadDone]
  simp only [advance_recd, hj]

/-- The state after a page of block `b` has been read, scrub judged, and the job ended. -/
def readNoted (b : Nat) (l : List Nat) (s : State) : State := noteRead b l (jobDone s)

theorem readNoted_eq (b : Nat) (l : List Nat) (s : State) : readNoted b l s = { s with
    log := (readNoted b l s).log
    recd := { s.recd with
      job := none, blocks := (readNoted b l s).recd.blocks, scrubs := (readNoted b l s).recd.scrubs } } := by
  rw [readNoted, noteRead_eq]
  rfl

theorem pageRead_eq (b page : Nat) (l : List Nat) (s : State) : pageRead b page l s =
    if inDepot s = false then stopReadout (readNoted b l s)
    else if readDue s = some (.read b page) then readoutPage b (uncorrectable l) (readNoted b l s)
    else readNoted b l s := by
  have hdepot : inDepot (readNoted b l s) = inDepot s := by rw [readNoted_eq]; rfl
  rw [← hdepot]
  unfold pageRead readNoted jobDone
  dsimp only
  cases inDepot (noteRead b l (modRec (fun r => { r with job := none }) s)) <;> rfl

theorem due3_yard (q : Pkt) (s : State) : yardView (due3 q s) = yardView s ∧ (due3 q s).log = s.log := by
  unfold due3
  split <;> exact ⟨rfl, rfl⟩

theorem readoutGo_cases (s : State) :
    (yardView (readoutGo s) = yardView s ∧ (readoutGo s).log = s.log) ∨ readoutGo s = nandStart s := by
  unfold readoutGo
  split
  · exact .inl ⟨rfl, rfl⟩
  · split
    · exact .inl ⟨rfl, rfl⟩
    · split
      · obtain ⟨hy, hl⟩ := due3_yard (s := modRec _ s) _
        exact .inl ⟨hy.trans rfl, hl.trans rfl⟩
      · split
        · obtain ⟨hy, hl⟩ := due3_yard (s := modRec _ s) _
          exact .inl ⟨hy.trans rfl, hl.trans rfl⟩
        · exact .inr rfl

/-- What a readout makes of a page, but for the next job. -/
theorem readoutPage_cases (b : Nat) (bad : Bool) (s : State) : ∃ v, yardView v = yardView s ∧ v.log = s.log ∧
    (readoutPage b bad s = v ∨ readoutPage b bad s = nandStart v) := by
  unfold readoutPage
  split
  · exact ⟨s, rfl, rfl, .inl rfl⟩
  · split
    · obtain ⟨hy, hl⟩ := due3_yard (s := modRec _ s) _
      exact ⟨_, hy.trans rfl, hl.trans rfl, .inl rfl⟩
    · dsimp only
      generalize hu : modRec _ { s with free := s.free + 1 } = u
      have hyu : yardView u = yardView s := by rw [← hu]; rfl
      have hlu : u.log = s.log := by rw [← hu]; rfl
      obtain ⟨hy, hl⟩ | hn := readoutGo_cases u
      · exact ⟨_, hy.trans hyu, hl.trans hlu, .inl rfl⟩
      · exact ⟨u, hyu, hlu, .inr hn⟩

theorem pageRead_cases (b page : Nat) (l : List Nat) (s : State) : ∃ v, yardView v = yardView (readNoted b l s) ∧
    v.log = (readNoted b l s).log ∧ (pageRead b page l s = v ∨ pageRead b page l s = nandStart v) := by
  rw [pageRead_eq]
  split
  · exact ⟨stopReadout (readNoted b l s), rfl, rfl, .inl rfl⟩
  · split
    · exact readoutPage_cases ..
    · exact ⟨_, rfl, rfl, .inl rfl⟩

theorem counterOf_readDone (b page : Nat) (l : List Nat) (s : State) :
    counterOf (nandStart (pageRead b page l s)) .correctedBits =
      counterNext .correctedBits (counterOf s .correctedBits) ((l.filter (fun n => decide (n ≤ 72))).sum) := by
  have hc : OtherCounter .correctedBits := ⟨by decide, ne_halts_of_lt (by decide)⟩
  have hnoted := counterOf_noteRead b l (jobDone s)
  obtain ⟨v, -, hlog, h | h⟩ := pageRead_cases b page l s
  · rw [counterOf_nandStart hc, h, counterOf_log hlog, readNoted, hnoted, counterOf_jobDone]
  · rw [counterOf_nandStart hc, h, counterOf_nandStart hc, counterOf_log hlog, readNoted, hnoted, counterOf_jobDone]

/-- A page that needs it has its block scrubbed (R406). -/
theorem scrubWanted_readDone (page : Nat) (h : (∃ k ∈ l, 48 < k) ∨ 50000 ≤ (blockOf s b).reads + 1)
    (hx : ∀ x, s.recd.scrubbing = some x → x.copy ≠ b) :
    ScrubWanted s.recd.ring b (nandStart (pageRead b page l s)) := by
  have hnoted : ScrubWanted s.recd.ring b (readNoted b l s) := by
    have heq := readNoted_eq b l s
    refine ⟨.inl (mem_noteRead_scrubs (s := jobDone s) h), fun y hy => ?_, fun _ x hsome => ?_⟩
    · rw [heq] at hy
      exact hy
    · rw [heq] at hsome
      exact hx x hsome
  obtain ⟨v, hy, -, h | h⟩ := pageRead_cases b page l s
  · rw [h]
    exact scrubWanted_nandStart ((stepsKeep_scrubWanted _ b).view hy hnoted)
  · rw [h]
    exact scrubWanted_nandStart (scrubWanted_nandStart ((stepsKeep_scrubWanted _ b).view hy hnoted))

/-! ### The readout's packet -/

theorem readout_nandStart (s : State) : (nandStart s).recd.readout = s.recd.readout :=
  (congrArg (·.recd.readout) (restView_nandStart s) :)

theorem link_nandStart (s : State) : (nandStart s).link = s.link := (congrArg (·.link) (restView_nandStart s) :)

theorem readout_readDone_left (h : inDepot s = false) (page : Nat) :
    (nandStart (pageRead b page l s)).recd.readout = none := by
  rw [readout_nandStart, pageRead_eq, if_pos h]
  rfl

/-- A record is found by the entries that hold one: in the first place its own, then a closing record. -/
def holdsRecord (seq : Nat) (e : Nat × Block) : Bool :=
  decide (e.2.st = 1 ∨ e.2.st = 2) && (!e.2.sign.isEmpty && decide (leAt e.2.sign 8 8 = seq))
def holdsClosing (seq : Nat) (e : Nat × Block) : Bool :=
  decide (e.2.st = 1 ∨ e.2.st = 2) && (!e.2.closing.isEmpty && decide (leAt e.2.closing 8 8 = seq))

/-- Whether the record found is a closing record depends on what is held, not on where. -/
theorem findRecord_closing (s : State) (seq : Nat) : (findRecord s seq).map (·.2) =
    if s.recd.blocks.any (holdsRecord seq) then some false
    else if s.recd.blocks.any (holdsClosing seq) then some true else none := by
  have hfind (q : Nat × Block → Bool) (l : Table Block) :
      (l.find? q).isSome = l.any q := by
    rw [Bool.eq_iff_iff, List.find?_isSome, List.any_eq_true]
  have hrecord := hfind (holdsRecord seq) s.recd.blocks
  have hclosing := hfind (holdsClosing seq) s.recd.blocks
  have hunfold : findRecord s seq = match s.recd.blocks.find? (holdsRecord seq) with
      | some e => some (e.1, false)
      | none => match s.recd.blocks.find? (holdsClosing seq) with
        | some e => some (e.1, true)
        | none => none := by
    unfold findRecord
    dsimp only
    rw [List.find?_filter, List.find?_filter]
    simp only [Bool.decide_and, Bool.decide_eq_true]
    rfl
  rw [hunfold, ← hrecord, ← hclosing]
  cases s.recd.blocks.find? (holdsRecord seq) with
  | some e => rfl
  | none => cases s.recd.blocks.find? (holdsClosing seq) <;> rfl

/-- A table in which one block's entry changed in nothing that `q` reads has as many entries for `q` as before. -/
theorem any_put {q : Nat × Block → Bool} {w : Block} {b : Nat} (hd : q (b, {}) = false) (l : Table Block)
    (hw : q (b, w) = q (b, Table.getD {} l b)) : (Table.put l b w).any q = l.any q := by
  have hmem (l : Table Block) (h : q (b, Table.getD {} l b) = true) : l.any q = true := by
    induction l with
    | nil => exact absurd (h.symm.trans hd) (by simp)
    | cons e l ih =>
      obtain ⟨k, v⟩ := e
      rw [Table.getD] at h
      rw [List.any_cons, Bool.or_eq_true]
      split at h
      · next hk => exact .inl (hk ▸ h)
      · exact .inr (ih h)
  induction l with
  | nil => simpa [Table.put, Table.getD, hd] using hw
  | cons e l ih =>
    obtain ⟨k, v⟩ := e
    rw [Table.put]
    split
    · rw [List.any_cons, hw, Bool.or_eq_right_iff_imp]
      exact hmem _
    · split
      · next hk =>
        subst hk
        rw [List.any_cons, List.any_cons, hw, Table.getD, if_pos rfl]
      · next hk =>
        rw [Table.getD, if_neg (Ne.symm hk)] at hw
        rw [List.any_cons, List.any_cons, ih hw]

/-- A read noted changes no record, and so none of what a readout finds. -/
theorem findRecord_readNoted (b : Nat) (l : List Nat) (s : State) (seq : Nat) :
    (findRecord (readNoted b l s) seq).map (·.2) = (findRecord s seq).map (·.2) := by
  have hblocks : (readNoted b l s).recd.blocks =
      Table.put s.recd.blocks b { blockOf s b with reads := (blockOf s b).reads + 1 } := by
    rw [readNoted, noteRead_eq]
    rfl
  have hrecord : holdsRecord seq (b, { blockOf s b with reads := (blockOf s b).reads + 1 }) =
      holdsRecord seq (b, blockOf s b) := rfl
  have hclosing : holdsClosing seq (b, { blockOf s b with reads := (blockOf s b).reads + 1 }) =
      holdsClosing seq (b, blockOf s b) := rfl
  rw [findRecord_closing, findRecord_closing, hblocks, any_put rfl _ hrecord, any_put rfl _ hclosing]

/-- Data that wait for the link go on as one packet. -/
theorem readoutGo_data {r : Readout} (hr : s.recd.readout = some r) (hq : s.link.q3.any isReadData = false)
    (hd : r.data ≠ []) (hlink : linkTakes s = true) (hsession : s.sec.session ≠ none) :
    (readoutGo s).link.q3 = s.link.q3 ++ [readoutPkt r.echo r.result r.seq r.offset (r.data.take 1776)] := by
  have hdata : (!r.data.isEmpty) = true := by simpa using hd
  have htakes (q : Pkt) (u : State) (hl : u.link = s.link) (hs : u.sec = s.sec) :
      (due3 q u).link.q3 = s.link.q3 ++ [q] := by
    have hlink' : linkTakes u = true := by rw [linkTakes, hl]; exact hlink
    have hsession' : u.sec.session.isSome = true := by rw [hs]; exact Option.isSome_iff_ne_none.2 hsession
    have hmay : mayQueue q u = true := by simp [mayQueue, hlink', hsession']
    rw [due3, if_pos hmay, hl]
  unfold readoutGo
  rw [hr]
  dsimp only
  rw [if_neg (by simp [hq]), if_pos hdata]
  exact htakes _ _ rfl rfl

/-- A page that reads back correctly puts its record's bytes on their way (R412). -/
theorem readout_readDone {r : Readout} {page : Nat} {c : Bool} (hu : uncorrectable l = false) (hr : s.recd.readout = some r)
    (hdue : readDue s = some (.read b page)) (hfind : findRecord s r.seq = some (b, c))
    (hq : s.link.q3.any isReadData = false) (hlink : linkTakes s = true) (hsession : s.sec.session ≠ none)
    (hd : slice (recordAt (blockOf s b) c) r.offset (pageEnd s (blockOf s b) c r.offset - r.offset) ≠ []) :
    (nandStart (pageRead b page l s)).link.q3 = s.link.q3 ++ [readoutPkt r.echo 0 r.seq r.offset
      ((slice (recordAt (blockOf s b) c) r.offset (pageEnd s (blockOf s b) c r.offset - r.offset)).take 1776)] := by
  have hdepot : inDepot s = true := by
    cases hn : inDepot s with
    | true => rfl
    | false => simp [readDue, hr, hn] at hdue
  have heq := readNoted_eq b l s
  have hr' : (readNoted b l s).recd.readout = some r := by rw [heq]; exact hr
  obtain ⟨b', hfind'⟩ : ∃ b', findRecord (readNoted b l s) r.seq = some (b', c) := by
    have hmap := findRecord_readNoted b l s r.seq
    rw [hfind] at hmap
    obtain ⟨⟨b', c'⟩, hb', hc'⟩ := Option.map_eq_some_iff.1 hmap
    obtain rfl : c' = c := hc'
    exact ⟨b', hb'⟩
  have hstill := still_noteRead b l (jobDone s) b
  have hrecord : recordAt (blockOf (readNoted b l s) b) c = recordAt (blockOf s b) c :=
    (congrArg (recordAt · c) hstill :)
  have hend : pageEnd (readNoted b l s) (blockOf (readNoted b l s) b) c r.offset = pageEnd s (blockOf s b) c r.offset := by
    have hpage : pageBytes (readNoted b l s) = pageBytes s := pageBytes_congr (by rw [heq])
    have hbody : (blockOf (readNoted b l s) b).body = (blockOf s b).body := (congrArg Block.body hstill :)
    have hclosing : (blockOf (readNoted b l s) b).closing = (blockOf s b).closing := (congrArg Block.closing hstill :)
    rw [pageEnd, pageEnd, hpage, hbody, hclosing]
  rw [link_nandStart, pageRead_eq, if_neg (by simp [hdepot]), if_pos hdue]
  unfold readoutPage
  rw [hr']
  dsimp only
  rw [hfind']
  dsimp only
  rw [hrecord, hend, hu]
  generalize hv : modRec _ { readNoted b l s with free := (readNoted b l s).free + 1 } = v
  have hlinkv : v.link = s.link := by rw [← hv, heq]; rfl
  have hgo := readoutGo_data (s := v) (r := { r with
    data := slice (recordAt (blockOf s b) c) r.offset (pageEnd s (blockOf s b) c r.offset - r.offset), result := 0
    last := decide ((recordAt (blockOf s b) c).length ≤ pageEnd s (blockOf s b) c r.offset) })
    (by rw [← hv]; rfl) (by rw [hlinkv]; exact hq) hd (by rw [linkTakes, hlinkv]; exact hlink)
    (by rw [← hv, heq]; exact hsession)
  rw [hgo, hlinkv]

end Sys2Proof.Proofs
end

section
/-! The scrub of a segment, page by page (R394, R406). -/

namespace Sys2Proof.Proofs

open Sys2Proof Sys2Proof.Machine Sys2Proof.Laws

variable {s t u : State} {dt b c n : Nat} {ok : Bool} {l : List Nat} {p : PageResult} {x : Scrub}

theorem isBad_dropCopy (c n : Nat) (s : State) : isBad (dropCopy c s) n = isBad s n := rfl

/-! ## The commands -/

theorem exec_nandProgramDone_copy (hj : s.recd.job = some .copy) (hx : s.recd.scrubbing = some x) (hstep : x.step = .program)
    (dt : Nat) (ok : Bool) (l : List Nat) : exec (.nandProgramDone dt ok l) s =
      .next (nandStart (copyProgrammed x { ok := ok, errors := l } (advance dt s))) := by
  have hexec : exec (.nandProgramDone dt ok l) s = execNandProgramDone dt ok l s := rfl
  rw [hexec, execNandProgramDone]
  simp only [advance_recd, hj, hx, hstep, if_true]

theorem exec_nandReadDone_copy (hj : s.recd.job = some .copy) (hx : s.recd.scrubbing = some x) (hstep : x.step = .read)
    (dt : Nat) (l : List Nat) : exec (.nandReadDone dt l) s = .next (nandStart (copyRead x l (advance dt s))) := by
  have hexec : exec (.nandReadDone dt l) s = execNandReadDone dt l s := rfl
  rw [hexec, execNandReadDone]
  simp only [advance_recd, hj, hx, hstep, if_true]

theorem exec_scrub (hj : s.recd.job = some .copy) (hx : s.recd.scrubbing = some x) (hstep : x.step = .check)
    (dt : Nat) (l : List Nat) : exec (.scrub dt l) s = .next (nandStart (copyChecked x l (advance dt s))) := by
  have hexec : exec (.scrub dt l) s = execScrub dt l s := rfl
  rw [hexec, execScrub]
  simp only [advance_recd, hj, hx, hstep, if_true]

/-! ## A page of the copy programmed -/

/-- The scrub after a page of its copy has been programmed. -/
def nextScrub (x : Scrub) (pages : Nat) : Scrub :=
  if x.page < 1 + pages then { x with page := x.page + 1, step := .read } else { x with page := 1, step := .check }

theorem nextScrub_blocks (x : Scrub) (pages : Nat) :
    (nextScrub x pages).source = x.source ∧ (nextScrub x pages).copy = x.copy := by
  unfold nextScrub
  split <;> exact ⟨rfl, rfl⟩

/-- The copy's block with the page `x.page`, from the segment's block `v`. -/
def copyPage (x : Scrub) (hours : Nat) (v c : Block) : Block :=
  if x.page = 1 then { c with header := nextGeneration hours c.erases v.header }
  else { c with pages := c.pages ++ (v.pages[x.page - 2]?).toList }

theorem copyProgrammed_ok (hp : programmed p = true) (x : Scrub) (s : State) : copyProgrammed x p s =
    modRec (fun r => { r with scrubbing := some (nextScrub x (blockOf s x.source).pages.length) })
      (modBlock x.copy (copyPage x s.recd.hours (blockOf s x.source)) (readBack x.copy p (jobDone s))) := by
  unfold copyProgrammed
  dsimp only
  rw [if_neg (by simp [hp])]
  rfl

theorem copyProgrammed_failed (hp : programmed p = false) (x : Scrub) (s : State) :
    copyProgrammed x p s = dropCopy x.copy (retireBlock x.copy (readBack x.copy p (jobDone s))) := by
  unfold copyProgrammed
  dsimp only
  rw [if_pos (by simp [hp])]
  rfl

/-- A failed copy's block is bad, and holds nothing (R394). -/
theorem copyRetired_spec (c : Nat) (s : State) : isBad (nandStart (dropCopy c (retireBlock c s))) c = true ∧
    (blockOf (nandStart (dropCopy c (retireBlock c s))) c).header = [] := by
  refine ⟨?_, header_nandStart_nil (dropCopy_header_self ..)⟩
  rw [isBad_nandStart, isBad_dropCopy]
  exact isBad_retireBlock c s

theorem blockOf_copyProgrammed (hp : programmed p = true) (x : Scrub) (s : State) :
    blockOf (copyProgrammed x p s) x.copy =
      copyPage x s.recd.hours (blockOf s x.source) (blockOf (readBack x.copy p (jobDone s)) x.copy) := by
  rw [copyProgrammed_ok hp]
  exact blockOf_modBlock_self ..

/-- The copy goes on as the ring stands: its header is kept. -/
theorem header_copyProgrammed (hp : programmed p = true) (hr : s.recd.ring.head? ≠ some x.source) (hpage : x.page = 1) :
    (blockOf (nandStart (copyProgrammed x p s)) x.copy).header =
      nextGeneration s.recd.hours (blockOf s x.copy).erases (blockOf s x.source).header := by
  have hring : (copyProgrammed x p s).recd.ring = s.recd.ring := by
    rw [copyProgrammed_ok hp, readBack_eq]
    rfl
  have hscrub : (copyProgrammed x p s).recd.scrubbing = some (nextScrub x (blockOf s x.source).pages.length) := by
    rw [copyProgrammed_ok hp]
    rfl
  have herases : (blockOf (readBack x.copy p (jobDone s)) x.copy).erases = (blockOf s x.copy).erases :=
    (congrArg Block.erases (still_readBack x.copy p (jobDone s) x.copy) :)
  rw [header_nandStart fun _ y hy hhead => ?_, blockOf_copyProgrammed hp, copyPage, if_pos hpage, herases]
  obtain rfl : y = _ := (Option.some.inj (hscrub.symm.trans hy)).symm
  rw [hring, (nextScrub_blocks ..).1] at hhead
  exact absurd hhead hr

theorem pages_copyProgrammed (hp : programmed p = true) (hpage : x.page ≠ 1) (s : State) :
    (blockOf (nandStart (copyProgrammed x p s)) x.copy).pages =
      (blockOf s x.copy).pages ++ ((blockOf s x.source).pages[x.page - 2]?).toList := by
  have hpages := pages_readBack x.copy p (jobDone s) x.copy
  rw [pages_nandStart, blockOf_copyProgrammed hp, copyPage, if_neg hpage]
  dsimp only
  rw [hpages]
  rfl

/-! ## A page of the source read -/

theorem noteRead_recd (b : Nat) (l : List Nat) (s : State) : (noteRead b l s).recd = { s.recd with
    blocks := (noteRead b l s).recd.blocks, scrubs := (noteRead b l s).recd.scrubs } := by
  rw [noteRead_eq]

theorem copyRead_ok (h : uncorrectable l = false) (x : Scrub) (s : State) : copyRead x l s =
    modRec (fun r => { r with scrubbing := some { x with step := .program } }) (noteRead x.source l (jobDone s)) := by
  unfold copyRead
  dsimp only
  rw [if_neg (by simp [h])]
  rfl

theorem copyRead_failed (h : uncorrectable l = true) (x : Scrub) (s : State) : copyRead x l s =
    dropCopy x.copy (modRec (fun r => { r with scrubs := r.scrubs.filter (· ≠ x.source) })
      (noteRead x.source l (jobDone s))) := by
  unfold copyRead
  dsimp only
  rw [if_pos h]
  rfl

theorem header_noteRead (b : Nat) (l : List Nat) (s : State) (n : Nat) :
    (blockOf (noteRead b l s) n).header = (blockOf s n).header := (congrArg Block.header (still_noteRead b l s n) :)

/-- With no scrub under way a header stays. -/
theorem header_nandStart_idle (h : s.recd.scrubbing = none) (n : Nat) :
    (blockOf (nandStart s) n).header = (blockOf s n).header :=
  header_nandStart fun _ y hy => absurd (h.symm.trans hy) (by simp)

theorem copyRead_gives_up (h : uncorrectable l = true) (hne : x.source ≠ x.copy) (s : State) :
    (blockOf (nandStart (copyRead x l s)) x.copy).header = [] ∧ x.source ∉ (nandStart (copyRead x l s)).recd.scrubs ∧
      (blockOf (nandStart (copyRead x l s)) x.source).header = (blockOf s x.source).header := by
  rw [copyRead_failed h]
  refine ⟨header_nandStart_nil (dropCopy_header_self ..), not_mem_scrubs_nandStart ?_, ?_⟩
  · exact fun hmem => by simpa using (List.mem_filter.1 hmem).2
  · rw [header_nandStart_idle (by rfl), dropCopy_header_ne hne]
    exact header_noteRead x.source l (jobDone s) x.source

theorem copyRead_goes_on (h : uncorrectable l = false) (hr : s.recd.ring.head? ≠ some x.source) :
    (nandStart (copyRead x l s)).recd.scrubbing = some { x with step := .program } := by
  rw [copyRead_ok h]
  refine scrubbing_nandStart rfl ?_
  rw [modRec_recd, noteRead_recd]
  exact hr

/-! ## A page of the copy read back -/

theorem copyChecked_failed (h : uncorrectable l = true) (x : Scrub) (s : State) :
    copyChecked x l s = dropCopy x.copy (retireBlock x.copy (noteRead x.copy l (jobDone s))) := by
  unfold copyChecked
  dsimp only
  rw [if_pos h]
  rfl

theorem pages_noteRead (b : Nat) (l : List Nat) (s : State) (n : Nat) :
    (blockOf (noteRead b l s) n).pages = (blockOf s n).pages := (congrArg Block.pages (still_noteRead b l s n) :)

theorem copyChecked_more (h : uncorrectable l = false) (hpage : x.page < 1 + (blockOf s x.copy).pages.length) :
    copyChecked x l s = modRec (fun r => { r with scrubbing := some { x with page := x.page + 1 } })
      (noteRead x.copy l (jobDone s)) := by
  have hpages := pages_noteRead x.copy l (jobDone s) x.copy
  unfold copyChecked
  dsimp only
  rw [if_neg (by simp [h]), ← jobDone, hpages]
  exact if_pos hpage

theorem copyChecked_last (h : uncorrectable l = false) (hpage : 1 + (blockOf s x.copy).pages.length ≤ x.page) :
    copyChecked x l s = scrubbed x.source x.copy (noteRead x.copy l (jobDone s)) := by
  have hpages := pages_noteRead x.copy l (jobDone s) x.copy
  unfold copyChecked
  dsimp only
  rw [if_neg (by simp [h]), ← jobDone, hpages]
  exact if_neg (Nat.not_lt.2 hpage)

/-- A copy's block `w` that holds what the segment's block `v` does. -/
def standIn (v w : Block) : Block :=
  { w with body := v.body, sign := v.sign, closing := v.closing, st := v.st, incident := v.incident }

/-- The copy stands for the segment, and the scrub is over. -/
def copyStands (b c : Nat) (s : State) : State :=
  count .scrubCopies 1 (modRec (fun r => { r with scrubbing := none, ring := r.ring.map (fun x => if x = b then c else x) })
    (modBlock c (standIn (blockOf s b)) s))

theorem scrubbed_eq (b c : Nat) (s : State) : scrubbed b c s = letGo b (copyStands b c s) := rfl

theorem gone_scrubbing (b : Nat) (s : State) : (gone b s).recd.scrubbing = s.recd.scrubbing := rfl

theorem copyStands_scrubbing (b c : Nat) (s : State) : (copyStands b c s).recd.scrubbing = none := rfl

theorem copyStands_isBad (b c n : Nat) (s : State) : isBad (copyStands b c s) n = isBad s n := rfl

theorem scrubbed_gone (b c : Nat) (s : State) : scrubbed b c s = gone b (copyStands b c s) := by
  obtain ⟨h, -⟩ | ⟨x, hx, -, -⟩ := letGo_cases b (copyStands b c s)
  · exact h
  · exact absurd hx (by simp [copyStands_scrubbing])

theorem blockOf_copyStands (b c : Nat) (s : State) :
    blockOf (copyStands b c s) c = standIn (blockOf s b) (blockOf s c) := by
  rw [← blockOf_modBlock_self c (standIn (blockOf s b)) s]
  rfl

theorem body_gone (b n : Nat) (s : State) : (blockOf (gone b s) n).body = (blockOf s n).body :=
  proj_modBlock (f := fun v => { v with st := if isBad s b then 3 else 4, incident := 0 }) Block.body (fun _ => rfl) b n _

theorem sign_gone (b n : Nat) (s : State) : (blockOf (gone b s) n).sign = (blockOf s n).sign :=
  proj_modBlock (f := fun v => { v with st := if isBad s b then 3 else 4, incident := 0 }) Block.sign (fun _ => rfl) b n _

/-- The old block of a scrub that has ended is to be erased, and the copy holds its segment. -/
theorem scrubbed_ends (b c : Nat) (s : State) :
    (blockOf (nandStart (scrubbed b c s)) c).header = (blockOf s c).header ∧
      (blockOf (nandStart (scrubbed b c s)) c).body = (blockOf s b).body ∧
      (blockOf (nandStart (scrubbed b c s)) c).sign = (blockOf s b).sign ∧
      (blockOf (nandStart (scrubbed b c s)) b).st = (if isBad s b then 3 else 4) ∧
      b ∉ (nandStart (scrubbed b c s)).recd.scrubs := by
  have hidle : (scrubbed b c s).recd.scrubbing = none := by rw [scrubbed_gone, gone_scrubbing, copyStands_scrubbing]
  have hbad : isBad (scrubbed b c s) b = isBad s b := by rw [scrubbed_eq, letGo_isBad, copyStands_isBad]
  have hout : OutOfUse b (scrubbed b c s) := by
    rw [OutOfUse, scrubbed_eq, letGo_isBad, letGo_st_self]
  refine ⟨?_, ?_, ?_, ?_, not_mem_scrubs_nandStart ?_⟩
  · rw [header_nandStart_idle hidle, scrubbed_gone, gone_header, blockOf_copyStands, standIn]
  · rw [body_nandStart, scrubbed_gone, body_gone, blockOf_copyStands, standIn]
  · rw [sign_nandStart, scrubbed_gone, sign_gone, blockOf_copyStands, standIn]
  · have h := outOfUse_nandStart hout fun _ x hx => absurd (hidle.symm.trans hx) (by simp)
    rw [OutOfUse, isBad_nandStart, hbad] at h
    exact h
  · rw [scrubbed_eq, letGo_scrubs]
    exact fun hmem => by simpa using (List.mem_filter.1 hmem).2

theorem counterOf_scrubbed (b c : Nat) (s : State) : counterOf (nandStart (scrubbed b c s)) .scrubCopies =
    counterNext .scrubCopies (counterOf s .scrubCopies) 1 := by
  rw [counterOf_nandStart ⟨by decide, ne_halts_of_lt (by decide)⟩, scrubbed_eq, counterOf_log (letGo_log ..), copyStands,
    counterOf_count]
  rfl

/-- The last page of a copy reads back: the clause of the statement. -/
theorem copyChecked_ends (h : uncorrectable l = false) (hpage : 1 + (blockOf s x.copy).pages.length ≤ x.page) :
    (blockOf (nandStart (copyChecked x l s)) x.copy).header = (blockOf s x.copy).header ∧
      (blockOf (nandStart (copyChecked x l s)) x.copy).body = (blockOf s x.source).body ∧
      (blockOf (nandStart (copyChecked x l s)) x.copy).sign = (blockOf s x.source).sign ∧
      (blockOf (nandStart (copyChecked x l s)) x.source).st = (if isBad s x.source then 3 else 4) ∧
      x.source ∉ (nandStart (copyChecked x l s)).recd.scrubs ∧
      counterOf (nandStart (copyChecked x l s)) .scrubCopies =
        counterNext .scrubCopies (counterOf s .scrubCopies) 1 := by
  rw [copyChecked_last h hpage]
  have hnoted := noteRead_recd x.copy l (jobDone s)
  have hbad : isBad (noteRead x.copy l (jobDone s)) x.source = isBad s x.source :=
    isBad_of (by rw [hnoted]; rfl) (by rw [hnoted]; rfl) _
  obtain ⟨hheader, hbody, hsign, hst, hscrubs⟩ := scrubbed_ends x.source x.copy (noteRead x.copy l (jobDone s))
  have hstill := still_noteRead x.copy l (jobDone s)
  refine ⟨hheader.trans (congrArg Block.header (hstill x.copy) :), hbody.trans (congrArg Block.body (hstill x.source) :),
    hsign.trans (congrArg Block.sign (hstill x.source) :), by rw [hst, hbad], hscrubs, ?_⟩
  rw [counterOf_scrubbed, counterOf_noteRead_ne (by decide) (by decide), counterOf_jobDone]

theorem copyChecked_goes_on (h : uncorrectable l = false) (hpage : x.page < 1 + (blockOf s x.copy).pages.length)
    (hr : s.recd.ring.head? ≠ some x.source) :
    (nandStart (copyChecked x l s)).recd.scrubbing = some { x with page := x.page + 1 } := by
  rw [copyChecked_more h hpage]
  refine scrubbing_nandStart rfl ?_
  rw [modRec_recd, noteRead_recd]
  exact hr

theorem copyChecked_gives_up (h : uncorrectable l = true) (hne : x.source ≠ x.copy) (s : State) :
    isBad (nandStart (copyChecked x l s)) x.copy = true ∧ (blockOf (nandStart (copyChecked x l s)) x.copy).header = [] ∧
      (blockOf (nandStart (copyChecked x l s)) x.source).header = (blockOf s x.source).header := by
  rw [copyChecked_failed h]
  obtain ⟨hbad, hheader⟩ := copyRetired_spec x.copy (noteRead x.copy l (jobDone s))
  refine ⟨hbad, hheader, ?_⟩
  have hretired (n : Nat) (u : State) : blockOf (retireBlock x.copy u) n = blockOf u n :=
    blockOf_congr (by rw [retireBlock_recd]) n
  rw [header_nandStart_idle (by rfl), dropCopy_header_ne hne, hretired]
  exact header_noteRead x.copy l (jobDone s) x.source

end Sys2Proof.Proofs
end

section
/-! The blocks that BODY_BLOCK_FORM puts into staging, and the answer that a silent NAND does not give (R395 to R397,
R452). -/

namespace Sys2Proof.Proofs

open Sys2Proof Sys2Proof.Machine Sys2Proof.Laws

variable {s t u : State} {dt : Nat} {b gap : Body}

/-! ## Blocks in staging -/

/-- The block waits in staging, or has gone into the open segment. -/
def Staged (b : Body) (s : State) : Prop := b ∈ s.recd.staging ∨ ∃ g, s.recd.seg = some g ∧ b ∈ g.taken

/-- The parts of the state in which blocks wait. -/
def stageView (s : State) : List Body × Option OpenSeg := (s.recd.staging, s.recd.seg)

theorem Staged.congr (h : Staged b s) (hv : stageView t = stageView s) : Staged b t := by
  have hstaging : t.recd.staging = s.recd.staging := congrArg Prod.fst hv
  have hseg : t.recd.seg = s.recd.seg := congrArg Prod.snd hv
  rwa [Staged, hstaging, hseg]

theorem mem_takeBodies (page cap : Nat) (l : List Body) (have_ used : Nat) (h : b ∈ l) :
    b ∈ (takeBodies page cap l have_ used).1 ∨ b ∈ (takeBodies page cap l have_ used).2.1 := by
  induction l generalizing have_ used with
  | nil => exact absurd h (List.not_mem_nil)
  | cons c l ih =>
    rw [takeBodies]
    split
    · exact .inr h
    · split
      · exact .inr h
      · dsimp only
        obtain rfl | h := List.mem_cons.1 h
        · exact .inl List.mem_cons_self
        · exact (ih _ _ h).imp_left (List.mem_cons_of_mem c)

theorem putSource_seg (l : List Body) (r : Recorder) : (putSource l r).seg = r.seg := by
  rw [putSource_eq]

theorem putSource_nil {r : Recorder} (h : r.closing = []) (l : List Body) : (putSource l r).staging = l := by
  rw [putSource, h]

theorem putSource_cons {r : Recorder} {e : Nat × List Body} {q : List (Nat × List Body)} (h : r.closing = e :: q)
    (l : List Body) : (putSource l r).staging = r.staging := by
  rw [putSource, h]

/-- What the open segment does not take stays in staging (R395). -/
theorem staged_loadSeg (h : Staged b s) : Staged b (loadSeg s) := by
  unfold loadSeg
  split
  · exact h
  · next g hg =>
    split
    · exact h
    · dsimp only
      obtain hin | ⟨g', hg', hin⟩ := h
      · cases hc : s.recd.closing with
        | nil =>
          dsimp only
          refine (mem_takeBodies (pageBytes s) (dataPages s * pageBytes s) s.recd.staging (segBuffered g)
            (g.done + segBuffered g) hin).symm.imp (fun hrest => ?_) fun htaken => ⟨_, putSource_seg .., ?_⟩
          · rw [modRec_recd, putSource_nil (by exact hc)]
            exact hrest
          · exact List.mem_append_left _ (List.mem_append_right _ htaken)
        | cons e r =>
          refine .inl ?_
          rw [modRec_recd, putSource_cons (by exact hc)]
          exact hin
      · obtain rfl : g' = g := Option.some.inj (hg'.symm.trans hg)
        exact .inr ⟨_, putSource_seg .., List.mem_append_left _ (List.mem_append_left _ hin)⟩

theorem stageView_modBlock (n : Nat) (f : Block → Block) (s : State) : stageView (modBlock n f s) = stageView s := rfl

theorem stageView_modRec (f : Recorder → Recorder) (s : State) :
    stageView (modRec f s) = ((f s.recd).staging, (f s.recd).seg) := rfl

theorem stageView_gone (n : Nat) (s : State) : stageView (gone n s) = stageView s := by
  rw [gone, stageView_modBlock, stageView_modRec]
  rfl

theorem stageView_letGo (n : Nat) (s : State) : stageView (letGo n s) = stageView s := by
  obtain ⟨h, -⟩ | ⟨x, -, -, h⟩ := letGo_cases n s
  · rw [h, stageView_gone]
  · rw [h, dropCopy, stageView_modBlock, stageView_modRec, ← stageView_gone n s]
    rfl

theorem staged_openIfNeeded (h : Staged b s) : Staged b (openIfNeeded s) := by
  unfold openIfNeeded
  split
  · exact h
  · next hseg =>
    have hnone : s.recd.seg = none := by simpa using hseg
    split
    · split
      · exact h
      · exact h
    · extract_lets v
      have hv : stageView v = stageView s := by
        unfold v
        split
        · obtain he | ⟨c, r, -, he⟩ := dropOldest_cases s
          · rw [he]
          · rw [he]
            exact (stageView_letGo ..).trans rfl
        · rfl
      have hstaged : Staged b v := h.congr hv
      split
      · exact hstaged
      · obtain hin | ⟨g, hg, -⟩ := h
        · have hsame : v.recd.staging = s.recd.staging := congrArg Prod.fst hv
          rw [← hsame] at hin
          exact .inl hin
        · exact absurd (hnone.symm.trans hg) (by simp)

theorem stageView_journalEntry (kind : Nat) (i : Incident) (s : State) : stageView (journalEntry kind i s) = stageView s := by
  rw [journalEntry_eq]
  rfl

theorem stageView_phaseWork (s : State) : stageView (phaseWork s) = stageView s := by
  have htable : stageView (tableWrite (modIncident (currentIncident s) (fun i => { i with st := 2 })
      (countSegments (currentIncident s) s))) = stageView s := by
    rw [tableWrite_eq]
    rfl
  unfold phaseWork
  dsimp only
  split
  · rfl
  · split
    · split
      · rfl
      · exact (stageView_journalEntry ..).trans rfl
    · split
      · split
        · exact htable
        · exact (stageView_journalEntry ..).trans htable
      · rfl

theorem stageView_moves {k : Nat} (h : Moves k s t) : stageView t = stageView s := by
  rw [stageView, h.recd]
  rfl

theorem stageView_background (s : State) : stageView (background s) = stageView s := by
  unfold background
  split
  · exact (stageView_moves (moves_moveStart ..)).trans (stageView_modRec ..)
  · split
    · exact (stageView_moves (moves_moveStart ..)).trans ((stageView_modBlock ..).trans (stageView_modRec ..))
    · split
      · split <;> rfl
      · rfl

/-- The next job loses no block. -/
theorem staged_nandStart (h : Staged b s) : Staged b (nandStart s) := by
  unfold nandStart
  split
  · exact h
  · rw [stampJob_eq]
    refine Staged.congr (s := nandNext s) ?_ rfl
    have hloaded := (staged_loadSeg (staged_openIfNeeded h)).congr (stageView_phaseWork _)
    unfold nandNext
    extract_lets v
    split
    · exact hloaded.congr (stageView_background v)
    · exact hloaded.congr (by rw [stageView, segMove_recd]; rfl)

/-! ## BODY_BLOCK_FORM (R395 to R397) -/

theorem recordingNow_advance (dt : Nat) (s : State) : recordingNow (advance dt s) = recordingNow s := by
  rw [advance_eq]
  rfl

/-- The state from which the next job is chosen once a block has been formed. -/
def formed (s : State) : State := moveStart 13 1 3 16 (formBlock s)

theorem exec_bodyBlockForm (hst : s.recd.st = 3) (hrec : recordingNow s = true) (dt : Nat) :
    exec (.bodyBlockForm dt) s = .next (nandStart (formed (advance dt s))) := by
  have hexec : exec (.bodyBlockForm dt) s = execBodyBlockForm dt s := rfl
  rw [hexec, execBodyBlockForm, if_pos ⟨by rw [advance_recd, hst], by rw [recordingNow_advance, hrec]⟩]
  rfl

theorem formed_recd (s : State) : (formed s).recd = (formBlock s).recd := (moves_moveStart ..).recd

theorem gaps_nandStart (s : State) : (nandStart s).recd.gaps = s.recd.gaps :=
  (congrArg (·.recd.gaps) (restView_nandStart s) :)
theorem events_nandStart (s : State) : (nandStart s).recd.events = s.recd.events :=
  (congrArg (·.recd.events) (restView_nandStart s) :)
theorem sampled_nandStart (s : State) : (nandStart s).recd.sampled = s.recd.sampled :=
  (congrArg (·.recd.sampled) (restView_nandStart s) :)

theorem stage_fits (h : stageFits b s = true) (gap : Body) :
    stage b gap s = modRec (fun r => { r with staging := r.staging ++ [b] }) s := if_pos h

theorem stage_full (h : stageFits b s = false) (gap : Body) :
    stage b gap s = count .stagingDrops 1 (modRec (fun r => { r with gaps := r.gaps ++ [gap] }) s) :=
  if_neg (by simp [h])

/-- The block of the event entries that wait. -/
def eventBlock (s : State) : Body := bodyNow 4 (wordsLe (s.recd.events.flatMap (fun e => [e.1, e.2]))) s

theorem wordsLe_length (l : List Nat) : (wordsLe l).length = 8 * l.length := by
  simp [wordsLe, List.length_flatMap, Nat.mul_comm]

theorem eventBlock_length (s : State) : (eventBlock s).bytes.length = 8 + 16 * s.recd.events.length := by
  have hpairs : (s.recd.events.flatMap (fun e => [e.1, e.2])).length = 2 * s.recd.events.length := by
    simp [List.length_flatMap, Nat.mul_comm]
  simp only [eventBlock, bodyNow, bodyBytes, List.length_append, leBytes_length, wordsLe_length, hpairs]
  omega

/-- The state without event entries waiting. -/
def eventsTaken (s : State) : State := modRec (fun r => { r with events := [] }) s

theorem formBlock_events (hg : s.recd.gaps = []) (he : s.recd.events ≠ []) :
    formBlock s = stage (eventBlock s) (eventGap s) (eventsTaken s) := by
  have hsome : (!s.recd.events.isEmpty) = true := by simpa using he
  have hnone : ¬ s.recd.events.isEmpty = true := by simpa using he
  rw [formBlock, hg]
  dsimp only
  rw [if_pos hsome, formEvents, if_neg hnone]
  rfl

theorem stagedBytes_congr (hs : t.recd.staging = s.recd.staging) (hc : t.recd.closing = s.recd.closing)
    (hg : t.recd.seg = s.recd.seg) : stagedBytes t = stagedBytes s := by
  rw [stagedBytes, stagedBytes, hs, hc, hg]

theorem stageFits_eventBlock (s : State) : stageFits (eventBlock s) (eventsTaken s) =
    decide (stagedBytes s + 8 + 16 * s.recd.events.length ≤ 524288) := by
  rw [stageFits, eventBlock_length, stagedBytes_congr (t := eventsTaken s) (s := s) rfl rfl rfl, Nat.add_assoc]

/-- The entries logged are one event block (R397). -/
theorem form_events_fits (hg : s.recd.gaps = []) (he : s.recd.events ≠ [])
    (hfit : stagedBytes s + 8 + 16 * s.recd.events.length ≤ 524288) :
    (formed s).recd = { s.recd with events := [], staging := s.recd.staging ++ [eventBlock s] } := by
  rw [formed_recd, formBlock_events hg he, stage_fits (by rw [stageFits_eventBlock, decide_eq_true hfit])]
  rfl

/-- Where staging is full a gap block takes their place, and they are counted. -/
theorem form_events_full (hg : s.recd.gaps = []) (he : s.recd.events ≠ [])
    (hfull : 524288 < stagedBytes s + 8 + 16 * s.recd.events.length) :
    (formed s).recd = { s.recd with events := [], gaps := [eventGap s] } ∧
      counterOf (formed s) .stagingDrops = counterNext .stagingDrops (counterOf s .stagingDrops) 1 := by
  have hfull' : stageFits (eventBlock s) (eventsTaken s) = false := by
    rw [stageFits_eventBlock]
    exact decide_eq_false (by omega)
  constructor
  · rw [formed_recd, formBlock_events hg he, stage_full hfull', count_recd, modRec_recd, eventsTaken, modRec_recd, hg]
    rfl
  · rw [formed, (moves_moveStart ..).counters _ (by decide) (ne_halts_of_lt (by decide)), formBlock_events hg he,
      stage_full hfull', counterOf_count]
    rfl

variable {o : SheetOut} {r : List SheetOut} {β : Nat}

theorem formBlock_bearing (hg : s.recd.gaps = []) (he : s.recd.events = []) (hr : recordedSheets s = o :: r)
    (hd : bearingDue s o = some β) :
    formBlock s = stage (bearingBlock o β) (gapFor o β 1) (noteSampled o.sheet β s) := by
  rw [formBlock, hg]
  dsimp only
  rw [if_neg (by simp [he]), hr, formSheets, hd]

theorem stageFits_noteSampled (b : Body) (n β : Nat) (s : State) : stageFits b (noteSampled n β s) = stageFits b s := by
  rw [stageFits, stageFits, stagedBytes_congr (t := noteSampled n β s) (s := s) rfl rfl rfl]

theorem form_bearing_fits (hg : s.recd.gaps = []) (he : s.recd.events = []) (hr : recordedSheets s = o :: r)
    (hd : bearingDue s o = some β) (hfit : stageFits (bearingBlock o β) s = true) :
    (formed s).recd = { s.recd with
      sampled := s.recd.sampled ++ [(o.sheet, β)], staging := s.recd.staging ++ [bearingBlock o β] } := by
  rw [formed_recd, formBlock_bearing hg he hr hd, stage_fits (by rw [stageFits_noteSampled, hfit])]
  rfl

theorem form_bearing_full (hg : s.recd.gaps = []) (he : s.recd.events = []) (hr : recordedSheets s = o :: r)
    (hd : bearingDue s o = some β) (hfull : stageFits (bearingBlock o β) s = false) :
    (formed s).recd = { s.recd with sampled := s.recd.sampled ++ [(o.sheet, β)], gaps := [gapFor o β 1] } := by
  rw [formed_recd, formBlock_bearing hg he hr hd, stage_full (by rw [stageFits_noteSampled, hfull]), count_recd,
    modRec_recd, noteSampled, modRec_recd, hg]
  rfl

theorem nandStart_busy (h : s.recd.job ≠ none) : nandStart s = s := by
  have hbusy : s.recd.job.isSome = true := Option.isSome_iff_ne_none.2 h
  exact if_pos (by simp [hbusy])

/-- The blocks formed from the event entries. -/
theorem bodyBlockForm_events (hg : s.recd.gaps = []) (he : s.recd.events ≠ []) :
    (nandStart (formed s)).recd.events = [] ∧
      (stagedBytes s + 8 + 16 * s.recd.events.length ≤ 524288 →
        Staged (eventBlock s) (nandStart (formed s)) ∧ (nandStart (formed s)).recd.gaps = [] ∧
          (s.recd.job ≠ none → (nandStart (formed s)).recd.staging = s.recd.staging ++ [eventBlock s])) ∧
      (524288 < stagedBytes s + 8 + 16 * s.recd.events.length →
        (nandStart (formed s)).recd.gaps = [eventGap s] ∧
          counterOf (nandStart (formed s)) .stagingDrops = counterNext .stagingDrops (counterOf s .stagingDrops) 1) := by
  refine ⟨?_, fun hfit => ?_, fun hfull => ?_⟩
  · rw [events_nandStart]
    obtain hfit | hfull := Nat.lt_or_ge 524288 (stagedBytes s + 8 + 16 * s.recd.events.length)
    · rw [(form_events_full hg he hfit).1]
    · rw [form_events_fits hg he hfull]
  · have hrecd := form_events_fits hg he hfit
    refine ⟨staged_nandStart (.inl ?_), ?_, fun hjob => ?_⟩
    · rw [hrecd]
      exact List.mem_append_right _ (List.mem_singleton_self _)
    · rw [gaps_nandStart, hrecd]
      exact hg
    · rw [nandStart_busy (by rw [hrecd]; exact hjob), hrecd]
  · obtain ⟨hrecd, hcount⟩ := form_events_full hg he hfull
    refine ⟨by rw [gaps_nandStart, hrecd], ?_⟩
    rw [counterOf_nandStart ⟨by decide, ne_halts_of_lt (by decide)⟩, hcount]

/-- A sampled bearing is its block, or a gap. -/
theorem bodyBlockForm_bearing (hg : s.recd.gaps = []) (he : s.recd.events = []) (hr : recordedSheets s = o :: r)
    (hd : bearingDue s o = some β) : (o.sheet, β) ∈ (nandStart (formed s)).recd.sampled ∧
      (stageFits (bearingBlock o β) s = true → Staged (bearingBlock o β) (nandStart (formed s))) ∧
      (stageFits (bearingBlock o β) s = false → (nandStart (formed s)).recd.gaps = [gapFor o β 1]) := by
  refine ⟨?_, fun hfit => staged_nandStart (.inl ?_), fun hfull => ?_⟩
  · rw [sampled_nandStart]
    cases hfit : stageFits (bearingBlock o β) s with
    | true =>
      rw [form_bearing_fits hg he hr hd hfit]
      exact List.mem_append_right _ (List.mem_singleton_self _)
    | false =>
      rw [form_bearing_full hg he hr hd hfit]
      exact List.mem_append_right _ (List.mem_singleton_self _)
  · rw [form_bearing_fits hg he hr hd hfit]
    exact List.mem_append_right _ (List.mem_singleton_self _)
  · rw [gaps_nandStart, form_bearing_full hg he hr hd hfull]

/-! ## NAND_RESPONSE_TIMEOUT (R452) -/

/-- The recorder absent for the rest of the Start. -/
def recorderAbsent (s : State) : State := modRec (fun r => { r with
  st := 0, seg := none, staging := [], closing := [], open_ := none, phase1 := false, phase2 := false, job := none
  scrubs := [], scrubbing := none, readout := none, events := [], ended := [], gaps := [] }) s

theorem exec_nandResponseTimeout_silent (h : nandSilent (advance dt s) = true) :
    exec (.nandResponseTimeout dt) s = .next (recorderAbsent (advance dt s)) := by
  have hexec : exec (.nandResponseTimeout dt) s = execNandResponseTimeout dt s := rfl
  rw [hexec, execNandResponseTimeout, when_, if_pos h]
  rfl

theorem exec_nandResponseTimeout_answered (h : nandSilent (advance dt s) = false) :
    exec (.nandResponseTimeout dt) s = .next (advance dt s) := by
  have hexec : exec (.nandResponseTimeout dt) s = execNandResponseTimeout dt s := rfl
  rw [hexec, execNandResponseTimeout, when_, if_neg (by simp [h])]

end Sys2Proof.Proofs
end

section
/-! The close of a segment, program after program, and the settlement of what ends of NAND operations leave (R264, R398). -/

namespace Sys2Proof.Proofs

open Sys2Proof Sys2Proof.Machine Sys2Proof.Laws

variable {s t u : State} {g h : OpenSeg} {l : List PageResult} {p : PageResult}

/-! ## What a segment's programs leave -/

/-- The parts that a record's header and signature are made from, and what the programs of a segment are counted in. -/
def signView (s : State) : List Incident × Option (List Byte) × Legend × Nat × Security × Option NandPart × Nat :=
  (s.recd.incidents, s.recd.prevHash, s.legend, s.free, s.sec, s.recd.part, counterOf s .segmentsWritten)

/-- The parts of a segment that its record shows. -/
def sameRecord (g h : OpenSeg) : Prop :=
  h.block = g.block ∧ h.seq = g.seq ∧ h.kind = g.kind ∧ h.info = g.info ∧ h.ending = g.ending

/-- Its header and signature do not depend on how its pages are programmed. -/
theorem segSign_congr (hv : signView t = signView s) (hr : sameRecord g h) (body : List Byte) :
    segSign t h body = segSign s g body := by
  obtain ⟨-, hseq, hkind, hinfo, -⟩ := hr
  simp only [signView, Prod.mk.injEq] at hv
  obtain ⟨hinc, hprev, hlegend, hfree, hsec, -, -⟩ := hv
  have hcur : currentIncident t = currentIncident s := by rw [currentIncident, currentIncident, hinc]
  have hcause (n : Nat) : causeOf t n = causeOf s n := by rw [causeOf, causeOf, incidentOf, incidentOf, hinc]
  have hheader : segHeader t h body = segHeader s g body := by
    rw [segHeader, segHeader, hcur, hcause, hkind, hseq, hinfo, prevField, prevField, hprev, hlegend]
  have hscalar : (drawScalar t).1 = (drawScalar s).1 := by
    simp only [drawScalar, draw, hfree]
  rw [segSign, segSign, hheader]
  simp only [signDigest, hscalar, coreKey, hsec]

theorem signView_readBack (b : Nat) (p : PageResult) (s : State) : signView (readBack b p s) = signView s := by
  have hcount : counterOf (readBack b p s) .segmentsWritten = counterOf s .segmentsWritten :=
    counterOf_readBack_ne (by decide) (by decide) ..
  rw [signView, hcount, readBack_eq]
  rfl

theorem signView_modBlock (b : Nat) (f : Block → Block) (s : State) : signView (modBlock b f s) = signView s := rfl

/-! ## One program -/

/-- A state whose open segment is `h`, on the way to the close of segment `g` of state `s`. -/
structure Closing (s : State) (g : OpenSeg) (u : State) (h : OpenSeg) : Prop where
  seg : u.recd.seg = some h
  same : sameRecord g h
  view : signView u = signView s

theorem closing_header (hc : Closing s g u h) (hp : programmed p = true) :
    Closing s g (headerDone p u) { h with header := [] } := by
  rw [headerDone_ok hc.seg hp]
  refine ⟨?_, hc.same, ?_⟩
  · rw [readBack_eq]
    rfl
  · rw [signView_readBack, ← hc.view]
    rfl

theorem closing_page (hc : Closing s g u h) (hp : programmed p = true) :
    Closing s g (programDone p u) (segAfterPage u h) := by
  rw [programDone_ok hc.seg hp, pageOk_eq (s := jobDone u) hc.seg]
  refine ⟨?_, hc.same, ?_⟩
  · rw [readBack_eq]
    rfl
  · rw [signView_readBack, signView_modBlock, ← hc.view]
    rfl

theorem bodiesBytes_dropBodies (l : List Body) (n : Nat) :
    bodiesBytes (dropBodies l n).1 - (dropBodies l n).2 = bodiesBytes l - n := by
  induction l generalizing n with
  | nil => simp [dropBodies, bodiesBytes]
  | cons b l ih =>
    rw [dropBodies]
    have hcons : bodiesBytes (b :: l) = b.bytes.length + bodiesBytes l := by simp [bodiesBytes]
    split
    · rw [ih, hcons]
      omega
    · rfl

theorem segBuffered_after (s : State) (g : OpenSeg) :
    segBuffered (segAfterPage s g) = segBuffered g - min (pageBytes s) (segBuffered g) := by
  have h := bodiesBytes_dropBodies g.taken (g.skip + min (pageBytes s) (segBuffered g))
  rw [← Nat.sub_sub] at h
  exact h

/-! ## All of them -/

/-- The programs that a segment still needs before its signature page. -/
def pagesLeft (s : State) (g : OpenSeg) : Nat := (if g.header.isEmpty then 0 else 1) + segBuffered g / pageBytes s

theorem loadSeg_ending (h : s.recd.seg = some g) (he : g.ending = true) : loadSeg s = s := by
  rw [loadSeg, h]
  exact if_pos he

theorem runSeg_done {stop : State → Bool} (h : stop s = true) (k : Nat) (l : List PageResult) : runSeg stop k l s = s := by
  cases k with
  | zero => rfl
  | succ k => exact if_pos h

/-- With enough programs the run ends at the signature page of the segment. -/
theorem runSeg_closes (he : g.ending = true) {stop : State → Bool} (hgo : ∀ u h, Closing s g u h → stop u = false)
    (hstop : ∀ u, u.recd.seg = none → stop u = true) (hpage : 0 < pageBytes s) (k : Nat) :
    ∀ (l : List PageResult) (u : State) (h : OpenSeg), (∀ p ∈ l, programmed p = true) → Closing s g u h →
      pagesLeft s h < k → ∃ v h' p, Closing s g v h' ∧ programmed p = true ∧ runSeg stop k l u = signDone p v := by
  induction k with
  | zero => exact fun l u h _ _ hk => absurd hk (Nat.not_lt_zero _)
  | succ k ih =>
    intro l u h hl hc hk
    have hprog : programmed (l.headD goodPage) = true := by
      cases l with
      | nil => rfl
      | cons p l => exact hl p List.mem_cons_self
    have htail : ∀ p ∈ l.tail, programmed p = true := fun p hp => hl p (List.mem_of_mem_tail hp)
    have hending : h.ending = true := hc.same.2.2.2.2.trans he
    have hbytes : pageBytes u = pageBytes s :=
      pageBytes_congr (congrArg (fun v => v.2.2.2.2.2.1) hc.view)
    have hrun (j : NandJob) (hj : segJob u = some j) : runSeg stop (k + 1) l u =
        runSeg stop k l.tail (endSegJob j (l.headD goodPage) u) := by
      rw [runSeg, if_neg (by simp [hgo u h hc])]
      dsimp only
      rw [openIfNeeded_open hc.seg, loadSeg_ending hc.seg hending, hj]
    by_cases hheader : h.header.isEmpty = true
    · by_cases hbuffered : pageBytes s ≤ segBuffered h
      · have hj : segJob u = some .program := by simp [segJob, hc.seg, hheader, hbytes, hbuffered]
        rw [hrun _ hj]
        refine ih _ _ _ htail (closing_page hc hprog) ?_
        have hless := Nat.div_eq_sub_div hpage hbuffered
        rw [pagesLeft, segBuffered_after, hbytes, Nat.min_eq_left hbuffered]
        rw [pagesLeft] at hk
        have hsame : (segAfterPage u h).header = h.header := rfl
        rw [hsame]
        omega
      · have hj : segJob u = some .sign := by simp [segJob, hc.seg, hheader, hbytes, hbuffered, hending]
        rw [hrun _ hj]
        have hnone : (signDone (l.headD goodPage) u).recd.seg = none := by
          obtain ⟨-, -, -, hseg, -⟩ := closeSeg_spec (s := jobDone u) hc.seg
          rw [signDone_ok hc.seg hprog, readBack_eq]
          exact hseg
        exact ⟨u, h, _, hc, hprog, runSeg_done (hstop _ hnone) ..⟩
    · have hj : segJob u = some .header := by simp [segJob, hc.seg, hheader]
      rw [hrun _ hj]
      refine ih _ _ _ htail (closing_header hc hprog) ?_
      rw [pagesLeft, if_neg hheader] at hk
      rw [pagesLeft, if_pos (by rfl)]
      have hsame : segBuffered { h with header := [] } = segBuffered h := rfl
      rw [hsame]
      omega

/-! ## SEGMENT_CLOSE -/

theorem exec_segmentClose (run : PageRun) (hst : s.recd.st = 3) (hd : s.supply.dip = false) (hg : s.recd.seg = some g)
    (he : g.ending = true) :
    exec (.segmentClose run) s = .next (nandStart (finishSeg run.pages (dropSegJob (advance run.dt s)))) := by
  have hexec : exec (.segmentClose run) s = execSegmentClose run s := rfl
  have hseg : (advance run.dt s).recd.seg = some g := by rw [advance_recd, hg]
  rw [hexec, execSegmentClose, when_, if_pos (by simp [hst, hd]), openIfNeeded_open hseg, loadSeg_ending hseg he]
  dsimp only
  rw [hseg]
  dsimp only
  rw [if_pos (by simp [he])]

/-- The close of a segment that ends: it is signed as it stands (R398). -/
theorem finishSeg_closes (hg : s.recd.seg = some g) (he : g.ending = true) (hpage : 0 < pageBytes s)
    (hfit : segBuffered g ≤ dataPages s * pageBytes s) (hl : ∀ p ∈ l, programmed p = true) :
    ∃ v h p, Closing s g v h ∧ programmed p = true ∧ finishSeg l s = signDone p v := by
  have hfuel : pagesLeft s g < closingFuel l s := by
    have hdiv : segBuffered g / pageBytes s ≤ dataPages s := by
      rw [Nat.div_le_iff_le_mul_add_pred hpage, Nat.mul_comm]
      omega
    have hmany : (dataPages s + 4) * 2 ≤ closingFuel l s := Nat.mul_le_mul_left _ (Nat.le_add_left 2 _)
    have hone : (if g.header.isEmpty then 0 else 1) ≤ 1 := by split <;> omega
    rw [pagesLeft]
    omega
  have hrun : finishSeg l s = runSeg (fun u => u.recd.seg.all (fun h => decide (h.seq ≠ g.seq))) (closingFuel l s) l s := by
    rw [finishSeg, openIfNeeded_open hg, loadSeg_ending hg he, hg]
  rw [hrun]
  refine runSeg_closes he (fun u h hc => ?_) (fun u hu => ?_) hpage _ l s g hl ⟨hg, ⟨rfl, rfl, rfl, rfl, rfl⟩, rfl⟩ hfuel
  · simp [hc.seg, hc.same.2.1]
  · simp [hu]

/-- SEGMENT_CLOSE: its clause of the statement. -/
theorem segmentClose_signs (hg : s.recd.seg = some g) (he : g.ending = true) (hpage : 0 < pageBytes s)
    (hfit : segBuffered g ≤ dataPages s * pageBytes s) (hl : ∀ p ∈ l, programmed p = true) :
    (blockOf (nandStart (finishSeg l s)) g.block).sign =
        segSign s g (blockOf (nandStart (finishSeg l s)) g.block).body ∧
      counterOf (nandStart (finishSeg l s)) .segmentsWritten =
        counterNext .segmentsWritten (counterOf s .segmentsWritten) 1 := by
  obtain ⟨v, h, p, hc, hp, hfin⟩ := finishSeg_closes hg he hpage hfit hl
  obtain ⟨hsign, -, hcount⟩ := sign_signDone hc.seg hp
  obtain ⟨-, hbody, -⟩ := closeSeg_spec (s := jobDone v) hc.seg
  have hbody' : (blockOf (nandStart (signDone p v)) h.block).body = (blockOf v h.block).body := by
    rw [body_nandStart, signDone_ok hc.seg hp, body_readBack, hbody]
    rfl
  have hwritten : counterOf v .segmentsWritten = counterOf s .segmentsWritten :=
    congrArg (fun x => x.2.2.2.2.2.2) hc.view
  rw [hfin, ← hc.same.1]
  exact ⟨by rw [hsign, hbody', segSign_congr hc.view hc.same], by rw [hcount, hwritten]⟩

/-! ## The settlement -/

/-- The signature that a record of `s` gets `dt` taps later. -/
theorem segSign_begun (g : OpenSeg) (body : List Byte) (dt : Nat) (s : State) :
    segSign (advance dt s) g body = segHeader s g body ++ (signDigest (sha256 (segHeader s g body)) (advance dt s)).1 := by
  have hheader : segHeader (advance dt s) g body = segHeader s g body := by
    rw [advance_eq]
    rfl
  rw [segSign, hheader]

theorem segPage_advance (g : OpenSeg) (dt : Nat) (s : State) : segPage (advance dt s) g = segPage s g := by
  rw [segPage, segPage, pageBytes_congr (t := advance dt s) (s := s) (by rw [advance_recd])]

theorem programmed_pair {ok : Bool} {l : List Nat} (hok : ok = true) (hu : uncorrectable l = false) :
    programmed { ok := ok, errors := l } = true := (programmed_iff _).2 ⟨hok, hu⟩

theorem not_programmed_pair {ok : Bool} {l : List Nat} (h : ok = false ∨ uncorrectable l = true) :
    programmed { ok := ok, errors := l } = false := by
  obtain h | h := h <;> simp [programmed, h]

/-- Settles O57: the ends of page operations clause by clause, with what the choice of the next job leaves of them. -/
theorem nandOperations : Obligations.NandOperations := by
  unfold Obligations.NandOperations
  refine ⟨fun dt ok l g s hg hj => ?_, fun dt b ended s hj => ?_, fun dt b p l s hj => ?_,
    fun dt ok l x s hj hx hne hr => ⟨fun hstep => ?_, fun hstep => ?_, fun hstep => ?_⟩, fun dt s hst hrec hgaps => ?_,
    fun run g s hst hd hg he hpage hfit hl => ?_, fun dt s hst h => ?_, fun dt s h => ?_⟩
  · obtain ⟨j, hjob, hkind⟩ : ∃ j, s.recd.job = some j ∧ (j = .header ∨ j = .program ∨ j = .sign) := by
      obtain h | h | h := hj
      · exact ⟨_, h, .inl rfl⟩
      · exact ⟨_, h, .inr (.inl rfl)⟩
      · exact ⟨_, h, .inr (.inr rfl)⟩
    have hga : (advance dt s).recd.seg = some g := by rw [advance_recd, hg]
    refine ⟨_, exec_nandProgramDone_seg hjob hkind dt ok l, fun hok => ?_, fun hok hu h => ?_, fun hok hu h => ?_,
      fun hok hu h => ?_, fun h => ?_⟩
    · rw [counterOf_nandStart ⟨by decide, ne_halts_of_lt (by decide)⟩, counterOf_endSegJob hga hkind hok, counterOf_advance]
    · obtain rfl : j = .header := Option.some.inj (hjob.symm.trans h)
      exact header_headerDone hga (programmed_pair hok hu)
    · obtain rfl : j = .program := Option.some.inj (hjob.symm.trans h)
      have hpage := page_programDone hga (programmed_pair hok hu)
      rw [blockOf_advance, segPage_advance] at hpage
      exact hpage
    · obtain rfl : j = .sign := Option.some.inj (hjob.symm.trans h)
      obtain ⟨hsign, hpages, hcount⟩ := sign_signDone hga (programmed_pair hok hu)
      rw [blockOf_advance] at hsign hpages
      rw [segSign_begun] at hsign
      rw [signaturePage_congr (s := s) (by rw [advance_recd])] at hpages
      rw [counterOf_advance] at hcount
      exact ⟨hsign, hpages, hcount⟩
    · rw [isBad_nandStart]
      exact isBad_endSegJob hga hkind (not_programmed_pair h)
  · refine ⟨_, exec_nandEraseDone hj dt ended, fun hok hp => ?_, fun hok => ?_, fun h => ?_⟩
    · have h := nandEraseDone_ends hok hp b (advance dt s)
      rw [blockOf_advance] at h
      exact h
    · rw [erasesNow_nandStart, blockErased_erasesNow hok, advance_recd]
    · rw [isBad_nandStart]
      exact isBad_blockErased h b _
  · refine ⟨_, exec_nandReadDone_read hj dt l, ?_, fun h hx => ?_, fun hdepot => ?_,
      fun r c hu hr hdue hfind hq hlink hsession hd => ?_⟩
    · rw [counterOf_readDone, counterOf_advance]
    · have hwant := (scrubWanted_readDone (s := advance dt s) p (by rw [blockOf_advance]; exact h)
        (by rw [advance_recd]; exact hx)).1
      rwa [advance_recd] at hwant
    · exact readout_readDone_left (by rw [← hdepot, advance_eq]; rfl) p
    · have hdue' : readDue (advance dt s) = some (.read b p) := by rw [← hdue, advance_eq]; rfl
      have hfind' : findRecord (advance dt s) r.seq = some (b, c) := by rw [← hfind, advance_eq]; rfl
      have hlink' : linkTakes (advance dt s) = true := by rw [← hlink, advance_eq]; rfl
      have hend : pageEnd (advance dt s) (blockOf s b) c r.offset = pageEnd s (blockOf s b) c r.offset := by
        rw [advance_eq]
        rfl
      have h := readout_readDone (l := l) hu (by rw [advance_recd, hr]) hdue' hfind' (by rw [advance_link, hq]) hlink'
        (by rw [advance_sec]; exact hsession) (by rw [blockOf_advance, hend]; exact hd)
      rw [blockOf_advance, hend, advance_link] at h
      exact h
  · refine ⟨_, exec_nandProgramDone_copy hj hx hstep dt ok l, fun hok hu => ⟨fun hpage => ?_, fun hpage => ?_⟩, fun h => ?_⟩
    · rw [header_copyProgrammed (programmed_pair hok hu) (by rw [advance_recd]; exact hr) hpage, blockOf_advance,
        blockOf_advance, advance_recd]
    · rw [pages_copyProgrammed (programmed_pair hok hu) hpage, blockOf_advance, blockOf_advance]
    · rw [copyProgrammed_failed (not_programmed_pair h)]
      exact copyRetired_spec x.copy _
  · refine ⟨_, exec_nandReadDone_copy hj hx hstep dt l, fun hu => ?_, fun hu => ?_⟩
    · have h := copyRead_gives_up hu hne (advance dt s)
      rwa [blockOf_advance] at h
    · exact copyRead_goes_on hu (by rw [advance_recd]; exact hr)
  · refine ⟨_, exec_scrub hj hx hstep dt l, fun hu hpage => ?_, fun hu hpage => ?_, fun hu => ?_⟩
    · exact copyChecked_goes_on hu (by rw [blockOf_advance]; exact hpage) (by rw [advance_recd]; exact hr)
    · have h := copyChecked_ends (s := advance dt s) hu (by rw [blockOf_advance]; exact hpage)
      rwa [blockOf_advance, blockOf_advance, counterOf_advance,
        isBad_of (t := advance dt s) (s := s) (by rw [advance_recd]) (by rw [advance_recd])] at h
    · have h := copyChecked_gives_up hu hne (advance dt s)
      rwa [blockOf_advance] at h
  · refine ⟨_, exec_bodyBlockForm hst hrec dt, fun he => ?_, fun o r β he hr hd => ?_⟩
    · have hstaged : stagedBytes (advance dt s) = stagedBytes s :=
        stagedBytes_congr (by rw [advance_recd]) (by rw [advance_recd]) (by rw [advance_recd])
      have h := bodyBlockForm_events (s := advance dt s) (by rw [advance_recd, hgaps]) (by rw [advance_recd]; exact he)
      rw [hstaged, counterOf_advance, eventBlock, advance_recd] at h
      exact h
    · have hr' : recordedSheets (advance dt s) = o :: r := by rw [← hr, advance_eq]; rfl
      have hd' : bearingDue (advance dt s) o = some β := by rw [← hd, advance_eq]; rfl
      have hfits : stageFits (bearingBlock o β) (advance dt s) = stageFits (bearingBlock o β) s := by rw [advance_eq]; rfl
      have h := bodyBlockForm_bearing (s := advance dt s) (by rw [advance_recd, hgaps]) (by rw [advance_recd, he]) hr' hd'
      rw [hfits] at h
      exact h
  · have hr : (dropSegJob (advance run.dt s)).recd = { s.recd with job := (dropSegJob (advance run.dt s)).recd.job } := by
      simp [dropSegJob, modRec]
    have hbytes : pageBytes (dropSegJob (advance run.dt s)) = pageBytes s := pageBytes_congr (by rw [hr])
    have hpages : dataPages (dropSegJob (advance run.dt s)) = dataPages s := by rw [dataPages, dataPages, hr]
    have h := segmentClose_signs (s := dropSegJob (advance run.dt s)) (by rw [hr]; exact hg) he (by rw [hbytes]; exact hpage)
      (by rw [hbytes, hpages]; exact hfit) hl
    have hview (body : List Byte) : segSign (dropSegJob (advance run.dt s)) g body = segSign (advance run.dt s) g body :=
      segSign_congr (s := advance run.dt s) rfl ⟨rfl, rfl, rfl, rfl, rfl⟩ body
    have hcount : counterOf (dropSegJob (advance run.dt s)) .segmentsWritten = counterOf s .segmentsWritten :=
      counterOf_advance ..
    rw [hview, segSign_begun, hcount] at h
    exact ⟨_, exec_segmentClose run hst hd hg he, h⟩
  · refine exec_nandResponseTimeout_answered ?_
    have hfree : s.recd.job.isSome = false ∨ s.now + dt < s.recd.jobAt + ms 100 := h.imp_left fun h => by rw [h]; rfl
    obtain h | h := hfree
    · simp [nandSilent, h]
      omega
    · simp [nandSilent]
      omega
  · refine ⟨_, exec_nandResponseTimeout_silent ?_, rfl, rfl, rfl, ?_, ?_, ?_, ?_⟩
    · obtain ⟨h2, ha⟩ | ⟨h3, hjob, hat⟩ := h
      · simp [nandSilent, h2, ha]
      · simp [nandSilent, h3, hat, Option.isSome_iff_ne_none, hjob]
    · exact congrArg (·.blocks) (advance_recd dt s)
    · exact congrArg (·.grown) (advance_recd dt s)
    · exact congrArg (·.incidents) (advance_recd dt s)
    · rfl

end Sys2Proof.Proofs
end

section
/-! IMAGE_VERIFY on a NOR memory that is not in canonical form (R245, R285).  The obligation ranges over every state, also over
those whose memory lists its entries out of order (`norWf` fails).  There `norRead` sees only the entries up to the first one that
is not next in line; the write of the start counter's record (`norPut`) puts the entries below its page in front of those above
it, and a calibration slot that read as empty before that write does not after it. -/

namespace Sys2Proof.Proofs

open Sys2Proof Sys2Proof.Machine Sys2Proof.Laws

/-! ## Reads of a list of entries -/

theorem norFrom_append (a : Nat) (m k : List (Nat × Byte)) : norFrom a (m ++ k) = norFrom a m ++ norFrom a k :=
  List.filter_append ..

/-- Where no entry lies in the bytes read, they all read FFH. -/
theorem norBytes_of_above : ∀ (n a : Nat) {m : List (Nat × Byte)}, (∀ e ∈ m, a + n ≤ e.1) →
    norBytes n a m = List.replicate n 0xFF#8
  | 0, _, _, _ => by simp [norBytes]
  | n + 1, a, [], h => by
    rw [norBytes, norBytes_of_above n (a + 1) (by simp)]
    rfl
  | n + 1, a, (b, v) :: r, h => by
    have hb : a + (n + 1) ≤ b := h (b, v) (by simp)
    rw [norBytes, if_neg (by omega), norBytes_of_above n (a + 1) fun e he => by have := h e he; omega]
    rfl

/-- Up to the first entry all bytes read FFH. -/
theorem norBytes_skip (b : Nat) (v : Byte) (r : List (Nat × Byte)) (k : Nat) : ∀ (n a : Nat), a + n = b →
    norBytes (n + k) a ((b, v) :: r) = List.replicate n 0xFF#8 ++ norBytes k b ((b, v) :: r)
  | 0, a, h => by simp [← h]
  | n + 1, a, h => by
    rw [Nat.add_right_comm, norBytes, if_neg (by omega), norBytes_skip b v r k n (a + 1) (by omega)]
    rfl

theorem norCells_above : ∀ (a : Nat) (l : List Byte), ∀ e ∈ norCells a l, a ≤ e.1
  | _, [], _, h => by simp [norCells] at h
  | a, b :: r, e, h => by
    have hr (he : e ∈ norCells (a + 1) r) : a ≤ e.1 := Nat.le_of_succ_le (norCells_above (a + 1) r e he)
    rw [norCells] at h
    split at h
    · exact hr h
    · obtain rfl | he := List.mem_cons.1 h
      · exact Nat.le_refl a
      · exact hr he

/-! ## The write of the start counter's record (R245) -/

@[simp] theorem loadSeeds_nor (n : Nat) (s : State) : (loadSeeds n s).nor = s.nor :=
  List.foldlRecOn (motive := fun u => State.nor u = s.nor) _ _ rfl fun _ h _ _ => h

/-- Where a slot of the start counter is free, its record goes there. -/
theorem startCounter_mem {s : State} {slot : Nat} (h : startSlot s = slot) (hslot : slot < 256) :
    ∃ l, (startCounter true true s).nor.mem = norPut (0x430000 + 256 * slot) l s.nor.mem := by
  have hd : startSlot (draw 8 s).2 = slot := h
  unfold startCounter
  simp only [Bool.not_true, Bool.false_eq_true, if_false, hd, loadSeeds_nor, Nat.ne_of_lt hslot, Nat.mod_eq_of_lt hslot]
  exact ⟨_, rfl⟩

/-- The slots neither empty nor valid (R285). -/
def badSlots (s : State) : Nat := [0, 1].countP (fun i => !calEmpty s i && (calSlot s i).isNone)

theorem calRead_failedSlots (s : State) : (calRead s).image.failedSlots = badSlots s := by
  unfold calRead
  dsimp only
  (repeat' split) <;> rfl

/-- The state with its verification's result. -/
def resulted (r : Nat) (s : State) : State := { s with sec := { s.sec with result := r } }

theorem resulted_nor (r : Nat) (s : State) : (resulted r s).nor = s.nor := rfl

theorem verifyImage_failedSlots {s : State} (h : imageResult s (imageBytes s) = 1) :
    (verifyImage true s).image.failedSlots =
      badSlots (startCounter true true (resulted 1 s)) := by
  unfold verifyImage
  simp only [h]
  exact calRead_failedSlots _

theorem verifyOnce_unwrapped {nor : Option NorPart} {s : State} (hkey : (unwrapKey s.otp).isNone = false)
    (hnor : norSuits nor = true) : verifyOnce nor s = verifyImage (nor.any (·.counterOk)) (verifyStart nor s) := by
  rw [verifyOnce, if_neg (by simp [hkey]), if_pos hnor]

/-! ## The counterexample -/

/-- A first byte of a die identity that is not this device's. -/
def otherDie : Byte := if Config.dieIdentity % 256 = 0 then 1#8 else 0#8

theorem otherDie_ne : otherDie ≠ 0xFF#8 := by
  rw [otherDie]
  split <;> decide

/-- An entry of the recorder table's slot that stands before the die identity of calibration slot 0. -/
def outOfOrder : List (Nat × Byte) := [(0x440000, 0#8), (0x400010, otherDie)]

/-- A device in Start whose memory lists those entries behind the length word of its image, which is 0. -/
def disordered : State := { State.reset with
  phase := .start, nor := { State.reset.nor with mem := [(8, 0#8), (9, 0#8), (10, 0#8), (11, 0#8)] ++ outOfOrder } }

/-- Its device key unwraps. -/
theorem unwrapKey_disordered : unwrapKey disordered.otp ≠ none := by
  have hlen : disordered.otp.wrapped.length = 32 := by decide +kernel
  have hopen : gcmOpen (kPuf disordered.otp.helper) disordered.otp.wrapIv [] disordered.otp.wrapped disordered.otp.wrapTag =
      some (gcmCrypt (kPuf disordered.otp.helper) disordered.otp.wrapIv disordered.otp.wrapped) := if_pos (Eq.refl _)
  rw [unwrapKey, if_pos hlen, hopen]
  exact Option.some_ne_none _

/-- A part that suits, and on which the start counter's record reads back. -/
def suitingPart : NorPart := { sfdpMiB := some 8, maxMhz := 133, dual := true, quad := true, counterOk := true }

/-- The device once its key is unwrapped. -/
def disorderedKeyed : State := verifyStart (some suitingPart) (advance 0 disordered)

theorem imageResult_disordered : imageResult disorderedKeyed (imageBytes disorderedKeyed) = 1 := by decide +kernel

/-- Before the write both calibration slots read as empty. -/
theorem badSlots_disordered (c : Security) : badSlots { disordered with sec := c } = 0 := by
  have h0 : calEmpty { disordered with sec := c } 0 = true := (by decide +kernel : calEmpty disordered 0 = true)
  have h1 : calEmpty { disordered with sec := c } 1 = true := (by decide +kernel : calEmpty disordered 1 = true)
  simp [badSlots, h0, h1]

/-- After it slot 0 reads its one entry and no more. -/
theorem norRead_afterWrite {s : State} {l : List Byte} (hm : s.nor.mem = norPut 0x430000 l disorderedKeyed.nor.mem) (n : Nat)
    (hn : n < 0x10000) :
    norRead s 0x400000 (16 + (n + 1)) = List.replicate 16 0xFF#8 ++ otherDie :: List.replicate n 0xFF#8 := by
  have hbelow : norFrom 0x400000 (norBelow 0x430000 disorderedKeyed.nor.mem) = [(0x400010, otherDie)] := rfl
  have habove : ∀ e ∈ norFrom 0x400000 (norCells 0x430000 l) ++
      norFrom 0x400000 (norFrom (0x430000 + l.length) disorderedKeyed.nor.mem), 0x400011 + n ≤ e.1 := by
    intro e he
    obtain he | he := List.mem_append.1 he
    · have := norCells_above _ _ e (List.mem_filter.1 he).1
      omega
    · have := of_decide_eq_true (List.mem_filter.1 (List.mem_filter.1 he).1).2
      omega
  rw [norRead, hm, norPut, norFrom_append, norFrom_append, hbelow, List.append_assoc, List.singleton_append,
    norBytes_skip _ _ _ _ _ _ (by decide), norBytes, if_pos rfl, norBytes_of_above n _ habove]

/-- The die identity that slot 0 then holds is not the device's. -/
theorem dieIdentity_afterWrite (n : Nat) :
    leAt ((List.replicate 16 0xFF#8 ++ otherDie :: List.replicate (n + 47) 0xFF#8).take 64) 16 8 ≠
      Config.dieIdentity % 2 ^ 64 := by
  have htake : (List.replicate 16 0xFF#8 ++ otherDie :: List.replicate (n + 47) 0xFF#8).take 64 =
      List.replicate 16 0xFF#8 ++ otherDie :: List.replicate 47 0xFF#8 := by
    simp [List.take_replicate]
  rw [htake, otherDie]
  split
  · have h1 : leAt (List.replicate 16 0xFF#8 ++ 1#8 :: List.replicate 47 0xFF#8) 16 8 = 0xFFFFFFFFFFFFFF01 := by decide +kernel
    omega
  · have h0 : leAt (List.replicate 16 0xFF#8 ++ 0#8 :: List.replicate 47 0xFF#8) 16 8 = 0xFFFFFFFFFFFFFF00 := by decide +kernel
    omega

/-- Slot 0 is then neither empty nor valid. -/
theorem badSlots_afterWrite {s : State} {l : List Byte} (hm : s.nor.mem = norPut 0x430000 l disorderedKeyed.nor.mem) :
    badSlots s ≠ 0 := by
  have hread := norRead_afterWrite hm
  have hempty : calEmpty s 0 = false := by
    rw [calEmpty, calAddr, hread 47 (by decide)]
    simp [otherDie_ne]
  have hslot : calSlot s 0 = none := by
    unfold calSlot
    simp only [calAddr, Nat.mul_zero, Nat.add_zero, hread 41419 (by decide)]
    exact if_pos (.inr (dieIdentity_afterWrite 41372))
  simp [badSlots, hempty, hslot]

theorem norSuits_suitingPart : norSuits (some suitingPart) = true := rfl

theorem suitingPart_counterOk : (some suitingPart).any (·.counterOk) = true := rfl

/-- What IMAGE_VERIFY leaves of it counts the slot. -/
theorem failedSlots_disordered : (verifyOnce (some suitingPart) (advance 0 disordered)).image.failedSlots ≠ 0 := by
  have hkey : (unwrapKey (advance 0 disordered).otp).isNone = false := by
    rw [advance_otp]
    exact Option.isNone_eq_false_iff.2 (Option.isSome_iff_ne_none.2 unwrapKey_disordered)
  have hfree : startSlot (resulted 1 disorderedKeyed) = 0 := by decide +kernel
  obtain ⟨l, hmem⟩ := startCounter_mem hfree (by decide)
  rw [Nat.mul_zero, Nat.add_zero, resulted_nor] at hmem
  rw [verifyOnce_unwrapped hkey norSuits_suitingPart, suitingPart_counterOk, ← disorderedKeyed,
    verifyImage_failedSlots imageResult_disordered]
  exact badSlots_afterWrite hmem

theorem watchSafety_image (f : State → State) (s : State) : (watchSafety f s).image = (f s).image := by
  obtain h | h := watchSafety_eq f s <;> simp [h]

/-- Refutes O50: the write of the start counter's record puts entries of the memory in order that were out of it, and
calibration slot 0, empty before, is counted as neither empty nor valid.  The statement does not ask that the memory is in
canonical form. -/
theorem not_imageVerification : ¬ Obligations.ImageVerification := by
  unfold Obligations.ImageVerification
  rintro ⟨hverify, -⟩
  obtain ⟨t, hexec, -, -, -, -, -, -, -, -, hfull⟩ := hverify 0 (some suitingPart) disordered rfl rfl
  obtain ⟨-, -, -, -, hslots, -⟩ := hfull unwrapKey_disordered rfl
  have ht : t = watchSafety (verifyOnce (some suitingPart)) (advance 0 disordered) := (Host.Outcome.next.inj hexec).symm
  refine failedSlots_disordered ?_
  rw [← watchSafety_image, ← ht, hslots]
  exact badSlots_disordered _

end Sys2Proof.Proofs
end
